-- ==== Sys2Proof/Word.lean ====
section
/-!
DEFINITION. Word.lean: the word types of the block and their plainest arithmetic.
Bit vectors hold what the spec treats as bits (host registers, queue words, frame bytes, keys, the
Clocktower count); counts, sizes and physical quantities are Nat or Int in the unit that the object's
row of the spec names.
-/
namespace Sys2Proof

/-- One byte. -/
abbrev Byte := BitVec 8
/-- A host register or queue word (R485, R499). -/
abbrev Word32 := BitVec 32
/-- The Clocktower counter (R379): one count per tick of 0.5 ns (R27). -/
abbrev Ticks := BitVec 64
/-- A dictionary abort code (R534). -/
abbrev Abort := Nat

end Sys2Proof
end

