-- ==== Sys2Proof/Types.lean ====
section
/-!
DEFINITION. Types.lean: the named alternatives and records that both the commands (Syntax) and the
state (Machine/State) speak of: modes, roles, dictionary sessions, causes, frames and image contents.
-/
namespace Sys2Proof

/-- The modes and transitional states of R40. -/
inductive Mode where
  | reset | boot | base | rover | relay | standby | snapshot | halt | service | holdup
  deriving DecidableEq, Repr

/-- The role of R1, R67: selected at BOOT from ROLE[1:0]. -/
inductive Role where
  | base | rover | relay
  deriving DecidableEq, Repr

/-- The access levels of R509, in rising order. -/
inductive AccessLevel where
  | operator | integrator | service
  deriving DecidableEq, Repr

/-- The sessions of R510: one requester on one transport. -/
inductive Sess where
  | host
  | can0
  | tcp (n : Fin 4)
  /-- with the level of the originating manager session -/
  | baseLink (origin : AccessLevel)
  /-- with the level of the originating base session -/
  | radio (origin : AccessLevel)
  deriving DecidableEq, Repr

/-- The two stop inputs of R76, R354. -/
inductive StopChannel where
  | a | b
  deriving DecidableEq, Repr

/-- The two paths on which a stop input is qualified (R354). -/
inductive StopPath where
  | ckRadio | ckIo
  deriving DecidableEq, Repr

/-- The two transceivers, antennas and amplifier enables: A and B. -/
inductive Side where
  | a | b
  deriving DecidableEq, Repr

/-- The eleven clock domains of R32, in the order of its table. -/
inductive ClockDomain where
  | core | rt | blv | gnss | radio | ts | ddr | eth | can | io | aon
  deriving DecidableEq, Repr

/-- The reasons for an entry to HALT (R43). -/
inductive HaltCause where
  | none | stopInput | stopFrame | lostBase | modeRequest | propagated | failover
  deriving DecidableEq, Repr

/-- The recorded event that ended a run (R103, R106). -/
inductive ResetSource where
  | powerOn | holdup | nrstIn | watchdog | resetRequest | clockFailure (d : ClockDomain)
  deriving DecidableEq, Repr

/-- The chain configuration objects of R247. -/
inductive ChainObject where
  | length | divider | readback | model
  deriving DecidableEq, Repr

/-- The fields of a section record that R227 checks, in the order of its table. -/
inductive SectionField where
  | enable | onDelay | offDelay | offsetX | offsetY | width | chainBit | activeLevel | product | loopGroup
  deriving DecidableEq, Repr

/-- The meter settings that wait for an interval start (R448). -/
inductive MeterField where
  | mode | debounce | kFactor | accumMode | dirPolarity | binding | intervalLength
  deriving DecidableEq, Repr

end Sys2Proof
end

