-- ==== Sys2Proof/Dictionary.lean ====
section
/-!
DEFINITION. Dictionary.lean: what the spec says an object of the Basmir dictionary is (R503 to R509,
R530 to R533): its address, type, access class, access level, default, range and flags.
-/
namespace Sys2Proof

/-- The data types of R506. -/
inductive ObjType where
  | bool | i8 | i16 | i32 | i64 | u8 | u16 | u32 | u64 | f32 | str | octets | domain | q16 | time64
  deriving DecidableEq, Repr

/-- The access classes of R508. -/
inductive AccessClass where
  | const | ro | rw | rws | wo
  deriving DecidableEq, Repr

/-- The range of an object (R507), as its row of an object table states it. A range that depends on
another object is judged by that object's own rule. -/
inductive ObjRange where
  | any
  | span (lo hi : Int)
  | oneOf (l : List Int)
  | spanOr (lo hi other : Int)
  | steps (lo hi step : Int)
  | zeroOrSteps (lo hi step : Int)
  deriving DecidableEq, Repr

/-- One object of the dictionary. -/
structure ObjDesc where
  idx : Nat
  sub : Nat
  ty : ObjType
  acc : AccessClass
  lvl : AccessLevel
  dflt : Int
  rng : ObjRange
  /-- bytes of a fixed-size type, the stated size of OCTETS, the maximum of STR and DOMAIN -/
  size : Nat
  /-- the roles in which it exists (R28, R505, R530): bit 0 base, bit 1 rover, bit 2 relay -/
  roles : Nat
  /-- marked next BOOT (R521) -/
  nextBoot : Bool
  /-- a cursor object: each session has its own value (R510) -/
  cursor : Bool
  /-- the sub-index of the cursor of the same or the named index that selects the instance; 0 none -/
  windowOf : Nat
  deriving DecidableEq, Repr

/-- The address of an object as one number: index × 256 + sub-index. -/
def ObjDesc.addr (o : ObjDesc) : Nat := o.idx * 256 + o.sub

end Sys2Proof
end

