-- ==== Sys2Proof/Machine/Geometry.lean ====
section
/-!
DEFINITION. Machine/Geometry.lean: exact plane geometry on integer coordinates, as the Kerb engine (R229,
R230, R232), the map engine (R263, R267) and the field check (R289) need it.
-/
namespace Sys2Proof

/-- A point of a local tangent plane: east and north. -/
structure Pt where
  e : Int
  n : Int
  deriving DecidableEq, Repr

end Sys2Proof

namespace Sys2Proof.Machine

/-- Twice the signed area of a triangle: positive where it turns left. -/
def cross (o p q : Pt) : Int := (p.e - o.e) * (q.n - o.n) - (p.n - o.n) * (q.e - o.e)

/-- The scalar product of p - o and q - o. -/
def dotAt (o p q : Pt) : Int := (p.e - o.e) * (q.e - o.e) + (p.n - o.n) * (q.n - o.n)

/-- The squared distance of two points. -/
def dist2 (p q : Pt) : Int := dotAt p q q

/-- A point on a closed segment. -/
def onSegment (a b p : Pt) : Bool := decide (cross a b p = 0) && decide (dotAt p a b ≤ 0)

/-- The squared distance of a point from a closed segment is at most r2: compared without division. -/
def pointNear (a b p : Pt) (r2 : Int) : Bool :=
  let l2 := dist2 a b
  let t := dotAt a b p
  if t ≤ 0 ∨ l2 = 0 then decide (dist2 a p ≤ r2)
  else if l2 ≤ t then decide (dist2 b p ≤ r2)
  else decide (cross a b p * cross a b p ≤ r2 * l2)

/-- The same with a strict bound. -/
def pointCloser (a b p : Pt) (r2 : Int) : Bool :=
  let l2 := dist2 a b
  let t := dotAt a b p
  if t ≤ 0 ∨ l2 = 0 then decide (dist2 a p < r2)
  else if l2 ≤ t then decide (dist2 b p < r2)
  else decide (cross a b p * cross a b p < r2 * l2)

/-- The segments cross in one inner point of both. -/
def properCross (a b c d : Pt) : Bool :=
  let s1 := cross a b c
  let s2 := cross a b d
  let s3 := cross c d a
  let s4 := cross c d b
  (decide (s1 < 0 ∧ 0 < s2) || decide (0 < s1 ∧ s2 < 0)) && (decide (s3 < 0 ∧ 0 < s4) || decide (0 < s3 ∧ s4 < 0))

/-- The closed segments share a point. -/
def segmentsMeet (a b c d : Pt) : Bool :=
  properCross a b c d || onSegment a b c || onSegment a b d || onSegment c d a || onSegment c d b

/-- Some point of the segment a b lies within distance r of the segment c d; r2 is r squared. -/
def segmentNear (a b c d : Pt) (r2 : Int) : Bool :=
  segmentsMeet a b c d || pointNear c d a r2 || pointNear c d b r2 || pointNear a b c r2 || pointNear a b d r2

/-- The edges of a closed polygon. -/
def edgesOf : List Pt → List (Pt × Pt)
  | [] => []
  | p :: t => (p :: t).zip (t ++ [p])

/-- An edge crosses the ray that goes east from p, by the half-open rule. -/
def rayCrosses (p : Pt) (x : Pt × Pt) : Bool :=
  if x.1.n ≤ p.n then decide (p.n < x.2.n) && decide (0 < cross x.1 x.2 p)
  else decide (x.2.n ≤ p.n) && decide (cross x.1 x.2 p < 0)

/-- A point on an edge of the polygon. -/
def onEdge (poly : List Pt) (p : Pt) : Bool := (edgesOf poly).any (fun x => onSegment x.1 x.2 p)

/-- A point inside the polygon by the crossing count; for points on an edge see onEdge. -/
def insideCount (poly : List Pt) (p : Pt) : Bool := ((edgesOf poly).countP (rayCrosses p)) % 2 == 1

/-- Strictly inside: on no edge. -/
def strictlyInside (poly : List Pt) (p : Pt) : Bool := !onEdge poly p && insideCount poly p

/-- The segment a b comes within distance r of an edge of the polygon. -/
def nearEdges (poly : List Pt) (a b : Pt) (r2 : Int) : Bool := (edgesOf poly).any (fun x => segmentNear a b x.1 x.2 r2)

/-- Every point of the segment lies inside the polygon at a distance greater than r from its edges (R232). -/
def deepInside (poly : List Pt) (a b : Pt) (r2 : Int) : Bool := strictlyInside poly a && !nearEdges poly a b r2

/-- Some point of the segment lies in the polygon or within distance r of it, edges included (R232). -/
def withinZone (poly : List Pt) (a b : Pt) (r2 : Int) : Bool := nearEdges poly a b r2 || insideCount poly a

/-- The least and the greatest of a list of numbers, from a first one on. -/
def spanOf (x : Int) (l : List Int) : Int × Int := l.foldl (fun s y => (min s.1 y, max s.2 y)) (x, x)

/-- Two open intervals overlap with positive length. -/
def overlaps (s t : Int × Int) : Bool := decide (s.1 < t.2 ∧ t.1 < s.2)

/-- Projections of corners on the normal of a b. -/
def project (a b : Pt) (l : List Pt) : List Int := l.map (fun p => cross a b p)

/-- The spans of two corner lists on the normal of a b overlap with positive length. -/
def overlapOn (a b : Pt) (l m : List Pt) : Bool :=
  match project a b l, project a b m with
  | x :: t, y :: u => overlaps (spanOf x t) (spanOf y u)
  | _, _ => false

/-- The corners of an axis-parallel square with the lower left corner at o. -/
def squareAt (o : Pt) (side : Int) : List Pt :=
  [o, { e := o.e + side, n := o.n }, { e := o.e + side, n := o.n + side }, { e := o.e, n := o.n + side }]

/-- A triangle and a square share a positive area (R267): by separating axes. A triangle of no area shares none. -/
def triangleMeets (p q r : Pt) (sq : List Pt) : Bool :=
  decide (cross p q r ≠ 0) && overlapOn p q [p, q, r] sq && overlapOn q r [p, q, r] sq && overlapOn r p [p, q, r] sq &&
    (match sq with
     | a :: b :: c :: _ => overlapOn a b sq [p, q, r] && overlapOn b c sq [p, q, r]
     | _ => false)

/-- The region of a swath segment (R267) shares a positive area with a square. -/
def swathMeets (l0 r0 l1 r1 : Pt) (sq : List Pt) : Bool := triangleMeets l0 r0 r1 sq || triangleMeets l0 r1 l1 sq

/-- A closed segment passes through the interior of a square. -/
def cutsSquare (a b : Pt) (o : Pt) (side : Int) : Bool :=
  let xs := spanOf a.e [b.e]
  let ns := spanOf a.n [b.n]
  let pr := project a b (squareAt o side)
  decide (xs.1 < o.e + side ∧ o.e < xs.2) && decide (ns.1 < o.n + side ∧ o.n < ns.2) &&
    pr.any (fun x => decide (x < 0)) && pr.any (fun x => decide (0 < x))

/-- A polygon and a square of even side share a positive area (R263). -/
def polygonMeetsSquare (poly : List Pt) (o : Pt) (side : Int) : Bool :=
  (edgesOf poly).any (fun x => cutsSquare x.1 x.2 o side) ||
    insideCount poly { e := o.e + side / 2, n := o.n + side / 2 }

/-- Pairs of a list, earlier element first. -/
def pairsOf {α : Type} : List α → List (α × α)
  | [] => []
  | x :: t => t.map (fun y => (x, y)) ++ pairsOf t

/-- A polygon is well-formed (R289): at least 3 vertices, no two consecutive equal ones, no crossing edges. -/
def polygonOk (poly : List Pt) : Bool :=
  decide (3 ≤ poly.length) && (edgesOf poly).all (fun x => decide (x.1 ≠ x.2)) &&
    (pairsOf (edgesOf poly)).all (fun p => !properCross p.1.1 p.1.2 p.2.1 p.2.2)

/-- A point as the plane gives it, moved by an offset. -/
def shiftPt (p : Pt) (e n : Int) : Pt := { e := p.e + e, n := p.n + n }

end Sys2Proof.Machine
end

