-- ==== Sys2Proof/Machine/Tab.lean ====
section
/-!
DEFINITION. Machine/Tab.lean: sparse data by number, the one form in which the state keeps every table
of like things (dictionary objects, slots, loops, sections, tiles). A table is a list of key and value
pairs in ONE canonical form: keys strictly rising, no entry equal to what an unlisted key reads as; so
equal contents are equal data. Every read and write of a table goes through get and put.
-/
namespace Sys2Proof.Machine

/-- A table of values of type α by number. -/
abbrev Tab (α : Type) := List (Nat × α)

/-- What a table holds at a key; an unlisted key reads as d. -/
def Tab.get {α : Type} (d : α) : Tab α → Nat → α
  | [], _ => d
  | (k', v) :: t, k => if k' = k then v else Tab.get d t k

/-- The table without any entry at the key. -/
def Tab.erase {α : Type} : Tab α → Nat → Tab α
  | [], _ => []
  | (k', v) :: t, k => if k' = k then Tab.erase t k else (k', v) :: Tab.erase t k

/-- The table with one more entry, put at its place in the rising order. -/
def Tab.insert {α : Type} : Tab α → Nat → α → Tab α
  | [], k, v => [(k, v)]
  | (k', v') :: t, k, v => if k < k' then (k, v) :: (k', v') :: t else (k', v') :: Tab.insert t k v

/-- Writes a value at a key; writing what an unlisted key reads as removes the entry. -/
def Tab.put {α : Type} [DecidableEq α] (d : α) (t : Tab α) (k : Nat) (v : α) : Tab α :=
  if v = d then t.erase k else (t.erase k).insert k v

/-- Every key of the table lies above b and the keys rise strictly. -/
def Tab.above {α : Type} (b : Nat) : Tab α → Bool
  | [] => true
  | (k, _) :: t => decide (b ≤ k) && Tab.above (k + 1) t

/-- The canonical form: keys strictly rising and no entry equal to d. -/
def Tab.wf {α : Type} [DecidableEq α] (d : α) (t : Tab α) : Bool :=
  Tab.above 0 t && t.all (fun e => decide (e.2 ≠ d))

/-- The keys of the table that hold something else than an unlisted key reads as. -/
def Tab.keys {α : Type} (t : Tab α) : List Nat := t.map (·.1)

/-- The values listed. -/
def Tab.values {α : Type} (t : Tab α) : List α := t.map (·.2)

/-- Changes the value at a key. -/
def Tab.update {α : Type} [DecidableEq α] (d : α) (t : Tab α) (k : Nat) (f : α → α) : Tab α :=
  t.put d k (f (t.get d k))

end Sys2Proof.Machine
end

