-- ==== Sys2Proof/Machine/StateClock.lean ====
section
/-!
DEFINITION. Machine/StateClock.lean: the Clocktower (R379 to R406) as plain data.
-/
namespace Sys2Proof.Machine

/-- TimeState (R389). -/
inductive TimeState where
  | unknown | gnss | ptp | beacon | holdover
  deriving DecidableEq, Repr

/-- A conversion set staged complete (R381): the new rate, and how OFFSET is formed at the boundary: as the
reported time under the old set (0), plus a step, or set directly to a time (R391). -/
structure StagedSet where
  /-- the count at which it was staged -/
  at_ : Nat
  rate : Int
  step : Int
  initial : Option Int
  deriving DecidableEq, Repr

/-- One armed compare (R383, R384): its user, its TIME64 target, and the 40-bit count once loaded. -/
structure Compare where
  user : Nat
  target : Int
  count : Option Nat
  deriving DecidableEq, Repr

/-- A step decided or announced (R397, R398): its instant S and the D of this and the following steps. -/
structure PendingStep where
  at_ : Int
  parts : List Int
  deriving DecidableEq, Repr

/-- One capture record (R403). -/
structure EvtRecord where
  tick : Nat
  time : Int
  input : Nat
  falling : Bool
  flags : Nat
  seq : Nat
  deriving DecidableEq, Repr

/-- A host copy under the backlog rule of R138: records that wait for their Alley queue, and the stopped flag. -/
structure HostCopy where
  backlog : List (List Byte)
  stopped : Bool
  deriving DecidableEq, Repr

/-- A source of time (R389), with the uncertainty it reports while in use. -/
structure QualifiedSource where
  src : TimeState
  uncertainty : Nat
  deriving DecidableEq, Repr

/-- The Clocktower. -/
structure ClockState where
  /-- C (R379) -/
  c : Ticks
  /-- the conversion set in force (R380) -/
  offset : Int
  ref : Ticks
  rate : Int
  staged : Option StagedSet
  /-- the set that was in force before REF, for ticks earlier than it (R380): offset, ref, rate -/
  prior : Option (Int × Ticks × Int)
  compares : List Compare
  /-- users whose compare has fired, newest first -/
  fired : List Nat
  state : TimeState
  valid : Bool
  slewing : Bool
  ahead : Bool
  backwardSet : Bool
  qualified : List QualifiedSource
  /-- the source's rate as learned, without slew offset (R391) -/
  learnedRate : Int
  /-- |e| of the newest measurement while slewing (R395) -/
  error : Int
  /-- the count of the newest clock solution (R389), and the whole second of the newest measurement (R393) -/
  solvedAt : Option Nat
  measured : Option Int
  /-- entry to HOLDOVER: the tick and u0 (R393) -/
  holdover : Option (Nat × Nat)
  pending : Option PendingStep
  /-- a step announced by the base (R398) -/
  announced : Option PendingStep
  ppsOut : Bool
  ppsFallDue : Option Nat
  ppsLastRise : Option Int
  ppsInDue : Option Nat
  /-- PPS_IN_PRESENT (R404) -/
  ppsInPresent : Bool
  /-- the five capture queues (R402), oldest first, and their counts -/
  queues : Tab (List EvtRecord)
  seqs : Tab Nat
  evtLost : Bool
  evtCopy : HostCopy
  deriving DecidableEq, Repr

end Sys2Proof.Machine
end

