-- ==== Sys2Proof/Records.lean ====
section
/-!
DEFINITION. Records.lean: the records that commands carry into the block: strap samples, images, frames,
measurements, tables.
-/
namespace Sys2Proof

/-- The level of each strap land at the three samples of R66, in mV. -/
structure StrapSamples where
  role0 : Nat × Nat × Nat
  role1 : Nat × Nat × Nat
  bootSel0 : Nat × Nat × Nat
  bootSel1 : Nat × Nat × Nat
  dbgEn : Nat × Nat × Nat
  deriving DecidableEq, Repr

/-- What the device finds at its lands and in its MRAM where RESET may end (R44, R66, R78, R79, R99): NRST_IN and PGOOD high at
their lands, the PLLs that are not locked, the lowest VSNS of the last 50 µs in mV, the straps, and the copies of save items that
fail their CRC: the item's number in R94 and the sequence number of the save or journal entry. -/
structure StartLands where
  nrstInHigh : Bool
  pgoodHigh : Bool
  unlocked : List ClockDomain
  vsnsLow : Nat
  straps : StrapSamples
  badCopies : List (Nat × Nat)
  deriving DecidableEq, Repr

/-- The time sources of R389. -/
inductive TimeSource where
  | gnss | ptp | beacon
  deriving DecidableEq, Repr

/-- A clock solution of the GNSS on ANT_A (R389): the count to which it belongs, the source's time there in ps as it is solved, with
AntennaCableDelay still in it, the satellites it rests on, whether the time of week is decoded, and the rate of the source, in the unit of RATE. -/
structure ClockSolution where
  tick : Nat
  time : Int
  sats : Nat
  decoded : Bool
  rate : Int
  deriving DecidableEq, Repr

/-- How the image fixes an Alley queue (R484). -/
structure QueueConfig where
  number : Nat
  toDevice : Bool
  lengthSlot : Bool
  hostOpen : Bool
  capacity : Nat
  deriving DecidableEq, Repr

/-- The output ports of R200 that a loop commits to. -/
inductive OutPort where
  | nco
  | axisVelocity (n : Fin 16)
  | axisPosition (n : Fin 16)
  | published
  deriving DecidableEq, Repr

/-- The input ports of R199 that an implement loop reads. -/
inductive InPort where
  | groundSpeed
  | yawRate
  | poseState
  | meterRate (input : Fin 8)
  | meterCount (input : Fin 8)
  | axisPosition (n : Fin 16)
  | axisVelocity (n : Fin 16)
  | setpoint
  | prescription
  deriving DecidableEq, Repr

/-- Where LOAD takes a word (R192): the loop's k-th input port, a word of its state, or its k-th coefficient entry for its region. -/
inductive BlvSource where
  | port (k : Nat)
  | state (k : Nat)
  | gain (k : Nat)
  deriving DecidableEq, Repr

/-- The two-operand operations of the ADD class (R192). -/
inductive BlvOp where
  | add | sub | and | or | xor
  deriving DecidableEq, Repr

/-- The instructions of a Boulevard program by the classes of R192; a false acc names the first accumulator of a lane. REPEAT and STAGE
act on the instructions that follow them. -/
inductive BlvInstr where
  | load (d : Fin 64) (src : BlvSource)
  | store (a : Fin 64) (word : Nat)
  | mul (acc : Bool) (a : Fin 64) (k : Nat)
  | mac (acc : Bool) (a : Fin 64) (k : Nat)
  | alu (op : BlvOp) (d a b : Fin 64)
  | neg (d a : Fin 64)
  | abs (d a : Fin 64)
  | accAdd (acc minus : Bool) (a : Fin 64)
  | shift (d a : Fin 64) (by_ : Int)
  | sat (d : Fin 64) (acc : Bool)
  | conv (d a : Fin 64) (float : Bool)
  | cmp (d a b : Fin 64)
  | select (d c a b : Fin 64)
  | cordic (op : Fin 3) (d a b : Fin 64)
  | div (d a b : Fin 64)
  | region
  | repeat_ (count block : Nat)
  | wait (k : Nat)
  | stage (eligible : Bool) (block : Nat)
  | out (error part : Fin 64)
  deriving DecidableEq, Repr

/-- An implement or tracking loop of a program module (R187, R207, R209, R213): its input ports, and which of them are its feedback and
its scheduling variable; its coefficient entries by region for Ki·T and Kb·T, for the gains that its code loads, and every entry it reads;
its region bounds, hysteresis and evaluation period; the ranges of its output port and of its setpoint. -/
structure LoopDesc where
  loop : Nat
  ports : List InPort
  feedback : Nat
  sched : Nat
  gains : List (List Nat)
  setMin : Int
  setMax : Int
  noisy : Bool
  integrating : Bool
  eligible : Bool
  ki : List Nat
  kb : List Nat
  coefs : List Nat
  bounds : List Int
  hysteresis : Int
  evalFrames : Nat
  port : OutPort
  portMin : Int
  portMax : Int
  /-- the product whose prescription the module declares (R256) -/
  product : Option Nat
  deriving DecidableEq, Repr

/-- A program module (R187 to R191): period in 100 µs, start offset and output phase in CK_BLV cycles, its instructions, its loops. -/
structure BlvProgram where
  number : Nat
  group : Nat
  period : Nat
  offset : Nat
  phase : Nat
  code : List BlvInstr
  loops : List LoopDesc
  deriving DecidableEq, Repr

/-- The Boulevard part of an image: programs, bytes of state memory used, coefficient entries of the image partition, and the loops'
OutMin and OutMax. -/
structure BlvImage where
  programs : List BlvProgram
  stateBytes : Nat
  coefs : List (Nat × Nat)
  limits : List (Nat × Int × Int)
  deriving DecidableEq, Repr

/-- What BOOT_COMPLETE finds outside the block: the contents of the image that BOOT loads. -/
structure BootStart where
  queues : List QueueConfig
  blv : BlvImage
  /-- values that the image sets: defaults "From image" and "Fixed by image", by place in the dictionary (R508) -/
  values : List (Nat × Int)
  strings : List (Nat × List Byte)
  /-- stored entries whose format version differs from the image's, and those whose object the image lacks (R578) -/
  changed : List Nat
  lacking : List Nat
  deriving DecidableEq, Repr

/-- A timing mode of the NAND port (R541, R614). -/
inductive NandMode where
  | sdr (n : Nat)
  | nvDdr2 (n : Nat)
  deriving DecidableEq, Repr

/-- What the parameter page of a target of the NAND says (R541): bits per cell, page in KiB, spare bytes per KiB of page, rated cycles;
blocks, KiB in each, blocks bad from the factory; the timing modes that it offers, a bit each. -/
structure NandInfo where
  cellBits : Nat
  pageKiB : Nat
  spare : Nat
  endurance : Nat
  blocks : Nat
  blockKiB : Nat
  bad : Nat
  sdrModes : Nat
  ddrModes : Nat
  deriving DecidableEq, Repr

/-! ### GNSS -/

/-- A search request of the acquisition engine (R127 to R130). An aided one names its window: the code phase of its first code bin in
1/256 chip, the Doppler of its middle bin in mHz, and its numbers of bins. -/
structure AcqRequest where
  signal : Nat
  svid : Nat
  ant : Side
  aided : Bool
  /-- the channel lost lock within the last second (first class of R130) -/
  relock : Bool
  snapshot : Bool
  codeFrom : Nat
  dopplerMid : Int
  codeBins : Nat
  dopplerBins : Nat
  deriving DecidableEq, Repr

/-- The best cell of an acquisition pass (R131, R132): metrics in Q16.16 of the noise power of a coherent sum. -/
structure AcqPeak where
  code : Nat
  doppler : Int
  peak : Nat
  second : Nat
  deriving DecidableEq, Repr

/-- A satellite in view (R120): its number, elevation in 0.01°, and the SignalIds it sends. -/
structure SatView where
  svid : Nat
  elevation : Int
  signals : List Nat
  deriving DecidableEq, Repr

/-- Where a navigation delivery unit ends in the symbols of a channel (R134, R135): which kind of unit of its message, whether it is the
first word of a D1 or D2 subframe, and the polarity that the preamble or the parity shows there: some true, inverted. -/
structure NavUnit where
  channel : Nat
  part : Nat
  firstWord : Bool
  polarity : Option Bool
  deriving DecidableEq, Repr

/-- The estimate of the fusion filter at a pose instant (R180, R181), whose arithmetic the spec leaves open. -/
structure PoseEstimate where
  lat : Int
  lon : Int
  height : Int
  velN : Int
  velE : Int
  velU : Int
  heading : Nat
  pitch : Int
  roll : Int
  yawRate : Int
  hSigma : Nat
  vSigma : Nat
  hdgSigma : Nat
  deriving DecidableEq, Repr

/-- The result of deferred snapshot processing (R143). -/
structure SnapshotFix where
  ephemerisValid : Bool
  satellites : Nat
  est : PoseEstimate
  deriving DecidableEq, Repr

/-! ### Positioning -/

/-- A solution of the RTK task (R169 to R171). -/
structure RtkSolution where
  matched : Bool
  epoch : Int
  /-- the newest base epoch used; none without corrections -/
  baseEpoch : Option Int
  /-- ambiguities are estimated (else a code solution) -/
  carrier : Bool
  /-- the components, SignalId and satellite, whose ambiguities the solver would fix to integers -/
  fixed : List (Nat × Nat)
  /-- ratio of the second-best to the best residual sum, Q16.16 -/
  ratio : Int
  /-- satellites whose carrier phase continued since the ambiguities were kept -/
  continuous : Nat
  nsat : Nat
  deriving DecidableEq, Repr

/-- A solution of the antenna baseline (R174, R175): its epoch, the components whose ambiguities the solver would fix, and the vector
from ANT_A to ANT_B in mm. -/
structure HeadingSolution where
  epoch : Int
  fixed : List (Nat × Nat)
  ratio : Int
  east : Int
  north : Int
  up : Int
  deriving DecidableEq, Repr

/-! ### PTP -/

/-- The PTP messages that the device sends. -/
inductive PtpKind where
  | sync | announce | delayRequest | pdelayRequest
  deriving DecidableEq, Repr

/-- What a received PTP message tells a port (R421 to R423): the portState that the best master clock algorithm leaves it in,
or a Sync with its offsetFromMaster in ns and the master's rate in the unit of RATE. -/
inductive PtpMessage where
  | announce (portState : Nat)
  /-- a Sync with its Follow_Up: the origin time with all corrections, and the count at its arrival -/
  | sync (origin : Int) (tick : Nat)
  /-- the answer to a delay request: the count at which that left, and its arrival by the master's time -/
  | delayResponse (left : Nat) (received : Int)
  /-- the answer to a peer-delay request: the counts at which that left and the answer came, and the responder's two times -/
  | pdelayResponse (left came : Nat) (received returned : Int)
  | other
  deriving DecidableEq, Repr

/-- A CAN frame. -/
structure CanFrame where
  id : Nat
  ext : Bool
  data : List Byte
  deriving DecidableEq, Repr

/-! ### Fleet -/

/-- A record of R337: its type code and its data. -/
structure AirRecord where
  code : Nat
  data : List Byte
  deriving DecidableEq, Repr

/-- The envelope of a base-link frame (R309, R569): the peer's base index, its link epoch and sequence, and whether the tag
verifies. -/
structure LinkHead where
  peer : Nat
  epoch : Nat
  seq : Nat
  tagOk : Bool
  deriving DecidableEq, Repr

/-- How a record arrives: in the frames of one record over the radio, or over the base link, forwarded by a worker with the
machine's fleet number; an activation record from a base comes with that base's index. -/
inductive Uplink where
  | radio (frames : List (List Byte))
  | link (head : LinkHead) (machine : Nat) (data : List Byte)
  deriving DecidableEq, Repr

/-- What bases of one hierarchy send each other (R286, R309, R311, R331): one constructor per kind of traffic. -/
inductive LinkMsg where
  /-- with the base index where the stop began -/
  | stop (origin : Nat)
  | stopRequest
  | release
  /-- with the halt state, and the slots whose reports were accepted since the last -/
  | heartbeat (halted : Bool) (reports : List Nat)
  | claim (machine : Nat) (data : List Byte)
  /-- a record for one of the worker's machines -/
  | record (slot : Nat) (rec : AirRecord)
  | segment (slot : Nat) (rec : List Byte)
  | segmentAck (slot seq : Nat)
  | painted (mseq machine : Nat) (rec : List Byte)
  | trackDone (machine track : Nat)
  | taskRelease (machine task : Nat)
  /-- a copy of a field, track or task record: the load object and its bytes -/
  | copy (object : Nat) (data : List Byte)
  /-- whether a machine of the worker holds a reservation -/
  | reservation (machine : Nat) (held : Bool)
  /-- a request with the level of its session, and its answer (R524) -/
  | dictRequest (level : AccessLevel) (data : List Byte)
  | dictResponse (data : List Byte)
  | activation (data : List Byte)
  deriving DecidableEq, Repr

end Sys2Proof
end

