-- ==== Sys2Proof/Machine/StateGnss.lean ====
section
/-!
DEFINITION. Machine/StateGnss.lean: the GNSS baseband (R109 to R146) and tracking, observables, RTK,
heading, IMU and pose (R147 to R183) as plain data.
-/
namespace Sys2Proof.Machine

/-- The state of an antenna bias (R112, R115). -/
inductive BiasState where
  | off | normal | open_ | short
  deriving DecidableEq, Repr

/-- The bias supply of one antenna. -/
structure Bias where
  state : BiasState
  retryDue : Option Nat
  deriving DecidableEq, Repr

/-- A channel (R119 to R126) with its tracking loop (R147 to R159). Phases accumulate in 2^-48 cycles and chips. -/
structure Channel where
  en : Bool
  slave : Bool
  master : Nat
  ant : Side
  signal : Nat
  svid : Nat
  tapOfs : Nat
  freq : Int
  rate : Nat
  newFreq : Option Int
  newRate : Option Nat
  newSlew : Option Int
  carrier : Int
  code : Nat
  /-- code epochs since the channel started -/
  epochs : Nat
  /-- the phases at the start of the newest epoch, and the tick at which it ended -/
  carrierWas : Int
  codeWas : Nat
  endedAt : Option Nat
  /-- carrier phase less that of the nominal carrier since the channel started, 2^-48 cycles (R158) -/
  drift : Int
  /-- granted rank, 1 to 3; 0 none (R120) -/
  rank : Nat
  /-- the code epoch, modulo those of a data bit, on which the bit edge falls: BIT_SYNC; and the search for it (R134) -/
  edge : Option Nat
  edgeHist : Tab Nat
  signs : List Bool
  /-- P of the bit in progress, and TIME64 of its leading edge -/
  bitSum : Int
  bitTime : Int
  /-- symbols of the delivery unit in progress, oldest first, the time of its first, and its first code epoch -/
  symbols : List Bool
  unitTime : Int
  unitEpoch : Nat
  unitResolved : Bool
  /-- D29 and D30 of the preceding word -/
  lastWord : Bool × Bool
  /-- the TAI time in ns at which the signal of a code epoch was sent, and that epoch (R158) -/
  sent : Option (Int × Nat)
  /-- the integer of the carrier-phase observable, 2^-16 cycles (R158) -/
  phaseBase : Option Int
  /-- the newest dump's TAG and taps -/
  lastTag : Nat
  lastTaps : List Int
  satRun : Nat
  sameRun : Nat
  /-- dump prompts of the coherent sum in progress, and its dumps -/
  sumI : Int
  sumQ : Int
  sumDumps : Nat
  sumE : Int × Int
  sumL : Int × Int
  /-- the integrators of the carrier loop, and the region whose gains it ran with last -/
  loop : Int × Int
  gainsAt : Nat
  /-- coherent sums of the last 100 ms, newest first: dumps, I, Q -/
  sums : List (Nat × Int × Int)
  /-- noise taps of the last 100 ms -/
  noise : List (Int × Int)
  /-- VE, P and VL power since the last side-peak test, and its dumps -/
  powVE : Nat
  powP : Nat
  powVL : Nat
  powDumps : Nat
  region : Nat
  cn0 : Int
  phaseLock : Bool
  /-- the tick since which carrier-phase continuity holds; none: lock time is zero -/
  lockFrom : Option Nat
  lockBroken : Bool
  coastFrom : Option Nat
  resolved : Bool
  inverted : Bool
  deriving DecidableEq, Repr

/-- A dump record in the queue to Boulevard (R37, R122). -/
structure Dump where
  channel : Nat
  ant : Side
  signal : Nat
  tag : Nat
  /-- CARR_PHASE in 2^-32 cycles, CODE_PHASE in 2^-32 chips, the code epoch count modulo 256 -/
  carr : Int
  code : Nat
  epochs : Nat
  taps : List Int
  sat : Bool
  bitSync : Bool
  bitEdge : Bool
  deriving DecidableEq, Repr

/-- A search that was taken in (R127, R128): its rectangle, T_coh in ms, K, and the exponent of its false alarms. -/
structure Search where
  req : AcqRequest
  codeBins : Nat
  dopplerBins : Nat
  passes : Nat
  tcoh : Nat
  k : Nat
  alarm : Nat
  /-- passes done, the metrics of their cells, Q16.16, in order of increasing Doppler, and the noise mean of each pass -/
  pass : Nat
  cells : List Nat
  noise : List Nat
  /-- the best cell, once every pass is done -/
  best : AcqPeak
  verifying : Bool
  deriving DecidableEq, Repr

/-- A capture slot (R141, R142): the chains of one capture carry the tick of its first sample. -/
structure Capture where
  tick : Nat
  chain : Nat
  record : List Byte
  timeUnc : Nat
  forExport : Bool
  processing : Bool
  deriving DecidableEq, Repr

/-- A running capture (R139). -/
structure CaptureRun where
  chains : Nat
  length : Nat
  mode : Nat
  time : Int
  tick : Nat
  deriving DecidableEq, Repr

/-- Snapshot capture (R139 to R146). -/
structure SnapshotState where
  run : Option CaptureRun
  slots : List Capture
  refused : Bool
  fixValid : Bool
  timeUncertain : Bool
  ephemerisOld : Bool
  /-- the tick of the entry to SNAPSHOT, and the next interval start, a count -/
  enteredAt : Option Nat
  intervalDue : Option Nat
  /-- the 1 ms of a wake that is already past (R145), a count -/
  wakeDue : Option Nat
  deriving DecidableEq, Repr

/-- The GNSS baseband. -/
structure GnssState where
  biasA : Bias
  biasB : Bias
  /-- chains whose gain control is at an end of its range, chains powered: bit 0 A upper … bit 3 B lower -/
  agcLimit : Nat
  chainsOn : Nat
  /-- SignalEnable that the next tracking frame takes over (R118) -/
  enable : Nat
  channels : Tab Channel
  dumps : List Dump
  queue : List Search
  search : Option Search
  /-- tracking frames run, modulo the 20 ms evaluation -/
  frames : Nat
  /-- the whole millisecond of receiver time whose tracking frame ran last -/
  frameMs : Option Int
  /-- what the open frames of tracking groups will commit (R200), by channel -/
  staged : List (Nat × Channel)
  /-- tracking groups that Boulevard has suspended (R156) -/
  suspended : List Nat
  /-- the almanac digest, and the last position that a save kept (R94, item 10) -/
  almanac : Nat
  lastFix : Option (Int × Int × Int)
  /-- the navigation record that the firmware's Alley queue took last (R138) -/
  navRecord : List Byte
  navCopy : HostCopy
  snapshot : SnapshotState
  deriving DecidableEq, Repr

/-- A solution delivered to the fusion thread (R180). -/
structure Delivered where
  heading : Bool
  epoch : Int
  state : Nat
  nsat : Nat
  ntrip : Bool
  deriving DecidableEq, Repr

/-- A pose record (R181). -/
structure Pose where
  time : Int
  est : PoseEstimate
  state : Nat
  hdgState : Nat
  corrAge : Nat
  nsat : Nat
  flags : Nat
  seq : Nat
  deriving DecidableEq, Repr

/-- The observables of one channel at an epoch (R158 to R160): phase in 2^-16 cycles, with half a cycle added where halfAdded. -/
structure ObsEntry where
  channel : Nat
  signal : Nat
  svid : Nat
  ant : Side
  region : Nat
  pr : Nat
  phase : Int
  doppler : Int
  cn0 : Int
  phaseOk : Bool
  halfUnresolved : Bool
  halfAdded : Bool
  broken : Bool
  slave : Bool
  phaseLock : Bool
  lockMs : Nat
  deriving DecidableEq, Repr

/-- Reference-station side (R163 to R166). -/
structure BaseRefState where
  inForce : Bool
  surveying : Bool
  restarted : Bool
  surveyFrom : Nat
  mismatch : Bool
  bad : Nat
  good : Nat
  /-- per wire port: the messages of the newest epoch; the epoch, and the tick at which they were queued -/
  unsent : Tab (List (List Byte))
  rtcmEpoch : Option Int
  queuedAt : Nat
  tcpClients : Nat
  stationAt : Option Nat
  copy : HostCopy
  deriving DecidableEq, Repr

/-- Rover positioning (R167 to R183). -/
structure PoseState where
  ntripInUse : Bool
  /-- the newest epoch of the radio's correction stream (R167) -/
  radioEpoch : Option Int
  /-- the next solution passes through FLOAT (R167) -/
  throughFloat : Bool
  ambiguities : Bool
  holdDue : Option Nat
  matchedState : Nat
  aligned1230 : Bool
  ntripConnected : Bool
  ntripWait : Nat
  ntripDue : Option Nat
  ggaDue : Option Nat
  ggaSent : Nat
  /-- the request that opened the connection, and the newest GGA sentence (R168) -/
  ntripRequest : List Byte
  gga : List Byte
  headingState : Nat
  headingFixedAt : Option Nat
  heldHeading : Nat
  heldPitch : Int
  imuFailRun : Nat
  imuCutRun : Nat
  imuSameRun : Nat
  imuAxes : List Int
  imuFault : Bool
  imuGoodFrom : Option Nat
  imuReadDue : Option Nat
  imuSync : Nat
  /-- TIME64 of the newest IMU_SYNC edge (R177), and the transfer made for it: SPI mode, MHz, command bytes (R178) -/
  imuEdge : Option Int
  /-- the count of that edge (R385) -/
  imuAt : Option Nat
  imuTransfer : Nat × Nat × List Byte
  /-- samples since the last pose: time tag, and the axes in Q16.16 mdeg/s and mg -/
  imuSamples : List (Int × List Int)
  delivered : List Delivered
  appliedAt : Option Int
  appliedState : Nat
  appliedNsat : Nat
  appliedNtrip : Bool
  pose : Option Pose
  seq : Nat
  /-- the estimate with which the newest solution was applied, and its pose instant (R179) -/
  anchor : Option (Int × PoseEstimate)
  deriving DecidableEq, Repr

/-- Observables and what both roles share. -/
structure ObsState where
  copy : HostCopy
  leap : Option Nat
  /-- the newest observable epoch, its tick, its clock residual in ps, and its entries -/
  epoch : Option Int
  tick : Nat
  residual : Int
  entries : List ObsEntry
  deriving DecidableEq, Repr

end Sys2Proof.Machine
end

