-- ==== Sys2Proof/Machine/StateField.lean ====
section
/-!
DEFINITION. Machine/StateField.lean: Boulevard (R184 to R224), the Kerb engine and the section chain (R225
to R257), and the coverage maps (R259 to R284) as plain data.
-/
namespace Sys2Proof.Machine

/-! ### Boulevard -/

/-- The states of a loop group (R219). -/
inductive GroupState where
  | disabled | starting | running | stopping | suspended
  deriving DecidableEq, Repr

/-- A group command that waits for the next frame start (R220). -/
inductive GroupOrder where
  | start | stop | cancelStop | resume
  deriving DecidableEq, Repr

/-- A loop group. -/
structure Group where
  state : GroupState
  order : Option GroupOrder
  overruns : Nat
  cause : Nat
  /-- frames of the STOPPING ramp that are done -/
  ramp : Nat
  deriving DecidableEq, Repr

/-- A lane (R184): 64 registers, each a block-floating tag and 32 bits, and two 72-bit accumulators. -/
structure Lane where
  regs : Tab (Bool × BitVec 32)
  acc0 : BitVec 72
  acc1 : BitVec 72
  deriving DecidableEq, Repr

/-- A loop (R207 to R215). Values are Q16.16. -/
structure Loop where
  /-- the words of state memory that the loop's program stores -/
  words : Tab (Bool × BitVec 32)
  /-- saturations of stages that are not fallback-eligible (R198) -/
  saturations : Nat
  stale : Bool
  frozen : Bool
  modeHold : Bool
  outSat : Bool
  fallback : Bool
  bfpClamp : Bool
  region : Nat
  integ : Int
  out : Int
  /-- the output from which a STOPPING ramp starts -/
  rampFrom : Int
  lastSample : Option Int
  lastTag : Int
  same : Nat
  evalCount : Nat
  /-- the next frame re-initialises the integrator (R211) -/
  reinit : Bool
  /-- the next frame is the first of STARTING -/
  first : Bool
  deriving DecidableEq, Repr

/-- What a frame has staged for one loop (R200). -/
structure Staged where
  loop : Nat
  value : Loop
  fellBack : Bool
  saturated : Bool
  deriving DecidableEq, Repr

/-- A frame between its start and its output phase. -/
structure Frame where
  program : Nat
  start : Int
  wait : Nat
  staged : List Staged
  deriving DecidableEq, Repr

/-- Boulevard. Coefficient entries hold COEF, SHIFT and PART as R202 packs them. -/
structure BlvState where
  /-- the programs in the instruction memory (R185) -/
  programs : List BlvProgram
  /-- the sixteen lanes (R184) -/
  lanes : Tab Lane
  /-- the input staging memory (R185): by loop, the samples of its ports with their tags (R199) -/
  staging : Tab (List (Int × Int))
  /-- the frame that each program started last, by its number -/
  started : Tab (Option Int)
  /-- the end of the last scrub (R185) -/
  scrubbedAt : Option Nat
  groups : Tab Group
  loops : Tab Loop
  frames : List Frame
  bankA : Tab Nat
  bankB : Tab Nat
  activeB : Bool
  /-- TIME64 of a swap that waits -/
  swapAt : Option Int
  /-- the newest command committed to a Tram axis: velocity or position, and its value -/
  axisCommands : Tab (Option (Bool × Int))
  /-- the integrator partition in the record store (R205) -/
  storedPart : Tab Nat
  deriving DecidableEq, Repr

/-! ### Kerb engine and section chain -/

/-- Section states (R252). -/
inductive SecState where
  | off | arming | on | closing | fault
  deriving DecidableEq, Repr

/-- The running state of a section. -/
structure Section where
  state : SecState
  /-- the chain bit captured last means ON -/
  captured : Bool
  /-- a switch in the schedule: ON or OFF, and its slot -/
  plan : Option (Bool × Nat)
  /-- a switch issued and not yet captured -/
  issued : Option (Bool × Nat)
  /-- TIME64 at which the delay of the last switch ends -/
  due : Option Int
  /-- the applied interval that is open: its start, and its end once the OFF switched (R244) -/
  from_ : Option Int
  till : Option Int
  deriving DecidableEq, Repr

/-- A switch entry of the CK_IO queue (R242): slot modulo 2^16, block, and the values of the sections that change. -/
structure SwitchEntry where
  slot : Nat
  block : Nat
  values : List (Nat × Bool)
  deriving DecidableEq, Repr

/-- The section output chain (R245 to R251). Images are masks by chain bit. -/
structure Chain where
  running : Bool
  oe : Bool
  fault : Bool
  captures : Nat
  image : Nat
  allOff : Bool
  shifted : Nat
  shiftedOff : Bool
  /-- slot in which SEC_OE_N was asserted -/
  oeSlot : Nat
  /-- the slot captured last -/
  doneSlot : Option Nat
  queue : List SwitchEntry
  deriving DecidableEq, Repr

/-- A footprint applied (R236): the two edges and the time of the later one. -/
structure MaskPiece where
  l0 : Pt
  r0 : Pt
  l1 : Pt
  r1 : Pt
  time : Int
  deriving DecidableEq, Repr

/-- A finished applied interval of a section (R244). -/
structure AppliedSpan where
  sec : Nat
  start : Int
  stop : Int
  deriving DecidableEq, Repr

/-- The Kerb engine. -/
structure KerbState where
  sections : Tab Section
  chain : Chain
  spans : List AppliedSpan
  mask : List MaskPiece
  /-- the pose in use: the newest with a correct CRC (R235) -/
  pose : Option Pose
  /-- implement heading of a trailed implement, µdeg; none until it is set to the pose's heading (R239) -/
  phi : Option Int
  poseInvalid : Bool
  sigmaLimit : Bool
  slow : Bool
  tileMiss : Bool
  late : Bool
  noLayer : Bool
  deriving DecidableEq, Repr

/-! ### Coverage -/

/-- A tile: VERSION and the cells that are not 0, at layer × 4096 + 64 v + u. -/
structure Tile where
  version : Nat
  cells : Tab Nat
  deriving DecidableEq, Repr

/-- A swath segment (R266). -/
structure Segment where
  slot : Nat
  product : Nat
  runStart : Bool
  runEnd : Bool
  seq : Nat
  run : Nat
  map : Nat
  left : Pt
  right : Pt
  tEnd : Nat
  deriving DecidableEq, Repr

/-- An open run (R266, R268): the previous edge, and the edge before that. -/
structure OpenRun where
  slot : Nat
  run : Nat
  left : Pt
  right : Pt
  before : Option (Pt × Pt)
  deriving DecidableEq, Repr

/-- A coverage map. Tiles are keyed by (TX + 32768) × 65536 + TY + 32768. -/
structure CoverMap where
  id : Nat
  cell : Nat
  layers : Nat
  tiles : Tab (Option Tile)
  /-- SEQ of each machine's newest segment painted into the map (OWN_SEQ) -/
  ownSeq : Tab (Option Nat)
  /-- tiles painted since the last mark -/
  dirty : List Nat
  /-- tiles whose image on NAND is damaged and wait to be rebuilt -/
  damaged : List Nat
  restoredOld : Nat
  deriving DecidableEq, Repr

/-- An accepted segment with its map sequence number. -/
structure LoggedSegment where
  mseq : Nat
  /-- fleet machine number -/
  machine : Nat
  seg : Segment
  deriving DecidableEq, Repr

/-- A checkpoint in progress (R280). -/
structure Checkpoint where
  mark : Nat
  /-- the maps as they stood at the mark -/
  maps : Tab (Option CoverMap)
  /-- the open-run table at the mark, from which the segments after it go on -/
  runs : List OpenRun
  /-- tiles that wait to be written, by map slot -/
  waiting : List (Nat × Nat)
  /-- bytes of the copy buffer in use -/
  copied : Nat
  deriving DecidableEq, Repr

/-- The newest completed checkpoint on NAND (R282). -/
structure Checkpointed where
  mark : Nat
  maps : Tab (Option CoverMap)
  runs : List OpenRun
  deriving DecidableEq, Repr

/-- The coverage engine of a base. -/
structure CoverState where
  maps : Tab (Option CoverMap)
  expected : Tab (Option Nat)
  /-- last SEQ accepted and last SEQ painted of a slot (ACC and PAINT of the beacon's acknowledgement) -/
  acc : Tab (Option Nat)
  painted : Tab (Option Nat)
  runs : List OpenRun
  /-- accepted segments after the newest completed mark; those past MapSeqPainted wait for painting -/
  log : List LoggedSegment
  check : Option Checkpoint
  checkpointAt : Nat
  saved : Option Checkpointed
  restoring : Bool
  /-- MapSeqAccepted when the restore began: the segments up to it are replayed (R282) -/
  replayTo : Nat
  cowWait : Bool
  mapSpace : Bool
  rejected : Bool
  /-- worker: segments forwarded to the manager, in order -/
  forwarded : List Segment
  /-- tiles that wait for each rover: slot, map slot, tile key -/
  sends : List (Nat × Nat × Nat)
  /-- corners of tiles sent, newest last: slot, transfer record -/
  sent : List (Nat × List Byte)
  deriving DecidableEq, Repr

/-- A run of a rover (R265). -/
structure RoverRun where
  run : Nat
  product : Nat
  first : Nat
  last : Nat
  left : Pt
  right : Pt
  before : Option (Pt × Pt)
  heading : Int
  deriving DecidableEq, Repr

/-- The coverage side of a rover. -/
structure CacheState where
  tiles : Tab (Option Tile)
  /-- tiles requested and not yet received -/
  requested : List Nat
  nextRun : Nat
  runs : List RoverRun
  /-- reported and not yet acknowledged as painted; the first 2,048 are the window -/
  pending : List Segment
  /-- of the newest segment of a run that has left the pending list: its edge, and the one before it -/
  edges : Tab (Option ((Pt × Pt) × Option (Pt × Pt)))
  lastClose : Int
  deriving DecidableEq, Repr

end Sys2Proof.Machine
end

