-- ==== Sys2Proof/Machine/StateFleet.lean ====
section
/-!
DEFINITION. Machine/StateFleet.lean: fields, tracks, tasks, claims, separation and the base link (R285 to
R312) as plain data.
-/
namespace Sys2Proof.Machine

/-- A field record (R288) with its bytes. -/
structure FieldRec where
  id : Nat
  cell : Nat
  layers : Nat
  serving : Nat
  lat : Int
  lon : Int
  height : Int
  polys : List (List Pt)
  raw : List Byte
  deriving DecidableEq, Repr

/-- Track states (R293). -/
inductive TrackState where
  | free | reserved | done
  deriving DecidableEq, Repr

/-- A track (R291, R293). -/
structure Track where
  work : Bool
  products : Nat
  width : Nat
  verts : List Pt
  state : TrackState
  holder : Nat
  progress : Nat
  deriving DecidableEq, Repr

/-- Task states (R295). -/
inductive TaskState where
  | unassigned | offered | claimed | active | suspended | done | cancelled
  deriving DecidableEq, Repr

/-- A task (R294, R295) with the lease of its holder's reservations (R300). -/
structure FleetTask where
  id : Nat
  field : Nat
  priority : Nat
  caps : Nat
  rates : List Int
  ranges : List (Nat × Nat)
  state : TaskState
  /-- the state before the offer -/
  prior : TaskState
  holder : Option Nat
  offerDue : Option Nat
  leaseEnd : Option Nat
  deriving DecidableEq, Repr

/-- A claim in the queue (R296, R298): fleet machine number, task, tracks; none stands for count 0. -/
structure Claim where
  machine : Nat
  task : Nat
  tracks : Option (List Nat)
  /-- the tick of its arrival -/
  at_ : Nat
  deriving DecidableEq, Repr

/-- The newest uplink report of a machine (R305): mm, mm/s, 360/2^16 °, mm. -/
structure Report where
  pos : Pt
  velE : Int
  velN : Int
  heading : Nat
  hSigma : Nat
  time : Int
  deriving DecidableEq, Repr

/-- What a base knows of a machine. -/
structure FleetMachine where
  report : Option Report
  envelope : List Byte
  caps : Nat
  /-- the last separation alert sent -/
  alert : Nat
  deriving DecidableEq, Repr

/-- A task on a rover (R299). -/
structure RoverTask where
  id : Nat
  field : FieldRec
  rates : List Int
  tracks : List (Nat × Track)
  deriving DecidableEq, Repr

/-- A task load that is still incomplete (R337). -/
structure PartialTask where
  task : RoverTask
  wanted : Nat
  deriving DecidableEq, Repr

/-- The fleet. -/
structure FleetState where
  /-- by map slot -/
  fields : Tab (Option FieldRec)
  /-- by field × 65,536 + track -/
  tracks : Tab (Option Track)
  tasks : List FleetTask
  /-- claims in order of arrival; the first 1,024 stand in the manager's queue, the rest are held back before it (R298) -/
  claims : List Claim
  machines : Tab FleetMachine
  pairs : Tab Nat
  /-- bases linked, bit n base n -/
  linked : Nat
  managerLost : Bool
  /-- bases in HALT by their newest halt state, bit n base n -/
  halted : Nat
  /-- worker: slots whose reports were accepted since the last heartbeat, and what waits for the manager's link to return -/
  reports : List Nat
  linkHeld : List LinkMsg
  /-- the newest instant whose separation check was made -/
  checkedAt : Option Int
  /-- tick at which each base was heard last -/
  heard : Tab (Option Nat)
  heartbeatDue : Nat
  linkSeq : Nat
  linkOut : List (Nat × LinkMsg)
  /-- worker: its machines that hold reservations at the manager -/
  reserved : List Nat
  /-- rover -/
  task : Option RoverTask
  loading : Option PartialTask
  /-- the newest claim made (R299) -/
  claim : List Byte
  deriving DecidableEq, Repr

end Sys2Proof.Machine
end

