-- ==== Sys2Proof/Machine/StateHost.lean ====
section
/-!
DEFINITION. Machine/StateHost.lean: the Roundabout (R477 to R483), the Alley queues (R484 to R490), the
host port (R491 to R502) and the dictionary sessions (R510 to R529) as plain data.
-/
namespace Sys2Proof.Machine

/-- An incomplete task of the matching store (R479). -/
structure MatchEntry where
  flow : Nat
  epoch : Nat
  need : Nat
  slots : Tab (Option Nat)
  expires : Nat
  deriving DecidableEq, Repr

/-- An operand held back at its producer (R480). -/
structure HeldOperand where
  flow : Nat
  epoch : Nat
  slot : Nat
  value : Nat
  need : Nat
  hold : Nat
  deriving DecidableEq, Repr

/-- The Roundabout: thread contexts by level and flow, the threads on the two real-time cores, and the matching store. -/
structure RoundaboutState where
  /-- ready tasks per level, first in first out: flow and epoch -/
  ready : Tab (List (Nat × Nat))
  /-- the items in service on the real-time cores: level, flow, epoch -/
  running : List (Nat × Nat × Nat)
  store : List MatchEntry
  held : List HeldOperand
  deriving DecidableEq, Repr

/-- A queue word (R485). -/
structure QueueWord where
  data : Word32
  parity : BitVec 4
  e : Bool
  p : Bool
  deriving DecidableEq, Repr

/-- An Alley queue (R484 to R490). words holds what a consumer may read, oldest first; in a LENGTH-SLOT
queue each packet begins with its slot word. -/
structure QueueState where
  open_ : Bool
  toDevice : Bool
  lengthSlot : Bool
  capacity : Nat
  words : List QueueWord
  /-- the open LENGTH-SLOT packet, unseen by its consumer (R488) -/
  openPacket : Option (List QueueWord)
  /-- the producer's further words of an aborted packet are discarded (R489) -/
  discarding : Bool
  /-- words left of a LENGTH-SLOT packet that a pop has begun (R497) -/
  partLeft : Nat
  lastE : Bool
  lastP : Bool
  lastAborted : Bool
  poison : Nat
  aborts : Nat
  deriving DecidableEq, Repr

/-- A transaction that holds HRDY low (R490, R494): a pop with the words taken so far, or a push. -/
inductive Stall where
  | pop (q want : Nat) (taken : List QueueWord)
  | push (q : Nat) (words : List Word32) (crcOk ended : Bool)
  deriving DecidableEq, Repr

/-- The host port (R491 to R499). -/
structure HostPort where
  quad : Bool
  irqStatus : BitVec 9
  /-- the flags that hardware set in the CK_IO cycle of the tick irqAt: a clear in that cycle leaves them set (R20) -/
  irqFresh : BitVec 9
  irqAt : Option Nat
  irqEnable : BitVec 9
  queueMask : BitVec 64
  xferErrs : Nat
  stall : Option Stall
  /-- what the device drove in the last transaction: data words, status word, CRC-16 -/
  out : List Word32
  outStatus : Option Word32
  outCrc : Option (BitVec 16)
  deriving DecidableEq, Repr

/-- MBOX_STATUS.STATE (R500). -/
inductive MboxState where
  | idle | busy | done
  deriving DecidableEq, Repr

/-- The dictionary mailbox (R500, R501). -/
structure Mailbox where
  cmd : Word32
  arg : Word32
  len : Nat
  more : Bool
  tag : Nat
  data : Tab Byte
  state : MboxState
  ignored : Bool
  cancelled : Bool
  respTag : Nat
  abort : Abort
  deriving DecidableEq, Repr

/-- One dictionary request in wait (R513, R517, R523). -/
structure Request where
  op : Nat
  tag : Nat
  addr : Nat
  more : Bool
  base : Nat
  offset : Nat
  data : List Byte
  /-- the tick at which it had fully arrived -/
  since : Nat
  deriving DecidableEq, Repr

/-- The answer to a request (R523): what it repeats of the request, the abort code, and the data. -/
structure Answer where
  op : Nat
  tag : Nat
  addr : Nat
  offset : Nat
  abort : Abort
  data : List Byte
  more : Bool
  deriving DecidableEq, Repr

/-- A dictionary session (R510 to R515). -/
structure Session where
  open_ : Bool
  /-- the level granted by challenge and response; none: the transport's default -/
  granted : Option AccessLevel
  cursors : Tab Int
  challenge : Option (List Byte)
  failures : Nat
  lockedUntil : Option Nat
  lastRequest : Nat
  /-- OFFSET, REF, RATE latched by a read of 0x9010:01 (R382) -/
  clockLatch : Option (Int × Nat × Int)
  /-- the snapshot of a DOMAIN object: its address and bytes (R515) -/
  snapshot : Option (Nat × List Byte)
  /-- the partial segmented write: its address and the bytes received -/
  partialWrite : Option (Nat × List Byte)
  waiting : List Request
  /-- the request in service -/
  serving : Option Request
  /-- the tag and area of a store command whose answer waits for the commit (R522) -/
  saveWait : Option (Nat × Nat)
  /-- the newest answer, as a message (R523) -/
  reply : Option Answer
  deriving DecidableEq, Repr

/-- A remote request at a base: forwarded to a slot, with its deadline (R528). -/
structure RemoteRequest where
  /-- the machine slot, or 1000 + the base index of a worker -/
  slot : Nat
  from_ : Sess
  req : Request
  /-- bits [9:0] of the cursor -/
  section_ : Nat
  /-- the end of RemoteTimeout once it has gone out -/
  due : Option Nat
  deriving DecidableEq, Repr

end Sys2Proof.Machine
end

