-- ==== Sys2Proof/Machine/StateRadio.lean ====
section
/-!
DEFINITION. Machine/StateRadio.lean: the Adetre radio (R313 to R353) and the Crier (R354 to R378) as plain data.
-/
namespace Sys2Proof.Machine

/-- ConnectionState of a rover or relay (R332). -/
inductive ConnState where
  | idle | scanning | synced | admitting | connected | resync | closing
  deriving DecidableEq, Repr

/-- SlotState of a base (R333). -/
inductive SlotState where
  | free | connected | closing | held
  deriving DecidableEq, Repr

/-- What a receiver has learned of a partner's clock (R340): the last 16 receptions, the count at the sync word and the nominal instant
by the partner's clock, newest last; those in a row that fit; the rate in ppb; the count of the last reception. -/
structure Drift where
  rx : List (Nat × Int)
  good : Nat
  learned : Bool
  rate : Int
  last : Option Nat
  deriving DecidableEq, Repr

/-- A machine or relay slot at a base. -/
structure SlotConn where
  state : SlotState
  device : List Byte
  key : List Byte
  /-- tick of the last valid uplink -/
  heard : Nat
  /-- newest event counter received -/
  evt : Nat
  firstEvent : Nat
  /-- FLAGS1 HALTED of the newest report -/
  halted : Bool
  /-- release frames still to send (R375) -/
  releases : Nat
  /-- the ROLE of its admission is a relay's -/
  relay : Bool
  drift : Drift
  deriving DecidableEq, Repr

/-- A frame from its PHY header to its CRC (R321, R322). -/
structure AirFrame where
  type : Nat
  ttl : Nat
  flood : Bool
  src : Nat
  dst : Nat
  net : Nat
  first : Bool
  last : Bool
  fseq : Nat
  body : List Byte
  mic : List Byte
  deriving DecidableEq, Repr

/-- A copy that a forwarder has scheduled (R350): the frame, the tick from which it may go, transceiver, map, PHY. -/
structure FloodCopy where
  frame : AirFrame
  due : Nat
  sideB : Bool
  map : Nat
  phy : Nat
  deriving DecidableEq, Repr

/-- A key of the seen cache (R350, R351). -/
structure SeenKey where
  key : Nat
  at_ : Nat
  heard : Nat
  copy : Option FloodCopy
  deriving DecidableEq, Repr

/-- A record that waits for the uplink, with the SEQ of the segment that must not go before it, and the tick at which it
was queued (R336). -/
structure Waiting where
  item : AirRecord
  mark : Nat
  since : Nat
  deriving DecidableEq, Repr

/-- A use of air time (R345, R348): sub-band, channel, transceiver B, start tick (negative for one before this run), length in µs, charged to the stop reserve. -/
structure AirUse where
  sub : Nat
  chan : Nat
  sideB : Bool
  at_ : Int
  us : Nat
  reserve : Bool
  deriving DecidableEq, Repr

/-- A frame that waits for a clear channel (R344). A sealed one is a copy whose MIC stays. -/
structure LbtTry where
  frame : AirFrame
  sealed_ : Bool
  attempt : Nat
  due : Nat
  sideB : Bool
  map : Nat
  phy : Nat
  deriving DecidableEq, Repr

/-- The radio. -/
structure RadioState where
  on : Bool
  groupKey : Option (List Byte)
  sessionKey : Option (List Byte)
  /-- rover, relay -/
  conn : ConnState
  beacons : Nat
  missed : Nat
  maps : Tab (Option Nat)
  netBase : Nat
  hops : Nat
  relayed : Bool
  heard : Nat
  tempId : Nat
  retryDue : Option Nat
  firstEvent : Nat
  drift : Drift
  /-- the slot held last, and the newest ACC heard for it -/
  lastSlot : Nat
  acked : Option Nat
  /-- the time-stamps of the last sync words sent by transceivers A and B (R386) -/
  sentA : Option Nat
  sentB : Option Nat
  lostBase : Bool
  budgetLow : Bool
  paLimited : Bool
  /-- records waiting for the uplink, oldest first -/
  up : List Waiting
  /-- the next segment of the pending window to send -/
  sendNext : Nat
  /-- segments sent: SEQ and event -/
  sentIn : List (Nat × Nat)
  issue : Nat
  station : Option (Int × Int × Int)
  /-- the body of the newest beacon heard, for a relay's copy -/
  beaconBody : List Byte
  /-- the learned model of the base's clock (R340): a count, the base's time at it, rate in ppb -/
  model : Option (Nat × Int × Int)
  /-- own private key of the admission under way -/
  priv : List Byte
  /-- the beacon interval of the newest group key rollover (R568) -/
  rolledAt : Option Nat
  /-- base -/
  slots : Tab SlotConn
  down : List (Nat × AirRecord)
  terminates : List Nat
  tunnels : List (Nat × List Byte)
  /-- correction fragments that wait -/
  corrections : List AirFrame
  /-- frames of the record begun in the downlink window -/
  window : List AirFrame
  /-- interval of the newest window, the µs of it that are used, and the slots marked in PEND -/
  windowAt : Nat
  windowUs : Nat
  pend : List Nat
  /-- slots that have had their release frame in this window (R375) -/
  released : List Nat
  /-- the time of the release command -/
  releaseTime : Int
  mapSel : Nat
  ackFirst : Nat
  beaconStopped : Bool
  grants : List (List Byte)
  /-- both -/
  fseq : Nat
  accepted : Tab (Option (Nat × Nat))
  /-- records under reassembly by SRC × 16 + TYPE: the last FSEQ and the bytes (R325) -/
  parts : Tab (Option (Nat × List Byte))
  seen : List SeenKey
  uses : List AirUse
  /-- the TIME64 of the save that the accounts come from and the tick of their restore, until the time off has been counted (R347) -/
  usesFrom : Option (Int × Nat)
  lbt : List LbtTry
  /-- the last frame given to transceiver A and B -/
  txA : List Byte
  txB : List Byte
  /-- the conducted output set for it, Q16.16 dBm (R349) -/
  powerA : Int
  powerB : Int
  deriving DecidableEq, Repr

/-- A stop event that is being sent (R358). -/
structure StopEvent where
  cause : Nat
  origin : Nat
  dst : Nat
  time : Int
  stopId : Nat
  copiesA : Nat
  copiesB : Nat
  /-- the tick from which the next copy may go; after the last copy, its end -/
  nextA : Nat
  nextB : Nat
  /-- the map and channel to which each transceiver was tuned at the start -/
  mapA : Nat
  chanA : Nat
  chanB : Nat
  deriving DecidableEq, Repr

/-- The copies of an event have all ended. -/
def StopEvent.over (e : StopEvent) (now : Nat) : Bool :=
  decide (3 ≤ e.copiesA) && decide (3 ≤ e.copiesB) && decide (e.nextA ≤ now) && decide (e.nextB ≤ now)

/-- The Crier. -/
structure CrierState where
  /-- qualified levels per path: CK_RADIO and CK_IO -/
  aRadio : Bool
  aIo : Bool
  bRadio : Bool
  bIo : Bool
  /-- the qualified level of R354 -/
  levelA : Bool
  levelB : Bool
  discrepancy : Bool
  differsFrom : Option Nat
  bothSeen : Bool
  unverified : Bool
  exhausted : Bool
  withdrawn : Bool
  event : Option StopEvent
  stopCount : Nat
  /-- tick of the last beacon without HALTED -/
  unhalted : Option Nat
  /-- frame acted on, whose verification is due -/
  acting : Bool
  deriving DecidableEq, Repr

end Sys2Proof.Machine
end

