-- ==== Sys2Proof/Machine/StateZheoc.lean ====
section
/-!
DEFINITION. Machine/StateZheoc.lean: the Zheoc link, the heartbeat and the pair of redundant bases (R585 to R603) as plain
data, with what the link's frames carry.
-/
namespace Sys2Proof.Machine

/-- PairState (R594). -/
inductive PairState where
  | noPartner | linking | transfer | inStep | outOfStep
  deriving DecidableEq, Repr

/-- A heartbeat frame's content (R590). -/
structure Beat where
  device : List Byte
  mode : Mode
  pair : PairState
  frame : Nat
  epoch : Nat
  deriving DecidableEq, Repr

/-- A hello frame's content (R594): the DEV_ID, the keyed code over both DEV_IDs and the keyed code of slot 6, the image digest;
heard in BOOT. -/
structure Hello where
  device : List Byte
  code : List Byte
  slot6 : List Byte
  image : List Byte
  deriving DecidableEq, Repr

/-- A part of the fleet state that the transfer copies (R594). -/
inductive StatePart where
  | stored (nums : Tab Int) (octets : Tab (List Byte))
  | cover (c : CoverState)
  | fleet (f : FleetState)
  /-- the slot table without keys -/
  | slots (t : Tab SlotConn)
  | accounts (uses : List AirUse)
  /-- FSEQ, STOP_ID, and the map sequence accepted and painted -/
  | counters (fseq stopCount accepted painted : Nat)
  /-- the pair's halt state (R101) -/
  | halt (flag : Option HaltCause)
  deriving DecidableEq, Repr

/-- An input that changes fleet state, as the acting unit mirrors it (R595). -/
inductive MirrorInput where
  /-- a record of a machine that passed its checks: code of the frames' record and data -/
  | record (code machine : Nat) (data : List Byte)
  /-- a machine's report in a slot's event -/
  | report (frame : List Byte) (tick : Nat) (rssi : Int)
  /-- the entry of a slot that an admission or an end has changed -/
  | slot (n : Nat) (c : SlotConn)
  /-- a message of the base link -/
  | link (base : Nat) (m : LinkMsg)
  /-- a dictionary write: place in the store, value -/
  | num (key : Nat) (v : Int)
  | bytes (key : Nat) (v : List Byte)
  /-- a packet that a host pushed -/
  | push (queue : Nat) (words : List Word32) (ended : Bool)
  /-- a random number drawn -/
  | draw (d : List Byte)
  /-- a change of the conversion set: reported time and RATE, and the acting unit's TimeState -/
  | conversion (time rate : Int) (state : TimeState)
  /-- an accepted ModeRequest 0x05: the boundary of the switch (R601) -/
  | roleSwitch (at_ : Int)
  deriving DecidableEq, Repr

/-- The payload of a link frame by TYPE (R589). -/
inductive ZlPayload where
  | heartbeat (b : Beat)
  | hello (h : Hello)
  | ack (seq : Nat)
  /-- with the percentage of the transfer that is done -/
  | state (part : StatePart) (percent : Nat)
  | input (frame : Nat) (x : MirrorInput)
  /-- with the FSEQ that it covers -/
  | digest (d : BitVec 32) (fseq : Nat)
  /-- a session key by slot, or the group key, wrapped -/
  | key (slot : Option Nat) (blob : List Byte)
  /-- per tracking channel the offset between the two carrier phases, in 0.001 cycle (R597) -/
  | observables (offsets : List (Nat × Int))
  deriving DecidableEq, Repr

/-- A link frame as received (R589). -/
structure ZlFrame where
  crcOk : Bool
  seq : Nat
  payload : ZlPayload
  deriving DecidableEq, Repr

/-- A frame sent and not yet acknowledged: SEQ, TYPE, and the tick it was sent. -/
structure ZlSent where
  seq : Nat
  type : Nat
  first : Nat
  at_ : Nat
  deriving DecidableEq, Repr

/-- The learned offset of a signal: the least and the greatest over the run, and its epochs. -/
structure PhaseOffset where
  lo : Int
  hi : Int
  run : Nat
  deriving DecidableEq, Repr

/-- The pair as one unit sees it. -/
structure ZheocState where
  /-- the lanes in use -/
  lane0 : Bool
  lane1 : Bool
  txSeq : Nat
  rxSeq : Nat
  /-- the last SEQ acknowledged to the partner -/
  acked : Option Nat
  unacked : List ZlSent
  /-- frames that wait while 256 are unacknowledged: TYPE and tick -/
  held : List (Nat × Nat)
  /-- the tick at which each lane was dropped last (R588) -/
  dropAt : Tab Nat
  /-- the tick of the partner's last heartbeat frame, and of its last pulse -/
  linkSeen : Option Nat
  pulseSeen : Option Nat
  partner : Option Beat
  hello : Option Hello
  pair : PairState
  imageMismatch : Bool
  keyMismatch : Bool
  dualActive : Bool
  acting : Bool
  /-- the mode that the arbitration of BOOT chose (R593) -/
  choice : Option Mode
  /-- the last own heartbeat: its content and its tick -/
  beat : Option Beat
  beatAt : Nat
  /-- the tick at which the health token was refreshed (R592) -/
  token : Nat
  stopped : Bool
  deposed : Bool
  fenced : Bool
  /-- the transfer is complete -/
  copied : Bool
  /-- SEQ numbers of the inputs applied in this frame -/
  inputs : List Nat
  waiting : List (Nat × MirrorInput)
  /-- the acting unit's digest that waits for comparison, with its FSEQ -/
  digest : Option (BitVec 32 × Nat)
  equalRun : Nat
  /-- the 1 ms frame of the newest digest -/
  frameAt : Option Nat
  /-- a failover's instant from which HALT_OUT is driven (R598), and the instant until which an old unit still drives it (R601) -/
  haltOutFrom : Option Nat
  haltOutUntil : Option Nat
  /-- the boundary of a role switch -/
  switchAt : Option Int
  offsets : Tab (Option PhaseOffset)
  deriving DecidableEq, Repr

end Sys2Proof.Machine
end

