-- ==== Sys2Proof/Syntax.lean ====
section
/-!
DEFINITION. Syntax.lean: the commands, one constructor per row of spec/opcode_table.json, with the operands
that the row's rule gives the event or operation (log 7). What arrives from outside (a measured level, a received
frame, a drawn random number) is an operand.
-/
namespace Sys2Proof

/-- A command to the block. -/
inductive Instr where
  /-- POWER_ON (R83): VSNS rises to the start threshold and the buck-boost converter starts. -/
  | powerOn (vsns : Nat)
  /-- PGOOD_RELEASE (R78): Every internal rail comes into regulation and the device releases PGOOD. -/
  | pgoodRelease (vhold : Nat)
  /-- PGOOD_FALL (R78): An internal rail leaves regulation and PGOOD is pulled low within 1 µs. -/
  | pgoodFall
  /-- STRAP_SAMPLE (R66): Once PGOOD is asserted and every reset source is released, the straps are sampled on three CK_AON edges and the module passes from RESET to BOOT. -/
  | strapSample (lands : StartLands) (vioA vioB : Nat) (nand : List (Option NandInfo)) (badKeyCopies : List (Nat × Nat))
  /-- NRST_OUT_RELEASE (R77): NRST_OUT is released 33 CK_AON cycles after the transition from RESET to BOOT. -/
  | nrstOutRelease
  /-- NRST_IN_ASSERT (R79): A low on NRST_IN of at least 5 µs causes a reset. -/
  | nrstInAssert (ns : Nat)
  /-- VHOLD_DISCHARGED (R85): A VHOLD found charged at PGOOD falls below 9.5 V through the internal sink and charging begins. -/
  | vholdDischarged (vhold : Nat)
  /-- VHOLD_MEASURE_START (R85): VHOLD passes 10 V and the capacitance measurement timing starts. -/
  | vholdMeasureStart
  /-- VHOLD_ARMED (R83): VHOLD reaches 22 V; the capacitance is computed, VHOLD_LOW or VHOLD_FAULT judged and VHOLD armed. -/
  | vholdArmed (us50 us20 : Nat)
  /-- VHOLD_CHARGE_TIMEOUT (R85): VHOLD has not reached 22 V within 3 s or 8 s of the start of charging; VHOLD fault. -/
  | vholdChargeTimeout
  /-- VHOLD_DISARM (R86): VHOLD falls below 22 V while running and VHOLD_ARMED clears. -/
  | vholdDisarm (vhold : Nat)
  /-- CHARGE_CURRENT_CHANGE (R86): VSNS crosses below 4.5 V or above 4.7 V and the VHOLD charge current switches between 20 mA and 50 mA. -/
  | chargeCurrentChange (vsns : Nat)
  /-- BOOT_COMPLETE (R44): With the image loaded, the restore done and VHOLD armed, BOOT ends in the operating mode permitted by the straps and the Zheoc arbitration. -/
  | bootComplete (start : BootStart)
  /-- VIN_SAG (R88): VSNS stays below HoldupSagLevel for 50 µs in a mode and the device enters HOLDUP. -/
  | vinSag (vsns : Nat)
  /-- VIN_OVERVOLTAGE (R89): VSNS exceeds 36 V, the input switch opens and the module runs from VHOLD. -/
  | vinOvervoltage (vsns : Nat)
  /-- VIN_OVERVOLTAGE_END (R89): VSNS falls below 35 V within 1 ms, the switch closes and VHOLD recharges. -/
  | vinOvervoltageEnd (vsns : Nat)
  /-- ISOLATION_TIMEOUT (R89): Overvoltage isolation lasts 1 ms and the device enters HOLDUP. -/
  | isolationTimeout
  /-- VIN_SWELL (R89): VSNS crosses 33 V and VIN_SWELL follows it. -/
  | vinSwell (vsns : Nat)
  /-- SAVE_COMPLETE (R93): The valid mark of the HOLDUP save is written and read back and the module passes to RESET with every rail off. -/
  | saveComplete (us vhold : Nat)
  /-- SAVE_ABORT (R97): VHOLD reaches 6.0 V before the valid mark; the save stops and the module passes to RESET. -/
  | saveAbort
  /-- WATCHDOG_EXPIRY (R103): 250 ms pass without a real-time kernel service and the orderly save for a reset begins. -/
  | watchdogExpiry
  /-- RESET_REQUEST (R105): A write to ResetRequest starts the orderly save and reset, or is refused. -/
  | resetRequest (q : Sess) (v : Int)
  /-- ORDERLY_SAVE_COMPLETE (R103): The orderly save from VIN ends and the module resets with the recorded cause. -/
  | orderlySaveComplete (us vhold : Nat)
  /-- PLL_LOSS_OF_LOCK (R36): A PLL loses lock; stop outputs are driven without a clock for Never domains and the module resets with clock failure. -/
  | pllLossOfLock (domain : ClockDomain)
  /-- EXT_REF_LOSS (R35): EXT_REF_IN shows 4 missing or malformed periods and every PLL switches to the TCXO. -/
  | extRefLoss
  /-- MODE_REQUEST_BASE (R42): ModeRequest 0x02 is judged against the permitted transitions and the result set. -/
  | modeRequestBase (q : Sess)
  /-- MODE_REQUEST_ROVER (R44): ModeRequest 0x03 returns a module from SNAPSHOT to ROVER. -/
  | modeRequestRover (q : Sess)
  /-- MODE_REQUEST_RELAY (R42): ModeRequest 0x04 is judged against the permitted transitions and the result set. -/
  | modeRequestRelay (q : Sess)
  /-- MODE_REQUEST_STANDBY (R601): ModeRequest 0x05 on an in-step acting unit schedules the switch of roles. -/
  | modeRequestStandby (q : Sess)
  /-- MODE_REQUEST_SNAPSHOT (R44): ModeRequest 0x06 moves a rover with all sections OFF and axes at rest into SNAPSHOT. -/
  | modeRequestSnapshot (q : Sess)
  /-- MODE_REQUEST_HALT (R42): ModeRequest 0x07 enters HALT, or returns 0x00 in HALT without a trigger. -/
  | modeRequestHalt (q : Sess)
  /-- STOP_TRIGGER (R356): A qualified rising edge of STOP_A or STOP_B drives the stop outputs high, enters HALT and at a base starts a stop event. -/
  | stopTrigger (channel : StopChannel) (path : StopPath)
  /-- STOP_DEASSERT (R354): A stop channel is qualified deasserted on both paths. -/
  | stopDeassert (channel : StopChannel) (path : StopPath)
  /-- STOP_DISCREPANCY_TIMEOUT (R355): The two stop channels differ for longer than StopDiscrepancyTime and STOP_DISCREPANCY latches. -/
  | stopDiscrepancyTimeout
  /-- STOP_COPY (R358): 1 ms after a stop copy ends, the next copy of the stop event is sent, or withheld when the reserve cannot hold it. -/
  | stopCopy
  /-- BEACON_RESUME (R372): The reserve of every sub-band holds 8 stop frames again and the base resumes beaconing. -/
  | beaconResume
  /-- STOP_HEADER_CHECK (R365): A received stop frame passes its header check and the rover or relay drives its stop outputs and enters HALT. -/
  | stopHeaderCheck (sync : Nat) (frame : List Byte)
  /-- STOP_FRAME_VERIFY (R369): The whole stop frame has arrived and its MIC, CRC and replay test are judged. -/
  | stopFrameVerify (frame : List Byte)
  /-- RELEASE_REQUEST (R374): A write of 0x005A to ReleaseRequest at Service level is an authenticated release of the module. -/
  | releaseRequest (q : Sess) (v : Int)
  /-- RELEASE_FRAME (R376): A rover receives a release frame, checks it and leaves HALT when the conditions hold. -/
  | releaseFrame (sync : Nat) (frame : List Byte)
  /-- RELEASE_MACHINES (R375): A write to ReleaseMachines makes the base send release frames to the named halted slots. -/
  | releaseMachines (q : Sess) (v : Int)
  /-- BASE_LINK_STOP (R311): A worker receives a stop from the manager over the base link and enters HALT with HaltCause 0x05. -/
  | baseLinkStop (origin : Nat)
  /-- BASE_LINK_STOP_REQUEST (R311): The manager receives a worker's stop request and halts the hierarchy or only the worker per StopScope. -/
  | baseLinkStopRequest (base : Nat)
  /-- BASE_LINK_RELEASE (R377): A worker receives an authenticated release from the manager over the base link. -/
  | baseLinkRelease (head : LinkHead)
  /-- BEACON_TX (R326): At each beacon interval start the base sends its beacon on transceiver A. -/
  | beaconTx
  /-- BEACON_COPY_TX (R352): A relay sends its beacon copy with the next hop count at its scheduled instant. -/
  | beaconCopyTx
  /-- BEACON_RX (R342): A beacon of the wanted base passes its checks in the window and updates timing, maps, acks and connection state. -/
  | beaconRx (frame : List Byte) (tick : Nat) (rssi : Int)
  /-- BEACON_MISSED (R342): The beacon window closes without a valid beacon; misses are counted and a resync scan follows. -/
  | beaconMissed
  /-- LOST_BASE (R343): A connected rover misses three consecutive beacons and enters HALT with HaltCause 0x03. -/
  | lostBase
  /-- ANNOUNCED_STEP_APPLY (R398): At the announced step instant a rover or relay applies the step to its model of the base clock. -/
  | announcedStepApply
  /-- DOWNLINK_FRAME_TX (R327): A correction fragment, downlink record, terminate, tunnel, release or tile frame is sent in the downlink window. -/
  | downlinkFrameTx
  /-- UPLINK_REPORT_TX (R335): A connected rover sends its uplink report, with segments or a record, in its position. -/
  | uplinkReportTx
  /-- UPLINK_REPORT_RX (R335): The base receives an uplink report, renews the lease, updates the machine and forms any compact segment. -/
  | uplinkReportRx (frame : List Byte) (tick : Nat) (rssi : Int)
  /-- UPLINK_MISSED (R342): A slot's uplink window closes without a reception and SlotMissed is counted. -/
  | uplinkMissed (slot : Nat)
  /-- ADMISSION_REQUEST_TX (R330): A synced rover or relay sends an admission request in contention time. -/
  | admissionRequestTx
  /-- ADMISSION_RETRY (R330): An unanswered admission request is repeated after a random 1 s to 4 s. -/
  | admissionRetry
  /-- ADMISSION_REQUEST_RX (R331): The base judges an admission request, allots a slot and sends the grant. -/
  | admissionRequestRx (frame : List Byte)
  /-- ADMISSION_GRANT_RX (R567): The rover receives the grant, derives its session key and unwraps the group key. -/
  | admissionGrantRx (frame : List Byte)
  /-- TERMINATE_RX (R332): A terminate frame ends the connection and frees or holds the slot. -/
  | terminateRx (frame : List Byte)
  /-- SUPERVISION_TIMEOUT (R332): A rover hears no valid frame from its base for SupervisionTimeout and returns to SCANNING. -/
  | supervisionTimeout
  /-- SLOT_SUPERVISION_TIMEOUT (R333): A base hears no valid uplink from a slot for SupervisionTimeout and the slot becomes HELD or FREE. -/
  | slotSupervisionTimeout (slot : Nat)
  /-- CONNECTION_DISABLE (R334): ConnectionEnable 0x00 on a rover starts CLOSING. -/
  | connectionDisable (q : Sess)
  /-- CONNECTION_ENABLE (R334): ConnectionEnable 0x01 cancels a pending close or starts a full admission. -/
  | connectionEnable (q : Sess)
  /-- SLOT_DISABLE (R334): SlotEnable 0x00 on a base starts closing that slot. -/
  | slotDisable (q : Sess)
  /-- SLOT_ENABLE (R334): SlotEnable 0x01 cancels a pending close or reopens the slot to admission. -/
  | slotEnable (q : Sess)
  /-- LBT_ASSESSMENT (R344): A listen-before-talk assessment of a frame outside the schedule ends and the frame is sent, backed off or dropped. -/
  | lbtAssessment (power : Int)
  /-- FLOOD_FRAME_RX (R350): A forwarder receives a flooded frame, consults the seen cache and schedules or suppresses a copy. -/
  | floodFrameRx (frame : List Byte)
  /-- FLOOD_COPY_TX (R350): The random delay of a scheduled flood copy expires and the copy is sent under listen-before-talk. -/
  | floodCopyTx
  /-- SEEN_CACHE_EXPIRY (R351): A seen-cache key reaches 20 s and leaves the cache. -/
  | seenCacheExpiry
  /-- CORRECTION_FRAGMENT_RX (R338): A rover receives a correction fragment and reassembles the correction stream. -/
  | correctionFragmentRx (frames : List (List Byte))
  /-- TILE_TRANSFER_RX (R277): A rover receives a tile transfer record and installs or discards it, repainting its pending segments. -/
  | tileTransferRx (frames : List (List Byte))
  /-- OFFER_RX (R296): A rover receives a task offer and claims it when AutoAccept is set. -/
  | offerRx (frames : List (List Byte))
  /-- CLAIM_RESULT_RX (R299): A rover receives the result of its claim. -/
  | claimResultRx (frames : List (List Byte))
  /-- TASK_LOAD_RX (R337): A rover receives a task load record with the field record. -/
  | taskLoadRx (frames : List (List Byte))
  /-- TASK_TRACK_RX (R337): A rover receives a task track record and loads the task once all tracks have arrived. -/
  | taskTrackRx (frames : List (List Byte))
  /-- REVOKED_RX (R302): A rover receives REVOKED and unloads its task. -/
  | revokedRx (frames : List (List Byte))
  /-- SEPARATION_ALERT_RX (R308): A rover receives a separation alert and sets SeparationAlert. -/
  | separationAlertRx (frames : List (List Byte))
  /-- GROUP_KEY_ROLLOVER (R568): At the interval where k modulo 2³² is 0 the base draws a new group key and readmits every machine. -/
  | groupKeyRollover
  /-- TIME_SOURCE_QUALIFIED (R389): A time source qualifies and, if better, replaces the source in use, making the initial set or a slew or step. -/
  | timeSourceQualified (src : TimeSource) (solutions : List ClockSolution)
  /-- TIME_SOURCE_LOST (R390): The time source in use is lost and the device moves to the next source or to HOLDOVER. -/
  | timeSourceLost (src : TimeSource)
  /-- DISCIPLINE_MEASURE (R393): Once per second the error against the source is measured and RATE steered, slewed or a step decided. -/
  | disciplineMeasure (solution : Option ClockSolution)
  /-- TIME_STEP (R397): At the step instant S reported time passes from S to S + D. -/
  | timeStep
  /-- CONVERSION_SET_APPLY (R381): A staged conversion set takes effect at a CK_TS boundary and loaded compares are reconverted. -/
  | conversionSetApply
  /-- COMPARE_LOAD (R384): A held compare target comes within 2³⁹ ticks and is loaded into a unit. -/
  | compareLoad (user : Nat) (target : Int)
  /-- CLOCK_OFFSET_READ (R382): A read of ClockOffset latches OFFSET, REF and RATE for the session. -/
  | clockOffsetRead (q : Sess)
  /-- PPS_OUT_RISE (R401): PPS_OUT rises at each whole second plus PpsOutOffset. -/
  | ppsOutRise
  /-- PPS_OUT_FALL (R401): PPS_OUT falls after PpsOutWidth. -/
  | ppsOutFall
  /-- EVENT_CAPTURE (R402): A selected edge on EVT_INn or PPS_IN is time-stamped and queued, or lost when the queue is full. -/
  | eventCapture (input : Nat) (falling : Bool) (tick : Nat)
  /-- PPS_IN_TIMEOUT (R404): No rising edge of PPS_IN for 1.5 s clears PPS_IN_PRESENT. -/
  | ppsInTimeout
  /-- EVT_NEXT (R403): A read of EvtNext returns and removes the oldest capture record. -/
  | evtNext (q : Sess)
  /-- BIAS_CLASSIFY (R112): Every 10 ms each antenna bias is classified open, short or normal, and switched off on a short. -/
  | biasClassify (ant : Side) (milliamps : Nat) (atLimit : Bool) (gains : Int × Int)
  /-- BIAS_RETRY (R112): 1 s after a short the antenna bias is retried. -/
  | biasRetry (ant : Side)
  /-- SIGNAL_ENABLE_WRITE (R118): A write of SignalEnable is checked and takes effect at the next tracking frame. -/
  | signalEnableWrite (q : Sess) (v : Int)
  /-- CODE_EPOCH_DUMP (R122): At a code epoch boundary a channel emits its dump record and applies any pending NCO set. -/
  | codeEpochDump (channel tag : Nat) (samples : List (Int × Int))
  /-- TRACKING_FRAME (R124): Each 1 ms the tracking programs read the dumps and close the loops of every channel. -/
  | trackingFrame
  /-- LOSS_OF_LOCK (R155): A channel coasts 1 s without interruption; it is released and re-acquisition queued. -/
  | lossOfLock (channel : Nat)
  /-- CHANNEL_RANKING (R120): Every 1 s channels are granted by rank, with up to 8 pre-emptions. -/
  | channelRanking (view : List SatView)
  /-- ACQ_REQUEST (R130): A search request enters the acquisition queue, or is refused when the queue is full. -/
  | acqRequest (request : AcqRequest)
  /-- ACQ_PASS_COMPLETE (R127): An acquisition pass ends and the next pass, peak search or verification follows. -/
  | acqPassComplete (cells : List (List (Int × Int)))
  /-- ACQ_VERIFY_COMPLETE (R131): The verification pass ends and the result record is written and a detection handed over. -/
  | acqVerifyComplete (cells : List (List (Int × Int))) (tag : Nat)
  /-- NAV_UNIT_COMPLETE (R137): A navigation delivery unit ends or is cut and its checked record is delivered. -/
  | navUnitComplete (nav : NavUnit)
  /-- NAV_HOST_OUTPUT_WRITE (R138): A write of NavHostOutput starts, stops or resumes the host copy of navigation records. -/
  | navHostOutputWrite (q : Sess) (v : Int)
  /-- SNAPSHOT_TRIGGER (R142): A write of SnapshotTrigger starts a capture or is refused. -/
  | snapshotTrigger (q : Sess) (v : Int)
  /-- SNAPSHOT_INTERVAL (R145): At the start of each SnapshotInterval in SNAPSHOT a capture is triggered. -/
  | snapshotInterval
  /-- SNAPSHOT_CAPTURE_COMPLETE (R141): A capture ends and its records are written to their slots. -/
  | snapshotCaptureComplete (samples : List (List (Int × Int)))
  /-- SNAPSHOT_PROCESSING_COMPLETE (R143): Deferred processing of a capture ends with a fix reported valid or invalid and its slot freed. -/
  | snapshotProcessingComplete (fix : SnapshotFix)
  /-- SNAPSHOT_DATA_READ (R142): A capture read to its last byte through SnapshotData frees its slot. -/
  | snapshotDataRead (q : Sess)
  /-- SNAPSHOT_RELEASE (R142): A write of SnapshotRelease frees the oldest capture held for export. -/
  | snapshotRelease (q : Sess) (v : Int)
  /-- SNAPSHOT_WAKE_TIME_WRITE (R145): A write of SnapshotWakeTime arms, disarms or schedules the wake. -/
  | snapshotWakeTimeWrite (q : Sess) (v : Int)
  /-- SNAPSHOT_WAKE (R145): The wake time is reached in SNAPSHOT and the module returns to ROVER. -/
  | snapshotWake
  /-- OBSERVABLE_EPOCH (R157): At each observable epoch the NCO phases are latched and the observable record formed. -/
  | observableEpoch (clockResidual : Int)
  /-- OBS_HOST_OUTPUT_WRITE (R161): A write of ObsHostOutput starts, stops or resumes the host copy of observable records. -/
  | obsHostOutputWrite (q : Sess) (v : Int)
  /-- SURVEY_IN_COMPLETE (R163): The survey-in mean meets SurveyInLimit and becomes the fixed reference position. -/
  | surveyInComplete (positions : List (Int × Int × Int))
  /-- SURVEY_IN_TIMEOUT (R163): The limit is not met within three times SurveyInTime and the survey restarts. -/
  | surveyInTimeout
  /-- BASE_POSITION_CHECK (R164): Every 10 s the base compares its position with its reference and withholds or resumes corrections. -/
  | basePositionCheck (x y z : Int)
  /-- BASE_ECEF_WRITE (R164): A write of BaseEcefX, Y or Z sets the reference and resumes withheld corrections. -/
  | baseEcefWrite (q : Sess) (axis : Fin 3) (v : Int)
  /-- RTCM_EPOCH (R166): An RTCM epoch's messages are queued to each port, discarding an unfinished older epoch. -/
  | rtcmEpoch (tcpSent : Nat)
  /-- NTRIP_RETRY (R168): The retry wait after a lost NTRIP connection expires and the client connects again. -/
  | ntripRetry (connected : Bool)
  /-- NTRIP_GGA (R168): Every 10 s the NTRIP client sends a GGA sentence. -/
  | ntripGga
  /-- NTRIP_MESSAGE_RX (R168): An RTCM message received from NTRIP is accepted or ignored. -/
  | ntripMessageRx (number : Nat) (aligned more : Bool) (epoch : Int)
  /-- MATCH_OPERAND (R479): An operand arrives in the matching store and a task becomes ready when complete. -/
  | matchOperand (flow epoch slot value need hold : Nat)
  /-- MATCH_EXPIRY (R479): An incomplete matching entry reaches its holding time and is discarded. -/
  | matchExpiry (flow epoch : Nat)
  /-- RTK_SOLUTION (R169): A matched or extrapolated RTK solution is delivered with its state. -/
  | rtkSolution (solution : RtkSolution)
  /-- AMBIGUITY_HOLD_EXPIRY (R171): Ambiguities kept after correction loss expire after 30 s. -/
  | ambiguityHoldExpiry
  /-- HEADING_SOLUTION (R175): A heading solution is delivered and checked against BaselineLength. -/
  | headingSolution (solution : HeadingSolution)
  /-- HEADING_HOLD_EXPIRY (R176): IMU-propagated heading exceeds HeadingHoldTime and the next heading source applies. -/
  | headingHoldExpiry
  /-- IMU_SYNC_SAMPLE (R177): IMU_SYNC is pulsed at each sample instant. -/
  | imuSyncSample
  /-- IMU_FRAME_READ (R179): ImuReadDelay after the sync edge the IMU frame is read and tested for fault. -/
  | imuFrameRead (frame : List Byte)
  /-- POSE_INSTANT (R180): At each pose instant the fusion thread propagates, applies solutions and writes the pose record. -/
  | poseInstant (estimate : PoseEstimate)
  /-- PROGRAM_FRAME (R190): A Boulevard program starts at its frame start and runs its fixed count. -/
  | programFrame (program wait : Nat)
  /-- OUTPUT_PHASE (R216): At the output phase the program's outputs and state commit together, or the frame is abandoned as an overrun. -/
  | outputPhase (program corrected : Nat) (uncorrectable : Bool)
  /-- BLV_SCRUB (R185): Every 10 s the background scrub reads every word of the Boulevard memories. -/
  | blvScrub (corrected : Nat) (badGroups : List Nat)
  /-- BANK_COPY (R204): A write of BankCopy copies the active coefficient bank over the inactive one. -/
  | bankCopy (q : Sess) (v : Int)
  /-- COEF_INACTIVE_WRITE (R204): A write of CoefInactive changes an integrator-partition entry of the inactive bank, or is refused. -/
  | coefInactiveWrite (q : Sess) (v : Int)
  /-- BANK_SWAP_REQUEST (R205): A write of BankSwapRequest is accepted or refused. -/
  | bankSwapRequest (q : Sess) (v : Int)
  /-- BANK_SWAP (R205): At the first whole 100 ms after acceptance the banks exchange and the new partition is stored. -/
  | bankSwap
  /-- GROUP_ENABLE (R220): GroupEnable 0x01 starts a DISABLED group or cancels a stopping ramp. -/
  | groupEnable (q : Sess)
  /-- GROUP_DISABLE (R220): GroupEnable 0x00 starts STOPPING or disables a suspended group. -/
  | groupDisable (q : Sess)
  /-- GROUP_RESUME (R220): GroupResume on a SUSPENDED group leads to STARTING at the next frame. -/
  | groupResume (q : Sess) (v : Int)
  /-- KERB_EVALUATION (R225): Each millisecond the Kerb engine evaluates all sections against the newest pose and schedules switches. -/
  | kerbEvaluation (crcOk : Bool)
  /-- SLOT_ISSUE (R242): At the start of slot k − 1 the entries of slot k are issued to the CK_IO queue. -/
  | slotIssue
  /-- SLOT_BOUNDARY (R246): At each slot boundary the chain captures its image, shifts, compares readback and latches at the switch instant. -/
  | slotBoundary (readback : Nat)
  /-- SECTION_DELAY_ELAPSED (R253): A section's switch instant plus its on- or off-delay is reached and it passes to ON or OFF. -/
  | sectionDelayElapsed (sec : Nat)
  /-- CHAIN_FAULT_CLEAR (R250): A write of ChainFaultClear clears CHAIN_FAULT and moves sections from FAULT to OFF. -/
  | chainFaultClear (q : Sess) (v : Int)
  /-- CHAIN_CONFIG_WRITE (R247): A write of ChainLength, ChainDivider, ChainReadback or ImplementModel is checked and restarts the chain. -/
  | chainConfigWrite (q : Sess) (which : ChainObject) (v : Int)
  /-- SECTION_RECORD_WRITE (R227): A write to a section record field is checked against the chain and the horizon. -/
  | sectionRecordWrite (q : Sess) (which : SectionField) (v : Int)
  /-- SECTION_MODE_WRITE (R255): A write of SectionMode forces the section OFF, ON or back to automatic. -/
  | sectionModeWrite (q : Sess) (v : Int)
  /-- MASTER_ENABLE_WRITE (R255): A write of MasterEnable allows switching or closes every section at the earliest slot. -/
  | masterEnableWrite (q : Sess) (v : Int)
  /-- SEGMENT_CLOSE (R265): A rover closes a segment at a 200 ms boundary, run end or turn, journals it and paints its cache. -/
  | segmentClose
  /-- TILE_CACHE_UPDATE (R274): The rover requests tiles within CacheRadius and drops far tiles. -/
  | tileCacheUpdate
  /-- SEGMENT_RX (R269): The base judges a segment in SEQ order, journals and acknowledges it or repeats its last acknowledgement. -/
  | segmentRx (source : Uplink)
  /-- SEGMENT_PAINT (R271): The map engine paints the next accepted segment wholly into the map. -/
  | segmentPaint
  /-- PAINTED_SEGMENT_RX (R273): A worker receives a painted segment from the manager and paints its replica. -/
  | paintedSegmentRx (head : LinkHead) (mseq machine : Nat) (record : List Byte)
  /-- MANAGER_SEGMENT_ACK_RX (R273): A worker receives the manager's acknowledgement and acknowledges the segment to its rover. -/
  | managerSegmentAckRx (head : LinkHead) (slot seq : Nat)
  /-- TILE_SEND (R275): The base sends waiting tiles within the radio budget. -/
  | tileSend (slot : Nat)
  /-- CHECKPOINT_START (R280): A checkpoint starts at its interval or segment count and fixes the mark M. -/
  | checkpointStart
  /-- CHECKPOINT_COMPLETE (R280): The checkpoint record's valid mark is written and the journal entry made. -/
  | checkpointComplete
  /-- MAP_RESTORE_COMPLETE (R282): The map restore and log replay end and RESTORING clears. -/
  | mapRestoreComplete (older : List (Nat × Nat))
  /-- MAP_DELETE (R263): A write of MapDelete frees a map's tiles and checkpoint images, or is refused. -/
  | mapDelete (q : Sess) (v : Int)
  /-- FIELD_LOAD (R289): A field record written to FieldLoad is checked, its map created and copied to workers. -/
  | fieldLoad (q : Sess) (data : List Byte)
  /-- FIELD_UNLOAD (R290): A write of FieldUnload removes the field's tracks and tasks, or is refused. -/
  | fieldUnload (q : Sess) (v : Int)
  /-- TRACK_LOAD (R291): A track block written to TrackLoad is checked and loaded whole. -/
  | trackLoad (q : Sess) (data : List Byte)
  /-- TASK_LOAD (R294): A task record written to TaskLoad is checked and loaded whole. -/
  | taskLoad (q : Sess) (data : List Byte)
  /-- FLEET_RECORD_COPY_RX (R286): A worker receives a field, track or task copy from the manager. -/
  | fleetRecordCopyRx (head : LinkHead) (object : Nat) (data : List Byte)
  /-- TASK_CANCEL (R302): TaskCommand 0x01 makes the task CANCELLED and frees its tracks. -/
  | taskCancel (q : Sess)
  /-- TASK_REVOKE (R302): TaskCommand 0x02 makes the task SUSPENDED and revokes its holder. -/
  | taskRevoke (q : Sess)
  /-- TASK_HAND_OVER (R302): TaskCommand 0x03 passes every reservation of the task to the target in one step. -/
  | taskHandOver (q : Sess)
  /-- TASK_OFFER (R295): The allotment planner offers a task to a capable machine. -/
  | taskOffer (task machine : Nat)
  /-- OFFER_LAPSE (R295): An offer not claimed within 10 s lapses. -/
  | offerLapse (task : Nat)
  /-- CLAIM_RX (R298): A claim reaches the manager's claim queue, forwarded by a worker if need be. -/
  | claimRx (source : Uplink)
  /-- CLAIM_DECISION (R297): The claim at the head of the queue is granted or refused in one indivisible step. -/
  | claimDecision
  /-- LEASE_EXPIRY (R300): A reservation's lease expires; its tracks become FREE and the task SUSPENDED. -/
  | leaseExpiry
  /-- TRACK_DONE_RX (R301): The base receives a track-done record and marks the track DONE. -/
  | trackDoneRx (source : Uplink)
  /-- TASK_RELEASE_RX (R301): The base receives a task-release record and frees the task's tracks. -/
  | taskReleaseRx (source : Uplink)
  /-- TILE_REQUEST_RX (R275): The base receives a tile request and queues the tiles for that rover. -/
  | tileRequestRx (source : Uplink)
  /-- CLAIM_REQUEST (R296): A write of ClaimRequest makes the rover send a claim. -/
  | claimRequest (q : Sess) (data : List Byte)
  /-- TASK_RELEASE (R301): A write of TaskRelease unloads the rover's task and sends the release. -/
  | taskRelease (q : Sess) (v : Int)
  /-- TRACK_DONE (R301): A write of TrackDone removes the track from TrackGeometry and sends the record. -/
  | trackDone (q : Sess) (v : Int)
  /-- SEPARATION_CHECK (R305): Every 100 ms the allotment engine classifies every machine pair and alerts or stops. -/
  | separationCheck
  /-- BASE_LINK_HEARTBEAT (R310): Every 10 ms each base sends a base-link heartbeat. -/
  | baseLinkHeartbeat
  /-- BASE_LINK_TIMEOUT (R310): Nothing is heard from the manager for BaseLinkTimeout; the worker withdraws beacons and refuses claims. -/
  | baseLinkTimeout (base : Nat)
  /-- BASE_LINK_RESTORED (R310): The base link returns and the worker resumes beaconing. -/
  | baseLinkRestored (head : LinkHead) (base : Nat) (halted : Bool) (reports : List Nat)
  /-- RESERVATION_REPORT_RX (R331): A worker receives the manager's report of a reservation change for one of its machines. -/
  | reservationReportRx (head : LinkHead) (slot : Nat) (held : Bool)
  /-- ETH_FRAME_RX (R410): A received Ethernet frame is checked and passed on, or discarded. -/
  | ethFrameRx (port : Nat) (frame : List Byte) (drained : Nat)
  /-- ETH_FRAME_TX (R418): A queued frame starts on the wire when its gate span can hold it, or is discarded as oversize. -/
  | ethFrameTx (port : Nat) (offered : List (Bool × Nat))
  /-- ETH_LINK_CHANGE (R408): A port's link comes up or goes down, and a half-duplex link is held down. -/
  | ethLinkChange (port : Nat) (answers up fullDuplex : Bool) (speed : Nat)
  /-- PAUSE_RX (R412): A received PAUSE frame starts, replaces or ends a pause, or is only counted on the base link. -/
  | pauseRx (port : Nat) (frame : List Byte)
  /-- PAUSE_END (R412): A pause time expires and transmission resumes under the open gates. -/
  | pauseEnd (port : Nat)
  /-- PAUSE_TX (R413): The receive buffer passes 75 % or falls below 50 % and a PAUSE frame is sent. -/
  | pauseTx (port drained : Nat)
  /-- PAUSE_REPEAT (R413): Half the pause time expires with the buffer above 50 % and PAUSE is repeated. -/
  | pauseRepeat (port : Nat)
  /-- ETH_DISABLE (R414): EthEnable 0x00 sets DISABLING and lets frames in flight complete. -/
  | ethDisable (q : Sess)
  /-- ETH_DISABLE_COMPLETE (R414): Frames in flight complete; the port flushes its queues and powers down its PHY. -/
  | ethDisableComplete (port : Nat)
  /-- ETH_ENABLE (R414): EthEnable 0x01 cancels a disable or starts a full bring-up. -/
  | ethEnable (q : Sess)
  /-- WAKE_MATCH (R416): A frame matches a wake filter and in SNAPSHOT returns the module to ROVER. -/
  | wakeMatch (port : Nat) (frame : List Byte)
  /-- GATE_COMMIT (R419): A write of GateCommit checks the gate control list and schedules it. -/
  | gateCommit (q : Sess) (v : Int)
  /-- GATE_LIST_START (R419): A committed gate list takes effect at its start instant. -/
  | gateListStart (port : Nat)
  /-- PTP_MESSAGE_RX (R421): A PTP message is received and time-stamped for the PTP state machine. -/
  | ptpMessageRx (port : Nat) (m : PtpMessage)
  /-- PTP_MESSAGE_TX (R421): A PTP Sync, Announce or delay message is sent at its interval. -/
  | ptpMessageTx (port : Nat) (k : PtpKind)
  /-- PTP_ANNOUNCE_TIMEOUT (R423): The announce receipt timeout expires and the PTP source is lost. -/
  | ptpAnnounceTimeout (port : Nat)
  /-- CAN_BUS_OFF (R425): A CAN controller reaches bus-off and recovers automatically or waits. -/
  | canBusOff (ctl : Nat)
  /-- CAN_RECOVER (R425): A write of CanRecover starts the bus-off recovery sequence. -/
  | canRecover (q : Sess) (v : Int)
  /-- CAN_RECOVERY_COMPLETE (R425): 128 occurrences of 11 recessive bits end the recovery. -/
  | canRecoveryComplete (ctl : Nat)
  /-- CAN_FRAME_RX (R425): A CAN frame is received into the FIFO, or lost when the FIFO is full. -/
  | canFrameRx (ctl : Nat) (f : CanFrame) (drained : Nat)
  /-- SDO_REQUEST (R426): An SDO request on CAN0 is served as a dictionary request. -/
  | sdoRequest (write : Option (List Byte)) (addr : Nat)
  /-- RPDO_RX (R519): An RPDO is applied as a CAN0 write, or dropped after 200 ms. -/
  | rpdoRx (n : Nat) (data : List Byte) (busy : Bool)
  /-- TPDO_TX (R519): A TPDO is sent with values read at its transmission. -/
  | tpdoTx (n : Nat)
  /-- SYNC_RX (R426): A SYNC message is consumed for synchronous PDOs. -/
  | syncRx
  /-- CANOPEN_HEARTBEAT_TX (R426): The heartbeat producer sends at its period. -/
  | canopenHeartbeatTx
  /-- HEARTBEAT_CONSUMER_TIMEOUT (R426): A consumed heartbeat is not received within its time. -/
  | heartbeatConsumerTimeout (entry : Nat)
  /-- NMT_RESET_NODE (R428): NMT Reset Node resets the communication area and NMT state only. -/
  | nmtResetNode
  /-- NMT_RESET_COMMUNICATION (R428): NMT Reset Communication resets the communication area only. -/
  | nmtResetCommunication
  /-- NMT_STOP (R428): NMT Stopped stops PDO and SDO traffic without changing the mode. -/
  | nmtStop
  /-- NMT_START (R426): NMT Start puts the node in the operational state. -/
  | nmtStart
  /-- NMT_PRE_OPERATIONAL (R426): NMT Enter Pre-Operational puts the node in the pre-operational state. -/
  | nmtPreOperational
  /-- ADDRESS_CLAIM (R429): The ISOBUS address claim runs, including after bus-off. -/
  | addressClaim (got : Option Nat)
  /-- SECTION_SETPOINT_RX (R430): A Setpoint Condensed Work State acts on sections 0–255 as forced OFF or automatic. -/
  | sectionSetpointRx (ddi value : Nat)
  /-- RATE_SETPOINT_RX (R430): A setpoint rate DDI writes ProductRate. -/
  | rateSetpointRx (ddi product value : Nat)
  /-- WORK_STATE_TX (R430): Actual Condensed Work State is sent on change and at least every 1 s. -/
  | workStateTx
  /-- ACTUAL_RATE_TX (R430): Every 1 s the actual rate is sent. -/
  | actualRateTx
  /-- TC_STATUS_TIMEOUT (R430): No TC status for 6 s disconnects the client and sections 0–255 act as setpoint OFF. -/
  | tcStatusTimeout
  /-- DD_UPLOAD (R430): The device description is uploaded again when a section record changes. -/
  | ddUpload
  /-- POSITION_PGN_TX (R431): An enabled position PGN is sent at its rate from the newest pose. -/
  | positionPgnTx (pgn : Nat)
  /-- PULSE_EDGE (R435): An accepted edge of a pulse input is stamped and counted with its direction. -/
  | pulseEdge (input : Fin 32) (stamp : Nat) (a b : Bool)
  /-- CREDIT_TICK (R443): Each 1 ms tick the quantity of product-bound inputs is credited to the applying sections or unassigned. -/
  | creditTick
  /-- RATE_UPDATE (R445): Every 1 ms each input's rate is formed and published to the meter rate port. -/
  | rateUpdate
  /-- INTERVAL_END (R446): At each interval end the interval record and the as-applied record are emitted and pending configuration applied. -/
  | intervalEnd
  /-- METER_CONFIG_WRITE (R448): A meter configuration write is held pending until the next interval start. -/
  | meterConfigWrite (q : Sess) (which : MeterField) (v : Int)
  /-- METER_SNAPSHOT (R449): A write of MeterSnapshot copies every accumulator into the snapshot bank. -/
  | meterSnapshot (q : Sess) (v : Int)
  /-- METER_CLEAR (R449): A write of 0x00C3 to MeterClear at Service level zeroes every accumulator. -/
  | meterClear (q : Sess) (v : Int)
  /-- VIN_SAMPLE (R450): Every 100 µs VSNS is sampled and a sag, swell or interruption starts or ends. -/
  | vinSample (mv : Nat)
  /-- VIN_EVENT_NEXT (R451): A read of VinEventNext returns and removes the oldest VIN event record. -/
  | vinEventNext (q : Sess)
  /-- PROFILE_TICK (R453): Each 50 µs every running axis computes its profile, takes new commands and places its step pulses. -/
  | profileTick
  /-- AXIS_ENABLE (R470): AxisEnable 0x01 raises AENn or cancels a disable. -/
  | axisEnable (q : Sess)
  /-- AXIS_DISABLE (R470): AxisEnable 0x00 decelerates the axis and starts DISABLING. -/
  | axisDisable (q : Sess)
  /-- AEN_ON_DELAY_ELAPSED (R470): AenOnDelay elapses and the axis becomes IDLE or HELD. -/
  | aenOnDelayElapsed (axis : Nat)
  /-- AEN_OFF_DELAY_ELAPSED (R470): AenOffDelay elapses at rest and AENn falls. -/
  | aenOffDelayElapsed (axis : Nat)
  /-- AXIS_MODE_WRITE (R457): A write of AxisMode is accepted only while the axis is DISABLED. -/
  | axisModeWrite (q : Sess) (v : Int)
  /-- MOVE_TARGET (R458): A write of MoveTarget plans a trapezoidal move or is refused. -/
  | moveTarget (q : Sess) (v : Int)
  /-- VELOCITY_TARGET (R459): A write of VelocityTarget ramps the axis to the new velocity. -/
  | velocityTarget (q : Sess) (v : Int)
  /-- SEGMENT_START (R464): A write of SegmentStart checks and starts a segment chain. -/
  | segmentStart (q : Sess) (v : Int)
  /-- SEGMENT_ENTRY_WRITE (R465): A write to a segment table entry, refused while a running chain holds it. -/
  | segmentEntryWrite (q : Sess) (data : List Byte)
  /-- AXIS_STOP (R470): AxisStop decelerates the axis at Acceleration, keeping its remaining distance. -/
  | axisStop (q : Sess) (v : Int)
  /-- AXIS_RESUME (R472): AxisResume continues an interrupted move, chain or Follow backlog. -/
  | axisResume (q : Sess) (v : Int)
  /-- POSITION_PRESET (R474): A write of PositionPreset at rest sets the position and clears the restore flags. -/
  | positionPreset (q : Sess) (v : Int)
  /-- ACCELERATION_WRITE (R475): A write of Acceleration is taken at the next tick or deferred to the next move. -/
  | accelerationWrite (q : Sess) (v : Int)
  /-- MAX_VELOCITY_WRITE (R454): A write of MaxVelocity is checked against the step width limit and taken at the next tick. -/
  | maxVelocityWrite (q : Sess) (v : Int)
  /-- GROUP_MEMBERS_WRITE (R466): A write of GroupMembers sets an interpolation group, or is refused. -/
  | groupMembersWrite (q : Sess) (v : Int)
  /-- GROUP_TARGET (R467): A write of GroupTarget starts a coordinated group move. -/
  | groupTarget (q : Sess) (data : List Byte)
  /-- GROUP_STOP (R467): GroupStop stops every member along the path. -/
  | groupStop (q : Sess) (v : Int)
  /-- GROUP_AXIS_RESUME (R467): GroupAxisResume resumes the group along its remaining path. -/
  | groupAxisResume (q : Sess) (v : Int)
  /-- AXIS_FAULT (R471): A drive fault edge stops steps at once, drops AENn and puts the axis in FAULT. -/
  | axisFault (gpio : Nat) (high : Bool)
  /-- STEP_IN_EDGE (R468): A STEP_INn edge adds M steps to a Follow axis's backlog. -/
  | stepInEdge (input tick : Nat)
  /-- FOLLOW_TIMEOUT (R468): 4 × τ pass without a coarse edge and the backlog is emitted at the last rate. -/
  | followTimeout (axis : Nat)
  /-- HOST_READ (R495): READ command returns COUNT words of host registers with a CRC-16 trailer. -/
  | hostRead (header : List Byte)
  /-- HOST_WRITE (R496): WRITE command applies COUNT words to host registers once the host CRC passes. -/
  | hostWrite (header : List Byte) (data : List Word32) (crc : BitVec 16)
  /-- POP (R497): POP command takes words of one packet from a host-readable queue with a status word. -/
  | pop (header : List Byte) (cut : Option Nat)
  /-- PUSH (R496): PUSH command writes COUNT words to a host-writable queue. -/
  | push (header : List Byte) (data : List Word32) (crc : BitVec 16)
  /-- PUSH_END (R495): PUSH_END command writes COUNT words and marks the last as the packet end. -/
  | pushEnd (header : List Byte) (data : List Word32) (crc : BitVec 16)
  /-- HCS_N_RISE (R496): HCS_N rises and ends the transaction, early or not, applying nothing of an unfinished write. -/
  | hcsNRise (unfinished : Bool)
  /-- IRQ_STATUS_WRITE (R499): A write of IRQ_STATUS clears the flags written with 1 and updates HIRQ_N. -/
  | irqStatusWrite (clear raised : BitVec 9)
  /-- QUEUE_PACKET_ABORT (R489): An open LENGTH-SLOT packet is aborted and made visible as a 0xFFFF_FFFF slot. -/
  | queuePacketAbort (queue : Nat)
  /-- DICT_READ (R513): OP 0x01 read of an object, on the mailbox or a message transport. -/
  | dictRead (q : Sess) (tag base addr : Nat)
  /-- DICT_WRITE (R508): OP 0x02 write of an object that has no row of its own, applied per its access class. -/
  | dictWrite (q : Sess) (tag base addr : Nat) (data : List Byte)
  /-- DICT_READ_SEGMENT (R515): OP 0x03 read segment returns bytes of the session's snapshot of a large object. -/
  | dictReadSegment (q : Sess) (tag base addr offset : Nat)
  /-- DICT_WRITE_SEGMENT (R515): OP 0x04 write segment appends to the session's partial write and applies it on the last segment. -/
  | dictWriteSegment (q : Sess) (tag base addr offset : Nat) (data : List Byte) (more : Bool)
  /-- DICT_CANCEL (R501): OP 0x05 cancels the session's busy or oldest outstanding request. -/
  | dictCancel (q : Sess)
  /-- DICT_BUSY_TIMEOUT (R517): A request not begun within 200 ms is answered busy and nothing applied. -/
  | dictBusyTimeout (q : Sess)
  /-- DICT_REQUEST_APPLY (R517): The management cores begin and complete a waiting dictionary request and answer it. -/
  | dictRequestApply (q : Sess)
  /-- STORE_COMMIT (R540): Acknowledged stored writes are committed as a new stored-set generation in MRAM. -/
  | storeCommit
  /-- STORE_PARAMETERS (R522): A write of the save signature to 0x1010 answers once the area is committed. -/
  | storeParameters (q : Sess) (sub : Nat) (signature : Nat)
  /-- RESTORE_DEFAULT_PARAMETERS (R522): A write of the load signature to 0x1011 returns the area to image defaults at the next BOOT. -/
  | restoreDefaultParameters (q : Sess) (sub : Nat) (signature : Nat)
  /-- ACCESS_CHALLENGE (R511): A read of AccessChallenge returns a new challenge for the session. -/
  | accessChallenge (q : Sess) (random : List Byte)
  /-- ACCESS_RESPONSE (R511): A write of AccessResponse raises the session level or counts a failure. -/
  | accessResponse (q : Sess) (data : List Byte)
  /-- ACCESS_DROP (R512): A write of AccessDrop returns the session to its default level. -/
  | accessDrop (q : Sess) (v : Int)
  /-- ACCESS_LOCKOUT_END (R512): 60 s after three failures the session may answer a challenge again. -/
  | accessLockoutEnd (q : Sess)
  /-- SESSION_TIMEOUT (R510): A session without a request for SessionTimeout falls back to its default level. -/
  | sessionTimeout (q : Sess)
  /-- TCP_CONNECT (R524): A TCP connection to the dictionary port starts a session, or a fifth is refused. -/
  | tcpConnect (port tcp : Nat)
  /-- TCP_CLOSE (R525): A TCP connection closes and its outstanding requests are dropped. -/
  | tcpClose (n : Fin 4)
  /-- TUNNEL_REQUEST_RX (R528): A rover receives a dictionary tunnel request and answers in contention time. -/
  | tunnelRequestRx (origin : AccessLevel) (sec : Nat) (frames : List (List Byte))
  /-- TUNNEL_RESPONSE_RX (R528): A base receives a rover's tunnel answer and passes it to the requester. -/
  | tunnelResponseRx (frames : List (List Byte))
  /-- REMOTE_TIMEOUT (R528): A remote request is not answered within RemoteTimeout and 0x0504_0000 is returned. -/
  | remoteTimeout (slot : Nat)
  /-- JOURNAL_WRITE (R538): A journal entry of a kind is written at its schedule or event, spilling live entries if needed. -/
  | journalWrite (kind : Nat)
  /-- MRAM_SCRUB (R548): Every 24 h of operation every MRAM line is read and corrected lines rewritten, key slots checked. -/
  | mramScrub (corrected uncorrectable : Nat) (badKeyCopies : List (Nat × Nat))
  /-- NAND_SCRUB (R548): Every 7 days of operation every written NAND page is read. -/
  | nandScrub (found : List (Nat × Nat))
  /-- NAND_REFRESH (R548): A NAND block needing refresh is rewritten. -/
  | nandRefresh (block target : Nat)
  /-- WEAR_LEVEL_MOVE (R548): The least-erased data block is moved for static wear levelling. -/
  | wearLevelMove (block target : Nat)
  /-- NAND_BLOCK_RETIRE (R545): A block that fails or needs too many corrections is copied out and retired. -/
  | nandBlockRetire (block spare : Nat) (failed : Bool)
  /-- AS_APPLIED_EXPORTED_WRITE (R547): A write of AsAppliedExported frees ring space and a gap marker resumes records. -/
  | asAppliedExportedWrite (q : Sess) (v : Int)
  /-- TILE_DAMAGED (R549): An uncorrectable word in map space marks its tile damaged and starts its rebuild. -/
  | tileDamaged (map tile : Nat)
  /-- TILE_REBUILD_COMPLETE (R549): A damaged tile is rebuilt from its checkpoint and the log and may be streamed again. -/
  | tileRebuildComplete (map tile : Nat)
  /-- MILESTONE_SAMPLE (R551): At the end of each sampling period a Milestone quantity is sampled into its histogram and extremes. -/
  | milestoneSample (item load : Nat)
  /-- MILESTONE_HOME_WRITE (R553): Every 6 h of operation the Milestone shadow is written to a home copy. -/
  | milestoneHomeWrite
  /-- MILESTONE_FREEZE (R554): MilestoneFreeze 0x01 freezes the visible items. -/
  | milestoneFreeze (q : Sess)
  /-- MILESTONE_UNFREEZE (R554): MilestoneFreeze 0x00 merges the pending bank into the visible items. -/
  | milestoneUnfreeze (q : Sess)
  /-- MILESTONE_FREEZE_EXPIRY (R554): 60 s after a freeze the pending bank is merged and FREEZE_EXPIRED set. -/
  | milestoneFreezeExpiry
  /-- MILESTONE_CLEAR (R556): A write of 0x004D to MilestoneClear at Service level zeroes every item. -/
  | milestoneClear (q : Sess) (v : Int)
  /-- KEY_IMPORT_SECRET (R563): A write of KeyImportSecret unwraps and stores a secret in slots 4 to 7. -/
  | keyImportSecret (q : Sess) (data : List Byte)
  /-- KEY_IMPORT_PUBLIC (R564): A write of KeyImportPublic replaces the integrator image key after its signature check. -/
  | keyImportPublic (q : Sess) (data : List Byte)
  /-- KEY_ERASE (R565): A write of KeyErase empties key slot 4 to 7. -/
  | keyErase (q : Sess) (v : Int)
  /-- KEY_REGISTER_LOAD (R566): A key register miss unwraps a blob into a volatile key register. -/
  | keyRegisterLoad (slot : Nat) (ok : Bool)
  /-- UART_IMAGE_BLOCK (R575): An image block on UART0 in BOOT is checked and acknowledged with 0x06 or 0x15. -/
  | uartImageBlock (block : List Byte)
  /-- UPDATE_BEGIN (R576): A write of UpdateBegin erases the inactive image slot and sets it receiving. -/
  | updateBegin (q : Sess) (v : Int)
  /-- UPDATE_DATA (R576): A write of UpdateData appends image bytes to the inactive slot. -/
  | updateData (q : Sess) (data : List Byte)
  /-- UPDATE_VERIFY (R576): A write of UpdateVerify checks the received image and sets UpdateResult. -/
  | updateVerify (q : Sess) (v : Int)
  /-- TRIAL_CONFIRM (R577): After 300 s in an operating mode the trial image is confirmed and MinSecurityVersion raised. -/
  | trialConfirm
  /-- TRIAL_TIMEOUT (R577): A trial image not in an operating mode 120 s after reset release reverts to the previous slot. -/
  | trialTimeout
  /-- ACTIVATION_LOCAL (R583): ActivationCommand 0x01 schedules activation of this module alone. -/
  | activationLocal (q : Sess)
  /-- ACTIVATION_FLEET (R579): ActivationCommand 0x02 on the manager offers a fleet activation. -/
  | activationFleet (q : Sess)
  /-- ACTIVATION_CANCEL (R581): ActivationCommand 0x03 cancels the activation. -/
  | activationCancel (q : Sess)
  /-- ACTIVATION_OFFER_RX (R580): A module receives an activation offer and answers. -/
  | activationOfferRx (source : Uplink)
  /-- ACTIVATION_ANSWER_RX (R580): A base receives an activation answer and updates ActivationReady. -/
  | activationAnswerRx (source : Uplink)
  /-- ACTIVATION_COMMIT_POINT (R581): At T − 10 s the manager commits or cancels the activation. -/
  | activationCommitPoint
  /-- ACTIVATION_COMMIT_RX (R581): A module receives the commit and answers 0x05. -/
  | activationCommitRx (source : Uplink)
  /-- ACTIVATION_CANCEL_RX (R581): A module receives an activation cancel. -/
  | activationCancelRx (source : Uplink)
  /-- ACTIVATION_ANSWER_DEADLINE (R581): At T − 2 s a missing 0x05 answer cancels the activation. -/
  | activationAnswerDeadline
  /-- ACTIVATION_TIME (R582): At T each committed module not in HALT marks the new slot in trial and makes the orderly save and reset. -/
  | activationTime
  /-- LINK_TRAINED (R588): The Zheoc link trains with both ends powered and enabled. -/
  | linkTrained
  /-- LANE_DROP (R588): A lane with errors or lost alignment is dropped and the link runs at half rate. -/
  | laneDrop (lane : Nat)
  /-- LANE_REJOIN (R588): A dropped lane rejoins after 100 ms free of errors. -/
  | laneRejoin (lane : Nat)
  /-- ZL_FRAME_RX (R589): A Zheoc link frame is received and acknowledged, and acted on by TYPE. -/
  | zlFrameRx (f : Machine.ZlFrame)
  /-- ZL_RETRANSMIT_TIMEOUT (R589): 20 µs without acknowledgement or a CRC failure makes the sender retransmit. -/
  | zlRetransmitTimeout (crcFailed : Bool)
  /-- HEARTBEAT_TX (R590): Every 200 µs a unit sends a heartbeat frame and its ZL_HB pulse while its health token is fresh. -/
  | heartbeatTx (fresh : Bool)
  /-- HB_PULSE_RX (R590): A partner pulse on ZL_HB in the partner's phase is received. -/
  | hbPulseRx
  /-- HEALTH_TOKEN_EXPIRY (R592): The health token is not refreshed for 0.5 ms and heartbeats stop. -/
  | healthTokenExpiry
  /-- HEARTBEAT_LOSS (R591): No partner heartbeat on a path for 3.0 ms; on both paths in step this triggers failover. -/
  | heartbeatLoss
  /-- DEPOSE (R592): An acting unit whose heartbeat has stopped for 3.0 ms in step is deposed. -/
  | depose
  /-- FENCE (R592): 5.5 ms after its last heartbeat a deposed unit silences its outputs and saves and resets. -/
  | fence
  /-- HALT_OUT_TAKEOVER (R598): At t_h + 5.6 ms the new acting unit starts to drive HALT_OUT_A and HALT_OUT_B. -/
  | haltOutTakeover
  /-- PARTNER_ARBITRATION (R593): After 20 ms of listening in BOOT the unit chooses BASE or STANDBY. -/
  | partnerArbitration (foreignLow higher : Bool)
  /-- DUAL_ACTIVE_DETECT (R593): A unit in BASE sees its partner acting; the higher DEV_ID saves and resets. -/
  | dualActiveDetect (pulse higher : Bool)
  /-- TRANSFER_COMPLETE (R594): The fleet state copy to the standby ends. -/
  | transferComplete
  /-- MIRRORED_INPUT_RX (R595): The standby receives a mirrored input, acknowledges it and applies it in the same frame. -/
  | mirroredInputRx (seq frame : Nat) (x : Machine.MirrorInput)
  /-- MIRROR_TIMEOUT (R595): A mirrored input is not acknowledged within 1 ms and the pair becomes OUT_OF_STEP. -/
  | mirrorTimeout
  /-- FRAME_DIGEST (R596): At the end of each 1 ms frame the units compare digests and enter or leave IN_STEP. -/
  | frameDigest
  /-- ROLE_SWITCH (R601): At the chosen 1 ms boundary the pair exchanges the acting and standby roles. -/
  | roleSwitch
  /-- DIE_TEMPERATURE_SAMPLE (R619): Every 100 ms the die temperature is measured and warning and throttling judged. -/
  | dieTemperatureSample (milliC : Int)
  /-- WORKER_RELAY_RX (R296): A worker receives from the manager over the base link a claim result, offer or revocation for one of its machines and relays it on its downlink. -/
  | workerRelayRx (head : LinkHead) (slot : Nat) (r : AirRecord)
  /-- BASE_LINK_DICT_RESPONSE_RX (R524): The manager receives a worker's response to a forwarded dictionary request and passes it to the originating session. -/
  | baseLinkDictResponseRx (head : LinkHead) (data : List Byte)
  /-- TC_STATUS_RX (R430): A TC status message arrives on CAN1, restarting the 6 s supervision and letting a disconnected task controller client reconnect. -/
  | tcStatusRx
  /-- CAN_ERROR_PASSIVE (R426): A CAN controller enters error passive and CAN0 sends EMCY 0x8120. -/
  | canErrorPassive (ctl tec : Nat)
  /-- NTRIP_CONNECTION_LOST (R168): The NTRIP connection is lost and the retry wait starts, doubling up to 60 s. -/
  | ntripConnectionLost
  /-- RTCM_TCP_CONNECT (R166): A client connects to the RTCM TCP server on ETH0 and is served, or is refused beyond 4 clients. -/
  | rtcmTcpConnect (port : Nat)
  /-- FAULT_INPUT_DEASSERT (R476): The drive fault input of an axis returns to its inactive level and FAULT_ACTIVE clears, allowing AxisEnable to leave FAULT. -/
  | faultInputDeassert (gpio : Nat) (high : Bool)
  deriving DecidableEq, Repr

end Sys2Proof
end

