-- ==== Sys2Proof/Decode.lean ====
section
/-!
DEFINITION. Decode.lean: the command that a word of the opcode table spells. The table gives its rows no bits: the block has no
instruction words, its commands arrive as transactions, frames and levels, which the operands hold (log 11).
-/
namespace Sys2Proof

/-- The command that the first nbits bits of w spell: none, since the table gives no row any bits (log 11). -/
def decodeTableWord (_nbits _w : Nat) : Option Instr := none

end Sys2Proof
end

