-- ==== Sys2Proof/Config.lean ====
section
/-!
DEFINITION. Config.lean: what an implementation fixes and the values the spec leaves open. Every
constant here is opaque: no proof can see its value, so a claim that holds, holds whatever it is.
-/
namespace Sys2Proof.Config

/-- The one source of fresh open values: the n-th value drawn, of w bits. The state counts the draws
(State.draws), so two draws are unrelated (log 5). -/
opaque freeBits (w : Nat) : Nat → BitVec w

/-- The n-th open truth value drawn (log 5). -/
opaque freeBool : Nat → Bool

/-- The n-th open integer drawn (log 5). -/
opaque freeInt : Nat → Int

/-- HMAC-SHA-256 (R511, R573, R309): the 32-byte code over a message under a key. A published function the
spec names; the model leaves its values open (log 6). -/
opaque hmacSha256 : List Byte → List Byte → List Byte

/-- SHA-256 (R571): the 32-byte digest of a message (log 6). -/
opaque sha256 : List Byte → List Byte

/-- AES-128-CCM with the Adetre parameters (R323): the MIC of the associated data and plain text under
a key and a nonce; as many bytes as asked (log 6). -/
opaque ccmMic : List Byte → List Byte → List Byte → List Byte → Nat → List Byte

/-- AES-128-CCM encryption and decryption share one key stream: the bytes of the stream under a key and a
nonce, as many as asked (log 6). -/
opaque ctrStream : List Byte → List Byte → Nat → List Byte

/-- ECDSA P-256 verification: public key, digest, signature (R571, R573) (log 6). -/
opaque ecdsaVerify : List Byte → List Byte → List Byte → Bool

/-- The x coordinate of the ECDH P-256 shared point: private key, public key (R567) (log 6). -/
opaque ecdh : List Byte → List Byte → List Byte

/-- HKDF-SHA-256: secret, salt, info, length (R567) (log 6). -/
opaque hkdf : List Byte → List Byte → List Byte → Nat → List Byte

/-- AES key unwrap of a wrapped blob under a wrap key; none where the integrity check fails (R563) (log 6). -/
opaque aesUnwrap : List Byte → List Byte → Option (List Byte)

/-- AES key wrap (R566) (log 6). -/
opaque aesWrap : List Byte → List Byte → List Byte

/-- The P-256 public key of a private key, and whether 64 bytes are a point of the curve (R567) (log 6). -/
opaque p256Public : List Byte → List Byte
opaque p256OnCurve : List Byte → Bool

/-- The material of the key slots written at manufacture: root public key, device key, device certificate (R559), and the
public key of the test root fixed in the ROM, as slot 32 (R570) (log 24). -/
opaque factoryKey : Nat → List Byte

/-- The length byte of a record of R337 whose data are longer than 255 bytes (log 25). -/
opaque longLength : Nat → Byte

/-- The payload length of a journal entry of a kind (R538 states the content, not the layout), in bytes (log 12). -/
opaque journalPayload : Nat → Nat

/-- The bytes by which an entry of the stored set exceeds its value, at most 256 (R540 names the fields, not all their widths) (log 12). -/
opaque storedOverhead : Fin 257

/-- The silicon revision of HOST_ID (R10, R499): one of the 26 capital letters and one digit, sent in ASCII (log 13). -/
opaque revLetter : Fin 26
opaque revDigit : Fin 10

/-- The digest of the almanac that the receiver keeps, from the digest before and a navigation unit's data (R94, item 10) (log 70). -/
opaque almanacDigest : Nat → List Byte → Nat

/-- The ready-list level that the active image gives the task of a flow (R478); read modulo the 32 levels (log 16). -/
opaque flowLevel : Nat → Nat

/-- The flow of the RTK epoch task (R169, R479), fixed by the image (log 16). -/
opaque rtkFlow : Nat

/-! ### GNSS: arithmetic of the image's programs that the spec names and does not give (log 20) -/

/-- The carrier replica at a phase in 2^-48 cycles: I and Q, each quantised to 5 bits, less 15 (R123). -/
opaque carrierReplica : BitVec 48 → Fin 31 × Fin 31

/-- The primary code of a satellite's component, by SignalId, satellite and chip, and the code of the same family that is assigned to no
satellite (R121): published sequences. -/
opaque codeChip : Nat → Nat → Nat → Bool
opaque noiseChip : Nat → Nat → Bool

/-- The code epoch, modulo those of a data bit or secondary chip, on which the edge falls, from the signs of P over the last epochs
of a component with a secondary code (R134). -/
opaque secondaryEdge : Nat → List Bool → Option Nat

/-- The forward error correction of a component, by SignalId and kind of unit (R134, R135): the message bits of the symbols; none where
the decoder fails. Viterbi, LDPC and BCH codes of the published specifications (log 152). -/
opaque fecDecode : Nat → Nat → List Bool → Option (List Bool)

/-- The system time in ns since 2000-01-01T00:00:00 of its own scale at which the first bit of a unit was sent, and the leap-second
count of its UTC parameters, where the unit gives them (R158, R162): the published message formats (log 152). -/
opaque unitTime : Nat → List Bool → Option Int
opaque unitLeap : Nat → List Bool → Option Nat

/-- The discriminators of R147, whose scaling the spec does not give: the phase error of a prompt sum, by arctangent of two or of four
quadrants, and the frequency error of cross and dot product. -/
opaque pllError : Bool → Int → Int → Int
opaque fllError : Int → Int → Int

/-- The carrier loop (R147, R150): PLL and FLL bandwidth in mHz, T_coh in ms, phase and frequency error, integrators and FREQ give the
integrators and FREQ. -/
opaque carrierLoop : Nat → Nat → Nat → Int → Int → Int × Int → BitVec 48 → (Int × Int) × BitVec 48

/-- The correction of RATE by the code loop (R147, R150): DLL bandwidth in mHz, T_coh in ms, early minus late power and their sum. -/
opaque codeLoop : Nat → Nat → Int → Int → Int

/-- The integrators with which a carrier loop of other gains gives the FREQ in force (R152, R154, R211). -/
opaque loopInit : Nat → Nat → Nat → BitVec 48 → Int × Int

/-- The C/N0 estimate from prompt and noise taps of 100 ms, in 0.01 dB-Hz (R150). -/
opaque cn0 : List (Nat × Int × Int) → List (Int × Int) → Int

/-- The mean of a sum of K noise powers over its median, Q16.16 (R131). -/
opaque medianRatio : Nat → Nat

/-- CNO of a peak at or below the noise, of which the formula of R132 has no logarithm (log 153). -/
opaque lowCno : Nat → BitVec 16

/-- The window of an aided search by SignalId (R129): code bins and Doppler bins. -/
opaque aidWindow : Nat → Nat × Nat

/-- The middle of an aided window from position, time and ephemeris (R129): SignalId, satellite, position and TIME64 give the code phase
in 1/256 chip and the Doppler in mHz. -/
opaque aidPredict : Nat → Nat → Int × Int × Int → Int → Nat × Int

/-- The reference offset of a carrier, in mHz, from the learned clock rate (R125, R158). -/
opaque refOffset : Int → Nat → Int

/-- GLONASS frequency number of a slot, -7 to +6 (R116, from the almanac). -/
opaque glonassChannel : Nat → Int

/-- The Alley queue that the image gives the host copy of RTCM messages (R166 names none), read modulo 64 (log 22). -/
opaque rtcmQueue : Nat

/-- The bytes of an RTCM 10403.3 message, a published format (R165): its number; station ID, multiple-message bit, time of its
constellation, ECEF position and antenna height; and the observable entries that it carries (log 22). -/
opaque rtcmBytes : Nat → List Int → List (List Byte) → List Byte

/-- RTCM 10403.3 assigns a component a signal identifier (R165) (log 22). -/
opaque rtcmAssigns : Nat → Bool

/-- An NMEA GGA sentence, a published format, of a position, a TIME64, a solution state and a number of satellites (R168) (log 22). -/
opaque ggaSentence : Int × Int × Int → Int → Nat → Nat → List Byte

/-! ### Boulevard: instructions whose rounding the spec does not state (log 164) -/

/-- CORDIC (R192) of two registers: 0 atan2, 1 magnitude, 2 rotation; and DIV, the signed quotient. -/
opaque cordic : Fin 3 → BitVec 32 → BitVec 32 → BitVec 32
opaque laneDivide : BitVec 32 → BitVec 32 → BitVec 32

/-- The same on numbers over a power of two in a fallback, and the bitwise operations on them. -/
opaque floatCordic : Fin 3 → Int → Int → Int → Int
opaque floatDivide : Int → Int → Int → Int
opaque floatLogic : Nat → Int → Int → Int → Int

/-! ### Geometry: functions of reals whose rounding the spec does not state (log 23) -/

/-- x · sin and x · cos of an angle in µdeg. -/
opaque sinMul : Int → Int → Int
opaque cosMul : Int → Int → Int

/-- The course of a velocity, east and north, in µdeg (R238). -/
opaque course : Int → Int → Int

/-- The square root of a sum of squares. -/
opaque root : Nat → Nat

/-- x times an angle of 0.001° in radians (R234). -/
opaque radMul : Nat → Nat → Nat

/-- Speed over yaw rate: µm/s, µdeg/s, to µm (R238). -/
opaque turnRadius : Int → Int → Int

/-- A vector of the IMU turned into the body frame by roll, pitch and yaw, Q16.16 degrees (R626, log 164). -/
opaque bodyAxes : Int → Int → Int → List Int → List Int

/-- The elevation of a vector, east, north and up, in µdeg (R174). -/
opaque elevation : Int → Int → Int → Int

/-- A position (latitude, longitude, height) moved by a velocity, north, east and up in 0.1 mm/s, for a time in ns (R179). -/
opaque advance : Int × Int × Int → Int × Int × Int → Int → Int × Int × Int

/-- A position moved by a lever arm in mm in the body frame at a heading, pitch and roll in µdeg (R181). -/
opaque leverArm : Int × Int × Int → Int × Int × Int → Int × Int × Int → Int × Int × Int

/-- The capabilities that a manager takes a machine of another base to have (log 27). -/
opaque remoteCaps : Nat → Nat

/-- Fields of the correction stream from the observables of one satellite (R338), whose rounding and phase origin the spec
does not state: ROUGH from the pseudoranges; FINE_PR and FINE_PHASE from signal, pseudorange, phase and ROUGH (log 26). -/
opaque roughRange : List Nat → Nat
opaque finePr : Nat → Nat → Nat → Int
opaque finePhase : Nat → Int → Nat → Int

/-- The implement heading integrated over a time in ms (R239): heading, the motion's numbers, the hitch's numbers, the time. -/
opaque trail : Int → List Int → List Int → Int → Int

/-- The digest of a 1 ms frame over the inputs applied and the counters (R596), a CRC-32 whose byte layout the spec does not
give (log 48). -/
opaque frameDigest : List Nat → BitVec 32

/-- The standby holds a verified inactive image of a digest (R602); how the acting unit learns it the spec does not state (log 48). -/
opaque standbyVerified : List Byte → Bool

/-- The wrapping key that is derived from key slot 7 (R589), by a derivation the spec does not give (log 48). -/
opaque linkWrapKey : List Byte → List Byte

/-- The bytes of an Ethernet frame that carries a base-link message of a queue: the spec gives the fields, not their layout
(log 39). -/
opaque linkBytes : Nat → Nat

end Sys2Proof.Config
end

