-- ==== Sys2Proof/Machine/Check.lean ====
section
/-!
DEFINITION. Machine/Check.lean: the check codes of R624 and of R321, R415, and the byte order of R17.
-/
namespace Sys2Proof.Machine

/-- n rounds of a non-reflected CRC step of width w under polynomial p. -/
def crcShift {w : Nat} (p : BitVec w) : Nat → BitVec w → BitVec w
  | 0, c => c
  | n + 1, c => crcShift p n (if c.msb then (c <<< 1) ^^^ p else c <<< 1)

/-- One byte, most significant bit first, into a CRC of 16 bits. -/
def crc16Byte (c : BitVec 16) (b : Byte) : BitVec 16 := crcShift 0x1021 8 (c ^^^ (b.zeroExtend 16 <<< 8))

/-- CRC-16 of R624. -/
def crc16 (bs : List Byte) : BitVec 16 := bs.foldl crc16Byte 0xFFFF

/-- CRC-8 of the host port header (R493, R624). -/
def crc8 (bs : List Byte) : BitVec 8 := bs.foldl (fun c b => crcShift 0x07 8 (c ^^^ b)) 0

/-- n rounds of the reflected CRC-32 step. -/
def crc32Shift : Nat → BitVec 32 → BitVec 32
  | 0, c => c
  | n + 1, c => crc32Shift n (if c.getLsbD 0 then (c >>> 1) ^^^ 0xEDB88320 else c >>> 1)

/-- CRC-32 of R415 and R624, before the final XOR. -/
def crc32Raw (bs : List Byte) : BitVec 32 := bs.foldl (fun c b => crc32Shift 8 (c ^^^ b.zeroExtend 32)) 0xFFFFFFFF

/-- CRC-32 of R624. -/
def crc32 (bs : List Byte) : BitVec 32 := crc32Raw bs ^^^ 0xFFFFFFFF

/-- n bytes of a number, least significant first (R17). -/
def leBytes : Nat → Nat → List Byte
  | 0, _ => []
  | n + 1, x => BitVec.ofNat 8 x :: leBytes n (x / 256)

/-- n bytes of an integer in two's complement, least significant first. -/
def leInt (n : Nat) (x : Int) : List Byte := leBytes n (x % (256 ^ n : Nat)).toNat

/-- The number that bytes spell, least significant first (R17). -/
def leNat : List Byte → Nat
  | [] => 0
  | b :: t => b.toNat + 256 * leNat t

/-- The two's-complement integer that bytes spell, least significant first. -/
def leSigned (bs : List Byte) : Int :=
  let v := leNat bs
  if 2 * v < 256 ^ bs.length then (v : Int) else (v : Int) - (256 ^ bs.length : Nat)

/-- The number that bytes spell, most significant first. -/
def beNat (bs : List Byte) : Nat := bs.foldl (fun a b => a * 256 + b.toNat) 0

/-- n bytes of a number, most significant first. -/
def beBytes (n x : Nat) : List Byte := (leBytes n x).reverse

/-- n bytes from an offset on; missing bytes read 0. -/
def slice (bs : List Byte) (off n : Nat) : List Byte :=
  let got := (bs.drop off).take n
  got ++ List.replicate (n - got.length) 0

/-- An unsigned little-endian field of n bytes at an offset. -/
def fieldU (bs : List Byte) (off n : Nat) : Nat := leNat (slice bs off n)

/-- A signed little-endian field of n bytes at an offset. -/
def fieldI (bs : List Byte) (off n : Nat) : Int := leSigned (slice bs off n)

/-- A record with its CRC-32 appended (R624). -/
def withCrc32 (bs : List Byte) : List Byte := bs ++ leBytes 4 (crc32 bs).toNat

/-- The last four bytes are the CRC-32 of those before. -/
def crc32Ok (bs : List Byte) : Bool :=
  decide (4 ≤ bs.length) && decide (leNat (bs.drop (bs.length - 4)) = (crc32 (bs.take (bs.length - 4))).toNat)

/-- Bit n of a number. -/
def bit (x n : Nat) : Bool := x.testBit n

/-- 2^n where the flag stands, else 0. -/
def flag (b : Bool) (n : Nat) : Nat := if b then 2 ^ n else 0

/-- The bits of a number from lo on, w of them. -/
def bits (x lo w : Nat) : Nat := x / 2 ^ lo % 2 ^ w

/-- The number of bits set among the low n. -/
def popcount (x : Nat) : Nat → Nat
  | 0 => 0
  | n + 1 => popcount x n + (if x.testBit n then 1 else 0)

/-- The order of two n-bit counters by signed difference (R23): positive where a is later than b. -/
def signedDiff (n a b : Nat) : Int :=
  let d := ((a : Int) - b) % (2 ^ n : Nat)
  if 2 * d < (2 ^ n : Nat) then d else d - (2 ^ n : Nat)

/-- A value brought within two bounds. -/
def clampInt (lo hi x : Int) : Int := if x < lo then lo else if hi < x then hi else x

end Sys2Proof.Machine
end

