-- ==== Sys2Proof/Machine/Objects.lean ====
section
/-!
DEFINITION. Machine/Objects.lean: the objects of the Basmir dictionary, one definition per row of an
object table of the spec (the rule that states the row stands beside each), and their list in ascending
address order (R533). A default that the spec gives as Restored, From image, Fixed by image, Manufacture,
or as a dash, reads 0 here (DESIGN CHOICE, log 3): its value comes from the block that holds it.
-/
namespace Sys2Proof.Machine

/-- One row of an object table. -/
def obj (idx sub : Nat) (ty : ObjType) (acc : AccessClass) (lvl : AccessLevel) (dflt : Int) (rng : ObjRange)
    (size roles : Nat) (nextBoot cursor : Bool) (windowOf : Nat) : ObjDesc :=
  { idx := idx, sub := sub, ty := ty, acc := acc, lvl := lvl, dflt := dflt, rng := rng, size := size,
    roles := roles, nextBoot := nextBoot, cursor := cursor, windowOf := windowOf }

/-- 0x1000:00 DeviceType (R531). -/
def Obj.deviceType : ObjDesc := obj 0x1000 0x00 .u32 .const .operator 0 .any 4 7 false false 0
/-- 0x1001:00 ErrorRegister (R531). -/
def Obj.errorRegister : ObjDesc := obj 0x1001 0x00 .u8 .ro .operator 0 .any 1 7 false false 0
/-- 0x1003:00 PredefinedErrors (R531). -/
def Obj.predefinedErrors : ObjDesc := obj 0x1003 0x00 .u8 .rw .integrator 0 .any 1 7 false false 0
/-- 0x1003:01 ErrorField1 (R531). -/
def Obj.errorField1 : ObjDesc := obj 0x1003 0x01 .u32 .ro .operator 0 .any 4 7 false false 0
/-- 0x1003:02 ErrorField2 (R531). -/
def Obj.errorField2 : ObjDesc := obj 0x1003 0x02 .u32 .ro .operator 0 .any 4 7 false false 0
/-- 0x1003:03 ErrorField3 (R531). -/
def Obj.errorField3 : ObjDesc := obj 0x1003 0x03 .u32 .ro .operator 0 .any 4 7 false false 0
/-- 0x1003:04 ErrorField4 (R531). -/
def Obj.errorField4 : ObjDesc := obj 0x1003 0x04 .u32 .ro .operator 0 .any 4 7 false false 0
/-- 0x1003:05 ErrorField5 (R531). -/
def Obj.errorField5 : ObjDesc := obj 0x1003 0x05 .u32 .ro .operator 0 .any 4 7 false false 0
/-- 0x1003:06 ErrorField6 (R531). -/
def Obj.errorField6 : ObjDesc := obj 0x1003 0x06 .u32 .ro .operator 0 .any 4 7 false false 0
/-- 0x1003:07 ErrorField7 (R531). -/
def Obj.errorField7 : ObjDesc := obj 0x1003 0x07 .u32 .ro .operator 0 .any 4 7 false false 0
/-- 0x1003:08 ErrorField8 (R531). -/
def Obj.errorField8 : ObjDesc := obj 0x1003 0x08 .u32 .ro .operator 0 .any 4 7 false false 0
/-- 0x1005:00 CobIdSync (R531). -/
def Obj.cobIdSync : ObjDesc := obj 0x1005 0x00 .u32 .rws .integrator 128 .any 4 7 false false 0
/-- 0x1008:00 DeviceName (R531). -/
def Obj.deviceName : ObjDesc := obj 0x1008 0x00 .str .const .operator 0 .any 7 7 false false 0
/-- 0x1009:00 HardwareVersion (R531). -/
def Obj.hardwareVersion : ObjDesc := obj 0x1009 0x00 .str .const .operator 0 .any 2 7 false false 0
/-- 0x100A:00 SoftwareVersion (R531). -/
def Obj.softwareVersion : ObjDesc := obj 0x100A 0x00 .str .const .operator 0 .any 15 7 false false 0
/-- 0x1010:00, the highest sub-index (CiA 301; PRESUMED, log 38). -/
def Obj.storeCount : ObjDesc := obj 0x1010 0x00 .u8 .const .operator 3 .any 1 7 false false 0
/-- 0x1010:01 StoreAll (R531). -/
def Obj.storeAll : ObjDesc := obj 0x1010 0x01 .u32 .rw .integrator 1 .any 4 7 false false 0
/-- 0x1010:02 StoreCommunication (R531). -/
def Obj.storeCommunication : ObjDesc := obj 0x1010 0x02 .u32 .rw .integrator 1 .any 4 7 false false 0
/-- 0x1010:03 StoreApplication (R531). -/
def Obj.storeApplication : ObjDesc := obj 0x1010 0x03 .u32 .rw .integrator 1 .any 4 7 false false 0
/-- 0x1011:00, the highest sub-index (CiA 301; PRESUMED, log 38). -/
def Obj.restoreCount : ObjDesc := obj 0x1011 0x00 .u8 .const .operator 3 .any 1 7 false false 0
/-- 0x1011:01 RestoreAll (R531). -/
def Obj.restoreAll : ObjDesc := obj 0x1011 0x01 .u32 .rw .integrator 1 .any 4 7 false false 0
/-- 0x1011:02 RestoreCommunication (R531). -/
def Obj.restoreCommunication : ObjDesc := obj 0x1011 0x02 .u32 .rw .integrator 1 .any 4 7 false false 0
/-- 0x1011:03 RestoreApplication (R531). -/
def Obj.restoreApplication : ObjDesc := obj 0x1011 0x03 .u32 .rw .integrator 1 .any 4 7 false false 0
/-- 0x1014:00 CobIdEmcy (R531). -/
def Obj.cobIdEmcy : ObjDesc := obj 0x1014 0x00 .u32 .rws .integrator (-1) .any 4 7 false false 0
/-- 0x1016:00, the highest sub-index (CiA 301; PRESUMED, log 38). -/
def Obj.consumerCount : ObjDesc := obj 0x1016 0x00 .u8 .const .operator 4 .any 1 7 false false 0
/-- 0x1016:01 ConsumerHeartbeat1 (R531). -/
def Obj.consumerHeartbeat1 : ObjDesc := obj 0x1016 0x01 .u32 .rws .integrator 0 .any 4 7 false false 0
/-- 0x1016:02 ConsumerHeartbeat2 (R531). -/
def Obj.consumerHeartbeat2 : ObjDesc := obj 0x1016 0x02 .u32 .rws .integrator 0 .any 4 7 false false 0
/-- 0x1016:03 ConsumerHeartbeat3 (R531). -/
def Obj.consumerHeartbeat3 : ObjDesc := obj 0x1016 0x03 .u32 .rws .integrator 0 .any 4 7 false false 0
/-- 0x1016:04 ConsumerHeartbeat4 (R531). -/
def Obj.consumerHeartbeat4 : ObjDesc := obj 0x1016 0x04 .u32 .rws .integrator 0 .any 4 7 false false 0
/-- 0x1017:00 ProducerHeartbeat (R531). -/
def Obj.producerHeartbeat : ObjDesc := obj 0x1017 0x00 .u16 .rws .integrator 0 .any 2 7 false false 0
/-- 0x1018:00, the highest sub-index (CiA 301; PRESUMED, log 38). -/
def Obj.identityCount : ObjDesc := obj 0x1018 0x00 .u8 .const .operator 4 .any 1 7 false false 0
/-- 0x1018:01 IdentityVendor (R531). -/
def Obj.identityVendor : ObjDesc := obj 0x1018 0x01 .u32 .const .operator 3633 .any 4 7 false false 0
/-- 0x1018:02 IdentityProduct (R531). -/
def Obj.identityProduct : ObjDesc := obj 0x1018 0x02 .u32 .const .operator 18448 .any 4 7 false false 0
/-- 0x1018:03 IdentityRevision (R531). -/
def Obj.identityRevision : ObjDesc := obj 0x1018 0x03 .u32 .const .operator 0 .any 4 7 false false 0
/-- 0x1018:04 IdentitySerial (R531). -/
def Obj.identitySerial : ObjDesc := obj 0x1018 0x04 .u32 .const .operator 0 .any 4 7 false false 0
/-- 0x1200:00, the highest sub-index (CiA 301; PRESUMED, log 38). -/
def Obj.sdoCount : ObjDesc := obj 0x1200 0x00 .u8 .const .operator 2 .any 1 7 false false 0
/-- 0x1200:01 SdoCobIdRx (R531). -/
def Obj.sdoCobIdRx : ObjDesc := obj 0x1200 0x01 .u32 .ro .operator 1537 .any 4 7 false false 0
/-- 0x1200:02 SdoCobIdTx (R531). -/
def Obj.sdoCobIdTx : ObjDesc := obj 0x1200 0x02 .u32 .ro .operator 1409 .any 4 7 false false 0
/-- 0x2000:01 ModeRequest (R41). -/
def Obj.modeRequest : ObjDesc := obj 0x2000 0x01 .u8 .wo .integrator 0 (.span 2 7) 1 7 false false 0
/-- 0x2000:02 ModeRequestResult (R41). -/
def Obj.modeRequestResult : ObjDesc := obj 0x2000 0x02 .u8 .ro .operator 0 (.span 0 4) 1 7 false false 0
/-- 0x2000:03 ModeCurrent (R41). -/
def Obj.modeCurrent : ObjDesc := obj 0x2000 0x03 .u8 .ro .operator 1 (.span 1 9) 1 7 false false 0
/-- 0x2000:04 BaseSubRole (R41). -/
def Obj.baseSubRole : ObjDesc := obj 0x2000 0x04 .u8 .rws .integrator 0 (.oneOf [0, 1]) 1 7 false false 0
/-- 0x2000:05 HaltCause (R41). -/
def Obj.haltCause : ObjDesc := obj 0x2000 0x05 .u8 .ro .operator 0 (.span 0 6) 1 7 false false 0
/-- 0x2000:06 BootSampled (R69). -/
def Obj.bootSampled : ObjDesc := obj 0x2000 0x06 .u8 .ro .operator 0 (.span 0 255) 1 7 false false 0
/-- 0x2000:07 ResetRequest (R107). -/
def Obj.resetRequest : ObjDesc := obj 0x2000 0x07 .u16 .wo .integrator 0 (.oneOf [165]) 2 7 false false 0
/-- 0x2000:08 HoldupSagLevel (R107). -/
def Obj.holdupSagLevel : ObjDesc := obj 0x2000 0x08 .q16 .rws .integrator 167117 (.span 167117 1835008) 4 7 true false 0
/-- 0x2000:09 VholdCapacitance (R107). -/
def Obj.vholdCapacitance : ObjDesc := obj 0x2000 0x09 .u16 .ro .operator 0 (.span 0 65535) 2 7 false false 0
/-- 0x2000:0A ResetCause (R107). -/
def Obj.resetCause : ObjDesc := obj 0x2000 0x0A .u32 .ro .operator 0 (.span 0 4294967295) 4 7 false false 0
/-- 0x2000:0B PowerStatus (R107). -/
def Obj.powerStatus : ObjDesc := obj 0x2000 0x0B .u16 .ro .operator 0 (.span 0 65535) 2 7 false false 0
/-- 0x2000:0C VholdVoltage (R107). -/
def Obj.vholdVoltage : ObjDesc := obj 0x2000 0x0C .q16 .ro .operator 0 (.span 0 2097152) 4 7 false false 0
/-- 0x2000:0D BootImageResult (R584). -/
def Obj.bootImageResult : ObjDesc := obj 0x2000 0x0D .u8 .ro .operator 1 (.span 0 10) 1 7 false false 0
/-- 0x2000:0E OutputSlew (R620). -/
def Obj.outputSlew : ObjDesc := obj 0x2000 0x0E .u16 .rws .integrator 32065 (.span 0 65535) 2 7 true false 0
/-- 0x2000:0F ClockSpread (R620). -/
def Obj.clockSpread : ObjDesc := obj 0x2000 0x0F .u8 .rws .integrator 0 (.span 0 31) 1 7 true false 0
/-- 0x2000:10 DieTemperature (R620). -/
def Obj.dieTemperature : ObjDesc := obj 0x2000 0x10 .i32 .ro .operator 0 (.span (-60000) 160000) 4 7 false false 0
/-- 0x2000:11 ThermalStatus (R620). -/
def Obj.thermalStatus : ObjDesc := obj 0x2000 0x11 .u8 .ro .operator 0 (.span 0 255) 1 7 false false 0
/-- 0x2010:01 SessionLevel (R532). -/
def Obj.sessionLevel : ObjDesc := obj 0x2010 0x01 .u8 .ro .operator 0 (.span 0 255) 1 7 false false 0
/-- 0x2010:02 AccessChallenge (R532). -/
def Obj.accessChallenge : ObjDesc := obj 0x2010 0x02 .octets .ro .operator 0 .any 16 7 false false 0
/-- 0x2010:03 AccessResponse (R532). -/
def Obj.accessResponse : ObjDesc := obj 0x2010 0x03 .octets .wo .operator 0 .any 17 7 false false 0
/-- 0x2010:04 AccessDrop (R532). -/
def Obj.accessDrop : ObjDesc := obj 0x2010 0x04 .u8 .wo .operator 0 (.oneOf [1]) 1 7 false false 0
/-- 0x2010:05 SessionTimeout (R532). -/
def Obj.sessionTimeout : ObjDesc := obj 0x2010 0x05 .u16 .rws .integrator 300 (.span 30 3600) 2 7 false false 0
/-- 0x2010:06 SessionId (R532). -/
def Obj.sessionId : ObjDesc := obj 0x2010 0x06 .u8 .ro .operator 0 (.span 0 255) 1 7 false false 0
/-- 0x2020:01 DictTcpEnable (R532). -/
def Obj.dictTcpEnable : ObjDesc := obj 0x2020 0x01 .u8 .rws .integrator 0 (.span 0 3) 1 7 false false 0
/-- 0x2020:02 DictTcpPort (R532). -/
def Obj.dictTcpPort : ObjDesc := obj 0x2020 0x02 .u16 .rws .integrator 5019 (.span 1024 65535) 2 7 true false 0
/-- 0x2020:03 RemoteTimeout (R532). -/
def Obj.remoteTimeout : ObjDesc := obj 0x2020 0x03 .u16 .rws .integrator 2000 (.span 500 10000) 2 7 false false 0
/-- 0x2020:04 TunnelEnable (R532). -/
def Obj.tunnelEnable : ObjDesc := obj 0x2020 0x04 .u8 .rws .integrator 1 (.oneOf [0, 1]) 1 7 false false 0
/-- 0x2100:01 EthPortCursor (R432). -/
def Obj.ethPortCursor : ObjDesc := obj 0x2100 0x01 .u8 .rw .operator 0 (.oneOf [0, 1]) 1 7 false true 0
/-- 0x2100:02 EthInterface (R432). -/
def Obj.ethInterface : ObjDesc := obj 0x2100 0x02 .u8 .rws .integrator 0 (.oneOf [0, 1, 2]) 1 7 true false 0x210001
/-- 0x2100:03 EthEnable (R432). -/
def Obj.ethEnable : ObjDesc := obj 0x2100 0x03 .u8 .rw .integrator 1 (.oneOf [0, 1]) 1 7 false false 0x210001
/-- 0x2100:04 EthPhyAddress (R432). -/
def Obj.ethPhyAddress : ObjDesc := obj 0x2100 0x04 .u8 .rws .integrator 0 (.span 0 31) 1 7 false false 0x210001
/-- 0x2100:05 EthStatus (R432). -/
def Obj.ethStatus : ObjDesc := obj 0x2100 0x05 .u16 .ro .operator 0 (.span 0 65535) 2 7 false false 0x210001
/-- 0x2100:06 PauseMode (R432). -/
def Obj.pauseMode : ObjDesc := obj 0x2100 0x06 .u8 .rws .integrator 3 (.span 0 3) 1 7 false false 0x210001
/-- 0x2100:07 PauseQuanta (R432). -/
def Obj.pauseQuanta : ObjDesc := obj 0x2100 0x07 .u16 .rws .integrator 65535 (.span 1 65535) 2 7 false false 0x210001
/-- 0x2100:08 RxDropped (R432). -/
def Obj.rxDropped : ObjDesc := obj 0x2100 0x08 .u32 .ro .operator 0 (.span 0 4294967295) 4 7 false false 0x210001
/-- 0x2100:09 PauseReceived (R432). -/
def Obj.pauseReceived : ObjDesc := obj 0x2100 0x09 .u32 .ro .operator 0 (.span 0 4294967295) 4 7 false false 0x210001
/-- 0x2100:0A MacAddress (R432). -/
def Obj.macAddress : ObjDesc := obj 0x2100 0x0A .octets .rws .integrator 0 .any 6 7 false false 0x210001
/-- 0x2100:0B EthIpv4Config (R432). -/
def Obj.ethIpv4Config : ObjDesc := obj 0x2100 0x0B .octets .rws .integrator 0 .any 16 7 false false 0x210001
/-- 0x2110:01 WakeCursor (R432). -/
def Obj.wakeCursor : ObjDesc := obj 0x2110 0x01 .u8 .rw .integrator 0 (.span 0 15) 1 7 false true 0
/-- 0x2110:02 WakeMask (R432). -/
def Obj.wakeMask : ObjDesc := obj 0x2110 0x02 .octets .rws .integrator 0 .any 16 7 false false 0x211001
/-- 0x2110:03 WakeCrc (R432). -/
def Obj.wakeCrc : ObjDesc := obj 0x2110 0x03 .u32 .rws .integrator 0 (.span 0 4294967295) 4 7 false false 0x211001
/-- 0x2110:04 WakePorts (R432). -/
def Obj.wakePorts : ObjDesc := obj 0x2110 0x04 .u8 .rws .integrator 0 (.span 0 3) 1 7 false false 0x211001
/-- 0x2110:05 WakeLast (R432). -/
def Obj.wakeLast : ObjDesc := obj 0x2110 0x05 .u8 .ro .operator 255 (.span 0 15) 1 7 false false 0
/-- 0x2120:01 GateEnable (R432). -/
def Obj.gateEnable : ObjDesc := obj 0x2120 0x01 .u8 .rws .integrator 0 (.oneOf [0, 1]) 1 7 false false 0x210001
/-- 0x2120:02 GateBaseTime (R432). -/
def Obj.gateBaseTime : ObjDesc := obj 0x2120 0x02 .time64 .rws .integrator 0 (.span (-9223372036854775808) 9223372036854775807) 8 7 false false 0x210001
/-- 0x2120:03 GateEntryCursor (R432). -/
def Obj.gateEntryCursor : ObjDesc := obj 0x2120 0x03 .u8 .rw .integrator 0 (.span 0 255) 1 7 false true 0
/-- 0x2120:04 GateEntry (R432). -/
def Obj.gateEntry : ObjDesc := obj 0x2120 0x04 .octets .rws .integrator 0 .any 8 7 false false 0x212003
/-- 0x2120:05 GateEntryCount (R432). -/
def Obj.gateEntryCount : ObjDesc := obj 0x2120 0x05 .u16 .rws .integrator 1 (.span 1 256) 2 7 false false 0x210001
/-- 0x2120:06 GateCommit (R432). -/
def Obj.gateCommit : ObjDesc := obj 0x2120 0x06 .u8 .wo .integrator 0 (.oneOf [1]) 1 7 false false 0x210001
/-- 0x2120:07 GateResult (R432). -/
def Obj.gateResult : ObjDesc := obj 0x2120 0x07 .u8 .ro .operator 1 (.span 0 4) 1 7 false false 0x210001
/-- 0x2120:08 GateOversize (R432). -/
def Obj.gateOversize : ObjDesc := obj 0x2120 0x08 .u32 .ro .operator 0 (.span 0 4294967295) 4 7 false false 0x210001
/-- 0x2200:01 CanCursor (R432). -/
def Obj.canCursor : ObjDesc := obj 0x2200 0x01 .u8 .rw .operator 0 (.oneOf [0, 1]) 1 7 false true 0
/-- 0x2200:02 CanNominalRate (R432). -/
def Obj.canNominalRate : ObjDesc := obj 0x2200 0x02 .u16 .rws .integrator 250 (.oneOf [125, 250, 500, 1000]) 2 7 true false 0x220001
/-- 0x2200:03 CanDataRate (R432). -/
def Obj.canDataRate : ObjDesc := obj 0x2200 0x03 .u16 .rws .integrator 0 (.oneOf [0, 1000, 2000, 4000, 5000, 8000]) 2 7 true false 0x220001
/-- 0x2200:04 CanBusOffRecovery (R432). -/
def Obj.canBusOffRecovery : ObjDesc := obj 0x2200 0x04 .u8 .rws .integrator 0 (.oneOf [0, 1]) 1 7 false false 0x220001
/-- 0x2200:05 CanRecover (R432). -/
def Obj.canRecover : ObjDesc := obj 0x2200 0x05 .u8 .wo .integrator 0 (.oneOf [1]) 1 7 false false 0x220001
/-- 0x2200:06 CanRxOverrun (R432). -/
def Obj.canRxOverrun : ObjDesc := obj 0x2200 0x06 .u32 .ro .operator 0 (.span 0 4294967295) 4 7 false false 0x220001
/-- 0x2200:07 CanopenNodeId (R432). -/
def Obj.canopenNodeId : ObjDesc := obj 0x2200 0x07 .u8 .rws .integrator 1 (.span 1 127) 1 7 true false 0
/-- 0x2200:08 CanStatus (R432). -/
def Obj.canStatus : ObjDesc := obj 0x2200 0x08 .u16 .ro .operator 0 (.span 0 65535) 2 7 false false 0x220001
/-- 0x2300:01 IsobusEnable (R432). -/
def Obj.isobusEnable : ObjDesc := obj 0x2300 0x01 .u8 .rws .integrator 0 (.oneOf [0, 1]) 1 2 true false 0
/-- 0x2300:02 IsobusName (R432). -/
def Obj.isobusName : ObjDesc := obj 0x2300 0x02 .u64 .rws .integrator 0 (.span 0 18446744073709551615) 8 2 false false 0
/-- 0x2300:03 IsobusPreferredAddress (R432). -/
def Obj.isobusPreferredAddress : ObjDesc := obj 0x2300 0x03 .u8 .rws .integrator 128 (.span 0 253) 1 2 false false 0
/-- 0x2300:04 IsobusAddress (R432). -/
def Obj.isobusAddress : ObjDesc := obj 0x2300 0x04 .u8 .ro .operator 255 (.span 0 253) 1 2 false false 0
/-- 0x2300:05 IsobusSectionControl (R432). -/
def Obj.isobusSectionControl : ObjDesc := obj 0x2300 0x05 .u8 .rws .integrator 0 (.oneOf [0, 1]) 1 2 false false 0
/-- 0x2300:06 IsobusRateControl (R432). -/
def Obj.isobusRateControl : ObjDesc := obj 0x2300 0x06 .u8 .rws .integrator 0 (.oneOf [0, 1]) 1 2 false false 0
/-- 0x2300:07 IsobusPositionOutput (R432). -/
def Obj.isobusPositionOutput : ObjDesc := obj 0x2300 0x07 .u8 .rws .integrator 0 (.span 0 15) 1 2 false false 0
/-- 0x3000:01 AntennaBiasA (R115). -/
def Obj.antennaBiasA : ObjDesc := obj 0x3000 0x01 .u8 .rws .integrator 1 (.oneOf [0, 1, 2]) 1 3 false false 0
/-- 0x3000:02 AntennaBiasB (R115). -/
def Obj.antennaBiasB : ObjDesc := obj 0x3000 0x02 .u8 .rws .integrator 1 (.oneOf [0, 1, 2]) 1 3 false false 0
/-- 0x3000:03 AntennaStatus (R115). -/
def Obj.antennaStatus : ObjDesc := obj 0x3000 0x03 .u16 .ro .operator 0 (.span 0 65535) 2 3 false false 0
/-- 0x3000:04 AntennaCurrentA (R115). -/
def Obj.antennaCurrentA : ObjDesc := obj 0x3000 0x04 .u16 .ro .operator 0 (.span 0 150) 2 3 false false 0
/-- 0x3000:05 AntennaCurrentB (R115). -/
def Obj.antennaCurrentB : ObjDesc := obj 0x3000 0x05 .u16 .ro .operator 0 (.span 0 150) 2 3 false false 0
/-- 0x3000:06 ChainGainAUpper (R115). -/
def Obj.chainGainAUpper : ObjDesc := obj 0x3000 0x06 .q16 .ro .operator 0 (.span (-655360) 3932160) 4 3 false false 0
/-- 0x3000:07 ChainGainALower (R115). -/
def Obj.chainGainALower : ObjDesc := obj 0x3000 0x07 .q16 .ro .operator 0 (.span (-655360) 3932160) 4 3 false false 0
/-- 0x3000:08 ChainGainBUpper (R115). -/
def Obj.chainGainBUpper : ObjDesc := obj 0x3000 0x08 .q16 .ro .operator 0 (.span (-655360) 3932160) 4 3 false false 0
/-- 0x3000:09 ChainGainBLower (R115). -/
def Obj.chainGainBLower : ObjDesc := obj 0x3000 0x09 .q16 .ro .operator 0 (.span (-655360) 3932160) 4 3 false false 0
/-- 0x3010:01 SignalEnable (R118). -/
def Obj.signalEnable : ObjDesc := obj 0x3010 0x01 .u32 .rws .integrator 2147483647 (.span 1 2147483647) 4 3 false false 0
/-- 0x3010:02 ChannelsInUse (R118). -/
def Obj.channelsInUse : ObjDesc := obj 0x3010 0x02 .u16 .ro .operator 0 (.span 0 512) 2 3 false false 0
/-- 0x3010:03 ChannelsWithheld (R118). -/
def Obj.channelsWithheld : ObjDesc := obj 0x3010 0x03 .u16 .ro .operator 0 (.span 0 65535) 2 3 false false 0
/-- 0x3010:04 TapOffsetNarrow (R118). -/
def Obj.tapOffsetNarrow : ObjDesc := obj 0x3010 0x04 .u8 .rws .integrator 8 (.span 2 32) 1 3 false false 0
/-- 0x3010:05 TapOffsetWide (R118). -/
def Obj.tapOffsetWide : ObjDesc := obj 0x3010 0x05 .u8 .rws .integrator 32 (.span 2 32) 1 3 false false 0
/-- 0x3020:01 AcqFalseAlarmExp (R133). -/
def Obj.acqFalseAlarmExp : ObjDesc := obj 0x3020 0x01 .u8 .rws .integrator 6 (.span 3 9) 1 3 false false 0
/-- 0x3020:02 AcqCoherentMs (R133). -/
def Obj.acqCoherentMs : ObjDesc := obj 0x3020 0x02 .u8 .rws .integrator 1 (.span 1 20) 1 3 false false 0
/-- 0x3020:03 AcqNonCoherent (R133). -/
def Obj.acqNonCoherent : ObjDesc := obj 0x3020 0x03 .u8 .rws .integrator 10 (.span 1 64) 1 3 false false 0
/-- 0x3020:04 AcqDopplerSpan (R133). -/
def Obj.acqDopplerSpan : ObjDesc := obj 0x3020 0x04 .u32 .rws .integrator 5000 (.span 500 50000) 4 3 false false 0
/-- 0x3020:05 AcqSearches (R133). -/
def Obj.acqSearches : ObjDesc := obj 0x3020 0x05 .u32 .ro .operator 0 (.span 0 4294967295) 4 3 false false 0
/-- 0x3020:06 AcqRejected (R133). -/
def Obj.acqRejected : ObjDesc := obj 0x3020 0x06 .u32 .ro .operator 0 (.span 0 4294967295) 4 3 false false 0
/-- 0x3020:07 AcqLastResult (R133). -/
def Obj.acqLastResult : ObjDesc := obj 0x3020 0x07 .octets .ro .operator 0 .any 32 3 false false 0
/-- 0x3030:01 SnapshotLength (R146). -/
def Obj.snapshotLength : ObjDesc := obj 0x3030 0x01 .u8 .rws .integrator 12 (.span 2 32) 1 3 false false 0
/-- 0x3030:02 SnapshotChains (R146). -/
def Obj.snapshotChains : ObjDesc := obj 0x3030 0x02 .u8 .rws .integrator 1 (.span 1 15) 1 3 false false 0
/-- 0x3030:03 SnapshotProcessing (R146). -/
def Obj.snapshotProcessing : ObjDesc := obj 0x3030 0x03 .u8 .rws .integrator 0 (.oneOf [0, 1, 2]) 1 3 false false 0
/-- 0x3030:04 SnapshotInterval (R146). -/
def Obj.snapshotInterval : ObjDesc := obj 0x3030 0x04 .u32 .rws .integrator 60 (.span 0 86400) 4 3 false false 0
/-- 0x3030:05 SnapshotWakeTime (R146). -/
def Obj.snapshotWakeTime : ObjDesc := obj 0x3030 0x05 .time64 .rw .integrator 0 (.span (-9223372036854775808) 9223372036854775807) 8 3 false false 0
/-- 0x3030:06 SnapshotTrigger (R146). -/
def Obj.snapshotTrigger : ObjDesc := obj 0x3030 0x06 .u8 .wo .integrator 0 (.oneOf [1]) 1 3 false false 0
/-- 0x3030:07 SnapshotStatus (R146). -/
def Obj.snapshotStatus : ObjDesc := obj 0x3030 0x07 .u16 .ro .operator 0 (.span 0 65535) 2 3 false false 0
/-- 0x3030:08 SnapshotData (R146). -/
def Obj.snapshotData : ObjDesc := obj 0x3030 0x08 .domain .ro .integrator 0 .any 0 3 false false 0
/-- 0x3030:09 SnapshotRelease (R146). -/
def Obj.snapshotRelease : ObjDesc := obj 0x3030 0x09 .u8 .wo .integrator 0 (.oneOf [1]) 1 3 false false 0
/-- 0x3040:01 NavHostOutput (R138). -/
def Obj.navHostOutput : ObjDesc := obj 0x3040 0x01 .u8 .rw .integrator 0 (.oneOf [0, 1]) 1 3 false false 0
/-- 0x3040:02 NavHostQueue (R138). -/
def Obj.navHostQueue : ObjDesc := obj 0x3040 0x02 .u8 .ro .operator 0 (.span 0 63) 1 3 false false 0
/-- 0x3040:03 NavCheckFailed (R138). -/
def Obj.navCheckFailed : ObjDesc := obj 0x3040 0x03 .u32 .ro .operator 0 (.span 0 4294967295) 4 3 false false 0
/-- 0x3050:01 ElevationMask (R161). -/
def Obj.elevationMask : ObjDesc := obj 0x3050 0x01 .u8 .rws .integrator 10 (.span 0 30) 1 3 false false 0
/-- 0x3050:02 TrackingProfile (R161). -/
def Obj.trackingProfile : ObjDesc := obj 0x3050 0x02 .u8 .rws .integrator 0 (.oneOf [0, 1]) 1 3 false false 0
/-- 0x3050:03 LossOfLockCount (R161). -/
def Obj.lossOfLockCount : ObjDesc := obj 0x3050 0x03 .u32 .ro .operator 0 (.span 0 4294967295) 4 3 false false 0
/-- 0x3050:04 SidePeakCount (R161). -/
def Obj.sidePeakCount : ObjDesc := obj 0x3050 0x04 .u32 .ro .operator 0 (.span 0 4294967295) 4 3 false false 0
/-- 0x3060:01 ObsRate (R161). -/
def Obj.obsRate : ObjDesc := obj 0x3060 0x01 .u8 .rws .integrator 10 (.oneOf [1, 2, 5, 10, 20, 25, 50]) 1 3 false false 0
/-- 0x3060:02 ObsHostOutput (R161). -/
def Obj.obsHostOutput : ObjDesc := obj 0x3060 0x02 .u8 .rw .integrator 0 (.oneOf [0, 1]) 1 3 false false 0
/-- 0x3060:03 ObsHostQueue (R161). -/
def Obj.obsHostQueue : ObjDesc := obj 0x3060 0x03 .u8 .ro .operator 0 (.span 0 63) 1 3 false false 0
/-- 0x3100:01 BasePositionMode (R166). -/
def Obj.basePositionMode : ObjDesc := obj 0x3100 0x01 .u8 .rws .integrator 1 (.oneOf [0, 1]) 1 1 false false 0
/-- 0x3100:02 BaseEcefX (R166). -/
def Obj.baseEcefX : ObjDesc := obj 0x3100 0x02 .i64 .rws .integrator 0 (.span (-70000000000) 70000000000) 8 1 false false 0
/-- 0x3100:03 BaseEcefY (R166). -/
def Obj.baseEcefY : ObjDesc := obj 0x3100 0x03 .i64 .rws .integrator 0 (.span (-70000000000) 70000000000) 8 1 false false 0
/-- 0x3100:04 BaseEcefZ (R166). -/
def Obj.baseEcefZ : ObjDesc := obj 0x3100 0x04 .i64 .rws .integrator 0 (.span (-70000000000) 70000000000) 8 1 false false 0
/-- 0x3100:05 BaseAntennaHeight (R166). -/
def Obj.baseAntennaHeight : ObjDesc := obj 0x3100 0x05 .u32 .rws .integrator 0 (.span 0 65535) 4 1 false false 0
/-- 0x3100:06 SurveyInTime (R166). -/
def Obj.surveyInTime : ObjDesc := obj 0x3100 0x06 .u32 .rws .integrator 600 (.span 60 86400) 4 1 false false 0
/-- 0x3100:07 SurveyInLimit (R166). -/
def Obj.surveyInLimit : ObjDesc := obj 0x3100 0x07 .u16 .rws .integrator 20 (.span 5 5000) 2 1 false false 0
/-- 0x3100:08 RtcmStationId (R166). -/
def Obj.rtcmStationId : ObjDesc := obj 0x3100 0x08 .u16 .rws .integrator 0 (.span 0 4095) 2 1 false false 0
/-- 0x3100:09 BaseStatus (R166). -/
def Obj.baseStatus : ObjDesc := obj 0x3100 0x09 .u8 .ro .operator 0 (.span 0 255) 1 1 false false 0
/-- 0x3110:01 RtcmMsmType (R166). -/
def Obj.rtcmMsmType : ObjDesc := obj 0x3110 0x01 .u8 .rws .integrator 7 (.oneOf [4, 7]) 1 1 false false 0
/-- 0x3110:02 RtcmRate (R166). -/
def Obj.rtcmRate : ObjDesc := obj 0x3110 0x02 .u8 .rws .integrator 1 (.oneOf [1, 2, 5, 10]) 1 1 false false 0
/-- 0x3110:03 RtcmStationInterval (R166). -/
def Obj.rtcmStationInterval : ObjDesc := obj 0x3110 0x03 .u16 .rws .integrator 10 (.span 1 300) 2 1 false false 0
/-- 0x3110:04 RtcmPorts (R166). -/
def Obj.rtcmPorts : ObjDesc := obj 0x3110 0x04 .u8 .rws .integrator 0 (.span 0 15) 1 1 false false 0
/-- 0x3110:05 RtcmUartBaud0 (R166). -/
def Obj.rtcmUartBaud0 : ObjDesc := obj 0x3110 0x05 .u32 .rws .integrator 115200 (.span 9600 921600) 4 1 false false 0
/-- 0x3110:06 RtcmTcpPort (R166). -/
def Obj.rtcmTcpPort : ObjDesc := obj 0x3110 0x06 .u16 .rws .integrator 5018 (.span 1024 65535) 2 1 false false 0
/-- 0x3110:07 RtcmDiscardedUart0 (R166). -/
def Obj.rtcmDiscardedUart0 : ObjDesc := obj 0x3110 0x07 .u32 .ro .operator 0 (.span 0 4294967295) 4 1 false false 0
/-- 0x3110:08 RtcmUartBaud1 (R166). -/
def Obj.rtcmUartBaud1 : ObjDesc := obj 0x3110 0x08 .u32 .rws .integrator 115200 (.span 9600 921600) 4 1 false false 0
/-- 0x3110:09 RtcmDiscardedUart1 (R166). -/
def Obj.rtcmDiscardedUart1 : ObjDesc := obj 0x3110 0x09 .u32 .ro .operator 0 (.span 0 4294967295) 4 1 false false 0
/-- 0x3110:0A RtcmDiscardedTcp (R166). -/
def Obj.rtcmDiscardedTcp : ObjDesc := obj 0x3110 0x0A .u32 .ro .operator 0 (.span 0 4294967295) 4 1 false false 0
/-- 0x3110:0B RtcmDiscardedHost (R166). -/
def Obj.rtcmDiscardedHost : ObjDesc := obj 0x3110 0x0B .u32 .ro .operator 0 (.span 0 4294967295) 4 1 false false 0
/-- 0x3200:01 CorrectionSource (R173). -/
def Obj.correctionSource : ObjDesc := obj 0x3200 0x01 .u8 .rws .integrator 0 (.span 0 2) 1 2 false false 0
/-- 0x3200:02 CorrectionAgeLimit (R173). -/
def Obj.correctionAgeLimit : ObjDesc := obj 0x3200 0x02 .u16 .rws .integrator 10 (.span 2 120) 2 2 false false 0
/-- 0x3200:03 CorrectionWait (R173). -/
def Obj.correctionWait : ObjDesc := obj 0x3200 0x03 .u16 .rws .integrator 2000 (.span 500 10000) 2 2 false false 0
/-- 0x3200:04 FixRatio (R173). -/
def Obj.fixRatio : ObjDesc := obj 0x3200 0x04 .q16 .rws .integrator 196608 (.span 131072 655360) 4 2 false false 0
/-- 0x3200:05 SolutionState (R173). -/
def Obj.solutionState : ObjDesc := obj 0x3200 0x05 .u8 .ro .operator 0 (.span 0 6) 1 2 false false 0
/-- 0x3200:06 CorrectionAge (R173). -/
def Obj.correctionAge : ObjDesc := obj 0x3200 0x06 .u32 .ro .operator 4294967295 (.span 0 4294967295) 4 2 false false 0
/-- 0x3210:01 NtripHost (R173). -/
def Obj.ntripHost : ObjDesc := obj 0x3210 0x01 .str .rws .integrator 0 .any 63 2 false false 0
/-- 0x3210:02 NtripPort (R173). -/
def Obj.ntripPort : ObjDesc := obj 0x3210 0x02 .u16 .rws .integrator 2101 (.span 1 65535) 2 2 false false 0
/-- 0x3210:03 NtripMountpoint (R173). -/
def Obj.ntripMountpoint : ObjDesc := obj 0x3210 0x03 .str .rws .integrator 0 .any 63 2 false false 0
/-- 0x3210:04 NtripUser (R173). -/
def Obj.ntripUser : ObjDesc := obj 0x3210 0x04 .str .rws .integrator 0 .any 63 2 false false 0
/-- 0x3210:05 NtripPassword (R173). -/
def Obj.ntripPassword : ObjDesc := obj 0x3210 0x05 .str .wo .integrator 0 .any 63 2 false false 0
/-- 0x3220:01 BaselineLength (R626). -/
def Obj.baselineLength : ObjDesc := obj 0x3220 0x01 .u32 .rws .integrator 1000 (.span 500 10000) 4 2 false false 0
/-- 0x3220:02 BaselineYaw (R626). -/
def Obj.baselineYaw : ObjDesc := obj 0x3220 0x02 .q16 .rws .integrator 5898240 (.span (-11796480) 11796480) 4 2 false false 0
/-- 0x3220:03 BaselinePitch (R626). -/
def Obj.baselinePitch : ObjDesc := obj 0x3220 0x03 .q16 .rws .integrator 0 (.span (-1966080) 1966080) 4 2 false false 0
/-- 0x3220:04 HeadingHoldTime (R626). -/
def Obj.headingHoldTime : ObjDesc := obj 0x3220 0x04 .u16 .rws .integrator 30 (.span 0 600) 2 2 false false 0
/-- 0x3230:01 ImuSpiMode (R626). -/
def Obj.imuSpiMode : ObjDesc := obj 0x3230 0x01 .u8 .rws .integrator 0 (.oneOf [0, 3]) 1 2 false false 0
/-- 0x3230:02 ImuSpiClock (R626). -/
def Obj.imuSpiClock : ObjDesc := obj 0x3230 0x02 .u8 .rws .integrator 8 (.span 1 10) 1 2 false false 0
/-- 0x3230:03 ImuRate (R626). -/
def Obj.imuRate : ObjDesc := obj 0x3230 0x03 .u16 .rws .integrator 1000 (.oneOf [200, 400, 500, 1000, 2000]) 2 2 false false 0
/-- 0x3230:04 ImuReadDelay (R626). -/
def Obj.imuReadDelay : ObjDesc := obj 0x3230 0x04 .u16 .rws .integrator 100 (.span 20 500) 2 2 false false 0
/-- 0x3230:05 ImuGroupDelay (R626). -/
def Obj.imuGroupDelay : ObjDesc := obj 0x3230 0x05 .u16 .rws .integrator 0 (.span 0 5000) 2 2 false false 0
/-- 0x3230:06 ImuFrame (R626). -/
def Obj.imuFrame : ObjDesc := obj 0x3230 0x06 .octets .rws .integrator 0 .any 32 2 false false 0
/-- 0x3230:07 ImuMounting (R626). -/
def Obj.imuMounting : ObjDesc := obj 0x3230 0x07 .octets .rws .integrator 0 .any 12 2 false false 0
/-- 0x3240:01 PoseRate (R626). -/
def Obj.poseRate : ObjDesc := obj 0x3240 0x01 .u8 .rws .integrator 100 (.oneOf [10, 20, 50, 100]) 1 2 false false 0
/-- 0x3240:02 PoseLatest (R626). -/
def Obj.poseLatest : ObjDesc := obj 0x3240 0x02 .octets .ro .operator 0 .any 80 2 false false 0
/-- 0x3240:03 LateSolutions (R626). -/
def Obj.lateSolutions : ObjDesc := obj 0x3240 0x03 .u32 .ro .operator 0 (.span 0 4294967295) 4 2 false false 0
/-- 0x3240:04 LeverArmX (R626). -/
def Obj.leverArmX : ObjDesc := obj 0x3240 0x04 .i32 .rws .integrator 0 (.span (-20000) 20000) 4 2 false false 0
/-- 0x3240:05 LeverArmY (R626). -/
def Obj.leverArmY : ObjDesc := obj 0x3240 0x05 .i32 .rws .integrator 0 (.span (-20000) 20000) 4 2 false false 0
/-- 0x3240:06 LeverArmZ (R626). -/
def Obj.leverArmZ : ObjDesc := obj 0x3240 0x06 .i32 .rws .integrator 0 (.span (-20000) 20000) 4 2 false false 0
/-- 0x4000:01 RadioRegion (R353). -/
def Obj.radioRegion : ObjDesc := obj 0x4000 0x01 .u8 .rws .integrator 0 (.oneOf [0, 1, 2]) 1 7 true false 0
/-- 0x4000:02 DownlinkPhy (R353). -/
def Obj.downlinkPhy : ObjDesc := obj 0x4000 0x02 .u8 .rws .integrator 1 (.span 0 3) 1 7 true false 0
/-- 0x4000:03 UplinkPhy (R353). -/
def Obj.uplinkPhy : ObjDesc := obj 0x4000 0x03 .u8 .rws .integrator 1 (.span 0 2) 1 7 true false 0
/-- 0x4000:04 AntennaNetGainA (R353). -/
def Obj.antennaNetGainA : ObjDesc := obj 0x4000 0x04 .q16 .rws .integrator 0 (.span (-655360) 786432) 4 7 false false 0
/-- 0x4000:05 AntennaNetGainB (R353). -/
def Obj.antennaNetGainB : ObjDesc := obj 0x4000 0x05 .q16 .rws .integrator 0 (.span (-655360) 786432) 4 7 false false 0
/-- 0x4000:06 PaGainA (R353). -/
def Obj.paGainA : ObjDesc := obj 0x4000 0x06 .q16 .rws .integrator 0 (.span 0 1966080) 4 7 false false 0
/-- 0x4000:07 PaGainB (R353). -/
def Obj.paGainB : ObjDesc := obj 0x4000 0x07 .q16 .rws .integrator 0 (.span 0 1966080) 4 7 false false 0
/-- 0x4000:08 PaLeadTime (R353). -/
def Obj.paLeadTime : ObjDesc := obj 0x4000 0x08 .u8 .rws .integrator 0 (.span 0 20) 1 7 false false 0
/-- 0x4000:09 LbtThreshold (R353). -/
def Obj.lbtThreshold : ObjDesc := obj 0x4000 0x09 .q16 .rws .integrator (-5898240) (.span (-6553600) (-4587520)) 4 7 false false 0
/-- 0x4010:01 DownlinkMap (R353). -/
def Obj.downlinkMap : ObjDesc := obj 0x4010 0x01 .u64 .rws .integrator 0 (.span 0 18446744073709551615) 8 7 true false 0
/-- 0x4010:02 UplinkMapA (R353). -/
def Obj.uplinkMapA : ObjDesc := obj 0x4010 0x02 .u64 .rws .integrator 0 (.span 0 18446744073709551615) 8 7 true false 0
/-- 0x4010:03 UplinkMapB (R353). -/
def Obj.uplinkMapB : ObjDesc := obj 0x4010 0x03 .u64 .rws .integrator 0 (.span 0 18446744073709551615) 8 7 true false 0
/-- 0x4020:01 BeaconInterval (R353). -/
def Obj.beaconInterval : ObjDesc := obj 0x4020 0x01 .u16 .rws .integrator 100 (.span 20 1000) 2 7 true false 0
/-- 0x4020:02 ConnectionInterval (R353). -/
def Obj.connectionInterval : ObjDesc := obj 0x4020 0x02 .u16 .rws .integrator 200 (.span 200 2000) 2 7 true false 0
/-- 0x4020:03 SupervisionTimeout (R353). -/
def Obj.supervisionTimeout : ObjDesc := obj 0x4020 0x03 .u16 .rws .integrator 1000 (.span 300 32000) 2 7 false false 0
/-- 0x4020:04 DownlinkWindow (R353). -/
def Obj.downlinkWindow : ObjDesc := obj 0x4020 0x04 .u16 .rws .integrator 9000 (.span 2000 50000) 2 7 true false 0
/-- 0x4020:05 BeaconTtl (R353). -/
def Obj.beaconTtl : ObjDesc := obj 0x4020 0x05 .u8 .rws .integrator 1 (.span 1 3) 1 7 false false 0
/-- 0x4020:06 ConfigResult (R353). -/
def Obj.configResult : ObjDesc := obj 0x4020 0x06 .u8 .ro .operator 1 (.span 0 255) 1 7 false false 0
/-- 0x4030:01 RadioStatus (R353). -/
def Obj.radioStatus : ObjDesc := obj 0x4030 0x01 .u16 .ro .operator 0 (.span 0 65535) 2 7 false false 0
/-- 0x4030:02 ConnectionState (R353). -/
def Obj.connectionState : ObjDesc := obj 0x4030 0x02 .u8 .ro .operator 0 (.span 0 6) 1 7 false false 0
/-- 0x4030:03 MissedBeacons (R353). -/
def Obj.missedBeacons : ObjDesc := obj 0x4030 0x03 .u32 .ro .operator 0 (.span 0 4294967295) 4 7 false false 0
/-- 0x4030:04 MissedEvents (R353). -/
def Obj.missedEvents : ObjDesc := obj 0x4030 0x04 .u32 .ro .operator 0 (.span 0 4294967295) 4 7 false false 0
/-- 0x4030:05 ResyncScans (R353). -/
def Obj.resyncScans : ObjDesc := obj 0x4030 0x05 .u32 .ro .operator 0 (.span 0 4294967295) 4 7 false false 0
/-- 0x4030:06 LbtBusy (R353). -/
def Obj.lbtBusy : ObjDesc := obj 0x4030 0x06 .u32 .ro .operator 0 (.span 0 4294967295) 4 7 false false 0
/-- 0x4030:07 DutyDeferred (R353). -/
def Obj.dutyDeferred : ObjDesc := obj 0x4030 0x07 .u32 .ro .operator 0 (.span 0 4294967295) 4 7 false false 0
/-- 0x4030:08 LearnedDrift (R353). -/
def Obj.learnedDrift : ObjDesc := obj 0x4030 0x08 .i32 .ro .operator 0 (.span (-2147483648) 2147483647) 4 7 false false 0
/-- 0x4030:09 GuardTime (R353). -/
def Obj.guardTime : ObjDesc := obj 0x4030 0x09 .u16 .ro .operator 250 (.span 30 250) 2 7 false false 0
/-- 0x4030:0A FramesDiscarded (R353). -/
def Obj.framesDiscarded : ObjDesc := obj 0x4030 0x0A .u32 .ro .operator 0 (.span 0 4294967295) 4 7 false false 0
/-- 0x4040:01 SubBandCursor (R353). -/
def Obj.subBandCursor : ObjDesc := obj 0x4040 0x01 .u8 .rw .operator 0 (.span 0 6) 1 7 false true 0
/-- 0x4040:02 SubBandUsed (R353). -/
def Obj.subBandUsed : ObjDesc := obj 0x4040 0x02 .u32 .ro .operator 0 (.span 0 4294967295) 4 7 false false 0x404001
/-- 0x4040:03 SubBandLimit (R353). -/
def Obj.subBandLimit : ObjDesc := obj 0x4040 0x03 .u32 .ro .operator 0 (.span 0 4294967295) 4 7 false false 0x404001
/-- 0x4040:04 SubBandDwellMax (R353). -/
def Obj.subBandDwellMax : ObjDesc := obj 0x4040 0x04 .u16 .ro .operator 0 (.span 0 65535) 2 7 false false 0x404001
/-- 0x4050:01 FloodForward (R353). -/
def Obj.floodForward : ObjDesc := obj 0x4050 0x01 .u8 .rws .integrator 0 (.oneOf [0, 1]) 1 7 false false 0
/-- 0x4050:02 FloodSuppress (R353). -/
def Obj.floodSuppress : ObjDesc := obj 0x4050 0x02 .u8 .rws .integrator 2 (.span 1 7) 1 7 false false 0
/-- 0x4050:03 FloodDelayMax (R353). -/
def Obj.floodDelayMax : ObjDesc := obj 0x4050 0x03 .u16 .rws .integrator 20 (.span 2 200) 2 7 false false 0
/-- 0x4050:04 SeenCacheUsed (R353). -/
def Obj.seenCacheUsed : ObjDesc := obj 0x4050 0x04 .u16 .ro .operator 0 (.span 0 512) 2 7 false false 0
/-- 0x4050:05 SeenEvicted (R353). -/
def Obj.seenEvicted : ObjDesc := obj 0x4050 0x05 .u32 .ro .operator 0 (.span 0 4294967295) 4 7 false false 0
/-- 0x4050:06 FloodForwarded (R353). -/
def Obj.floodForwarded : ObjDesc := obj 0x4050 0x06 .u32 .ro .operator 0 (.span 0 4294967295) 4 7 false false 0
/-- 0x4060:01 SlotCursor (R353). -/
def Obj.slotCursor : ObjDesc := obj 0x4060 0x01 .u8 .rw .operator 0 (.span 0 127) 1 1 false true 0
/-- 0x4060:02 SlotState (R353). -/
def Obj.slotState : ObjDesc := obj 0x4060 0x02 .u8 .ro .operator 0 (.span 0 3) 1 1 false false 0x406001
/-- 0x4060:03 SlotDevice (R353). -/
def Obj.slotDevice : ObjDesc := obj 0x4060 0x03 .octets .ro .operator 0 .any 16 1 false false 0x406001
/-- 0x4060:04 SlotMissed (R353). -/
def Obj.slotMissed : ObjDesc := obj 0x4060 0x04 .u32 .ro .operator 0 (.span 0 4294967295) 4 1 false false 0x406001
/-- 0x4060:05 SlotRssi (R353). -/
def Obj.slotRssi : ObjDesc := obj 0x4060 0x05 .q16 .ro .operator (-8388608) (.span (-2147483648) 2147483647) 4 1 false false 0x406001
/-- 0x4060:06 SlotEnable (R353). -/
def Obj.slotEnable : ObjDesc := obj 0x4060 0x06 .u8 .rw .integrator 1 (.oneOf [0, 1]) 1 1 false false 0x406001
/-- 0x4060:07 SlotHops (R353). -/
def Obj.slotHops : ObjDesc := obj 0x4060 0x07 .u8 .ro .operator 0 (.span 0 6) 1 1 false false 0x406001
/-- 0x4070:01 AdmissionOpen (R353). -/
def Obj.admissionOpen : ObjDesc := obj 0x4070 0x01 .u8 .rws .integrator 1 (.oneOf [0, 1]) 1 1 false false 0
/-- 0x4070:02 JoinFleetId (R353). -/
def Obj.joinFleetId : ObjDesc := obj 0x4070 0x02 .u16 .rws .integrator 0 (.span 0 65535) 2 6 false false 0
/-- 0x4070:03 JoinBaseIndex (R353). -/
def Obj.joinBaseIndex : ObjDesc := obj 0x4070 0x03 .u8 .rws .integrator 255 (.spanOr 0 15 255) 1 6 false false 0
/-- 0x4070:04 ConnectionEnable (R353). -/
def Obj.connectionEnable : ObjDesc := obj 0x4070 0x04 .u8 .rw .integrator 1 (.oneOf [0, 1]) 1 6 false false 0
/-- 0x4070:05 AdmissionResult (R353). -/
def Obj.admissionResult : ObjDesc := obj 0x4070 0x05 .u8 .ro .operator 255 (.span 0 255) 1 6 false false 0
/-- 0x4070:06 AssignedSlot (R353). -/
def Obj.assignedSlot : ObjDesc := obj 0x4070 0x06 .u8 .ro .operator 255 (.span 0 255) 1 6 false false 0
/-- 0x4080:01 StopPhy (R378). -/
def Obj.stopPhy : ObjDesc := obj 0x4080 0x01 .u8 .rws .integrator 3 (.oneOf [0, 1, 3]) 1 7 true false 0
/-- 0x4080:02 StopDiscrepancyTime (R378). -/
def Obj.stopDiscrepancyTime : ObjDesc := obj 0x4080 0x02 .u16 .rws .integrator 50 (.span 10 1000) 2 7 false false 0
/-- 0x4080:03 CrierStatus (R378). -/
def Obj.crierStatus : ObjDesc := obj 0x4080 0x03 .u16 .ro .operator 0 (.span 0 65535) 2 7 false false 0
/-- 0x4080:04 ReleaseRequest (R378). -/
def Obj.releaseRequest : ObjDesc := obj 0x4080 0x04 .u16 .wo .service 0 (.oneOf [90]) 2 7 false false 0
/-- 0x4080:05 ReleaseMachines (R378). -/
def Obj.releaseMachines : ObjDesc := obj 0x4080 0x05 .u8 .wo .integrator 0 (.spanOr 0 127 255) 1 1 false false 0
/-- 0x4080:06 ReleaseResult (R378). -/
def Obj.releaseResult : ObjDesc := obj 0x4080 0x06 .u8 .ro .operator 6 (.span 0 7) 1 7 false false 0
/-- 0x4080:07 StopsSent (R378). -/
def Obj.stopsSent : ObjDesc := obj 0x4080 0x07 .u32 .ro .operator 0 (.span 0 4294967295) 4 7 false false 0
/-- 0x4080:08 StopsReceived (R378). -/
def Obj.stopsReceived : ObjDesc := obj 0x4080 0x08 .u32 .ro .operator 0 (.span 0 4294967295) 4 7 false false 0
/-- 0x4080:09 StopsUnverified (R378). -/
def Obj.stopsUnverified : ObjDesc := obj 0x4080 0x09 .u32 .ro .operator 0 (.span 0 4294967295) 4 7 false false 0
/-- 0x4080:0A ReserveUsed (R378). -/
def Obj.reserveUsed : ObjDesc := obj 0x4080 0x0A .u32 .ro .operator 0 (.span 0 4294967295) 4 7 false false 0x404001
/-- 0x4080:0B LastStopId (R378). -/
def Obj.lastStopId : ObjDesc := obj 0x4080 0x0B .u32 .ro .operator 0 (.span 0 4294967295) 4 7 false false 0
/-- 0x5000:01 FleetId (R312). -/
def Obj.fleetId : ObjDesc := obj 0x5000 0x01 .u16 .rws .integrator 0 (.span 0 65535) 2 1 true false 0
/-- 0x5000:02 BaseIndex (R312). -/
def Obj.baseIndex : ObjDesc := obj 0x5000 0x02 .u8 .rws .integrator 0 (.span 1 15) 1 1 true false 0
/-- 0x5000:03 BaseLinks (R312). -/
def Obj.baseLinks : ObjDesc := obj 0x5000 0x03 .u16 .ro .operator 0 (.span 0 65535) 2 1 false false 0
/-- 0x5000:04 BaseLinkTimeout (R312). -/
def Obj.baseLinkTimeout : ObjDesc := obj 0x5000 0x04 .u16 .rws .integrator 50 (.span 20 1000) 2 1 false false 0
/-- 0x5000:05 StopScope (R312). -/
def Obj.stopScope : ObjDesc := obj 0x5000 0x05 .u8 .rws .integrator 1 (.oneOf [0, 1]) 1 1 false false 0
/-- 0x5000:06 BaseLinkPort (R312). -/
def Obj.baseLinkPort : ObjDesc := obj 0x5000 0x06 .u8 .rws .integrator 0 (.oneOf [0, 1]) 1 1 false false 0
/-- 0x5000:07 LeaseTime (R312). -/
def Obj.leaseTime : ObjDesc := obj 0x5000 0x07 .u16 .rws .integrator 30 (.span 5 600) 2 1 false false 0
/-- 0x5000:08 LinkEpoch (R312). -/
def Obj.linkEpoch : ObjDesc := obj 0x5000 0x08 .u32 .ro .operator 0 (.span 0 4294967295) 4 1 false false 0
/-- 0x5100:01 FieldCursor (R312). -/
def Obj.fieldCursor : ObjDesc := obj 0x5100 0x01 .u8 .rw .operator 0 (.span 0 63) 1 1 false true 0
/-- 0x5100:02 FieldLoad (R312). -/
def Obj.fieldLoad : ObjDesc := obj 0x5100 0x02 .domain .wo .integrator 0 .any 132132 1 false false 0
/-- 0x5100:03 FieldLoadResult (R312). -/
def Obj.fieldLoadResult : ObjDesc := obj 0x5100 0x03 .u8 .ro .operator 0 (.span 0 7) 1 1 false false 0
/-- 0x5100:04 FieldUnload (R312). -/
def Obj.fieldUnload : ObjDesc := obj 0x5100 0x04 .u8 .wo .integrator 0 (.oneOf [1]) 1 1 false false 0x510001
/-- 0x5200:01 TrackFieldCursor (R312). -/
def Obj.trackFieldCursor : ObjDesc := obj 0x5200 0x01 .u16 .rw .operator 0 (.span 0 65535) 2 1 false true 0
/-- 0x5200:02 TrackCursor (R312). -/
def Obj.trackCursor : ObjDesc := obj 0x5200 0x02 .u16 .rw .operator 0 (.span 0 65535) 2 1 false true 0
/-- 0x5200:03 TrackLoad (R312). -/
def Obj.trackLoad : ObjDesc := obj 0x5200 0x03 .domain .wo .integrator 0 .any 262144 1 false false 0
/-- 0x5200:04 TrackLoadResult (R312). -/
def Obj.trackLoadResult : ObjDesc := obj 0x5200 0x04 .u8 .ro .operator 0 (.span 0 3) 1 1 false false 0
/-- 0x5200:05 TrackState (R312). -/
def Obj.trackState : ObjDesc := obj 0x5200 0x05 .u8 .ro .operator 0 (.span 0 2) 1 1 false false 0x520002
/-- 0x5200:06 TrackHolder (R312). -/
def Obj.trackHolder : ObjDesc := obj 0x5200 0x06 .u16 .ro .operator 65535 (.span 0 65535) 2 1 false false 0x520002
/-- 0x5200:07 TrackProgress (R312). -/
def Obj.trackProgress : ObjDesc := obj 0x5200 0x07 .u32 .ro .operator 0 (.span 0 4294967295) 4 1 false false 0x520002
/-- 0x5300:01 TaskCursor (R312). -/
def Obj.taskCursor : ObjDesc := obj 0x5300 0x01 .u32 .rw .operator 0 (.span 0 4294967295) 4 1 false true 0
/-- 0x5300:02 TaskLoad (R312). -/
def Obj.taskLoad : ObjDesc := obj 0x5300 0x02 .domain .wo .integrator 0 .any 262144 1 false false 0
/-- 0x5300:03 TaskLoadResult (R312). -/
def Obj.taskLoadResult : ObjDesc := obj 0x5300 0x03 .u8 .ro .operator 0 (.span 0 255) 1 1 false false 0
/-- 0x5300:04 TaskState (R312). -/
def Obj.taskState : ObjDesc := obj 0x5300 0x04 .u8 .ro .operator 0 (.span 0 6) 1 1 false false 0x530001
/-- 0x5300:05 TaskHolder (R312). -/
def Obj.taskHolder : ObjDesc := obj 0x5300 0x05 .u16 .ro .operator 65535 (.span 0 65535) 2 1 false false 0x530001
/-- 0x5300:06 TaskCommand (R312). -/
def Obj.taskCommand : ObjDesc := obj 0x5300 0x06 .u8 .wo .integrator 0 (.oneOf [1, 2, 3]) 1 1 false false 0x530001
/-- 0x5300:07 TaskHandOverTarget (R312). -/
def Obj.taskHandOverTarget : ObjDesc := obj 0x5300 0x07 .u16 .rw .integrator 65535 (.span 0 65535) 2 1 false false 0
/-- 0x5300:08 TaskCommandResult (R312). -/
def Obj.taskCommandResult : ObjDesc := obj 0x5300 0x08 .u8 .ro .operator 0 (.span 0 4) 1 1 false false 0
/-- 0x5400:01 ClaimsGranted (R312). -/
def Obj.claimsGranted : ObjDesc := obj 0x5400 0x01 .u32 .ro .operator 0 (.span 0 4294967295) 4 1 false false 0
/-- 0x5400:02 ClaimsRefused (R312). -/
def Obj.claimsRefused : ObjDesc := obj 0x5400 0x02 .u32 .ro .operator 0 (.span 0 4294967295) 4 1 false false 0
/-- 0x5400:03 LeasesExpired (R312). -/
def Obj.leasesExpired : ObjDesc := obj 0x5400 0x03 .u32 .ro .operator 0 (.span 0 4294967295) 4 1 false false 0
/-- 0x5400:04 ReservationsHeld (R312). -/
def Obj.reservationsHeld : ObjDesc := obj 0x5400 0x04 .u32 .ro .operator 0 (.span 0 131072) 4 1 false false 0
/-- 0x5500:01 SeparationCaution (R312). -/
def Obj.separationCaution : ObjDesc := obj 0x5500 0x01 .u16 .rws .integrator 10000 (.span 1000 65000) 2 1 false false 0
/-- 0x5500:02 SeparationMin (R312). -/
def Obj.separationMin : ObjDesc := obj 0x5500 0x02 .u16 .rws .integrator 2000 (.span 500 20000) 2 1 false false 0
/-- 0x5500:03 SeparationLookAhead (R312). -/
def Obj.separationLookAhead : ObjDesc := obj 0x5500 0x03 .u16 .rws .integrator 2000 (.steps 0 4000 250) 2 1 false false 0
/-- 0x5500:04 SeparationStopHorizon (R312). -/
def Obj.separationStopHorizon : ObjDesc := obj 0x5500 0x04 .u16 .rws .integrator 1000 (.steps 0 4000 250) 2 1 false false 0
/-- 0x5500:05 SeparationAccel (R312). -/
def Obj.separationAccel : ObjDesc := obj 0x5500 0x05 .q16 .rws .integrator 131072 (.span 32768 655360) 4 1 false false 0
/-- 0x5500:06 SeparationStaleLimit (R312). -/
def Obj.separationStaleLimit : ObjDesc := obj 0x5500 0x06 .u16 .rws .integrator 1000 (.span 200 5000) 2 1 false false 0
/-- 0x5500:07 PairCursor (R312). -/
def Obj.pairCursor : ObjDesc := obj 0x5500 0x07 .u16 .rw .operator 0 (.span 0 8127) 2 1 false true 0
/-- 0x5500:08 PairState (R312). -/
def Obj.pairState : ObjDesc := obj 0x5500 0x08 .u8 .ro .operator 0 (.span 0 255) 1 1 false false 0x550007
/-- 0x5500:09 PairStops (R312). -/
def Obj.pairStops : ObjDesc := obj 0x5500 0x09 .u32 .ro .operator 0 (.span 0 4294967295) 4 1 false false 0
/-- 0x5510:01 ExemptCursor (R312). -/
def Obj.exemptCursor : ObjDesc := obj 0x5510 0x01 .u8 .rw .integrator 0 (.span 0 63) 1 1 false true 0
/-- 0x5510:02 ExemptEntry (R312). -/
def Obj.exemptEntry : ObjDesc := obj 0x5510 0x02 .octets .rws .integrator 0 .any 4 1 false false 0x551001
/-- 0x5600:01 MachineCursor (R312). -/
def Obj.machineCursor : ObjDesc := obj 0x5600 0x01 .u8 .rw .operator 0 (.span 0 127) 1 1 false true 0
/-- 0x5600:02 MachineEnvelope (R312). -/
def Obj.machineEnvelope : ObjDesc := obj 0x5600 0x02 .octets .ro .operator 0 .any 8 1 false false 0x560001
/-- 0x5600:03 MachineCaps (R312). -/
def Obj.machineCaps : ObjDesc := obj 0x5600 0x03 .u16 .ro .operator 0 (.span 0 65535) 2 1 false false 0x560001
/-- 0x5600:04 MachineReportAge (R312). -/
def Obj.machineReportAge : ObjDesc := obj 0x5600 0x04 .u16 .ro .operator 65535 (.span 0 65535) 2 1 false false 0x560001
/-- 0x5700:01 Envelope (R312). -/
def Obj.envelope : ObjDesc := obj 0x5700 0x01 .octets .rws .integrator 0 .any 8 2 false false 0
/-- 0x5700:02 Capabilities (R312). -/
def Obj.capabilities : ObjDesc := obj 0x5700 0x02 .u16 .rws .integrator 0 (.span 0 65535) 2 2 false false 0
/-- 0x5700:03 AutoAccept (R312). -/
def Obj.autoAccept : ObjDesc := obj 0x5700 0x03 .u8 .rws .integrator 1 (.oneOf [0, 1]) 1 2 false false 0
/-- 0x5700:04 TaskCurrent (R312). -/
def Obj.taskCurrent : ObjDesc := obj 0x5700 0x04 .u32 .ro .operator 0 (.span 0 4294967295) 4 2 false false 0
/-- 0x5700:05 ClaimRequest (R312). -/
def Obj.claimRequest : ObjDesc := obj 0x5700 0x05 .octets .wo .operator 0 .any 133 2 false false 0
/-- 0x5700:06 ClaimResult (R312). -/
def Obj.claimResult : ObjDesc := obj 0x5700 0x06 .u8 .ro .operator 0 (.span 0 7) 1 2 false false 0
/-- 0x5700:07 TrackGeometry (R312). -/
def Obj.trackGeometry : ObjDesc := obj 0x5700 0x07 .domain .ro .operator 0 .any 0 2 false false 0
/-- 0x5700:08 SeparationAlert (R312). -/
def Obj.separationAlert : ObjDesc := obj 0x5700 0x08 .u16 .ro .operator 0 (.span 0 65535) 2 2 false false 0
/-- 0x5700:09 TaskRelease (R312). -/
def Obj.taskRelease : ObjDesc := obj 0x5700 0x09 .u8 .wo .operator 0 (.oneOf [1]) 1 2 false false 0
/-- 0x5700:0A TrackDone (R312). -/
def Obj.trackDone : ObjDesc := obj 0x5700 0x0A .u16 .wo .operator 0 .any 2 2 false false 0
/-- 0x5800:01 MapCursor (R284). -/
def Obj.mapCursor : ObjDesc := obj 0x5800 0x01 .u8 .rw .operator 0 (.span 0 63) 1 1 false true 0
/-- 0x5800:02 MapId (R284). -/
def Obj.mapId : ObjDesc := obj 0x5800 0x02 .u16 .ro .operator 0 (.span 0 65535) 2 1 false false 0x580001
/-- 0x5800:03 MapCellSize (R284). -/
def Obj.mapCellSize : ObjDesc := obj 0x5800 0x03 .u8 .ro .operator 2 (.span 0 3) 1 1 false false 0x580001
/-- 0x5800:04 MapLayers (R284). -/
def Obj.mapLayers : ObjDesc := obj 0x5800 0x04 .u8 .ro .operator 0 (.span 0 4) 1 1 false false 0x580001
/-- 0x5800:05 MapTiles (R284). -/
def Obj.mapTiles : ObjDesc := obj 0x5800 0x05 .u32 .ro .operator 0 (.span 0 5921370) 4 1 false false 0x580001
/-- 0x5800:06 MapDelete (R284). -/
def Obj.mapDelete : ObjDesc := obj 0x5800 0x06 .u8 .wo .integrator 0 (.oneOf [1]) 1 1 false false 0x580001
/-- 0x5800:07 TilesRestoredOld (R284). -/
def Obj.tilesRestoredOld : ObjDesc := obj 0x5800 0x07 .u32 .ro .operator 0 (.span 0 4294967295) 4 1 false false 0x580001
/-- 0x5801:01 MapSpaceFree (R284). -/
def Obj.mapSpaceFree : ObjDesc := obj 0x5801 0x01 .u64 .ro .operator 12884901888 (.span 0 12884901888) 8 1 false false 0
/-- 0x5801:02 MapSeqAccepted (R284). -/
def Obj.mapSeqAccepted : ObjDesc := obj 0x5801 0x02 .u32 .ro .operator 0 (.span 0 4294967295) 4 1 false false 0
/-- 0x5801:03 MapSeqPainted (R284). -/
def Obj.mapSeqPainted : ObjDesc := obj 0x5801 0x03 .u32 .ro .operator 0 (.span 0 4294967295) 4 1 false false 0
/-- 0x5801:04 CheckpointMark (R284). -/
def Obj.checkpointMark : ObjDesc := obj 0x5801 0x04 .u32 .ro .operator 0 (.span 0 4294967295) 4 1 false false 0
/-- 0x5801:05 SegmentLog (R284). -/
def Obj.segmentLog : ObjDesc := obj 0x5801 0x05 .u16 .ro .operator 0 (.span 0 20480) 2 1 false false 0
/-- 0x5801:06 CheckpointInterval (R284). -/
def Obj.checkpointInterval : ObjDesc := obj 0x5801 0x06 .u16 .rws .integrator 10 (.span 2 60) 2 1 false false 0
/-- 0x5801:07 SegmentsRejected (R284). -/
def Obj.segmentsRejected : ObjDesc := obj 0x5801 0x07 .u32 .ro .operator 0 (.span 0 4294967295) 4 1 false false 0
/-- 0x5801:08 CoverageStatus (R284). -/
def Obj.coverageStatus : ObjDesc := obj 0x5801 0x08 .u16 .ro .operator 0 (.span 0 65535) 2 1 false false 0
/-- 0x5810:01 CacheRadius (R284). -/
def Obj.cacheRadius : ObjDesc := obj 0x5810 0x01 .u16 .rws .integrator 200 (.span 50 1000) 2 2 false false 0
/-- 0x5810:02 CacheTiles (R284). -/
def Obj.cacheTiles : ObjDesc := obj 0x5810 0x02 .u32 .ro .operator 0 (.span 0 131072) 4 2 false false 0
/-- 0x5810:03 TileRequestsOpen (R284). -/
def Obj.tileRequestsOpen : ObjDesc := obj 0x5810 0x03 .u16 .ro .operator 0 (.span 0 65535) 2 2 false false 0
/-- 0x5810:04 PendingSegments (R284). -/
def Obj.pendingSegments : ObjDesc := obj 0x5810 0x04 .u16 .ro .operator 0 (.span 0 2048) 2 2 false false 0
/-- 0x5810:05 SegmentTurnLimit (R284). -/
def Obj.segmentTurnLimit : ObjDesc := obj 0x5810 0x05 .u8 .rws .integrator 2 (.span 1 10) 1 2 false false 0
/-- 0x5810:06 NextSeq (R284). -/
def Obj.nextSeq : ObjDesc := obj 0x5810 0x06 .u16 .ro .operator 0 (.span 0 65535) 2 2 false false 0
/-- 0x5820:01 TileCursorX (R284). -/
def Obj.tileCursorX : ObjDesc := obj 0x5820 0x01 .i16 .rw .operator 0 (.span (-32768) 32767) 2 1 false true 0
/-- 0x5820:02 TileCursorY (R284). -/
def Obj.tileCursorY : ObjDesc := obj 0x5820 0x02 .i16 .rw .operator 0 (.span (-32768) 32767) 2 1 false true 0
/-- 0x5820:03 TileData (R284). -/
def Obj.tileData : ObjDesc := obj 0x5820 0x03 .domain .ro .operator 0 .any 0 1 false false 0x582001
/-- 0x6000:01 MasterEnable (R257). -/
def Obj.masterEnable : ObjDesc := obj 0x6000 0x01 .u8 .rw .operator 0 (.oneOf [0, 1]) 1 2 false false 0
/-- 0x6000:02 LookAheadHorizon (R257). -/
def Obj.lookAheadHorizon : ObjDesc := obj 0x6000 0x02 .u16 .rws .integrator 2000 (.span 500 4000) 2 2 false false 0
/-- 0x6000:03 OverlapTolerance (R257). -/
def Obj.overlapTolerance : ObjDesc := obj 0x6000 0x03 .u8 .rws .integrator 50 (.span 0 100) 1 2 false false 0
/-- 0x6000:04 MinApplySpeed (R257). -/
def Obj.minApplySpeed : ObjDesc := obj 0x6000 0x04 .u16 .rws .integrator 500 (.span 0 5000) 2 2 false false 0
/-- 0x6000:05 PoseSigmaLimit (R257). -/
def Obj.poseSigmaLimit : ObjDesc := obj 0x6000 0x05 .u16 .rws .integrator 100 (.span 10 2000) 2 2 false false 0
/-- 0x6000:06 PoseStaleLimit (R257). -/
def Obj.poseStaleLimit : ObjDesc := obj 0x6000 0x06 .u8 .rws .integrator 30 (.span 10 200) 1 2 false false 0
/-- 0x6000:07 ChainLength (R257). -/
def Obj.chainLength : ObjDesc := obj 0x6000 0x07 .u16 .rws .integrator 0 (.zeroOrSteps 8 1024 8) 2 2 false false 0
/-- 0x6000:08 ChainDivider (R257). -/
def Obj.chainDivider : ObjDesc := obj 0x6000 0x08 .u8 .rws .integrator 10 (.span 2 50) 1 2 false false 0
/-- 0x6000:09 ChainReadback (R257). -/
def Obj.chainReadback : ObjDesc := obj 0x6000 0x09 .u8 .rws .integrator 1 (.oneOf [0, 1]) 1 2 false false 0
/-- 0x6000:0A ChainLatency (R257). -/
def Obj.chainLatency : ObjDesc := obj 0x6000 0x0A .u16 .ro .operator 15 (.span 0 65535) 2 2 false false 0
/-- 0x6000:0B KerbStatus (R257). -/
def Obj.kerbStatus : ObjDesc := obj 0x6000 0x0B .u16 .ro .operator 0 (.span 0 65535) 2 2 false false 0
/-- 0x6000:0C ChainFaultClear (R257). Its own rule answers any value but 1 with refused access (R250), so no range stands before it. -/
def Obj.chainFaultClear : ObjDesc := obj 0x6000 0x0C .u8 .wo .integrator 0 .any 1 2 false false 0
/-- 0x6000:0D LateDecisions (R257). -/
def Obj.lateDecisions : ObjDesc := obj 0x6000 0x0D .u32 .ro .operator 0 (.span 0 4294967295) 4 2 false false 0
/-- 0x6000:0E LateEvents (R257). -/
def Obj.lateEvents : ObjDesc := obj 0x6000 0x0E .u32 .ro .operator 0 (.span 0 4294967295) 4 2 false false 0
/-- 0x6000:0F TileMissPolicy (R257). -/
def Obj.tileMissPolicy : ObjDesc := obj 0x6000 0x0F .u8 .rws .integrator 0 (.oneOf [0, 1]) 1 2 false false 0
/-- 0x6000:10 ImplementModel (R257). -/
def Obj.implementModel : ObjDesc := obj 0x6000 0x10 .u8 .rws .integrator 0 (.oneOf [0, 1]) 1 2 false false 0
/-- 0x6000:11 HitchOffsetX (R257). -/
def Obj.hitchOffsetX : ObjDesc := obj 0x6000 0x11 .i32 .rws .integrator 0 (.span (-20000) 20000) 4 2 false false 0
/-- 0x6000:12 HitchOffsetY (R257). -/
def Obj.hitchOffsetY : ObjDesc := obj 0x6000 0x12 .i32 .rws .integrator 0 (.span (-20000) 20000) 4 2 false false 0
/-- 0x6000:13 HitchToAxle (R257). -/
def Obj.hitchToAxle : ObjDesc := obj 0x6000 0x13 .u32 .rws .integrator 3000 (.span 500 20000) 4 2 false false 0
/-- 0x6000:14 ChainFaultCount (R257). -/
def Obj.chainFaultCount : ObjDesc := obj 0x6000 0x14 .u32 .ro .operator 0 (.span 0 4294967295) 4 2 false false 0
/-- 0x6000:15 SelfMaskTime (R257). -/
def Obj.selfMaskTime : ObjDesc := obj 0x6000 0x15 .u16 .rws .integrator 2000 (.span 500 10000) 2 2 false false 0
/-- 0x6010:01 SectionCursor (R226). -/
def Obj.sectionCursor : ObjDesc := obj 0x6010 0x01 .u32 .rw .operator 0 (.span 0 131071) 4 3 false true 0
/-- 0x6010:02 SectionEnable (R226). -/
def Obj.sectionEnable : ObjDesc := obj 0x6010 0x02 .u8 .rws .integrator 0 (.oneOf [0, 1]) 1 3 false false 0x601001
/-- 0x6010:03 SectionOnDelay (R226). -/
def Obj.sectionOnDelay : ObjDesc := obj 0x6010 0x03 .u16 .rws .integrator 0 (.span 0 35000) 2 3 false false 0x601001
/-- 0x6010:04 SectionOffDelay (R226). -/
def Obj.sectionOffDelay : ObjDesc := obj 0x6010 0x04 .u16 .rws .integrator 0 (.span 0 35000) 2 3 false false 0x601001
/-- 0x6010:05 SectionOffsetX (R226). -/
def Obj.sectionOffsetX : ObjDesc := obj 0x6010 0x05 .i32 .rws .integrator 0 (.span (-30000) 30000) 4 3 false false 0x601001
/-- 0x6010:06 SectionOffsetY (R226). -/
def Obj.sectionOffsetY : ObjDesc := obj 0x6010 0x06 .i32 .rws .integrator 0 (.span (-30000) 30000) 4 3 false false 0x601001
/-- 0x6010:07 SectionWidth (R226). -/
def Obj.sectionWidth : ObjDesc := obj 0x6010 0x07 .u16 .rws .integrator 500 (.span 10 12000) 2 3 false false 0x601001
/-- 0x6010:08 SectionChainBit (R226). -/
def Obj.sectionChainBit : ObjDesc := obj 0x6010 0x08 .u16 .rws .integrator 65535 (.spanOr 0 1023 65535) 2 3 false false 0x601001
/-- 0x6010:09 SectionActiveLevel (R226). -/
def Obj.sectionActiveLevel : ObjDesc := obj 0x6010 0x09 .u8 .rws .integrator 1 (.oneOf [0, 1]) 1 3 false false 0x601001
/-- 0x6010:0A SectionProduct (R226). -/
def Obj.sectionProduct : ObjDesc := obj 0x6010 0x0A .u8 .rws .integrator 0 (.span 0 3) 1 3 false false 0x601001
/-- 0x6010:0B SectionLoopGroup (R226). -/
def Obj.sectionLoopGroup : ObjDesc := obj 0x6010 0x0B .u8 .rws .integrator 255 (.spanOr 8 63 255) 1 3 false false 0x601001
/-- 0x6010:0C SectionMode (R226). -/
def Obj.sectionMode : ObjDesc := obj 0x6010 0x0C .u8 .rw .operator 0 (.oneOf [0, 1, 2]) 1 3 false false 0x601001
/-- 0x6010:0D SectionState (R226). -/
def Obj.sectionState : ObjDesc := obj 0x6010 0x0D .u8 .ro .operator 0 (.span 0 255) 1 3 false false 0x601001
/-- 0x6010:0E SectionSwitchCount (R226). -/
def Obj.sectionSwitchCount : ObjDesc := obj 0x6010 0x0E .u32 .ro .operator 0 (.span 0 4294967295) 4 3 false false 0x601001
/-- 0x6010:0F SectionNextSwitch (R226). -/
def Obj.sectionNextSwitch : ObjDesc := obj 0x6010 0x0F .time64 .ro .operator 0 (.span (-9223372036854775808) 9223372036854775807) 8 3 false false 0x601001
/-- 0x6020:01 ProductRate0 (R257). -/
def Obj.productRate0 : ObjDesc := obj 0x6020 0x01 .q16 .rws .integrator 0 (.span 0 2147418112) 4 2 false false 0
/-- 0x6020:02 ProductRate1 (R257). -/
def Obj.productRate1 : ObjDesc := obj 0x6020 0x02 .q16 .rws .integrator 0 (.span 0 2147418112) 4 2 false false 0
/-- 0x6020:03 ProductRate2 (R257). -/
def Obj.productRate2 : ObjDesc := obj 0x6020 0x03 .q16 .rws .integrator 0 (.span 0 2147418112) 4 2 false false 0
/-- 0x6020:04 ProductRate3 (R257). -/
def Obj.productRate3 : ObjDesc := obj 0x6020 0x04 .q16 .rws .integrator 0 (.span 0 2147418112) 4 2 false false 0
/-- 0x6020:05 ProductTarget0 (R257). -/
def Obj.productTarget0 : ObjDesc := obj 0x6020 0x05 .q16 .ro .operator 0 (.span (-2147483648) 2147483647) 4 2 false false 0
/-- 0x6020:06 ProductTarget1 (R257). -/
def Obj.productTarget1 : ObjDesc := obj 0x6020 0x06 .q16 .ro .operator 0 (.span (-2147483648) 2147483647) 4 2 false false 0
/-- 0x6020:07 ProductTarget2 (R257). -/
def Obj.productTarget2 : ObjDesc := obj 0x6020 0x07 .q16 .ro .operator 0 (.span (-2147483648) 2147483647) 4 2 false false 0
/-- 0x6020:08 ProductTarget3 (R257). -/
def Obj.productTarget3 : ObjDesc := obj 0x6020 0x08 .q16 .ro .operator 0 (.span (-2147483648) 2147483647) 4 2 false false 0
/-- 0x6020:09 ProductOpenWidth0 (R257). -/
def Obj.productOpenWidth0 : ObjDesc := obj 0x6020 0x09 .u32 .ro .operator 0 (.span 0 4294967295) 4 2 false false 0
/-- 0x6020:0A ProductOpenWidth1 (R257). -/
def Obj.productOpenWidth1 : ObjDesc := obj 0x6020 0x0A .u32 .ro .operator 0 (.span 0 4294967295) 4 2 false false 0
/-- 0x6020:0B ProductOpenWidth2 (R257). -/
def Obj.productOpenWidth2 : ObjDesc := obj 0x6020 0x0B .u32 .ro .operator 0 (.span 0 4294967295) 4 2 false false 0
/-- 0x6020:0C ProductOpenWidth3 (R257). -/
def Obj.productOpenWidth3 : ObjDesc := obj 0x6020 0x0C .u32 .ro .operator 0 (.span 0 4294967295) 4 2 false false 0
/-- 0x7000:02 IntervalLength (R452). -/
def Obj.intervalLength : ObjDesc := obj 0x7000 0x02 .u32 .rws .integrator 1000 (.span 10 60000) 4 2 false false 0
/-- 0x7000:03 MeterSnapshot (R452). -/
def Obj.meterSnapshot : ObjDesc := obj 0x7000 0x03 .u8 .wo .operator 0 (.oneOf [1]) 1 2 false false 0
/-- 0x7000:04 SnapshotTime (R452). -/
def Obj.snapshotTime : ObjDesc := obj 0x7000 0x04 .time64 .ro .operator 0 (.span (-9223372036854775808) 9223372036854775807) 8 2 false false 0
/-- 0x7000:05 MeterClear (R452). -/
def Obj.meterClear : ObjDesc := obj 0x7000 0x05 .u16 .wo .service 0 (.oneOf [195]) 2 2 false false 0
/-- 0x7000:06 IntervalHostOutput (R452). -/
def Obj.intervalHostOutput : ObjDesc := obj 0x7000 0x06 .u8 .rw .integrator 0 (.oneOf [0, 1]) 1 2 false false 0
/-- 0x7000:07 IntervalHostQueue (R452). -/
def Obj.intervalHostQueue : ObjDesc := obj 0x7000 0x07 .u8 .ro .operator 0 (.span 0 63) 1 2 false false 0
/-- 0x7000:08 MeterStatus (R452). -/
def Obj.meterStatus : ObjDesc := obj 0x7000 0x08 .u16 .ro .operator 0 (.span 0 65535) 2 2 false false 0
/-- 0x7000:09 MeterView (R452). -/
def Obj.meterView : ObjDesc := obj 0x7000 0x09 .u8 .rw .operator 0 (.oneOf [0, 1]) 1 2 false false 0
/-- 0x7010:01 InputCursor (R452). -/
def Obj.inputCursor : ObjDesc := obj 0x7010 0x01 .u8 .rw .operator 0 (.span 0 31) 1 2 false true 0
/-- 0x7010:02 InputMode (R452). -/
def Obj.inputMode : ObjDesc := obj 0x7010 0x02 .u8 .rws .integrator 0 (.span 0 3) 1 2 false false 0x701001
/-- 0x7010:03 Debounce (R452). -/
def Obj.debounce : ObjDesc := obj 0x7010 0x03 .u16 .rws .integrator 2 (.span 0 1000) 2 2 false false 0x701001
/-- 0x7010:04 KFactor (R452). -/
def Obj.kFactor : ObjDesc := obj 0x7010 0x04 .q16 .rws .integrator 65536 (.span 1 2147483647) 4 2 false false 0x701001
/-- 0x7010:05 AccumMode (R452). -/
def Obj.accumMode : ObjDesc := obj 0x7010 0x05 .u8 .rws .integrator 0 (.oneOf [0, 1]) 1 2 false false 0x701001
/-- 0x7010:06 DirPolarity (R452). -/
def Obj.dirPolarity : ObjDesc := obj 0x7010 0x06 .u8 .rws .integrator 0 (.oneOf [0, 1]) 1 2 false false 0x701001
/-- 0x7010:07 InputBinding (R452). -/
def Obj.inputBinding : ObjDesc := obj 0x7010 0x07 .u16 .rws .integrator 0 (.span 0 65535) 2 2 false false 0x701001
/-- 0x7010:08 InputForward (R452). -/
def Obj.inputForward : ObjDesc := obj 0x7010 0x08 .u64 .ro .operator 0 (.span 0 18446744073709551615) 8 2 false false 0x701001
/-- 0x7010:09 InputReverse (R452). -/
def Obj.inputReverse : ObjDesc := obj 0x7010 0x09 .u64 .ro .operator 0 (.span 0 18446744073709551615) 8 2 false false 0x701001
/-- 0x7010:0A InputRate (R452). -/
def Obj.inputRate : ObjDesc := obj 0x7010 0x0A .q16 .ro .operator 0 (.span (-2147483648) 2147483647) 4 2 false false 0x701001
/-- 0x7010:0B RateWindow (R452). -/
def Obj.rateWindow : ObjDesc := obj 0x7010 0x0B .u16 .rws .integrator 100 (.span 10 1000) 2 2 false false 0x701001
/-- 0x7010:0C RateTimeout (R452). -/
def Obj.rateTimeout : ObjDesc := obj 0x7010 0x0C .u16 .rws .integrator 1000 (.span 50 10000) 2 2 false false 0x701001
/-- 0x7010:0D DirectionChanges (R452). -/
def Obj.directionChanges : ObjDesc := obj 0x7010 0x0D .u32 .ro .operator 0 (.span 0 4294967295) 4 2 false false 0x701001
/-- 0x7010:0E InputStatus (R452). -/
def Obj.inputStatus : ObjDesc := obj 0x7010 0x0E .u8 .ro .operator 0 (.span 0 255) 1 2 false false 0x701001
/-- 0x7020:01 ProductQuantity0 (R452). -/
def Obj.productQuantity0 : ObjDesc := obj 0x7020 0x01 .u64 .ro .operator 0 (.span 0 18446744073709551615) 8 2 false false 0
/-- 0x7020:02 ProductQuantity1 (R452). -/
def Obj.productQuantity1 : ObjDesc := obj 0x7020 0x02 .u64 .ro .operator 0 (.span 0 18446744073709551615) 8 2 false false 0
/-- 0x7020:03 ProductQuantity2 (R452). -/
def Obj.productQuantity2 : ObjDesc := obj 0x7020 0x03 .u64 .ro .operator 0 (.span 0 18446744073709551615) 8 2 false false 0
/-- 0x7020:04 ProductQuantity3 (R452). -/
def Obj.productQuantity3 : ObjDesc := obj 0x7020 0x04 .u64 .ro .operator 0 (.span 0 18446744073709551615) 8 2 false false 0
/-- 0x7020:05 UnassignedQuantity0 (R452). -/
def Obj.unassignedQuantity0 : ObjDesc := obj 0x7020 0x05 .u64 .ro .operator 0 (.span 0 18446744073709551615) 8 2 false false 0
/-- 0x7020:06 UnassignedQuantity1 (R452). -/
def Obj.unassignedQuantity1 : ObjDesc := obj 0x7020 0x06 .u64 .ro .operator 0 (.span 0 18446744073709551615) 8 2 false false 0
/-- 0x7020:07 UnassignedQuantity2 (R452). -/
def Obj.unassignedQuantity2 : ObjDesc := obj 0x7020 0x07 .u64 .ro .operator 0 (.span 0 18446744073709551615) 8 2 false false 0
/-- 0x7020:08 UnassignedQuantity3 (R452). -/
def Obj.unassignedQuantity3 : ObjDesc := obj 0x7020 0x08 .u64 .ro .operator 0 (.span 0 18446744073709551615) 8 2 false false 0
/-- 0x7030:01 MeterSectionCursor (R452). -/
def Obj.meterSectionCursor : ObjDesc := obj 0x7030 0x01 .u32 .rw .operator 0 (.span 0 131071) 4 3 false true 0
/-- 0x7030:02 SectionQuantity (R452). -/
def Obj.sectionQuantity : ObjDesc := obj 0x7030 0x02 .u64 .ro .operator 0 (.span 0 18446744073709551615) 8 3 false false 0x703001
/-- 0x7040:01 LastInterval (R452). -/
def Obj.lastInterval : ObjDesc := obj 0x7040 0x01 .domain .ro .operator 0 .any 0 2 false false 0
/-- 0x7080:01 VinNominal (R452). -/
def Obj.vinNominal : ObjDesc := obj 0x7080 0x01 .q16 .rws .integrator 884736 (.span 196608 2097152) 4 2 false false 0
/-- 0x7080:02 SagPercent (R452). -/
def Obj.sagPercent : ObjDesc := obj 0x7080 0x02 .u8 .rws .integrator 10 (.span 5 50) 1 2 false false 0
/-- 0x7080:03 SwellPercent (R452). -/
def Obj.swellPercent : ObjDesc := obj 0x7080 0x03 .u8 .rws .integrator 10 (.span 5 50) 1 2 false false 0
/-- 0x7080:04 VinEventCounts (R452). -/
def Obj.vinEventCounts : ObjDesc := obj 0x7080 0x04 .octets .ro .operator 0 .any 12 2 false false 0
/-- 0x7080:05 VinEventNext (R452). -/
def Obj.vinEventNext : ObjDesc := obj 0x7080 0x05 .octets .ro .operator 0 .any 24 2 false false 0
/-- 0x7080:08 VinEventsLost (R452). -/
def Obj.vinEventsLost : ObjDesc := obj 0x7080 0x08 .u32 .ro .operator 0 (.span 0 4294967295) 4 2 false false 0
/-- 0x8010:01 AxisCursor (R476). -/
def Obj.axisCursor : ObjDesc := obj 0x8010 0x01 .u8 .rw .operator 0 (.span 0 15) 1 2 false true 0
/-- 0x8010:02 AxisMode (R476). -/
def Obj.axisMode : ObjDesc := obj 0x8010 0x02 .u8 .rws .integrator 0 (.span 0 4) 1 2 false false 0x801001
/-- 0x8010:03 CommandSource (R476). -/
def Obj.commandSource : ObjDesc := obj 0x8010 0x03 .u8 .rws .integrator 0 (.oneOf [0, 1]) 1 2 false false 0x801001
/-- 0x8010:04 AxisEnable (R476). -/
def Obj.axisEnable : ObjDesc := obj 0x8010 0x04 .u8 .rw .operator 0 (.oneOf [0, 1]) 1 2 false false 0x801001
/-- 0x8010:05 StepsPerUnit (R476). -/
def Obj.stepsPerUnit : ObjDesc := obj 0x8010 0x05 .q16 .rws .integrator 65536 (.span 1 2147483647) 4 2 false false 0x801001
/-- 0x8010:06 MaxVelocity (R476). -/
def Obj.maxVelocity : ObjDesc := obj 0x8010 0x06 .u32 .rws .integrator 10000 (.span 1 500000) 4 2 false false 0x801001
/-- 0x8010:07 Acceleration (R476). -/
def Obj.acceleration : ObjDesc := obj 0x8010 0x07 .u32 .rws .integrator 50000 (.span 100 10000000) 4 2 false false 0x801001
/-- 0x8010:08 SoftStopDecel (R476). -/
def Obj.softStopDecel : ObjDesc := obj 0x8010 0x08 .u32 .rws .integrator 100000 (.span 100 10000000) 4 2 false false 0x801001
/-- 0x8010:09 StepWidth (R476). -/
def Obj.stepWidth : ObjDesc := obj 0x8010 0x09 .u8 .rws .integrator 50 (.span 20 100) 1 2 false false 0x801001
/-- 0x8010:0A DirSetup (R476). -/
def Obj.dirSetup : ObjDesc := obj 0x8010 0x0A .u16 .rws .integrator 50 (.span 2 500) 2 2 false false 0x801001
/-- 0x8010:0B AenOnDelay (R476). -/
def Obj.aenOnDelay : ObjDesc := obj 0x8010 0x0B .u16 .rws .integrator 10 (.span 0 1000) 2 2 false false 0x801001
/-- 0x8010:0C AenOffDelay (R476). -/
def Obj.aenOffDelay : ObjDesc := obj 0x8010 0x0C .u16 .rws .integrator 10 (.span 0 1000) 2 2 false false 0x801001
/-- 0x8010:0D LimitMin (R476). -/
def Obj.limitMin : ObjDesc := obj 0x8010 0x0D .i64 .rws .integrator (-9223372036854775808) (.span (-9223372036854775808) 9223372036854775807) 8 2 false false 0x801001
/-- 0x8010:0E LimitMax (R476). -/
def Obj.limitMax : ObjDesc := obj 0x8010 0x0E .i64 .rws .integrator 9223372036854775807 (.span (-9223372036854775808) 9223372036854775807) 8 2 false false 0x801001
/-- 0x8010:0F FaultInput (R476). -/
def Obj.faultInput : ObjDesc := obj 0x8010 0x0F .u8 .rws .integrator 255 (.spanOr 0 63 255) 1 2 false false 0x801001
/-- 0x8010:10 FaultPolarity (R476). -/
def Obj.faultPolarity : ObjDesc := obj 0x8010 0x10 .u8 .rws .integrator 0 (.oneOf [0, 1]) 1 2 false false 0x801001
/-- 0x8010:11 FollowInput (R476). -/
def Obj.followInput : ObjDesc := obj 0x8010 0x11 .u8 .rws .integrator 0 (.span 0 3) 1 2 false false 0x801001
/-- 0x8010:12 FollowMultiplier (R476). -/
def Obj.followMultiplier : ObjDesc := obj 0x8010 0x12 .u16 .rws .integrator 1 (.span 1 256) 2 2 false false 0x801001
/-- 0x8010:13 FollowDirection (R476). -/
def Obj.followDirection : ObjDesc := obj 0x8010 0x13 .u8 .rws .integrator 0 (.oneOf [0, 1]) 1 2 false false 0x801001
/-- 0x8010:14 MoveTarget (R476). -/
def Obj.moveTarget : ObjDesc := obj 0x8010 0x14 .i64 .wo .operator 0 (.span (-9223372036854775808) 9223372036854775807) 8 2 false false 0x801001
/-- 0x8010:15 VelocityTarget (R476). -/
def Obj.velocityTarget : ObjDesc := obj 0x8010 0x15 .i32 .rw .operator 0 (.span (-2147483648) 2147483647) 4 2 false false 0x801001
/-- 0x8010:16 SegmentStart (R476). -/
def Obj.segmentStart : ObjDesc := obj 0x8010 0x16 .u16 .wo .operator 0 (.span 0 4095) 2 2 false false 0x801001
/-- 0x8010:17 AxisStop (R476). -/
def Obj.axisStop : ObjDesc := obj 0x8010 0x17 .u8 .wo .operator 0 (.oneOf [1]) 1 2 false false 0x801001
/-- 0x8010:18 AxisResume (R476). -/
def Obj.axisResume : ObjDesc := obj 0x8010 0x18 .u8 .wo .operator 0 (.oneOf [1]) 1 2 false false 0x801001
/-- 0x8010:19 AxisPosition (R476). -/
def Obj.axisPosition : ObjDesc := obj 0x8010 0x19 .i64 .ro .operator 0 (.span (-9223372036854775808) 9223372036854775807) 8 2 false false 0x801001
/-- 0x8010:1A AxisVelocity (R476). -/
def Obj.axisVelocity : ObjDesc := obj 0x8010 0x1A .i32 .ro .operator 0 (.span (-500000000) 500000000) 4 2 false false 0x801001
/-- 0x8010:1B RemainingDistance (R476). -/
def Obj.remainingDistance : ObjDesc := obj 0x8010 0x1B .i64 .ro .operator 0 (.span (-9223372036854775808) 9223372036854775807) 8 2 false false 0x801001
/-- 0x8010:1C AxisState (R476). -/
def Obj.axisState : ObjDesc := obj 0x8010 0x1C .u8 .ro .operator 0 (.span 0 7) 1 2 false false 0x801001
/-- 0x8010:1D AxisCommandResult (R476). -/
def Obj.axisCommandResult : ObjDesc := obj 0x8010 0x1D .u8 .ro .operator 0 (.span 0 6) 1 2 false false 0x801001
/-- 0x8010:1E AxisStatus (R476). -/
def Obj.axisStatus : ObjDesc := obj 0x8010 0x1E .u16 .ro .operator 0 (.span 0 65535) 2 2 false false 0x801001
/-- 0x8010:1F StartTime (R476). -/
def Obj.startTime : ObjDesc := obj 0x8010 0x1F .time64 .rw .operator 0 (.span (-9223372036854775808) 9223372036854775807) 8 2 false false 0x801001
/-- 0x8010:20 PositionPreset (R476). -/
def Obj.positionPreset : ObjDesc := obj 0x8010 0x20 .i64 .wo .integrator 0 (.span (-9223372036854775808) 9223372036854775807) 8 2 false false 0x801001
/-- 0x8020:01 TramGroupCursor (R476). -/
def Obj.tramGroupCursor : ObjDesc := obj 0x8020 0x01 .u8 .rw .operator 0 (.span 0 7) 1 2 false true 0
/-- 0x8020:02 GroupMembers (R476). -/
def Obj.groupMembers : ObjDesc := obj 0x8020 0x02 .u16 .rws .integrator 0 (.span 0 65535) 2 2 false false 0x802001
/-- 0x8020:03 GroupTarget (R476). -/
def Obj.groupTarget : ObjDesc := obj 0x8020 0x03 .octets .wo .operator 0 .any 64 2 false false 0x802001
/-- 0x8020:04 GroupStop (R476). -/
def Obj.groupStop : ObjDesc := obj 0x8020 0x04 .u8 .wo .operator 0 (.oneOf [1]) 1 2 false false 0x802001
/-- 0x8020:05 GroupAxisResume (R476). -/
def Obj.groupAxisResume : ObjDesc := obj 0x8020 0x05 .u8 .wo .operator 0 (.oneOf [1]) 1 2 false false 0x802001
/-- 0x8020:06 GroupResult (R476). -/
def Obj.groupResult : ObjDesc := obj 0x8020 0x06 .u8 .ro .operator 0 (.span 0 6) 1 2 false false 0x802001
/-- 0x8030:01 SegmentCursor (R476). -/
def Obj.segmentCursor : ObjDesc := obj 0x8030 0x01 .u16 .rw .integrator 0 (.span 0 4095) 2 2 false true 0
/-- 0x8030:02 SegmentEntry (R476). -/
def Obj.segmentEntry : ObjDesc := obj 0x8030 0x02 .octets .rw .integrator 0 .any 16 2 false false 0x803001
/-- 0x9000:01 TimeNow (R406). -/
def Obj.timeNow : ObjDesc := obj 0x9000 0x01 .time64 .ro .operator 0 (.span (-9223372036854775808) 9223372036854775807) 8 7 false false 0
/-- 0x9000:02 TimeState (R406). -/
def Obj.timeState : ObjDesc := obj 0x9000 0x02 .u8 .ro .operator 0 (.span 0 4) 1 7 false false 0
/-- 0x9000:03 TimeUncertainty (R406). -/
def Obj.timeUncertainty : ObjDesc := obj 0x9000 0x03 .u32 .ro .operator 4294967295 (.span 0 4294967295) 4 7 false false 0
/-- 0x9000:04 TimeStatus (R406). -/
def Obj.timeStatus : ObjDesc := obj 0x9000 0x04 .u16 .ro .operator 0 (.span 0 65535) 2 7 false false 0
/-- 0x9000:05 ReferenceSelect (R406). -/
def Obj.referenceSelect : ObjDesc := obj 0x9000 0x05 .u8 .rws .integrator 0 (.oneOf [0, 1]) 1 7 true false 0
/-- 0x9000:06 PtpTimeSource (R406). -/
def Obj.ptpTimeSource : ObjDesc := obj 0x9000 0x06 .u8 .rws .integrator 0 (.oneOf [0, 1]) 1 7 false false 0
/-- 0x9000:07 HoldoverDrift (R406). -/
def Obj.holdoverDrift : ObjDesc := obj 0x9000 0x07 .u32 .rws .integrator 100 (.span 1 10000) 4 7 false false 0
/-- 0x9000:08 ClockSlewMax (R406). -/
def Obj.clockSlewMax : ObjDesc := obj 0x9000 0x08 .u8 .rws .integrator 100 (.span 1 100) 1 7 false false 0
/-- 0x9000:09 AntennaCableDelay (R406). -/
def Obj.antennaCableDelay : ObjDesc := obj 0x9000 0x09 .u32 .rws .integrator 0 (.span 0 1000000) 4 7 false false 0
/-- 0x9000:0A StepCount (R406). -/
def Obj.stepCount : ObjDesc := obj 0x9000 0x0A .u32 .ro .operator 0 (.span 0 4294967295) 4 7 false false 0
/-- 0x9010:01 ClockOffset (R406). -/
def Obj.clockOffset : ObjDesc := obj 0x9010 0x01 .time64 .ro .operator 0 (.span (-9223372036854775808) 9223372036854775807) 8 7 false false 0
/-- 0x9010:02 ClockRef (R406). -/
def Obj.clockRef : ObjDesc := obj 0x9010 0x02 .u64 .ro .operator 0 (.span 0 18446744073709551615) 8 7 false false 0
/-- 0x9010:03 ClockRate (R406). -/
def Obj.clockRate : ObjDesc := obj 0x9010 0x03 .i32 .ro .operator 0 (.span (-219902326) 219902326) 4 7 false false 0
/-- 0x9020:01 PpsOutEnable (R406). -/
def Obj.ppsOutEnable : ObjDesc := obj 0x9020 0x01 .u8 .rws .integrator 1 (.oneOf [0, 1]) 1 7 false false 0
/-- 0x9020:02 PpsOutWidth (R406). -/
def Obj.ppsOutWidth : ObjDesc := obj 0x9020 0x02 .u16 .rws .integrator 100 (.span 1 400) 2 7 false false 0
/-- 0x9020:03 PpsOutOffset (R406). -/
def Obj.ppsOutOffset : ObjDesc := obj 0x9020 0x03 .i32 .rws .integrator 0 (.span (-1000000) 1000000) 4 7 false false 0
/-- 0x9020:04 PpsInOffset (R406). -/
def Obj.ppsInOffset : ObjDesc := obj 0x9020 0x04 .i32 .ro .operator 0 (.span (-500000000) 500000000) 4 7 false false 0
/-- 0x9030:01 Eth0RxAsym (R406). -/
def Obj.eth0RxAsym : ObjDesc := obj 0x9030 0x01 .i16 .rws .integrator 0 (.span (-2000) 2000) 2 7 false false 0
/-- 0x9030:02 Eth0TxAsym (R406). -/
def Obj.eth0TxAsym : ObjDesc := obj 0x9030 0x02 .i16 .rws .integrator 0 (.span (-2000) 2000) 2 7 false false 0
/-- 0x9030:03 Eth1RxAsym (R406). -/
def Obj.eth1RxAsym : ObjDesc := obj 0x9030 0x03 .i16 .rws .integrator 0 (.span (-2000) 2000) 2 7 false false 0
/-- 0x9030:04 Eth1TxAsym (R406). -/
def Obj.eth1TxAsym : ObjDesc := obj 0x9030 0x04 .i16 .rws .integrator 0 (.span (-2000) 2000) 2 7 false false 0
/-- 0x9030:05 RfARxAsym (R406). -/
def Obj.rfARxAsym : ObjDesc := obj 0x9030 0x05 .i16 .rws .integrator 0 (.span (-2000) 2000) 2 7 false false 0
/-- 0x9030:06 RfATxAsym (R406). -/
def Obj.rfATxAsym : ObjDesc := obj 0x9030 0x06 .i16 .rws .integrator 0 (.span (-2000) 2000) 2 7 false false 0
/-- 0x9030:07 RfBRxAsym (R406). -/
def Obj.rfBRxAsym : ObjDesc := obj 0x9030 0x07 .i16 .rws .integrator 0 (.span (-2000) 2000) 2 7 false false 0
/-- 0x9030:08 RfBTxAsym (R406). -/
def Obj.rfBTxAsym : ObjDesc := obj 0x9030 0x08 .i16 .rws .integrator 0 (.span (-2000) 2000) 2 7 false false 0
/-- 0x9040:01 EvtCursor (R406). -/
def Obj.evtCursor : ObjDesc := obj 0x9040 0x01 .u8 .rw .operator 0 (.span 0 4) 1 7 false true 0
/-- 0x9040:02 EvtEdge (R406). -/
def Obj.evtEdge : ObjDesc := obj 0x9040 0x02 .u8 .rws .integrator 0 (.oneOf [0, 1, 2, 3]) 1 7 false false 0x904001
/-- 0x9040:03 EvtNext (R406). -/
def Obj.evtNext : ObjDesc := obj 0x9040 0x03 .octets .ro .operator 0 .any 24 7 false false 0x904001
/-- 0x9040:04 EvtPending (R406). -/
def Obj.evtPending : ObjDesc := obj 0x9040 0x04 .u8 .ro .operator 0 (.span 0 64) 1 7 false false 0x904001
/-- 0x9040:05 EvtLost (R406). -/
def Obj.evtLost : ObjDesc := obj 0x9040 0x05 .u32 .ro .operator 0 (.span 0 4294967295) 4 7 false false 0x904001
/-- 0x9040:06 EvtHostOutput (R406). -/
def Obj.evtHostOutput : ObjDesc := obj 0x9040 0x06 .u8 .rw .integrator 0 (.oneOf [0, 1]) 1 7 false false 0
/-- 0x9040:07 EvtHostQueue (R406). -/
def Obj.evtHostQueue : ObjDesc := obj 0x9040 0x07 .u8 .ro .operator 0 (.span 0 63) 1 7 false false 0
/-- 0x9050:01 PtpPorts (R432). -/
def Obj.ptpPorts : ObjDesc := obj 0x9050 0x01 .u8 .rws .integrator 0 (.span 0 3) 1 7 false false 0
/-- 0x9050:02 PtpProfile (R432). -/
def Obj.ptpProfile : ObjDesc := obj 0x9050 0x02 .u8 .rws .integrator 0 (.oneOf [0, 1]) 1 7 false false 0
/-- 0x9050:03 PtpTransport (R432). -/
def Obj.ptpTransport : ObjDesc := obj 0x9050 0x03 .u8 .rws .integrator 0 (.oneOf [0, 1]) 1 7 false false 0
/-- 0x9050:04 PtpDomain (R432). -/
def Obj.ptpDomain : ObjDesc := obj 0x9050 0x04 .u8 .rws .integrator 0 (.span 0 127) 1 7 false false 0
/-- 0x9050:05 PtpTwoStep (R432). -/
def Obj.ptpTwoStep : ObjDesc := obj 0x9050 0x05 .u8 .rws .integrator 1 (.oneOf [0, 1]) 1 7 false false 0
/-- 0x9050:06 PtpPriority1 (R432). -/
def Obj.ptpPriority1 : ObjDesc := obj 0x9050 0x06 .u8 .rws .integrator 128 (.span 0 255) 1 7 false false 0
/-- 0x9050:07 PtpPortState (R432). -/
def Obj.ptpPortState : ObjDesc := obj 0x9050 0x07 .u8 .ro .operator 0 (.span 0 255) 1 7 false false 0
/-- 0x9050:08 PtpOffset (R432). -/
def Obj.ptpOffset : ObjDesc := obj 0x9050 0x08 .i32 .ro .operator 0 (.span (-2147483648) 2147483647) 4 7 false false 0
/-- 0xA000:01 MilestoneCursor (R557). -/
def Obj.milestoneCursor : ObjDesc := obj 0xA000 0x01 .u8 .rw .operator 0 (.span 0 255) 1 7 false true 0
/-- 0xA000:02 MilestoneFreeze (R557). -/
def Obj.milestoneFreeze : ObjDesc := obj 0xA000 0x02 .u8 .rw .operator 0 (.oneOf [0, 1]) 1 7 false false 0
/-- 0xA000:03 MilestoneItem (R557). -/
def Obj.milestoneItem : ObjDesc := obj 0xA000 0x03 .domain .ro .operator 0 .any 0 7 false false 0xa00001
/-- 0xA000:04 OperatingSeconds (R557). -/
def Obj.operatingSeconds : ObjDesc := obj 0xA000 0x04 .u32 .ro .operator 0 (.span 0 4294967295) 4 7 false false 0
/-- 0xA000:05 PowerCycles (R557). -/
def Obj.powerCycles : ObjDesc := obj 0xA000 0x05 .u32 .ro .operator 0 (.span 0 4294967295) 4 7 false false 0
/-- 0xA000:06 MilestoneClear (R557). -/
def Obj.milestoneClear : ObjDesc := obj 0xA000 0x06 .u16 .wo .service 0 (.oneOf [77]) 2 7 false false 0
/-- 0xA000:07 MilestoneStatus (R557). -/
def Obj.milestoneStatus : ObjDesc := obj 0xA000 0x07 .u8 .ro .operator 0 (.span 0 255) 1 7 false false 0
/-- 0xB000:01 KeySlotCursor (R584). -/
def Obj.keySlotCursor : ObjDesc := obj 0xB000 0x01 .u8 .rw .operator 0 (.span 0 31) 1 7 false true 0
/-- 0xB000:02 KeySlotState (R584). -/
def Obj.keySlotState : ObjDesc := obj 0xB000 0x02 .u8 .ro .operator 0 (.span 0 255) 1 7 false false 0xb00001
/-- 0xB000:03 KeySlotKind (R584). -/
def Obj.keySlotKind : ObjDesc := obj 0xB000 0x03 .u8 .ro .operator 0 (.span 0 255) 1 7 false false 0xb00001
/-- 0xB000:04 KeySlotGeneration (R584). -/
def Obj.keySlotGeneration : ObjDesc := obj 0xB000 0x04 .u32 .ro .operator 0 (.span 0 4294967295) 4 7 false false 0xb00001
/-- 0xB000:05 KeySlotPublic (R584). -/
def Obj.keySlotPublic : ObjDesc := obj 0xB000 0x05 .octets .ro .operator 0 .any 64 7 false false 0xb00001
/-- 0xB000:06 DeviceCertificate (R584). -/
def Obj.deviceCertificate : ObjDesc := obj 0xB000 0x06 .octets .ro .operator 0 .any 144 7 false false 0
/-- 0xB000:07 DeviceId (R584). -/
def Obj.deviceId : ObjDesc := obj 0xB000 0x07 .octets .ro .operator 0 .any 16 7 false false 0
/-- 0xB000:08 KeySlotRepairs (R584). -/
def Obj.keySlotRepairs : ObjDesc := obj 0xB000 0x08 .u32 .ro .operator 0 (.span 0 4294967295) 4 7 false false 0
/-- 0xB000:09 KeyRegisterLoads (R584). -/
def Obj.keyRegisterLoads : ObjDesc := obj 0xB000 0x09 .u32 .ro .operator 0 (.span 0 4294967295) 4 7 false false 0
/-- 0xB000:0A TollgateStatus (R584). -/
def Obj.tollgateStatus : ObjDesc := obj 0xB000 0x0A .u16 .ro .operator 0 (.span 0 65535) 2 7 false false 0
/-- 0xB010:01 KeyImportSecret (R584). -/
def Obj.keyImportSecret : ObjDesc := obj 0xB010 0x01 .octets .wo .service 0 .any 108 7 false false 0
/-- 0xB010:02 KeyImportPublic (R584). -/
def Obj.keyImportPublic : ObjDesc := obj 0xB010 0x02 .octets .wo .service 0 .any 136 7 false false 0
/-- 0xB010:03 KeyErase (R584). -/
def Obj.keyErase : ObjDesc := obj 0xB010 0x03 .u8 .wo .service 0 (.span 4 7) 1 7 false false 0
/-- 0xB010:04 KeyImportResult (R584). -/
def Obj.keyImportResult : ObjDesc := obj 0xB010 0x04 .u8 .ro .operator 0 (.span 0 5) 1 7 false false 0
/-- 0xC000:01 ImageSlotCursor (R584). -/
def Obj.imageSlotCursor : ObjDesc := obj 0xC000 0x01 .u8 .rw .operator 0 (.oneOf [0, 1]) 1 7 false true 0
/-- 0xC000:02 ImageSlotState (R584). -/
def Obj.imageSlotState : ObjDesc := obj 0xC000 0x02 .u8 .ro .operator 0 (.span 0 255) 1 7 false false 0xc00001
/-- 0xC000:03 ImageSlotVersion (R584). -/
def Obj.imageSlotVersion : ObjDesc := obj 0xC000 0x03 .u32 .ro .operator 0 (.span 0 4294967295) 4 7 false false 0xc00001
/-- 0xC000:04 ImageSlotSecurity (R584). -/
def Obj.imageSlotSecurity : ObjDesc := obj 0xC000 0x04 .u16 .ro .operator 0 (.span 0 65535) 2 7 false false 0xc00001
/-- 0xC000:05 ImageSlotDigest (R584). -/
def Obj.imageSlotDigest : ObjDesc := obj 0xC000 0x05 .octets .ro .operator 0 .any 32 7 false false 0xc00001
/-- 0xC000:06 ActiveImageVersion (R584). -/
def Obj.activeImageVersion : ObjDesc := obj 0xC000 0x06 .u32 .ro .operator 0 (.span 0 4294967295) 4 7 false false 0
/-- 0xC000:07 MinSecurityVersion (R584). -/
def Obj.minSecurityVersion : ObjDesc := obj 0xC000 0x07 .u16 .ro .operator 0 (.span 0 65535) 2 7 false false 0
/-- 0xC010:01 UpdateBegin (R584). -/
def Obj.updateBegin : ObjDesc := obj 0xC010 0x01 .u32 .wo .integrator 0 (.span 64 536870912) 4 7 false false 0
/-- 0xC010:02 UpdateReceived (R584). -/
def Obj.updateReceived : ObjDesc := obj 0xC010 0x02 .u32 .ro .operator 0 (.span 0 536870912) 4 7 false false 0
/-- 0xC010:03 UpdateData (R584). -/
def Obj.updateData : ObjDesc := obj 0xC010 0x03 .domain .wo .integrator 0 .any 65536 7 false false 0
/-- 0xC010:04 UpdateVerify (R584). -/
def Obj.updateVerify : ObjDesc := obj 0xC010 0x04 .u8 .wo .integrator 0 (.oneOf [1]) 1 7 false false 0
/-- 0xC010:05 UpdateResult (R584). -/
def Obj.updateResult : ObjDesc := obj 0xC010 0x05 .u8 .ro .operator 0 (.span 0 12) 1 7 false false 0
/-- 0xC020:01 ActivationTime (R584). -/
def Obj.activationTime : ObjDesc := obj 0xC020 0x01 .time64 .rw .integrator 0 (.span (-9223372036854775808) 9223372036854775807) 8 7 false false 0
/-- 0xC020:02 ActivationDigest (R584). -/
def Obj.activationDigest : ObjDesc := obj 0xC020 0x02 .octets .rw .integrator 0 .any 32 7 false false 0
/-- 0xC020:03 ActivationCommand (R584). -/
def Obj.activationCommand : ObjDesc := obj 0xC020 0x03 .u8 .wo .integrator 0 (.oneOf [1, 2, 3]) 1 7 false false 0
/-- 0xC020:04 ActivationState (R584). -/
def Obj.activationState : ObjDesc := obj 0xC020 0x04 .u8 .ro .operator 0 (.span 0 255) 1 7 false false 0
/-- 0xC020:05 ActivationId (R584). -/
def Obj.activationId : ObjDesc := obj 0xC020 0x05 .u32 .ro .operator 0 (.span 0 4294967295) 4 7 false false 0
/-- 0xC020:06 ActivationReady (R584). -/
def Obj.activationReady : ObjDesc := obj 0xC020 0x06 .octets .ro .operator 0 .any 18 7 false false 0
/-- 0xC020:07 ActivationResult (R584). -/
def Obj.activationResult : ObjDesc := obj 0xC020 0x07 .u8 .ro .operator 0 (.span 0 255) 1 7 false false 0
/-- 0xC030:01 StoredEntriesReset (R584). -/
def Obj.storedEntriesReset : ObjDesc := obj 0xC030 0x01 .u16 .ro .operator 0 (.span 0 65535) 2 7 false false 0
/-- 0xD000:01 RedundancyEnable (R603). -/
def Obj.redundancyEnable : ObjDesc := obj 0xD000 0x01 .u8 .rws .integrator 0 (.oneOf [0, 1]) 1 1 true false 0
/-- 0xD000:02 PairState (R603). -/
def Obj.zheocPairState : ObjDesc := obj 0xD000 0x02 .u8 .ro .operator 0 (.span 0 4) 1 1 false false 0
/-- 0xD000:03 PairStatus (R603). -/
def Obj.pairStatus : ObjDesc := obj 0xD000 0x03 .u16 .ro .operator 0 (.span 0 65535) 2 1 false false 0
/-- 0xD000:04 PartnerDeviceId (R603). -/
def Obj.partnerDeviceId : ObjDesc := obj 0xD000 0x04 .octets .ro .operator 0 .any 16 1 false false 0
/-- 0xD000:05 Failovers (R603). -/
def Obj.failovers : ObjDesc := obj 0xD000 0x05 .u32 .ro .operator 0 (.span 0 4294967295) 4 1 false false 0
/-- 0xD000:06 DigestMismatches (R603). -/
def Obj.digestMismatches : ObjDesc := obj 0xD000 0x06 .u32 .ro .operator 0 (.span 0 4294967295) 4 1 false false 0
/-- 0xD000:07 LinkRetransmits (R603). -/
def Obj.linkRetransmits : ObjDesc := obj 0xD000 0x07 .u32 .ro .operator 0 (.span 0 4294967295) 4 1 false false 0
/-- 0xD000:08 TransferProgress (R603). -/
def Obj.transferProgress : ObjDesc := obj 0xD000 0x08 .u8 .ro .operator 0 (.span 0 100) 1 1 false false 0
/-- 0xD000:09 HeartbeatGapMax (R603). -/
def Obj.heartbeatGapMax : ObjDesc := obj 0xD000 0x09 .u16 .ro .operator 0 (.span 0 65535) 2 1 false false 0
/-- 0xD000:0A AlignedSignals (R603). -/
def Obj.alignedSignals : ObjDesc := obj 0xD000 0x0A .u16 .ro .operator 0 (.span 0 512) 2 1 false false 0
/-- 0xE000:01 DictRequests (R532). -/
def Obj.dictRequests : ObjDesc := obj 0xE000 0x01 .u32 .ro .operator 0 (.span 0 4294967295) 4 7 false false 0
/-- 0xE000:02 DictBusyAborts (R532). -/
def Obj.dictBusyAborts : ObjDesc := obj 0xE000 0x02 .u32 .ro .operator 0 (.span 0 4294967295) 4 7 false false 0
/-- 0xE000:03 DictLatencyMax (R532). -/
def Obj.dictLatencyMax : ObjDesc := obj 0xE000 0x03 .u16 .ro .operator 0 (.span 0 65535) 2 7 false false 0
/-- 0xE000:04 PendingBootChanges (R532). -/
def Obj.pendingBootChanges : ObjDesc := obj 0xE000 0x04 .u16 .ro .operator 0 (.span 0 65535) 2 7 false false 0
/-- 0xE000:05 ObjectDirectory (R532). -/
def Obj.objectDirectory : ObjDesc := obj 0xE000 0x05 .domain .ro .operator 0 .any 0 7 false false 0
/-- 0xE000:06 StorePending (R532). -/
def Obj.storePending : ObjDesc := obj 0xE000 0x06 .u16 .ro .operator 0 (.span 0 65535) 2 7 false false 0
/-- 0xE000:07 PdoDropped (R532). -/
def Obj.pdoDropped : ObjDesc := obj 0xE000 0x07 .u32 .ro .operator 0 (.span 0 4294967295) 4 7 false false 0
/-- 0xE000:08 RemoteTimeouts (R532). -/
def Obj.remoteTimeouts : ObjDesc := obj 0xE000 0x08 .u32 .ro .operator 0 (.span 0 4294967295) 4 7 false false 0
/-- 0xE010:01 RtLoad (R483). -/
def Obj.rtLoad : ObjDesc := obj 0xE010 0x01 .u16 .ro .operator 0 (.span 0 65535) 2 7 false false 0
/-- 0xE010:02 CoreLoad (R483). -/
def Obj.coreLoad : ObjDesc := obj 0xE010 0x02 .u16 .ro .operator 0 (.span 0 65535) 2 7 false false 0
/-- 0xE010:03 MatchStoreUsed (R483). -/
def Obj.matchStoreUsed : ObjDesc := obj 0xE010 0x03 .u16 .ro .operator 0 (.span 0 4096) 2 7 false false 0
/-- 0xE010:04 MatchStoreHigh (R483). -/
def Obj.matchStoreHigh : ObjDesc := obj 0xE010 0x04 .u16 .ro .operator 0 (.span 0 65535) 2 7 false false 0
/-- 0xE010:05 MatchExpired (R483). -/
def Obj.matchExpired : ObjDesc := obj 0xE010 0x05 .u32 .ro .operator 0 (.span 0 4294967295) 4 7 false false 0
/-- 0xE010:06 MatchReplaced (R483). -/
def Obj.matchReplaced : ObjDesc := obj 0xE010 0x06 .u32 .ro .operator 0 (.span 0 4294967295) 4 7 false false 0
/-- 0xE010:07 DispatchMax (R483). -/
def Obj.dispatchMax : ObjDesc := obj 0xE010 0x07 .u16 .ro .operator 0 (.span 0 65535) 2 7 false false 0
/-- 0xE010:08 ThreadsReady (R483). -/
def Obj.threadsReady : ObjDesc := obj 0xE010 0x08 .u16 .ro .operator 0 (.span 0 512) 2 7 false false 0
/-- 0xE020:01 StoreStatus (R557). -/
def Obj.storeStatus : ObjDesc := obj 0xE020 0x01 .u16 .ro .operator 0 (.span 0 65535) 2 7 false false 0
/-- 0xE020:02 NandCapacity (R557). -/
def Obj.nandCapacity : ObjDesc := obj 0xE020 0x02 .u64 .ro .operator 0 (.span 0 2) 8 7 false false 0
/-- 0xE020:03 NandBlocksBad (R557). -/
def Obj.nandBlocksBad : ObjDesc := obj 0xE020 0x03 .u32 .ro .operator 0 (.span 0 4294967295) 4 7 false false 0
/-- 0xE020:04 NandSparesLeft (R557). -/
def Obj.nandSparesLeft : ObjDesc := obj 0xE020 0x04 .u32 .ro .operator 0 (.span 0 4294967295) 4 7 false false 0
/-- 0xE020:05 NandEraseMax (R557). -/
def Obj.nandEraseMax : ObjDesc := obj 0xE020 0x05 .u32 .ro .operator 0 (.span 0 4294967295) 4 7 false false 0
/-- 0xE020:06 NandEraseMean (R557). -/
def Obj.nandEraseMean : ObjDesc := obj 0xE020 0x06 .u32 .ro .operator 0 (.span 0 4294967295) 4 7 false false 0
/-- 0xE020:07 MramCorrected (R557). -/
def Obj.mramCorrected : ObjDesc := obj 0xE020 0x07 .u32 .ro .operator 0 (.span 0 4294967295) 4 7 false false 0
/-- 0xE020:08 MramUncorrectable (R557). -/
def Obj.mramUncorrectable : ObjDesc := obj 0xE020 0x08 .u32 .ro .operator 0 (.span 0 4294967295) 4 7 false false 0
/-- 0xE020:09 JournalUsed (R557). -/
def Obj.journalUsed : ObjDesc := obj 0xE020 0x09 .u32 .ro .operator 0 (.span 0 983040) 4 7 false false 0
/-- 0xE020:0A JournalSpilled (R557). -/
def Obj.journalSpilled : ObjDesc := obj 0xE020 0x0A .u32 .ro .operator 0 (.span 0 4294967295) 4 7 false false 0
/-- 0xE020:0B AsAppliedOldest (R557). -/
def Obj.asAppliedOldest : ObjDesc := obj 0xE020 0x0B .u64 .ro .operator 0 (.span 0 18446744073709551615) 8 7 false false 0
/-- 0xE020:0C AsAppliedNewest (R557). -/
def Obj.asAppliedNewest : ObjDesc := obj 0xE020 0x0C .u64 .ro .operator 0 (.span 0 18446744073709551615) 8 7 false false 0
/-- 0xE020:0D AsAppliedCursor (R557). -/
def Obj.asAppliedCursor : ObjDesc := obj 0xE020 0x0D .u64 .rw .operator 0 (.span 0 18446744073709551615) 8 7 false true 0
/-- 0xE020:0E AsAppliedRecord (R557). -/
def Obj.asAppliedRecord : ObjDesc := obj 0xE020 0x0E .domain .ro .operator 0 .any 0 7 false false 0xe0200d
/-- 0xE020:0F AsAppliedExported (R557). -/
def Obj.asAppliedExported : ObjDesc := obj 0xE020 0x0F .u64 .rws .integrator 0 (.span 0 18446744073709551615) 8 7 false false 0
/-- 0xE020:10 RefreshPending (R557). -/
def Obj.refreshPending : ObjDesc := obj 0xE020 0x10 .u32 .ro .operator 0 (.span 0 4294967295) 4 7 false false 0
/-- 0xE020:11 NandRefreshInterval (R557). -/
def Obj.nandRefreshInterval : ObjDesc := obj 0xE020 0x11 .u16 .rws .integrator 180 (.span 7 730) 2 7 false false 0
/-- 0xF000:01 ProgramCount (R223). -/
def Obj.programCount : ObjDesc := obj 0xF000 0x01 .u16 .ro .operator 0 (.span 0 256) 2 3 false false 0
/-- 0xF000:02 LoadStatus (R223). -/
def Obj.loadStatus : ObjDesc := obj 0xF000 0x02 .u8 .ro .operator 1 (.span 0 255) 1 3 false false 0
/-- 0xF000:03 SlotLoad (R223). -/
def Obj.slotLoad : ObjDesc := obj 0xF000 0x03 .u16 .ro .operator 0 (.span 0 65535) 2 3 false false 0
/-- 0xF000:04 CorrectedReads (R223). -/
def Obj.correctedReads : ObjDesc := obj 0xF000 0x04 .u32 .ro .operator 0 (.span 0 4294967295) 4 3 false false 0
/-- 0xF000:05 UncorrectableReads (R223). -/
def Obj.uncorrectableReads : ObjDesc := obj 0xF000 0x05 .u32 .ro .operator 0 (.span 0 4294967295) 4 3 false false 0
/-- 0xF010:01 GroupCursor (R223). -/
def Obj.groupCursor : ObjDesc := obj 0xF010 0x01 .u8 .rw .operator 0 (.span 0 63) 1 3 false true 0
/-- 0xF010:02 GroupState (R223). -/
def Obj.groupState : ObjDesc := obj 0xF010 0x02 .u8 .ro .operator 0 (.span 0 4) 1 3 false false 0xf01001
/-- 0xF010:03 GroupEnable (R223). -/
def Obj.groupEnable : ObjDesc := obj 0xF010 0x03 .u8 .rws .integrator 0 (.oneOf [0, 1]) 1 3 false false 0xf01001
/-- 0xF010:04 GroupResume (R223). -/
def Obj.groupResume : ObjDesc := obj 0xF010 0x04 .u8 .wo .integrator 0 (.oneOf [1]) 1 3 false false 0xf01001
/-- 0xF010:05 GroupCommandResult (R223). -/
def Obj.groupCommandResult : ObjDesc := obj 0xF010 0x05 .u8 .ro .operator 0 (.span 0 4) 1 3 false false 0xf01001
/-- 0xF010:06 OverrunCount (R223). -/
def Obj.overrunCount : ObjDesc := obj 0xF010 0x06 .u32 .ro .operator 0 (.span 0 4294967295) 4 3 false false 0xf01001
/-- 0xF010:07 ConsecutiveOverruns (R223). -/
def Obj.consecutiveOverruns : ObjDesc := obj 0xF010 0x07 .u8 .ro .operator 0 (.span 0 3) 1 3 false false 0xf01001
/-- 0xF010:08 SuspendCause (R223). -/
def Obj.suspendCause : ObjDesc := obj 0xF010 0x08 .u8 .ro .operator 0 (.span 0 255) 1 3 false false 0xf01001
/-- 0xF010:09 FallbackCount (R223). -/
def Obj.fallbackCount : ObjDesc := obj 0xF010 0x09 .u32 .ro .operator 0 (.span 0 4294967295) 4 3 false false 0xf01001
/-- 0xF010:0A StopFrames (R223). -/
def Obj.stopFrames : ObjDesc := obj 0xF010 0x0A .u16 .rws .integrator 10 (.span 1 1000) 2 3 false false 0xf01001
/-- 0xF020:01 LoopCursor (R223). -/
def Obj.loopCursor : ObjDesc := obj 0xF020 0x01 .u16 .rw .operator 0 (.span 0 1023) 2 3 false true 0
/-- 0xF020:02 LoopStatus (R223). -/
def Obj.loopStatus : ObjDesc := obj 0xF020 0x02 .u16 .ro .operator 0 (.span 0 65535) 2 3 false false 0xf02001
/-- 0xF020:03 Region (R223). -/
def Obj.region : ObjDesc := obj 0xF020 0x03 .u8 .ro .operator 0 (.span 0 7) 1 3 false false 0xf02001
/-- 0xF020:04 StalePeriods (R223). -/
def Obj.stalePeriods : ObjDesc := obj 0xF020 0x04 .u8 .rws .integrator 3 (.span 1 255) 1 3 false false 0xf02001
/-- 0xF020:05 FrozenPeriods (R223). -/
def Obj.frozenPeriods : ObjDesc := obj 0xF020 0x05 .u16 .rws .integrator 50 (.span 2 10000) 2 3 false false 0xf02001
/-- 0xF020:06 HoldAction (R223). -/
def Obj.holdAction : ObjDesc := obj 0xF020 0x06 .u8 .rws .integrator 1 (.oneOf [0, 1]) 1 3 false false 0xf02001
/-- 0xF020:07 SafeValue (R223). -/
def Obj.safeValue : ObjDesc := obj 0xF020 0x07 .q16 .rws .integrator 0 (.span (-2147483648) 2147483647) 4 3 false false 0xf02001
/-- 0xF020:08 OutMin (R223). -/
def Obj.outMin : ObjDesc := obj 0xF020 0x08 .q16 .rws .integrator 0 (.span (-2147483648) 2147483647) 4 3 false false 0xf02001
/-- 0xF020:09 OutMax (R223). -/
def Obj.outMax : ObjDesc := obj 0xF020 0x09 .q16 .rws .integrator 0 (.span (-2147483648) 2147483647) 4 3 false false 0xf02001
/-- 0xF020:0A Setpoint (R223). -/
def Obj.setpoint : ObjDesc := obj 0xF020 0x0A .q16 .rw .operator 0 (.span (-2147483648) 2147483647) 4 3 false false 0xf02001
/-- 0xF020:0B Output (R223). -/
def Obj.output : ObjDesc := obj 0xF020 0x0B .q16 .ro .operator 0 (.span (-2147483648) 2147483647) 4 3 false false 0xf02001
/-- 0xF020:0C HoldCount (R223). -/
def Obj.holdCount : ObjDesc := obj 0xF020 0x0C .u32 .ro .operator 0 (.span 0 4294967295) 4 3 false false 0xf02001
/-- 0xF030:01 CoefCursor (R223). -/
def Obj.coefCursor : ObjDesc := obj 0xF030 0x01 .u16 .rw .integrator 0 (.span 0 4095) 2 3 false true 0
/-- 0xF030:02 CoefInactive (R223). -/
def Obj.coefInactive : ObjDesc := obj 0xF030 0x02 .u64 .rw .integrator 0 (.span 0 18446744073709551615) 8 3 false false 0xf03001
/-- 0xF030:03 CoefActive (R223). -/
def Obj.coefActive : ObjDesc := obj 0xF030 0x03 .u64 .ro .operator 0 (.span 0 18446744073709551615) 8 3 false false 0xf03001
/-- 0xF030:04 ActiveBank (R223). -/
def Obj.activeBank : ObjDesc := obj 0xF030 0x04 .u8 .ro .operator 0 (.span 0 255) 1 3 false false 0
/-- 0xF030:05 BankCopy (R223). -/
def Obj.bankCopy : ObjDesc := obj 0xF030 0x05 .u8 .wo .integrator 0 (.oneOf [1]) 1 3 false false 0
/-- 0xF030:06 BankSwapRequest (R223). -/
def Obj.bankSwapRequest : ObjDesc := obj 0xF030 0x06 .u8 .wo .integrator 0 (.oneOf [1]) 1 3 false false 0
/-- 0xF030:07 BankSwapResult (R223). -/
def Obj.bankSwapResult : ObjDesc := obj 0xF030 0x07 .u8 .ro .operator 0 (.span 0 4) 1 3 false false 0

/-- The communication area but for the PDOs (R531). -/
def commTable : List ObjDesc :=
  [Obj.deviceType,
   Obj.errorRegister,
   Obj.predefinedErrors,
   Obj.errorField1,
   Obj.errorField2,
   Obj.errorField3,
   Obj.errorField4,
   Obj.errorField5,
   Obj.errorField6,
   Obj.errorField7,
   Obj.errorField8,
   Obj.cobIdSync,
   Obj.deviceName,
   Obj.hardwareVersion,
   Obj.softwareVersion,
   Obj.storeCount,
   Obj.storeAll,
   Obj.storeCommunication,
   Obj.storeApplication,
   Obj.restoreCount,
   Obj.restoreAll,
   Obj.restoreCommunication,
   Obj.restoreApplication,
   Obj.cobIdEmcy,
   Obj.consumerCount,
   Obj.consumerHeartbeat1,
   Obj.consumerHeartbeat2,
   Obj.consumerHeartbeat3,
   Obj.consumerHeartbeat4,
   Obj.producerHeartbeat,
   Obj.identityCount,
   Obj.identityVendor,
   Obj.identityProduct,
   Obj.identityRevision,
   Obj.identitySerial,
   Obj.sdoCount,
   Obj.sdoCobIdRx,
   Obj.sdoCobIdTx]

/-- The objects of PDO n: 0x1400 and 0x1600 for RPDOs, 0x1800 and 0x1A00 for TPDOs (R531): communication (COB-ID, transmission
type; of a TPDO inhibit time and event timer) and mapping (count and 8 entries). Defaults follow CiA 301 (PRESUMED, log 38); -1
stands for a default that is formed from the node-ID. -/
def pdoComm (base sub n : Nat) : ObjDesc :=
  match sub with
  | 0 => obj (base + n) 0 .u8 .const .operator (if base = 0x1400 then 2 else 5) .any 1 7 false false 0
  | 1 => obj (base + n) 1 .u32 .rws .integrator (if n < 4 then -1 else 0x80000000) .any 4 7 false false 0
  | 2 => obj (base + n) 2 .u8 .rws .integrator 255 (.oneOf ((List.range 240).map (fun (k : Nat) => (k : Int) + 1) ++ [254, 255])) 1 7 false false 0
  | k => obj (base + n) k .u16 .rws .integrator 0 .any 2 7 false false 0

/-- A mapping object: sub-index 0 counts the entries. -/
def pdoMap (base sub n : Nat) : ObjDesc :=
  if sub = 0 then obj (base + n) 0 .u8 .rws .integrator 0 (.span 0 8) 1 7 false false 0
  else obj (base + n) sub .u32 .rws .integrator 0 .any 4 7 false false 0

/-- The PDO objects, in ascending address order. -/
def pdoTable : List ObjDesc :=
  (List.range 16).flatMap (fun n => [0, 1, 2].map (fun k => pdoComm 0x1400 k n)) ++
  (List.range 16).flatMap (fun n => (List.range 9).map (fun k => pdoMap 0x1600 k n)) ++
  (List.range 16).flatMap (fun n => [0, 1, 2, 3, 5].map (fun k => pdoComm 0x1800 k n)) ++
  (List.range 16).flatMap (fun n => (List.range 9).map (fun k => pdoMap 0x1A00 k n))

/-- Rows 0 to 39 of the dictionary from 0x2000 on. -/
def objTable0 : List ObjDesc :=
  [Obj.modeRequest,
   Obj.modeRequestResult,
   Obj.modeCurrent,
   Obj.baseSubRole,
   Obj.haltCause,
   Obj.bootSampled,
   Obj.resetRequest,
   Obj.holdupSagLevel,
   Obj.vholdCapacitance,
   Obj.resetCause,
   Obj.powerStatus,
   Obj.vholdVoltage,
   Obj.bootImageResult,
   Obj.outputSlew,
   Obj.clockSpread,
   Obj.dieTemperature,
   Obj.thermalStatus,
   Obj.sessionLevel,
   Obj.accessChallenge,
   Obj.accessResponse,
   Obj.accessDrop,
   Obj.sessionTimeout,
   Obj.sessionId,
   Obj.dictTcpEnable,
   Obj.dictTcpPort,
   Obj.remoteTimeout,
   Obj.tunnelEnable,
   Obj.ethPortCursor,
   Obj.ethInterface,
   Obj.ethEnable,
   Obj.ethPhyAddress,
   Obj.ethStatus,
   Obj.pauseMode,
   Obj.pauseQuanta,
   Obj.rxDropped,
   Obj.pauseReceived,
   Obj.macAddress,
   Obj.ethIpv4Config,
   Obj.wakeCursor,
   Obj.wakeMask]

/-- Rows 40 to 79 of the dictionary from 0x2000 on. -/
def objTable1 : List ObjDesc :=
  [Obj.wakeCrc,
   Obj.wakePorts,
   Obj.wakeLast,
   Obj.gateEnable,
   Obj.gateBaseTime,
   Obj.gateEntryCursor,
   Obj.gateEntry,
   Obj.gateEntryCount,
   Obj.gateCommit,
   Obj.gateResult,
   Obj.gateOversize,
   Obj.canCursor,
   Obj.canNominalRate,
   Obj.canDataRate,
   Obj.canBusOffRecovery,
   Obj.canRecover,
   Obj.canRxOverrun,
   Obj.canopenNodeId,
   Obj.canStatus,
   Obj.isobusEnable,
   Obj.isobusName,
   Obj.isobusPreferredAddress,
   Obj.isobusAddress,
   Obj.isobusSectionControl,
   Obj.isobusRateControl,
   Obj.isobusPositionOutput,
   Obj.antennaBiasA,
   Obj.antennaBiasB,
   Obj.antennaStatus,
   Obj.antennaCurrentA,
   Obj.antennaCurrentB,
   Obj.chainGainAUpper,
   Obj.chainGainALower,
   Obj.chainGainBUpper,
   Obj.chainGainBLower,
   Obj.signalEnable,
   Obj.channelsInUse,
   Obj.channelsWithheld,
   Obj.tapOffsetNarrow,
   Obj.tapOffsetWide]

/-- Rows 80 to 119 of the dictionary from 0x2000 on. -/
def objTable2 : List ObjDesc :=
  [Obj.acqFalseAlarmExp,
   Obj.acqCoherentMs,
   Obj.acqNonCoherent,
   Obj.acqDopplerSpan,
   Obj.acqSearches,
   Obj.acqRejected,
   Obj.acqLastResult,
   Obj.snapshotLength,
   Obj.snapshotChains,
   Obj.snapshotProcessing,
   Obj.snapshotInterval,
   Obj.snapshotWakeTime,
   Obj.snapshotTrigger,
   Obj.snapshotStatus,
   Obj.snapshotData,
   Obj.snapshotRelease,
   Obj.navHostOutput,
   Obj.navHostQueue,
   Obj.navCheckFailed,
   Obj.elevationMask,
   Obj.trackingProfile,
   Obj.lossOfLockCount,
   Obj.sidePeakCount,
   Obj.obsRate,
   Obj.obsHostOutput,
   Obj.obsHostQueue,
   Obj.basePositionMode,
   Obj.baseEcefX,
   Obj.baseEcefY,
   Obj.baseEcefZ,
   Obj.baseAntennaHeight,
   Obj.surveyInTime,
   Obj.surveyInLimit,
   Obj.rtcmStationId,
   Obj.baseStatus,
   Obj.rtcmMsmType,
   Obj.rtcmRate,
   Obj.rtcmStationInterval,
   Obj.rtcmPorts,
   Obj.rtcmUartBaud0]

/-- Rows 120 to 159 of the dictionary from 0x2000 on. -/
def objTable3 : List ObjDesc :=
  [Obj.rtcmTcpPort,
   Obj.rtcmDiscardedUart0,
   Obj.rtcmUartBaud1,
   Obj.rtcmDiscardedUart1,
   Obj.rtcmDiscardedTcp,
   Obj.rtcmDiscardedHost,
   Obj.correctionSource,
   Obj.correctionAgeLimit,
   Obj.correctionWait,
   Obj.fixRatio,
   Obj.solutionState,
   Obj.correctionAge,
   Obj.ntripHost,
   Obj.ntripPort,
   Obj.ntripMountpoint,
   Obj.ntripUser,
   Obj.ntripPassword,
   Obj.baselineLength,
   Obj.baselineYaw,
   Obj.baselinePitch,
   Obj.headingHoldTime,
   Obj.imuSpiMode,
   Obj.imuSpiClock,
   Obj.imuRate,
   Obj.imuReadDelay,
   Obj.imuGroupDelay,
   Obj.imuFrame,
   Obj.imuMounting,
   Obj.poseRate,
   Obj.poseLatest,
   Obj.lateSolutions,
   Obj.leverArmX,
   Obj.leverArmY,
   Obj.leverArmZ,
   Obj.radioRegion,
   Obj.downlinkPhy,
   Obj.uplinkPhy,
   Obj.antennaNetGainA,
   Obj.antennaNetGainB,
   Obj.paGainA]

/-- Rows 160 to 199 of the dictionary from 0x2000 on. -/
def objTable4 : List ObjDesc :=
  [Obj.paGainB,
   Obj.paLeadTime,
   Obj.lbtThreshold,
   Obj.downlinkMap,
   Obj.uplinkMapA,
   Obj.uplinkMapB,
   Obj.beaconInterval,
   Obj.connectionInterval,
   Obj.supervisionTimeout,
   Obj.downlinkWindow,
   Obj.beaconTtl,
   Obj.configResult,
   Obj.radioStatus,
   Obj.connectionState,
   Obj.missedBeacons,
   Obj.missedEvents,
   Obj.resyncScans,
   Obj.lbtBusy,
   Obj.dutyDeferred,
   Obj.learnedDrift,
   Obj.guardTime,
   Obj.framesDiscarded,
   Obj.subBandCursor,
   Obj.subBandUsed,
   Obj.subBandLimit,
   Obj.subBandDwellMax,
   Obj.floodForward,
   Obj.floodSuppress,
   Obj.floodDelayMax,
   Obj.seenCacheUsed,
   Obj.seenEvicted,
   Obj.floodForwarded,
   Obj.slotCursor,
   Obj.slotState,
   Obj.slotDevice,
   Obj.slotMissed,
   Obj.slotRssi,
   Obj.slotEnable,
   Obj.slotHops,
   Obj.admissionOpen]

/-- Rows 200 to 239 of the dictionary from 0x2000 on. -/
def objTable5 : List ObjDesc :=
  [Obj.joinFleetId,
   Obj.joinBaseIndex,
   Obj.connectionEnable,
   Obj.admissionResult,
   Obj.assignedSlot,
   Obj.stopPhy,
   Obj.stopDiscrepancyTime,
   Obj.crierStatus,
   Obj.releaseRequest,
   Obj.releaseMachines,
   Obj.releaseResult,
   Obj.stopsSent,
   Obj.stopsReceived,
   Obj.stopsUnverified,
   Obj.reserveUsed,
   Obj.lastStopId,
   Obj.fleetId,
   Obj.baseIndex,
   Obj.baseLinks,
   Obj.baseLinkTimeout,
   Obj.stopScope,
   Obj.baseLinkPort,
   Obj.leaseTime,
   Obj.linkEpoch,
   Obj.fieldCursor,
   Obj.fieldLoad,
   Obj.fieldLoadResult,
   Obj.fieldUnload,
   Obj.trackFieldCursor,
   Obj.trackCursor,
   Obj.trackLoad,
   Obj.trackLoadResult,
   Obj.trackState,
   Obj.trackHolder,
   Obj.trackProgress,
   Obj.taskCursor,
   Obj.taskLoad,
   Obj.taskLoadResult,
   Obj.taskState,
   Obj.taskHolder]

/-- Rows 240 to 279 of the dictionary from 0x2000 on. -/
def objTable6 : List ObjDesc :=
  [Obj.taskCommand,
   Obj.taskHandOverTarget,
   Obj.taskCommandResult,
   Obj.claimsGranted,
   Obj.claimsRefused,
   Obj.leasesExpired,
   Obj.reservationsHeld,
   Obj.separationCaution,
   Obj.separationMin,
   Obj.separationLookAhead,
   Obj.separationStopHorizon,
   Obj.separationAccel,
   Obj.separationStaleLimit,
   Obj.pairCursor,
   Obj.pairState,
   Obj.pairStops,
   Obj.exemptCursor,
   Obj.exemptEntry,
   Obj.machineCursor,
   Obj.machineEnvelope,
   Obj.machineCaps,
   Obj.machineReportAge,
   Obj.envelope,
   Obj.capabilities,
   Obj.autoAccept,
   Obj.taskCurrent,
   Obj.claimRequest,
   Obj.claimResult,
   Obj.trackGeometry,
   Obj.separationAlert,
   Obj.taskRelease,
   Obj.trackDone,
   Obj.mapCursor,
   Obj.mapId,
   Obj.mapCellSize,
   Obj.mapLayers,
   Obj.mapTiles,
   Obj.mapDelete,
   Obj.tilesRestoredOld,
   Obj.mapSpaceFree]

/-- Rows 280 to 319 of the dictionary from 0x2000 on. -/
def objTable7 : List ObjDesc :=
  [Obj.mapSeqAccepted,
   Obj.mapSeqPainted,
   Obj.checkpointMark,
   Obj.segmentLog,
   Obj.checkpointInterval,
   Obj.segmentsRejected,
   Obj.coverageStatus,
   Obj.cacheRadius,
   Obj.cacheTiles,
   Obj.tileRequestsOpen,
   Obj.pendingSegments,
   Obj.segmentTurnLimit,
   Obj.nextSeq,
   Obj.tileCursorX,
   Obj.tileCursorY,
   Obj.tileData,
   Obj.masterEnable,
   Obj.lookAheadHorizon,
   Obj.overlapTolerance,
   Obj.minApplySpeed,
   Obj.poseSigmaLimit,
   Obj.poseStaleLimit,
   Obj.chainLength,
   Obj.chainDivider,
   Obj.chainReadback,
   Obj.chainLatency,
   Obj.kerbStatus,
   Obj.chainFaultClear,
   Obj.lateDecisions,
   Obj.lateEvents,
   Obj.tileMissPolicy,
   Obj.implementModel,
   Obj.hitchOffsetX,
   Obj.hitchOffsetY,
   Obj.hitchToAxle,
   Obj.chainFaultCount,
   Obj.selfMaskTime,
   Obj.sectionCursor,
   Obj.sectionEnable,
   Obj.sectionOnDelay]

/-- Rows 320 to 359 of the dictionary from 0x2000 on. -/
def objTable8 : List ObjDesc :=
  [Obj.sectionOffDelay,
   Obj.sectionOffsetX,
   Obj.sectionOffsetY,
   Obj.sectionWidth,
   Obj.sectionChainBit,
   Obj.sectionActiveLevel,
   Obj.sectionProduct,
   Obj.sectionLoopGroup,
   Obj.sectionMode,
   Obj.sectionState,
   Obj.sectionSwitchCount,
   Obj.sectionNextSwitch,
   Obj.productRate0,
   Obj.productRate1,
   Obj.productRate2,
   Obj.productRate3,
   Obj.productTarget0,
   Obj.productTarget1,
   Obj.productTarget2,
   Obj.productTarget3,
   Obj.productOpenWidth0,
   Obj.productOpenWidth1,
   Obj.productOpenWidth2,
   Obj.productOpenWidth3,
   Obj.intervalLength,
   Obj.meterSnapshot,
   Obj.snapshotTime,
   Obj.meterClear,
   Obj.intervalHostOutput,
   Obj.intervalHostQueue,
   Obj.meterStatus,
   Obj.meterView,
   Obj.inputCursor,
   Obj.inputMode,
   Obj.debounce,
   Obj.kFactor,
   Obj.accumMode,
   Obj.dirPolarity,
   Obj.inputBinding,
   Obj.inputForward]

/-- Rows 360 to 399 of the dictionary from 0x2000 on. -/
def objTable9 : List ObjDesc :=
  [Obj.inputReverse,
   Obj.inputRate,
   Obj.rateWindow,
   Obj.rateTimeout,
   Obj.directionChanges,
   Obj.inputStatus,
   Obj.productQuantity0,
   Obj.productQuantity1,
   Obj.productQuantity2,
   Obj.productQuantity3,
   Obj.unassignedQuantity0,
   Obj.unassignedQuantity1,
   Obj.unassignedQuantity2,
   Obj.unassignedQuantity3,
   Obj.meterSectionCursor,
   Obj.sectionQuantity,
   Obj.lastInterval,
   Obj.vinNominal,
   Obj.sagPercent,
   Obj.swellPercent,
   Obj.vinEventCounts,
   Obj.vinEventNext,
   Obj.vinEventsLost,
   Obj.axisCursor,
   Obj.axisMode,
   Obj.commandSource,
   Obj.axisEnable,
   Obj.stepsPerUnit,
   Obj.maxVelocity,
   Obj.acceleration,
   Obj.softStopDecel,
   Obj.stepWidth,
   Obj.dirSetup,
   Obj.aenOnDelay,
   Obj.aenOffDelay,
   Obj.limitMin,
   Obj.limitMax,
   Obj.faultInput,
   Obj.faultPolarity,
   Obj.followInput]

/-- Rows 400 to 439 of the dictionary from 0x2000 on. -/
def objTable10 : List ObjDesc :=
  [Obj.followMultiplier,
   Obj.followDirection,
   Obj.moveTarget,
   Obj.velocityTarget,
   Obj.segmentStart,
   Obj.axisStop,
   Obj.axisResume,
   Obj.axisPosition,
   Obj.axisVelocity,
   Obj.remainingDistance,
   Obj.axisState,
   Obj.axisCommandResult,
   Obj.axisStatus,
   Obj.startTime,
   Obj.positionPreset,
   Obj.tramGroupCursor,
   Obj.groupMembers,
   Obj.groupTarget,
   Obj.groupStop,
   Obj.groupAxisResume,
   Obj.groupResult,
   Obj.segmentCursor,
   Obj.segmentEntry,
   Obj.timeNow,
   Obj.timeState,
   Obj.timeUncertainty,
   Obj.timeStatus,
   Obj.referenceSelect,
   Obj.ptpTimeSource,
   Obj.holdoverDrift,
   Obj.clockSlewMax,
   Obj.antennaCableDelay,
   Obj.stepCount,
   Obj.clockOffset,
   Obj.clockRef,
   Obj.clockRate,
   Obj.ppsOutEnable,
   Obj.ppsOutWidth,
   Obj.ppsOutOffset,
   Obj.ppsInOffset]

/-- Rows 440 to 479 of the dictionary from 0x2000 on. -/
def objTable11 : List ObjDesc :=
  [Obj.eth0RxAsym,
   Obj.eth0TxAsym,
   Obj.eth1RxAsym,
   Obj.eth1TxAsym,
   Obj.rfARxAsym,
   Obj.rfATxAsym,
   Obj.rfBRxAsym,
   Obj.rfBTxAsym,
   Obj.evtCursor,
   Obj.evtEdge,
   Obj.evtNext,
   Obj.evtPending,
   Obj.evtLost,
   Obj.evtHostOutput,
   Obj.evtHostQueue,
   Obj.ptpPorts,
   Obj.ptpProfile,
   Obj.ptpTransport,
   Obj.ptpDomain,
   Obj.ptpTwoStep,
   Obj.ptpPriority1,
   Obj.ptpPortState,
   Obj.ptpOffset,
   Obj.milestoneCursor,
   Obj.milestoneFreeze,
   Obj.milestoneItem,
   Obj.operatingSeconds,
   Obj.powerCycles,
   Obj.milestoneClear,
   Obj.milestoneStatus,
   Obj.keySlotCursor,
   Obj.keySlotState,
   Obj.keySlotKind,
   Obj.keySlotGeneration,
   Obj.keySlotPublic,
   Obj.deviceCertificate,
   Obj.deviceId,
   Obj.keySlotRepairs,
   Obj.keyRegisterLoads,
   Obj.tollgateStatus]

/-- Rows 480 to 519 of the dictionary from 0x2000 on. -/
def objTable12 : List ObjDesc :=
  [Obj.keyImportSecret,
   Obj.keyImportPublic,
   Obj.keyErase,
   Obj.keyImportResult,
   Obj.imageSlotCursor,
   Obj.imageSlotState,
   Obj.imageSlotVersion,
   Obj.imageSlotSecurity,
   Obj.imageSlotDigest,
   Obj.activeImageVersion,
   Obj.minSecurityVersion,
   Obj.updateBegin,
   Obj.updateReceived,
   Obj.updateData,
   Obj.updateVerify,
   Obj.updateResult,
   Obj.activationTime,
   Obj.activationDigest,
   Obj.activationCommand,
   Obj.activationState,
   Obj.activationId,
   Obj.activationReady,
   Obj.activationResult,
   Obj.storedEntriesReset,
   Obj.redundancyEnable,
   Obj.zheocPairState,
   Obj.pairStatus,
   Obj.partnerDeviceId,
   Obj.failovers,
   Obj.digestMismatches,
   Obj.linkRetransmits,
   Obj.transferProgress,
   Obj.heartbeatGapMax,
   Obj.alignedSignals,
   Obj.dictRequests,
   Obj.dictBusyAborts,
   Obj.dictLatencyMax,
   Obj.pendingBootChanges,
   Obj.objectDirectory,
   Obj.storePending]

/-- Rows 520 to 559 of the dictionary from 0x2000 on. -/
def objTable13 : List ObjDesc :=
  [Obj.pdoDropped,
   Obj.remoteTimeouts,
   Obj.rtLoad,
   Obj.coreLoad,
   Obj.matchStoreUsed,
   Obj.matchStoreHigh,
   Obj.matchExpired,
   Obj.matchReplaced,
   Obj.dispatchMax,
   Obj.threadsReady,
   Obj.storeStatus,
   Obj.nandCapacity,
   Obj.nandBlocksBad,
   Obj.nandSparesLeft,
   Obj.nandEraseMax,
   Obj.nandEraseMean,
   Obj.mramCorrected,
   Obj.mramUncorrectable,
   Obj.journalUsed,
   Obj.journalSpilled,
   Obj.asAppliedOldest,
   Obj.asAppliedNewest,
   Obj.asAppliedCursor,
   Obj.asAppliedRecord,
   Obj.asAppliedExported,
   Obj.refreshPending,
   Obj.nandRefreshInterval,
   Obj.programCount,
   Obj.loadStatus,
   Obj.slotLoad,
   Obj.correctedReads,
   Obj.uncorrectableReads,
   Obj.groupCursor,
   Obj.groupState,
   Obj.groupEnable,
   Obj.groupResume,
   Obj.groupCommandResult,
   Obj.overrunCount,
   Obj.consecutiveOverruns,
   Obj.suspendCause]

/-- Rows 560 to 580 of the dictionary from 0x2000 on. -/
def objTable14 : List ObjDesc :=
  [Obj.fallbackCount,
   Obj.stopFrames,
   Obj.loopCursor,
   Obj.loopStatus,
   Obj.region,
   Obj.stalePeriods,
   Obj.frozenPeriods,
   Obj.holdAction,
   Obj.safeValue,
   Obj.outMin,
   Obj.outMax,
   Obj.setpoint,
   Obj.output,
   Obj.holdCount,
   Obj.coefCursor,
   Obj.coefInactive,
   Obj.coefActive,
   Obj.activeBank,
   Obj.bankCopy,
   Obj.bankSwapRequest,
   Obj.bankSwapResult]

/-- Every object of the dictionary, in ascending address order (R533). -/
def objTable : List ObjDesc :=
  commTable ++ pdoTable ++ objTable0 ++ objTable1 ++ objTable2 ++ objTable3 ++ objTable4 ++ objTable5 ++ objTable6 ++ objTable7 ++ objTable8 ++ objTable9 ++ objTable10 ++ objTable11 ++ objTable12 ++ objTable13 ++ objTable14

end Sys2Proof.Machine
end

