-- ==== Sys2Proof/Machine/StateKeys.lean ====
section
/-!
DEFINITION. Machine/StateKeys.lean: Tollgate (R559 to R583) as plain data: key slots, key registers, image
slots, update, trial and activation.
-/
namespace Sys2Proof.Machine

/-- A key slot copy (R560). The keys written at manufacture are those of Config.factoryKey. -/
structure KeyRecord where
  kind : Nat
  state : Nat
  gen : Nat
  key : List Byte
  factory : Bool
  deriving DecidableEq, Repr

/-- What a module knows of an image (R571). -/
structure ImageInfo where
  version : Nat
  security : Nat
  digest : List Byte
  test : Bool
  deriving DecidableEq, Repr

/-- ImageSlotState without what the anchor says: empty, receiving, verified, invalid (R584). -/
inductive ImageState where
  | empty | receiving | verified | invalid
  deriving DecidableEq, Repr

/-- An image slot on NAND (R574, R576). -/
structure ImageSlot where
  state : ImageState
  total : Nat
  bytes : List Byte
  info : ImageInfo
  deriving DecidableEq, Repr

/-- The anchor in MRAM (R574). -/
structure ImageAnchor where
  active : Option Nat
  trial : Bool
  minSecurity : Nat
  /-- an activation was committed when the run ended (R582) -/
  committed : Bool
  /-- the newest outcome that the next BOOT reports in ActivationState: 0 none, 4 trial, 5 confirmed, 6 reverted -/
  outcome : Nat
  deriving DecidableEq, Repr

/-- An image stream on UART0 (R575). -/
structure UartImage where
  seq : Nat
  bytes : List Byte
  bad : Nat
  /-- the last answer: 0x06 or 0x15 -/
  answer : Nat
  deriving DecidableEq, Repr

/-- An activation offered or committed (R579 to R583). -/
structure Activation where
  id : Nat
  time : Int
  version : Nat
  digest : List Byte
  fleet : Bool
  committed : Bool
  /-- newest answers of machine slots and of bases (1000 + index) -/
  answers : Tab (Option Nat)
  /-- this module's own newest answer sent -/
  answered : Option Nat
  cancelled : Option Nat
  deriving DecidableEq, Repr

/-- Tollgate. -/
structure GateState where
  /-- by slot × 2 + copy; none: the copy is not good -/
  keys : Tab (Option KeyRecord)
  /-- slots found bad (R561) -/
  badSlots : List Nat
  /-- the wrap key of this BOOT, and with it the blobs of the keys in use (R566) -/
  wrapKey : List Byte
  /-- session key registers in use, the most recently used first, by radio slot -/
  registers : List Nat
  images : Tab ImageSlot
  anchor : ImageAnchor
  /-- the image that runs, and its slot -/
  running : Option ImageInfo
  runningSlot : Option Nat
  /-- ticks spent in an operating mode since the trial began: its start -/
  trialFrom : Option Nat
  /-- reset release of this run -/
  releasedAt : Nat
  uart : UartImage
  activation : Option Activation
  /-- the link epoch in MRAM (R569) -/
  linkEpoch : Nat
  /-- highest epoch and last sequence of each peer (R569) -/
  peers : Tab (Option (Nat × Nat))
  deriving DecidableEq, Repr

end Sys2Proof.Machine
end

