-- ==== Sys2Proof/Machine/StateMeter.lean ====
section
/-!
DEFINITION. Machine/StateMeter.lean: the meter block (R433 to R452) as plain data: pulse inputs, accumulators with their
snapshot bank, the open interval, and the VIN quality monitor.
-/
namespace Sys2Proof.Machine

/-- A bank of accumulators, each modulo 2 to the 56 (R439, R441). -/
structure MeterBank where
  /-- forward and reverse counted pulses by input -/
  fwd : Tab Nat
  rev : Tab Nat
  /-- quantities in µunits by product and by section -/
  product : Tab Nat
  unassigned : Tab Nat
  section_ : Tab Nat
  deriving DecidableEq, Repr

/-- A counted edge kept for the rate (R445): its stamp, what it counts in signed or absolute mode, and its direction. -/
structure PulseStamp where
  stamp : Nat
  worth : Int
  forward : Bool
  deriving DecidableEq, Repr

/-- A pulse input (R433 to R438, R445). -/
structure PulseInput where
  /-- the accepted levels of PLSn and PDIRn -/
  a : Bool
  b : Bool
  /-- the levels of the two lands themselves, which an input that is Off does not take (R64) -/
  landA : Bool
  landB : Bool
  /-- what is left of pulses credited, in 1 / KFactor of a µunit (R437) -/
  residual : Nat
  /-- the stamp of the last rising edge of the counted signal -/
  lastRise : Option Nat
  /-- the same of PDIRn in quadrature -/
  lastRiseB : Option Nat
  /-- the direction of the last counted pulse; true: forward -/
  lastForward : Option Bool
  stamps : List PulseStamp
  rate : Int
  rateTimeout : Bool
  /-- since the last read of InputStatus -/
  overspeed : Bool
  quadError : Bool
  deriving DecidableEq, Repr

/-- A quantity that waits for the credit of its tick (R443): the tick, as milliseconds of reported time. -/
structure MeterCredit where
  tick : Int
  product : Nat
  qty : Int
  deriving DecidableEq, Repr

/-- Interval subtotals of an input or a product (R446). -/
structure Subtotal where
  dirChg : Nat
  edges : Nat
  fwd : Nat
  rev : Nat
  total : Int
  deriving DecidableEq, Repr

/-- An open interval (R446): its start on the counter and as TIME64, its length in ticks, the flags of its start, the
inputs not Off, subtotals (product p at 32 + p), and the accumulators at its start (R546). -/
structure MeterInterval where
  start : Nat
  startTime : Int
  length : Nat
  holdover : Bool
  invalid : Bool
  applied : Bool
  inputs : List Nat
  sub : Tab Subtotal
  base : MeterBank
  deriving DecidableEq, Repr

/-- What a save and journal kind 0x01 hold of the meter (R94, R447, R538). -/
structure MeterSave where
  bank : MeterBank
  interval : Option MeterInterval
  /-- ticks from the interval's start to the capture -/
  ticks : Nat
  deriving DecidableEq, Repr

/-- An excursion of VSNS in progress (R450). -/
structure VinExcursion where
  swell : Bool
  time : Int
  samples : Nat
  interruption : Bool
  extreme : Nat
  deriving DecidableEq, Repr

/-- The VIN quality monitor (R450, R451): the records are the queue of 32, oldest first. -/
structure VinMonitor where
  open_ : Option VinExcursion
  queue : List (List Byte)
  seq : Nat
  sags : Nat
  swells : Nat
  interruptions : Nat
  due : Nat
  deriving DecidableEq, Repr

/-- The meter block. -/
structure MeterState where
  inputs : Tab PulseInput
  /-- configuration in force since the start of the open interval, by dictionary key (R448) -/
  inForce : Tab Int
  bank : MeterBank
  snapshot : MeterBank
  credits : List MeterCredit
  /-- the count of T0 while no interval is open -/
  firstAt : Option Nat
  interval : Option MeterInterval
  seq : Nat
  last : List Byte
  copy : HostCopy
  cleared : Bool
  /-- since the last read of MeterStatus -/
  overspeed : Bool
  quadError : Bool
  eventLost : Bool
  /-- the meter rate port of Boulevard: rate, net pulses and publication tick by input (R445) -/
  port : Tab (Option (Int × Nat × Nat))
  /-- the products' accumulators where the first record not written would have begun (R547) -/
  gapBase : Tab Nat
  /-- the millisecond of the newest rates (R445) -/
  ratedAt : Option Nat
  vin : VinMonitor
  deriving DecidableEq, Repr

end Sys2Proof.Machine
end

