-- ==== Sys2Proof/Machine/StateMode.lean ====
section
/-!
DEFINITION. Machine/StateMode.lean: the mode controller (R28 to R52), the lands (R54 to R79), and the
supply, hold-up and reset machinery (R80 to R108) as plain data.
-/
namespace Sys2Proof.Machine

/-- How an output land is driven (R71). -/
inductive Drive where
  | hiZ | low | high
  deriving DecidableEq, Repr

/-- How a group of output lands is driven (R71, R73): not at all, at its fail-safe level of R74 on leaving Hi-Z, or by its
function. -/
inductive Lead where
  | hiZ | failSafe | driven
  deriving DecidableEq, Repr

/-- The output lands whose state follows the mode (R47, R71, R499): recomputed after every command. -/
structure Outputs where
  haltOutA : Drive
  haltOutB : Drive
  secOeN : Drive
  /-- SEC_CLK, SEC_DO, SEC_LAT are driven by the section chain -/
  secChain : Lead
  /-- STEPn, DIRn, AENn are driven by the Tram -/
  tram : Lead
  /-- PA_EN and LNA_EN are driven by the radio -/
  radio : Lead
  /-- PA_EN_A and PA_EN_B: high while a frame is on the air (R349) -/
  paEnA : Drive
  paEnB : Drive
  /-- GPIOn as configured -/
  gpio : Lead
  hirqN : Drive
  ppsOut : Drive
  /-- ZL_HB: pulled low or released (R587, R590) -/
  zlHb : Drive
  deriving DecidableEq, Repr

/-- The mode controller. -/
structure ModeState where
  current : Mode
  /-- the code held before the last transition (R499 PREV_MODE) -/
  prev : Mode
  /-- the mode held before HALT (R44) -/
  heldBeforeHalt : Option Mode
  /-- the mode the module will enter; a transition is in progress (R50) -/
  transition : Option Mode
  haltCause : HaltCause
  /-- role sampled at BOOT; none before STRAP_SAMPLE or on a strap fault -/
  role : Option Role
  /-- the substitute test root is in use (SERVICE) -/
  testRoot : Bool
  /-- SERVICE: STOP_A or STOP_B drove the stop outputs (R47) -/
  serviceStop : Bool
  /-- EXT_REF_IN is the reference in use (R35) -/
  extRef : Bool
  /-- the reference-loss flag (R35) -/
  refLost : Bool
  /-- tick of the newest HALT trigger, and of the newest release (R51) -/
  haltAt : Option Nat
  releasedAt : Option Nat
  /-- tick of the newest ModeRequest that was accepted for a transition (R49) -/
  askedAt : Option Nat
  /-- the halt flag, as MRAM holds it, with its HaltCause (R101) -/
  haltFlag : Option HaltCause
  /-- a PLL of a domain marked Never has lost lock: the stop outputs are driven without a clock until RESET begins (R36) -/
  clockFail : Option ClockDomain
  deriving DecidableEq, Repr

/-- What BOOT sampled and measured (R62, R66, R69) and the reset lands (R77 to R79). -/
structure BootState where
  /-- ROLE, BOOTSEL, DBG_EN as sampled: 0b00 / 0b11 / false on disagreement -/
  roleBits : Nat
  bootSel : Nat
  dbgEn : Bool
  disagree : Bool
  reserved : Bool
  bankFault : Bool
  /-- bank A and B run at 3.3 V; none: not measured or a fault -/
  vioA33 : Option Bool
  vioB33 : Option Bool
  /-- an image has been loaded for this run -/
  imageLoaded : Bool
  imageWait : Bool
  imageRejected : Bool
  /-- NRST_OUT: low, or released (R77) -/
  nrstOutLow : Bool
  /-- tick at which NRST_OUT is released -/
  nrstOutDue : Option Nat
  /-- bytes of an image that have arrived on the host port (R575) -/
  offered : List Byte
  /-- the copies of save items that fail their CRC: item number and sequence number (R99) -/
  badCopies : List (Nat × Nat)
  deriving DecidableEq, Repr

/-- The phases of VHOLD at BOOT (R83, R85). -/
inductive VholdPhase where
  | idle | discharging | charging | measuring | armed | fault
  deriving DecidableEq, Repr

/-- The kinds of save: from VHOLD (R93) or an orderly one from VIN (R103). -/
inductive SaveKind where
  | holdup
  | orderly (cause : ResetSource)
  deriving DecidableEq, Repr

/-- The supply block (R80 to R107). Voltages in millivolts. -/
structure PowerState where
  converterOn : Bool
  /-- every internal rail is in regulation and PGOOD is released (R78) -/
  pgood : Bool
  vsns : Nat
  vhold : Nat
  phase : VholdPhase
  /-- charging at 20 mA (R86) -/
  reduced : Bool
  /-- VSNS has stayed at or above 4.5 V since charging began (R85) -/
  fullThroughout : Bool
  /-- ticks since charging began, RESET included -/
  chargeTime : Nat
  armed : Bool
  vholdLow : Bool
  vholdFault : Bool
  swell : Bool
  isolated : Bool
  /-- ticks that the isolation has lasted (R89) -/
  isolatedFor : Nat
  /-- a save is in progress -/
  saving : Option SaveKind
  /-- the last save of this run's start: its duration in µs, the energy drawn in % of the usable energy, VHOLD at its end in mV -/
  lastSave : Option (Nat × Nat × Nat)
  /-- VHOLD when the save began -/
  saveFrom : Nat
  /-- the tick and the TIME64 at which the save began (R94, item 1) -/
  saveAt : Nat
  saveTime : Int
  /-- the event that ended the last run (R106) -/
  endedBy : ResetSource
  saveDone : Bool
  saveAborted : Bool
  /-- RESET_CAUSE, 0 until the end of BOOT (R106) -/
  resetCause : Nat
  deriving DecidableEq, Repr

/-- The boost charges VHOLD (R83, R86, R87): towards 30.0 V, while the input switch is closed and no save runs from VHOLD. -/
def PowerState.charging (p : PowerState) : Bool :=
  !p.isolated && decide (p.saving ≠ some .holdup) &&
  match p.phase with
  | .charging | .measuring => true
  | .armed => decide (p.vhold < 30000)
  | _ => false

end Sys2Proof.Machine
end

