-- ==== Sys2Proof/Machine/StateNet.lean ====
section
/-!
DEFINITION. Machine/StateNet.lean: the Ethernet ports, PTP, the CAN controllers, CANopen and ISOBUS (R407 to R432) as
plain data.
-/
namespace Sys2Proof.Machine

/-- A frame in a transmit queue: its bytes without preamble and gap, and the base-link message it carries. -/
structure TxFrame where
  len : Nat
  msg : Option (Nat × LinkMsg)
  deriving DecidableEq, Repr

/-- A gate control list (R417): gate states and interval in ns of each entry, and its base time. -/
structure GateList where
  entries : List (Nat × Nat)
  base : Int
  deriving DecidableEq, Repr

/-- An Ethernet port. -/
structure EthPort where
  /-- its PHY is powered up -/
  powered : Bool
  linkUp : Bool
  /-- 0, 1, 2: 10, 100, 1,000 Mbit/s -/
  speed : Nat
  duplexRefused : Bool
  mdioFault : Bool
  disabling : Bool
  /-- bytes in the receive buffer -/
  rxFill : Nat
  rxOverflow : Bool
  wakeMatch : Bool
  pauseSent : Bool
  /-- pause_time of the last PAUSE frame sent -/
  pauseOut : Option Nat
  repeatDue : Option Nat
  /-- the end of the pause obeyed -/
  pausedUntil : Option Nat
  /-- by queue number, oldest first -/
  queues : Tab (List TxFrame)
  /-- frames of the device's protocols that are held back until their queue has room: for PTP, and length (R31) -/
  held : List (Bool × Nat)
  /-- the tick at which the frame in flight ends -/
  busyUntil : Nat
  /-- the last frame started, with its queue -/
  wire : Option (Nat × TxFrame)
  gates : GateList
  /-- the list that waits, with its start instant -/
  waiting : Option (GateList × Int)
  deriving DecidableEq, Repr

/-- What PTP sends (R421, R422): a kind, the PTP timestamp in ns, and the fields announced. -/
structure PtpSent where
  port : Nat
  kind : PtpKind
  time : Int
  clockClass : Nat
  priority : Nat
  domain : Nat
  utcOffset : Int
  utcValid : Bool
  twoStep : Bool
  /-- the destination and the UDP port, none over Ethernet itself -/
  dest : List Byte
  udp : Option Nat
  deriving DecidableEq, Repr

/-- PTP on one port (R421 to R423). -/
structure PtpPort where
  /-- the IEEE 1588 portState; 0 before the first -/
  state : Nat
  /-- offsetFromMaster of the last 16 Syncs, oldest first -/
  offsets : List Int
  qualified : Bool
  /-- the origin time and the count of the last 16 Syncs, oldest first; the arrival of the newest in half ns of reported time, with the
  asymmetry of the port -/
  syncs : List (Int × Nat)
  arrival : Int
  /-- the mean path delay, half ns -/
  delay : Int
  announceDue : Option Nat
  /-- by kind of message: the tick at which the next one goes -/
  due : Tab Nat
  deriving DecidableEq, Repr

/-- A CAN controller (R424, R425). -/
structure CanCtl where
  /-- 0 active, 1 passive, 2 bus-off -/
  err : Nat
  tec : Nat
  fifo : List CanFrame
  overrun : Bool
  recovering : Bool
  deriving DecidableEq, Repr

/-- NMT states (R426, R428). -/
inductive NmtState where
  | off | stopped | operational | preOperational
  deriving DecidableEq, Repr

/-- The CANopen node on CAN0 (R426 to R428, R519). -/
structure CanOpen where
  nmt : NmtState
  /-- RPDOs received that wait for a SYNC, by number -/
  rpdoWait : Tab (List Byte)
  /-- SYNC messages seen since each TPDO was sent -/
  syncs : Tab Nat
  /-- the tick from which each TPDO may go again, and the tick of its event timer -/
  inhibit : Tab Nat
  timer : Tab Nat
  /-- the last data sent of each TPDO -/
  tpdo : Tab (List Byte)
  /-- the last EMCY code sent -/
  emcy : Option Nat
  /-- the last state byte sent as boot-up or heartbeat, and when the next heartbeat goes -/
  beat : Option Nat
  beatDue : Nat
  /-- the tick at which each consumed heartbeat was seen, by entry; entries lost -/
  seen : Tab (Option Nat)
  lost : List Nat
  deriving DecidableEq, Repr

/-- The ISOBUS client on CAN1 (R429 to R431). -/
structure Isobus where
  /-- sending is held until this tick after a claim that follows bus-off -/
  waitUntil : Nat
  /-- CAN1 has been bus-off since the last claim -/
  reclaim : Bool
  connected : Bool
  heard : Nat
  /-- setpoints of sections 0 to 255 -/
  setpoints : Tab Nat
  /-- the device description waits to be uploaded; sections and products of the last one -/
  ddDue : Bool
  ddSections : List Nat
  /-- work states last sent, and when the next goes -/
  work : List Nat
  workDue : Nat
  rateDue : Nat
  /-- actual rates last sent, by product -/
  rates : Tab Int
  /-- by position PGN: when the next goes, and the pose last sent -/
  posDue : Tab Nat
  posSent : Option (Nat × Pose)
  deriving DecidableEq, Repr

/-- The ports. -/
structure NetState where
  eth : Tab EthPort
  ptp : Tab PtpPort
  ptpSent : Option PtpSent
  can : Tab CanCtl
  open_ : CanOpen
  iso : Isobus
  deriving DecidableEq, Repr

end Sys2Proof.Machine
end

