-- ==== Sys2Proof/Machine/StateTram.lean ====
section
/-!
DEFINITION. Machine/StateTram.lean: the Tram (R453 to R476) as plain data. Positions are in 10^-9 steps and velocities in
10^-9 steps/s (log 32).
-/
namespace Sys2Proof.Machine

/-- Axis states (R469). -/
inductive AxisState where
  | disabled | enabling | idle | moving | stopping | held | disabling | fault
  deriving DecidableEq, Repr

/-- What an axis runs, or keeps to resume (R457, R472): a target in steps; a velocity in mstep/s; a chain from its start
position with the entry that ends the segment under way, the previous point, and the ns run in it; Follow; its group. -/
inductive AxisGoal where
  | move (target : Int)
  | velocity (target : Int)
  | chain (origin : Int) (entry : Nat) (fromPos fromVel : Int) (ns : Nat)
  | follow
  | group (n : Nat)
  deriving DecidableEq, Repr

/-- One axis. -/
structure Axis where
  state : AxisState
  /-- the state that a cancelled disable returns to -/
  prior : AxisState
  pos : Int
  /-- the step pulses emitted when the tick under way has ended, signed -/
  count : Int
  /-- the counts of the rising edges of the newest tick's pulses, all in one direction (R453) -/
  pulses : List Nat
  /-- the count of the last rising edge, and of the last change of DIRn -/
  lastRise : Nat
  dirAt : Nat
  vel : Int
  goal : Option AxisGoal
  /-- a command that waits for its start time -/
  next : Option (AxisGoal × Int)
  /-- acceleration in force, steps/s² -/
  acc : Nat
  accWritten : Bool
  deferred : Bool
  /-- deceleration of a stop -/
  decel : Nat
  negative : Bool
  onDue : Option Nat
  offDue : Option Nat
  limit : Bool
  followBacklog : Bool
  restored : Bool
  uncertain : Bool
  faultActive : Bool
  /-- Follow: steps still to emit, signed; the last edge; the last interval, ticks -/
  backlog : Int
  lastEdge : Option Nat
  tau : Nat
  /-- the Boulevard command taken last -/
  taken : Option (Bool × Int)
  /-- the axis feedback port: position and velocity in units, Q16.16, and the tag -/
  feedback : Option (Int × Int × Int)
  deriving DecidableEq, Repr

/-- A group move (R467): starts and displacements in steps, the path length, path position and velocity. -/
structure GroupMove where
  members : List (Nat × Int × Int)
  length : Nat
  s : Int
  v : Int
  acc : Nat
  stopping : Option Nat
  running : Bool
  start : Int
  deriving DecidableEq, Repr

/-- What a save or a journal entry holds of an axis (R94, R474): position, remaining distance, Follow backlog. -/
structure AxisSave where
  axis : Nat
  count : Int
  remaining : Int
  backlog : Int
  deriving DecidableEq, Repr

/-- The Tram. -/
structure TramState where
  /-- the start of the newest profile tick -/
  tickAt : Option Int
  axes : Tab Axis
  groups : Tab (Option GroupMove)
  deriving DecidableEq, Repr

end Sys2Proof.Machine
end

