-- ==== Sys2Proof/Machine/StateStore.lean ====
section
/-!
DEFINITION. Machine/StateStore.lean: what outlives a reset (R91 to R102, R535 to R556): save areas,
running journal, stored set, NAND, as-applied ring and the Milestone recorder, as plain data.
-/
namespace Sys2Proof.Machine

/-- A stamp of R552. -/
structure Stamp where
  opSeconds : Nat
  cycles : Nat
  time : Int
  deriving DecidableEq, Repr

/-- An extreme of R551. -/
structure Extreme where
  min : Int
  minAt : Stamp
  max : Int
  maxAt : Stamp
  deriving DecidableEq, Repr

/-- An event class of R551. -/
structure EventClass where
  count : Nat
  first : Stamp
  last : Stamp
  deriving DecidableEq, Repr

/-- The items of Milestone: histogram counts at item × 16 + bin, extremes, event classes. -/
structure MilestoneBank where
  hist : Tab Nat
  ext : Tab (Option Extreme)
  cls : Tab (Option EventClass)
  deriving DecidableEq, Repr

/-- A Milestone home copy in MRAM (R553). -/
structure MilestoneHome where
  seq : Nat
  bank : MilestoneBank
  since : Stamp
  opSeconds : Nat
  cycles : Nat
  deriving DecidableEq, Repr

/-- The Milestone recorder (R551 to R556). -/
structure MilestoneState where
  visible : MilestoneBank
  pendingBank : MilestoneBank
  frozen : Bool
  freezeDue : Option Nat
  expired : Bool
  since : Stamp
  opSeconds : Nat
  cycles : Nat
  home0 : Option MilestoneHome
  home1 : Option MilestoneHome
  deriving DecidableEq, Repr

/-- The conversion set, learned rate and holdover state that a save and journal kind 0x08 hold (R94, R538). -/
structure ClockSave where
  offset : Int
  rate : Int
  holdover : Bool
  deriving DecidableEq, Repr

/-- The radio accounts that a save and journal kind 0x07 hold (R94, R347): uses of air time with their start as ticks before
the save, the TIME64 of the save where it was known, the newest event counter of each slot, and the learned partner drift. -/
structure RadioSave where
  uses : List AirUse
  time : Option Int
  events : List (Nat × Nat)
  /-- the learned drift against the base's beacons, and of a base's slots, ppb (R340) -/
  drift : Option Int
  slotDrifts : List (Nat × Int)
  deriving DecidableEq, Repr

/-- An as-applied record (R546). -/
structure AsApplied where
  rseq : Nat
  gap : Bool
  full : Bool
  holdover : Bool
  invalid : Bool
  cut : Bool
  start : Int
  end_ : Int
  task : Nat
  field : Nat
  lat : Int
  lon : Int
  product : List Int
  /-- section, ON_TIME in 0.1 ms, QTY -/
  sections : List (Nat × Nat × Int)
  deriving DecidableEq, Repr

/-- The payload of a journal entry by kind (R538). -/
inductive JData where
  /-- 0x01 -/
  | meter (m : MeterSave)
  /-- 0x03 -/
  | tram (l : List AxisSave)
  /-- 0x06 -/
  | tail (r : AsApplied)
  /-- 0x07 -/
  | radio (r : RadioSave)
  /-- 0x02 -/
  | halt (flag : Bool) (cause : HaltCause)
  /-- 0x04: on a base with the map sequence number and the fleet machine number -/
  | segment (mseq : Option (Nat × Nat)) (seg : Segment)
  /-- 0x0A -/
  | checkpoint (mark : Nat)
  /-- 0x05: one stored dictionary value, a number or bytes -/
  | storedNum (key : Nat) (v : Int)
  | storedBytes (key : Nat) (v : List Byte)
  /-- 0x08 -/
  | clock (c : ClockSave)
  /-- 0x09 -/
  | milestone (h : MilestoneHome)
  deriving DecidableEq, Repr

/-- A journal entry with a valid mark (R538). An entry without one does not exist for any reader. -/
structure JEntry where
  seq : Nat
  time : Int
  tickHi : Nat
  live : Bool
  data : JData
  deriving DecidableEq, Repr

/-- One copy of the stored set (R540). -/
structure StoredCopy where
  gen : Nat
  nums : Tab Int
  octets : Tab (List Byte)
  deriving DecidableEq, Repr

/-- What one save holds (R94). -/
structure SaveImage where
  seq : Nat
  cause : ResetSource
  time : Int
  mode : Mode
  haltFlag : Bool
  haltCause : HaltCause
  radio : RadioSave
  clock : ClockSave
  tram : List AxisSave
  /-- segments not yet in the coverage checkpoint, on a base with the map sequence number and the fleet machine number -/
  segments : List (Option (Nat × Nat) × Segment)
  tail : Option AsApplied
  stored : List JEntry
  milestone : MilestoneHome
  /-- the last position: latitude, longitude, height -/
  fix : Option (Int × Int × Int)
  /-- the almanac digest -/
  almanac : Nat
  meter : Option MeterSave
  deriving DecidableEq, Repr

/-- A NAND block (R543 to R548). -/
structure NandBlock where
  erases : Nat
  partition : Nat
  retired : Bool
  corrections : Nat
  writtenDay : Nat
  holdsData : Bool
  deriving DecidableEq, Repr

/-- The record store. -/
structure StoreState where
  /-- the next number of the 64-bit sequence counter (R537) -/
  seq : Nat
  journal : List JEntry
  spill : List JEntry
  /-- JOURNAL_SPILL since the last read -/
  spilled : Bool
  areaA : Option SaveImage
  areaB : Option SaveImage
  copy0 : Option StoredCopy
  copy1 : Option StoredCopy
  nandPresent : Bool
  nandFault : Bool
  /-- blocks of the accepted NAND, KiB in each, those bad from the factory, and whether its partition table is a rover's -/
  nandCount : Nat
  nandBlockKiB : Nat
  nandFactoryBad : Nat
  nandRover : Bool
  /-- targets on the port, and the timing mode in use (R614) -/
  nandTargets : Nat
  nandMode : Option NandMode
  /-- bytes left in the block that each partition is writing; none is open after a reset (R545) -/
  nandOpen : Tab Nat
  /-- the blocks that differ from a freshly partitioned one -/
  blocks : Tab (Option NandBlock)
  sparesLow : Bool
  recordsFull : Bool
  refreshBehind : Bool
  scrubRunning : Bool
  mramBad : Bool
  ring : List AsApplied
  /-- bytes of the as-applied partition (R543) -/
  ringCapacity : Nat
  /-- the first time not recorded while the ring was full -/
  gapFrom : Option Int
  lastWearMove : Nat
  /-- whole periods of operation for which a scrub has run: 0 MRAM, 1 NAND (R548) -/
  scrubs : Tab Nat
  deriving DecidableEq, Repr

end Sys2Proof.Machine
end

