-- ==== Sys2Proof/Machine/State.lean ====
section
/-!
DEFINITION. Machine/State.lean: the whole state of the block as plain data, the reasons a step can stop,
and the machine right after reset.
-/
namespace Sys2Proof.Machine

/-- The state: one record per block of the spec, the dictionary store, and the queue of commands that
wait, first in, first out. -/
structure State where
  mode : ModeState
  boot : BootState
  outputs : Outputs
  power : PowerState
  clk : ClockState
  roundabout : RoundaboutState
  queues : Tab QueueState
  host : HostPort
  mbox : Mailbox
  sessions : Tab Session
  remotes : List RemoteRequest
  gnss : GnssState
  obs : ObsState
  baseRef : BaseRefState
  nav : PoseState
  blv : BlvState
  kerb : KerbState
  cover : CoverState
  cache : CacheState
  fleet : FleetState
  radio : RadioState
  crier : CrierState
  gate : GateState
  tram : TramState
  net : NetState
  meter : MeterState
  zheoc : ZheocState
  store : StoreState
  milestone : MilestoneState
  /-- dictionary values that differ from their default, by address and window instance -/
  dict : Tab Int
  /-- the values in force since BOOT of the objects marked next BOOT (R521) -/
  bootDict : Tab Int
  /-- STR and OCTETS values -/
  octets : Tab (List Byte)
  /-- whole periods since BOOT for which a periodic task has run: journal kinds 0x07 to 0x09 (R538), Milestone items from 0x10 on (R551),
  the die temperature at 0x20 (R619) -/
  periods : Tab Nat
  /-- the model's own: how many open values have been drawn (log 5) -/
  draws : Nat
  /-- commands that wait -/
  pending : List Instr
  deriving DecidableEq, Repr

/-- Why a step stops with a fault. -/
inductive Fault where
  /-- raised by DIE_TEMPERATURE_SAMPLE above 140 °C: R620 guarantees no behaviour there. Safe: the model stops. -/
  | beyondRatings
  deriving DecidableEq, Repr

/-- Why a step is refused. -/
inductive Refusal where
  /-- raised by exec alone, for a command that has no meaning yet. Safe: the model stops. -/
  | notModelled (mnemonic : String)
  deriving DecidableEq, Repr

/-- Milestone with nothing recorded. -/
def MilestoneBank.empty : MilestoneBank := { hist := [], ext := [], cls := [] }

/-- A stamp of zeros. -/
def Stamp.zero : Stamp := { opSeconds := 0, cycles := 0, time := 0 }

/-- A host copy with nothing waiting. -/
def HostCopy.empty : HostCopy := { backlog := [], stopped := false }

/-- A queue the image does not use. -/
def QueueState.closed : QueueState :=
  { open_ := false, toDevice := false, lengthSlot := false, capacity := 0, words := [], openPacket := none,
    discarding := false, partLeft := 0, lastE := false, lastP := false, lastAborted := false, poison := 0, aborts := 0 }

/-- Queue 0 in BOOT (R484): host-to-device, END-MARK, 16,384 words. -/
def QueueState.bootQueue : QueueState := { QueueState.closed with open_ := true, toDevice := true, capacity := 16384 }

/-- A session that does not exist. -/
def Session.closed : Session :=
  { open_ := false, granted := none, cursors := [], challenge := none, failures := 0, lockedUntil := none,
    lastRequest := 0, clockLatch := none, snapshot := none, partialWrite := none, waiting := [], serving := none,
    saveWait := none, reply := none }

/-- All lands high-impedance (R71). -/
def Outputs.allHiZ : Outputs :=
  { haltOutA := .hiZ, haltOutB := .hiZ, secOeN := .hiZ, secChain := .hiZ, tram := .hiZ,
    radio := .hiZ, paEnA := .hiZ, paEnB := .hiZ, gpio := .hiZ, hirqN := .hiZ, ppsOut := .hiZ, zlHb := .hiZ }

/-- A bias supply that is off. -/
def Bias.none : Bias := { state := .off, retryDue := Option.none }

/-- A channel at reset: every word 0, TAP_OFS 8 (R125). DESIGN CHOICE (log 154): R152 does not say in which region a channel starts; it
starts in region 7, and climbs from there by R152. -/
def Channel.idle : Channel :=
  { en := false, slave := false, master := 0, ant := .a, signal := 0, svid := 0, tapOfs := 8, freq := 0, rate := 0,
    newFreq := none, newRate := none, newSlew := none, carrier := 0, code := 0, epochs := 0, carrierWas := 0, codeWas := 0, endedAt := none,
    drift := 0, rank := 0, edge := none, edgeHist := [], signs := [], bitSum := 0, bitTime := 0, symbols := [], unitTime := 0, unitEpoch := 0,
    unitResolved := false, lastWord := (false, false), sent := none, phaseBase := none,
    lastTag := 0, lastTaps := [], satRun := 0, sameRun := 0, sumI := 0, sumQ := 0, sumDumps := 0, sumE := (0, 0), sumL := (0, 0),
    loop := (0, 0), gainsAt := 7, sums := [], noise := [],
    powVE := 0, powP := 0, powVL := 0, powDumps := 0, region := 7, cn0 := 0, phaseLock := false, lockFrom := none,
    lockBroken := false, coastFrom := none, resolved := false, inverted := false }

/-- No capture taken. -/
def SnapshotState.idle : SnapshotState :=
  { run := none, slots := [], refused := false, fixValid := false, timeUncertain := false, ephemerisOld := false,
    enteredAt := none, intervalDue := none, wakeDue := none }

/-- The baseband at reset. -/
def GnssState.initial : GnssState :=
  { biasA := Bias.none, biasB := Bias.none, agcLimit := 0, chainsOn := 0, enable := 0x7FFFFFFF, channels := [], dumps := [],
    queue := [], search := none, frames := 0, frameMs := none, staged := [], suspended := [], almanac := 0, lastFix := none,
    navRecord := [], navCopy := HostCopy.empty, snapshot := SnapshotState.idle }

/-- Observables at reset. -/
def ObsState.initial : ObsState := { copy := HostCopy.empty, leap := none, epoch := none, tick := 0, residual := 0, entries := [] }

/-- The reference station at reset. -/
def BaseRefState.initial : BaseRefState :=
  { inForce := false, surveying := false, restarted := false, surveyFrom := 0, mismatch := false, bad := 0, good := 0,
    unsent := [], rtcmEpoch := none, queuedAt := 0, tcpClients := 0, stationAt := none, copy := HostCopy.empty }

/-- Positioning at reset. -/
def PoseState.initial : PoseState :=
  { ntripInUse := false, radioEpoch := none, throughFloat := false, ambiguities := false, holdDue := none, matchedState := 0,
    aligned1230 := false, ntripConnected := false, ntripWait := 5, ntripDue := none, ggaDue := none, ggaSent := 0, ntripRequest := [], gga := [],
    headingState := 0, headingFixedAt := none, heldHeading := 0, heldPitch := 0, imuFailRun := 0, imuCutRun := 0, imuSameRun := 0,
    imuAxes := [], imuFault := false, imuGoodFrom := none, imuReadDue := none, imuSync := 0, imuEdge := none, imuAt := none, imuTransfer := (0, 0, []), imuSamples := [],
    delivered := [], appliedAt := none, appliedState := 0, appliedNsat := 0, appliedNtrip := false, pose := none, seq := 0, anchor := none }

/-- A loop group that is not enabled. -/
def Group.idle : Group := { state := .disabled, order := none, overruns := 0, cause := 0, ramp := 0 }

/-- A loop that has not run. -/
def Loop.idle : Loop :=
  { words := [], saturations := 0, stale := false, frozen := false, modeHold := false, outSat := false, fallback := false, bfpClamp := false, region := 0,
    integ := 0, out := 0, rampFrom := 0, lastSample := none, lastTag := 0, same := 0, evalCount := 0, reinit := false, first := false }

/-- A lane at reset. -/
def Lane.idle : Lane := { regs := [], acc0 := 0, acc1 := 0 }

/-- Boulevard with no program loaded. -/
def BlvState.initial : BlvState :=
  { programs := [], lanes := [], staging := [], started := [], scrubbedAt := none, groups := [], loops := [],
    frames := [], bankA := [], bankB := [], activeB := false, swapAt := none,
    axisCommands := [], storedPart := [] }

/-- A section that is OFF. -/
def Section.idle : Section :=
  { state := .off, captured := false, plan := none, issued := none, due := none, from_ := none, till := none }

/-- The chain at rest. -/
def Chain.initial : Chain :=
  { running := false, oe := false, fault := false, captures := 0, image := 0, allOff := true, shifted := 0, shiftedOff := false,
    oeSlot := 0, doneSlot := none, queue := [] }

/-- The Kerb engine at reset. -/
def KerbState.initial : KerbState :=
  { sections := [], chain := Chain.initial, spans := [], mask := [], pose := none, phi := none,
    poseInvalid := false, sigmaLimit := false, slow := false, tileMiss := false, late := false, noLayer := false }

/-- A base without maps. -/
def CoverState.initial : CoverState :=
  { maps := [], expected := [], acc := [], painted := [], runs := [], log := [], check := none, checkpointAt := 0,
    saved := none, restoring := false, replayTo := 0, cowWait := false, mapSpace := false, rejected := false, forwarded := [], sends := [], sent := [] }

/-- A rover's coverage at reset. -/
def CacheState.initial : CacheState :=
  { tiles := [], requested := [], nextRun := 0, runs := [], pending := [], edges := [], lastClose := 0 }

/-- A machine of which nothing is known. -/
def FleetMachine.unknown : FleetMachine := { report := none, envelope := List.replicate 8 0, caps := 0, alert := 0 }

/-- No field, task or link. -/
def FleetState.initial : FleetState :=
  { fields := [], tracks := [], tasks := [], claims := [], machines := [], pairs := [], linked := 0, managerLost := false, halted := 0,
    reports := [], linkHeld := [], checkedAt := none,
    heard := [], heartbeatDue := 0, linkSeq := 0, linkOut := [], reserved := [], task := none, loading := none, claim := [] }

/-- A partner's clock of which nothing is known. -/
def Drift.unknown : Drift := { rx := [], good := 0, learned := false, rate := 0, last := none }

/-- A slot never granted. -/
def SlotConn.free : SlotConn :=
  { state := .free, device := List.replicate 16 0, key := [], heard := 0, evt := 0, firstEvent := 0, halted := false, releases := 0, relay := false,
    drift := Drift.unknown }

/-- The radio off. -/
def RadioState.initial : RadioState :=
  { on := false, groupKey := none, sessionKey := none, conn := .idle, beacons := 0, missed := 0, maps := [], netBase := 0, hops := 0,
    relayed := false, heard := 0, tempId := 0, retryDue := none, firstEvent := 0, drift := Drift.unknown, lastSlot := 255, acked := none,
    sentA := none, sentB := none, lostBase := false, budgetLow := false, paLimited := false, up := [], sendNext := 0, sentIn := [], issue := 0,
    station := none, beaconBody := [], model := none, priv := [], rolledAt := none, slots := [], down := [], terminates := [], tunnels := [], corrections := [],
    window := [], windowAt := 0, windowUs := 0, pend := [], released := [], releaseTime := 0,
    mapSel := 0, ackFirst := 0, beaconStopped := false, grants := [], fseq := 0, accepted := [], parts := [], seen := [], uses := [], usesFrom := none, lbt := [],
    txA := [], txB := [], powerA := 0, powerB := 0 }

/-- The Crier with nothing asserted. -/
def CrierState.initial : CrierState :=
  { aRadio := false, aIo := false, bRadio := false, bIo := false, levelA := false, levelB := false, discrepancy := false,
    differsFrom := none, bothSeen := false, unverified := false, exhausted := false, withdrawn := false, event := none, stopCount := 0,
    unhalted := none, acting := false }

/-- An empty image slot. -/
def ImageSlot.empty : ImageSlot :=
  { state := .empty, total := 0, bytes := [], info := { version := 0, security := 0, digest := List.replicate 32 0, test := false } }

/-- Tollgate with the slots of manufacture and no image (log 2). -/
def GateState.initial : GateState :=
  { keys := [], badSlots := [], wrapKey := [], registers := [], images := [],
    anchor := { active := none, trial := false, minSecurity := 0, committed := false, outcome := 0 }, running := none, runningSlot := none,
    trialFrom := none, releasedAt := 0, uart := { seq := 0, bytes := [], bad := 0, answer := 0 }, activation := none,
    linkEpoch := 0, peers := [] }

/-- An axis that is disabled, its position 0. -/
def Axis.initial : Axis :=
  { state := .disabled, prior := .idle, pos := 0, count := 0, pulses := [], lastRise := 0, dirAt := 0, vel := 0, goal := none, next := none, acc := 50000, accWritten := false,
    deferred := false, decel := 0, negative := false, onDue := none, offDue := none, limit := false, followBacklog := false, restored := false,
    uncertain := false, faultActive := false, backlog := 0, lastEdge := none, tau := 0, taken := none, feedback := none }

/-- The Tram at rest. -/
def TramState.initial : TramState := { tickAt := none, axes := [], groups := [] }

/-- A port with no link. Its gates are those of the default list: every queue open (R432). -/
def EthPort.down : EthPort :=
  { powered := false, linkUp := false, speed := 0, duplexRefused := false, mdioFault := false, disabling := false, rxFill := 0,
    rxOverflow := false, wakeMatch := false, pauseSent := false, pauseOut := none, repeatDue := none, pausedUntil := none, queues := [], held := [],
    busyUntil := 0, wire := none, gates := { entries := [(255, 1000000)], base := 0 }, waiting := none }

/-- PTP before its first message. -/
def PtpPort.initial : PtpPort := { state := 0, offsets := [], qualified := false, syncs := [], arrival := 0, delay := 0, announceDue := none, due := [] }

/-- A controller that is error active with an empty FIFO. -/
def CanCtl.initial : CanCtl := { err := 0, tec := 0, fifo := [], overrun := false, recovering := false }

/-- The ports at reset. -/
def NetState.initial : NetState :=
  { eth := [], ptp := [], ptpSent := none, can := []
    open_ := { nmt := .off, rpdoWait := [], syncs := [], inhibit := [], timer := [], tpdo := [], emcy := none, beat := none,
               beatDue := 0, seen := [], lost := [] }
    iso := { waitUntil := 0, reclaim := false, connected := false, heard := 0, setpoints := [], ddDue := true, ddSections := [], work := [], workDue := 0,
             rateDue := 0, rates := [], posDue := [], posSent := none } }

/-- Accumulators at zero. -/
def MeterBank.zero : MeterBank := { fwd := [], rev := [], product := [], unassigned := [], section_ := [] }

/-- An input on which nothing has been seen. -/
def PulseInput.initial : PulseInput :=
  { a := false, b := false, landA := false, landB := false, residual := 0, lastRise := none, lastRiseB := none, lastForward := none, stamps := [], rate := 0, rateTimeout := false,
    overspeed := false, quadError := false }

/-- The VIN monitor at reset. -/
def VinMonitor.initial : VinMonitor :=
  { open_ := none, queue := [], seq := 0, sags := 0, swells := 0, interruptions := 0, due := 0 }

/-- The meter block at reset. -/
def MeterState.initial : MeterState :=
  { inputs := [], inForce := [], bank := MeterBank.zero, snapshot := MeterBank.zero, credits := [], firstAt := none, interval := none,
    seq := 0, last := [], copy := HostCopy.empty, cleared := false, overspeed := false, quadError := false, eventLost := false,
    port := [], gapBase := [], ratedAt := none, vin := VinMonitor.initial }

/-- No link and no partner. -/
def ZheocState.initial : ZheocState :=
  { lane0 := false, lane1 := false, txSeq := 0, rxSeq := 0, acked := none, unacked := [], held := [], dropAt := [], linkSeen := none, pulseSeen := none, partner := none,
    hello := none, pair := .noPartner, imageMismatch := false, keyMismatch := false, dualActive := false, acting := false, choice := none,
    beat := none, beatAt := 0, token := 0, stopped := false, deposed := false, fenced := false, copied := false, inputs := [], waiting := [],
    digest := none, equalRun := 0, frameAt := none, haltOutFrom := none, haltOutUntil := none, switchAt := none, offsets := [] }

/-- The machine right after reset: RESET entered by power-on, nothing sampled, MRAM and NAND empty (logs 1 to 4). -/
def State.reset : State :=
  { mode := { current := .reset, prev := .reset, heldBeforeHalt := none, transition := none, haltCause := .none, role := none,
              testRoot := false, serviceStop := false, extRef := false, refLost := false,
              haltAt := none, releasedAt := none, askedAt := none, haltFlag := none, clockFail := none }
    boot := { roleBits := 0, bootSel := 0, dbgEn := false, disagree := false, reserved := false, bankFault := false,
              vioA33 := none, vioB33 := none, imageLoaded := false, imageWait := false, imageRejected := false,
              nrstOutLow := true, nrstOutDue := none, offered := [], badCopies := [] }
    outputs := Outputs.allHiZ
    power := { converterOn := false, pgood := false, vsns := 0, vhold := 0, phase := .idle, reduced := false,
               fullThroughout := true, chargeTime := 0, armed := false, vholdLow := false,
               vholdFault := false, swell := false, isolated := false, isolatedFor := 0, saving := none,
               lastSave := none, saveFrom := 0, saveAt := 0, saveTime := 0, endedBy := .powerOn, saveDone := false, saveAborted := false, resetCause := 0 }
    clk := { c := 0, offset := 0, ref := 0, rate := 0, staged := none, prior := none, compares := [], fired := [], state := .unknown,
             valid := false, slewing := false, ahead := false, backwardSet := false, qualified := [], learnedRate := 0,
             error := 0, solvedAt := none, measured := none, holdover := none, pending := none, announced := none, ppsOut := false, ppsFallDue := none,
             ppsLastRise := none, ppsInDue := none, ppsInPresent := false, queues := [], seqs := [], evtLost := false,
             evtCopy := HostCopy.empty }
    roundabout := { ready := [], running := [], store := [], held := [] }
    queues := [(0, QueueState.bootQueue)]
    host := { quad := false, irqStatus := 0, irqFresh := 0, irqAt := none, irqEnable := 0, queueMask := 0, xferErrs := 0, stall := none, out := [],
              outStatus := none, outCrc := none }
    mbox := { cmd := 0, arg := 0, len := 0, more := false, tag := 0, data := [], state := .idle, ignored := false,
              cancelled := false, respTag := 0, abort := 0 }
    sessions := []
    remotes := []
    gnss := GnssState.initial
    obs := ObsState.initial
    baseRef := BaseRefState.initial
    nav := PoseState.initial
    blv := BlvState.initial
    kerb := KerbState.initial
    cover := CoverState.initial
    cache := CacheState.initial
    fleet := FleetState.initial
    radio := RadioState.initial
    crier := CrierState.initial
    gate := GateState.initial
    tram := TramState.initial
    net := NetState.initial
    meter := MeterState.initial
    zheoc := ZheocState.initial
    store := { seq := 1, journal := [], spill := [], spilled := false, areaA := none, areaB := none, copy0 := none,
               copy1 := none, nandPresent := false, nandFault := false, nandCount := 0,
               nandBlockKiB := 0, nandFactoryBad := 0, nandRover := false, nandTargets := 0, nandMode := none, nandOpen := [], blocks := [],
               sparesLow := false, recordsFull := false, refreshBehind := false, scrubRunning := false, mramBad := false,
               ring := [], ringCapacity := 0, gapFrom := none, lastWearMove := 0, scrubs := [] }
    milestone := { visible := MilestoneBank.empty, pendingBank := MilestoneBank.empty, frozen := false, freezeDue := none,
                   expired := false, since := Stamp.zero, opSeconds := 0, cycles := 0, home0 := none, home1 := none }
    dict := []
    bootDict := []
    octets := []
    periods := []
    draws := 0
    pending := [] }

end Sys2Proof.Machine
end

