-- ==== Sys2Proof/Machine/Ops.lean ====
section
/-!
DEFINITION. Machine/Ops.lean: the named operations over the state that every family shares: reads and
writes of dictionary objects, time on the counter (R379, R380), timers, open values, sessions.
-/
namespace Sys2Proof.Machine

/-! ### Time -/

/-- The count now, as a number. -/
def State.now (s : State) : Nat := s.clk.c.toNat

/-- Ticks of n microseconds, milliseconds and seconds (R27: a tick is 0.5 ns). -/
def ticksUs (n : Nat) : Nat := n * 2000
def ticksMs (n : Nat) : Nat := n * 2000000
def ticksS (n : Nat) : Nat := n * 2000000000

/-- The tick at which a time of n ticks that starts now has passed. -/
def State.after (s : State) (n : Nat) : Option Nat := some (s.now + n)

/-- A timer that runs has reached its end; the end itself is past (half-open spans, R22). -/
def State.due (s : State) (t : Option Nat) : Bool :=
  match t with
  | none => false
  | some d => decide (d ≤ s.now)

/-- The CK_IO cycle of a tick: 20 ticks (log 34). -/
def ioCycle (t : Nat) : Nat := t / 20

/-- Two events lie in one CK_IO cycle. -/
def State.sameCycle (s : State) (t : Option Nat) : Bool :=
  match t with
  | none => false
  | some t => decide (ioCycle t = ioCycle s.now)

/-- Reported time at a count (R380). -/
def timeAt (k : ClockState) (c : Ticks) : Int :=
  k.offset + (((c - k.ref).toNat : Int) * (2 ^ 40 + k.rate) + 2 ^ 40) / 2 ^ 41

/-- Reported time at a tick that was captured: by the set in force at that tick, so by the prior set for a tick earlier
than REF (R380, R23). -/
def timeOf (k : ClockState) (tick : Nat) : Int :=
  match k.prior with
  | none => timeAt k (BitVec.ofNat 64 tick)
  | some (o, r, rate) =>
    if signedDiff 64 tick k.ref.toNat < 0 then timeAt { k with offset := o, ref := r, rate := rate } (BitVec.ofNat 64 tick)
    else timeAt k (BitVec.ofNat 64 tick)

/-- Reported time now: TIME64 (R26). -/
def State.time64 (s : State) : Int := timeAt s.clk s.clk.c

/-- TIME64, or 0 while TIME_VALID is clear (R538, R552). -/
def State.stampTime (s : State) : Int := if s.clk.valid then s.time64 else 0

/-- The count, ahead of REF, at which reported time first is t under a conversion set: the least n whose
reported time is t or later (log 9). -/
def countOf (k : ClockState) (t : Int) : Nat :=
  let d := (t - k.offset) * 2 ^ 41 - 2 ^ 40
  let n : Int := -((-d) / (2 ^ 40 + k.rate))
  k.ref.toNat + n.toNat

/-! ### Open values -/

/-- Draws an open value of w bits and counts the draw (log 5). -/
def State.drawBits (s : State) (w : Nat) : BitVec w × State :=
  (Config.freeBits w s.draws, { s with draws := s.draws + 1 })

/-- Draws an open truth value. -/
def State.drawBool (s : State) : Bool × State := (Config.freeBool s.draws, { s with draws := s.draws + 1 })

/-- Draws an open integer. -/
def State.drawInt (s : State) : Int × State := (Config.freeInt s.draws, { s with draws := s.draws + 1 })

/-! ### Dictionary store -/

/-- The place of instance i of an object in the store. -/
def regKey (o : ObjDesc) (i : Nat) : Nat := o.addr * 2 ^ 32 + i

/-- The value of instance i of a number object. -/
def State.regAt (s : State) (o : ObjDesc) (i : Nat) : Int := Tab.get o.dflt s.dict (regKey o i)

/-- The value of a number object. -/
def State.reg (s : State) (o : ObjDesc) : Int := s.regAt o 0

/-- The value as a natural number. -/
def State.regN (s : State) (o : ObjDesc) : Nat := (s.reg o).toNat

/-- The value of instance i as a natural number. -/
def State.regNAt (s : State) (o : ObjDesc) (i : Nat) : Nat := (s.regAt o i).toNat

/-- Sets instance i of a number object. -/
def State.setRegAt (s : State) (o : ObjDesc) (i : Nat) (v : Int) : State :=
  { s with dict := Tab.put o.dflt s.dict (regKey o i) v }

/-- Sets a number object. -/
def State.setReg (s : State) (o : ObjDesc) (v : Int) : State := s.setRegAt o 0 v

/-- Adds to a counter object, modulo 2 to its width. -/
def State.addRegAt (s : State) (o : ObjDesc) (i : Nat) (n : Nat) : State :=
  s.setRegAt o i ((s.regAt o i + n) % (256 ^ o.size : Nat))

/-- Adds 1 to a counter object, modulo 2 to its width. -/
def State.incr (s : State) (o : ObjDesc) : State := s.addRegAt o 0 1

/-- Adds 1 to instance i of a counter object. -/
def State.incrAt (s : State) (o : ObjDesc) (i : Nat) : State := s.addRegAt o i 1

/-- Raises a high-water object to a value, saturating at its width. -/
def State.raiseReg (s : State) (o : ObjDesc) (v : Int) : State :=
  let v' := if v < (256 ^ o.size : Nat) then v else ((256 ^ o.size : Nat) : Int) - 1
  if s.reg o < v' then s.setReg o v' else s

/-- The value in force since BOOT of an object marked next BOOT (R521). -/
def State.bootRegAt (s : State) (o : ObjDesc) (i : Nat) : Int := Tab.get o.dflt s.bootDict (regKey o i)

/-- The same for an object without window. -/
def State.bootReg (s : State) (o : ObjDesc) : Int := s.bootRegAt o 0

/-- The same as a natural number. -/
def State.bootRegN (s : State) (o : ObjDesc) : Nat := (s.bootReg o).toNat

/-- The default bytes of an OCTETS object as its table states them; a STR is empty. -/
def octetDefault (o : ObjDesc) : List Byte :=
  if o.addr = Obj.exemptEntry.addr then [0xFF, 0xFF, 0, 0]
  else if o.addr = Obj.gateEntry.addr then [0xFF, 0, 0, 0] ++ leBytes 4 1000000
  else if o.ty = .octets then List.replicate o.size 0
  else []

/-- The bytes of instance i of a STR or OCTETS object. -/
def State.octAt (s : State) (o : ObjDesc) (i : Nat) : List Byte := Tab.get (octetDefault o) s.octets (regKey o i)

/-- The bytes of a STR or OCTETS object. -/
def State.oct (s : State) (o : ObjDesc) : List Byte := s.octAt o 0

/-- Sets the bytes of instance i. -/
def State.setOctAt (s : State) (o : ObjDesc) (i : Nat) (v : List Byte) : State :=
  { s with octets := Tab.put (octetDefault o) s.octets (regKey o i) v }

/-- Sets the bytes of an object. -/
def State.setOct (s : State) (o : ObjDesc) (v : List Byte) : State := s.setOctAt o 0 v

/-! ### Sessions -/

/-- The number of a session in the state's table. -/
def sessKey : Sess → Nat
  | .host => 0
  | .can0 => 1
  | .tcp n => 2 + n.val
  | .baseLink _ => 6
  | .radio _ => 7

/-- The session of a requester. -/
def State.session (s : State) (q : Sess) : Session := Tab.get Session.closed s.sessions (sessKey q)

/-- Changes a session. -/
def State.updSession (s : State) (q : Sess) (f : Session → Session) : State :=
  { s with sessions := Tab.update Session.closed s.sessions (sessKey q) f }

/-- The level a session has without challenge and response (R510). A radio session has at most Integrator. -/
def defaultLevel : Sess → AccessLevel
  | .host => .integrator
  | .can0 => .operator
  | .tcp _ => .operator
  | .baseLink l => l
  | .radio .service => .integrator
  | .radio l => l

/-- The code of a level (R532). -/
def levelCode : AccessLevel → Nat
  | .operator => 0
  | .integrator => 1
  | .service => 2

/-- The level of a session now (R509, R511): the level granted where it is higher than the default. -/
def State.level (s : State) (q : Sess) : AccessLevel :=
  match (s.session q).granted with
  | some l => if levelCode (defaultLevel q) < levelCode l then l else defaultLevel q
  | none => defaultLevel q

/-- The session's value of a cursor object (R510). -/
def State.cursor (s : State) (q : Sess) (o : ObjDesc) : Nat := (Tab.get 0 (s.session q).cursors o.addr).toNat

/-- The session's value of a cursor object, signed. -/
def State.cursorI (s : State) (q : Sess) (o : ObjDesc) : Int := Tab.get 0 (s.session q).cursors o.addr

/-! ### Codes -/

/-- The code of a mode (R40). -/
def modeCode : Mode → Nat
  | .reset => 0x0 | .boot => 0x1 | .base => 0x2 | .rover => 0x3 | .relay => 0x4 | .standby => 0x5
  | .snapshot => 0x6 | .halt => 0x7 | .service => 0x8 | .holdup => 0x9

/-- The code of a halt cause (R43). -/
def haltCode : HaltCause → Nat
  | .none => 0 | .stopInput => 1 | .stopFrame => 2 | .lostBase => 3 | .modeRequest => 4 | .propagated => 5 | .failover => 6

/-- The number of a clock domain (R32, R106). -/
def domainCode : ClockDomain → Nat
  | .core => 0 | .rt => 1 | .blv => 2 | .gnss => 3 | .radio => 4 | .ts => 5 | .ddr => 6 | .eth => 7 | .can => 8
  | .io => 9 | .aon => 10

/-- The domains whose spread is allowed (R32); the others are marked Never. -/
def spreadAllowed : ClockDomain → Bool
  | .core | .rt | .blv | .ddr | .io => true
  | _ => false

/-- The bit of a role in the role masks of the object table. -/
def roleBit : Role → Nat
  | .base => 0 | .rover => 1 | .relay => 2

/-- The code of a time state (R389). -/
def timeStateCode : TimeState → Nat
  | .unknown => 0 | .gnss => 1 | .ptp => 2 | .beacon => 3 | .holdover => 4

/-- A task that runs once in every period of a length has a period to run for, counted from BOOT on (R400, R538, R551, R619). -/
def State.periodDue (s : State) (task len : Nat) : Bool := decide (Tab.get 0 s.periods task < s.now / len)

/-- The task has run for every period that has ended. -/
def State.periodTaken (s : State) (task len : Nat) : State := { s with periods := Tab.put 0 s.periods task (s.now / len) }

/-- The mode is neither RESET nor HOLDUP: the blocks run. -/
def State.running (s : State) : Bool :=
  match s.mode.current with
  | .reset | .holdup => false
  | _ => true

/-- The mode is one of the operating modes that BOOT ends in, HALT included. -/
def State.operating (s : State) : Bool :=
  match s.mode.current with
  | .reset | .holdup | .boot => false
  | _ => true

/-- The unit of a pair that transmits nothing: in STANDBY (R597), or fenced (R592). -/
def State.silent (s : State) : Bool := decide (s.mode.current = .standby) || s.zheoc.fenced

/-- BOOT before VHOLD is armed: nothing is written to the save areas or to the running journal (R84). -/
def State.unarmedBoot (s : State) : Bool := decide (s.mode.current = .boot) && !s.power.armed

/-- The module has the role and runs past BOOT. -/
def State.hasRole (s : State) (r : Role) : Bool := s.operating && decide (s.mode.role = some r)

/-- The module's base role as manager: BaseSubRole in force since BOOT is 0 (R41, R42). -/
def State.isManager (s : State) : Bool := decide (s.mode.role = some .base) && decide (s.bootReg Obj.baseSubRole = 0)

/-- The module's base role as worker. -/
def State.isWorker (s : State) : Bool := decide (s.mode.role = some .base) && decide (s.bootReg Obj.baseSubRole = 1)

/-! ### Mirroring to the partner of a pair (R589, R595) -/

/-- Changes the pair's state. -/
def State.updZheoc (s : State) (f : ZheocState → ZheocState) : State := { s with zheoc := f s.zheoc }

/-- The Zheoc link is trained on at least one lane. -/
def State.linkUp (s : State) : Bool := s.zheoc.lane0 || s.zheoc.lane1

/-- Held frames of the Zheoc link go out while fewer than 256 are unacknowledged, each with the next SEQ (R589). -/
def ZheocState.release (z : ZheocState) (now : Nat) : List (Nat × Nat) → ZheocState
  | [] => { z with held := [] }
  | (type, since) :: rest =>
    if z.unacked.length < 256 then
      ZheocState.release { z with txSeq := (z.txSeq + 1) % 2 ^ 32, unacked := z.unacked ++ [{ seq := z.txSeq, type := type, first := since, at_ := now }] }
        now rest
    else { z with held := (type, since) :: rest }

/-- Sends a frame of a TYPE: with 256 unacknowledged it waits (R589). -/
def State.zlSend (s : State) (type : Nat) : State := s.updZheoc (fun z => z.release s.now (z.held ++ [(type, s.now)]))

/-- The acting unit mirrors an input that it applies, and it goes into the frame's digest. -/
def State.noteInput (s : State) : State :=
  if s.zheoc.acting ∧ s.zheoc.pair = .inStep then
    (s.zlSend 5).updZheoc (fun z => { z with inputs := z.inputs ++ [(s.zheoc.txSeq + s.zheoc.held.length) % 2 ^ 32] })
  else s

end Sys2Proof.Machine
end

