-- ==== Sys2Proof/Machine/QueueOps.lean ====
section
/-!
DEFINITION. Machine/QueueOps.lean: interrupt flags of the host port (R499) and the Alley queues
(R484 to R490), with the host's stalled transactions that go on when a queue changes (R494).
-/
namespace Sys2Proof.Machine

/-! ### Interrupt flags -/

/-- The flags of IRQ_STATUS that hardware has set in this CK_IO cycle (R20). -/
def State.freshIrq (s : State) : BitVec 9 := if s.sameCycle s.host.irqAt then s.host.irqFresh else 0

/-- Sets a flag of IRQ_STATUS. -/
def State.raiseIrq (s : State) (n : Nat) : State :=
  { s with host := { s.host with irqStatus := s.host.irqStatus ||| (1#9 <<< n), irqFresh := s.freshIrq ||| (1#9 <<< n), irqAt := some s.now } }

/-- MBOX_DONE, MODE_CHANGE, HALT_ENTERED, QUEUE_DATA, HOST_STOPPED, POISON_READ, ABORT_READ, XFER_ERR, STATUS_CHANGE. -/
def irqMboxDone : Nat := 0
def irqModeChange : Nat := 1
def irqHaltEntered : Nat := 2
def irqQueueData : Nat := 3
def irqHostStopped : Nat := 4
def irqPoisonRead : Nat := 5
def irqAbortRead : Nat := 6
def irqXferErr : Nat := 7
def irqStatusChange : Nat := 8

/-! ### Words and packets -/

/-- Odd parity over one data byte: the bit that makes the number of ones odd. -/
def oddParity (b : Nat) : Bool := popcount b 8 % 2 == 0

/-- The four parity bits of a word (R485). -/
def parityOf (w : Word32) : BitVec 4 :=
  BitVec.ofNat 4 (flag (oddParity (bits w.toNat 0 8)) 0 + flag (oddParity (bits w.toNat 8 8)) 1
    + flag (oddParity (bits w.toNat 16 8)) 2 + flag (oddParity (bits w.toNat 24 8)) 3)

/-- A word as its producer writes it (R485). -/
def queueWord (w : Word32) (e p : Bool) : QueueWord := { data := w, parity := parityOf w, e := e, p := p }

/-- A word as its reader gets it: P set where the parity check fails (R486). -/
def QueueWord.read (w : QueueWord) : QueueWord := if w.parity = parityOf w.data then w else { w with p := true }

/-- The slot of an aborted packet (R489). -/
def abortedSlot : Word32 := 0xFFFFFFFF

/-- The words that follow a slot word. -/
def slotLength (w : Word32) : Nat := if w = abortedSlot then 0 else w.toNat

/-- Whole LENGTH-SLOT packets in a list of readable words; fuel bounds the walk. -/
def slotPackets : Nat → List QueueWord → Nat
  | 0, _ => 0
  | _ + 1, [] => 0
  | f + 1, w :: t => 1 + slotPackets f (t.drop (slotLength w.data))

/-- Whole packets that wait in a queue (R487, R488). -/
def QueueState.packets (q : QueueState) : Nat :=
  if q.lengthSlot then
    (if q.partLeft = 0 then 0 else 1) + slotPackets q.words.length (q.words.drop q.partLeft)
  else q.words.countP (·.e)

/-- Words of the oldest whole packet, the slot word included; 0 when none (R502 Q_HEAD). -/
def QueueState.headLength (q : QueueState) : Nat :=
  if q.lengthSlot then
    if q.partLeft ≠ 0 then q.partLeft
    else match q.words with
      | [] => 0
      | w :: _ => 1 + slotLength w.data
  else if q.words.any (·.e) then (q.words.takeWhile (fun w => !w.e)).length + 1 else 0

/-- Words held, an unseen open packet included. -/
def QueueState.used (q : QueueState) : Nat :=
  q.words.length + (match q.openPacket with | none => 0 | some p => p.length)

/-- Free words. -/
def QueueState.free (q : QueueState) : Nat := q.capacity - q.used

/-- The queue of a number. -/
def State.queue (s : State) (n : Nat) : QueueState := Tab.get QueueState.closed s.queues n

/-- Puts a queue back. -/
def State.setQueue (s : State) (n : Nat) (q : QueueState) : State :=
  { s with queues := Tab.put QueueState.closed s.queues n q }

/-- QUEUE_DATA when a queue enabled in QUEUE_IRQ_MASK gained a whole packet. -/
def State.gainedPacket (s : State) (n : Nat) : State :=
  if s.host.queueMask.getLsbD n then s.raiseIrq irqQueueData else s

/-! ### Pops of the host (R497) -/

/-- Takes words of one packet: at most want of them, not past its end. Answers the queue, the words taken in
order, how many are still wanted where the queue ran dry inside the packet, and whether the packet ended. -/
def popWords : Nat → QueueState → List QueueWord → QueueState × List QueueWord × Nat × Bool
  | 0, q, acc => (q, acc.reverse, 0, false)
  | n + 1, q, acc =>
    match q.words with
    | [] => (q, acc.reverse, n + 1, false)
    | w :: t =>
      let r := w.read
      let bad := decide (w.parity ≠ parityOf w.data)
      let left := if q.lengthSlot then (if q.partLeft = 0 then slotLength r.data else q.partLeft - 1) else 0
      let ended := if q.lengthSlot then decide (left = 0) else r.e
      let aborted := q.lengthSlot && decide (q.partLeft = 0) && decide (r.data = abortedSlot)
      let q' := { q with words := t, partLeft := left, lastE := r.e, lastP := r.p, lastAborted := aborted,
                         poison := (q.poison + (if bad then 1 else 0)) % 2 ^ 32 }
      if ended then (q', (r :: acc).reverse, 0, true) else popWords n q' (r :: acc)

/-- The position of the first poisoned word. -/
def firstPoison (ws : List QueueWord) : Nat := if ws.any (·.p) then (ws.takeWhile (fun w => !w.p)).length else 0

/-- The status word of a POP (R497). -/
def popStatus (q : QueueState) (ws : List QueueWord) (ended : Bool) : Word32 :=
  BitVec.ofNat 32 (ws.length + flag ended 9 + flag (ws.any (·.p)) 10 + flag q.lastAborted 11
    + firstPoison ws % 256 * 2 ^ 12 + (min q.packets 4095) * 2 ^ 20)

/-- Bytes of words in the order they are sent. -/
def wordBytes (ws : List Word32) : List Byte := ws.flatMap (fun w => leBytes 4 w.toNat)

/-- Ends a POP whose words are complete: data padded with zeros to the count, status word, CRC-16, and the
flags of poisoned and aborted reads. -/
def State.finishPop (s : State) (n count : Nat) (ws : List QueueWord) (ended : Bool) : State :=
  let q := s.queue n
  let data := ws.map (·.data) ++ List.replicate (count - ws.length) 0
  let st := popStatus q ws ended
  let s := { s with host := { s.host with stall := none, out := data, outStatus := some st, outCrc := some (crc16 (wordBytes (data ++ [st]))) } }
  let s := if ws.any (·.p) then s.raiseIrq irqPoisonRead else s
  if q.lastAborted then s.raiseIrq irqAbortRead else s

/-- A POP of want more words after those taken: it goes on until the count or the end of the packet, and
stalls with HRDY low where the queue runs dry (R490, R494). -/
def State.runPop (s : State) (n want : Nat) (taken : List QueueWord) : State :=
  let (q, got, left, ended) := popWords want (s.queue n) []
  let s := s.setQueue n q
  let ws := taken ++ got
  if left = 0 then s.finishPop n (taken.length + want) ws ended
  else { s with host := { s.host with stall := some (.pop n left ws) } }

/-! ### LENGTH-SLOT producers (R488, R489) -/

/-- Aborts the open packet of a LENGTH-SLOT queue: its payload is released, its slot reads 0xFFFF_FFFF and becomes
visible as a one-word packet, and the producer's further words of it are discarded. -/
def QueueState.abortOpen (q : QueueState) : QueueState :=
  { q with openPacket := none, words := q.words ++ [queueWord abortedSlot false false], discarding := true,
           aborts := (q.aborts + 1) % 2 ^ 32 }

/-- The words of a PUSH enter a LENGTH-SLOT queue (R488, R489; log 46): the first opens the packet with its slot word, an
ended push closes it with its length; a packet longer than the queue aborts. -/
def QueueState.pushSlot (q : QueueState) (ws : List Word32) (ended : Bool) : QueueState :=
  if q.discarding then { q with discarding := !ended }
  else
    let p := q.openPacket.getD [queueWord 0 false false] ++ ws.map (fun w => queueWord w false false)
    if q.capacity < p.length then
      let a := { q with openPacket := some p }.abortOpen
      { a with discarding := !ended }
    else if ended then
      { q with openPacket := none, words := q.words ++ (queueWord (BitVec.ofNat 32 (p.length - 1)) false false :: p.drop 1) }
    else { q with openPacket := some p }

/-- Words wait for free space in a queue (R490, R494): a packet longer than a LENGTH-SLOT queue does not, it aborts (R489). -/
def QueueState.takes (q : QueueState) (n : Nat) : Bool :=
  let more := if q.lengthSlot && q.openPacket.isNone then n + 1 else n
  decide (more ≤ q.free) || (q.lengthSlot && (q.discarding || decide (q.capacity < (q.openPacket.getD [queueWord 0 false false]).length + n)))

/-! ### Producers -/

/-- Appends the words of a PUSH; the last one with E in a PUSH_END, or the packet closed (R488, R495, R496). -/
def State.applyPush (s : State) (n : Nat) (ws : List Word32) (ended : Bool) : State :=
  let q := s.queue n
  if q.lengthSlot then
    let y := q.pushSlot ws ended
    let s := s.setQueue n y
    if q.packets < y.packets then s.gainedPacket n else s
  else
  let ws' := ws.map (fun w => queueWord w false false)
  let ws' := if ended then ws'.dropLast ++ (match ws'.getLast? with | none => [] | some w => [{ w with e := true }]) else ws'
  let s := s.setQueue n { q with words := q.words ++ ws' }
  if ended then s.gainedPacket n else s

/-- A PUSH whose words fit is applied where the host's CRC passed (R496); else XFER_ERR. -/
def State.finishPush (s : State) (n : Nat) (ws : List Word32) (crcOk ended : Bool) : State :=
  let s := { s with host := { s.host with stall := none } }
  if crcOk then s.applyPush n ws ended else s.raiseIrq irqXferErr

/-- Lets a stalled transaction of the host on this queue go on (R494). -/
def State.resumeStall (s : State) (n : Nat) : State :=
  match s.host.stall with
  | some (.pop m want taken) => if m = n then s.runPop n want taken else s
  | some (.push m ws ok ended) =>
    if m = n ∧ (s.queue n).takes ws.length = true then s.finishPush n ws ok ended else s
  | none => s

/-- Bytes as words, least significant first, the last one filled with zeros. -/
def toWords : Nat → List Byte → List Word32
  | 0, _ => []
  | _ + 1, [] => []
  | f + 1, bs => BitVec.ofNat 32 (fieldU bs 0 4) :: toWords f (bs.drop 4)

/-- A device producer writes one record as one packet, where it fits (R138, R487). -/
def State.producePacket (s : State) (n : Nat) (record : List Byte) : State :=
  ((s.applyPush n (toWords record.length record) true).resumeStall n)

/-- The record fits the free space of the queue. -/
def State.packetFits (s : State) (n : Nat) (record : List Byte) : Bool :=
  (s.queue n).open_ && (s.queue n).takes (toWords record.length record).length

/-! ### Host copies (R138) -/

/-- Moves records of a backlog to their queue as long as they fit, oldest first. -/
def drainBacklog (n : Nat) : List (List Byte) → State → List (List Byte) × State
  | [], s => ([], s)
  | r :: t, s => if s.packetFits n r then drainBacklog n t (s.producePacket n r) else (r :: t, s)

/-- The bytes of a backlog. -/
def backlogBytes (l : List (List Byte)) : Nat := (l.map List.length).foldl (· + ·) 0

/-- One record offered to a host copy (R138): it waits in the backlog and goes to the queue when it fits. A record
that the backlog cannot hold stops the copy. Answers the copy, the state, and whether the copy stopped now. -/
def State.hostCopy (s : State) (h : HostCopy) (n limit : Nat) (record : List Byte) : HostCopy × State × Bool :=
  let (rest, s) := drainBacklog n h.backlog s
  if rest.isEmpty && s.packetFits n record then ({ h with backlog := [] }, s.producePacket n record, false)
  else if backlogBytes rest + record.length ≤ limit then ({ h with backlog := rest ++ [record] }, s, false)
  else ({ backlog := rest, stopped := true }, s.raiseIrq irqHostStopped, true)

end Sys2Proof.Machine
end

