-- ==== Sys2Proof/Machine/StoreOps.lean ====
section
/-!
DEFINITION. Machine/StoreOps.lean: the shared operations of the record store: the sequence counter
(R537), the running journal with its spill (R538, R539), stored dictionary writes (R520, R540), and
Milestone entries and samples (R551, R552).
-/
namespace Sys2Proof.Machine

/-- Changes the store. -/
def State.updStore (s : State) (f : StoreState → StoreState) : State := { s with store := f s.store }

/-! ### NAND blocks (R543, R545, R548) -/

/-- Blocks of the images partition: 2 GiB. -/
def StoreState.imageBlocks (x : StoreState) : Nat := (2097152 + x.nandBlockKiB - 1) / max 1 x.nandBlockKiB

/-- Usable blocks that the shares of R543 divide. -/
def StoreState.usable (x : StoreState) : Nat := x.nandCount - x.nandFactoryBad - x.imageBlocks

/-- Blocks of a partition: 0 images, 1 spill, 2 checkpoints, 3 as-applied, 4 spare. -/
def StoreState.partBlocks (x : StoreState) (p : Nat) : Nat :=
  match p with
  | 0 => x.imageBlocks
  | 1 => x.usable / 100
  | 2 => if x.nandRover then 0 else x.usable * 90 / 100
  | 3 => if x.nandRover then x.usable * 96 / 100 else x.usable * 6 / 100
  | _ => x.usable * 3 / 100

/-- The partition in which a block stands when the NAND is new: the partitions follow each other, then the factory's bad
blocks. -/
def StoreState.freshPart (x : StoreState) (n : Nat) : Nat :=
  let a := x.partBlocks 0
  let b := a + x.partBlocks 1
  let c := b + x.partBlocks 2
  let d := c + x.partBlocks 3
  if n < a then 0 else if n < b then 1 else if n < c then 2 else if n < d then 3 else 4

/-- A block; none where the NAND has none of that number. -/
def State.block (s : State) (n : Nat) : Option NandBlock :=
  if !s.store.nandPresent || decide (s.store.nandCount - s.store.nandFactoryBad ≤ n) then none
  else some ((Tab.get none s.store.blocks n).getD
    { erases := 0, partition := s.store.freshPart n, retired := false, corrections := 0, writtenDay := 0, holdsData := false })

/-- Puts a block. -/
def State.setBlock (s : State) (n : Nat) (b : NandBlock) : State := s.updStore (fun x => { x with blocks := Tab.put none x.blocks n (some b) })

/-- Whole days of reported time. -/
def State.today (s : State) : Nat := (s.stampTime / 86400000000000).toNat

/-- A block is free to be written: in use by its partition and without data. -/
def NandBlock.free (b : NandBlock) (part : Nat) : Bool := !b.retired && !b.holdsData && decide (b.partition = part)

/-- The blocks listed, with their numbers. -/
def State.listed (s : State) : List (Nat × NandBlock) := s.store.blocks.filterMap (fun e => e.2.map (fun b => (e.1, b)))

/-- The number of the first block of a partition on a new NAND. -/
def StoreState.partStart (x : StoreState) (p : Nat) : Nat := ((List.range p).map x.partBlocks).foldl (· + ·) 0

/-- A block of a partition that has never been written: one that is not listed. -/
def State.freshBlock (s : State) (part : Nat) : Option Nat :=
  let a := s.store.partStart part
  let used := s.store.blocks.countP (fun e => decide (a ≤ e.1) && decide (e.1 < a + s.store.partBlocks part))
  if s.store.partBlocks part ≤ used then none
  else (List.range (used + 1)).map (fun k => a + k) |>.find? (fun n => s.store.blocks.all (fun e => decide (e.1 ≠ n)))

/-- The block of a list with the least of a measure, the first of several. -/
def leastBlock (f : NandBlock → Nat) (l : List (Nat × NandBlock)) : Option (Nat × NandBlock) :=
  l.foldl (fun m e => match m with
    | none => some e
    | some x => if f e.2 < f x.2 then some e else some x) none

/-- The free block of a partition with the lowest erase count, to which writes go (R548). -/
def State.freeBlock (s : State) (part : Nat) : Option Nat :=
  match s.freshBlock part with
  | some n => some n
  | none => (leastBlock (·.erases) (s.listed.filter (fun e => e.2.free part))).map (·.1)

/-- The blocks of a partition that hold data. -/
def State.heldBlocks (s : State) (part : Nat) : List (Nat × NandBlock) :=
  s.listed.filter (fun e => e.2.holdsData && !e.2.retired && decide (e.2.partition = part))

/-- The block written longest ago is erased. -/
def State.eraseOldest (s : State) (part : Nat) : State :=
  match leastBlock (·.writtenDay) (s.heldBlocks part) with
  | none => s
  | some (n, b) => s.setBlock n { b with holdsData := false, corrections := 0, erases := b.erases + 1 }

/-- The free block of a partition begins to hold data. -/
def State.takeBlock (s : State) (part : Nat) : State :=
  match s.freeBlock part with
  | none => s
  | some n => match s.block n with
    | none => s
    | some b => s.setBlock n { b with holdsData := true, corrections := 0, writtenDay := s.today }

/-- A partition goes on in a further block (R545, R548); where none is free the oldest is erased first. -/
def State.openBlock (s : State) (part : Nat) : State :=
  (if (s.freeBlock part).isNone then s.eraseOldest part else s).takeBlock part

/-- A function applied n times. -/
def repeatState : Nat → (State → State) → State → State
  | 0, _, s => s
  | n + 1, f, s => repeatState n f (f s)

/-- Bytes are written to a partition, of which live bytes are then wanted. DESIGN CHOICE (log 183): a partition is written block after
block, and its oldest blocks are erased once fewer hold all that is wanted and the block being written. -/
def State.nandWrite (s : State) (part bytes live : Nat) : State :=
  if !s.store.nandPresent || decide (bytes = 0) then s
  else
    let size := max 1 (s.store.nandBlockKiB * 1024)
    let room := Tab.get 0 s.store.nandOpen part
    let more := (bytes - room + size - 1) / size
    let s := repeatState more (fun s => s.openBlock part) s
    let s := repeatState ((s.heldBlocks part).length - ((live + size - 1) / size + 1)) (fun s => s.eraseOldest part) s
    s.updStore (fun x => { x with nandOpen := Tab.put 0 x.nandOpen part (room + more * size - bytes) })

/-! ### Journal -/

/-- The KIND of a journal payload (R538). -/
def JData.kind : JData → Nat
  | .meter _ => 1
  | .halt _ _ => 2
  | .tram _ => 3
  | .tail _ => 6
  | .radio _ => 7
  | .storedNum _ _ | .storedBytes _ _ => 5
  | .clock _ => 8
  | .milestone _ => 9
  | .segment _ _ => 4
  | .checkpoint _ => 10

/-- Payload bytes: LEN is 1 to 65,535 (R538). -/
def payloadLen (k : Nat) : Nat := max 1 (min 65535 (Config.journalPayload k))

/-- Bytes of an entry: header line, payload padded to whole lines of 32 bytes, mark line. -/
def JEntry.bytes (e : JEntry) : Nat := 64 + (payloadLen e.data.kind + 31) / 32 * 32

/-- Bytes of a run of entries: JournalUsed. -/
def journalBytes (l : List JEntry) : Nat := (l.map JEntry.bytes).foldl (· + ·) 0

/-- The ring: 960 KiB (R535). -/
def journalCapacity : Nat := 983040

/-- Frees space for need bytes at the tail; live entries there go to the spill partition (R539). -/
def makeRoom (need : Nat) : List JEntry → List JEntry × List JEntry
  | [] => ([], [])
  | e :: t =>
    if journalBytes (e :: t) + need ≤ journalCapacity then (e :: t, [])
    else
      let (k, sp) := makeRoom need t
      (k, if e.live then e :: sp else sp)

/-- The kinds of which only the newest entry is live (R539). -/
def newestOnly (k : Nat) : Bool := k = 1 || k = 2 || k = 3 || (6 ≤ k && k ≤ 10)

/-- Older entries of such a kind are dead once a newer one is written. -/
def killOlder (k : Nat) (l : List JEntry) : List JEntry :=
  if newestOnly k then l.map (fun e => if e.data.kind = k then { e with live := false } else e) else l

/-- Operating seconds (R552): those restored at BOOT, and the seconds of the counter since, which stands at 0 in RESET. -/
def State.opSeconds (s : State) : Nat := s.milestone.opSeconds + s.now / ticksS 1

/-- A stamp of now (R552). -/
def State.stamp (s : State) : Stamp :=
  { opSeconds := s.opSeconds, cycles := s.milestone.cycles, time := s.stampTime }

/-! ### Milestone banks -/

/-- A saturating U32 sum. -/
def sat32 (n : Nat) : Nat := min n 0xFFFFFFFF

/-- One more sample in a bin of a histogram. -/
def MilestoneBank.sample (b : MilestoneBank) (item bin : Nat) : MilestoneBank :=
  { b with hist := Tab.update 0 b.hist (item * 16 + bin) (fun n => sat32 (n + 1)) }

/-- A value judged against an extreme (R551). -/
def MilestoneBank.extreme (b : MilestoneBank) (item : Nat) (v : Int) (at_ : Stamp) : MilestoneBank :=
  { b with ext := Tab.update none b.ext item (fun e =>
      match e with
      | none => some { min := v, minAt := at_, max := v, maxAt := at_ }
      | some x => some { min := if v < x.min then v else x.min, minAt := if v < x.min then at_ else x.minAt,
                         max := if x.max < v then v else x.max, maxAt := if x.max < v then at_ else x.maxAt }) }

/-- An event class with its new count (R551). -/
def MilestoneBank.event (b : MilestoneBank) (cls count : Nat) (at_ : Stamp) : MilestoneBank :=
  { b with cls := Tab.update none b.cls cls (fun e =>
      match e with
      | none => some { count := count, first := at_, last := at_ }
      | some x => some { x with count := count, last := at_ }) }

/-- The count of an event class. -/
def MilestoneBank.count (b : MilestoneBank) (cls : Nat) : Nat :=
  match Tab.get none b.cls cls with
  | none => 0
  | some x => x.count

/-- Merges the extremes of a pending bank (R554). -/
def mergeExtreme (a b : Option Extreme) : Option Extreme :=
  match a, b with
  | none, y => y
  | x, none => x
  | some x, some y =>
    some { min := if y.min < x.min then y.min else x.min, minAt := if y.min < x.min then y.minAt else x.minAt,
           max := if x.max < y.max then y.max else x.max, maxAt := if x.max < y.max then y.maxAt else x.maxAt }

/-- Merges an event class of a pending bank. -/
def mergeClass (a b : Option EventClass) : Option EventClass :=
  match a, b with
  | none, y => y
  | x, none => x
  | some x, some y => some { count := (x.count + y.count) % 2 ^ 32, first := x.first, last := y.last }

/-- The visible items with the pending bank merged in (R554). -/
def MilestoneBank.merge (a b : MilestoneBank) : MilestoneBank :=
  { hist := b.hist.foldl (fun t e => Tab.update 0 t e.1 (fun n => sat32 (n + e.2))) a.hist
    ext := b.ext.foldl (fun t e => Tab.update none t e.1 (fun x => mergeExtreme x e.2)) a.ext
    cls := b.cls.foldl (fun t e => Tab.update none t e.1 (fun x => mergeClass x e.2)) a.cls }

/-- Changes the bank that takes new samples: the pending one while frozen (R554). -/
def State.updBank (s : State) (f : MilestoneBank → MilestoneBank) : State :=
  if s.milestone.frozen then { s with milestone := { s.milestone with pendingBank := f s.milestone.pendingBank } }
  else { s with milestone := { s.milestone with visible := f s.milestone.visible } }

/-- The bank that takes new samples. -/
def State.bank (s : State) : MilestoneBank := if s.milestone.frozen then s.milestone.pendingBank else s.milestone.visible

/-- A Milestone entry: one event class counts one more (R551). What a U32 count reads past its end the spec does
not state: an open value (log 14). -/
def State.milestoneEntry (s : State) (cls : Nat) : State :=
  let n := s.bank.count cls + 1
  if n < 2 ^ 32 then s.updBank (fun b => b.event cls n s.stamp)
  else
    let (v, s) := s.drawBits 32
    s.updBank (fun b => b.event cls v.toNat s.stamp)

/-- The bin of a value on a scale of 16 bins of a width from a base; the first and last are open (R551). -/
def linearBin (base width v : Int) : Nat := (clampInt 0 15 ((v - base) / width)).toNat

/-- The bin of a duration: bin k covers [100 × 2^k, 100 × 2^(k+1)) µs (R551). -/
def durationBin (us : Nat) : Nat := min 15 (Nat.log2 (us / 100))

/-- A sample of a histogram. -/
def State.milestoneSample (s : State) (item bin : Nat) : State := s.updBank (fun b => b.sample item bin)

/-- A sample of an extreme. -/
def State.milestoneExtreme (s : State) (item : Nat) (v : Int) : State := s.updBank (fun b => b.extreme item v s.stamp)

/-- The shadow as a save, a journal entry or a home copy holds it (R553, R554): visible and pending together. -/
def State.milestoneHome (s : State) (seq : Nat) : MilestoneHome :=
  { seq := seq, bank := s.milestone.visible.merge s.milestone.pendingBank, since := s.milestone.since,
    opSeconds := s.opSeconds, cycles := s.milestone.cycles }

/-! ### Writing the journal -/

/-- The next number of the sequence counter (R537). -/
def State.nextSeq (s : State) : Nat × State := (s.store.seq, { s with store := { s.store with seq := s.store.seq + 1 } })

/-- Live entries have been copied to the spill partition: counted, a Milestone entry, and NAND blocks written (R539). -/
def State.noteSpill (s : State) (sp : List JEntry) : State :=
  let s := s.addRegAt Obj.journalSpilled 0 sp.length
  if sp.isEmpty then s
  else (s.nandWrite 1 (journalBytes sp) (journalBytes (s.store.spill.filter (·.live)))).milestoneEntry 0x8E

/-- Writes one journal entry (R538), spilling live entries at the tail where the ring is full (R539). -/
def State.journal (s : State) (d : JData) : State :=
  if s.unarmedBoot then s
  else
  let (n, s) := s.nextSeq
  let e : JEntry := { seq := n, time := s.stampTime, tickHi := s.now / 2 ^ 32, live := true, data := d }
  let (kept, sp) := makeRoom e.bytes (killOlder d.kind s.store.journal)
  State.noteSpill { s with store := { s.store with journal := kept ++ [e], spill := s.store.spill ++ sp,
                                                   spilled := s.store.spilled || !sp.isEmpty } } sp

/-! ### Stored writes -/

/-- An entry of the journal or the spill partition that holds a stored write not yet committed. -/
def JEntry.isStored (e : JEntry) : Bool := e.live && decide (e.data.kind = 5)

/-- The acknowledged stored writes not yet committed, oldest first: StorePending counts them (R520). -/
def State.storePending (s : State) : List JEntry := s.store.spill.filter JEntry.isStored ++ s.store.journal.filter JEntry.isStored

/-- Bytes of a stored write in the save shadow. -/
def JData.storedBytesLen : JData → Nat
  | .storedNum _ _ => 8 + Config.storedOverhead.val
  | .storedBytes _ v => v.length + Config.storedOverhead.val
  | _ => 0

/-- A further stored write fits item 8 of the save: 64 KiB (R94, R520). -/
def State.shadowHolds (s : State) (d : JData) : Bool :=
  decide ((s.storePending.map (fun e => e.data.storedBytesLen)).foldl (· + ·) 0 + d.storedBytesLen ≤ 65536)

/-- Sets an RWS number and journals it (R520). -/
def State.storeNum (s : State) (o : ObjDesc) (i : Nat) (v : Int) : State :=
  (s.setRegAt o i v).journal (.storedNum (regKey o i) v)

/-- Sets RWS bytes and journals them. -/
def State.storeOct (s : State) (o : ObjDesc) (i : Nat) (v : List Byte) : State :=
  (s.setOctAt o i v).journal (.storedBytes (regKey o i) v)

/-- The object of a key of the store. -/
def objOfKey (k : Nat) : Option ObjDesc := objTable.find? (fun o => o.addr = k / 2 ^ 32)

/-- The object of an address. -/
def objOf (addr : Nat) : Option ObjDesc := objTable.find? (fun o => o.addr = addr)

/-- One stored write laid over a stored set. -/
def StoredCopy.lay (c : StoredCopy) (d : JData) : StoredCopy :=
  match d with
  | .storedNum k v =>
    match objOfKey k with
    | some o => { c with nums := Tab.put o.dflt c.nums k v }
    | none => c
  | .storedBytes k v =>
    match objOfKey k with
    | some o => { c with octets := Tab.put (octetDefault o) c.octets k v }
    | none => c
  | _ => c

/-- The newest valid copy of the stored set (R540). -/
def State.newestCopy (s : State) : StoredCopy :=
  let empty : StoredCopy := { gen := 0, nums := [], octets := [] }
  match s.store.copy0, s.store.copy1 with
  | none, none => empty
  | some a, none => a
  | none, some b => b
  | some a, some b => if a.gen < b.gen then b else a

/-- The stored set with every later stored write laid over it (R540). -/
def State.storedSet (s : State) : StoredCopy :=
  let c := s.newestCopy
  (s.storePending.filter (fun e => c.gen < e.seq)).foldl (fun c e => c.lay e.data) c

end Sys2Proof.Machine
end

