-- ==== Sys2Proof/Machine/Operands.lean ====
section
/-!
DEFINITION. Machine/Operands.lean: the operand forms of a dictionary request: which session asks, which
object and window instance it names, the checks of R503 to R514 in one order (log 15), how a value is
judged against its type and range (R506, R507), and how the answer goes back (R500, R523).
-/
namespace Sys2Proof.Machine

/-! ### Abort codes (R534) -/

def abortTimeout : Abort := 0x05040000
def abortAccess : Abort := 0x06010000
def abortWriteOnly : Abort := 0x06010001
def abortReadOnly : Abort := 0x06010002
def abortNoObject : Abort := 0x06020000
def abortNotMappable : Abort := 0x06040041
def abortNotStored : Abort := 0x06060000
def abortLength : Abort := 0x06070010
def abortNoSub : Abort := 0x06090011
def abortRange : Abort := 0x06090030
def abortSegment : Abort := 0x08000000
def abortBusy : Abort := 0x08000020
def abortUnavailable : Abort := 0x08000022

/-! ### Values -/

/-- The value lies in the type (R506). -/
def typeHolds (t : ObjType) (size : Nat) (v : Int) : Bool :=
  match t with
  | .bool => decide (v = 0 ∨ v = 1)
  | .i8 | .i16 | .i32 | .i64 | .q16 | .time64 =>
    decide (-((256 ^ size : Nat) : Int) / 2 ≤ v) && decide (v < ((256 ^ size : Nat) : Int) / 2)
  | .u8 | .u16 | .u32 | .u64 => decide (0 ≤ v) && decide (v < (256 ^ size : Nat))
  -- IEEE 754 binary32: exponent field of ones is NaN or an infinity
  | .f32 => decide (0 ≤ v) && decide (v < 2 ^ 32) && decide (v / 2 ^ 23 % 256 ≠ 255)
  | .str | .octets | .domain => true

/-- The value lies in the range its row states (R507). -/
def rangeHolds (r : ObjRange) (v : Int) : Bool :=
  match r with
  | .any => true
  | .span lo hi => decide (lo ≤ v ∧ v ≤ hi)
  | .oneOf l => l.contains v
  | .spanOr lo hi x => decide ((lo ≤ v ∧ v ≤ hi) ∨ v = x)
  | .steps lo hi st => decide (lo ≤ v ∧ v ≤ hi ∧ (v - lo) % st = 0)
  | .zeroOrSteps lo hi st => decide (v = 0 ∨ (lo ≤ v ∧ v ≤ hi ∧ v % st = 0))

/-- The type is signed. -/
def typeSigned : ObjType → Bool
  | .i8 | .i16 | .i32 | .i64 | .q16 | .time64 => true
  | _ => false

/-- The value that the bytes of a request spell for a number object. -/
def decodeValue (o : ObjDesc) (data : List Byte) : Int :=
  if typeSigned o.ty then leSigned data else (leNat data : Int)

/-- The bytes of a number object's value. -/
def encodeValue (o : ObjDesc) (v : Int) : List Byte := leInt o.size v

/-- The type is a number of fixed size. -/
def typeIsNumber : ObjType → Bool
  | .str | .octets | .domain => false
  | _ => true

/-- OCTETS objects whose length their own rule judges (R296, R467). -/
def variableOctets (o : ObjDesc) : Bool :=
  decide (o.addr = Obj.claimRequest.addr) || decide (o.addr = Obj.groupTarget.addr)

/-- The length of a write against the type (R507, R515): OCTETS must have the stated size, a STR at most its maximum and
only bytes 0x20 to 0x7E, a DOMAIN at most its maximum. -/
def lengthCheck (o : ObjDesc) (data : List Byte) : Option Abort :=
  match o.ty with
  | .octets => if variableOctets o || decide (data.length = o.size) then none else some abortLength
  | .str =>
    if o.size < data.length then some abortLength
    else if data.all (fun b => decide (0x20 ≤ b.toNat ∧ b.toNat ≤ 0x7E)) then none else some abortRange
  | .domain => if o.size < data.length then some abortRange else none
  | _ => if data.length = o.size then none else some abortLength

/-- The module of a loop admits a value; a loop that no module serves admits any. -/
def State.loopAllows (s : State) (n : Nat) (p : LoopDesc → Bool) : Bool :=
  (s.blv.programs.flatMap (·.loops)).all (fun d => decide (d.loop ≠ n) || p d)

/-- Ranges that depend on another object, judged against its value now (R507). Instance i of object o. -/
def State.rangeExtra (s : State) (o : ObjDesc) (i : Nat) (v : Int) : Bool :=
  if o.addr = Obj.separationCaution.addr then decide (s.reg Obj.separationMin ≤ v)
  else if o.addr = Obj.separationStopHorizon.addr then decide (v ≤ s.reg Obj.separationLookAhead)
  -- at least one upper-band component stays enabled (R118): SignalIds 0, 1, 2, 7, 8, 15, 16, 17, 22, 23, 24, 29
  else if o.addr = Obj.signalEnable.addr then decide (v.toNat &&& 0x21C38187 ≠ 0)
  -- the port range and the setpoint range of a loop are the image's (R223)
  else if o.addr = Obj.outMin.addr then s.loopAllows i (fun d => decide (d.portMin ≤ v ∧ v ≤ d.portMax))
  else if o.addr = Obj.outMax.addr then decide (s.regAt Obj.outMin i ≤ v) && s.loopAllows i (fun d => decide (d.portMin ≤ v ∧ v ≤ d.portMax))
  else if o.addr = Obj.setpoint.addr then s.loopAllows i (fun d => decide (d.setMin ≤ v ∧ v ≤ d.setMax))
  else if o.addr = Obj.safeValue.addr then decide (s.regAt Obj.outMin i ≤ v ∧ v ≤ s.regAt Obj.outMax i)
  else if o.addr = Obj.limitMin.addr then decide (v ≤ s.regAt Obj.limitMax i)
  else if o.addr = Obj.velocityTarget.addr then
    decide (-(s.regAt Obj.maxVelocity i * 1000) ≤ v ∧ v ≤ s.regAt Obj.maxVelocity i * 1000)
  -- a member of a group takes its commands from the dictionary (R466)
  else if o.addr = Obj.commandSource.addr then decide (v = 0) || !(List.range 8).any (fun g => bit (s.regNAt Obj.groupMembers g) i)
  else if o.addr = Obj.groupMembers.addr then decide (popcount v.toNat 16 ≤ 8)
  -- LookAheadHorizon holds every enabled section's delays (R227)
  else if o.addr = Obj.lookAheadHorizon.addr then
    (List.range 1024).all (fun j => decide (s.regAt Obj.sectionEnable j ≠ 1) ||
      decide (max (s.regAt Obj.sectionOnDelay j) (s.regAt Obj.sectionOffDelay j) * 100000
        + (5 + (2 * s.reg Obj.chainLength + 1) * s.reg Obj.chainDivider) * 10 + 1500000 ≤ v * 1000000))
  -- bits [15:14] the kind: none, product 0-3, section 0-1,023 (R442)
  else if o.addr = Obj.inputBinding.addr then
    decide (v / 1024 = 0) || decide (v / 1024 = 16 ∧ v % 1024 ≤ 3) || decide (v / 1024 = 32)
  else if o.addr = Obj.asAppliedExported.addr then decide (s.reg Obj.asAppliedExported ≤ v ∧ v ≤ s.reg Obj.asAppliedNewest)
  else if o.addr = Obj.asAppliedCursor.addr then decide (s.reg Obj.asAppliedOldest ≤ v ∧ v ≤ s.reg Obj.asAppliedNewest)
  else true

/-! ### Windows -/

/-- The window instance that a request names: the session's cursor (R510, R513). -/
def State.instanceOf (s : State) (q : Sess) (o : ObjDesc) : Nat :=
  let c := (Tab.get 0 (s.session q).cursors o.windowOf).toNat
  if o.windowOf = 0 then 0
  -- a gate entry of the port at the port's cursor (R432)
  else if o.addr = Obj.gateEntry.addr then s.cursor q Obj.ethPortCursor * 256 + c
  -- bits [9:0] select the section (R226)
  else if o.windowOf = Obj.sectionCursor.addr ∨ o.windowOf = Obj.meterSectionCursor.addr then c % 1024
  else c

/-! ### Checks -/

/-- The session exists (R510): the mailbox's from BOOT, CAN0's while its node serves SDO (R428), a TCP connection's, the
manager's at a linked worker, the base's at a connected rover. -/
def State.sessionOpen (s : State) (q : Sess) : Bool :=
  match q with
  | .host | .tcp _ => (s.session q).open_
  | .can0 => (s.session q).open_ && (decide (s.net.open_.nmt = .preOperational) || decide (s.net.open_.nmt = .operational))
  | .baseLink _ => s.operating && s.isWorker && bit s.fleet.linked 0
  | .radio _ => s.hasRole .rover && decide (s.radio.conn = .connected)

/-- A request reaches the dictionary: the block runs and the session exists (R510); a deposed unit applies no input (R592), and a
STANDBY unit serves the host port and CAN0 alone (R597). -/
def State.reaches (s : State) (q : Sess) : Bool :=
  s.running && s.sessionOpen q && !s.zheoc.deposed && (decide (s.mode.current ≠ .standby) || decide (q = .host) || decide (q = .can0))

/-- The object exists in the role of this run (R28, R505, R530). -/
def State.inRole (s : State) (o : ObjDesc) : Bool :=
  match s.mode.role with
  | none => false
  | some r => bit o.roles (roleBit r)

/-- What BOOT serves: the host's read of index 0x2000 alone (R501, R510). -/
def State.bootServes (s : State) (o : ObjDesc) (write : Bool) : Bool :=
  decide (s.mode.current ≠ .boot) || (!write && decide (o.idx = 0x2000))

/-- The checks of a request before it acts: mode, role, the objects a STANDBY unit may write (R597), level, access class; none
where it may act. -/
def State.objCheck (s : State) (q : Sess) (o : ObjDesc) (write : Bool) : Option Abort :=
  if !s.bootServes o write then some abortUnavailable
  else if s.mode.current ≠ .boot ∧ !s.inRole o then some abortUnavailable
  else if s.mode.current = .standby ∧ write ∧ o.idx ≠ 0xD000 ∧ o.idx ≠ 0x2010 then some abortAccess
  else if levelCode (s.level q) < levelCode o.lvl then some abortAccess
  else if write then
    match o.acc with
    | .const | .ro => some abortReadOnly
    | _ => none
  else if o.acc = .wo then some abortWriteOnly
  else none

/-- The value of a write is in the object's type and range. -/
def State.valueOk (s : State) (o : ObjDesc) (i : Nat) (v : Int) : Bool :=
  typeHolds o.ty o.size v && rangeHolds o.rng v && s.rangeExtra o i v

/-! ### Answers -/

/-- Writes bytes from an offset on into the mailbox's data. -/
def putBytes (t : Tab Byte) : Nat → List Byte → Tab Byte
  | _, [] => t
  | k, b :: r => putBytes (Tab.put 0 t k b) (k + 1) r

/-- The tag a request carries when its command names none: the mailbox's own for the host. -/
def State.ownTag (s : State) (q : Sess) : Nat :=
  match q with
  | .host => s.mbox.tag
  | _ => 0

/-- A request to an object is in service: the one taken from the session's queue, else one that arrives and is applied at this
instant. -/
def State.serve (s : State) (q : Sess) (op : Nat) (o : ObjDesc) (data : List Byte) : State :=
  if (s.session q).serving.isSome then s
  else s.updSession q (fun x => { x with serving := some { op := op, tag := s.ownTag q, addr := o.addr, more := false, base := 255, offset := 0,
                                                           data := data, since := s.now } })

/-- An answer is counted with its answer time (R518, R532, R551). -/
def State.countAnswer (s : State) (since : Nat) : State :=
  let ms := (s.now - since) / ticksMs 1
  ((s.incr Obj.dictRequests).raiseReg Obj.dictLatencyMax ms).milestoneSample 9 (linearBin 0 15 ms)

/-- An answer goes to its session: through the mailbox with MBOX_DONE (R501), or as a message (R523); the session's silence starts
anew (R510). -/
def State.deliver (s : State) (q : Sess) (r : Request) (abort : Abort) (data : List Byte) (more : Bool) : State :=
  match q with
  | .host =>
    ({ s.updSession q (fun x => { x with lastRequest := s.now, serving := none }) with
        mbox := { s.mbox with state := .done, respTag := r.tag, abort := abort, len := data.length, more := more,
                              data := putBytes s.mbox.data 0 data } } : State).raiseIrq irqMboxDone
  | q => s.updSession q (fun x =>
      { x with lastRequest := s.now, serving := none
               reply := some { op := r.op, tag := r.tag, addr := r.addr, offset := r.offset, abort := abort, data := data, more := more } })

/-- The answer of the request that the session has in service. -/
def State.answer (s : State) (q : Sess) (tag : Nat) (abort : Abort) (data : List Byte) (more : Bool) : State :=
  let r := (s.session q).serving.getD { op := 0, tag := tag, addr := 0, more := false, base := 255, offset := 0, data := [], since := s.now }
  (s.countAnswer r.since).deliver q r abort data more

/-- A dictionary write of a number that has a meaning of its own: the checks, the range, then the action, and
the answer. -/
def State.writeCommand (s : State) (q : Sess) (o : ObjDesc) (v : Int) (act : State → Except Abort State) : State :=
  if !s.reaches q then s
  else
    let s := s.serve q 2 o (encodeValue o v)
    match s.objCheck q o true with
    | some a => s.answer q (s.ownTag q) a [] false
    | none =>
      if !s.valueOk o (s.instanceOf q o) v then s.answer q (s.ownTag q) abortRange [] false
      else match act s with
        | .error a => s.answer q (s.ownTag q) a [] false
        | .ok s' => s'.answer q (s.ownTag q) 0 [] false

/-- A dictionary write of bytes that has a meaning of its own. -/
def State.writeBytesCommand (s : State) (q : Sess) (o : ObjDesc) (data : List Byte) (act : State → Except Abort State) : State :=
  if !s.reaches q then s
  else
    let s := s.serve q 2 o data
    match s.objCheck q o true with
    | some a => s.answer q (s.ownTag q) a [] false
    | none =>
      match lengthCheck o data with
      | some a => s.answer q (s.ownTag q) a [] false
      | none => match act s with
        | .error a => s.answer q (s.ownTag q) a [] false
        | .ok s' => s'.answer q (s.ownTag q) 0 [] false

/-- A dictionary read that has a meaning of its own. -/
def State.readCommand (s : State) (q : Sess) (o : ObjDesc) (act : State → Except Abort (List Byte × State)) : State :=
  if !s.reaches q then s
  else
    let s := s.serve q 1 o []
    match s.objCheck q o false with
    | some a => s.answer q (s.ownTag q) a [] false
    | none => match act s with
        | .error a => s.answer q (s.ownTag q) a [] false
        | .ok (d, s') => s'.answer q (s.ownTag q) 0 d false

/-- Applies a number write by access class: RW at once, RWS stored before it is acknowledged (R508, R520). -/
def State.applyNum (s : State) (o : ObjDesc) (i : Nat) (v : Int) : Except Abort State :=
  match o.acc with
  | .rws => if s.shadowHolds (.storedNum (regKey o i) v) then .ok (s.storeNum o i v) else .error abortNotStored
  | _ => .ok (s.setRegAt o i v)

/-- Applies a bytes write by access class. -/
def State.applyOct (s : State) (o : ObjDesc) (i : Nat) (v : List Byte) : Except Abort State :=
  match o.acc with
  | .rws => if s.shadowHolds (.storedBytes (regKey o i) v) then .ok (s.storeOct o i v) else .error abortNotStored
  | _ => .ok (s.setOctAt o i v)

end Sys2Proof.Machine
end

