-- ==== Sys2Proof/Machine/KerbOps.lean ====
section
/-!
DEFINITION. Machine/KerbOps.lean: sections and chain as other blocks act on them: slots (R241, R242), OFF at
the earliest slot (R255), HALT and SNAPSHOT entry (R251), chain restart (R247).
-/
namespace Sys2Proof.Machine

/-- Changes the Kerb engine. -/
def State.updKerb (s : State) (f : KerbState → KerbState) : State := { s with kerb := f s.kerb }

/-- Changes the chain. -/
def State.updChain (s : State) (f : Chain → Chain) : State := s.updKerb (fun k => { k with chain := f k.chain })

/-- The objects of a product. -/
def productRateObj : Nat → ObjDesc
  | 0 => Obj.productRate0 | 1 => Obj.productRate1 | 2 => Obj.productRate2 | _ => Obj.productRate3
def productTargetObj : Nat → ObjDesc
  | 0 => Obj.productTarget0 | 1 => Obj.productTarget1 | 2 => Obj.productTarget2 | _ => Obj.productTarget3
def productWidthObj : Nat → ObjDesc
  | 0 => Obj.productOpenWidth0 | 1 => Obj.productOpenWidth1 | 2 => Obj.productOpenWidth2 | _ => Obj.productOpenWidth3

/-- The running state of a section. -/
def State.sec (s : State) (i : Nat) : Section := Tab.get Section.idle s.kerb.sections i

/-- Puts a section's running state back. -/
def State.setSec (s : State) (i : Nat) (x : Section) : State :=
  s.updKerb (fun k => { k with sections := Tab.put Section.idle k.sections i x })

/-- The sections that are not idle. -/
def State.busySections (s : State) : List Nat := s.kerb.sections.keys

/-- Slots are the 100 µs intervals of receiver time (R241). -/
def slotOf (t : Int) : Nat := (t / 100000).toNat

/-- The slot of now. -/
def State.slotNow (s : State) : Nat := slotOf s.time64

/-- The earliest slot whose issue instant, the start of the slot before it, is at or after t (R242). -/
def earliestSlot (t : Int) : Nat := (-(-t / 100000)).toNat + 1

/-- The section is enabled. -/
def State.secEnabled (s : State) (i : Nat) : Bool := decide (s.regAt Obj.sectionEnable i = 1)

/-- The chain bit of a section. -/
def State.secBit (s : State) (i : Nat) : Nat := s.regNAt Obj.sectionChainBit i

/-- The enabled sections. -/
def State.enabledSections (s : State) : List Nat := (List.range 1024).filter s.secEnabled

/-- The mask of all OFF: the chain bits of enabled sections whose active level is 0 stand at 1 (R226, R228). -/
def State.offImage (s : State) : Nat :=
  (s.enabledSections.filter (fun i => decide (s.regAt Obj.sectionActiveLevel i = 0))).foldl (fun m i => m ||| 2 ^ s.secBit i) 0

/-- The value of a section's chain bit in an image that means ON or OFF. -/
def State.imageWith (s : State) (image i : Nat) (on : Bool) : Nat :=
  let b := 2 ^ s.secBit i
  let high := on == decide (s.regAt Obj.sectionActiveLevel i = 1)
  if high then image ||| b else if image.testBit (s.secBit i) then image - b else image

/-- The section has been told ON by the last switch issued or captured. -/
def Section.commanded (x : Section) : Bool :=
  match x.issued with
  | some (v, _) => v
  | none => x.captured

/-- The engine schedules OFF for the earliest slot it can issue, without delay compensation (R231, R255). -/
def State.planOff (s : State) (i : Nat) : State :=
  let x := s.sec i
  if x.commanded then s.setSec i { x with plan := some (false, earliestSlot s.time64) }
  else s.setSec i { x with plan := none }

/-- The same for every section that a condition picks. -/
def State.planOffWhere (s : State) (p : Nat → Bool) : State := (s.busySections.filter p).foldl State.planOff s

/-- Ends the applied interval of a section at a time (R244). -/
def State.closeSpan (s : State) (i : Nat) (t : Int) : State :=
  let x := s.sec i
  match x.from_ with
  | none => s
  | some a =>
    let e := match x.till with
      | none => t
      | some y => min y t
    let s := s.setSec i { x with from_ := none, till := none }
    if a < e then s.updKerb (fun k => { k with spans := k.spans ++ [{ sec := i, start := a, stop := e }] }) else s

/-- Every section to OFF at once, its interval ended at now: the deassertion edge of SEC_OE_N (R244, R253). -/
def State.allSectionsOff (s : State) : State :=
  let t := s.time64
  s.busySections.foldl (fun s i => (s.closeSpan i t).setSec i Section.idle) s

/-- The chain controller drops its entries and the state image becomes all OFF (R248, R251). -/
def State.chainOff (s : State) : State :=
  let image := s.offImage
  s.updChain (fun c => { c with queue := [], image := image, allOff := true })

/-- SEC_OE_N is deasserted. -/
def State.deassertOe (s : State) : State := s.updChain (fun c => { c with oe := false })

/-- Entry to HALT (R251, R253): entries discarded, image all OFF, SEC_OE_N deasserted, every section OFF. -/
def State.kerbHalt (s : State) : State := s.deassertOe.chainOff.allSectionsOff

/-- The chain restarts as on entry to ROVER (R247): SEC_OE_N deasserted, nothing captured yet. -/
def State.chainRestart (s : State) : State :=
  s.deassertOe.chainOff.updChain (fun c => { c with running := decide (s.reg Obj.chainLength ≠ 0), captures := 0, shifted := 0, shiftedOff := false })

/-- ChainLatency in CK_IO cycles: 5 + (2N + 1)d (R246). -/
def State.chainLatency (s : State) : Nat := 5 + (2 * s.regN Obj.chainLength + 1) * s.regN Obj.chainDivider

end Sys2Proof.Machine
end

