-- ==== Sys2Proof/Machine/Lanes.lean ====
section
/-!
DEFINITION. Machine/Lanes.lean: the lanes of Boulevard (R184): what each instruction class does to a lane and what it charges (R191,
R192), and the two number formats (R193 to R198).
-/
namespace Sys2Proof.Machine

/-! ### Numbers (R193 to R195, R202) -/

/-- COEF of an entry: a signed 32-bit value. -/
def coefValue (e : Nat) : Int :=
  let v := bits e 0 32
  if v < 2 ^ 31 then v else (v : Int) - 2 ^ 32

/-- A product with a coefficient: the 64-bit product of a 32-bit operand, rounded and shifted right by SHIFT (R193). -/
def coefProduct (e : Nat) (x : BitVec 32) : Int :=
  let sh := bits e 32 5
  (x.toInt * coefValue e + (if sh = 0 then 0 else 2 ^ (sh - 1))) / 2 ^ sh

/-- A SAT write-back (R194). -/
def satWord (v : Int) : Int := clampInt (-2147483648) 2147483647 v

/-- The value fits a 32-bit register. -/
def fitsWord (v : Int) : Bool := decide (satWord v = v)

/-- A 32-bit register that holds a value saturated. -/
def satBits (v : Int) : BitVec 32 := BitVec.ofInt 32 (satWord v)

/-- A quotient by a power of two rounded to nearest, ties to even. -/
def roundEven (v : Int) (e : Nat) : Int :=
  let p : Int := 2 ^ e
  let q := v / p
  let r := v % p
  if 2 * r < p then q else if p < 2 * r then q + 1 else if q % 2 = 0 then q else q + 1

/-- A number scaled by a power of two: exact upwards, rounded to nearest, ties to even, downwards. -/
def scaleBy (v e : Int) : Int := if 0 ≤ e then v * 2 ^ e.toNat else roundEven v (-e).toNat

/-- Bits of a magnitude: the least n with |v| below 2^n. -/
def bitLength (v : Int) : Nat := if v = 0 then 0 else Nat.log2 v.natAbs + 1

/-- A word tagged for block floating point: mantissa in [31:8], exponent in [7:0] (R195). -/
def bfpPack (m e : Int) : BitVec 32 := BitVec.ofInt 24 m ++ BitVec.ofInt 8 e

/-- The mantissa of a tagged word. -/
def bfpMantissa (w : BitVec 32) : Int := (w.extractLsb' 8 24).toInt

/-- The exponent of a tagged word. -/
def bfpExponentOf (w : BitVec 32) : Int := (w.extractLsb' 0 8).toInt

/-- The shared output exponent of values held at a scale (R197): the least at which every one fits a 24-bit mantissa. -/
def sharedExponent (scale : Int) (l : List Int) : Int :=
  let e := max (-128) (scale + (((l.map bitLength).foldl max 0 : Nat) : Int) - 23)
  -- a magnitude that rounds up to 2^23 takes one exponent more
  if l.any (fun v => decide (2 ^ 23 ≤ (scaleBy v (scale - e)).natAbs)) then e + 1 else e

/-- Values held at a scale as words of one stage (R195, R197), and whether one was clamped at exponent +127. -/
def bfpWords (scale : Int) (l : List Int) : List (BitVec 32) × Bool :=
  let e := sharedExponent scale l
  if e ≤ 127 then (l.map (fun v => bfpPack (scaleBy v (scale - e)) e), false)
  else
    let m := l.map (fun v => scaleBy v (scale - 127))
    (m.map (fun v => bfpPack (clampInt (-8388607) 8388607 v) 127), true)

/-- A register: the block-floating tag and the word. -/
abbrev LaneWord := Bool × BitVec 32

/-- A register's value as a number and an exponent of two. -/
def wordParts (w : LaneWord) : Int × Int := if w.1 then (bfpMantissa w.2, bfpExponentOf w.2) else (w.2.toInt, 0)

/-- The value of a register in fixed point, before saturation. -/
def wordValue (w : LaneWord) : Int := scaleBy (wordParts w).1 (wordParts w).2

/-- A tagged word whose value does not convert exactly to 32-bit fixed point (R196). -/
def inexact (w : LaneWord) : Bool :=
  w.1 && !(fitsWord (wordValue w) && (decide (0 ≤ (wordParts w).2) || decide ((wordParts w).1 % 2 ^ (-(wordParts w).2).toNat = 0)))

/-- Ground speed in Q16.16 m/s from VEL_N and VEL_E in 0.1 mm/s (R199). -/
def groundSpeed (north east : Int) : Nat := Config.root (north * north + east * east).toNat * 65536 / 10000

/-! ### Code (R191, R192) -/

/-- The instructions, one after the other, with REPEAT carried out; fuel bounds their number. -/
def unrolled : Nat → List BlvInstr → List BlvInstr
  | 0, _ => []
  | _, [] => []
  | f + 1, .repeat_ n b :: t => unrolled f ((List.replicate n (t.take b)).flatten ++ t.drop b)
  | f + 1, i :: t => i :: unrolled f t

/-- Cycles charged by the class of an instruction (R192); REPEAT charges 1 and its block by what follows. -/
def charge : BlvInstr → Nat
  | .cordic _ _ _ _ => 16
  | .div _ _ _ => 12
  | .region => 6
  | .stage _ _ | .out _ _ => 0
  | _ => 1

/-- Cycles of code without its fallback windows; fuel bounds its length. -/
def codeCycles : Nat → List BlvInstr → Nat
  | 0, _ => 0
  | _, [] => 0
  | f + 1, .repeat_ n b :: t => 1 + n * codeCycles f (t.take b) + codeCycles f (t.drop b)
  | f + 1, i :: t => charge i + codeCycles f t

/-- The charged cycles of code with the fallback window of every eligible stage (R191, R196): 2 × its fixed-point cycles + 4. -/
def codeCount : Nat → List BlvInstr → Nat
  | 0, _ => 0
  | _, [] => 0
  | f + 1, .repeat_ n b :: t => 1 + n * codeCount f (t.take b) + codeCount f (t.drop b)
  | f + 1, .stage true b :: t => codeCount f t + 2 * codeCycles f (t.take b) + 4
  | f + 1, i :: t => charge i + codeCount f t

/-! ### Fixed point (R193, R194, R198) -/

/-- What a lane's program reads: its ports, its state words, its gains for the region. -/
structure LaneInputs where
  ports : List Int
  words : Tab LaneWord
  gains : List Nat
  deriving DecidableEq, Repr

/-- A lane at work: its registers and accumulators, the saturation flag of the stage, the state words staged, what OUT gave, and what
happened to stages. -/
structure LaneRun where
  lane : Lane
  words : Tab LaneWord
  result : Option (Int × Int)
  sat : Bool
  fell : Bool
  clamped : Bool
  lost : Bool
  deriving DecidableEq, Repr

/-- A register of a lane. -/
def Lane.reg (x : Lane) (r : Fin 64) : LaneWord := Tab.get (false, 0) x.regs r.val

/-- A register written. -/
def LaneRun.put (x : LaneRun) (r : Fin 64) (w : LaneWord) : LaneRun :=
  { x with lane := { x.lane with regs := Tab.put (false, 0) x.lane.regs r.val w } }

/-- A register as a fixed-point operand: a tagged word converts with the saturation of R194 (R198). -/
def LaneRun.fixed (x : LaneRun) (r : Fin 64) : BitVec 32 := satBits (wordValue (x.lane.reg r))

/-- An accumulator. -/
def LaneRun.acc (x : LaneRun) (second : Bool) : BitVec 72 := if second then x.lane.acc1 else x.lane.acc0

/-- An accumulator written. -/
def LaneRun.setAcc (x : LaneRun) (second : Bool) (v : BitVec 72) : LaneRun :=
  { x with lane := if second then { x.lane with acc1 := v } else { x.lane with acc0 := v } }

/-- A fixed-point result written with a SAT write-back: the flag of the stage is set where it saturates (R194). -/
def LaneRun.putSat (x : LaneRun) (r : Fin 64) (v : Int) : LaneRun := { x.put r (false, satBits v) with sat := x.sat || !fitsWord v }

/-- Integer arithmetic on registers wraps at 32 bits. -/
def aluWord (op : BlvOp) (a b : BitVec 32) : BitVec 32 :=
  match op with
  | .add => a + b
  | .sub => a - b
  | .and => a &&& b
  | .or => a ||| b
  | .xor => a ^^^ b

/-- One instruction on one lane, in fixed point. Every lane carries it out: a condition is a lane-wise select (R184). -/
def laneFixed (env : LaneInputs) (x : LaneRun) : BlvInstr → LaneRun
  | .load d (.port k) => x.put d (false, satBits (env.ports.getD k 0))
  | .load d (.state k) => x.put d (Tab.get (false, 0) env.words k)
  | .load d (.gain k) => x.put d (false, BitVec.ofInt 32 (coefValue (env.gains.getD k 0)))
  | .store a w => { x with words := Tab.put (false, 0) x.words w (x.lane.reg a) }
  | .mul c a k => x.setAcc c (BitVec.ofInt 72 (coefProduct (env.gains.getD k 0) (x.fixed a)))
  | .mac c a k => x.setAcc c (x.acc c + BitVec.ofInt 72 (coefProduct (env.gains.getD k 0) (x.fixed a)))
  | .alu op d a b => x.put d (false, aluWord op (x.fixed a) (x.fixed b))
  | .neg d a => x.put d (false, -x.fixed a)
  | .abs d a => x.put d (false, if (x.fixed a).toInt < 0 then -x.fixed a else x.fixed a)
  | .accAdd c m a => x.setAcc c (if m then x.acc c - (x.fixed a).signExtend 72 else x.acc c + (x.fixed a).signExtend 72)
  | .shift d a n => x.putSat d (scaleBy (x.fixed a).toInt n)
  | .sat d c => x.putSat d (x.acc c).toInt
  | .conv d a float => if float then x.put d (true, ((bfpWords 0 [wordValue (x.lane.reg a)]).1.headD 0)) else x.putSat d (wordValue (x.lane.reg a))
  | .cmp d a b => x.put d (false, if (x.fixed a).toInt < (x.fixed b).toInt then 1 else 0)
  | .select d c a b => x.put d (if x.fixed c = 0 then x.lane.reg b else x.lane.reg a)
  | .cordic op d a b => x.put d (false, Config.cordic op (x.fixed a) (x.fixed b))
  | .div d a b => x.put d (false, Config.laneDivide (x.fixed a) (x.fixed b))
  | .out e p => { x with result := some (wordValue (x.lane.reg e), wordValue (x.lane.reg p)) }
  | .region | .repeat_ _ _ | .wait _ | .stage _ _ => x

/-! ### Block floating point (R196, R197) -/

/-- Registers that an instruction reads. -/
def readsOf : BlvInstr → List (Fin 64)
  | .store a _ | .mul _ a _ | .mac _ a _ | .neg _ a | .abs _ a | .accAdd _ _ a | .shift _ a _ | .conv _ a _ => [a]
  | .alu _ _ a b | .cmp _ a b | .cordic _ _ a b | .div _ a b | .out a b => [a, b]
  | .select _ c a b => [c, a, b]
  | _ => []

/-- The register that an instruction writes. -/
def writeOf : BlvInstr → Option (Fin 64)
  | .load d _ | .alu _ d _ _ | .neg d _ | .abs d _ | .shift d _ _ | .sat d _ | .conv d _ _ | .cmp d _ _ | .select d _ _ _ | .cordic _ d _ _ | .div d _ _ => some d
  | _ => none

/-- A lane in a fallback: registers and accumulators as numbers at one scale. -/
structure FloatRun where
  regs : Tab Int
  acc0 : Int
  acc1 : Int
  deriving DecidableEq, Repr

/-- A register of a fallback. -/
def FloatRun.get (x : FloatRun) (r : Fin 64) : Int := Tab.get 0 x.regs r.val

/-- A register of a fallback written. -/
def FloatRun.put (x : FloatRun) (r : Fin 64) (v : Int) : FloatRun := { x with regs := Tab.put 0 x.regs r.val v }

/-- The exponent at which the largest operand has its top bit in mantissa bit 22 (R197). -/
def alignExponent (l : List LaneWord) : Int :=
  (l.filter (fun w => decide ((wordParts w).1 ≠ 0))).foldl (fun e w => max e ((bitLength (wordParts w).1 : Int) + (wordParts w).2 - 23)) (-151)

/-- An operand as a 24-bit mantissa at the aligned exponent. -/
def aligned (e : Int) (w : LaneWord) : Int := scaleBy (wordParts w).1 ((wordParts w).2 - e)

/-- A coefficient of 24 bits: its value is the number over 2^31 (R193, R197). -/
def coefMantissa (e : Nat) : Int :=
  let c := coefValue e
  let k : Int := bitLength c - 23
  (if 0 < k then scaleBy (scaleBy c (-k)) k else c) * 2 ^ (31 - bits e 32 5)

/-- A scaled sum chosen by its accumulator. -/
def FloatRun.add (x : FloatRun) (second : Bool) (v : Int) : FloatRun :=
  if second then { x with acc1 := x.acc1 + v } else { x with acc0 := x.acc0 + v }

/-- One instruction of a fallback: numbers at scale e, a product at the same scale after the 24 by 24 bits (R197). -/
def laneFloat (env : LaneInputs) (e : Int) (x : FloatRun) : BlvInstr → FloatRun
  | .load d (.port k) => x.put d (scaleBy (satWord (env.ports.getD k 0)) (-e))
  | .load d (.state k) => x.put d (scaleBy (wordParts (Tab.get (false, 0) env.words k)).1 ((wordParts (Tab.get (false, 0) env.words k)).2 - e))
  | .load d (.gain k) => x.put d (scaleBy (coefValue (env.gains.getD k 0)) (-e))
  | .mul c a k => (if c then { x with acc1 := 0 } else { x with acc0 := 0 }).add c (x.get a * coefMantissa (env.gains.getD k 0) / 2 ^ 31)
  | .mac c a k => x.add c (x.get a * coefMantissa (env.gains.getD k 0) / 2 ^ 31)
  | .alu .add d a b => x.put d (x.get a + x.get b)
  | .alu .sub d a b => x.put d (x.get a - x.get b)
  | .neg d a => x.put d (-x.get a)
  | .abs d a => x.put d (x.get a).natAbs
  | .accAdd c m a => x.add c (if m then -x.get a else x.get a)
  | .shift d a n => x.put d (scaleBy (x.get a) n)
  | .sat d c => x.put d (if c then x.acc1 else x.acc0)
  | .conv d a _ => x.put d (x.get a)
  | .cmp d a b => x.put d (if x.get a < x.get b then scaleBy 1 (-e) else 0)
  | .select d c a b => x.put d (if x.get c = 0 then x.get b else x.get a)
  | .alu op d a b => x.put d (Config.floatLogic (match op with | .and => 0 | .or => 1 | _ => 2) e (x.get a) (x.get b))
  | .cordic op d a b => x.put d (Config.floatCordic op e (x.get a) (x.get b))
  | .div d a b => x.put d (Config.floatDivide e (x.get a) (x.get b))
  | _ => x

/-- The operands of a stage: the registers that its instructions read. -/
def stageOperands (body : List BlvInstr) : List (Fin 64) := body.flatMap readsOf

/-- A stage executed in block floating point (R196, R197): its outputs are tagged and share one exponent. Numbers are held 40 bits below
the aligned exponent, so that only the mantissas round. -/
def runFloat (env : LaneInputs) (body : List BlvInstr) (x : LaneRun) : LaneRun :=
  let ops := stageOperands body
  let e := alignExponent (ops.map x.lane.reg)
  let start : FloatRun :=
    { regs := ops.foldl (fun t r => Tab.put 0 t r.val (aligned e (x.lane.reg r) * 2 ^ 40)) [], acc0 := scaleBy x.lane.acc0.toInt (40 - e)
      acc1 := scaleBy x.lane.acc1.toInt (40 - e) }
  let y := body.foldl (laneFloat env (e - 40)) start
  let outs := body.filterMap writeOf
  let w := bfpWords (e - 40) (outs.map y.get)
  let x := (outs.zip w.1).foldl (fun (x : LaneRun) (o : Fin 64 × BitVec 32) => x.put o.1 (true, o.2)) x
  let x := body.foldl (fun (x : LaneRun) i => match i with
    | .store a k => { x with words := Tab.put (false, 0) x.words k (x.lane.reg a) }
    | _ => x) x
  { x with fell := true, clamped := x.clamped || w.2 }

/-! ### A program on a lane (R184, R196, R198) -/

/-- A stage: first in fixed point; an eligible one falls back where its saturation flag is set or a tagged operand does not convert
exactly; another saturates, and that is counted (R196, R198). -/
def runStage (env : LaneInputs) (eligible : Bool) (body : List BlvInstr) (x : LaneRun) : LaneRun :=
  let bad := (stageOperands body).any (fun r => inexact (x.lane.reg r))
  let y := body.foldl (laneFixed env) { x with sat := false }
  if eligible && (y.sat || bad) then { runFloat env body x with sat := x.sat }
  else { y with sat := x.sat, lost := y.lost || y.sat || bad }

/-- Unrolled instructions on a lane; fuel bounds their number. -/
def runLane (env : LaneInputs) : Nat → List BlvInstr → LaneRun → LaneRun
  | 0, _, x => x
  | _, [], x => x
  | f + 1, .stage e b :: t, x => runLane env f (t.drop b) (runStage env e (t.take b) x)
  | f + 1, i :: t, x => runLane env f t (laneFixed env x i)

/-- The greatest number of instructions that a frame carries out. -/
def codeFuel : Nat := 100000

/-- A program's code on a lane from its registers (R184). -/
def runCode (env : LaneInputs) (code : List BlvInstr) (lane : Lane) : LaneRun :=
  runLane env codeFuel (unrolled codeFuel code)
    { lane := lane, words := env.words, result := none, sat := false, fell := false, clamped := false, lost := false }

end Sys2Proof.Machine
end

