-- ==== Sys2Proof/Machine/Clock.lean ====
section
/-!
DEFINITION. Machine/Clock.lean: the Clocktower (R379 to R406): conversion sets, compares, time sources,
discipline, steps, PPS and event capture.
-/
namespace Sys2Proof.Machine

/-! ### Compares (R383, R384) -/

/-- A compare unit whose count has been reached: the signed 40-bit difference is zero or positive. -/
def Compare.reached (x : Compare) (now : Nat) : Bool :=
  match x.count with
  | none => false
  | some n => decide (0 ≤ signedDiff 40 now n)

/-- The compare loaded where its count lies less than 2^39 ticks ahead, else held (R384). -/
def Compare.load (x : Compare) (k : ClockState) (now : Nat) : Compare :=
  let n := countOf k x.target
  if n < now + 2 ^ 39 then { x with count := some (n % 2 ^ 40) } else { x with count := none }

/-- A compare put into a list that rises by target. -/
def insertByTarget (x : Compare) : List Compare → List Compare
  | [] => [x]
  | y :: t => if x.target < y.target then x :: y :: t else y :: insertByTarget x t

/-- Fires every compare that the condition picks, in target order (R391, R399). -/
def fireCompares (pick : Compare → Bool) (k : ClockState) : ClockState :=
  let hit := (k.compares.filter pick).foldl (fun l x => insertByTarget x l) []
  { k with compares := k.compares.filter (fun x => !pick x), fired := (hit.map (·.user)).reverse ++ k.fired }

/-- Held targets within range are loaded while a unit is free (R383, R384). -/
def loadHeld (k : ClockState) : Nat → List Compare → List Compare
  | _, [] => []
  | 0, l => l
  | room + 1, x :: t =>
    if x.count.isSome then x :: loadHeld k (room + 1) t
    else
      let y := x.load k k.c.toNat
      y :: loadHeld k (if y.count.isSome then room else room + 1) t

/-- The units that are free of the 48. -/
def freeUnits (l : List Compare) : Nat := 48 - (l.filter (fun x => x.count.isSome)).length

/-- One CK_TS edge: C advances by 8, held targets within range are loaded, and the compares reached in this cycle fire (R379, R383,
R385). -/
def ClockState.tick (k : ClockState) : ClockState :=
  let k := { k with c := k.c + 8 }
  fireCompares (fun x => x.reached k.c.toNat) { k with compares := loadHeld k (freeUnits k.compares) k.compares }

/-- Arms a compare of a user (R383); a target already passed fires at once. With all 48 units in use the target is
held (log 17). -/
def ClockState.arm (k : ClockState) (user : Nat) (target : Int) : ClockState :=
  let others := k.compares.filter (fun x => decide (x.user ≠ user))
  if target ≤ timeAt k k.c then { k with compares := others, fired := user :: k.fired }
  else
    let x : Compare := { user := user, target := target, count := none }
    let x := if 0 < freeUnits others then x.load k k.c.toNat else x
    { k with compares := others ++ [x] }

/-! ### Conversion sets (R381, R391) -/

/-- RATE within ±219,902,326 (R380). -/
def clampRate (r : Int) : Int := clampInt (-219902326) 219902326 r

/-- Puts a set in force at this count: REF is the count, OFFSET the reported time under the old set plus a shift
(R381); compares skipped by a forward shift fire once, the others are converted anew (R384, R391, R399). -/
def ClockState.applyShift (k : ClockState) (rate shift : Int) : ClockState :=
  let old := timeAt k k.c
  let k' := { k with offset := old + shift, ref := k.c, rate := clampRate rate, staged := none,
                     prior := some (k.offset, k.ref, k.rate) }
  let k' := if 0 < shift then fireCompares (fun x => decide (x.target < old + shift)) k' else k'
  -- every loaded target is converted anew; what is held is loaded at an edge of CK_TS
  { k' with compares := k'.compares.map (fun x => if x.count.isSome then x.load k' k'.c.toNat else x) }

/-- The conversion set, learned rate without slew offset, and holdover state for a save (R94, R391). -/
def State.clockSave (s : State) : ClockSave :=
  { offset := s.time64, rate := s.clk.learnedRate, holdover := decide (s.clk.state = .holdover) }

/-- The staged set takes effect (R381). A first set may move time backward: BACKWARD_SET and a Milestone entry, and
TIME_VALID is then set (R391). -/
def State.conversionSetApply (s : State) : State :=
  if !s.running then s
  else match s.clk.staged with
    | none => s
    | some st =>
      match st.initial with
      | none => { s with clk := s.clk.applyShift st.rate st.step }
      | some e =>
        let back := decide (e < 0)
        let k : ClockState := { s.clk.applyShift st.rate e with valid := true, backwardSet := s.clk.backwardSet || back }
        let s := { s with clk := k }
        if back then s.milestoneEntry 0x87 else s

/-- A staged set takes effect 64 cycles of CK_TS after its staging at the latest (R381). -/
def State.stagedDue (s : State) : Bool :=
  match s.clk.staged with
  | none => false
  | some x => decide (x.at_ + 512 ≤ s.now)

/-- The target enters a compare unit (R383, R384). -/
def State.compareLoad (s : State) (user : Nat) (target : Int) : State :=
  if !s.running then s else { s with clk := s.clk.arm user target }

/-! ### Sources (R389, R390) -/

/-- The state that a source gives. -/
def sourceState : TimeSource → TimeState
  | .gnss => .gnss
  | .ptp => .ptp
  | .beacon => .beacon

/-- The sources of the role, best first (R389). A rover in SNAPSHOT has its GNSS off. -/
def State.sourceOrder (s : State) : List TimeState :=
  match s.mode.role with
  | some .base => if s.reg Obj.ptpTimeSource = 1 then [.gnss, .ptp] else [.gnss]
  | some .rover => if s.mode.current = .snapshot then [.beacon] else [.gnss, .beacon]
  | some .relay => [.beacon]
  | none => []

/-- The best qualified source of the role. -/
def State.bestSource (s : State) : Option QualifiedSource :=
  s.sourceOrder.findSome? (fun t => s.clk.qualified.find? (fun x => decide (x.src = t)))

/-- The slew limit in ppm: ClockSlewMax, at most 10 in the base role (R394). -/
def State.slewPpm (s : State) : Nat :=
  if s.mode.role = some .base then min (s.regN Obj.clockSlewMax) 10 else s.regN Obj.clockSlewMax

/-- Parts per million in the unit of RATE, rounded toward zero (log 18). -/
def ppmRate (ppm : Nat) : Int := (ppm * 2 ^ 40 / 1000000 : Nat)

/-- The steps of an error on a base: each of 2 s but the last (R397); fuel bounds the series. -/
def stepParts : Nat → Int → List Int
  | 0, d => [d]
  | n + 1, d => if d ≤ 2000000000 then [d] else 2000000000 :: stepParts n (d - 2000000000)

/-- The first multiple of m at or after t. -/
def ceilTo (t m : Int) : Int := -(-t / m) * m

/-- The first whole second of reported time at least lead after t. -/
def nextSecond (t lead : Int) : Int := ceilTo (t + lead) 1000000000

/-- The lead of a step instant (R397). -/
def State.stepLead (s : State) : Int :=
  if s.mode.role = some .base then 2 * s.bootReg Obj.beaconInterval * 1000000 + 1000000 else 10000000

/-- Stages a set (R381). -/
def State.stage (s : State) (rate step : Int) (initial : Option Int) : State :=
  { s with clk := { s.clk with staged := some { at_ := s.now, rate := rate, step := step, initial := initial } } }

/-- The device steers by an error e with the source's rate (R393 to R397). -/
def State.steer (s : State) (e rate : Int) : State :=
  let s := { s with clk := { s.clk with learnedRate := clampRate rate, error := e } }
  let slew := ppmRate s.slewPpm
  if e.natAbs < 10 then { s.stage rate 0 none with clk := { (s.stage rate 0 none).clk with slewing := false, ahead := false } }
  else if e ≤ 1000000 then
    let r := if 0 < e then rate + slew else rate - slew
    let k := (s.stage r 0 none).clk
    { s with clk := { k with slewing := true, ahead := decide (e < -1000000) } }
  else match s.clk.pending with
    | some _ => s
    | none =>
      let base := decide (s.mode.role = some Role.base)
      { s with clk := { s.clk with
          pending := some { at_ := nextSecond s.time64 s.stepLead, parts := if base then stepParts 4096 e else [e] } } }

/-- A source is taken into use (R390, R391). -/
def State.takeSource (s : State) (x : QualifiedSource) (e rate : Int) : State :=
  let s := { s with clk := { s.clk with state := x.src, holdover := none } }
  if s.clk.valid then s.steer e rate
  else
    let s := { s with clk := { s.clk with learnedRate := clampRate rate, error := 0 } }
    s.stage rate 0 (some e)

/-- The uncertainty a source has in use (R389). -/
def sourceUncertainty (src : TimeSource) (reported : Nat) : Nat :=
  match src with
  | .gnss => 20
  | .beacon => 50000
  | .ptp => reported

/-- A source qualifies with an error, a rate and an uncertainty (R389): a better one than that in use replaces it (R390). -/
def State.qualifySource (s : State) (src : TimeSource) (e rate : Int) (u : Nat) : State :=
  let x : QualifiedSource := { src := sourceState src, uncertainty := sourceUncertainty src u }
  if !(s.running && s.sourceOrder.contains x.src) then s
  else
    let s := { s with clk := { s.clk with qualified := s.clk.qualified.filter (fun (y : QualifiedSource) => decide (y.src ≠ x.src)) ++ [x] } }
    match s.bestSource with
    | none => s
    | some b => if b.src = x.src ∧ s.clk.state ≠ x.src then s.takeSource x e rate else s

/-- The uncertainty reported now (R389, R393, R395, R406), saturating; all ones while TIME_VALID is clear. -/
def State.timeUncertainty (s : State) : Nat :=
  if !s.clk.valid then 0xFFFFFFFF
  else match s.clk.holdover with
    | some (t0, u0) =>
      -- drift in ppb over the nanoseconds since entry
      min 0xFFFFFFFF (u0 + s.regN Obj.holdoverDrift * ((s.now - t0) / 2) / 1000000000)
    | none =>
      let u := match s.clk.qualified.find? (fun x => decide (x.src = s.clk.state)) with
        | some x => x.uncertainty
        | none => 0
      min 0xFFFFFFFF (if s.clk.slewing then s.clk.error.natAbs + u else u)

/-- The device enters HOLDOVER at the last rate learned (R390, R393). -/
def State.enterHoldover (s : State) (u0 : Nat) : State :=
  let s := s.stage s.clk.learnedRate 0 none
  { s with clk := { s.clk with state := .holdover, holdover := some (s.now, u0), slewing := false } }

/-- A source is lost: the device moves to the next qualified one, whose error and rate are at hand, or to HOLDOVER (R389, R390). -/
def State.loseSource (s : State) (src : TimeSource) (next : TimeState → Option (Int × Int)) : State :=
  if !s.running then s
  else
    let t := sourceState src
    let u0 := s.timeUncertainty
    let s := { s with clk := { s.clk with qualified := s.clk.qualified.filter (fun y => decide (y.src ≠ t)) } }
    if s.clk.state ≠ t then s
    else match s.bestSource with
      | some b => (match next b.src with
        | some r => s.takeSource b r.1 r.2
        | none => { s with clk := { s.clk with state := b.src } })
      | none => if s.clk.valid then s.enterHoldover u0 else { s with clk := { s.clk with state := .unknown, staged := none } }

/-- A source is in use. -/
def State.sourceInUse (s : State) : Bool :=
  match s.clk.state with
  | .gnss | .ptp | .beacon => true
  | _ => false

/-- The whole second of reported time. -/
def State.wholeSecond (s : State) : Int := s.time64 / 1000000000

/-- The measurement of the source in use, once in each second (R393). -/
def State.discipline (s : State) (e rate : Int) (u : Nat) : State :=
  if !(s.running && s.sourceInUse && s.clk.valid) ∨ s.clk.measured = some s.wholeSecond then s
  else
    let q := s.clk.qualified.map (fun x => if x.src = .ptp ∧ s.clk.state = .ptp then { x with uncertainty := u } else x)
    ({ s with clk := { s.clk with qualified := q, measured := some s.wholeSecond } }).steer e rate

/-! ### GNSS clock solutions (R389, R627) -/

/-- The time error of a clock solution against reported time, ps: the antenna cable makes the solution early by AntennaCableDelay, which is
removed. -/
def State.solutionError (s : State) (x : ClockSolution) : Int :=
  x.time + s.reg Obj.antennaCableDelay - timeOf s.clk x.tick * 1000

/-- That error carried to a later count by the device's estimate of its rate: reported time runs at RATE, the source at the rate learned. -/
def State.carriedError (s : State) (x : ClockSolution) (tick : Nat) : Int :=
  s.solutionError x + (s.clk.learnedRate - s.clk.rate) * ((tick : Int) - x.tick) * 500 / 2 ^ 40

/-- Two errors agree within 1 µs. -/
def agreeUs (a b : Int) : Bool := decide ((a - b).natAbs ≤ 1000000)

/-- The next clock solution after one: 1 s later, to half a second (log 175). -/
def nextSolution (x y : ClockSolution) : Bool := decide (x.tick + 1000000000 ≤ y.tick ∧ y.tick < x.tick + 3000000000)

/-- Three consecutive clock solutions qualify: each from at least 4 satellites with decoded time of week, agreeing pairwise when carried
to the newest; that one is less than 2 s old. -/
def State.solutionsQualify (s : State) (a b c : ClockSolution) : Bool :=
  let e := fun x => s.carriedError x c.tick
  [a, b, c].all (fun x => decide (4 ≤ x.sats) && x.decoded) && nextSolution a b && nextSolution b c &&
    agreeUs (e a) (e b) && agreeUs (e a) (e c) && agreeUs (e b) (e c) && decide (c.tick ≤ s.now ∧ s.now < c.tick + ticksS 2)

/-- GNSS on ANT_A qualifies by its last three clock solutions. -/
def State.gnssQualifies (s : State) (l : List ClockSolution) : State :=
  match l with
  | [a, b, c] =>
    if s.running && s.solutionsQualify a b c then
      ({ s with clk := { s.clk with solvedAt := some c.tick } }).qualifySource .gnss (s.solutionError c / 1000) c.rate 20
    else s
  | _ => s

/-- There has been no clock solution for 2 s. -/
def State.gnssSilent (s : State) : Bool :=
  match s.clk.solvedAt with
  | none => true
  | some t => decide (t + ticksS 2 ≤ s.now)

/-- The measurement by a clock solution: the newest of this second. -/
def State.gnssMeasure (s : State) (x : ClockSolution) : State :=
  if s.now < x.tick ∨ x.tick + ticksS 1 ≤ s.now then s
  else ({ s with clk := { s.clk with solvedAt := some x.tick } }).discipline (s.solutionError x / 1000) x.rate 20

/-! ### Steps (R397) -/

/-- The step instant S is reached (R397): reported time passes from S to S + D, StepCount counts, the clock is
journalled (R538), and a base goes on with the next part of a series. -/
def State.timeStep (s : State) : State :=
  if !s.running then s
  else match s.clk.pending with
    | none => s
    | some p =>
      if s.time64 < p.at_ then s
      else
        let k := s.clk.applyShift s.clk.rate (p.parts.headD 0)
        let s := { s with clk := k }
        let rest := p.parts.drop 1
        let next := if rest.isEmpty then none else some { at_ := nextSecond s.time64 s.stepLead, parts := rest }
        let s := { s with clk := { s.clk with pending := next } }
        (s.incr Obj.stepCount).journal (.clock s.clockSave)

/-- A read of ClockOffset latches OFFSET, REF and RATE for its session (R382). -/
def State.clockOffsetRead (s : State) (q : Sess) : State :=
  s.readCommand q Obj.clockOffset (fun s =>
    .ok (leInt 8 s.clk.offset,
         s.updSession q (fun x => { x with clockLatch := some (s.clk.offset, s.clk.ref.toNat, s.clk.rate) })))

/-! ### PPS (R401, R404) -/

/-- An instant of reported time whose count lies in the CK_TS cycle that begins now: the count of the edge, to 0.5 ns (R385). -/
def State.edgeNow (s : State) (t : Int) : Option Nat :=
  let e := countOf s.clk t
  if s.now ≤ e ∧ e < s.now + 8 then some e else none

/-- The whole second at which the newest step was made: the first one at or after S is S itself (R401). -/
def State.stepSecond (s : State) : Option Int :=
  match s.clk.prior with
  | none => none
  | some (o, r, rate) =>
    let old := timeAt { s.clk with offset := o, ref := r, rate := rate } s.clk.ref
    if old < s.clk.offset ∧ old % 1000000000 < 8 then some (old - old % 1000000000) else none

/-- The count of the rising edge of PPS_OUT that falls in this cycle: a whole second of reported time plus PpsOutOffset, or the second of a
step. -/
def State.ppsEdge (s : State) : Option Nat :=
  let off := s.reg Obj.ppsOutOffset
  match s.edgeNow (nextSecond (s.time64 - off) 0 + off), s.stepSecond with
  | some e, _ => some e
  | none, some t => s.edgeNow (t + off)
  | none, none => none

/-- PPS_OUT may rise: enabled, TIME_VALID, and the edge at least 500 ms after the previous one. -/
def State.ppsMayRise (s : State) (e : Nat) : Bool :=
  s.operating && !s.silent && s.clk.valid && decide (s.reg Obj.ppsOutEnable = 1) &&
  (match s.clk.ppsLastRise with
   | none => true
   | some t => decide (t + 1000000000 ≤ (e : Int)))

/-- PPS_OUT rises at the count of its edge. -/
def State.ppsRise (s : State) : State :=
  match s.ppsEdge with
  | none => s
  | some e =>
    if s.ppsMayRise e then
      { s with clk := { s.clk with ppsOut := true, ppsFallDue := some (e + ticksMs (s.regN Obj.ppsOutWidth)), ppsLastRise := some (e : Int) } }
    else s

/-- PPS_OUT falls PpsOutWidth after its rise, in this cycle or an earlier one. -/
def State.ppsFall (s : State) : State :=
  match s.clk.ppsFallDue with
  | none => s
  | some d => if d < s.now + 8 then { s with clk := { s.clk with ppsOut := false, ppsFallDue := none } } else s

/-- PPS_IN has been silent for 1.5 s (R404). -/
def State.ppsInTimeout (s : State) : State :=
  if s.due s.clk.ppsInDue then { s with clk := { s.clk with ppsInPresent := false, ppsInDue := none } } else s

/-- A rising edge of PPS_IN: its time less the nearest whole second (R404). At exactly half a second the spec names no
nearer one: the side is open (log 19). -/
def State.ppsInEdge (s : State) (tick : Nat) : State :=
  let t := timeOf s.clk tick
  let r := t % 1000000000
  let (up, s) := if r = 500000000 then s.drawBool else (decide (500000000 < r), s)
  let s := s.setReg Obj.ppsInOffset (if up then r - 1000000000 else r)
  { s with clk := { s.clk with ppsInPresent := true, ppsInDue := s.after (ticksMs 1500) } }

/-! ### Event capture (R402, R403) -/

/-- The edge is one that EvtEdge of the input selects. -/
def edgeSelected (sel : Int) (falling : Bool) : Bool :=
  if falling then decide (sel = 2 ∨ sel = 3) else decide (sel = 1 ∨ sel = 3)

/-- The 24 bytes of a capture record (R403). -/
def EvtRecord.bytes (r : EvtRecord) : List Byte :=
  leBytes 8 r.tick ++ leInt 8 r.time ++ leBytes 1 r.input ++ leBytes 1 (flag r.falling 0) ++ leBytes 1 r.flags ++ [0] ++ leBytes 4 r.seq

/-- One capture made: a record is queued, or the edge is lost and counted. -/
def State.capture (s : State) (input : Nat) (falling : Bool) (tick : Nat) : State :=
  let n := (Tab.get 0 s.clk.seqs input + 1) % 2 ^ 32
  let s := { s with clk := { s.clk with seqs := Tab.put 0 s.clk.seqs input n } }
  let l := Tab.get [] s.clk.queues input
  if 64 ≤ l.length then ({ s with clk := { s.clk with evtLost := true } }).incrAt Obj.evtLost input
  else
    let r : EvtRecord :=
      { tick := tick, time := timeOf s.clk tick, input := input, falling := falling,
        flags := flag (decide (s.clk.state = .holdover)) 0 + flag (!s.clk.valid) 1 + flag s.clk.slewing 2, seq := n }
    let s := { s with clk := { s.clk with queues := Tab.put [] s.clk.queues input (l ++ [r]) } }
    if s.reg Obj.evtHostOutput = 1 then
      let (h, s, st) := s.hostCopy s.clk.evtCopy (s.regN Obj.evtHostQueue) 65536 r.bytes
      let s := { s with clk := { s.clk with evtCopy := h } }
      if st then s.setReg Obj.evtHostOutput 0 else s
    else s

/-- An edge on EVT_IN0 to EVT_IN3 (inputs 0 to 3) or PPS_IN (input 4). -/
def State.eventCapture (s : State) (input : Nat) (falling : Bool) (tick : Nat) : State :=
  if !s.running ∨ 4 < input then s
  else
    let s := if input = 4 ∧ !falling then s.ppsInEdge tick else s
    if edgeSelected (s.regAt Obj.evtEdge input) falling then s.capture input falling tick else s

/-- A read of EvtNext returns and removes the oldest record of the selected input (R403, R505). -/
def State.evtNextRead (s : State) (q : Sess) : State :=
  s.readCommand q Obj.evtNext (fun s =>
    let i := s.cursor q Obj.evtCursor
    match Tab.get [] s.clk.queues i with
    | [] => .error abortUnavailable
    | r :: t => .ok (r.bytes, { s with clk := { s.clk with queues := Tab.put [] s.clk.queues i t } }))

end Sys2Proof.Machine
end

