-- ==== Sys2Proof/Machine/Signals.lean ====
section
/-!
DEFINITION. Machine/Signals.lean: the signal components of R116, their codes, data bits and delivery units (R122, R134, R135), and
the checks of a delivery unit (R135).
-/
namespace Sys2Proof.Machine

/-! ### Signals (R116) -/

/-- What the table of R116 says of a SignalId: chain, carrier in kHz (GLONASS: k = 0), chips of the code period that a
search covers, its period in µs, chip rate in chips per ms times 2, data or pilot, BOC family, the other component of the
signal (itself where there is none). -/
structure SignalInfo where
  upper : Bool
  khz : Nat
  chips : Nat
  periodUs : Nat
  halfChipsPerMs : Nat
  data : Bool
  boc : Bool
  partner : Nat
  deriving DecidableEq, Repr

/-- A row of R116. -/
def sig (upper : Bool) (khz chips periodUs rate2 : Nat) (data boc : Bool) (partner : Nat) : SignalInfo :=
  { upper := upper, khz := khz, chips := chips, periodUs := periodUs, halfChipsPerMs := rate2, data := data, boc := boc, partner := partner }

/-- The table of R116 by SignalId. -/
def signalTable : List SignalInfo :=
  [sig true 1575420 1023 1000 2046 true false 0, sig true 1575420 10230 10000 2046 true true 2,
   sig true 1575420 10230 10000 2046 false true 1, sig false 1227600 10230 20000 1023 true false 4,
   sig false 1227600 767250 1500000 1023 false false 3, sig false 1176450 10230 1000 20460 true false 6,
   sig false 1176450 10230 1000 20460 false false 5, sig true 1575420 4092 4000 2046 true true 8,
   sig true 1575420 4092 4000 2046 false true 7, sig false 1176450 10230 1000 20460 true false 10,
   sig false 1176450 10230 1000 20460 false false 9, sig false 1207140 10230 1000 20460 true false 12,
   sig false 1207140 10230 1000 20460 false false 11, sig false 1278750 5115 1000 10230 true false 14,
   sig false 1278750 5115 1000 10230 false false 13, sig true 1561098 2046 1000 4092 true false 15] ++
  [sig true 1575420 10230 10000 2046 true true 17, sig true 1575420 10230 10000 2046 false true 16,
   sig false 1176450 10230 1000 20460 true false 19, sig false 1176450 10230 1000 20460 false false 18,
   sig false 1207140 10230 1000 20460 true false 20, sig false 1268520 10230 1000 20460 true false 21,
   sig true 1575420 1023 1000 2046 true false 22, sig true 1575420 10230 10000 2046 true true 24,
   sig true 1575420 10230 10000 2046 false true 23, sig false 1227600 10230 20000 1023 true false 26,
   sig false 1227600 767250 1500000 1023 false false 25, sig false 1176450 10230 1000 20460 true false 28,
   sig false 1176450 10230 1000 20460 false false 27, sig true 1602000 511 1000 1022 true false 29,
   sig false 1246000 511 1000 1022 true false 30]

/-- The row of a SignalId; a number outside the table reads as GPS L1 C/A. -/
def signalInfo (n : Nat) : SignalInfo := signalTable.getD n (sig true 1575420 1023 1000 2046 true false 0)

/-- The signal has a pilot component. -/
def hasPilot (n : Nat) : Bool := decide ((signalInfo n).partner ≠ n)

/-- Components that may be searched without aiding (R129). -/
def unaidedAllowed (n : Nat) : Bool := n = 0 || n = 22 || n = 15 || n = 29 || n = 30

/-- Milliseconds of a code epoch: 2 at 0.5115 Mcps, else 1 (R122). -/
def epochMs (n : Nat) : Nat := if n = 3 || n = 4 || n = 25 || n = 26 then 2 else 1

/-- Chips of a code epoch (R122). -/
def epochChips (n : Nat) : Nat := (signalInfo n).halfChipsPerMs * epochMs n / 2

/-- The constellation of a SignalId: GPS, Galileo, BeiDou, QZSS, GLONASS. -/
def constellation (n : Nat) : Nat :=
  if n < 7 then 0 else if n < 15 then 1 else if n < 22 then 2 else if n < 29 then 3 else 4

/-- The GPS component that a QZSS component is like (R116); any other stands for itself. -/
def likeGps (n : Nat) : Nat := if 22 ≤ n ∧ n < 29 then n - 22 else n

/-- The data bit or symbol of a data component, or the chip of a pilot's secondary code, in ms; 0 where a pilot has none. PRESUMED:
taken from the signals' published interface specifications (log 151). -/
def bitMs (n : Nat) : Nat :=
  [20, 10, 10, 20, 0, 10, 1, 4, 4, 20, 1, 4, 1, 1, 1, 20, 10, 10, 5, 1, 1, 20, 20, 10, 10, 20, 0, 10, 1, 20, 20].getD n 20

/-- The component carries a secondary code, from which its bit edge is found (R134). PRESUMED (log 151). -/
def hasSecondary (n : Nat) : Bool := [2, 5, 6, 8, 9, 10, 11, 12, 14, 15, 17, 18, 19, 21, 24, 27, 28].contains n

/-- Code epochs in a data bit, or in a chip of the secondary code. -/
def bitEpochs (n : Nat) : Nat := max 1 (bitMs n / epochMs n)

/-- Nominal RATE of a SignalId in units of 163.68 MHz / 2^48, to nearest (R125). -/
def nominalRate (n : Nat) : Nat := ((signalInfo n).halfChipsPerMs * 500 * 2 ^ 48 + 163680000 / 2) / 163680000

/-- A frequency in mHz as FREQ, to nearest (R125). -/
def freqWord (mHz : Int) : Int := (2 * mHz * 2 ^ 48 + 163680000000) / (2 * 163680000000)

/-- FREQ as a frequency in mHz, to nearest. -/
def wordMHz (f : Int) : Int := (f * 163680000000 + 2 ^ 47) / 2 ^ 48

/-- The carrier of a component in mHz: GLONASS by the frequency number of the slot (R116). -/
def carrierMHz (signal svid : Nat) : Int :=
  let k : Int := if signal = 29 then Config.glonassChannel svid * 562500000
    else if signal = 30 then Config.glonassChannel svid * 437500000 else 0
  (signalInfo signal).khz * 1000000 + k

/-- RATE with the code Doppler of a Doppler in mHz (R133): nominal times 1 plus Doppler over carrier, to nearest. -/
def dopplerRate (signal svid : Nat) (doppler : Int) : Nat :=
  let f := carrierMHz signal svid
  let r : Int := nominalRate signal
  ((2 * r * (f + doppler) + f) / (2 * f)).toNat

/-! ### Delivery units (R135) -/

/-- The message of a data component. -/
inductive NavMessage where
  | lnav | cnav2 | cnav | iNav | fNav | cNav | dWord | bCnav1 | bCnav2 | bCnav3 | glonass
  deriving DecidableEq, Repr

/-- The message of a SignalId; none of a pilot. -/
def messageOf (n : Nat) : Option NavMessage :=
  match likeGps n with
  | 0 => some .lnav
  | 1 => some .cnav2
  | 3 | 5 => some .cnav
  | 7 | 11 => some .iNav
  | 9 => some .fNav
  | 13 => some .cNav
  | 15 | 21 => some .dWord
  | 16 => some .bCnav1
  | 18 => some .bCnav2
  | 20 => some .bCnav3
  | 29 | 30 => some .glonass
  | _ => none

/-- A message has two kinds of delivery units: subframe 1 (part 0) and subframes 2 and 3 together (part 1). -/
def NavMessage.parts : NavMessage → Nat
  | .cnav2 | .bCnav1 => 2
  | _ => 1

/-- Symbols of a delivery unit on the air. PRESUMED: the published interface specifications (log 151). -/
def NavMessage.symbols : NavMessage → Nat → Nat
  | .lnav, _ | .dWord, _ => 30
  | .cnav2, 0 => 52
  | .cnav2, _ => 1748
  | .cnav, _ | .bCnav2, _ => 600
  | .iNav, _ | .fNav, _ => 500
  | .cNav, _ | .bCnav3, _ => 1000
  | .bCnav1, 0 => 72
  | .bCnav1, _ => 1728
  | .glonass, _ => 85

/-- Message bits of a delivery unit after decoding of the forward error correction (R135). PRESUMED: the published interface
specifications (log 151). -/
def NavMessage.bits : NavMessage → Nat → Nat
  | .lnav, _ | .dWord, _ => 30
  | .cnav2, 0 => 9
  | .cnav2, _ => 874
  | .cnav, _ => 300
  | .iNav, _ => 240
  | .fNav, _ => 244
  | .cNav, _ => 492
  | .bCnav1, 0 => 14
  | .bCnav1, _ => 864
  | .bCnav2, _ => 288
  | .bCnav3, _ => 486
  | .glonass, _ => 85

/-- Forward error correction is decoded (FLAGS[1] of R136). -/
def NavMessage.fec : NavMessage → Bool
  | .lnav | .glonass => false
  | _ => true

/-- The bit spans of a unit over which CRC-24Q holds, each with its 24 check bits last: first bit and length. PRESUMED: the published
interface specifications (log 151). -/
def NavMessage.crcSpans : NavMessage → List (List (Nat × Nat))
  | .cnav => [[(0, 300)]]
  | .cnav2 => [[(0, 600)], [(600, 274)]]
  | .iNav => [[(0, 114), (120, 106)]]
  | .fNav => [[(0, 238)]]
  | .cNav => [[(0, 486)]]
  | .bCnav1 => [[(0, 600)], [(600, 264)]]
  | .bCnav2 => [[(0, 288)]]
  | .bCnav3 => [[(0, 486)]]
  | _ => []

/-! ### The checks (R135) -/

/-- The parity of a list of bits. -/
def xorAll (l : List Bool) : Bool := l.foldl (· != ·) false

/-- Bits first to first + length of a unit. -/
def bitSpan (b : List Bool) (s : Nat × Nat) : List Bool := (b.drop s.1).take s.2

/-- CRC-24Q, generator 0x1864CFB, of bits in transmission order. -/
def crc24q (b : List Bool) : BitVec 24 :=
  b.foldl (fun r x =>
    let top := r.getLsbD 23
    let r := r <<< 1
    if top != x then r ^^^ 0x864CFB else r) 0

/-- CRC-24Q holds over every span of a unit. -/
def NavMessage.crcHolds (m : NavMessage) (b : List Bool) : Bool :=
  m.crcSpans.all (fun l => decide (crc24q (l.flatMap (bitSpan b)) = 0))

/-- The source bits d1 to d24 that each of D25 to D30 sums, and whether D29 (true) or D30 of the preceding word joins. PRESUMED: the
published interface specification of GPS (log 151). -/
def lnavRows : List (Bool × List Nat) :=
  [(true, [1, 2, 3, 5, 6, 10, 11, 12, 13, 14, 17, 18, 20, 23]), (false, [2, 3, 4, 6, 7, 11, 12, 13, 14, 15, 18, 19, 21, 24]),
   (true, [1, 3, 4, 5, 7, 8, 12, 13, 14, 15, 16, 19, 20, 22]), (false, [2, 4, 5, 6, 8, 9, 13, 14, 15, 16, 17, 20, 21, 23]),
   (false, [1, 3, 5, 6, 7, 9, 10, 14, 15, 16, 17, 18, 21, 22, 24]), (true, [3, 5, 6, 8, 9, 10, 11, 13, 15, 19, 22, 23, 24])]

/-- The (32,26) Hamming parity of an LNAV word, with D29 and D30 of the preceding word. -/
def lnavHolds (d29 d30 : Bool) (b : List Bool) : Bool :=
  let d := (b.take 24).map (· != d30)
  let sums := lnavRows.map (fun r => xorAll ((if r.1 then d29 else d30) :: r.2.map (fun i => d.getD (i - 1) false)))
  decide (b.drop 24 = sums)

/-- The remainder of 15 bits by x^4 + x + 1. -/
def bchRemainder (b : List Bool) : BitVec 4 :=
  b.foldl (fun r x =>
    let top := r.getLsbD 3
    let r := (r <<< 1) ||| (BitVec.ofBool x).setWidth 4
    if top then r ^^^ 0b0011 else r) 0

/-- BCH(15,11,1): the bit whose error has the remainder found is turned. Answers whether a bit was. -/
def bchCorrect (b : List Bool) : List Bool × Bool :=
  let r := bchRemainder b
  if r = 0 then (b, false)
  else
    let hit := fun (i : Nat) => decide (bchRemainder ((List.range 15).map (fun j => decide (j = i))) = r)
    (b.zipIdx.map (fun x => if hit x.2 then !x.1 else x.1), true)

/-- Every second bit, from the first or from the second on. -/
def deinterleave (b : List Bool) (from_ : Nat) : List Bool := (b.zipIdx.filter (fun x => decide (x.2 % 2 = from_))).map (·.1)

/-- A word of D1 or D2: the first of a subframe carries 15 plain bits and one block; every other, two interleaved blocks. -/
def dWordDecode (first : Bool) (b : List Bool) : List Bool × Bool :=
  if first then
    let (x, c) := bchCorrect (b.drop 15)
    (b.take 15 ++ x, c)
  else
    let (x, c) := bchCorrect (deinterleave b 0)
    let (y, d) := bchCorrect (deinterleave b 1)
    (x ++ y, c || d)

/-- The Hamming positions of the data bits 9 to 85 of a GLONASS string: the numbers from 3 on that are no power of two. -/
def glonassPositions : List Nat := (List.range 85).filter (fun v => decide (3 ≤ v) && !([4, 8, 16, 32, 64].contains v))

/-- Bit i of a string, numbered 85 to 1 in transmission order. -/
def stringBit (b : List Bool) (i : Nat) : Bool := b.getD (85 - i) false

/-- Check sums C1 to C7 as a number, and the sum over all bits. PRESUMED: the published interface control document of GLONASS (log
151). -/
def glonassSums (b : List Bool) : Nat × Bool :=
  let c := fun (k : Nat) => xorAll (stringBit b (k + 1) :: (glonassPositions.zipIdx.filter (fun x => x.1.testBit k)).map (fun x => stringBit b (x.2 + 9)))
  ((List.range 7).foldl (fun n k => n + flag (c k) k) 0, xorAll b)

/-- The check of a string: what is left after the correction of a single error, and STATUS. -/
def glonassDecode (b : List Bool) : List Bool × Nat :=
  let (n, odd) := glonassSums b
  if n = 0 ∧ odd = false then (b, 0)
  else if n = 0 ∨ odd = false then (b, 2)
  else if [1, 2, 4, 8, 16, 32, 64].contains n then (b, 1)
  else match glonassPositions.idxOf? n with
    | none => (b, 2)
    | some k => (b.zipIdx.map (fun x => if x.2 = 85 - (k + 9) then !x.1 else x.1), 1)

/-- The relative code of a GLONASS string is undone: each bit is the change from the symbol before. -/
def relativeBits : Bool → List Bool → List Bool
  | _, [] => []
  | p, x :: t => (p != x) :: relativeBits x t

/-- A delivery unit decoded and checked (R135): its message bits, and STATUS 0x00 pass, 0x01 pass after a single-error correction,
0x02 failed. The codes of the Viterbi, LDPC and BCH decoders are those of the published specifications (log 152). -/
def checkUnit (n : Nat) (m : NavMessage) (part : Nat) (first : Bool) (prev : Bool × Bool) (sym : List Bool) : List Bool × Nat :=
  match m with
  | .lnav => (sym, if lnavHolds prev.1 prev.2 sym then 0 else 2)
  | .dWord => let (b, c) := dWordDecode first sym; (b, if c then 1 else 0)
  | .glonass => glonassDecode (relativeBits false sym)
  | _ => match Config.fecDecode n part sym with
    | none => (sym, 2)
    | some b =>
      let b := (b ++ List.replicate (m.bits part) false).take (m.bits part)
      if m.parts = 2 ∧ part = 0 then (b, 0) else (b, if m.crcHolds b then 0 else 2)

end Sys2Proof.Machine
end

