-- ==== Sys2Proof/Machine/Gnss.lean ====
section
/-!
DEFINITION. Machine/Gnss.lean: the GNSS baseband (R109 to R133): antennas and chains, channels and their dumps, and the acquisition
engine.
-/
namespace Sys2Proof.Machine

/-! ### Reach -/

/-- The baseband runs: base or rover role past BOOT, its channels not released in SNAPSHOT (R28, R145). -/
def State.gnssRuns (s : State) : Bool :=
  (s.hasRole .base || s.hasRole .rover) && decide (s.mode.current ≠ .snapshot)

/-- The channel of a number. -/
def State.chan (s : State) (n : Nat) : Channel := Tab.get Channel.idle s.gnss.channels n

/-- Puts a channel back. -/
def State.setChan (s : State) (n : Nat) (c : Channel) : State :=
  { s with gnss := { s.gnss with channels := Tab.put Channel.idle s.gnss.channels n c } }

/-- Changes every channel in use. -/
def State.mapChans (s : State) (f : Nat → Channel → Channel) : State :=
  s.gnss.channels.foldl (fun s e => s.setChan e.1 (f e.1 e.2)) s

/-- Keeps ChannelsInUse (R118). -/
def State.noteChans (s : State) : State := s.setReg Obj.channelsInUse s.gnss.channels.length

/-! ### Antenna bias (R111, R112, R114) -/

/-- The bias setting in force: ANT_B of a base is off whatever its setting (R114). -/
def State.biasSetting (s : State) (ant : Side) : Int :=
  match ant with
  | .a => s.reg Obj.antennaBiasA
  | .b => if s.mode.role = some .base then 0 else s.reg Obj.antennaBiasB

/-- The bias supply of an antenna. -/
def State.bias (s : State) (ant : Side) : Bias :=
  match ant with
  | .a => s.gnss.biasA
  | .b => s.gnss.biasB

/-- Puts a bias supply back. -/
def State.setBias (s : State) (ant : Side) (b : Bias) : State :=
  match ant with
  | .a => { s with gnss := { s.gnss with biasA := b } }
  | .b => { s with gnss := { s.gnss with biasB := b } }

/-- The chains of an antenna: upper and lower. -/
def chainsOf : Side → Nat × Nat
  | .a => (0, 1)
  | .b => (2, 3)

/-- ChainGain of a chain. -/
def chainGain : Nat → ObjDesc
  | 0 => Obj.chainGainAUpper
  | 1 => Obj.chainGainALower
  | 2 => Obj.chainGainBUpper
  | _ => Obj.chainGainBLower

/-- A bit of a small set, set or cleared. -/
def putBit (x n : Nat) (b : Bool) : Nat := if b then x ||| 2 ^ n else x - (if x.testBit n then 2 ^ n else 0)

/-- The gain control of a powered chain stands at a gain in Q16.16 dB (R115); AGC_LIMIT shows either end of its range. -/
def State.takeGain (s : State) (chain : Nat) (g : Int) : State :=
  if !bit s.gnss.chainsOn chain then { s with gnss := { s.gnss with agcLimit := putBit s.gnss.agcLimit chain false } }
  else
    let g := clampInt (-655360) 3932160 g
    ({ s with gnss := { s.gnss with agcLimit := putBit s.gnss.agcLimit chain (decide (g = -655360 ∨ g = 3932160)) } }).setReg (chainGain chain) g

/-- The classification of one antenna every 10 ms, with the gains of its chains. A short switches the bias off and starts the retry
wait. DESIGN CHOICE (log 155): a short that persists over a retry is counted in Milestone once per retry. -/
def State.biasClassify (s : State) (ant : Side) (mA : Nat) (atLimit : Bool) (gains : Int × Int) : State :=
  if !(s.hasRole .base || s.hasRole .rover) then s
  else
    let s := (s.takeGain (chainsOf ant).1 gains.1).takeGain (chainsOf ant).2 gains.2
    let cur := match ant with
      | .a => Obj.antennaCurrentA
      | .b => Obj.antennaCurrentB
    if s.biasSetting ant = 0 then (s.setBias ant Bias.none).setReg cur 0
    else if (s.bias ant).retryDue.isSome then s
    else
      let s := s.setReg cur (min mA 150)
      if atLimit then (s.setBias ant { state := .short, retryDue := s.after (ticksMs 1000) }).milestoneEntry 0x82
      else s.setBias ant { state := if mA < 2 then .open_ else .normal, retryDue := none }

/-- The retry of a shorted bias after 1 s: the next classification judges it anew. -/
def State.biasRetry (s : State) (ant : Side) : State :=
  if s.running && s.due (s.bias ant).retryDue then s.setBias ant { (s.bias ant) with retryDue := none } else s

/-- The chains that a role keeps powered (R114, R145): those of ANT_A on a base, all four on a rover. -/
def State.roleChains (s : State) : Nat :=
  match s.mode.role with
  | some .base => 3
  | some .rover => 15
  | _ => 0

/-- Powers the chains of the role. -/
def State.powerChains (s : State) : State := { s with gnss := { s.gnss with chainsOn := s.roleChains } }

/-! ### NCO words (R119, R125, R126) -/

/-- Carrier less chain LO, plus Doppler and reference offset, in mHz (R109, R125). -/
def State.startMHz (s : State) (signal svid : Nat) (doppler : Int) : Int :=
  let i := signalInfo signal
  let lo : Int := if i.upper then 1584750000000 else 1232000000000
  carrierMHz signal svid - lo + doppler + Config.refOffset s.clk.learnedRate i.khz

/-- The Doppler of a channel's FREQ in mHz: less the nominal frequency and the reference offset (R158). -/
def State.dopplerOf (s : State) (c : Channel) (f : Int) : Int := wordMHz f - s.startMHz c.signal c.svid 0

/-- The tap offset of a component (R121). -/
def State.tapOffset (s : State) (signal : Nat) : Nat :=
  if (signalInfo signal).halfChipsPerMs ≤ 4092 then s.regN Obj.tapOffsetNarrow else s.regN Obj.tapOffsetWide

/-- The NCO words that a channel runs on: its master's where it is slaved (R119). -/
def State.ncoWords (s : State) (c : Channel) : Int × Nat :=
  if c.slave then ((s.chan c.master).freq, (s.chan c.master).rate) else (c.freq, c.rate)

/-- The primary code in 2^-48 chips. -/
def codePeriod (signal : Nat) : Nat := (signalInfo signal).chips * 2 ^ 48

/-- The phases with which a channel's epoch began: its own, or its master's of the same epoch (R119), which has ended there where
its newest dump carries the same TAG. -/
def State.epochStart (s : State) (c : Channel) (tag : Nat) : Int × Nat :=
  if !c.slave then (c.carrier, c.code)
  else
    let m := s.chan c.master
    let (a, b) := if m.endedAt = some tag then (m.carrierWas, m.codeWas) else (m.carrier, m.code)
    (a, b % codePeriod c.signal)

/-! ### Correlation (R121 to R123) -/

/-- The sign of the code replica of a component at a phase in 2^-48 chips: BOC-family components turn in the second half of a chip. -/
def codeSign (signal svid : Nat) (phase : Nat) : Int :=
  let chip := phase / 2 ^ 48 % (signalInfo signal).chips
  let x := Config.codeChip signal svid chip
  if x != ((signalInfo signal).boc && phase.testBit 47) then 1 else -1

/-- The same of the code that no satellite has. -/
def noiseSign (signal : Nat) (phase : Nat) : Int :=
  let chip := phase / 2 ^ 48 % (signalInfo signal).chips
  if Config.noiseChip signal chip != ((signalInfo signal).boc && phase.testBit 47) then 1 else -1

/-- The code phase at an offset in 1/64 chip. -/
def tapPhase (signal : Nat) (code : Nat) (ofs : Int) : Nat := (((code : Int) + ofs * 2 ^ 42) % (codePeriod signal : Int)).toNat

/-- A tap takes one product (R123): a sum that would pass the 24-bit range stops at its limit; answers whether it did. -/
def tapAdd (sum : Int × Bool) (x : Int) : Int × Bool :=
  let v := sum.1 + x
  if sum.2 then sum else if v < -8388608 then (-8388608, true) else if 8388607 < v then (8388607, true) else (v, false)

/-- The signs of the six taps VE, E, P, L, VL and N at a code phase with tap offset s (R121). -/
def tapSigns (signal svid ofs : Nat) (code : Nat) : List Int :=
  let s : Int := ofs
  ([-2 * s, -s, 0, s, 2 * s].map (fun d => codeSign signal svid (tapPhase signal code d))) ++ [noiseSign signal code]

/-- One sample goes into the twelve tap parts: the product of the sample, the carrier replica and the code replica. -/
def correlateOne (signal svid ofs : Nat) (carrier : Int) (code : Nat) (x : Int × Int) (taps : List (Int × Bool)) : List (Int × Bool) :=
  let r := Config.carrierReplica (BitVec.ofInt 48 carrier)
  let ci : Int := (r.1.val : Int) - 15
  let cq : Int := (r.2.val : Int) - 15
  let i := x.1 * ci + x.2 * cq
  let q := x.2 * ci - x.1 * cq
  (taps.zip ((tapSigns signal svid ofs code).flatMap (fun g => [g * i, g * q]))).map (fun t => tapAdd t.1 t.2)

/-- The samples of an epoch, each with the phases that the NCOs have at it. -/
def correlate (signal svid ofs : Nat) (freq : Int) (rate : Nat) : List (Int × Int) → Int → Nat → List (Int × Bool) → List (Int × Bool)
  | [], _, _, taps => taps
  | x :: t, carrier, code, taps =>
    correlate signal svid ofs freq rate t (carrier + freq) ((code + rate) % codePeriod signal) (correlateOne signal svid ofs carrier code x taps)

/-- The samples that a code epoch takes from a code phase on: to the first at or past its boundary, a whole number of code epochs
from the start of the primary code (R122). -/
def epochSamples (signal rate code : Nat) : Nat :=
  let e := epochChips signal * 2 ^ 48
  let left := e - code % e
  if rate = 0 then 0 else (left + rate - 1) / rate

/-! ### Data bits (R134) -/

/-- The search for the data bit edge after an epoch with P below or above zero: at once where a bit is one epoch, from the secondary
code, or from the histogram of sign changes over 100 bits. n: epochs before this one. -/
def Channel.findEdge (c : Channel) (n : Nat) (neg : Bool) : Channel :=
  let b := bitEpochs c.signal
  if c.edge.isSome then c
  else if bitMs c.signal = 0 then c
  else if b = 1 then { c with edge := some 0 }
  else
    let hist := if c.signs.head? = some (!neg) then Tab.put 0 c.edgeHist (n % b) (Tab.get 0 c.edgeHist (n % b) + 1) else c.edgeHist
    let c := { c with edgeHist := hist, signs := (neg :: c.signs).take (100 * b) }
    if c.signs.length < 100 * b then c
    else
      let best := (List.range b).foldl (fun m i => if Tab.get 0 hist m < Tab.get 0 hist i then i else m) 0
      let e := if hasSecondary c.signal then Config.secondaryEdge c.signal c.signs else if Tab.get 0 hist best = 0 then none else some best
      match e with
      | some e => { c with edge := some (e % b), edgeHist := [], signs := [] }
      | none => { c with edgeHist := [], signs := [] }

/-- A data bit edge falls on the boundary after n epochs. -/
def Channel.onEdge (c : Channel) (n : Nat) : Bool :=
  match c.edge with
  | none => false
  | some e => decide (n % bitEpochs c.signal = e)

/-- P of an epoch goes into the data bit; at an edge a symbol is formed (R134): its sign. -/
def Channel.takeBit (c : Channel) (p : Int) (edge : Bool) (time : Int) : Channel :=
  if !(signalInfo c.signal).data then c
  else
    let c := { c with bitSum := c.bitSum + p }
    if !edge then c
    else
      let first := c.symbols.isEmpty
      { c with symbols := c.symbols ++ [decide (c.bitSum < 0)], bitSum := 0, bitTime := time,
               unitTime := if first then c.bitTime else c.unitTime,
               unitEpoch := if first then c.epochs - bitEpochs c.signal else c.unitEpoch }

/-- The boundary of an epoch ends a bit that began in the middle of nothing: the first edge starts the first bit. -/
def Channel.startBits (c : Channel) (known : Bool) (time : Int) : Channel :=
  if known then c else { c with bitSum := 0, bitTime := time, symbols := [] }

/-! ### Code epochs (R122 to R126) -/

/-- A dump in the layout of R122. -/
def Dump.bytes (d : Dump) : List Byte :=
  leBytes 4 (d.channel % 512 + flag (decide (d.ant = .b)) 9 + d.signal % 32 * 2 ^ 10 + d.epochs % 256 * 2 ^ 16 + flag d.sat 24 + flag d.bitSync 25
    + flag d.bitEdge 26) ++
  leBytes 8 d.tag ++ leInt 8 d.carr ++ leBytes 8 d.code ++ d.taps.flatMap (leInt 3)

/-- A code epoch ends with its last sample (R122): the phases have advanced, one dump goes to Boulevard in a queue of 1,024, and the NCO
set whose handshake is complete is applied, the slew once (R126). Samples that are not those of one epoch end none. -/
def State.codeEpochDump (s : State) (n tag : Nat) (samples : List (Int × Int)) : State :=
  let c := s.chan n
  let (f, r) := s.ncoWords c
  let (carrier0, code0) := s.epochStart c tag
  if !(s.gnssRuns && c.en) || decide (samples.length ≠ epochSamples c.signal r code0) || samples.isEmpty then s
  else
    let period := codePeriod c.signal
    let sums := correlate c.signal c.svid c.tapOfs f r samples carrier0 code0 (List.replicate 12 (0, false))
    let taps := sums.map (·.1)
    let carrier := carrier0 + f * samples.length
    let code := (code0 + r * samples.length) % period
    let cnt := c.epochs + 1
    let p := taps.getD 4 0
    let known := c.edge.isSome
    let c := c.findEdge c.epochs (decide (p < 0))
    let edge := c.onEdge cnt
    let d : Dump :=
      { channel := n, ant := c.ant, signal := c.signal, tag := tag, carr := carrier / 2 ^ 16, code := code / 2 ^ 16, epochs := cnt % 256, taps := taps,
        sat := sums.any (·.2), bitSync := c.edge.isSome, bitEdge := edge }
    let slew : Int := if c.slave then 0 else (c.newSlew.getD 0) * 2 ^ 40
    let nominal := freqWord (s.startMHz c.signal c.svid 0)
    let c : Channel :=
      { c with
        carrierWas := carrier0, codeWas := code0, endedAt := some tag, drift := c.drift + (f - nominal) * samples.length
        carrier := carrier, code := (((code : Int) + slew) % (period : Int)).toNat, epochs := cnt,
        freq := c.newFreq.getD c.freq, rate := c.newRate.getD c.rate, newFreq := none, newRate := none, newSlew := none,
        tapOfs := s.tapOffset c.signal }
    let c := if known then c.takeBit p edge (timeOf s.clk tag) else c.startBits c.edge.isSome (timeOf s.clk tag)
    let s := s.setChan n c
    { s with gnss := { s.gnss with dumps := (s.gnss.dumps ++ [d]).take 1024 } }

/-! ### Acquisition (R127 to R132) -/

/-- T_coh in ms: AcqCoherentMs rounded up to whole primary code periods (R128). -/
def State.tCoh (s : State) (signal : Nat) : Nat :=
  let p := max 1 ((signalInfo signal).periodUs / 1000)
  (s.regN Obj.acqCoherentMs + p - 1) / p * p

/-- The spacing of code bins in 1/256 chip (R127). -/
def codeStep (signal : Nat) : Nat := if (signalInfo signal).boc then 64 else 128

/-- Code bins and Doppler bins of an unaided search (R127). -/
def State.unaidedBins (s : State) (signal : Nat) : Nat × Nat :=
  let i := signalInfo signal
  -- spacing 1 / (2 T_coh), 2 ⌈span / spacing⌉ + 1 bins
  (i.chips * (if i.boc then 4 else 2), 2 * ((s.regN Obj.acqDopplerSpan * 2 * s.tCoh signal + 999) / 1000) + 1)

/-- The rectangle of a request. -/
def State.searchBins (s : State) (r : AcqRequest) : Nat × Nat :=
  if r.aided then (r.codeBins, r.dopplerBins) else s.unaidedBins r.signal

/-- Passes of a search; none where the search is refused (R127). -/
def searchPasses (codeBins dopplerBins : Nat) : Option Nat :=
  if codeBins = 0 ∨ 16384 < codeBins then none
  else
    let per := 16384 / codeBins
    let n := (dopplerBins + per - 1) / per
    if 32 < n then none else some n

/-- No cell found. -/
def AcqPeak.zero : AcqPeak := { code := 0, doppler := 0, peak := 0, second := 0 }

/-- A request as the engine takes it in: its rectangle, T_coh, K and threshold are those of that instant. -/
def State.searchOf (s : State) (r : AcqRequest) (passes : Nat) : Search :=
  { req := r, codeBins := (s.searchBins r).1, dopplerBins := (s.searchBins r).2, passes := passes, tcoh := s.tCoh r.signal
    k := s.regN Obj.acqNonCoherent, alarm := s.regN Obj.acqFalseAlarmExp, pass := 0, cells := [], noise := [], best := AcqPeak.zero, verifying := false }

/-- The metric of a cell: K coherent sums, summed non-coherently (R128). -/
def cellMetric (k : Nat) (l : List (Int × Int)) : Nat := ((l.take k).map (fun x => (x.1 * x.1 + x.2 * x.2).toNat)).foldl (· + ·) 0

/-- A number put in rising order. -/
def insertNat (x : Nat) : List Nat → List Nat
  | [] => [x]
  | y :: t => if x ≤ y then x :: y :: t else y :: insertNat x t

/-- The median of a list: its upper middle in rising order. -/
def median (l : List Nat) : Nat := (l.foldl (fun t x => insertNat x t) []).getD (l.length / 2) 0

/-- The noise mean of a pass (R131): the median of its metrics, corrected by the ratio for K. -/
def noiseMean (k : Nat) (m : List Nat) : Nat := median m * Config.medianRatio k / 65536

/-- A metric in units of the noise power of one coherent sum, Q16.16 (R132): the noise mean is that of K. -/
def inNoise (k mean m : Nat) : Nat := min 0xFFFFFFFF (m * k * 65536 / max 1 mean)

/-- The partial sum of x^i / i! for i below n with x = X / 65536, over a common denominator; l: the terms so far. -/
def expTerms (x : Nat) : Nat → Nat → Nat → Nat → Nat
  | 0, _, _, acc => acc
  | n + 1, i, term, acc => expTerms x n (i + 1) (term * x) (acc * (65536 * (i + 1)) + term * x)

/-- Σ x^i / i! for i ≤ n, times n! · 65536^n. -/
def expSum (x n : Nat) : Nat := expTerms x n 0 1 1

/-- n! · 65536^n over k! · 65536^k. -/
def expScale (k n : Nat) : Nat := (List.range (n - k)).foldl (fun a i => a * (65536 * (k + 1 + i))) 1

/-- The cell metric exceeds the threshold that a noise-only cell exceeds with probability 10^-alarm (R131): the tail
e^-x · Σ x^i / i!, i below K, of a sum of K noise powers is smaller than that; e^x by its first 512 terms (log 156). -/
def detects (k alarm peak : Nat) : Bool := decide (10 ^ alarm * (expSum peak (k - 1) * expScale (k - 1) 512) < expSum peak 512)

/-- CNO of a peak (R132): 10 log10 of ((PEAK / K - 1) / T_coh) in 0.01 dB-Hz, floored: the greatest n with 10^n at most the 1,000th
power of the ratio; open where the ratio is not positive (log 153). -/
def cnoOf (peak k tcoh : Nat) : Nat :=
  if peak ≤ k * 65536 then (Config.lowCno peak).toNat
  else
    let num := (peak - k * 65536) * 1000
    let den := 65536 * k * tcoh
    let fits := fun (n : Nat) => decide (10 ^ n * ((den ^ 10) ^ 10) ^ 10 ≤ ((num ^ 10) ^ 10) ^ 10)
    (List.range 14).foldl (fun n i => if fits (n + 2 ^ (13 - i)) then n + 2 ^ (13 - i) else n) 0

/-- The Doppler of a bin in mHz: bins 1 / (2 T_coh) apart, the middle one at the window's middle (R127). -/
def Search.dopplerAt (x : Search) (bin : Nat) : Int :=
  let step : Int := 500000 / (max 1 x.tcoh : Nat)
  (if x.req.aided then x.req.dopplerMid else 0) + ((bin : Int) - ((x.dopplerBins / 2 : Nat) : Int)) * step

/-- The code phase of a bin in 1/256 chip. -/
def Search.codeAt (x : Search) (bin : Nat) : Nat :=
  ((if x.req.aided then x.req.codeFrom else 0) + bin * codeStep x.req.signal) % ((signalInfo x.req.signal).chips * 256)

/-- Two bins are neighbours or the same. -/
def near (a b : Nat) : Bool := decide (a ≤ b + 1 ∧ b ≤ a + 1)

/-- The peak search over all passes (R132): the best cell, and the best metric outside its 3 × 3 neighbourhood. -/
def Search.peak (x : Search) : AcqPeak :=
  let l := x.cells.zipIdx
  let b := l.foldl (fun (m : Nat × Nat) e => if m.1 < e.1 then e else m) (0, 0)
  let n := max 1 x.codeBins
  let far := l.filter (fun e => !(near (e.2 % n) (b.2 % n) && near (e.2 / n) (b.2 / n)))
  { code := x.codeAt (b.2 % n), doppler := x.dopplerAt (b.2 / n), peak := b.1, second := far.foldl (fun m e => max m e.1) 0 }

/-- The noise mean of the pass that held the best cell. -/
def Search.bestNoise (x : Search) : Nat :=
  let i := (x.cells.zipIdx.foldl (fun (m : Nat × Nat) e => if m.1 < e.1 then e else m) (0, 0)).2
  let n := max 1 x.codeBins
  x.noise.getD (i / n / max 1 (16384 / n)) 1

/-- The 32-byte result record (R132). -/
def acqResult (x : Search) (status tag : Nat) : List Byte :=
  let p := x.best
  leBytes 1 x.req.signal ++ leBytes 1 x.req.svid ++
  leBytes 1 (flag (decide (x.req.ant = .b)) 0 + flag x.req.snapshot 1 + flag x.req.aided 2) ++ leBytes 1 status ++
  leBytes 4 p.code ++ leInt 4 p.doppler ++ leBytes 4 p.peak ++ leBytes 4 p.second ++
  leBytes 2 (cnoOf p.peak x.k x.tcoh) ++ leBytes 1 x.pass ++ [0] ++ leBytes 8 tag

/-- A request refused (R127, R130): its record carries STATUS 0x03. -/
def State.acqRefuse (s : State) (r : AcqRequest) : State :=
  (s.incr Obj.acqRejected).setOct Obj.acqLastResult (acqResult (s.searchOf r 0) 3 s.now)

/-- The first request of the queue in the service order of R130. -/
def nextRequest (q : List Search) : Option Search :=
  (q.find? (·.req.relock)).orElse (fun _ => (q.find? (·.req.aided)).orElse (fun _ => q.head?))

/-- Puts the next request in service where the engine is idle. -/
def State.serveSearch (s : State) : State :=
  match s.gnss.search with
  | some _ => s
  | none =>
    match nextRequest s.gnss.queue with
    | none => s
    | some x => { s with gnss := { s.gnss with queue := s.gnss.queue.erase x, search := some x } }

/-- The channel that tracks another component of the satellite, on the same antenna before the other. -/
def State.aidFrom (s : State) (signal svid : Nat) (ant : Side) : Option Channel :=
  let l := (s.gnss.channels.map (·.2)).filter (fun c => c.en && c.coastFrom.isNone && decide (constellation c.signal = constellation signal ∧ c.svid = svid ∧ c.signal ≠ signal))
  (l.find? (fun c => decide (c.ant = ant))).orElse (fun _ => l.head?)

/-- The last position: that of the newest pose, or the one that the last save kept (R94, R145). -/
def State.lastPosition (s : State) : Option (Int × Int × Int) :=
  match s.nav.pose with
  | some p => some (p.est.lat, p.est.lon, p.est.height)
  | none => s.gnss.lastFix

/-- There is aiding for a component (R129): a tracked component of the same satellite, or position and time. -/
def State.hasAiding (s : State) (r : AcqRequest) : Bool :=
  (s.aidFrom r.signal r.svid r.ant).isSome || (s.lastPosition.isSome && s.clk.valid)

/-- A request enters the queue (R130). An unaided search of a component outside R129 is not made, nor an aided one without
aiding; in a base none is made for ANT_B (R114). -/
def State.acqEnqueue (s : State) (r : AcqRequest) : State :=
  if (if r.aided then !s.hasAiding r && !r.relock else !unaidedAllowed r.signal) || (decide (s.mode.role = some .base) && decide (r.ant = .b)) then s
  else if 64 ≤ s.gnss.queue.length then s.acqRefuse r
  else match searchPasses (s.searchBins r).1 (s.searchBins r).2 with
    | none => s.acqRefuse r
    | some n => ({ s with gnss := { s.gnss with queue := s.gnss.queue ++ [s.searchOf r n] } }).serveSearch

/-- The firmware requests a search. -/
def State.acqRequest (s : State) (r : AcqRequest) : State :=
  if !(s.hasRole .base || s.hasRole .rover) ∨ 30 < r.signal then s else s.acqEnqueue r

/-- A search ends with its record (R132), and the next one is served. -/
def State.endSearch (s : State) (x : Search) (status tag : Nat) : State :=
  let s := (s.incr Obj.acqSearches).setOct Obj.acqLastResult (acqResult x status tag)
  let s := if status = 2 then s.incr Obj.acqRejected else s
  ({ s with gnss := { s.gnss with search := none } }).serveSearch

/-- The cells of the pass in service: all code bins for its Doppler bins (R127). -/
def Search.passCells (x : Search) : Nat :=
  let per := 16384 / max 1 x.codeBins
  x.codeBins * min per (x.dopplerBins - x.pass * per)

/-- A pass takes the coherent sums of its cells, code bins first: their metrics over the noise mean of the pass. -/
def Search.takePass (x : Search) (cells : List (List (Int × Int))) : Search :=
  let m := (((cells.take x.passCells).map (cellMetric x.k)) ++ List.replicate (x.passCells - cells.length) 0)
  let mean := noiseMean x.k m
  { x with pass := x.pass + 1, cells := x.cells ++ m.map (inNoise x.k mean), noise := x.noise ++ [mean] }

/-- A pass ends: after the last one the peak search runs over all, and a detection is verified, or the search ends without one
(R127, R131). -/
def State.acqPassComplete (s : State) (cells : List (List (Int × Int))) : State :=
  match s.gnss.search with
  | none => s
  | some x =>
    if x.verifying then s
    else
      let x := x.takePass cells
      if x.pass < x.passes then { s with gnss := { s.gnss with search := some x } }
      else
        let x := { x with best := x.peak }
        if detects x.k x.alarm x.best.peak then { s with gnss := { s.gnss with search := some { x with verifying := true } } }
        else s.endSearch x 1 s.now

/-- The channel granted to a component, or else the first free one (R120). -/
def State.channelFor (s : State) (r : AcqRequest) : Option Nat :=
  match s.gnss.channels.find? (fun e => decide (e.2.signal = r.signal ∧ e.2.svid = r.svid ∧ e.2.ant = r.ant ∧ e.2.rank ≠ 0)) with
  | some e => if e.2.en then none else some e.1
  | none => (List.range 512).find? (fun n => !(s.gnss.channels.any (fun e => e.1 == n)))

/-- The rank of a component (R120): on ANT_B 3; on ANT_A 2 for the data component of an enabled pilot, else 1. -/
def rankOf (enable signal : Nat) (ant : Side) : Nat :=
  match ant with
  | .b => 3
  | .a => if (signalInfo signal).data && hasPilot signal && bit enable (signalInfo signal).partner then 2 else 1

/-- The step that aligns a replica at phase 0 now to an acquired code phase at a tick, in 1/256 chip, the code's motion since then
with it (R132, R133): a channel that starts has RATE times 163.68 MHz / 2^48 chips per second. -/
def handoverSlew (signal code rate tag now : Nat) : Int :=
  let moved := rate * 163680000 * 256 * (now - tag) / (2 ^ 48 * 2000000000)
  ((code + moved) % ((signalInfo signal).chips * 256) : Nat)

/-- Hands a verified detection over to a channel (R131, R125): FREQ, RATE and SLEW go in as one set with which the channel starts
(R126). A component that is no longer enabled is not tracked (R118). -/
def State.handOver (s : State) (x : Search) (tag : Nat) : State :=
  if x.req.snapshot ∨ !s.gnssRuns ∨ !bit s.gnss.enable x.req.signal then s
  else match s.channelFor x.req with
    | none => s
    | some n =>
      let old := s.chan n
      let rate := dopplerRate x.req.signal x.req.svid x.best.doppler
      let slew := handoverSlew x.req.signal x.best.code rate tag s.now
      let c : Channel :=
        { Channel.idle with
          en := true, ant := x.req.ant, signal := x.req.signal, svid := x.req.svid
          rank := if old.rank = 0 then rankOf s.gnss.enable x.req.signal x.req.ant else old.rank, slave := old.slave, master := old.master,
          tapOfs := s.tapOffset x.req.signal, freq := freqWord (s.startMHz x.req.signal x.req.svid x.best.doppler), rate := rate,
          code := ((slew * 2 ^ 40) % (codePeriod x.req.signal : Int)).toNat, lastTag := tag }
      (s.setChan n c).noteChans

/-- The verification pass over the 3 × 3 cells ends (R131): STATUS 0x00 and hand-over where its largest metric exceeds the same
threshold over the noise of the detection's pass, or STATUS 0x02. -/
def State.acqVerifyComplete (s : State) (cells : List (List (Int × Int))) (tag : Nat) : State :=
  match s.gnss.search with
  | none => s
  | some x =>
    if !x.verifying then s
    else
      let m := ((cells.take 9).map (cellMetric x.k)).foldl max 0
      if detects x.k x.alarm (inNoise x.k x.bestNoise m) then (s.handOver x tag).endSearch x 0 tag
      else s.endSearch x 2 tag

/-! ### Channels released (R118, R120) -/

/-- Releases a channel: it returns to its reset words. -/
def State.releaseChan (s : State) (n : Nat) : State := s.setChan n Channel.idle

/-- Releases every channel that a test picks (R118, R120). -/
def State.releaseWhere (s : State) (p : Channel → Bool) : State :=
  s.gnss.channels.foldl (fun s e => if p e.2 then s.releaseChan e.1 else s) s

/-- SignalEnable takes effect (R118). -/
def State.takeEnable (s : State) : State :=
  let e := s.regN Obj.signalEnable
  let s := { s with gnss := { s.gnss with enable := e } }
  s.releaseWhere (fun c => !bit e c.signal)

/-! ### Channel ranking (R120) -/

/-- A component wanted: rank, elevation, SignalId, satellite, antenna. -/
structure Wanted where
  rank : Nat
  elevation : Int
  signal : Nat
  svid : Nat
  ant : Side
  deriving DecidableEq, Repr

/-- Put in rank order, the higher elevation first within a rank. -/
def insertWanted (x : Wanted) : List Wanted → List Wanted
  | [] => [x]
  | y :: t => if x.rank < y.rank ∨ (x.rank = y.rank ∧ y.elevation < x.elevation) then x :: y :: t else y :: insertWanted x t

/-- Components of a satellite by rank: pilots (or data without pilot) on ANT_A, the data components of pilots, and in
the rover role one component per carrier on ANT_B, the pilot before a data component. DESIGN CHOICE (log 157): a data component whose
pilot is not enabled, or not sent by the satellite, has rank 1. -/
def wantedOf (rover : Bool) (enable : Nat) (v : SatView) : List Wanted :=
  let on := v.signals.filter (fun n => bit enable n && decide (n ≤ 30))
  let lead := on.filter (fun n => !(signalInfo n).data || !hasPilot n || !on.contains (signalInfo n).partner)
  let follow := on.filter (fun n => (signalInfo n).data && hasPilot n && on.contains (signalInfo n).partner)
  -- one component per carrier frequency: the first pilot of the carrier, or else its first lead
  let pilots := lead.filter (fun n => !(signalInfo n).data) ++ lead.filter (fun n => (signalInfo n).data)
  let perCarrier := lead.filter (fun n => decide ((pilots.find? (fun m => decide ((signalInfo m).khz = (signalInfo n).khz))) = some n))
  let mk := fun (r : Nat) (ant : Side) (n : Nat) =>
    ({ rank := r, elevation := v.elevation, signal := n, svid := v.svid, ant := ant } : Wanted)
  lead.map (mk 1 .a) ++ follow.map (mk 2 .a) ++ (if rover then perCarrier.map (mk 3 .b) else [])

/-- The channel held for a component. -/
def State.heldFor (s : State) (w : Wanted) : Option Nat :=
  (s.gnss.channels.find? (fun e => decide (e.2.rank ≠ 0 ∧ e.2.signal = w.signal ∧ e.2.svid = w.svid ∧ e.2.ant = w.ant))).map (·.1)

/-- The middle of the window of an aided search (R129): code phase in 1/256 chip and Doppler in mHz, from a tracked component of the
satellite, whose Doppler scales with the carrier, or from position, time and ephemeris. -/
def State.aidMiddle (s : State) (signal svid : Nat) (ant : Side) : Nat × Int :=
  match s.aidFrom signal svid ant with
  | some c =>
    let d := s.dopplerOf c c.freq
    (c.code * (signalInfo signal).halfChipsPerMs * 256 / (max 1 (signalInfo c.signal).halfChipsPerMs * 2 ^ 48) % ((signalInfo signal).chips * 256),
     d * carrierMHz signal svid / carrierMHz c.signal c.svid)
  | none => Config.aidPredict signal svid (s.lastPosition.getD (0, 0, 0)) s.time64

/-- An aided search of a component, its window about the middle. -/
def State.aidedRequest (s : State) (signal svid : Nat) (ant : Side) (relock : Bool) : AcqRequest :=
  let w := Config.aidWindow signal
  let m := s.aidMiddle signal svid ant
  let len := (signalInfo signal).chips * 256
  { signal := signal, svid := svid, ant := ant, aided := true, relock := relock, snapshot := false
    codeFrom := (m.1 + len - w.1 / 2 * codeStep signal % len) % len, dopplerMid := m.2, codeBins := w.1, dopplerBins := w.2 }

/-- A search for a component that has been granted a channel: aided unless R129 lets it be searched unaided. -/
def State.grantRequest (s : State) (w : Wanted) : AcqRequest :=
  if unaidedAllowed w.signal then { s.aidedRequest w.signal w.svid w.ant false with aided := false } else s.aidedRequest w.signal w.svid w.ant false

/-- Grants a channel: it is reserved for the component, slaved to its pilot where it is the data component of one
(R119), and the component is queued for acquisition. -/
def State.grant (s : State) (n : Nat) (w : Wanted) : State :=
  let pilot := if w.rank = 2 then s.heldFor { w with signal := (signalInfo w.signal).partner } else none
  let c : Channel :=
    { Channel.idle with rank := w.rank, signal := w.signal, svid := w.svid, ant := w.ant, slave := pilot.isSome, master := pilot.getD 0 }
  (s.setChan n c).acqEnqueue (s.grantRequest w)

/-- Serves the wanted components in rank order: a free channel, or the channel of a lower rank with at most 8
pre-emptions; the rest are counted as withheld. DESIGN CHOICE (log 158): of several channels of a lower rank the first in channel
order is pre-empted. -/
def grantAll : List Wanted → Nat → Nat → State → State
  | [], _, withheld, s => s.setReg Obj.channelsWithheld (min withheld 65535)
  | w :: t, pre, withheld, s =>
    if (s.heldFor w).isSome then grantAll t pre withheld s
    else match (List.range 512).find? (fun n => !(s.gnss.channels.any (fun e => e.1 == n))) with
      | some n => grantAll t pre withheld (s.grant n w)
      | none =>
        match s.gnss.channels.find? (fun e => decide (w.rank < e.2.rank)) with
        | some e => if pre < 8 then grantAll t (pre + 1) withheld ((s.releaseChan e.1).grant e.1 w) else grantAll t pre (withheld + 1) s
        | none => grantAll t pre (withheld + 1) s

/-- The ranking of every 1 s: channels of satellites below the mask or of disabled components are released, then channels
are granted by rank. -/
def State.channelRanking (s : State) (view : List SatView) : State :=
  if !s.gnssRuns then s
  else
    let up := view.filter (fun v => decide (s.reg Obj.elevationMask * 100 ≤ v.elevation))
    let wanted := (up.flatMap (wantedOf (decide (s.mode.role = some .rover)) s.gnss.enable)).foldl (fun l w => insertWanted w l) []
    let s := s.releaseWhere (fun c => decide (c.rank ≠ 0) &&
      !(wanted.any (fun w => decide (w.signal = c.signal ∧ w.svid = c.svid ∧ w.ant = c.ant))))
    (grantAll wanted 0 0 s).noteChans

/-- A write of SignalEnable: checked by its range, in force from the next tracking frame (R118). -/
def State.signalEnableWrite (s : State) (q : Sess) (v : Int) : State :=
  s.writeCommand q Obj.signalEnable v (fun s => s.applyNum Obj.signalEnable 0 v)

end Sys2Proof.Machine
end

