-- ==== Sys2Proof/Machine/NavData.lean ====
section
/-!
DEFINITION. Machine/NavData.lean: navigation data (R134 to R138) and the system times of the constellations (R162).
-/
namespace Sys2Proof.Machine

/-! ### System times (R162) -/

/-- TAI less the time of a constellation in ns: 19 s for GPS, Galileo and QZSS, 33 s for BeiDou; GLONASS runs on UTC + 3 h, and none
before a leap-second count is known. -/
def systemLead (leap : Option Nat) (constel : Nat) : Option Int :=
  match constel with
  | 2 => some 33000000000
  | 4 => leap.map (fun (n : Nat) => (n : Int) * 1000000000 - 10800000000000)
  | _ => some 19000000000

/-- TIME64 as the time of a constellation. -/
def systemTime (leap : Option Nat) (constel : Nat) (tai : Int) : Option Int := (systemLead leap constel).map (fun d => tai - d)

/-- The time of a constellation as TIME64. -/
def taiOf (leap : Option Nat) (constel : Nat) (t : Int) : Option Int := (systemLead leap constel).map (fun d => t + d)

/-! ### Records (R136) -/

/-- Message bits in transmission order, the first in bit 7, padded with zeros to a whole number of bytes. -/
def packBits (bits : List Bool) (bytes : Nat) : List Byte :=
  (List.range bytes).map (fun i => BitVec.ofNat 8 ((List.range 8).foldl (fun n j => 2 * n + if bits.getD (8 * i + j) false then 1 else 0) 0))

/-- The navigation record (R136). -/
def navRecord (n : Nat) (c : Channel) (message : NavMessage) (status : Nat) (inverted : Bool) (bits : List Bool) (time : Int) : List Byte :=
  leBytes 1 c.signal ++ leBytes 1 c.svid ++ leBytes 2 (n % 512 + flag (decide (c.ant = .b)) 15) ++ leBytes 1 status ++
  leBytes 1 (flag inverted 0 + flag message.fec 1) ++ leInt 1 (if message = .glonass then Config.glonassChannel c.svid else 0) ++ [0] ++
  leInt 8 time ++ leBytes 2 bits.length ++ [0, 0] ++ packBits bits ((bits.length + 31) / 32 * 4)

/-- A record goes to the firmware's Alley queue, and to the host copy where it is enabled (R138). -/
def State.deliverNav (s : State) (record : List Byte) : State :=
  let s := { s with gnss := { s.gnss with navRecord := record } }
  if s.reg Obj.navHostOutput = 1 then
    let (h, s, st) := s.hostCopy s.gnss.navCopy (s.regN Obj.navHostQueue) 524288 record
    let s := { s with gnss := { s.gnss with navCopy := h } }
    if st then s.setReg Obj.navHostOutput 0 else s
  else s

/-! ### Units (R134, R135, R137) -/

/-- The symbols of the unit that ended with the newest symbol, their polarity undone where they are inverted. -/
def Channel.unit (c : Channel) (len : Nat) (inverted : Bool) : List Bool :=
  (c.symbols.drop (c.symbols.length - len)).map (· != inverted)

/-- What a unit that passed its check tells the receiver: the leap-second count of GPS LNAV and CNAV (R162), the almanac (R94), and the
time at which its first bit was sent (R158). -/
def State.learnUnit (s : State) (n : Nat) (c : Channel) (bits : List Bool) (first : Nat) : State :=
  let leap := if c.signal = 0 ∨ c.signal = 3 ∨ c.signal = 5 then (Config.unitLeap c.signal bits).or s.obs.leap else s.obs.leap
  let s := { s with obs := { s.obs with leap := leap } }
  let s := { s with gnss := { s.gnss with almanac := Config.almanacDigest s.gnss.almanac (packBits bits ((bits.length + 7) / 8)) } }
  match (Config.unitTime c.signal bits).bind (taiOf leap (constellation c.signal)) with
  | none => s
  | some t => s.setChan n { s.chan n with sent := some (t, first) }

/-- The code epoch on which the newest bit edge fell. -/
def Channel.lastEdge (c : Channel) : Nat :=
  let b := bitEpochs c.signal
  c.epochs - (c.epochs + b - c.edge.getD 0 % b) % b

/-- A delivery unit ends with the newest symbol of a channel (R135 to R137): it is decoded, checked and delivered. No record is delivered
for a unit that began before polarity was resolved. -/
def State.navUnitComplete (s : State) (u : NavUnit) : State :=
  let c := s.chan u.channel
  if !(s.gnssRuns && c.en) then s
  else match messageOf c.signal with
  | none => s
  | some m =>
    let len := m.symbols u.part
    if c.symbols.length < len then s
    else
      let inverted := u.polarity.getD c.inverted
      let sym := c.unit len inverted
      let x := checkUnit c.signal m u.part u.firstWord c.lastWord sym
      let first := c.lastEdge - len * bitEpochs c.signal
      let time := c.bitTime - ((len * bitMs c.signal * 1000000 : Nat) : Int)
      let resolved := c.resolved || u.polarity.isSome
      let s := s.setChan u.channel { c with
        symbols := [], resolved := resolved, inverted := inverted, unitResolved := resolved,
        lastWord := (sym.getD (len - 2) false, sym.getD (len - 1) false) }
      if !c.unitResolved then s
      else
        let s := if x.2 = 2 then s.incr Obj.navCheckFailed else s.learnUnit u.channel c x.1 first
        s.deliverNav (navRecord u.channel c m x.2 inverted x.1 time)

/-- A loss of lock cuts the unit in progress: its bits so far are delivered with STATUS 0x03 (R137). -/
def State.cutUnit (s : State) (n : Nat) : State :=
  let c := s.chan n
  match messageOf c.signal with
  | none => s
  | some m =>
    if c.symbols.isEmpty || !c.unitResolved then s
    else s.deliverNav (navRecord n c m 3 c.inverted (c.symbols.map (· != c.inverted)) c.unitTime)

/-- A write of NavHostOutput: 1 resumes the copy from the next record (R138). -/
def State.navHostOutputWrite (s : State) (q : Sess) (v : Int) : State :=
  s.writeCommand q Obj.navHostOutput v (fun s =>
    let s := s.setReg Obj.navHostOutput v
    .ok (if v = 1 then { s with gnss := { s.gnss with navCopy := { s.gnss.navCopy with stopped := false } } } else s))

end Sys2Proof.Machine
end

