-- ==== Sys2Proof/Machine/Track.lean ====
section
/-!
DEFINITION. Machine/Track.lean: the tracking programs (R147 to R156) and their frame (R124).
-/
namespace Sys2Proof.Machine

/-! ### Gain regions (R150 to R152) -/

/-- The lower C/N0 bound of region r, 0.01 dB-Hz (R150). -/
def regionLower (r : Nat) : Int := [4500, 4000, 3600, 3300, 3000, 2700, 2400].getD r (-1000000)

/-- T_coh of a region in ms (R150). -/
def regionTcoh (r : Nat) : Nat := [1, 2, 5, 10, 20, 20, 20].getD r 1

/-- B_L of the PLL of a region in mHz, by TrackingProfile; 0: none (R150). -/
def pllBandwidth (highDynamic : Bool) (r : Nat) : Nat :=
  (if highDynamic then [25000, 22000, 18000, 15000, 10000, 6000] else [18000, 15000, 12000, 10000, 6000, 4000]).getD r 0

/-- B_L of the FLL of a region in mHz; 0: none (R150). -/
def fllBandwidth (r : Nat) : Nat := [0, 0, 0, 0, 0, 2000, 1000].getD r 0

/-- B_L of the DLL of a region in mHz; 0: carrier-aided only (R150). -/
def dllBandwidth (r : Nat) : Nat := [1000, 500, 500, 250, 200, 100, 50].getD r 0

/-- The region after an evaluation: at most one step, up with 1.0 dB-Hz of hysteresis (R152). -/
def nextRegion (r : Nat) (cn0 : Int) : Nat :=
  if r < 7 ∧ cn0 < regionLower r then r + 1
  else if 0 < r ∧ regionLower (r - 1) + 100 ≤ cn0 then r - 1
  else r

/-- The region whose gains the loops use: 6 while phase lock is absent (R153). -/
def Channel.gains (c : Channel) : Nat := if c.phaseLock then c.region else 6

/-- The bound on T_coh in ms that the component sets (R151): its data bit or secondary chip once synchronised; none of a pilot without
a secondary code in phase lock; else one code epoch. -/
def Channel.tcohBound (c : Channel) : Nat :=
  if bitMs c.signal = 0 then (if c.phaseLock then 20 else epochMs c.signal)
  else if c.edge.isSome then bitMs c.signal else epochMs c.signal

/-- T_coh in ms: the smallest bound, in whole code epochs, at least one (R151). -/
def Channel.tcoh (c : Channel) : Nat :=
  max (epochMs c.signal) (min (regionTcoh c.gains) c.tcohBound / epochMs c.signal * epochMs c.signal)

/-! ### Loops (R147) -/

/-- Tap i of a dump. -/
def Dump.tap (d : Dump) (i : Nat) : Int := d.taps.getD i 0

/-- The power of two numbers. -/
def powerOf (x : Int × Int) : Int := x.1 * x.1 + x.2 * x.2

/-- The power of a tap pair. -/
def Dump.power (d : Dump) (i : Nat) : Nat := (powerOf (d.tap i, d.tap (i + 1))).toNat

/-- Keeps the coherent sums of the last 100 ms. -/
def keepSums : Nat → List (Nat × Int × Int) → List (Nat × Int × Int)
  | _, [] => []
  | budget, x :: t => if x.1 ≤ budget then x :: keepSums (budget - x.1) t else []

/-- A channel coasts. -/
def Channel.coasts (c : Channel) : Bool := c.coastFrom.isSome

/-- The arctangent of four quadrants applies to pilots and to channels slaved to one (R147). -/
def Channel.fourQuadrants (c : Channel) : Bool := !(signalInfo c.signal).data || c.slave

/-- The cross and the dot product of the coherent sum in progress with the one before. -/
def Channel.turn (c : Channel) : Int × Int :=
  match c.sums with
  | [] => (0, 0)
  | p :: _ => (p.2.1 * c.sumQ - p.2.2 * c.sumI, p.2.1 * c.sumI + p.2.2 * c.sumQ)

/-- The integrators with which the carrier loop runs: those it has, or, where its gains changed or a coast ended, those that give the
FREQ in force (R152, R154, R211). -/
def Channel.loopNow (highDynamic : Bool) (c : Channel) : Int × Int :=
  if c.gainsAt = c.gains then c.loop
  else Config.loopInit (pllBandwidth highDynamic c.gains) (fllBandwidth c.gains) c.tcoh (BitVec.ofInt 48 c.freq)

/-- The loops close on a finished coherent sum: FREQ from the carrier loop, RATE from its Doppler and the code loop (R147). -/
def State.closeLoops (s : State) (c : Channel) : Channel :=
  let hd := decide (s.reg Obj.trackingProfile = 1)
  let g := c.gains
  let e := Config.pllError c.fourQuadrants c.sumI c.sumQ
  let w := Config.fllError c.turn.1 c.turn.2
  let r := Config.carrierLoop (pllBandwidth hd g) (fllBandwidth g) c.tcoh e w (c.loopNow hd) (BitVec.ofInt 48 c.freq)
  let early := powerOf c.sumE
  let late := powerOf c.sumL
  let aided : Int := dopplerRate c.signal c.svid (s.dopplerOf c r.2.toInt)
  { c with loop := r.1, gainsAt := g, newFreq := some r.2.toInt,
           newRate := some (aided + Config.codeLoop (dllBandwidth g) c.tcoh (early - late) (early + late)).toNat }

/-- One dump taken by the tracking program (R147, R154): a dump with SAT gives no loop update; the coherent sum ends at T_coh or at a
data bit edge, and the loops then write new NCO words unless the channel coasts. -/
def State.takeDump (s : State) (c : Channel) (d : Dump) : Channel :=
  let same := decide (d.taps = c.lastTaps)
  let c := { c with lastTag := d.tag, lastTaps := d.taps, sameRun := if same then c.sameRun + 1 else 1,
                    satRun := if d.sat then c.satRun + 1 else 0 }
  if d.sat then c
  else
    let c := { c with sumI := c.sumI + d.tap 4, sumQ := c.sumQ + d.tap 5, sumDumps := c.sumDumps + epochMs c.signal,
                      sumE := (c.sumE.1 + d.tap 2, c.sumE.2 + d.tap 3), sumL := (c.sumL.1 + d.tap 6, c.sumL.2 + d.tap 7),
                      noise := ((d.tap 10, d.tap 11) :: c.noise).take (100 / epochMs c.signal),
                      powVE := c.powVE + d.power 0, powP := c.powP + d.power 4, powVL := c.powVL + d.power 8, powDumps := c.powDumps + 1 }
    if c.sumDumps < c.tcoh ∧ !d.bitEdge then c
    else
      let c' := if c.coasts then c else s.closeLoops c
      { c' with sums := keepSums 100 ((c.sumDumps, c.sumI, c.sumQ) :: c.sums), sumI := 0, sumQ := 0, sumDumps := 0, sumE := (0, 0), sumL := (0, 0) }

/-! ### Lock and side peaks (R148, R153) -/

/-- ΣP_I² − ΣP_Q² and ΣP_I² + ΣP_Q² of the sums kept (R153). -/
def Channel.lockSums (c : Channel) : Int × Int :=
  c.sums.foldl (fun a x => (a.1 + x.2.1 * x.2.1 - x.2.2 * x.2.2, a.2 + x.2.1 * x.2.1 + x.2.2 * x.2.2)) (0, 0)

/-- Phase lock judged on the indicator: declared at 0.80, lost below 0.60 (R153). -/
def Channel.judgeLock (c : Channel) : Bool :=
  let (n, d) := c.lockSums
  if c.phaseLock then decide (60 * d ≤ 100 * n ∧ 0 < d) else decide (80 * d ≤ 100 * n ∧ 0 < d)

/-- The evaluation every 20 ms (R148, R150 to R153): C/N0, phase lock, region, side peak. A loss of phase lock governs over a
region change. -/
def Channel.evaluate (now : Nat) (c : Channel) : Channel :=
  let cn := Config.cn0 c.sums c.noise
  let lock := c.judgeLock
  let lost := c.phaseLock && !lock
  let won := !c.phaseLock && lock
  { c with
    cn0 := cn, phaseLock := lock, region := if lost then c.region else nextRegion c.region cn,
    lockFrom := if lost then none else if won then some now else c.lockFrom, phaseBase := if lost then none else c.phaseBase,
    lockBroken := c.lockBroken || lost || won }

/-- The channel stands on a side peak: VE or VL power above P power (R148). -/
def Channel.sidePeak (c : Channel) : Bool :=
  (signalInfo c.signal).boc && decide (0 < c.powDumps) && decide (c.powP < max c.powVE c.powVL)

/-- Half a chip towards the larger outer tap, the lock time reset (R148). Early taps lie at negative code offset and a
positive slew advances the replica, so it advances towards VE (log 21). DESIGN CHOICE (log 159): of two equal taps, towards VL. -/
def Channel.correctPeak (now : Nat) (c : Channel) : Channel :=
  { c with newSlew := some (if c.powVL < c.powVE then 128 else -128), lockFrom := if c.phaseLock then some now else none, phaseBase := none,
           lockBroken := true }

/-! ### Coasting (R154 to R156) -/

/-- The conditions of R154 and R156 under which a channel coasts; start: the start of the tracking frame. -/
def State.mustCoast (s : State) (n : Nat) (c : Channel) : Bool :=
  decide (c.region = 7) || decide (c.lastTag + ticksMs 3 < s.now) || decide (50 ≤ c.sameRun) || decide (3 ≤ c.satRun)
    || s.gnss.suspended.contains (n / 64)

/-- A coast begins: FREQ is held, RATE follows it by carrier aiding, the lock time is zero (R154). -/
def State.startCoast (s : State) (c : Channel) : Channel :=
  if c.coasts then c
  else { c with coastFrom := some s.now, newFreq := none, newRate := some (dopplerRate c.signal c.svid (s.dopplerOf c c.freq)),
                lockFrom := none, phaseBase := none, lockBroken := true }

/-- A coast ends: the lock time restarts from zero, and the loops resume bumplessly (R154): with no gains set, the next sum re-initialises
them. -/
def State.endCoast (s : State) (c : Channel) : Channel :=
  if !c.coasts then c
  else { c with coastFrom := none, lockFrom := if c.phaseLock then some s.now else none, phaseBase := none, lockBroken := true, gainsAt := 8 }

/-- Enters or leaves coasting (R154). -/
def State.judgeCoast (s : State) (n : Nat) (c : Channel) : Channel := if s.mustCoast n c then s.startCoast c else s.endCoast c

/-- A channel as it is granted and not yet acquired: rank, component, antenna and master stay. -/
def Channel.vacant (c : Channel) : Channel :=
  { Channel.idle with rank := c.rank, signal := c.signal, svid := c.svid, ant := c.ant, slave := c.slave, master := c.master }

/-- A channel is released and its component searched again with aiding. -/
def State.reacquire (s : State) (n : Nat) (relock : Bool) : State :=
  let c := s.chan n
  ((s.setChan n c.vacant).noteChans).acqEnqueue (s.aidedRequest c.signal c.svid c.ant relock)

/-- A channel that has coasted for 1 s has lost lock (R155): the unit it was in is delivered as cut (R137), and it is released and
re-acquired in the first class. Channels of a suspended group coast until it is resumed (R156). -/
def State.lossOfLock (s : State) (n : Nat) : State :=
  let c := s.chan n
  if !(s.gnssRuns && c.en) ∨ s.gnss.suspended.contains (n / 64) then s
  else match c.coastFrom with
    | none => s
    | some t => if s.now < t + ticksMs 1000 then s else ((s.cutUnit n).incr Obj.lossOfLockCount).reacquire n true

/-- A suspended group's channels coast at once (R156, R217). -/
def State.coastGroup (s : State) (k : Nat) : State :=
  let s := s.mapChans (fun n c => if c.en && decide (n / 64 = k) then s.startCoast c else c)
  { s with gnss := { s.gnss with
      suspended := s.gnss.suspended.filter (fun j => decide (j ≠ k)) ++ [k], staged := s.gnss.staged.filter (fun e => decide (e.1 / 64 ≠ k)) } }

/-- A resumed group: channels that coasted for 1 s or more are released and searched again with aiding, the others track again with their
lock time at zero (R156). -/
def State.resumeTracking (s : State) (k : Nat) : State :=
  let s := { s with gnss := { s.gnss with suspended := s.gnss.suspended.filter (fun j => decide (j ≠ k)) } }
  s.gnss.channels.foldl (fun s e =>
    if !(e.2.en && decide (e.1 / 64 = k)) then s
    else match e.2.coastFrom with
      | none => s
      | some t => if t + ticksMs 1000 ≤ s.now then s.reacquire e.1 false else s.setChan e.1 (s.endCoast e.2)) s

/-! ### The tracking frame (R124, R149) -/

/-- The whole millisecond of receiver time whose tracking frame has started: it starts 25 µs after it (R124). -/
def State.frameMsNow (s : State) : Int := (s.time64 - 25000) / 1000000

/-- A dump whose code epoch ended before a whole millisecond. -/
def State.dumpBefore (s : State) (ms : Int) (d : Dump) : Bool := decide (timeOf s.clk d.tag < ms * 1000000)

/-- What the tracking program makes of a channel in a frame: its dumps in epoch order, each twentieth frame the evaluation, then
coasting. Answers whether a side peak was corrected. -/
def State.frameChannel (s : State) (n : Nat) (c : Channel) (dumps : List Dump) (evaluates : Bool) : Channel × Bool :=
  let c := (dumps.filter (fun d => decide (d.channel = n))).foldl s.takeDump c
  if !evaluates then (s.judgeCoast n c, false)
  else
    let c := c.evaluate s.now
    let hit := c.sidePeak
    let c := if hit then c.correctPeak s.now else c
    (s.judgeCoast n { c with powVE := 0, powP := 0, powVL := 0, powDumps := 0 }, hit)

/-- A tracking group has a frame between its start and its output phase. -/
def State.groupOpen (s : State) (k : Nat) : Bool :=
  s.blv.frames.any (fun f => s.blv.programs.any (fun p => decide (p.number = f.program ∧ p.group = k)))

/-- A channel's result is committed: at once, or with the output phase of its group's open frame (R200). -/
def State.commitChannel (s : State) (n : Nat) (x : Channel × Bool) : State :=
  let s := if x.2 then s.incr Obj.sidePeakCount else s
  if s.groupOpen (n / 64) then { s with gnss := { s.gnss with staged := s.gnss.staged.filter (fun e => decide (e.1 ≠ n)) ++ [(n, x.1)] } }
  else s.setChan n x.1

/-- One tracking frame per millisecond (R124): the channels of every group that is not suspended take the dumps whose epochs ended before
it; each twentieth frame evaluates the regions (R152). -/
def State.trackingFrame (s : State) : State :=
  let ms := s.frameMsNow
  if !s.gnssRuns ∨ s.gnss.frameMs = some ms then s
  else
    let s := if s.gnss.enable = s.regN Obj.signalEnable then s else s.takeEnable
    let dumps := s.gnss.dumps.filter (s.dumpBefore ms)
    let k := (s.gnss.frames + 1) % 20
    let s := { s with gnss := { s.gnss with dumps := s.gnss.dumps.filter (fun d => !s.dumpBefore ms d), frames := k, frameMs := some ms } }
    (s.gnss.channels.foldl (fun s e =>
      if !e.2.en || s.gnss.suspended.contains (e.1 / 64) then s
      else s.commitChannel e.1 (s.frameChannel e.1 (s.chan e.1) dumps (decide (k = 0)))) s).noteChans

/-- The output phase of a tracking group's frame: what it staged is committed together (R200); an abandoned frame commits nothing
(R216). What the hardware has done to a channel since stays: its phases, its counts and its bits. -/
def Channel.commit (now staged : Channel) : Channel :=
  { staged with
    en := now.en, freq := now.freq, rate := now.rate, carrier := now.carrier, code := now.code, epochs := now.epochs, tapOfs := now.tapOfs,
    carrierWas := now.carrierWas, codeWas := now.codeWas, endedAt := now.endedAt, drift := now.drift, edge := now.edge, edgeHist := now.edgeHist,
    signs := now.signs, bitSum := now.bitSum, bitTime := now.bitTime, symbols := now.symbols, unitTime := now.unitTime,
    unitEpoch := now.unitEpoch, unitResolved := now.unitResolved, lastWord := now.lastWord, sent := now.sent, resolved := now.resolved,
    inverted := now.inverted }

/-- The staged channels of a group are committed, or dropped. -/
def State.commitTracking (s : State) (k : Nat) (commits : Bool) : State :=
  let mine := s.gnss.staged.filter (fun e => decide (e.1 / 64 = k))
  let s := { s with gnss := { s.gnss with staged := s.gnss.staged.filter (fun e => decide (e.1 / 64 ≠ k)) } }
  if !commits then s
  else mine.foldl (fun s e => if (s.chan e.1).en then s.setChan e.1 ((s.chan e.1).commit e.2) else s) s

end Sys2Proof.Machine
end

