-- ==== Sys2Proof/Machine/Boulevard.lean ====
section
/-!
DEFINITION. Machine/Boulevard.lean: the loop engine (R184 to R224): loading, frames and output phases,
fallback, banks, groups.
-/
namespace Sys2Proof.Machine

/-- Changes Boulevard. -/
def State.updBlv (s : State) (f : BlvState → BlvState) : State := { s with blv := f s.blv }

/-- A loop group. -/
def State.group (s : State) (g : Nat) : Group := Tab.get Group.idle s.blv.groups g

/-- The code of a group state (R219). -/
def groupCode : GroupState → Nat
  | .disabled => 0 | .starting => 1 | .running => 2 | .stopping => 3 | .suspended => 4

/-- Puts a group back; GroupState, ConsecutiveOverruns and SuspendCause show it. -/
def State.setGroup (s : State) (g : Nat) (x : Group) : State :=
  let s := s.updBlv (fun b => { b with groups := Tab.put Group.idle b.groups g x })
  ((s.setRegAt Obj.groupState g (groupCode x.state)).setRegAt Obj.consecutiveOverruns g x.overruns).setRegAt Obj.suspendCause g x.cause

/-- A loop. -/
def State.loop (s : State) (n : Nat) : Loop := Tab.get Loop.idle s.blv.loops n

/-- Puts a loop back; Region and Output show it. -/
def State.setLoop (s : State) (n : Nat) (x : Loop) : State :=
  let s := s.updBlv (fun b => { b with loops := Tab.put Loop.idle b.loops n x })
  (s.setRegAt Obj.region n x.region).setRegAt Obj.output n x.out

/-- The loop is in HOLD. -/
def Loop.hold (x : Loop) : Bool := x.stale || x.frozen || x.modeHold

/-- The loops of a group. -/
def State.groupLoops (s : State) (g : Nat) : List LoopDesc := (s.blv.programs.filter (fun p => decide (p.group = g))).flatMap (·.loops)

/-- The group has a program. -/
def State.groupLoaded (s : State) (g : Nat) : Bool := s.blv.programs.any (fun p => decide (p.group = g))

/-- LoopStatus (R223). -/
def State.loopStatus (s : State) (n : Nat) : Nat :=
  let x := s.loop n
  let susp := s.blv.programs.any (fun p => p.loops.any (fun d => decide (d.loop = n)) && decide ((s.group p.group).state = .suspended))
  flag x.hold 0 + flag x.stale 1 + flag x.frozen 2 + flag x.modeHold 3 + flag x.outSat 4 + flag x.fallback 5 + flag x.bfpClamp 6 + flag susp 7

/-! ### Loading (R187 to R189, R209) -/

/-- The windows of two programs overlap somewhere in the hyperperiod. Times in CK_BLV cycles: 100 µs is 40,000. -/
def windowsOverlap (p q : BlvProgram) : Bool :=
  let g := Nat.gcd (p.period * 40000) (q.period * 40000)
  let d := (((q.offset : Int) - p.offset) % g).toNat
  decide (d < p.phase) || decide (g - d < q.phase)

/-- The cycle count of a program (R191): the loader computes it from the charges of its instructions and its fallback windows. -/
def programCount (p : BlvProgram) : Nat := codeCount codeFuel p.code

/-- The timetable of an image is refused (R189): windows overlap, a period is none of R188, an output phase lies beyond the end of its
frame, or a count exceeds its window. -/
def timetableBad (img : BlvImage) : Bool :=
  (pairsOf img.programs).any (fun x => windowsOverlap x.1 x.2) ||
    img.programs.any (fun p => decide (p.period = 0) || decide (1000 % p.period ≠ 0) || decide (p.period * 40000 < p.phase) ||
      decide (p.phase < programCount p))

/-- The memories of R185 do not hold the image. -/
def memoryBad (img : BlvImage) : Bool :=
  decide (16384 < (img.programs.map (·.code.length)).foldl (· + ·) 0) || decide (262144 < img.stateBytes) ||
    img.coefs.any (fun c => decide (4096 ≤ c.1))

/-- The entry of an image at an index. -/
def imageCoef (img : BlvImage) (i : Nat) : Nat := Tab.get 0 (img.coefs.foldl (fun t c => Tab.put 0 t c.1 c.2) []) i

/-- An integrating loop has a zero Kb·T in some region (R209). -/
def kbBad (img : BlvImage) : Bool :=
  img.programs.any (fun p => p.loops.any (fun d => d.integrating && d.kb.any (fun i => decide (coefValue (imageCoef img i) = 0))))

/-- LoadStatus that an image gets: loaded, or refused for its timetable, its memory or Kb·T. -/
def loadStatusOf (img : BlvImage) : Nat := if timetableBad img then 3 else if memoryBad img then 4 else if kbBad img then 5 else 0

/-- The share of a 100 µs slot that windows cover, in ‰, for the busiest slot: programs that start in the slot. -/
def slotLoadOf (img : BlvImage) : Nat :=
  (List.range 1000).foldl (fun m k =>
    max m ((img.programs.filter (fun p => decide (p.period ≠ 0) && decide (k % p.period = p.offset / 40000))).foldl (fun n p => n + p.phase) 0 * 1000 / 40000)) 0

/-- BOOT loads the programs of the image into the instruction memory: bank A from the image and the stored integrator partition, bank A active and
copied to bank B (R187, R204); a refused image leaves no program loaded (R189). -/
def State.loadBoulevard (s : State) (img : BlvImage) : State :=
  let st := loadStatusOf img
  let s := s.setReg Obj.loadStatus st
  if st ≠ 0 then s
  else
    -- COEF, SHIFT and PART: the bits above them are reserved (R202)
    let a := img.coefs.foldl (fun t c => Tab.put 0 t c.1 (c.2 % 2 ^ 38)) []
    let a := s.blv.storedPart.foldl (fun t c => if (Tab.get 0 a c.1).testBit 37 then Tab.put 0 t c.1 c.2 else t) a
    let s := s.updBlv (fun b => { b with programs := img.programs, bankA := a, bankB := a, activeB := false })
    let s := (s.setReg Obj.programCount img.programs.length).setReg Obj.slotLoad (min 1000 (slotLoadOf img))
    img.limits.foldl (fun s l => (s.setRegAt Obj.outMin l.1 l.2.1).setRegAt Obj.outMax l.1 l.2.2) s

/-- The entry of the active bank. -/
def State.coefActive (s : State) (i : Nat) : Nat := Tab.get 0 (if s.blv.activeB then s.blv.bankB else s.blv.bankA) i

/-- The entry of the inactive bank. -/
def State.coefInactive (s : State) (i : Nat) : Nat := Tab.get 0 (if s.blv.activeB then s.blv.bankA else s.blv.bankB) i

/-! ### Frames (R190, R196, R201, R207 to R215) -/

/-- The last frame start of a program at or before a time; offsets count CK_BLV cycles of 2.5 ns. -/
def frameStart (p : BlvProgram) (t : Int) : Int :=
  let per : Int := p.period * 100000
  let off : Int := p.offset * 5 / 2
  (t - off) / per * per + off

/-- The region whose half-open range holds a value (R207). -/
def regionByBounds (bounds : List Int) (v : Int) : Nat := (bounds.takeWhile (fun b => decide (b ≤ v))).length

/-- One evaluation: at most one region, up only past the hysteresis (R208). -/
def regionStep (d : LoopDesc) (r : Nat) (v : Int) : Nat :=
  if 0 < r ∧ v < d.bounds.getD (r - 1) 0 then r - 1
  else if r < d.bounds.length ∧ d.bounds.getD r 0 + d.hysteresis ≤ v then r + 1
  else r

/-- SafeValue of a loop. -/
def State.safeOf (s : State) (n : Nat) : Int := s.regAt Obj.safeValue n

/-- The clamp of R203: to [OutMin, OutMax] and to the port's own range. -/
def State.clampOut (s : State) (d : LoopDesc) (u : Int) : Int :=
  clampInt d.portMin d.portMax (clampInt (s.regAt Obj.outMin d.loop) (s.regAt Obj.outMax d.loop) u)

/-- A stage result: exact where it fits; block floating point where the stage is eligible; else saturated. Answers
the value, and whether it fell back, was clamped there, or saturated (R194, R196 to R198). -/
def stageResult (eligible : Bool) (v : Int) : Int × Bool × Bool × Bool :=
  if fitsWord v then (v, false, false, false)
  else if eligible then
    let w := bfpWords 0 [v]
    (wordValue (true, w.1.headD 0), true, w.2, false)
  else (satWord v, false, false, true)

/-- What a loop has from its input ports and its program in a frame: its new sample with its tag, its scheduling variable, its error, the
output of its program without the integrator, and what its stages did. -/
structure LoopInput where
  sample : Option (Int × Int)
  sched : Int
  error : Int
  part : Int
  words : Tab LaneWord
  fell : Bool
  clamped : Bool
  lost : Bool
  deriving DecidableEq, Repr

/-- A value of the integrator's stages: written back by SAT, exact in a fallback (R194, R196). -/
def stageValue (eligible : Bool) (v : Int) : Int := (stageResult eligible v).1

/-- The normal frame of a loop: error, integrator, output, back-calculation, with the re-initialisation of R211. Each of the integrator
update, the output sum and the back-calculation is a stage. -/
def State.computeLoop (s : State) (d : LoopDesc) (x : Loop) (i : LoopInput) : Staged :=
  let prev := if x.first then s.safeOf d.loop else x.out
  let ki := s.coefActive (d.ki.getD x.region 0)
  let kb := s.coefActive (d.kb.getD x.region 0)
  let i1 := if !d.integrating then 0 else if x.first || x.reinit then prev - i.part
    else stageValue d.eligible (x.integ + coefProduct ki (satBits i.error))
  let (u, fell, clamped, sat) := stageResult d.eligible (i.part + i1)
  let out := s.clampOut d u
  let i2 := if d.integrating then stageValue d.eligible (i1 + coefProduct kb (satBits (out - u))) else 0
  let fell := fell || i.fell
  { loop := d.loop, fellBack := fell, saturated := sat || i.lost
    value := { x with integ := i2, out := out, words := i.words, outSat := decide (out ≠ u), fallback := fell,
                      bfpClamp := x.bfpClamp || clamped || i.clamped, reinit := false, first := false } }

/-! ### Input ports (R199) -/

/-- A sample of an input port and its tag, as TIME64; none where its source has given none. -/
def State.portSample (s : State) (d : LoopDesc) : InPort → Option (Int × Int)
  | .groundSpeed => s.nav.pose.map (fun p => ((groundSpeed p.est.velN p.est.velE : Nat), p.time))
  | .yawRate => s.nav.pose.map (fun p => (p.est.yawRate, p.time))
  | .poseState => s.nav.pose.map (fun p => ((p.state : Nat), p.time))
  | .meterRate i => (Tab.get none s.meter.port i.val).map (fun x => (x.1, timeOf s.clk x.2.2))
  | .meterCount i => (Tab.get none s.meter.port i.val).map (fun x => ((x.2.1 : Nat), timeOf s.clk x.2.2))
  | .axisPosition n => (Tab.get Axis.initial s.tram.axes n.val).feedback.map (fun f => (f.1, f.2.2))
  | .axisVelocity n => (Tab.get Axis.initial s.tram.axes n.val).feedback.map (fun f => (f.2.1, f.2.2))
  | .setpoint => some (s.regAt Obj.setpoint d.loop, s.time64)
  | .prescription => some (match d.product with | none => 0 | some p => s.reg (productTargetObj p), s.time64)

/-- The samples of every port of a loop, 0 where there is none. -/
def State.portSamples (s : State) (d : LoopDesc) : List (Int × Int) := d.ports.map (fun p => (s.portSample d p).getD (0, 0))

/-- A loop's program runs on its lane: what it reads is staged (R185), its registers stay in the lane. -/
def State.runLoop (s : State) (p : BlvProgram) (k : Nat) (d : LoopDesc) : State × LoopInput :=
  let x := s.loop d.loop
  let l := s.portSamples d
  let env : LaneInputs := { ports := l.map (·.1), words := x.words, gains := d.gains.map (fun g => s.coefActive (g.getD x.region 0)) }
  let r := runCode env p.code (Tab.get Lane.idle s.blv.lanes (k % 16))
  let s := s.updBlv (fun b => { b with lanes := Tab.put Lane.idle b.lanes (k % 16) r.lane, staging := Tab.put [] b.staging d.loop l })
  let new := ((d.ports[d.feedback]?).bind (s.portSample d)).bind (fun v => if v.2 = x.lastTag then none else some v)
  (s, { sample := new, sched := (l.getD d.sched (0, 0)).1, error := (r.result.getD (0, 0)).1, part := (r.result.getD (0, 0)).2, words := r.words
        fell := r.fell, clamped := r.clamped, lost := r.lost })

/-! ### Loops in a frame (R201, R207 to R215) -/

/-- One loop in one frame: feedback tests, region, HOLD or the computation. -/
def State.frameLoop (s : State) (p : BlvProgram) (start : Int) (d : LoopDesc) (i : LoopInput) : Staged :=
  let x := s.loop d.loop
  let same : Nat := match i.sample with
    | none => x.same
    | some (v, _) => if x.lastSample = some v then x.same + 1 else 0
  let tag := match i.sample with
    | none => x.lastTag
    | some (_, t) => t
  let stale := decide (s.regAt Obj.stalePeriods d.loop * (p.period * 100000) < start - tag)
  let frozen := d.noisy && decide (s.regNAt Obj.frozenPeriods d.loop ≤ same)
  let eval := decide (max 1 d.evalFrames ≤ x.evalCount + 1)
  let region := if x.first then regionByBounds d.bounds i.sched else if eval then regionStep d x.region i.sched else x.region
  let base : Loop := { x with stale := stale, frozen := frozen, same := same, lastTag := tag
                              lastSample := (i.sample.map (·.1)).or x.lastSample
                              evalCount := if eval then 0 else x.evalCount + 1 }
  let moved := decide (region ≠ x.region) && !x.first
  if base.hold then
    let out := s.clampOut d (if x.modeHold ∨ s.regAt Obj.holdAction d.loop = 1 then s.safeOf d.loop else x.out)
    { loop := d.loop, fellBack := false, saturated := false
      value := { base with out := out, region := region, reinit := true, outSat := false, fallback := false } }
  else
    -- the region of the first frame acts at once; a later change acts from the next frame, with a re-initialisation
    let now : Loop := { base with region := if x.first then region else x.region }
    let r := if i.sample.isNone && !x.first then { loop := d.loop, fellBack := false, saturated := false, value := { now with out := s.clampOut d now.out } : Staged } else s.computeLoop d now i
    { r with value := { r.value with region := region, reinit := r.value.reinit || moved } }

/-- One loop of a STOPPING group: its output on the ramp to SafeValue (R219). DESIGN CHOICE (log 165): the quotient is floored. -/
def State.rampLoop (s : State) (g : Nat) (d : LoopDesc) : Staged :=
  let x := s.loop d.loop
  let n : Int := s.regAt Obj.stopFrames g
  let k : Int := (s.group g).ramp + 1
  let out := s.clampOut d (if n ≤ k then s.safeOf d.loop else x.rampFrom + (s.safeOf d.loop - x.rampFrom) * k / n)
  { loop := d.loop, fellBack := false, saturated := false, value := { x with out := out } }

/-- A group order takes effect at a frame start (R220). -/
def State.takeOrder (s : State) (g : Nat) : State :=
  let x := s.group g
  let marks := fun (f : Loop → Loop) (s : State) => (s.groupLoops g).foldl (fun s d => s.setLoop d.loop (f (s.loop d.loop))) s
  match x.order with
  | none => s
  | some .start => marks (fun _ => { Loop.idle with first := true, out := 0 }) (s.setGroup g { x with order := none, state := .starting, ramp := 0 })
  | some .resume =>
    let s := s.setGroup g { x with order := none, state := .starting, overruns := 0, cause := 0, ramp := 0 }
    let s := s.resumeTracking g
    marks (fun l => { l with first := true, stale := false, frozen := false }) s
  | some .stop => marks (fun l => { l with rampFrom := l.out }) (s.setGroup g { x with order := none, state := .stopping, ramp := 0 })
  | some .cancelStop => marks (fun l => { l with reinit := true }) (s.setGroup g { x with order := none, state := .running, ramp := 0 })

/-- The group runs its programs. -/
def groupRuns : GroupState → Bool
  | .starting | .running | .stopping => true
  | _ => false

/-- A frame of a program starts now, at its frame start (R188, R190): CK_TS counts in steps of 4 ns. -/
def State.frameStarts (s : State) (p : BlvProgram) : Bool :=
  let t := frameStart p s.time64
  decide (s.time64 < t + 4) && decide (Tab.get none s.blv.started p.number ≠ some t)

/-- The loops of a program in their lanes, one after the other. -/
def State.runLoops (s : State) (p : BlvProgram) (t : Int) : State × List Staged :=
  p.loops.zipIdx.foldl (fun (a : State × List Staged) (x : LoopDesc × Nat) =>
    let r := a.1.runLoop p x.2 x.1
    (r.1, a.2 ++ [if (s.group p.group).state = .stopping then s.rampLoop p.group x.1 else s.frameLoop p t x.1 r.2])) (s, [])

/-- A program starts at its frame start: waiting orders take effect, then it runs its full count on what its loops read; a tracking
program works on its dumps (R124); wait is how many cycles its WAIT class stalls (R190 to R192). Implement groups run on rovers, and no
group on relays (R28, R219). -/
def State.programFrame (s : State) (number wait : Nat) : State :=
  match s.blv.programs.find? (fun p => decide (p.number = number)) with
  | none => s
  | some p =>
    if !s.operating ∨ s.mode.role = some .relay ∨ s.blv.frames.any (fun f => decide (f.program = number)) ∨ s.frameStarts p = false then s
    else
      let s := s.takeOrder p.group
      if !groupRuns (s.group p.group).state then s
      else
        let t := frameStart p s.time64
        let r := if p.group < 8 then (s, []) else s.runLoops p t
        r.1.updBlv (fun b => { b with
          frames := b.frames ++ [{ program := number, start := t, wait := wait, staged := r.2 }], started := Tab.put none b.started number (some t) })

/-! ### Output phase (R200, R216 to R218) -/

/-- Outputs of a group's implement loops take SafeValue. -/
def State.groupSafe (s : State) (g : Nat) : State :=
  if g < 8 then s
  else (s.groupLoops g).foldl (fun s d => s.setLoop d.loop { s.loop d.loop with out := s.clampOut d (s.safeOf d.loop), integ := 0 }) s

/-- The sections bound to a group switch OFF at the earliest slot (R217, R255). -/
def State.groupSectionsOff (s : State) (g : Nat) : State := s.planOffWhere (fun i => decide (s.regAt Obj.sectionLoopGroup i = g))

/-- A group is suspended with a cause (R217, R218). -/
def State.suspendGroup (s : State) (g cause : Nat) : State :=
  let x := s.group g
  let s := s.setGroup g { x with state := .suspended, order := none, cause := cause }
  if g < 8 then s.coastGroup g
  else (s.groupSafe g).groupSectionsOff g

/-- A staged loop is committed: HoldCount counts an entry to HOLD (R214), FallbackCount a fallback, the loop a saturation (R198); the value
goes to its port. -/
def State.commitLoop (s : State) (g : Nat) (d : List LoopDesc) (x : Staged) : State :=
  let s := if x.value.hold && !(s.loop x.loop).hold then s.incrAt Obj.holdCount x.loop else s
  let s := if x.fellBack then s.incrAt Obj.fallbackCount g else s
  let s := s.setLoop x.loop { x.value with saturations := (s.loop x.loop).saturations + (if x.saturated then 1 else 0) }
  let port : Option OutPort := (d.find? (fun y => decide (y.loop = x.loop))).map (·.port)
  match port with
  | some (.axisVelocity n) => s.updBlv (fun b => { b with axisCommands := Tab.put none b.axisCommands n (some (true, x.value.out)) })
  | some (.axisPosition n) => s.updBlv (fun b => { b with axisCommands := Tab.put none b.axisCommands n (some (false, x.value.out)) })
  | _ => s

/-- A frame that completes commits everything together (R200). -/
def State.commitFrame (s : State) (p : BlvProgram) (f : Frame) : State :=
  let s := f.staged.foldl (fun s x => s.commitLoop p.group p.loops x) s
  let s := if p.group < 8 then s.commitTracking p.group true else s
  let x := s.group p.group
  let x := { x with overruns := 0 }
  match x.state with
  | .starting => s.setGroup p.group { x with state := .running }
  | .stopping =>
    if s.regAt Obj.stopFrames p.group ≤ x.ramp + 1 then
      ((s.setGroup p.group { x with state := .disabled, ramp := 0 }).groupSafe p.group).groupSectionsOff p.group
    else s.setGroup p.group { x with ramp := x.ramp + 1 }
  | _ => s.setGroup p.group x

/-- The frame of a program overruns: it is abandoned, nothing of it is committed, and it is counted (R216). -/
def State.overrun (s : State) (g : Nat) : State :=
  let s := s.incrAt Obj.overrunCount g
  let s := if g < 8 then s.commitTracking g false else s
  s.setGroup g { s.group g with overruns := min 3 ((s.group g).overruns + 1) }

/-- The output phase is reached: its cycles have passed since the frame start. -/
def State.phaseReached (s : State) (p : BlvProgram) (f : Frame) : Bool := decide (f.start + p.phase * 5 / 2 ≤ s.time64)

/-- The output phase: commit, or an overrun that abandons the frame (R216), the third in a row or an uncorrectable read
suspends the group (R217, R218). corrected reads stall 4 cycles each (R185). An uncorrectable read ends the frame at once. -/
def State.outputPhase (s : State) (number corrected : Nat) (uncorrectable : Bool) : State :=
  match s.blv.programs.find? (fun p => decide (p.number = number)), s.blv.frames.find? (fun f => decide (f.program = number)) with
  | some p, some f =>
    if !uncorrectable && !s.phaseReached p f then s
    else
      let s := s.updBlv (fun b => { b with frames := b.frames.filter (fun f => decide (f.program ≠ number)) })
      let s := s.addRegAt Obj.correctedReads 0 corrected
      if uncorrectable ∨ p.phase < programCount p + f.wait + 4 * corrected then
        let s := s.overrun p.group
        if uncorrectable then (s.incr Obj.uncorrectableReads).suspendGroup p.group 2
        else if (s.group p.group).overruns = 3 then s.suspendGroup p.group 1 else s
      else s.commitFrame p f
  | _, _ => s

/-- A background scrub of the memories ends (R185): 10 s after the last, outside every window; words corrected, and the groups in whose
memory a word cannot be. DESIGN CHOICE (log 166): such a word suspends its group as a program's read does (R218), a DISABLED one too, and
counts no overrun. -/
def State.blvScrub (s : State) (corrected : Nat) (bad : List Nat) : State :=
  let due := match s.blv.scrubbedAt with
    | none => true
    | some t => decide (t + ticksS 10 ≤ s.now)
  if !s.running ∨ s.mode.role = some .relay ∨ s.blv.frames.isEmpty = false ∨ due = false then s
  else
    let s := s.updBlv (fun b => { b with scrubbedAt := some s.now })
    bad.foldl (fun s g => (s.incr Obj.uncorrectableReads).suspendGroup g 2) (s.addRegAt Obj.correctedReads 0 corrected)

/-! ### Banks (R204 to R206) -/

/-- A swap waits for its boundary. -/
def State.swapWaits (s : State) : Bool := s.blv.swapAt.isSome

/-- BankCopy copies the active bank over the inactive one; refused while a swap waits (R204, R206). -/
def State.bankCopy (s : State) (q : Sess) (v : Int) : State :=
  s.writeCommand q Obj.bankCopy v (fun s =>
    if s.swapWaits then .error abortAccess
    else .ok (s.updBlv (fun b => if b.activeB then { b with bankA := b.bankB } else { b with bankB := b.bankA })))

/-- An integrator-partition entry of the inactive bank is written: COEF and SHIFT, PART kept, the rest reserved (R202, R204). -/
def State.coefInactiveWrite (s : State) (q : Sess) (v : Int) : State :=
  s.writeCommand q Obj.coefInactive v (fun s =>
    let i := s.instanceOf q Obj.coefInactive
    if s.swapWaits || !bit (s.coefInactive i) 37 then .error abortAccess
    else
      let e := bits v.toNat 0 37 + 2 ^ 37
      .ok (s.updBlv (fun b => if b.activeB then { b with bankA := Tab.put 0 b.bankA i e } else { b with bankB := Tab.put 0 b.bankB i e })))

/-- The entries of a loop differ between the banks. -/
def State.loopDiffers (s : State) (d : LoopDesc) : Bool := d.coefs.any (fun i => decide (s.coefActive i ≠ s.coefInactive i))

/-- Every loop with changed entries belongs to a group that is DISABLED or SUSPENDED (R205). -/
def State.swapAllowed (s : State) : Bool :=
  s.blv.programs.all (fun p =>
    !(p.loops.any s.loopDiffers) || decide ((s.group p.group).state = .disabled) || decide ((s.group p.group).state = .suspended))

/-- BankSwapRequest is accepted or refused; BankSwapResult says which (R205). -/
def State.bankSwapRequest (s : State) (q : Sess) (v : Int) : State :=
  s.writeCommand q Obj.bankSwapRequest v (fun s =>
    .ok (if s.swapWaits then s.setReg Obj.bankSwapResult 3
      else if s.mode.current ≠ .service ∧ s.mode.current ≠ .rover then s.setReg Obj.bankSwapResult 4
      else if s.mode.current = .rover ∧ s.swapAllowed = false then s.setReg Obj.bankSwapResult 2
      else
        let at_ := -(-(s.time64 + 100000) / 100000000) * 100000000
        (s.updBlv (fun b => { b with swapAt := some at_ })).setReg Obj.bankSwapResult 1))

/-- The boundary of a waiting swap: the banks exchange, loops whose gains change re-initialise in their first frame, and
the integrator partition is stored (R205, R206). -/
def State.bankSwap (s : State) : State :=
  match s.blv.swapAt with
  | none => s
  | some t =>
    if s.time64 < t then s
    else
      let changed := (s.blv.programs.flatMap (·.loops)).filter s.loopDiffers
      let s := s.updBlv (fun b => { b with activeB := !b.activeB, swapAt := none })
      let s := changed.foldl (fun s d => s.setLoop d.loop { s.loop d.loop with reinit := true }) s
      let part := (if s.blv.activeB then s.blv.bankB else s.blv.bankA).filter (fun e => bit e.2 37)
      let s := s.updBlv (fun b => { b with storedPart := part })
      (s.setReg Obj.activeBank (if s.blv.activeB then 1 else 0)).setReg Obj.bankSwapResult 0

/-! ### Group commands (R220, R221) -/

/-- The group that a session's cursor names. -/
def State.groupOf (s : State) (q : Sess) : Nat := s.instanceOf q Obj.groupEnable

/-- Sets GroupCommandResult. -/
def State.groupResult (s : State) (g code : Nat) : State := s.setRegAt Obj.groupCommandResult g code

/-- Sets a group's order. -/
def State.orderGroup (s : State) (g : Nat) (o : Option GroupOrder) : State := (s.setGroup g { s.group g with order := o }).groupResult g 0

/-- GroupEnable 0x01: starts a DISABLED group or cancels a ramp. -/
def State.enableGroup (s : State) (g : Nat) : State :=
  match (s.group g).state with
  | .disabled => s.orderGroup g (some .start)
  | .stopping => s.orderGroup g (some .cancelStop)
  | _ => if (s.group g).order = some .stop then s.orderGroup g none else s.groupResult g 1

/-- GroupEnable 0x00: starts STOPPING, or disables a suspended group at once. -/
def State.disableGroup (s : State) (g : Nat) : State :=
  match (s.group g).state with
  | .running | .starting => s.orderGroup g (some .stop)
  | .suspended => (s.setGroup g { Group.idle with overruns := (s.group g).overruns }).groupResult g 0
  | .disabled => if (s.group g).order = some .start then s.orderGroup g none else s.groupResult g 1
  | .stopping => if (s.group g).order = some .cancelStop then s.orderGroup g none else s.groupResult g 1

/-- A write of GroupEnable: implement groups exist in the rover role alone (R219), tracking groups are refused (R221). -/
def State.groupEnableWrite (s : State) (q : Sess) (v : Int) : State :=
  s.writeCommand q Obj.groupEnable v (fun s =>
    let g := s.groupOf q
    if g < 8 then .ok (s.groupResult g 4)
    else if s.mode.role ≠ some .rover then .error abortUnavailable
    else match s.applyNum Obj.groupEnable g v with
      | .error a => .error a
      | .ok s => .ok (if !s.groupLoaded g then s.groupResult g 3 else if v = 1 then s.enableGroup g else s.disableGroup g))

/-- GroupEnable 0x01. -/
def State.groupEnable (s : State) (q : Sess) : State := s.groupEnableWrite q 1

/-- GroupEnable 0x00. -/
def State.groupDisable (s : State) (q : Sess) : State := s.groupEnableWrite q 0

/-- GroupResume resumes a suspended group; a resume from a memory error reloads its image-partition coefficients (R218, R220). -/
def State.groupResume (s : State) (q : Sess) (v : Int) : State :=
  s.writeCommand q Obj.groupResume v (fun s =>
    let g := s.groupOf q
    .ok (if !s.groupLoaded g ∨ (8 ≤ g ∧ s.mode.role ≠ some .rover) then s.groupResult g 3
      else if (s.group g).state ≠ .suspended then s.groupResult g 2
      else
        let fresh := decide ((s.group g).cause = 2)
        let s := if fresh then (s.groupLoops g).foldl (fun s d => s.setLoop d.loop Loop.idle) s else s
        (s.setGroup g { s.group g with order := some .resume, overruns := 0 }).groupResult g 0))

/-! ### Modes (R222) -/

/-- HALT and SNAPSHOT: every loop of a running implement group enters HOLD with HOLD_MODE, outputs at SafeValue. -/
def State.blvHold (s : State) : State :=
  (s.blv.programs.filter (fun p => decide (8 ≤ p.group) && groupRuns (s.group p.group).state)).foldl (fun s p =>
    p.loops.foldl (fun s d =>
      let x := s.loop d.loop
      let s := if x.hold then s else s.incrAt Obj.holdCount d.loop
      s.setLoop d.loop { x with modeHold := true, out := s.safeOf d.loop, reinit := true }) s) s

/-- Release to ROVER: the loops leave HOLD under R215. -/
def State.blvRelease (s : State) : State :=
  s.blv.loops.foldl (fun s e => s.setLoop e.1 { e.2 with modeHold := false }) s

end Sys2Proof.Machine
end

