-- ==== Sys2Proof/Machine/Plane.lean ====
section
/-!
DEFINITION. Machine/Plane.lean: local tangent planes on the WGS 84 ellipsoid (R626). Sines, cosines and coordinates are integers over
2^96, lengths in mm; the square roots are floors (log 23).
-/
namespace Sys2Proof.Machine

/-- The unit of sines and cosines. -/
def unit96 : Int := 2 ^ 96

/-- A product of two numbers over 2^96. -/
def mul96 (x y : Int) : Int := x * y / unit96

/-- π / (180 · 10^11) over 2^160: one unit of latitude and longitude in radians. -/
def angleUnit : Int := 255080155947123273410266955541295062

/-- The alternating series of an angle's sine and cosine: k terms from a term on, each the one before by -x² over the next two factors. -/
def sineTerms (x2 : Int) : Nat → Int → Int → Int
  | 0, _, _ => 0
  | k + 1, i, term => term + sineTerms x2 k (i + 2) (-(mul96 term x2) / ((i + 1) * (i + 2)))

/-- Sine and cosine, over 2^96, of an angle in 10^-11 degree. -/
def sineCosine (a : Int) : Int × Int :=
  let x := a * angleUnit / 2 ^ 64
  let x2 := mul96 x x
  (sineTerms x2 40 1 x, sineTerms x2 40 0 unit96)

/-- The floor of the square root of a number below 2^256, bit by bit. -/
def floorRoot (n : Nat) : Nat := (List.range 128).foldl (fun r k => if (r + 2 ^ (127 - k)) * (r + 2 ^ (127 - k)) ≤ n then r + 2 ^ (127 - k) else r) 0

/-- b²/a² of WGS 84, over 2^96: the square of 1 - f with 1/f = 298.257223563. -/
def axisRatio : Int := 297257223563 * 297257223563 * unit96 / (298257223563 * 298257223563)

/-- The radius of curvature of the prime vertical in mm over 2^32: a over the root of 1 - e² sin². -/
def primeVertical (sin : Int) : Int :=
  let d := unit96 - mul96 (unit96 - axisRatio) (mul96 sin sin)
  6378137000 * 2 ^ 32 * 2 ^ 112 / (floorRoot (d * 2 ^ 128).toNat : Int)

/-- The directions at a point: sine and cosine of its geodetic latitude and of its longitude. -/
structure Frame3 where
  sinLat : Int
  cosLat : Int
  sinLon : Int
  cosLon : Int
  deriving DecidableEq, Repr

/-- The directions at a latitude and longitude. -/
def frameAt (lat lon : Int) : Frame3 :=
  let f := sineCosine lat
  let l := sineCosine lon
  { sinLat := f.1, cosLat := f.2, sinLon := l.1, cosLon := l.2 }

/-- A vector in ECEF, mm over 2^32. -/
abbrev Ecef := Int × Int × Int

/-- The ECEF vector of a latitude, longitude and height (R626, 1). -/
def ecefOf (p : Int × Int × Int) : Ecef :=
  let f := frameAt p.1 p.2.1
  let n := primeVertical f.sinLat
  let h := p.2.2 * 2 ^ 32
  let r := mul96 (n + h) f.cosLat
  (mul96 r f.cosLon, mul96 r f.sinLon, mul96 (mul96 n axisRatio + h) f.sinLat)

/-- One step of the latitude of a point at distance r from the axis and height z over the equator: sine and cosine from the last sine. -/
def latitudeStep (r z sin : Int) : Int × Int :=
  let t := z + mul96 (primeVertical sin) (mul96 (unit96 - axisRatio) sin)
  let l : Int := floorRoot (r * r + t * t).toNat
  (t * unit96 / max 1 l, r * unit96 / max 1 l)

/-- The directions at an ECEF point, its latitude by 16 steps. -/
def frameOf (p : Ecef) : Frame3 :=
  let r : Int := floorRoot (p.1 * p.1 + p.2.1 * p.2.1).toNat
  let f := (List.range 16).foldl (fun (x : Int × Int) _ => latitudeStep r p.2.2 x.1) (0, unit96)
  { sinLat := f.1, cosLat := f.2, sinLon := p.2.1 * unit96 / max 1 r, cosLon := if r = 0 then unit96 else p.1 * unit96 / r }

/-- East, north and up components of an ECEF vector (R626, 2). -/
def Frame3.local (f : Frame3) (d : Ecef) : Int × Int × Int :=
  let out := mul96 d.1 f.cosLon + mul96 d.2.1 f.sinLon
  (mul96 d.2.1 f.cosLon - mul96 d.1 f.sinLon, mul96 d.2.2 f.cosLat - mul96 out f.sinLat, mul96 out f.cosLat + mul96 d.2.2 f.sinLat)

/-- The ECEF vector of east and north components. -/
def Frame3.global (f : Frame3) (e n : Int) : Ecef :=
  let out := -mul96 n f.sinLat
  (mul96 out f.cosLon - mul96 e f.sinLon, mul96 out f.sinLon + mul96 e f.cosLon, mul96 n f.cosLat)

/-- A difference of vectors. -/
def minus3 (p q : Ecef) : Ecef := (p.1 - q.1, p.2.1 - q.2.1, p.2.2 - q.2.2)

/-- A length in mm over 2^32, rounded to nearest mm (R626, 3). -/
def wholeMm (x : Int) : Int := (x + 2 ^ 31) / 2 ^ 32

/-- The plane coordinates in mm of a vector from an origin. -/
def planeVector (f : Frame3) (d : Ecef) : Pt := { e := wholeMm (f.local d).1, n := wholeMm (f.local d).2.1 }

/-- The plane coordinates in mm of a point about an origin, both by latitude, longitude and height (R626). -/
def planePoint (o p : Int × Int × Int) : Pt := planeVector (frameAt o.1 o.2.1) (minus3 (ecefOf p) (ecefOf o))

/-- A reference position of R163, in 0.1 mm, as a vector. -/
def ecefRef (o : Int × Int × Int) : Ecef := (o.1 * 2 ^ 32 / 10, o.2.1 * 2 ^ 32 / 10, o.2.2 * 2 ^ 32 / 10)

/-- The base-plane coordinates of a point (R335, R626). -/
def basePoint (o p : Int × Int × Int) : Pt := planeVector (frameOf (ecefRef o)) (minus3 (ecefOf p) (ecefRef o))

/-- A point of the base plane in a field's plane: it lies in the plane itself, since its height is not known. -/
def fieldPoint (ref origin : Int × Int × Int) (p : Pt) : Pt :=
  let d := (frameOf (ecefRef ref)).global (p.e * 2 ^ 32) (p.n * 2 ^ 32)
  let q := ecefRef ref
  planeVector (frameAt origin.1 origin.2.1) (minus3 (d.1 + q.1, d.2.1 + q.2.1, d.2.2 + q.2.2) (ecefOf origin))

end Sys2Proof.Machine
end

