-- ==== Sys2Proof/Machine/Roundabout.lean ====
section
/-!
DEFINITION. Machine/Roundabout.lean: the matching store of the Roundabout (R477 to R483).
-/
namespace Sys2Proof.Machine

/-- Changes the Roundabout. -/
def State.updRound (s : State) (f : RoundaboutState → RoundaboutState) : State := { s with roundabout := f s.roundabout }

/-! ### Threads on the two real-time cores (R477, R481) -/

/-- The thread contexts in use, of 512. -/
def RoundaboutState.contexts (r : RoundaboutState) : Nat := (r.ready.map (fun e => e.2.length)).foldl (· + ·) r.running.length

/-- A flow has an item in service. -/
def RoundaboutState.inService (r : RoundaboutState) (flow : Nat) : Bool := r.running.any (fun x => decide (x.2.1 = flow))

/-- The first ready item of the highest level whose flow has none in service: level, flow, epoch. -/
def RoundaboutState.nextItem (r : RoundaboutState) : Option (Nat × Nat × Nat) :=
  ((List.range 32).reverse).findSome? (fun k => ((Tab.get [] r.ready k).find? (fun x => !r.inService x.1)).map (fun x => (k, x)))

/-- The running thread of the lowest level. -/
def lowestOf : List (Nat × Nat × Nat) → Option (Nat × Nat × Nat)
  | [] => none
  | x :: t => match lowestOf t with
    | none => some x
    | some y => if y.1 < x.1 then some y else some x

/-- The item goes on a core. -/
def RoundaboutState.start (r : RoundaboutState) (x : Nat × Nat × Nat) : RoundaboutState :=
  { r with ready := Tab.update [] r.ready x.1 (fun l => l.erase x.2), running := r.running ++ [x] }

/-- An idle core takes the next item; else an item of a higher level displaces the thread of the lowest, which goes back to the head of its
list. Threads of equal level do not pre-empt each other. -/
def RoundaboutState.dispatch (r : RoundaboutState) : RoundaboutState :=
  match r.nextItem with
  | none => r
  | some x =>
    if r.running.length < 2 then r.start x
    else match lowestOf r.running with
      | none => r
      | some y => if y.1 < x.1 then ({ r with running := r.running.erase y, ready := Tab.update [] r.ready y.1 (fun l => y.2 :: l) }).start x else r

/-- A task enters the ready list of its level (R479). -/
def State.makeReady (s : State) (flow epoch : Nat) : State :=
  s.updRound (fun r => { r with ready := Tab.update [] r.ready (Config.flowLevel flow % 32) (fun l => l ++ [(flow, epoch)]) }.dispatch)

/-- An item waits or is in service. -/
def State.itemWaits (s : State) (flow epoch : Nat) : Bool :=
  (Tab.get [] s.roundabout.ready (Config.flowLevel flow % 32)).contains (flow, epoch) || s.roundabout.running.any (fun x => decide (x.2 = (flow, epoch)))

/-- The work of an item is done. -/
def State.itemDone (s : State) (flow epoch : Nat) : State :=
  s.updRound (fun r => { r with ready := Tab.update [] r.ready (Config.flowLevel flow % 32) (fun l => l.erase (flow, epoch))
                                running := r.running.filter (fun x => decide (x.2 ≠ (flow, epoch))) }.dispatch.dispatch)

/-- No command waits: the work in service ends, but for that of the RTK flow, which ends with its solution (log 179). -/
def State.coresRun (s : State) : State :=
  if s.roundabout.running.isEmpty then s
  else s.updRound (fun r => { r with running := r.running.filter (fun x => decide (x.2.1 = Config.rtkFlow)) }.dispatch.dispatch)

/-- Operand slots filled. -/
def MatchEntry.filled (e : MatchEntry) : Nat := e.slots.length

/-- The entry of a key. -/
def State.matchEntry (s : State) (flow epoch : Nat) : Option MatchEntry :=
  s.roundabout.store.find? (fun e => decide (e.flow = flow ∧ e.epoch = epoch))

/-- The store without the entry of a key. -/
def dropEntry (l : List MatchEntry) (flow epoch : Nat) : List MatchEntry :=
  l.filter (fun e => !decide (e.flow = flow ∧ e.epoch = epoch))

/-- Keeps MatchStoreUsed and MatchStoreHigh (R483). -/
def State.noteStore (s : State) : State :=
  (s.setReg Obj.matchStoreUsed s.roundabout.store.length).raiseReg Obj.matchStoreHigh s.roundabout.store.length

/-- An operand is held back at its producer. -/
def State.holdOperand (s : State) (o : HeldOperand) : State := s.updRound (fun r => { r with held := r.held ++ [o] })

/-- An operand put into the store: its entry is made where none exists, a filled slot is replaced and counted, and
the task becomes ready with its last operand (R479). A full store holds the operand back
(R480), and so do 512 contexts in use (R477, R482). -/
def State.putOperand (s : State) (o : HeldOperand) : State :=
  match s.matchEntry o.flow o.epoch with
  | some e =>
    let replaced := decide ((Tab.get none e.slots (o.slot % 4)).isSome)
    let last := (Tab.get none e.slots (o.slot % 4)).isNone && decide (e.need ≤ e.filled + 1)
    if last && decide (512 ≤ s.roundabout.contexts) then s.holdOperand o
    else
    let e' := { e with slots := Tab.put none e.slots (o.slot % 4) (some o.value) }
    let s := if replaced then s.incr Obj.matchReplaced else s
    if e'.need ≤ e'.filled then
      ({ s with roundabout := { s.roundabout with store := dropEntry s.roundabout.store o.flow o.epoch } }).makeReady o.flow o.epoch
    else { s with roundabout := { s.roundabout with store := dropEntry s.roundabout.store o.flow o.epoch ++ [e'] } }
  | none =>
    if 4096 ≤ s.roundabout.store.length ∨ (o.need ≤ 1 ∧ 512 ≤ s.roundabout.contexts) then s.holdOperand o
    else if o.need ≤ 1 then s.makeReady o.flow o.epoch
    else
      let e : MatchEntry := { flow := o.flow, epoch := o.epoch, need := o.need,
                              slots := Tab.put none [] (o.slot % 4) (some o.value), expires := s.now + o.hold }
      { s with roundabout := { s.roundabout with store := s.roundabout.store ++ [e] } }

/-- Operands held back enter as entries free, in their order (R480). -/
def admitHeld : List HeldOperand → State → State
  | [], s => s
  | o :: t, s =>
    if s.roundabout.contexts < 512 ∧ (s.roundabout.store.length < 4096 ∨ (s.matchEntry o.flow o.epoch).isSome) then
      admitHeld t (({ s with roundabout := { s.roundabout with held := t } }).putOperand o)
    else s

/-- The holding time of a flow: CorrectionWait for the RTK flow (R479), else as its image states. -/
def State.holdTime (s : State) (flow hold : Nat) : Nat :=
  if flow = Config.rtkFlow then ticksMs (s.regN Obj.correctionWait) else hold

/-- An operand arrives: flow ID of 12 bits, epoch tag of 16 bits. -/
def State.matchOperand (s : State) (flow epoch slot value need hold : Nat) : State :=
  if !s.running then s
  else
    let f := flow % 2 ^ 12
    let s := s.putOperand { flow := f, epoch := epoch % 2 ^ 16, slot := slot, value := value, need := min need 4, hold := s.holdTime f hold }
    (admitHeld s.roundabout.held s).noteStore

/-- An entry still incomplete at its holding time is discarded and counted (R479). -/
def State.matchExpiry (s : State) (flow epoch : Nat) : State :=
  match s.matchEntry (flow % 2 ^ 12) (epoch % 2 ^ 16) with
  | some e =>
    if e.expires ≤ s.now then
      let s := { s with roundabout := { s.roundabout with store := dropEntry s.roundabout.store e.flow e.epoch } }
      let s := s.incr Obj.matchExpired
      (admitHeld s.roundabout.held s).noteStore
    else s
  | none => s

end Sys2Proof.Machine
end

