-- ==== Sys2Proof/Machine/Snapshot.lean ====
section
/-!
DEFINITION. Machine/Snapshot.lean: snapshot capture (R139 to R146).
-/
namespace Sys2Proof.Machine

/-- Capture slots free. -/
def State.slotsFree (s : State) : Nat := 4 - s.gnss.snapshot.slots.length

/-- Changes the snapshot block. -/
def State.updSnapshot (s : State) (f : SnapshotState → SnapshotState) : State :=
  { s with gnss := { s.gnss with snapshot := f s.gnss.snapshot } }

/-! ### Captures (R139 to R142) -/

/-- A trigger is refused while a capture runs, with too few free slots, or with an ANT_B chain on a base (R140, R142). -/
def State.captureRefused (s : State) : Bool :=
  let n := s.regN Obj.snapshotChains
  s.gnss.snapshot.run.isSome || decide (s.slotsFree < popcount n 4)
    || (decide (s.mode.role = some .base) && decide (n / 4 % 4 ≠ 0))

/-- TIME64 of the first sample: the first whole receiver millisecond once every selected chain is powered and settled, which takes a chain
that was powered down 0.8 ms (R139). -/
def State.captureTime (s : State) (chains : Nat) : Int :=
  (((if chains &&& s.gnss.chainsOn = chains then s.time64 else s.time64 + 800000) + 999999) / 1000000) * 1000000

/-- A capture is triggered: its chains are powered and it starts, or LAST_REFUSED is set. -/
def State.triggerCapture (s : State) : State :=
  if s.captureRefused then s.updSnapshot (fun x => { x with refused := true })
  else
    let n := s.regN Obj.snapshotChains
    let t := s.captureTime n
    let run : CaptureRun := { chains := n, length := s.regN Obj.snapshotLength, mode := s.regN Obj.snapshotProcessing, time := t, tick := countOf s.clk t }
    let s := { s with gnss := { s.gnss with chainsOn := s.gnss.chainsOn ||| n } }
    s.updSnapshot (fun x => { x with refused := false, run := some run })

/-- The modes in which a capture may be taken (R140). -/
def State.captureMode (s : State) : Bool :=
  match s.mode.current with
  | .base | .rover | .snapshot | .service => true
  | _ => false

/-- A write of SnapshotTrigger. In a mode that takes no capture the request is not served (R140, R505). -/
def State.snapshotTrigger (s : State) (q : Sess) (v : Int) : State :=
  s.writeCommand q Obj.snapshotTrigger v (fun s => if s.captureMode then .ok s.triggerCapture else .error abortUnavailable)

/-- One part of a sample, in 2^-8 of the 1σ that the gain control holds: its sign, and its magnitude, 3 above the threshold (R139, R141). -/
def samplePart (v : Int) : Nat := flag (decide (v < 0)) 1 + flag (decide (256 < v.natAbs)) 0

/-- A 4-bit sample: I in bits 3 and 2, Q in bits 1 and 0 (R141). -/
def sampleCode (x : Int × Int) : Nat := samplePart x.1 * 4 + samplePart x.2

/-- Samples as bytes, two each, the first in the lower half. -/
def sampleBytes : List (Int × Int) → List Byte
  | [] => []
  | [x] => [BitVec.ofNat 8 (sampleCode x)]
  | x :: y :: t => BitVec.ofNat 8 (sampleCode x + 16 * sampleCode y) :: sampleBytes t

/-- The capture record of one chain (R141). -/
def State.captureRecord (s : State) (r : CaptureRun) (chain : Nat) (samples : List (Int × Int)) : List Byte :=
  let n := 40920 * r.length
  let src := flag (decide (s.clk.state = .gnss)) 0 + flag (decide (s.clk.state = .beacon)) 1 + flag (decide (s.clk.state = .holdover)) 2
  let hdr := leBytes 2 1 ++ leBytes 2 64 ++ leBytes 1 (chain / 2) ++ leBytes 1 (chain % 2) ++ [0, 0] ++ leInt 8 r.time ++ leBytes 8 r.tick ++
    leBytes 4 (if chain % 2 = 0 then 1575420000 else 1176450000) ++ leBytes 4 40920000 ++ leBytes 4 n ++
    leInt 4 (s.clk.learnedRate * 10 ^ 12 / 2 ^ 40) ++ leBytes 4 s.timeUncertainty ++ leBytes 1 src ++ List.replicate 15 0
  withCrc32 hdr ++ withCrc32 (slice (sampleBytes samples) 0 (n / 2))

/-- The chains of a selection, lowest first. -/
def chainList (sel : Nat) : List Nat := (List.range 4).filter (fun i => bit sel i)

/-- The chains powered when no capture runs: those of the role, none in SNAPSHOT (R145) or SERVICE. -/
def State.restChains (s : State) : Nat := if s.mode.current = .snapshot ∨ s.mode.current = .service then 0 else s.roleChains

/-- A capture has recorded its whole length: each selected chain's record takes a slot (R141, R142), for processing, export or both
(R143). -/
def State.snapshotCaptureComplete (s : State) (samples : List (List (Int × Int))) : State :=
  match s.gnss.snapshot.run with
  | none => s
  | some r =>
    if s.now < r.tick + ticksMs r.length then s
    else
      let u := s.timeUncertainty
      let mk := fun (x : Nat × List (Int × Int)) =>
        ({ tick := r.tick, chain := x.1, record := s.captureRecord r x.1 x.2, timeUnc := u, forExport := decide (r.mode ≠ 0),
           processing := decide (r.mode ≠ 1) } : Capture)
      let caps := ((chainList r.chains).zip (samples ++ List.replicate 4 [])).map mk
      let s := { s with gnss := { s.gnss with chainsOn := s.restChains } }
      s.updSnapshot (fun x => { x with run := none, slots := x.slots ++ caps, timeUncertain := decide (2000000000 < u) })

/-! ### Slots (R142, R143) -/

/-- Slots in which nothing is left to do are free. DESIGN CHOICE (log 160): with processing and export both selected, the slot is free
when both are over. -/
def freeSlots (l : List Capture) : List Capture := l.filter (fun c => c.forExport || c.processing)

/-- The pose of a snapshot fix (R143, R170): STATE 0x06. -/
def snapshotPose (s : State) (f : SnapshotFix) : Pose :=
  { time := s.time64
    est := f.est, state := 6, hdgState := s.nav.headingState, corrAge := min 0xFFFF (s.regN Obj.correctionAge / 10), nsat := f.satellites,
    flags := flag (decide (s.clk.state = .holdover)) 2, seq := s.nav.seq }

/-- Deferred processing of the oldest capture that waits for it ends (R143): the fix is valid only with valid ephemeris, a TIME_UNC of at
most 2 s and 5 satellites, and a valid one is reported through the pose objects of a rover; the slots of that capture are freed. -/
def State.snapshotProcessingComplete (s : State) (f : SnapshotFix) : State :=
  match s.gnss.snapshot.slots.find? (·.processing) with
  | none => s
  | some c =>
    let ok := f.ephemerisValid && decide (c.timeUnc ≤ 2000000000) && decide (5 ≤ f.satellites)
    let s := s.updSnapshot (fun x => { x with
      slots := freeSlots (x.slots.map (fun d => if d.tick = c.tick then { d with processing := false } else d)), fixValid := ok,
      ephemerisOld := !f.ephemerisValid })
    if ok ∧ s.mode.role = some .rover then
      let s := { s with nav := { s.nav with seq := (s.nav.seq + 1) % 2 ^ 32 } }
      ({ s with nav := { s.nav with pose := some (snapshotPose s f) } }).setReg Obj.solutionState 6
    else s

/-- The oldest capture held for export. -/
def State.oldestExport (s : State) : Option Capture := s.gnss.snapshot.slots.find? (·.forExport)

/-- Frees the oldest capture held for export. -/
def State.dropExport (s : State) : State :=
  match s.oldestExport with
  | none => s
  | some c => s.updSnapshot (fun x => { x with slots := freeSlots (
      (x.slots.takeWhile (fun d => !d.forExport)) ++ [{ c with forExport := false }] ++ (x.slots.dropWhile (fun d => !d.forExport)).drop 1) })

/-- A read of SnapshotData to its last byte frees the slot (R142). -/
def State.snapshotDataRead (s : State) (q : Sess) : State :=
  s.readCommand q Obj.snapshotData (fun s =>
    match s.oldestExport with
    | none => .error abortUnavailable
    | some c => .ok (c.record, s.dropExport))

/-- A write of SnapshotRelease frees the oldest capture held for export (R142). -/
def State.snapshotRelease (s : State) (q : Sess) (v : Int) : State :=
  s.writeCommand q Obj.snapshotRelease v (fun s => .ok s.dropExport)

/-! ### Intervals and the wake (R145) -/

/-- The first interval start at or after now: whole intervals from the entry to SNAPSHOT; none with SnapshotInterval 0. -/
def State.nextInterval (s : State) : Option Nat :=
  let d := ticksS (s.regN Obj.snapshotInterval)
  match s.gnss.snapshot.enteredAt with
  | none => none
  | some t => if d = 0 then none else some (t + (s.now - t + d - 1) / d * d)

/-- The start of an interval in SNAPSHOT triggers a capture (R145). -/
def State.snapshotInterval (s : State) : State :=
  if s.mode.current = .snapshot ∧ s.reg Obj.snapshotInterval ≠ 0 ∧ s.due s.gnss.snapshot.intervalDue then
    let s := s.triggerCapture
    s.updSnapshot (fun x => { x with intervalDue := some ((x.intervalDue.getD 0) + ticksS (s.regN Obj.snapshotInterval)) })
  else s

/-- A write of SnapshotInterval in SNAPSHOT: the intervals go on counting from the entry. -/
def State.intervalWritten (s : State) : State := s.updSnapshot (fun x => { x with intervalDue := s.nextInterval })

/-- The wake time is armed (R145): one already past, or nearer than the lead that a write needs, wakes 1 ms later; 0 disarms. -/
def State.armWake (s : State) (lead : Int) : State :=
  let t := s.reg Obj.snapshotWakeTime
  if t ≠ 0 ∧ t < s.time64 + lead then s.updSnapshot (fun x => { x with wakeDue := s.after (ticksMs 1) })
  else s.updSnapshot (fun x => { x with wakeDue := none })

/-- A write of SnapshotWakeTime: at once in force while in SNAPSHOT; 0 disarms (R145). -/
def State.snapshotWakeTimeWrite (s : State) (q : Sess) (v : Int) : State :=
  s.writeCommand q Obj.snapshotWakeTime v (fun s =>
    let s := s.setReg Obj.snapshotWakeTime v
    .ok (if s.mode.current = .snapshot then s.armWake 1000000 else s))

/-- The wake is reached: the 1 ms has passed, or reported time is at the wake time. -/
def State.wakeReached (s : State) : Bool :=
  match s.gnss.snapshot.wakeDue with
  | some d => decide (d ≤ s.now)
  | none => decide (s.reg Obj.snapshotWakeTime ≠ 0) && decide (s.reg Obj.snapshotWakeTime ≤ s.time64)

/-- Entry to SNAPSHOT (R145): every channel is released, every chain is powered down, position and time stay as aiding, and the intervals
and the wake start. -/
def State.enterSnapshotGnss (s : State) : State :=
  let last := s.lastPosition
  let s := { s with gnss := { s.gnss with channels := [], dumps := [], staged := [], chainsOn := 0, lastFix := last } }
  let s := s.noteChans
  let s := s.updSnapshot (fun x => { x with enteredAt := some s.now })
  s.intervalWritten.armWake 0

/-- SNAPSHOT is left: no interval and no wake are armed, and the chains of the role are powered again (R145). A capture in progress runs to
its end. -/
def State.leaveSnapshotGnss (s : State) : State :=
  (s.updSnapshot (fun x => { x with enteredAt := none, intervalDue := none, wakeDue := none })).powerChains

end Sys2Proof.Machine
end

