-- ==== Sys2Proof/Machine/Position.lean ====
section
/-!
DEFINITION. Machine/Position.lean: observables (R157 to R162), reference-station corrections (R163 to
R166), the rover's RTK solution (R167 to R172), heading (R174 to R176), IMU and fusion (R177 to R183).
-/
namespace Sys2Proof.Machine

/-! ### Observables (R157 to R161) -/

/-- The carrier phase is reported as half-cycle ambiguous: a data channel not slaved to a pilot, polarity not resolved (R159). -/
def Channel.halfUnresolved (c : Channel) : Bool := (signalInfo c.signal).data && !c.slave && !c.resolved

/-- Half a cycle is added where the bits were inverted (R159). -/
def Channel.halfAdded (c : Channel) : Bool := (signalInfo c.signal).data && !c.slave && c.resolved && c.inverted

/-- The last observable epoch at or before now: a whole multiple of the period (R157). -/
def State.epochNow (s : State) : Int :=
  let p : Int := 1000000000 / max 1 (s.reg Obj.obsRate)
  s.time64 / p * p

/-- What an NCO at a rate over 163.68 MHz adds in a number of ticks of 0.5 ns. -/
def ncoStep (rate ticks : Int) : Int := rate * ticks * 1023 / 12500

/-- The code phase at the newest boundary beyond the boundary, 2^-48 chips: less than half an epoch either way. -/
def Channel.excess (c : Channel) : Int :=
  let e : Int := epochChips c.signal * 2 ^ 48
  let x : Int := c.code % e
  if e < 2 * x then x - e else x

/-- The pseudorange in 0.1 mm at an epoch whose count is t (R158): c times the epoch less the transmit time, which the sent time of a code
epoch, the epochs since then and the latched code phase give; none before a time of week is decoded. -/
def State.pseudorange (s : State) (epoch : Int) (t : Nat) (c : Channel) : Option Int :=
  match c.sent, c.endedAt with
  | some (tai, first), some b =>
    let chips := c.excess + ncoStep (s.ncoWords c).2 ((t : Int) - b)
    let rate : Int := (signalInfo c.signal).halfChipsPerMs * 2 ^ 48
    let ns := (epoch - tai - ((c.epochs : Int) - first) * epochMs c.signal * 1000000) * rate - chips * 2000000
    some (ns * 299792458 / (100000 * rate))
  | _, _ => none

/-- The carrier phase at a count in 2^-16 cycles, growing with the range, from the start of the channel (R158). -/
def State.carrierPhase (s : State) (t : Nat) (c : Channel) : Int :=
  -((c.drift + ncoStep ((s.ncoWords c).1 - freqWord (s.startMHz c.signal c.svid 0)) ((t : Int) - c.endedAt.getD t)) / 2 ^ 32)

/-- The integer, in 2^-16 cycles, that brings a phase within a cycle of a pseudorange (R158). -/
def phaseInteger (signal svid : Nat) (pr phase : Int) : Int :=
  (pr * carrierMHz signal svid * 65536 / (10000000 * 299792458) - phase) / 65536 * 65536

/-- The observables of a channel at an epoch; none without a valid pseudorange (R158 to R160). -/
def State.observe (s : State) (epoch : Int) (t n : Nat) (c : Channel) : Option ObsEntry :=
  if !c.en || c.coasts then none
  else match s.pseudorange epoch t c with
  | none => none
  | some pr =>
    if pr < 0 then none
    else
      let phase := s.carrierPhase t c
      let base := c.phaseBase.getD (phaseInteger c.signal c.svid pr phase)
      some {
        channel := n, signal := c.signal, svid := c.svid, ant := c.ant, region := c.region, pr := pr.toNat
        phase := phase + base + (if c.halfAdded then 32768 else 0), doppler := s.dopplerOf c (s.ncoWords c).1, cn0 := c.cn0
        phaseOk := c.phaseLock, halfUnresolved := c.halfUnresolved, halfAdded := c.halfAdded, broken := c.lockBroken, slave := c.slave
        phaseLock := c.phaseLock
        lockMs := match c.lockFrom with
          | none => 0
          | some f => min 0xFFFFFFFF ((t - f) / 2000000) }

/-- One 32-byte entry of an observable record (R160). -/
def ObsEntry.bytes (o : ObsEntry) : List Byte :=
  leBytes 1 o.signal ++ leBytes 1 o.svid ++ leBytes 2 (o.channel % 512 + flag (decide (o.ant = .b)) 9 + o.region % 8 * 2 ^ 10) ++
  leBytes 8 o.pr ++ leInt 8 o.phase ++ leInt 4 o.doppler ++ leInt 2 o.cn0 ++
  leBytes 2 (1 + flag o.phaseOk 1 + flag o.halfUnresolved 2 + flag o.halfAdded 3 + flag o.broken 4 + flag o.slave 5 + flag o.phaseLock 6) ++
  leBytes 4 o.lockMs

/-- The observable record of an epoch (R160). -/
def obsRecord (s : State) (l : List ObsEntry) (residual epoch : Int) (t : Nat) : List Byte :=
  let flags := flag (decide (s.clk.state = .gnss)) 0 + flag (decide (s.clk.state = .holdover)) 1 + flag (!s.gnss.suspended.isEmpty) 2
  withCrc32 (leBytes 2 2 ++ leBytes 2 l.length ++ leInt 8 epoch ++ leBytes 8 t ++ leInt 4 residual ++ leBytes 2 flags ++ [0, 0]) ++
    l.flatMap ObsEntry.bytes

/-- A channel whose observables have been recorded: the reset of its lock time has been told, and its integer is set while it is in lock. -/
def Channel.recorded (c : Channel) (o : ObsEntry) (phase : Int) : Channel :=
  { c with lockBroken := false
           phaseBase := if c.phaseLock then some (c.phaseBase.getD (phaseInteger c.signal c.svid o.pr phase)) else none }

/-- The epoch tag of the RTK matching key: whole 10 ms units modulo 2^16 (R169). -/
def epochTag (e : Int) : Nat := (e / 10000000 % 65536).toNat

/-- One half of an RTK epoch, 0 the rover's and 1 the base's, into the matching store (R169). -/
def State.rtkHalf (s : State) (e : Int) (slot value : Nat) : State := s.matchOperand Config.rtkFlow (epochTag e) slot value 2 0

/-- An observable epoch: the phases of every channel are latched, the record holds the channels with a valid pseudorange, is kept for the
RTK task and the correction generator, and is copied to the host where enabled (R157 to R161). -/
def State.observableEpoch (s : State) (residual : Int) : State :=
  let e := s.epochNow
  if !(s.hasRole .base || s.hasRole .rover) ∨ s.mode.current = .snapshot ∨ s.obs.epoch = some e then s
  else
    let t := countOf s.clk e
    let l := s.gnss.channels.filterMap (fun x => s.observe e t x.1 x.2)
    let record := obsRecord s l residual e t
    let s : State := l.foldl (fun (s : State) (o : ObsEntry) => s.setChan o.channel ((s.chan o.channel).recorded o (s.carrierPhase t (s.chan o.channel)))) s
    let s : State := { s with obs := { s.obs with epoch := some e, tick := t, residual := residual, entries := l } }
    let s := if s.hasRole .rover then s.rtkHalf e 0 l.length else s
    if s.reg Obj.obsHostOutput = 1 then
      let (h, s, st) := s.hostCopy s.obs.copy (s.regN Obj.obsHostQueue) 1048576 record
      let s := { s with obs := { s.obs with copy := h } }
      if st then s.setReg Obj.obsHostOutput 0 else s
    else s

/-- A write of ObsHostOutput: 1 resumes the copy (R161, R138). -/
def State.obsHostOutputWrite (s : State) (q : Sess) (v : Int) : State :=
  s.writeCommand q Obj.obsHostOutput v (fun s =>
    let s := s.setReg Obj.obsHostOutput v
    .ok (if v = 1 then { s with obs := { s.obs with copy := { s.obs.copy with stopped := false } } } else s))

/-! ### Reference station -/

/-- The base-station functions run: base role, past BOOT. -/
def State.isBase (s : State) : Bool := s.hasRole .base

/-- Changes the reference station. -/
def State.updRef (s : State) (f : BaseRefState → BaseRefState) : State := { s with baseRef := f s.baseRef }

/-- Corrections may be emitted: a reference position is in force and agrees with the base's own (R163, R164). -/
def State.correctionsAllowed (s : State) : Bool := s.isBase && !s.silent && s.baseRef.inForce && !s.baseRef.mismatch

/-- The survey of a base begins at BOOT (R163); with a fixed position that position is in force. -/
def State.startReference (s : State) : State :=
  if s.reg Obj.basePositionMode = 0 then s.updRef (fun b => { b with inForce := true, surveying := false })
  else s.updRef (fun b => { b with surveying := true, surveyFrom := s.now })

/-- The mean of a sum over n, rounded to nearest. -/
def roundedMean (l : List Int) : Int := (2 * l.foldl (· + ·) 0 + l.length) / (2 * max 1 l.length)

/-- The mean of single-point positions in ECEF, 0.1 mm. -/
def meanPoint (l : List (Int × Int × Int)) : Int × Int × Int := (roundedMean (l.map (·.1)), roundedMean (l.map (·.2.1)), roundedMean (l.map (·.2.2)))

/-- The squared distance of two points of space. -/
def distance3 (p q : Int × Int × Int) : Int := (p.1 - q.1) * (p.1 - q.1) + (p.2.1 - q.2.1) * (p.2.1 - q.2.1) + (p.2.2 - q.2.2) * (p.2.2 - q.2.2)

/-- The 1σ of the mean of n positions is at most a limit in mm. DESIGN CHOICE (log 162): over the three axes together, the sum of squared
distances from the mean over n (n - 1); the spec does not say how it is formed. -/
def meanWithin (l : List (Int × Int × Int)) (limit : Int) : Bool :=
  let n : Int := l.length
  decide (2 ≤ n) && decide ((l.map (distance3 (meanPoint l))).foldl (· + ·) 0 ≤ limit * limit * 100 * (n * (n - 1)))

/-- The survey ends when SurveyInTime has passed and the 1σ of the mean of its single-point positions is at most SurveyInLimit: the mean
becomes the fixed position (R163). -/
def State.surveyInComplete (s : State) (positions : List (Int × Int × Int)) : State :=
  if s.isBase ∧ s.baseRef.surveying ∧ s.baseRef.surveyFrom + ticksS (s.regN Obj.surveyInTime) ≤ s.now ∧
      meanWithin positions (s.reg Obj.surveyInLimit) = true then
    let m := meanPoint positions
    let s := ((s.storeNum Obj.baseEcefX 0 m.1).storeNum Obj.baseEcefY 0 m.2.1).storeNum Obj.baseEcefZ 0 m.2.2
    let s := s.storeNum Obj.basePositionMode 0 0
    s.updRef (fun b => { b with inForce := true, surveying := false })
  else s

/-- Three times SurveyInTime without meeting the limit: the survey restarts (R163). -/
def State.surveyInTimeout (s : State) : State :=
  if s.isBase ∧ s.baseRef.surveying ∧ s.baseRef.surveyFrom + 3 * ticksS (s.regN Obj.surveyInTime) ≤ s.now then
    s.updRef (fun b => { b with surveyFrom := s.now, restarted := true })
  else s

/-- The reference position in ECEF, 0.1 mm. -/
def State.baseEcef (s : State) : Int × Int × Int := (s.reg Obj.baseEcefX, s.reg Obj.baseEcefY, s.reg Obj.baseEcefZ)

/-- A single-point position in ECEF, 0.1 mm, lies more than 10 m from the reference, across or up (R164). -/
def State.farFromReference (s : State) (p : Int × Int × Int) : Bool :=
  let v := (frameOf (ecefRef s.baseEcef)).local (minus3 (ecefRef p) (ecefRef s.baseEcef))
  let r : Int := 10000 * 2 ^ 32
  decide (r * r < v.1 * v.1 + v.2.1 * v.2.1) || decide (r < v.2.2) || decide (v.2.2 < -r)

/-- The comparison every 10 s: three beyond 10 m in a row withhold corrections, three within resume them (R164). -/
def State.basePositionCheck (s : State) (x y z : Int) : State :=
  if !(s.isBase && s.baseRef.inForce) then s
  else if s.farFromReference (x, y, z) then
    s.updRef (fun b => { b with bad := min 3 (b.bad + 1), good := 0, mismatch := b.mismatch || decide (3 ≤ b.bad + 1) })
  else
    s.updRef (fun b => { b with good := min 3 (b.good + 1), bad := 0, mismatch := b.mismatch && !decide (3 ≤ b.good + 1) })

/-- The ECEF object of an axis. -/
def ecefObj : Fin 3 → ObjDesc
  | 0 => Obj.baseEcefX
  | 1 => Obj.baseEcefY
  | 2 => Obj.baseEcefZ

/-- A write of BaseEcefX, Y or Z resumes withheld corrections (R164); in fixed mode the coordinates are in force. -/
def State.baseEcefWrite (s : State) (q : Sess) (axis : Fin 3) (v : Int) : State :=
  s.writeCommand q (ecefObj axis) v (fun s =>
    match s.applyNum (ecefObj axis) 0 v with
    | .error a => .error a
    | .ok s => .ok (s.updRef (fun b => { b with mismatch := false, bad := 0, good := 0 })))

/-- The constellation of an MSM message by its tens. -/
def msmConstellation (number : Nat) : Nat :=
  match number / 10 with
  | 107 => 0 | 109 => 1 | 112 => 2 | 111 => 3 | _ => 4

/-- The MSM message of a component (R165): MSM4 or MSM7 by RtcmMsmType. GLONASS only with MSM7 and a decoded leap second count
(R162); a component only where RTCM 10403.3 assigns it a signal identifier. -/
def State.msmOf (s : State) (signal : Nat) : Option Nat :=
  let t := s.regN Obj.rtcmMsmType
  if !Config.rtcmAssigns signal then none
  else if signal ≤ 6 then some (1070 + t)
  else if signal ≤ 14 then some (1090 + t)
  else if signal ≤ 21 then some (1120 + t)
  else if signal ≤ 28 then some (1110 + t)
  else if t = 7 ∧ s.obs.leap.isSome then some 1087 else none

/-- A list without repeats, first places kept. -/
def dedup {α : Type} [DecidableEq α] : List α → List α
  | [] => []
  | x :: t => x :: (dedup t).filter (fun y => decide (y ≠ x))

/-- The observables of ANT_A at the newest epoch, from which a base forms its corrections (R163). -/
def State.baseEntries (s : State) : List ObsEntry := s.obs.entries.filter (fun o => decide (o.ant = .a))

/-- The station message is due: its interval has passed (R165). -/
def State.stationDue (s : State) : Bool :=
  match s.baseRef.stationAt with
  | none => true
  | some t => decide (t + ticksS (s.regN Obj.rtcmStationInterval) ≤ s.now)

/-- The MSM messages of the newest epoch by number: one per constellation observed (R165). -/
def State.msmNumbers (s : State) : List Nat := dedup (s.baseEntries.filterMap (fun o => s.msmOf o.signal))

/-- The station's part of a message: ID, multiple-message bit, time of the constellation, position, antenna height. -/
def State.stationPart (s : State) (more : Bool) (time : Int) : List Int :=
  [s.reg Obj.rtcmStationId, (if more then 1 else 0), time, s.baseEcef.1, s.baseEcef.2.1, s.baseEcef.2.2, s.reg Obj.baseAntennaHeight]

/-- The bytes of an MSM message of the newest epoch; the multiple-message bit stands on every one but the last. -/
def State.msmBytes (s : State) (epoch : Int) (number : Nat) (more : Bool) : List Byte :=
  Config.rtcmBytes number (s.stationPart more ((systemTime s.obs.leap (msmConstellation number) epoch).getD epoch))
    ((s.baseEntries.filter (fun o => decide (s.msmOf o.signal = some number))).map ObsEntry.bytes)

/-- The messages of an RTCM epoch: the station message when its interval has passed, then the MSMs (R165). -/
def State.rtcmMessages (s : State) (epoch : Int) : List (List Byte) :=
  let l := s.msmNumbers
  (if s.stationDue then [Config.rtcmBytes (if s.reg Obj.baseAntennaHeight = 0 then 1005 else 1006) (s.stationPart false epoch) []] else []) ++
    l.zipIdx.map (fun x => s.msmBytes epoch x.1 (decide (x.2 + 1 < l.length)))

/-- The discard counter of a port (R166). -/
def rtcmDiscardObj : Nat → ObjDesc
  | 0 => Obj.rtcmDiscardedUart0
  | 1 => Obj.rtcmDiscardedUart1
  | 2 => Obj.rtcmDiscardedTcp
  | _ => Obj.rtcmDiscardedHost

/-- UART0 carries RTCM only when BOOTSEL is not 0b10; a TCP port only serves its clients (R166). -/
def State.rtcmPortOpen (s : State) (p : Nat) : Bool :=
  bit (s.regN Obj.rtcmPorts) p && (decide (p ≠ 0) || decide (s.boot.bootSel ≠ 2)) && (decide (p ≠ 2) || decide (0 < s.baseRef.tcpClients))

/-- How many messages go out whole in a number of bytes. -/
def fitting : Nat → List (List Byte) → Nat
  | _, [] => 0
  | n, m :: t => if m.length ≤ n then 1 + fitting (n - m.length) t else 0

/-- The messages that a port has finished since they were queued: a UART sends ten bits a byte at its baud rate; TCP as its clients take
them (R166). -/
def State.rtcmSent (s : State) (p tcpSent : Nat) : Nat :=
  let baud := if p = 0 then s.regN Obj.rtcmUartBaud0 else s.regN Obj.rtcmUartBaud1
  if p = 2 then tcpSent else fitting (baud * (s.now - s.baseRef.queuedAt) / 20000000000) (Tab.get [] s.baseRef.unsent p)

/-- What is left of a port's older epoch is discarded whole and counted, and the new epoch's messages wait (R166). -/
def State.rtcmPort (s : State) (msgs : List (List Byte)) (p tcpSent : Nat) : State :=
  if !s.rtcmPortOpen p then s
  else
    let left := (Tab.get [] s.baseRef.unsent p).drop (s.rtcmSent p tcpSent)
    let s := if left.isEmpty then s else s.incr (rtcmDiscardObj p)
    s.updRef (fun b => { b with unsent := Tab.put [] b.unsent p msgs })

/-- The host queue's copy of the messages, under the backlog rule of R138: a stop clears the port's bit of RtcmPorts. -/
def copyMessages : List (List Byte) → State → State
  | [], s => s
  | m :: t, s =>
    if s.baseRef.copy.stopped then s
    else
      let (h, s, st) := s.hostCopy s.baseRef.copy (Config.rtcmQueue % 64) 524288 m
      let s := s.updRef (fun b => { b with copy := h })
      copyMessages t (if st then s.setReg Obj.rtcmPorts (s.regN Obj.rtcmPorts % 8 : Nat) else s)

/-- The newest observable epoch is one of RtcmRate whose messages have not been formed (R165). -/
def State.rtcmDue (s : State) : Option Int :=
  match s.obs.epoch with
  | none => none
  | some e => if e % (1000000000 / max 1 (s.reg Obj.rtcmRate)) = 0 ∧ s.baseRef.rtcmEpoch ≠ some e then some e else none

/-- The messages of an epoch are queued to each port (R166). -/
def State.rtcmEpoch (s : State) (tcpSent : Nat) : State :=
  if !s.correctionsAllowed then s
  else match s.rtcmDue with
  | none => s
  | some e =>
    let msgs := s.rtcmMessages e
    let s := if s.stationDue then s.updRef (fun b => { b with stationAt := some s.now }) else s
    let s := [0, 1, 2].foldl (fun s p => s.rtcmPort msgs p tcpSent) s
    let s := s.updRef (fun b => { b with rtcmEpoch := some e, queuedAt := s.now })
    if bit (s.regN Obj.rtcmPorts) 3 then copyMessages msgs s else s

/-- A client connects to the RTCM TCP server on ETH0, at its port: at most 4 (R166). -/
def State.rtcmTcpConnect (s : State) (port : Nat) : State :=
  if s.isBase ∧ bit (s.regN Obj.rtcmPorts) 2 ∧ port = s.regN Obj.rtcmTcpPort ∧ s.baseRef.tcpClients < 4 then
    s.updRef (fun b => { b with tcpClients := b.tcpClients + 1 })
  else s

/-- The link of ETH0 is lost: the clients of the server and the NTRIP connection are gone. -/
def State.rtcmClientsLost (s : State) : State := s.updRef (fun b => { b with tcpClients := 0, unsent := Tab.put [] b.unsent 2 [] })

/-! ### NTRIP (R168) -/

/-- Changes the rover's positioning. -/
def State.updNav (s : State) (f : PoseState → PoseState) : State := { s with nav := f s.nav }

/-- The client wants a connection: rover, and CorrectionSource names NTRIP. -/
def State.ntripWanted (s : State) : Bool := s.hasRole .rover && decide (s.reg Obj.correctionSource ≠ 0)

/-- ASCII bytes of a text. -/
def ascii (t : String) : List Byte := t.toList.map (fun c => BitVec.ofNat 8 c.toNat)

/-- The letters of base64. -/
def base64Letter (n : Nat) : Byte :=
  BitVec.ofNat 8 (if n < 26 then 65 + n else if n < 52 then 71 + n else if n < 62 then n - 4 else if n = 62 then 43 else 47)

/-- Base64 of bytes. -/
def base64 : List Byte → List Byte
  | a :: b :: c :: t =>
    let n := a.toNat * 65536 + b.toNat * 256 + c.toNat
    [base64Letter (n / 262144), base64Letter (n / 4096 % 64), base64Letter (n / 64 % 64), base64Letter (n % 64)] ++ base64 t
  | [a, b] =>
    let n := a.toNat * 65536 + b.toNat * 256
    [base64Letter (n / 262144), base64Letter (n / 4096 % 64), base64Letter (n / 64 % 64), 61]
  | [a] => [base64Letter (a.toNat / 4), base64Letter (a.toNat % 4 * 16), 61, 61]
  | [] => []

/-- A number in decimal. -/
def decimalText (n : Nat) : List Byte := ascii (toString n)

/-- The end of a line of HTTP. -/
def crlf : List Byte := [13, 10]

/-- The GET request of the client (R168): mountpoint, host and port, version 2.0, Basic authentication from user and password. -/
def State.ntripGet (s : State) : List Byte :=
  ascii "GET /" ++ s.oct Obj.ntripMountpoint ++ ascii " HTTP/1.1" ++ crlf ++
  ascii "Host: " ++ s.oct Obj.ntripHost ++ ascii ":" ++ decimalText (s.regN Obj.ntripPort) ++ crlf ++
  ascii "Ntrip-Version: Ntrip/2.0" ++ crlf ++
  ascii "Authorization: Basic " ++ base64 (s.oct Obj.ntripUser ++ ascii ":" ++ s.oct Obj.ntripPassword) ++ crlf ++ crlf

/-- The retry wait has passed: the client connects again with its request, or waits twice as long, up to 60 s. -/
def State.ntripRetry (s : State) (connected : Bool) : State :=
  if !(s.ntripWanted && !s.nav.ntripConnected && (s.nav.ntripDue.isNone || s.due s.nav.ntripDue)) then s
  else if connected then
    s.updNav (fun n => { n with ntripConnected := true, ntripRequest := s.ntripGet, ntripDue := none, ntripWait := 5, ggaDue := s.after (ticksS 10) })
  else
    s.updNav (fun n => { n with ntripDue := s.after (ticksS n.ntripWait), ntripWait := min 60 (2 * n.ntripWait) })

/-- The connection is lost: a retry after 5 s, then after twice the previous wait. -/
def State.ntripConnectionLost (s : State) : State :=
  if !(s.hasRole .rover && s.nav.ntripConnected) then s
  else s.updNav (fun n => { n with ntripConnected := false, aligned1230 := false, ggaDue := none, ntripDue := s.after (ticksS n.ntripWait), ntripWait := min 60 (2 * n.ntripWait) })

/-- Every 10 s a GGA sentence with the current position is sent. -/
def State.ntripGga (s : State) : State :=
  if s.nav.ntripConnected ∧ s.due s.nav.ggaDue then
    let g := Config.ggaSentence (s.lastPosition.getD (0, 0, 0)) s.time64 (s.regN Obj.solutionState) s.nav.appliedNsat
    s.updNav (fun n => { n with ggaSent := n.ggaSent + 1, gga := g, ggaDue := s.after (ticksS 10) })
  else s

/-- The rover takes its corrections from NTRIP now (R167): by CorrectionSource; with radio preferred, while the age of the radio's
corrections exceeds CorrectionAgeLimit. -/
def State.sourceNtrip (s : State) : Bool :=
  match s.regN Obj.correctionSource, s.nav.radioEpoch with
  | 0, _ => false
  | 1, _ => true
  | _, none => true
  | _, some e => decide (s.regN Obj.correctionAgeLimit * 1000000000 < s.time64 - e)

/-- Messages the client accepts (R168): 1005, 1006, 1230 and MSM4 to MSM7 of the constellations of R165. -/
def ntripAccepts (n : Nat) : Bool :=
  n = 1005 || n = 1006 || n = 1230 ||
    ([1070, 1080, 1090, 1110, 1120].any (fun b => decide (b + 4 ≤ n ∧ n ≤ b + 7)))

/-- A message received from NTRIP is accepted or ignored (R168): a 1230 says whether its biases are aligned (R172), and the last
observation message of an epoch, the one without the multiple-message bit, completes the base half of the epoch (R169) where NTRIP is in
use. -/
def State.ntripMessageRx (s : State) (n : Nat) (aligned more : Bool) (epoch : Int) : State :=
  if !(s.hasRole .rover && s.nav.ntripConnected && ntripAccepts n) then s
  else if n = 1230 then s.updNav (fun x => { x with aligned1230 := aligned })
  else if n = 1005 ∨ n = 1006 then s
  else if more || !s.sourceNtrip then s
  else s.rtkHalf epoch 1 n

/-- The base half of an epoch from the radio's correction stream. -/
def State.radioHalf (s : State) (epoch : Int) (value : Nat) : State :=
  let s := s.updNav (fun n => { n with radioEpoch := some epoch })
  if s.sourceNtrip then s else s.rtkHalf epoch 1 value

/-! ### RTK solution (R167, R169 to R172) -/

/-- The RTK task of an epoch is ready, or in service. -/
def State.rtkReady (s : State) (e : Int) : Bool := s.itemWaits Config.rtkFlow (epochTag e)

/-- The task of an epoch has run. -/
def State.rtkTaken (s : State) (e : Int) : State := s.itemDone Config.rtkFlow (epochTag e)

/-- The correction age of a solution in ms: its epoch less the newest base epoch used (R169). -/
def rtkAge (x : RtkSolution) : Option Nat := x.baseEpoch.map (fun b => ((x.epoch - b) / 1000000).toNat)

/-- The age is within CorrectionAgeLimit. -/
def State.ageHolds (s : State) (x : RtkSolution) : Bool :=
  match rtkAge x with
  | none => false
  | some a => decide (a ≤ s.regN Obj.correctionAgeLimit * 1000)

/-- The ratio test of R171. -/
def State.ratioHolds (s : State) (ratio : Int) : Bool := decide (s.reg Obj.fixRatio ≤ ratio)

/-- The phase of a component is used with float ambiguities only while a channel reports it half-cycle ambiguous (R159). -/
def State.halfOpen (s : State) (signal svid : Nat) : Bool :=
  s.gnss.channels.any (fun e => e.2.en && decide (e.2.signal = signal ∧ e.2.svid = svid) && e.2.halfUnresolved)

/-- Satellites among components whose ambiguities may be fixed: polarity resolved, and GLONASS where its phase is aligned (R159, R172). -/
def State.fixedCount (s : State) (glonass : Bool) (l : List (Nat × Nat)) : Nat :=
  (dedup ((l.filter (fun x => !s.halfOpen x.1 x.2 && (glonass || decide (constellation x.1 ≠ 4)))).map (fun x => (constellation x.1, x.2)))).length

/-- Satellites that the ambiguities of an RTK solution are fixed on: GLONASS only with Adetre corrections or an aligned 1230 (R172). -/
def State.fixedSats (s : State) (x : RtkSolution) : Nat := s.fixedCount (!s.nav.ntripInUse || s.nav.aligned1230) x.fixed

/-- The state of a matched solution with ambiguities estimated (R171). -/
def State.carrierState (s : State) (x : RtkSolution) : Nat :=
  if s.nav.throughFloat then 3
  else if s.nav.ambiguities && s.nav.holdDue.isSome && decide (5 ≤ x.continuous) then 4
  else if (if s.nav.matchedState = 4 then 5 else 6) ≤ s.fixedSats x ∧ s.ratioHolds x.ratio = true then 4 else 3

/-- The state of an extrapolated solution: that of the matched solution that it extends, less FIXED where fewer than 5 satellites keep
fixed ambiguities (R169, R171). -/
def State.extendedState (s : State) (x : RtkSolution) : Nat :=
  if s.nav.throughFloat then 3
  else if s.nav.matchedState = 4 ∧ s.fixedSats x < 5 then 3 else max 1 s.nav.matchedState

/-- The code of a solution's state (R170). -/
def State.solutionCode (s : State) (x : RtkSolution) : Nat :=
  if !s.ageHolds x then 1 else if !x.matched then s.extendedState x else if !x.carrier then 2 else s.carrierState x

/-- A change of the source in use discards every ambiguity; the solution passes through FLOAT (R167). -/
def State.noteSource (s : State) : State :=
  if s.sourceNtrip ≠ s.nav.ntripInUse then
    s.updNav (fun n => { n with ntripInUse := s.sourceNtrip, throughFloat := true, ambiguities := false, holdDue := none })
  else s

/-- A solution of the RTK task is delivered to the fusion thread. -/
def State.rtkSolution (s : State) (x : RtkSolution) : State :=
  if !s.hasRole .rover ∨ s.mode.current = .snapshot ∨ (x.matched = true ∧ s.rtkReady x.epoch = false) then s
  else
    let s := if x.matched then s.rtkTaken x.epoch else s
    let s := s.noteSource
    let c := s.solutionCode x
    let stale := !s.ageHolds x
    let kept := s.nav.matchedState = 4
    let s := s.updNav (fun n => { n with
      matchedState := c
      throughFloat := n.throughFloat && decide (c ≠ 3)
      ambiguities := if c = 4 then true else if stale then n.ambiguities else false
      holdDue := if stale then (if kept then some (s.now + ticksS 30) else n.holdDue) else none
      delivered := n.delivered ++ [{ heading := false, epoch := x.epoch, state := c, nsat := x.nsat, ntrip := n.ntripInUse && x.baseEpoch.isSome }] })
    let s := s.setReg Obj.solutionState c
    match rtkAge x with
    | none => s
    | some a => s.setReg Obj.correctionAge (min a 0xFFFFFFFE)

/-- 30 s without corrections: the kept ambiguities are given up (R171). -/
def State.ambiguityHoldExpiry (s : State) : State :=
  if s.due s.nav.holdDue then s.updNav (fun n => { n with ambiguities := false, holdDue := none }) else s

/-! ### Heading (R174 to R176) -/

/-- The ambiguities of a heading solution pass the test of R171. -/
def State.headingPasses (s : State) (x : HeadingSolution) : Bool :=
  s.ratioHolds x.ratio && decide ((if s.nav.headingState = 4 then 5 else 6) ≤ s.fixedCount true x.fixed)

/-- The solved length lies within ±15 mm of BaselineLength (R175), compared in squares. -/
def State.lengthHolds (s : State) (x : HeadingSolution) : Bool :=
  let l := s.reg Obj.baselineLength
  let d := x.east * x.east + x.north * x.north + x.up * x.up
  decide ((l - 15) * (l - 15) ≤ d) && decide (d ≤ (l + 15) * (l + 15))

/-- Q16.16 degrees in µdeg. -/
def microDegrees (q : Int) : Int := q * 1000000 / 65536

/-- The heading of the body x axis in µdeg: the course of the baseline less BaselineYaw (R174). -/
def State.baselineHeading (s : State) (x : HeadingSolution) : Nat :=
  ((Config.course x.east x.north - microDegrees (s.reg Obj.baselineYaw)) % 360000000).toNat

/-- The pitch of the body in µdeg: the elevation of the baseline less BaselinePitch (R174). -/
def State.baselineTilt (s : State) (x : HeadingSolution) : Int := Config.elevation x.east x.north x.up - microDegrees (s.reg Obj.baselinePitch)

/-- A heading solution: FIXED and delivered, or float; a fixed one of the wrong length is discarded and its ambiguities
are searched again (R175). -/
def State.headingSolution (s : State) (x : HeadingSolution) : State :=
  if !s.hasRole .rover ∨ s.mode.current = .snapshot then s
  else if s.headingPasses x && s.lengthHolds x then
    s.updNav (fun n => { n with
      headingState := 4
      headingFixedAt := some s.now
      heldHeading := s.baselineHeading x
      heldPitch := s.baselineTilt x
      delivered := n.delivered ++ [{ heading := true, epoch := x.epoch, state := 4, nsat := 0, ntrip := false }] })
  else s.updNav (fun n => { n with headingState := 3 })

/-- HeadingHoldTime after the last fixed heading its propagation ends (R176). -/
def State.headingHoldExpiry (s : State) : State :=
  match s.nav.headingFixedAt with
  | none => s
  | some t => if t + ticksS (s.regN Obj.headingHoldTime) ≤ s.now then s.updNav (fun n => { n with headingState := 0, headingFixedAt := none }) else s

/-! ### IMU (R177 to R179) -/

/-- ImuFrame of the store. -/
def State.imuFrame (s : State) : List Byte := s.oct Obj.imuFrame

/-- An IMU is fitted: ImuFrame is not zero. -/
def State.imuFitted (s : State) : Bool := s.imuFrame.any (fun b => decide (b ≠ 0))

/-- The next IMU sample instant, now or later: a whole multiple of the sample period (R177). -/
def State.imuInstant (s : State) : Int :=
  let p : Int := 1000000000 / max 1 (s.reg Obj.imuRate)
  ceilTo s.time64 p

/-- A sample instant in this cycle of CK_TS: IMU_SYNC is driven high for 2 µs from its count, to 0.5 ns (R385), and the frame is due
ImuReadDelay later (R177). -/
def State.imuSyncSample (s : State) : State :=
  match s.edgeNow s.imuInstant with
  | none => s
  | some e =>
    if s.hasRole .rover && s.imuFitted && decide (s.nav.imuAt ≠ some e) then
      s.updNav (fun n => { n with imuSync := n.imuSync + 1, imuEdge := some s.imuInstant, imuAt := some e
                                  imuReadDue := some (e + ticksUs (s.regN Obj.imuReadDelay)) })
    else s

/-- The transfer that reads a frame: SPI mode and clock, and the command bytes sent first (R177, R178). -/
def State.imuRead (s : State) : Nat × Nat × List Byte :=
  (s.regN Obj.imuSpiMode, s.regN Obj.imuSpiClock, slice s.imuFrame 1 (fieldU s.imuFrame 0 1))

/-- One axis of a frame by ORDER and OFS (R178). -/
def imuAxis (fmt frame : List Byte) (k : Nat) : Int :=
  let order := fieldU fmt 6 1
  let raw := slice frame (fieldU fmt (10 + k) 1) (if bit order 1 then 4 else 2)
  leSigned (if bit order 0 then raw.reverse else raw)

/-- The axes of a frame in Q16.16: mdeg/s by GYRO_SCALE, mg by ACCEL_SCALE (R178). -/
def imuScaled (fmt : List Byte) (axes : List Int) : List Int :=
  axes.zipIdx.map (fun x => x.1 * (if x.2 < 3 then fieldI fmt 16 4 else fieldI fmt 20 4))

/-- The axes in the body frame: turned by ImuMounting, roll, pitch and yaw in Q16.16 degrees; all zero turns nothing (R626, log 164). -/
def State.imuBody (s : State) (axes : List Int) : List Int :=
  let m := s.oct Obj.imuMounting
  if m.all (fun b => decide (b = 0)) then axes
  else
    let turn := Config.bodyAxes (fieldI m 0 4) (fieldI m 4 4) (fieldI m 8 4)
    turn (axes.take 3) ++ turn (axes.drop 3)

/-- The status test of a frame (R178): no status byte passes. -/
def imuStatusOk (fmt frame : List Byte) : Bool :=
  fieldU fmt 7 1 = 0xFF ||
    decide (fieldU frame (fieldU fmt 7 1) 1 &&& fieldU fmt 8 1 = fieldU fmt 9 1 &&& fieldU fmt 8 1)

/-- The frame read after an edge: the fault runs of R179, 1 s of good samples to rejoin. -/
def State.imuFrameRead (s : State) (frame : List Byte) : State :=
  if !(s.hasRole .rover && s.imuFitted && s.due s.nav.imuReadDue) then s
  else
    let fmt := s.imuFrame
    let complete := decide (fieldU fmt 5 1 ≤ frame.length)
    let ok := imuStatusOk fmt frame
    let axes := (List.range 6).map (imuAxis fmt frame)
    let s := s.updNav (fun n =>
      let n := { n with imuReadDue := none, imuTransfer := s.imuRead }
      if !complete then { n with imuCutRun := min 3 (n.imuCutRun + 1) }
      else if !ok then { n with imuCutRun := 0, imuFailRun := min 3 (n.imuFailRun + 1) }
      else { n with imuCutRun := 0, imuFailRun := 0, imuAxes := axes,
                    imuSameRun := if axes = n.imuAxes then min 50 (n.imuSameRun + 1) else 1,
                    imuSamples := if n.imuFault then n.imuSamples
                      else n.imuSamples ++ [(n.imuEdge.getD 0 - s.reg Obj.imuGroupDelay * 1000, s.imuBody (imuScaled fmt axes))] })
    let bad := decide (3 ≤ s.nav.imuFailRun) || decide (3 ≤ s.nav.imuCutRun) || decide (50 ≤ s.nav.imuSameRun)
    let good := complete && ok && decide (s.nav.imuSameRun < 50)
    s.updNav (fun n =>
      if bad then { n with imuFault := true, imuGoodFrom := none, imuSamples := [] }
      else if !n.imuFault then n
      else if !good then { n with imuGoodFrom := none }
      else match n.imuGoodFrom with
        | none => { n with imuGoodFrom := some s.now }
        | some t => if t + ticksS 1 ≤ s.now then { n with imuFault := false, imuGoodFrom := none } else n)

/-! ### Pose (R180 to R183) -/

/-- The last pose instant at or before now. -/
def State.poseInstantNow (s : State) : Int :=
  let p : Int := 1000000000 / max 1 (s.reg Obj.poseRate)
  s.time64 / p * p

/-- The newest of the position solutions applied. -/
def newestDelivered : List Delivered → Option Delivered
  | [] => none
  | d :: t =>
    match newestDelivered t with
    | none => some d
    | some x => if d.epoch ≤ x.epoch then some x else some d

/-- Applies the delivered solutions whose epoch lies within the last 200 ms; older ones are discarded and counted (R180). -/
def State.applyDelivered (s : State) (t : Int) : State :=
  let (fresh, late) := s.nav.delivered.partition (fun d => decide (t - 200000000 ≤ d.epoch))
  let s := s.addRegAt Obj.lateSolutions 0 late.length
  let hdg := fresh.any (·.heading)
  let s := s.updNav (fun n => { n with delivered := [], imuSamples := [],
                                       headingState := if hdg then 4 else n.headingState })
  match newestDelivered (fresh.filter (fun d => !d.heading)) with
  | none => s
  | some d => s.updNav (fun n => { n with appliedAt := some t, appliedState := d.state, appliedNsat := d.nsat, appliedNtrip := d.ntrip })

/-- The STATE of a pose: PROPAGATED once no solution has been applied for 200 ms (R180). -/
def State.poseCode (s : State) (t : Int) : Nat :=
  match s.nav.appliedAt with
  | none => 0
  | some x => if 200000000 ≤ t - x then 5 else s.nav.appliedState

/-- Ground speed of at least 1.0 m/s; velocities are in 0.1 mm/s. -/
def estimateMoves (e : PoseEstimate) : Bool := decide (10000 * 10000 ≤ e.velN * e.velN + e.velE * e.velE)

/-- HDG_STATE by R176. DESIGN CHOICE (log 161): the heading counts as fixed for 200 ms after the last fixed solution. -/
def State.headingCode (s : State) (e : PoseEstimate) : Nat :=
  match s.nav.headingFixedAt with
  | some t =>
    if s.nav.headingState = 4 ∧ s.now < t + ticksMs 200 then 4
    else if s.now < t + ticksS (s.regN Obj.headingHoldTime) then 5
    else if estimateMoves e then 6 else 0
  | none => if estimateMoves e then 6 else 0

/-- A pose record of 80 bytes (R181). -/
def Pose.bytes (p : Pose) : List Byte :=
  withCrc32 (leInt 8 p.time ++ leInt 8 p.est.lat ++ leInt 8 p.est.lon ++ leInt 4 p.est.height ++ leInt 4 p.est.velN ++
    leInt 4 p.est.velE ++ leInt 4 p.est.velU ++ leBytes 4 p.est.heading ++ leInt 4 p.est.pitch ++ leInt 4 p.est.roll ++
    leInt 4 p.est.yawRate ++ leBytes 2 (min p.est.hSigma 0xFFFF) ++ leBytes 2 (min p.est.vSigma 0xFFFF) ++
    leBytes 2 (min p.est.hdgSigma 0xFFFF) ++ leBytes 1 p.state ++ leBytes 1 p.hdgState ++ leBytes 2 p.corrAge ++
    leBytes 1 p.nsat ++ leBytes 1 p.flags ++ leBytes 4 p.seq ++ [0, 0, 0, 0])

/-- The IMU takes no part: none is fitted, or it is in fault (R179). -/
def State.imuOut (s : State) : Bool := s.nav.imuFault || !s.imuFitted

/-- An angle in µdeg turned at a rate in µdeg/s for a time in ns. -/
def turned (a rate dt : Int) : Nat := ((a + rate * dt / 1000000000) % 360000000).toNat

/-- An estimate carried on at constant velocity and yaw rate for a time in ns (R179). -/
def estimateOn (e : PoseEstimate) (dt : Int) : PoseEstimate :=
  let p := Config.advance (e.lat, e.lon, e.height) (e.velN, e.velE, e.velU) dt
  { e with lat := p.1, lon := p.2.1, height := p.2.2, heading := turned e.heading e.yawRate dt }

/-- The estimate of ANT_A at a pose instant: the filter's, or, without the IMU and with no solution applied, the newest solution carried
on (R179). -/
def State.estimateAt (s : State) (t : Int) (e : PoseEstimate) : PoseEstimate :=
  match s.nav.anchor with
  | some (from_, a) => if s.imuOut && decide (s.nav.appliedAt ≠ some t) then estimateOn a (t - from_) else e
  | none => e

/-- Uncertainty grows from pose to pose while none bounds it: H_SIGMA and HDG_SIGMA without the IMU, H_SIGMA while the state is PROPAGATED
(R30, R179). DEDUCED (log 163): by 1 at least. -/
def State.widen (s : State) (t : Int) (e : PoseEstimate) : PoseEstimate :=
  match s.nav.pose with
  | none => e
  | some p =>
    let wide := s.imuOut || decide (s.poseCode t = 5)
    if !wide || decide (s.nav.appliedAt = some t) then e
    else { e with hSigma := max e.hSigma (p.est.hSigma + 1), hdgSigma := if s.imuOut then max e.hdgSigma (p.est.hdgSigma + 1) else e.hdgSigma }

/-- HEADING, PITCH and HDG_SIGMA by their source (R174, R176). -/
def State.headingOf (s : State) (h : Nat) (e : PoseEstimate) : PoseEstimate :=
  match h with
  | 4 => { e with heading := s.nav.heldHeading, pitch := s.nav.heldPitch }
  | 5 => { e with heading := s.nav.heldHeading }
  | 6 => { e with heading := (Config.course e.velE e.velN % 360000000).toNat }
  | 0 => { e with hdgSigma := 0xFFFF }
  | _ => e

/-- The control point: the lever arm from ANT_A (R181). -/
def State.controlPoint (s : State) (e : PoseEstimate) : PoseEstimate :=
  let p := Config.leverArm (e.lat, e.lon, e.height) (e.heading, e.pitch, e.roll) (s.reg Obj.leverArmX, s.reg Obj.leverArmY, s.reg Obj.leverArmZ)
  { e with lat := p.1, lon := p.2.1, height := p.2.2 }

/-- The held heading turns with the yaw rate from pose to pose (R176); a solution applied at the instant is the new anchor. -/
def State.carryHeading (s : State) (t : Int) (e : PoseEstimate) : State :=
  let dt := match s.nav.pose with
    | none => 0
    | some p => t - p.time
  s.updNav (fun n => { n with heldHeading := turned n.heldHeading e.yawRate dt, anchor := if n.appliedAt = some t then some (t, e) else n.anchor })

/-- The estimate that a pose carries. -/
def State.poseEstimate (s : State) (t : Int) (h : Nat) (e : PoseEstimate) : PoseEstimate :=
  s.controlPoint (s.headingOf h (s.widen t e))

/-- A pose instant (R180, R181, R183): solutions applied, one record to PoseLatest and to the Kerb's mailbox. -/
def State.poseInstant (s : State) (e : PoseEstimate) : State :=
  let t := s.poseInstantNow
  if !s.hasRole .rover ∨ s.mode.current = .snapshot ∨ s.nav.pose.map (·.time) = some t then s
  else
    let s := s.applyDelivered t
    let e := s.estimateAt t e
    let s := s.carryHeading t e
    let h := s.headingCode e
    let flags := flag s.imuOut 0 + flag (decide (h = 6)) 1 + flag (decide (s.clk.state = .holdover)) 2 + flag s.nav.appliedNtrip 3
    s.updNav (fun n => { n with
      seq := (n.seq + 1) % 2 ^ 32
      pose := some { time := t, est := s.poseEstimate t h e, state := s.poseCode t, hdgState := h, corrAge := min 0xFFFF (s.regN Obj.correctionAge / 10),
                     nsat := n.appliedNsat, flags := flags, seq := (n.seq + 1) % 2 ^ 32 } })

end Sys2Proof.Machine
end

