-- ==== Sys2Proof/Machine/Kerb.lean ====
section
/-!
DEFINITION. Machine/Kerb.lean: the Kerb engine (R225 to R244, R256) and the section chain (R245 to R255).
Lengths in the prediction are µm, angles µdeg, times within an evaluation 10 µs.
-/
namespace Sys2Proof.Machine

/-! ### Prediction (R238, R239) -/

/-- The motion that an evaluation predicts from one pose. -/
structure Motion where
  origin : Pt
  speed : Int
  course : Int
  heading : Int
  yaw : Int
  implement : Int

/-- The hitch's numbers. -/
def State.hitch (s : State) : List Int := [s.reg Obj.hitchOffsetX * 1000, s.reg Obj.hitchOffsetY * 1000, s.reg Obj.hitchToAxle * 1000]

/-- The implement is trailed. -/
def State.trailed (s : State) : Bool := decide (s.reg Obj.implementModel = 1)

/-- The numbers of a motion. -/
def Motion.numbers (m : Motion) : List Int := [m.speed, m.course, m.heading, m.yaw]

/-- Plane coordinates of a pose in a field, µm (R229, R626). -/
def planeOf (f : FieldRec) (e : PoseEstimate) : Pt :=
  let p := planePoint (f.lat, f.lon, f.height) (e.lat, e.lon, e.height)
  { e := p.e * 1000, n := p.n * 1000 }

/-- The motion of a pose; speeds of a pose are 0.1 mm/s. -/
def State.motionOf (s : State) (f : FieldRec) (p : Pose) : Motion :=
  let v := (p.est.velN * 100) * (p.est.velN * 100) + (p.est.velE * 100) * (p.est.velE * 100)
  { origin := planeOf f p.est, speed := Config.root v.toNat, course := Config.course p.est.velE p.est.velN,
    heading := p.est.heading, yaw := p.est.yawRate, implement := s.kerb.phi.getD p.est.heading }

/-- The control point after k samples of 10 ms. A yaw rate below 10^-6 rad/s, 57.29 µdeg/s, is a straight line. -/
def Motion.control (m : Motion) (k : Nat) : Pt :=
  let d := m.yaw * k / 100
  if m.yaw.natAbs ≤ 57 then
    { e := m.origin.e + Config.sinMul (m.speed * k / 100) m.course, n := m.origin.n + Config.cosMul (m.speed * k / 100) m.course }
  else
    let r := Config.turnRadius m.speed m.yaw
    { e := m.origin.e + (Config.cosMul r m.course - Config.cosMul r (m.course + d))
      n := m.origin.n + (Config.sinMul r (m.course + d) - Config.sinMul r m.course) }

/-- The heading after k samples. -/
def Motion.headingAt (m : Motion) (k : Nat) : Int := m.heading + m.yaw * k / 100

/-- A body offset at a heading: x forward, y right (R238). -/
def bodyOffset (p : Pt) (heading x y : Int) : Pt :=
  { e := p.e + Config.sinMul x heading + Config.cosMul y heading, n := p.n + Config.cosMul x heading - Config.sinMul y heading }

/-- The implement heading after k samples, in steps of 10 ms (R239). -/
def State.implementAt (s : State) (m : Motion) : Nat → Int
  | 0 => m.implement
  | k + 1 => Config.trail (s.implementAt m k) (m.numbers ++ [m.headingAt k, k]) s.hitch 10

/-- The point from which section offsets are measured, and the heading at which they apply (R226, R239). -/
def State.frameAt (s : State) (m : Motion) (k : Nat) : Pt × Int :=
  if s.trailed then
    let phi := s.implementAt m k
    let hitch := bodyOffset (m.control k) (m.headingAt k) (s.reg Obj.hitchOffsetX * 1000) (s.reg Obj.hitchOffsetY * 1000)
    (bodyOffset hitch phi (-(s.reg Obj.hitchToAxle * 1000)) 0, phi)
  else (m.control k, m.headingAt k)

/-- The footprint of a section at sample k: left end, right end (R226). -/
def State.footprintAt (s : State) (m : Motion) (i k : Nat) : Pt × Pt :=
  let (o, h) := s.frameAt m k
  let x := s.regAt Obj.sectionOffsetX i * 1000
  let y := s.regAt Obj.sectionOffsetY i * 1000
  let w := s.regAt Obj.sectionWidth i * 500
  (bodyOffset o h x (y - w), bodyOffset o h x (y + w))

/-- Linear interpolation between two points, f of 1,000 parts. -/
def between (p q : Pt) (f : Nat) : Pt :=
  { e := (p.e * (1000 - f) + q.e * f) / 1000, n := (p.n * (1000 - f) + q.n * f) / 1000 }

/-- The footprint t × 10 µs after the pose: interpolated between samples (R240). -/
def State.footprint (s : State) (m : Motion) (i t : Nat) : Pt × Pt :=
  let p := s.footprintAt m i (t / 1000)
  let q := s.footprintAt m i (t / 1000 + 1)
  (between p.1 q.1 (t % 1000), between p.2 q.2 (t % 1000))

/-! ### Coverage queries (R233, R236, R237, R279) -/

/-- Cell sizes by their code, mm (R276). -/
def cellMm : Nat → Nat
  | 0 => 25 | 1 => 50 | 2 => 100 | _ => 200

/-- The key of a tile. -/
def tileKey (tx ty : Int) : Nat := ((tx + 32768) * 65536 + (ty + 32768)).toNat

/-- The value of a cell in a tile's layer (R262). -/
def Tile.cell (t : Tile) (layer : Nat) (i j : Int) : Nat := Tab.get 0 t.cells (layer * 4096 + ((j % 64) * 64 + i % 64).toNat)

/-- The cells whose closed square holds a coordinate: one, or two on a shared edge. -/
def cellsAt (x c : Int) : List Int := if x % c = 0 then [x / c - 1, x / c] else [x / c]

/-- A cell of the cache is covered; one in an absent tile follows TileMissPolicy. Answers covered and missed. -/
def State.cellCovered (s : State) (layer : Nat) (i j : Int) : Bool × Bool :=
  match Tab.get none s.cache.tiles (tileKey (i / 64) (j / 64)) with
  | none => (decide (s.reg Obj.tileMissPolicy = 1), true)
  | some t => (decide (t.cell layer i j ≠ 0), false)

/-- The point lies within the self-mask: in a footprint applied in the last SelfMaskTime, or less than √2 c from it. -/
def State.selfMasked (s : State) (now : Int) (c : Int) (p : Pt) : Bool :=
  s.kerb.mask.any (fun m => decide (now - s.reg Obj.selfMaskTime * 1000000 ≤ m.time) &&
    (insideCount [m.l0, m.r0, m.r1] p || insideCount [m.l0, m.r1, m.l1] p ||
      [(m.l0, m.r0), (m.r0, m.r1), (m.r1, m.l1), (m.l1, m.l0), (m.l0, m.r1)].any (fun x => pointCloser x.1 x.2 p (2 * c * c))))

/-- A sample point is covered (R230, R236, R237, R279), with cells of c µm. -/
def State.pointCovered (s : State) (now c : Int) (layer : Nat) (p : Pt) : Bool :=
  !s.selfMasked now c p &&
    (cellsAt p.e c).any (fun i => (cellsAt p.n c).any (fun j => (s.cellCovered layer i j).1))

/-- A sample point falls in an absent tile. -/
def State.pointMissed (s : State) (c : Int) (layer : Nat) (p : Pt) : Bool :=
  (cellsAt p.e c).any (fun i => (cellsAt p.n c).any (fun j => (s.cellCovered layer i j).2))

/-- The number of sample points (R233). -/
def sampleCount (width c : Nat) : Nat := min 16 (max 2 ((width + c - 1) / c + 1))

/-- The sample points of a footprint. -/
def samplePoints (l r : Pt) (k : Nat) : List Pt :=
  (List.range k).map (fun (j : Nat) => ({ e := l.e + (r.e - l.e) * j / (k - 1 : Nat), n := l.n + (r.n - l.n) * j / (k - 1 : Nat) } : Pt))

/-! ### Wanted state (R231 to R235) -/

/-- r_i: the distance of the section's farthest footprint end from the control point, µm. -/
def State.reachOf (s : State) (i : Nat) : Nat :=
  let x := s.regAt Obj.sectionOffsetX i * 1000
  let y := (s.regAt Obj.sectionOffsetY i * 1000).natAbs + s.regNAt Obj.sectionWidth i * 500
  Config.root ((x * x).toNat + y * y) + (if s.trailed then s.regN Obj.hitchToAxle * 1000 else 0)

/-- σ_i of a section at a pose, µm (R234). -/
def State.sigmaOf (s : State) (p : Pose) (i : Nat) : Nat := p.est.hSigma * 1000 + Config.radMul (s.reachOf i) p.est.hdgSigma

/-- Forward speed, 0.1 mm/s (R231). -/
def forwardSpeed (p : Pose) : Int := Config.cosMul p.est.velN p.est.heading + Config.sinMul p.est.velE p.est.heading

/-- The pose rules (R235) at an instant. -/
def State.poseValid (s : State) (p : Pose) (t : Int) : Bool :=
  decide (t - p.time ≤ s.reg Obj.poseStaleLimit * 1000000) && decide (p.state ≠ 0) && decide (p.state ≠ 6) && decide (p.hdgState ≠ 0)

/-- The map of the loaded task has a layer for the section's product. -/
def State.layerHeld (s : State) (f : FieldRec) (i : Nat) : Bool := decide (s.regNAt Obj.sectionProduct i < f.layers)

/-- ISOBUS section control holds a section OFF: its setpoint is not 0b01 (R430); one never received counts as 0b00 (log 41). -/
def State.isobusOff (s : State) (i : Nat) : Bool :=
  decide (i < 256) && decide (s.reg Obj.isobusSectionControl = 1) && decide (Tab.get 0 s.net.iso.setpoints i ≠ 1)

/-- The state conditions of R231 that concern no pose. -/
def State.sectionReady (s : State) (i : Nat) : Bool :=
  decide (s.mode.current = .rover) && s.kerb.chain.oe && !s.kerb.chain.fault && decide (s.reg Obj.masterEnable = 1) &&
  s.secEnabled i && decide (s.regAt Obj.sectionMode i ≠ 1) && !s.isobusOff i &&
  (decide (s.regAt Obj.sectionLoopGroup i = 255) || decide ((s.group (s.regNAt Obj.sectionLoopGroup i)).state = .running)) &&
  s.fleet.task.isSome

/-- The state conditions of R231 that concern the pose. -/
def State.poseReady (s : State) (p : Pose) (t : Int) (i : Nat) : Bool :=
  s.poseValid p t && decide (s.reg Obj.minApplySpeed * 10 ≤ forwardSpeed p) &&
    decide (s.sigmaOf p i ≤ s.regN Obj.poseSigmaLimit * 1000)

/-- The predicted conditions of R232 on a footprint, with the margin 2 σ_i. -/
def State.footprintWanted (s : State) (f : FieldRec) (now : Int) (sigma i : Nat) (l r : Pt) : Bool :=
  let m2 : Int := (2 * sigma) * (2 * sigma)
  let polys := f.polys.map (fun poly => poly.map (fun p => ({ e := p.e * 1000, n := p.n * 1000 } : Pt)))
  let bound := match polys with
    | [] => false
    | b :: _ => deepInside b l r m2
  let zones := !((polys.drop 1).any (fun z => withinZone z l r m2))
  let c : Nat := cellMm f.cell * 1000
  let k := sampleCount (s.regNAt Obj.sectionWidth i * 1000) c
  let covered := (samplePoints l r k).countP (s.pointCovered now c (s.regNAt Obj.sectionProduct i))
  let automatic := decide (s.regAt Obj.sectionMode i = 0)
  bound && zones && (!automatic || (s.layerHeld f i && decide (100 * covered ≤ s.regN Obj.overlapTolerance * k)))

/-- A sample point is covered somewhere on its way from a to b: its path touches a covered cell (R240). -/
def State.pathCovered (s : State) (now c : Int) (layer : Nat) (a b : Pt) : Bool :=
  s.pointCovered now c layer a || s.pointCovered now c layer b ||
    (!s.selfMasked now c a && [a.e / c, b.e / c].any (fun i => [a.n / c, b.n / c].any (fun j =>
      (s.cellCovered layer i j).1 && (edgesOf (squareAt { e := i * c, n := j * c } c)).any (fun x => segmentsMeet a b x.1 x.2))))

/-- The conditions of R232 hold on the way of a footprint from one instant to the next: its ends' paths keep the margins too, and its
covered share counts every sample point whose path touches a covered cell. DEDUCED (log 167): within 10 µs, R240's resolution. -/
def State.pathWanted (s : State) (f : FieldRec) (now : Int) (sigma i : Nat) (x y : Pt × Pt) : Bool :=
  let m2 : Int := (2 * sigma) * (2 * sigma)
  let polys := f.polys.map (fun poly => poly.map (fun p => ({ e := p.e * 1000, n := p.n * 1000 } : Pt)))
  let ways := [(x.1, y.1), (x.2, y.2)]
  let bound := match polys with
    | [] => false
    | b :: _ => ways.all (fun w => deepInside b w.1 w.2 m2)
  let zones := !((polys.drop 1).any (fun z => ways.any (fun w => withinZone z w.1 w.2 m2)))
  let c : Nat := cellMm f.cell * 1000
  let k := sampleCount (s.regNAt Obj.sectionWidth i * 1000) c
  let covered := ((samplePoints x.1 x.2 k).zip (samplePoints y.1 y.2 k)).countP (fun w => s.pathCovered now c (s.regNAt Obj.sectionProduct i) w.1 w.2)
  bound && zones && (!decide (s.regAt Obj.sectionMode i = 0) || decide (100 * covered ≤ s.regN Obj.overlapTolerance * k))

/-- The section is wanted ON from an instant of receiver time to 10 µs later, predicted from a pose (R232, R240). -/
def State.wantedAt (s : State) (f : FieldRec) (p : Pose) (i : Nat) (t : Int) : Bool :=
  let m := s.motionOf f p
  let k := ((t - p.time) / 10000).toNat
  let x := s.footprint m i k
  s.footprintWanted f t (s.sigmaOf p i) i x.1 x.2 && s.pathWanted f t (s.sigmaOf p i) i x (s.footprint m i (k + 1))

/-- The first instant from t on, in steps of 10 µs, at which the wanted state is v; n steps are looked at (R240). -/
def State.firstWanted (s : State) (f : FieldRec) (p : Pose) (i : Nat) (v : Bool) : Nat → Int → Option Int
  | 0, _ => none
  | n + 1, t => if s.wantedAt f p i t = v then some t else s.firstWanted f p i v n (t + 10000)

/-! ### From crossing to switch (R241 to R243, R254) -/

/-- The switch instant of a slot: T_k + ChainLatency at the nominal CK_IO of 10 ns. -/
def State.switchInstant (s : State) (k : Nat) : Int := k * 100000 + s.chainLatency * 10

/-- The delay of a section, ns. -/
def State.onDelay (s : State) (i : Nat) : Int := s.regAt Obj.sectionOnDelay i * 100000
def State.offDelay (s : State) (i : Nat) : Int := s.regAt Obj.sectionOffDelay i * 100000

/-- The slot of a change at t_c: an OFF at or before its target, an ON at or after it (R241). -/
def State.slotFor (s : State) (i : Nat) (on : Bool) (tc : Int) : Nat :=
  let lat : Int := s.chainLatency * 10
  if on then (-(-(tc - s.onDelay i - lat) / 100000)).toNat else ((tc - s.offDelay i - lat) / 100000).toNat

/-- The instant from which the last command of a section acts at its product edge. -/
def State.effective (s : State) (i : Nat) (t0 : Int) : Int :=
  let x := s.sec i
  match x.issued with
  | some (v, k) => s.switchInstant k + (if v then s.onDelay i else s.offDelay i)
  | none => x.due.getD t0

/-- Sets the schedule of a section; a slot that can no longer be issued becomes the earliest one and counts as late (R243). -/
def State.planSwitch (s : State) (i : Nat) (on : Bool) (slot earliest : Nat) : State :=
  let s := s.setSec i { s.sec i with plan := some (on, max slot earliest) }
  if slot < earliest then (s.incr Obj.lateDecisions).updKerb (fun k => { k with late := true }) else s

/-- An entry of the CK_IO queue for one section; entries of a slot and block that follow each other are one (R242). -/
def pushSwitch (k i : Nat) (on : Bool) : List SwitchEntry → List SwitchEntry
  | [] => [{ slot := k % 65536, block := i / 64, values := [(i, on)] }]
  | [e] =>
    if e.slot = k % 65536 ∧ e.block = i / 64 then [{ e with values := e.values ++ [(i, on)] }]
    else [e, { slot := k % 65536, block := i / 64, values := [(i, on)] }]
  | e :: t => e :: pushSwitch k i on t

/-- Queues an entry; the queue holds 64 (R37), which the issues of two slots do not fill (R242). -/
def State.queueSwitch (s : State) (k i : Nat) (on : Bool) : State :=
  s.updChain (fun c => { c with queue := (pushSwitch k i on c.queue).take 64 })

/-- One section in one evaluation at t0 with a pose in use. -/
def State.scheduleSection (s : State) (t0 : Int) (i : Nat) : State :=
  let x := s.sec i
  let earliest := earliestSlot (t0 + 400000)
  if x.state = .fault then s
  else match s.fleet.task, s.kerb.pose with
    | some tk, some p =>
      if !(s.sectionReady i && s.poseReady p t0 i) then
        s.setSec i { x with plan := if x.commanded then some (false, earliest) else none }
      else
        let cmd := x.commanded
        -- an OFF acts up to one slot ahead of its crossing
        let eff := s.effective i t0 + (if cmd then 0 else 100000)
        let start := if t0 < eff then eff else t0
        let steps := ((t0 + s.reg Obj.lookAheadHorizon * 1000000 - start) / 10000).toNat
        match s.firstWanted tk.field p i (!cmd) steps start with
        | none => s.setSec i { x with plan := none }
        | some tc =>
          match x.issued with
          | some (v, k) =>
            if tc = start then (s.setSec i { x with plan := none, issued := some (!v, k) }).queueSwitch k i (!v)
            else s.planSwitch i (!cmd) (s.slotFor i (!cmd) tc) earliest
          | none =>
            let first := if cmd then earliest else max earliest (s.kerb.chain.oeSlot + 1)
            s.planSwitch i (!cmd) (s.slotFor i (!cmd) tc) first
    | _, _ => s.setSec i { x with plan := if x.commanded then some (false, earliest) else none }

/-- W(p): the width in mm of a product's sections whose captured chain bit is ON (R256). -/
def State.openWidth (s : State) (p : Nat) : Nat :=
  (s.busySections.filter (fun i => (s.sec i).captured && decide (s.regNAt Obj.sectionProduct i = p))).foldl
    (fun w i => w + s.regNAt Obj.sectionWidth i) 0

/-- The product targets of an evaluation (R256): Q16.16 per minute, v in 0.1 mm/s. -/
def State.productTargets (s : State) (v : Int) : State :=
  [0, 1, 2, 3].foldl (fun s p =>
    let w := s.openWidth p
    (s.setReg (productWidthObj p) w).setReg (productTargetObj p) (s.reg (productRateObj p) * w * v * 60 / 100000000000)) s

/-- The pose an evaluation uses: the mailbox's where its CRC is correct, else the one in use (R235); the implement
heading follows from pose to pose and starts at the pose's heading (R239). -/
def State.takePose (s : State) (crcOk : Bool) : State :=
  if !crcOk then s
  else match s.nav.pose with
    | none => s
    | some p =>
      let fresh := match s.kerb.pose with
        | none => true
        | some o => decide (o.time ≠ p.time)
      if !fresh then s
      else
        let phi := match s.kerb.phi, s.kerb.pose with
          | some h, some o =>
            if o.hdgState = 0 then (p.est.heading : Int)
            else Config.trail h [o.est.velN, o.est.velE, o.est.heading, o.est.yawRate, p.est.velN, p.est.velE, p.est.heading, p.est.yawRate]
              s.hitch ((p.time - o.time) / 1000000)
          | _, _ => p.est.heading
        s.updKerb (fun k => { k with pose := some p, phi := some phi })

/-- An automatic enabled section whose product has no layer (R232). -/
def State.layerMissing (s : State) : Bool :=
  match s.fleet.task with
  | none => false
  | some tk => s.enabledSections.any (fun i => decide (s.regAt Obj.sectionMode i = 0) && !s.layerHeld tk.field i)

/-- The evaluation queries an absent tile (R237). -/
def State.evaluationMisses (s : State) : Bool :=
  match s.fleet.task, s.kerb.pose with
  | some tk, some p =>
    -- the samples of R240 over the horizon
    s.enabledSections.any (fun i => (List.range (s.regN Obj.lookAheadHorizon / 10 + 1)).any (fun j =>
      let ends := s.footprintAt (s.motionOf tk.field p) i j
      let c : Nat := cellMm tk.field.cell * 1000
      (samplePoints ends.1 ends.2 (sampleCount (s.regNAt Obj.sectionWidth i * 1000) c)).any (s.pointMissed c (s.regNAt Obj.sectionProduct i))))
  | _, _ => false

/-- One evaluation of all sections at a whole millisecond (R225). -/
def State.kerbEvaluation (s : State) (crcOk : Bool) : State :=
  if !s.hasRole .rover then s
  else
    let t0 := s.time64 / 1000000 * 1000000
    let s := s.takePose crcOk
    let valid := match s.kerb.pose with
      | none => false
      | some p => s.poseValid p t0
    let v := match s.kerb.pose with
      | none => 0
      | some p => forwardSpeed p
    let limit := match s.kerb.pose with
      | none => false
      | some p => s.enabledSections.any (fun i => decide (s.regN Obj.poseSigmaLimit * 1000 < s.sigmaOf p i))
    let s := s.updKerb (fun k => { k with
      poseInvalid := !valid
      slow := valid && decide (v < s.reg Obj.minApplySpeed * 10)
      sigmaLimit := limit
      noLayer := s.layerMissing
      tileMiss := k.tileMiss || s.evaluationMisses
      mask := k.mask.filter (fun m => decide (t0 - s.reg Obj.selfMaskTime * 1000000 ≤ m.time)) })
    let s := (s.enabledSections ++ s.busySections.filter (fun i => !s.secEnabled i)).foldl (fun s i => s.scheduleSection t0 i) s
    s.productTargets (if valid then v else 0)

/-- The entries of the next slot are issued at the start of this one (R242); OFF passes to ARMING and ON to CLOSING (R253). -/
def State.issueSection (s : State) (k i : Nat) : State :=
  let x := s.sec i
  match x.plan with
  | none => s
  | some (v, slot) =>
    if k < slot ∨ x.state = .fault then s
    else
      let st := if v then (if x.state = .off then .arming else x.state) else (if x.state = .on then .closing else x.state)
      (s.setSec i { x with plan := none, issued := some (v, k), state := st }).queueSwitch k i v

/-- The start of slot k - 1. -/
def State.slotIssue (s : State) : State :=
  if !s.hasRole .rover ∨ s.kerb.chain.fault then s
  else s.busySections.foldl (fun s i => s.issueSection (s.slotNow + 1) i) s

/-! ### Chain (R245 to R251) -/

/-- The modes in which the chain shifts (R246). -/
def State.chainMode (s : State) : Bool :=
  decide (s.mode.role = some .rover) && (decide (s.mode.current = .rover) || decide (s.mode.current = .snapshot) || decide (s.mode.current = .halt))

/-- A capture that finds a section's bit changed, or a switch that a reversing entry cancelled (R253, R254). -/
def State.captureSection (s : State) (k i : Nat) (v : Bool) : State :=
  let x := s.sec i
  let sw := s.switchInstant k
  if v = x.captured then
    let st := if x.state = .fault then .fault
      else if v then (match x.from_ with | some t => if t ≤ s.time64 then .on else .arming | none => .on) else .off
    s.setSec i { x with issued := none, state := st }
  else if v then
    let a := sw + s.onDelay i
    let s := match x.from_, x.till with
      | some _, some e => if a ≤ e then s else s.closeSpan i e
      | _, _ => s
    let x := s.sec i
    (s.setSec i { x with captured := true, issued := none, state := .arming, due := some a, from_ := x.from_.or (some a), till := none }).incrAt Obj.sectionSwitchCount i
  else
    let e := sw + s.offDelay i
    s.setSec i { x with captured := false, issued := none, state := .closing, due := some e, till := some e }

/-- The entries that a capture takes: those of its slot, and any that came after their slot's start (R39). -/
def State.dueEntries (s : State) (k : Nat) : List SwitchEntry :=
  s.kerb.chain.queue.filter (fun e => decide (0 ≤ signedDiff 16 (k % 65536) e.slot))

/-- The last value that the entries give a section. -/
def lastValue (l : List SwitchEntry) : List (Nat × Bool) :=
  (l.flatMap (·.values)).foldl (fun acc v => acc.filter (fun w => decide (w.1 ≠ v.1)) ++ [v]) []

/-- A chain fault (R248). -/
def State.chainFault (s : State) : State :=
  let t := s.time64
  let s := s.deassertOe.chainOff.updChain (fun c => { c with fault := true })
  let s := (s.enabledSections ++ s.busySections).foldl (fun s i =>
    (s.closeSpan i t).setSec i (if s.secEnabled i then { Section.idle with state := .fault } else Section.idle)) s
  s.incr Obj.chainFaultCount

/-- A slot of the chain (R246): capture, the readback compare with the bits shifted before, and SEC_OE_N at its SEC_LAT
edge (R249). readback holds the bits sampled at SEC_DI, by chain bit. -/
def State.slotBoundary (s : State) (readback : Nat) : State :=
  let n := s.regN Obj.chainLength
  let k := s.slotNow
  if !s.chainMode ∨ n = 0 ∨ s.kerb.chain.doneSlot = some k then s
  else
    let s := if s.kerb.chain.running then s else s.chainRestart
    let due := s.dueEntries k
    let late := (due.filter (fun e => decide (e.slot ≠ k % 65536))).length
    let s := s.updChain (fun c => { c with queue := c.queue.filter (fun e => decide (signedDiff 16 (k % 65536) e.slot < 0)) })
    let s := if s.kerb.chain.fault then s
      else
        let vals := lastValue due
        let s := s.addRegAt Obj.lateEvents 0 late
        let image := vals.foldl (fun m v => s.imageWith m v.1 v.2) s.kerb.chain.image
        let s := s.updChain (fun c => { c with image := image, allOff := decide (image = s.offImage) })
        vals.foldl (fun s v => s.captureSection k v.1 v.2) s
    let c := s.kerb.chain
    let rb := decide (s.reg Obj.chainReadback = 1)
    let match_ := decide (readback % 2 ^ n = c.shifted)
    let s := s.updChain (fun c => { c with captures := c.captures + 1, doneSlot := some k, shifted := c.image % 2 ^ n, shiftedOff := c.allOff })
    if rb && decide (0 < c.captures) && !match_ then s.chainFault
    else if decide (s.mode.current = .rover) && !c.fault && c.allOff && decide (0 < c.captures) && (!rb || c.shiftedOff) && !c.oe then
      s.updChain (fun c => { c with oe := true, oeSlot := k })
    else s

/-- The switch instant plus the delay is reached: ARMING to ON, CLOSING to OFF (R253). -/
def State.sectionDelayElapsed (s : State) (i : Nat) : State :=
  let x := s.sec i
  match x.due with
  | none => s
  | some d =>
    if s.time64 < d then s
    else match x.state with
      | .arming => s.setSec i { x with state := .on, due := none }
      | .closing => let s := s.closeSpan i d; s.setSec i { s.sec i with state := .off, due := none }
      | _ => s.setSec i { x with due := none }

/-! ### Writes (R227, R247, R250, R255) -/

/-- The state code of a section (R252). -/
def secCode : SecState → Nat
  | .off => 0 | .arming => 1 | .on => 2 | .closing => 3 | .fault => 4

/-- Every section is OFF or FAULT. -/
def State.sectionsQuiet (s : State) : Bool :=
  s.busySections.all (fun i => decide ((s.sec i).state = .off) || decide ((s.sec i).state = .fault))

/-- ChainFaultClear: accepted only while CHAIN_FAULT is set (R250). -/
def State.chainFaultClear (s : State) (q : Sess) (v : Int) : State :=
  s.writeCommand q Obj.chainFaultClear v (fun s =>
    if v ≠ 1 ∨ s.kerb.chain.fault = false then .error abortAccess
    else
      let s := s.updChain (fun c => { c with fault := false })
      .ok (s.busySections.foldl (fun s i => if (s.sec i).state = .fault then s.setSec i Section.idle else s) s))

/-- The object of a chain configuration write. -/
def chainObj : ChainObject → ObjDesc
  | .length => Obj.chainLength | .divider => Obj.chainDivider | .readback => Obj.chainReadback | .model => Obj.implementModel

/-- A chain of the written length and divider ends inside its slot, and SEC_CLK, 50 MHz over the divider, stays within the highest
toggle frequency of the SLEW_CHAIN setting in force: 5 MHz at setting 0, 25 MHz and more at the others (R247, R609, R610). -/
def State.chainFits (s : State) (which : ChainObject) (v : Int) : Bool :=
  let n := if which = .length then v else s.reg Obj.chainLength
  let d := if which = .divider then v else s.reg Obj.chainDivider
  (decide (which ≠ .length) && decide (which ≠ .divider)) ||
    (decide (5 + (2 * n + 3) * d ≤ 9900) && (decide (bits (s.bootRegN Obj.outputSlew) 0 2 ≠ 0) || decide (10 ≤ d)))

/-- A chain configuration write restarts the chain (R247). -/
def State.chainConfigWrite (s : State) (q : Sess) (which : ChainObject) (v : Int) : State :=
  s.writeCommand q (chainObj which) v (fun s =>
    if !s.chainFits which v then .error abortRange
    else if !s.sectionsQuiet then .error abortAccess
    else match s.applyNum (chainObj which) 0 v with
      | .error a => .error a
      | .ok s =>
        let s := s.setReg Obj.chainLatency s.chainLatency
        .ok (if which = .model then s else s.chainRestart))

/-- The object of a section record field. -/
def sectionObj : SectionField → ObjDesc
  | .enable => Obj.sectionEnable | .onDelay => Obj.sectionOnDelay | .offDelay => Obj.sectionOffDelay
  | .offsetX => Obj.sectionOffsetX | .offsetY => Obj.sectionOffsetY | .width => Obj.sectionWidth
  | .chainBit => Obj.sectionChainBit | .activeLevel => Obj.sectionActiveLevel | .product => Obj.sectionProduct
  | .loopGroup => Obj.sectionLoopGroup

/-- A delay fits the horizon: delay + ChainLatency + 1.5 ms (R227), in ns. -/
def State.delayFits (s : State) (delay horizon : Int) : Bool :=
  decide (delay * 100000 + s.chainLatency * 10 + 1500000 ≤ horizon * 1000000)

/-- The record of an enabled section holds (R227). -/
def State.sectionRecordOk (s : State) (i : Nat) : Bool :=
  !s.secEnabled i ||
    (decide (s.regAt Obj.sectionChainBit i ≠ 0xFFFF) && decide (s.secBit i < s.regN Obj.chainLength) &&
      !((s.enabledSections.filter (fun j => decide (j ≠ i))).any (fun j => decide (s.secBit j = s.secBit i))) &&
      s.delayFits (s.regAt Obj.sectionOnDelay i) (s.reg Obj.lookAheadHorizon) &&
      s.delayFits (s.regAt Obj.sectionOffDelay i) (s.reg Obj.lookAheadHorizon))

/-- The section that a cursor selects: bits [9:0] on a rover (R226). -/
def State.sectionOf (s : State) (q : Sess) : Nat := s.instanceOf q Obj.sectionEnable % 1024

/-- A write to a section record: refused while the section is not OFF, and where it would break R227. -/
def State.sectionRecordWrite (s : State) (q : Sess) (which : SectionField) (v : Int) : State :=
  s.writeCommand q (sectionObj which) v (fun s =>
    let i := s.sectionOf q
    if (s.sec i).state ≠ .off then .error abortAccess
    else if !((s.setRegAt (sectionObj which) i v).sectionRecordOk i) then .error abortRange
    else match s.applyNum (sectionObj which) i v with
      | .error a => .error a
      | .ok s => .ok (let image := s.offImage; if s.kerb.chain.allOff then s.updChain (fun c => { c with image := image }) else s))

/-- SectionMode forces a section OFF, ON or back to automatic; forced OFF acts at the earliest slot (R255). -/
def State.sectionModeWrite (s : State) (q : Sess) (v : Int) : State :=
  s.writeCommand q Obj.sectionMode v (fun s =>
    let i := s.sectionOf q
    let s := s.setRegAt Obj.sectionMode i v
    .ok (if v = 1 then s.planOff i else s))

/-- MasterEnable allows switching, or closes every section at the earliest slot (R255). -/
def State.masterEnableWrite (s : State) (q : Sess) (v : Int) : State :=
  s.writeCommand q Obj.masterEnable v (fun s =>
    let s := s.setReg Obj.masterEnable v
    .ok (if v = 0 then s.planOffWhere (fun _ => true) else s))

/-- KerbStatus (R257). -/
def State.kerbStatus (s : State) : Nat :=
  let k := s.kerb
  flag k.chain.running 0 + flag k.chain.oe 1 + flag k.chain.fault 2 + flag s.fleet.task.isNone 3 + flag k.poseInvalid 4 +
    flag k.sigmaLimit 5 + flag k.slow 6 + flag k.tileMiss 7 + flag k.late 8 + flag (decide (s.reg Obj.masterEnable = 0)) 9 + flag k.noLayer 10

end Sys2Proof.Machine
end

