-- ==== Sys2Proof/Machine/Coverage.lean ====
section
/-!
DEFINITION. Machine/Coverage.lean: the map engine (R259 to R284): segments of a rover, painting, streaming,
checkpoints, and the damage of map space (R549).
-/
namespace Sys2Proof.Machine

/-- Changes the coverage engine of a base. -/
def State.updCover (s : State) (f : CoverState → CoverState) : State := { s with cover := f s.cover }

/-- A message to a base. -/
def State.sendLink (s : State) (peer : Nat) (m : LinkMsg) : State :=
  let wraps := decide (s.fleet.linkSeq = 65535)
  let s := { s with fleet := { s.fleet with linkOut := s.fleet.linkOut ++ [(peer, m)], linkSeq := (s.fleet.linkSeq + 1) % 65536 } }
  if wraps then { s with gate := { s.gate with linkEpoch := (s.gate.linkEpoch + 1) % 2 ^ 32 } } else s

/-- A received base-link frame is accepted, and its base heard (R310), where its tag verifies, with a higher link epoch of its peer, or the same one and a
later sequence (R569); a pair mirrors it (R595). -/
def State.acceptLink (s : State) (h : LinkHead) : State × Bool :=
  let ok := h.tagOk && (match Tab.get none s.gate.peers h.peer with
    | none => true
    | some (e, n) => decide (e < h.epoch) || (decide (e = h.epoch) && decide (0 < signedDiff 16 h.seq n)))
  if ok then
    (({ s with gate := { s.gate with peers := Tab.put none s.gate.peers h.peer (some (h.epoch, h.seq)) }
               fleet := { s.fleet with heard := Tab.put none s.fleet.heard h.peer (some s.now) } } : State).noteInput, true)
  else (s, false)

/-- What a base-link frame does where it is accepted. -/
def State.fromLink (s : State) (h : LinkHead) (f : State → State) : State :=
  let (s, ok) := s.acceptLink h
  if ok then f s else s

/-- Changes the coverage side of a rover. -/
def State.updCache (s : State) (f : CacheState → CacheState) : State := { s with cache := f s.cache }

/-- A record waits for the uplink; every segment closed before it goes first (R336). -/
def State.queueUp (s : State) (r : AirRecord) : State :=
  { s with radio := { s.radio with up := s.radio.up ++ [{ item := r, mark := s.regN Obj.nextSeq, since := s.now }] } }

/-! ### Segment records (R266) -/

/-- The bytes of a segment record. -/
def Segment.bytes (g : Segment) : List Byte :=
  withCrc32 (leBytes 1 g.slot ++ leBytes 1 (g.product % 4 + flag g.runStart 2 + flag g.runEnd 3) ++ leBytes 2 g.seq ++ leBytes 2 g.run ++
    leBytes 2 g.map ++ leInt 4 g.left.e ++ leInt 4 g.left.n ++ leInt 4 g.right.e ++ leInt 4 g.right.n ++ leBytes 4 g.tEnd)

/-- The segment that 32 bytes spell; none where the length or the CRC is wrong. -/
def parseSegment (b : List Byte) : Option Segment :=
  if b.length = 32 ∧ crc32Ok b = true then
    let fl := fieldU b 1 1
    some { slot := fieldU b 0 1, product := bits fl 0 2, runStart := bit fl 2, runEnd := bit fl 3, seq := fieldU b 2 2, run := fieldU b 4 2,
           map := fieldU b 6 2, left := { e := fieldI b 8 4, n := fieldI b 12 4 }, right := { e := fieldI b 16 4, n := fieldI b 20 4 },
           tEnd := fieldU b 24 4 }
  else none

/-! ### Painting (R261, R262, R267, R268) -/

/-- The square of a cell. -/
def cellSquare (c i j : Int) : List Pt := squareAt { e := i * c, n := j * c } c

/-- The coordinates of a tile's key. -/
def tileX (k : Nat) : Int := (k / 65536 : Nat) - 32768
def tileY (k : Nat) : Int := (k % 65536 : Nat) - 32768

/-- The square of a tile. -/
def tileSquare (c : Int) (k : Nat) : List Pt := squareAt { e := tileX k * 64 * c, n := tileY k * 64 * c } (64 * c)

/-- The region of a segment: previous edge and own edge. -/
structure Region where
  l0 : Pt
  r0 : Pt
  l1 : Pt
  r1 : Pt
  deriving DecidableEq, Repr

/-- The region touches a square. -/
def Region.meets (x : Region) (sq : List Pt) : Bool := swathMeets x.l0 x.r0 x.l1 x.r1 sq

/-- One cell painted: 1 more, saturating at 15, unless the previous segment of the run touched it (R268). -/
def paintCell (c : Int) (layer : Nat) (x : Region) (before : Option Region) (k : Nat) (t : Tab Nat) (n : Nat) : Tab Nat :=
  let sq := cellSquare c (tileX k * 64 + (n % 64 : Nat)) (tileY k * 64 + (n / 64 : Nat))
  let again := match before with
    | none => false
    | some b => b.meets sq
  if x.meets sq && !again then Tab.update 0 t (layer * 4096 + n) (fun v => min 15 (v + 1)) else t

/-- The cells of a tile after a segment. -/
def paintCells (c : Int) (layer : Nat) (x : Region) (before : Option Region) (k : Nat) (t : Tab Nat) : Tab Nat :=
  (List.range 4096).foldl (paintCell c layer x before k) t

/-- A segment paints a tile of the map: its cells, and one more VERSION where it touches the tile. -/
def Tile.paint (t : Tile) (c : Int) (layer : Nat) (x : Region) (before : Option Region) (k : Nat) : Tile :=
  if x.meets (tileSquare c k) then { version := (t.version + 1) % 2 ^ 32, cells := paintCells c layer x before k t.cells } else t

/-- The tiles of a map that a segment touches. -/
def CoverMap.touched (m : CoverMap) (x : Region) : List Nat := m.tiles.keys.filter (fun k => x.meets (tileSquare (cellMm m.cell) k))

/-- A segment painted into a map's allocated tiles. -/
def CoverMap.paint (m : CoverMap) (layer : Nat) (x : Region) (before : Option Region) : CoverMap :=
  let hit := m.touched x
  { m with tiles := hit.foldl (fun t k => Tab.update none t k (fun o => o.map (fun y => y.paint (cellMm m.cell) layer x before k))) m.tiles
           dirty := m.dirty.filter (fun k => !hit.contains k) ++ hit }

/-! ### Rover: runs and segments (R265, R278, R283) -/

/-- A section applies at an instant (R244). -/
def State.applies (s : State) (t : Int) (i : Nat) : Bool :=
  let x := s.sec i
  match x.from_, x.till with
  | some a, none => decide (a ≤ t)
  | some a, some e => decide (a ≤ t ∧ t < e)
  | none, _ => false

/-- Contiguous blocks of sections: first and last of each. -/
def blocksOf : List Nat → List (Nat × Nat)
  | [] => []
  | i :: t =>
    match blocksOf t with
    | [] => [(i, i)]
    | (a, b) :: r => if a = i + 1 then (i, b) :: r else (i, i) :: (a, b) :: r

/-- The runs that stand at an instant: product, first and last section. -/
def State.runsNow (s : State) (t : Int) : List (Nat × Nat × Nat) :=
  [0, 1, 2, 3].flatMap (fun p =>
    (blocksOf (s.busySections.filter (fun i => s.applies t i && decide (s.regNAt Obj.sectionProduct i = p)))).map (fun b => (p, b)))

/-- A point in µm to the nearest mm. -/
def toMm (p : Pt) : Pt := { e := (p.e + 500) / 1000, n := (p.n + 500) / 1000 }

/-- The edge of a block of sections now, mm (R265). -/
def State.edgeOf (s : State) (m : Motion) (t : Nat) (first last : Nat) : Pt × Pt :=
  (toMm (s.footprint m first t).1, toMm (s.footprint m last t).2)

/-- The region that a segment of a run paints. -/
def regionOf (l0 r0 l1 r1 : Pt) : Region := { l0 := l0, r0 := r0, l1 := l1, r1 := r1 }

/-- The region of a run's last painting segment. -/
def beforeRegion (l r : Pt) (b : Option (Pt × Pt)) : Option Region := b.map (fun e => regionOf e.1 e.2 l r)

/-- A segment painted into the tiles of the cache; their VERSION stays the base's (R277). -/
def State.paintCache (s : State) (cell layer : Nat) (x : Region) (before : Option Region) : State :=
  s.updCache (fun c => { c with tiles :=
    (c.tiles.keys.filter (fun k => x.meets (tileSquare (cellMm cell) k))).foldl (fun t k =>
      Tab.update none t k (fun o => o.map (fun y => { y with cells := paintCells (cellMm cell) layer x before k y.cells }))) c.tiles })

/-- NextSeq, PendingSegments and SEGMENT_BACKLOG follow the pending list (R278). -/
def State.notePending (s : State) : State := s.setReg Obj.pendingSegments (min 2048 s.cache.pending.length)

/-- A segment is closed: journalled, pending, numbered (R265, R278). -/
def State.emitSegment (s : State) (g : Segment) : State :=
  let g := { g with seq := s.regN Obj.nextSeq, slot := min 127 (s.regN Obj.assignedSlot) }
  let s := s.setReg Obj.nextSeq ((g.seq + 1) % 65536)
  ((s.journal (.segment none g)).updCache (fun c => { c with pending := c.pending ++ [g] })).notePending

/-- Milliseconds of a segment's end edge (R266). -/
def edgeMs (t : Int) : Nat := (t / 1000000 % 2 ^ 32).toNat

/-- A run starts: its start edge as a RUN_START record. -/
def State.startRun (s : State) (f : FieldRec) (heading t : Int) (p first last : Nat) (e : Pt × Pt) : State :=
  let n := s.cache.nextRun
  let r : RoverRun := { run := n, product := p, first := first, last := last, left := e.1, right := e.2, before := none, heading := heading }
  let s := s.updCache (fun c => { c with nextRun := (n + 1) % 65536, runs := c.runs ++ [r] })
  s.emitSegment { slot := 0, product := p, runStart := true, runEnd := false, seq := 0, run := n, map := f.id, left := e.1, right := e.2, tEnd := edgeMs t }

/-- A segment of a run closes at an edge: painted into the cache and added to the self-mask (R236, R278). -/
def State.closeRun (s : State) (f : FieldRec) (heading t : Int) (r : RoverRun) (e : Pt × Pt) (ends : Bool) : State :=
  let s := s.emitSegment { slot := 0, product := r.product, runStart := false, runEnd := ends, seq := 0, run := r.run, map := f.id,
                           left := e.1, right := e.2, tEnd := edgeMs t }
  let s := s.paintCache f.cell r.product (regionOf r.left r.right e.1 e.2) (beforeRegion r.left r.right r.before)
  let up := fun (p : Pt) => ({ e := p.e * 1000, n := p.n * 1000 } : Pt)
  let s := s.updKerb (fun k => { k with mask := k.mask ++ [{ l0 := up r.left, r0 := up r.right, l1 := up e.1, r1 := up e.2, time := t }] })
  s.updCache (fun c => { c with runs :=
    (if ends then c.runs.filter (fun x => decide (x.run ≠ r.run))
     else c.runs.map (fun x => if x.run = r.run then { x with left := e.1, right := e.2, before := some (r.left, r.right), heading := heading } else x)) })

/-- The implement heading has turned by SegmentTurnLimit since the segment's start edge. -/
def State.turned (s : State) (r : RoverRun) (heading : Int) : Bool :=
  let d := (heading - r.heading) % 360000000
  let d := if 180000000 < d then 360000000 - d else d
  decide (s.reg Obj.segmentTurnLimit * 1000000 ≤ d)

/-- A whole 200 ms of receiver time has passed since the last closing. -/
def State.segmentBoundary (s : State) (t : Int) : Bool := decide (s.cache.lastClose / 200000000 ≠ t / 200000000)

/-- The instant at which a run ended: the first end of one of its sections, else now (R244, R265). -/
def State.runEnd (s : State) (r : RoverRun) (t : Int) : Int :=
  (s.busySections.filterMap (fun i =>
    if r.first ≤ i ∧ i ≤ r.last then (match (s.sec i).till with | some e => if e ≤ t then some e else none | none => none) else none)).foldl min t

/-- The rover closes segments: at a 200 ms boundary, at the end of a run, at a turn; runs that no longer stand end, new
ones start (R265). -/
def State.segmentClose (s : State) : State :=
  match s.fleet.task, s.kerb.pose with
  | some tk, some p =>
    if !s.hasRole .rover then s
    else
      let t := s.time64
      let m := s.motionOf tk.field p
      let after_ := fun (x : Int) => ((x - p.time) / 10000).toNat
      let dt := after_ t
      let heading := (s.frameAt m (dt / 1000)).2
      let live := s.runsNow t
      let boundary := s.segmentBoundary t
      let s := s.cache.runs.foldl (fun s r =>
        let ends := !live.contains (r.product, r.first, r.last)
        let te := if ends then s.runEnd r t else t
        if ends || boundary || s.turned r heading then s.closeRun tk.field heading te r (s.edgeOf m (after_ te) r.first r.last) ends else s) s
      let open_ := s.cache.runs.map (fun r => (r.product, r.first, r.last))
      let s := (live.filter (fun x => !open_.contains x)).foldl (fun s x =>
        s.startRun tk.field heading t x.1 x.2.1 x.2.2 (s.edgeOf m dt x.2.1 x.2.2)) s
      if boundary then s.updCache (fun c => { c with lastClose := t }) else s
  | _, _ => s

/-! ### Rover: tile cache (R274, R276, R277) -/

/-- Squared distance of a point from a tile's square. -/
def tileDist2 (c : Int) (k : Nat) (p : Pt) : Int :=
  let side := 64 * c
  let x := clampInt (tileX k * side) (tileX k * side + side) p.e
  let y := clampInt (tileY k * side) (tileY k * side + side) p.n
  (p.e - x) * (p.e - x) + (p.n - y) * (p.n - y)

/-- A key put in place by a rising measure. -/
def insertBy (f : Nat → Int) (k : Nat) : List Nat → List Nat
  | [] => [k]
  | x :: t => if f k < f x then k :: x :: t else x :: insertBy f k t

/-- Keys in rising order of a measure. -/
def sortBy (f : Nat → Int) (l : List Nat) : List Nat := l.foldl (fun acc k => insertBy f k acc) []

/-- The tiles of a field's map whose square lies within a distance of a point, mm. -/
def tilesNear (f : FieldRec) (p : Pt) (radius : Int) : List Nat :=
  let c : Int := cellMm f.cell
  let side := 64 * c
  let n := ((2 * radius) / side + 2).toNat
  let x0 := (p.e - radius) / side
  let y0 := (p.n - radius) / side
  match f.polys with
  | [] => []
  | b :: _ =>
    ((List.range n).flatMap (fun i => (List.range n).map (fun j => (x0 + (i : Nat), y0 + (j : Nat))))).filterMap (fun t =>
      if -32768 ≤ t.1 ∧ t.1 < 32768 ∧ -32768 ≤ t.2 ∧ t.2 < 32768 then
        let k := tileKey t.1 t.2
        if tileDist2 c k p ≤ radius * radius && polygonMeetsSquare b { e := t.1 * side, n := t.2 * side } side then some k else none
      else none)

/-- Lists cut into pieces of n; fuel bounds the cut. -/
def chunks {α : Type} (n : Nat) : Nat → List α → List (List α)
  | 0, _ => []
  | f + 1, l => if l.isEmpty then [] else l.take n :: chunks n f (l.drop n)

/-- A tile request record (R337). -/
def tileRequest (map : Nat) (l : List Nat) : AirRecord :=
  { code := 3, data := leBytes 2 map ++ leBytes 1 l.length ++ l.flatMap (fun k => leInt 2 (tileX k) ++ leInt 2 (tileY k)) }

/-- CacheTiles and TileRequestsOpen follow the cache. -/
def State.noteCache (s : State) : State :=
  (s.setReg Obj.cacheTiles s.cache.tiles.length).setReg Obj.tileRequestsOpen (min 65535 s.cache.requested.length)

/-- The rover drops tiles more than 1.5 × CacheRadius away, and requests every tile within CacheRadius that it neither
holds nor has requested, nearest first (R274). 58 tiles fill a body of 240 bytes. -/
def State.tileCacheUpdate (s : State) : State :=
  match s.fleet.task, s.kerb.pose with
  | some tk, some p =>
    if !s.hasRole .rover then s
    else
      let c : Int := cellMm tk.field.cell
      let at_ := toMm (planeOf tk.field p.est)
      let r := s.reg Obj.cacheRadius * 1000
      let kept : Tab (Option Tile) := s.cache.tiles.filter (fun e => decide (4 * tileDist2 c e.1 at_ ≤ 9 * r * r))
      let want := (sortBy (fun k => tileDist2 c k at_) (tilesNear tk.field at_ r)).filter (fun k =>
        !((Tab.keys kept).contains k) && !s.cache.requested.contains k)
      let s := s.updCache (fun x => { x with tiles := kept, requested := x.requested ++ want })
      let s := (chunks 58 want.length want).foldl (fun s l => s.queueUp (tileRequest tk.field.id l)) s
      s.noteCache
  | _, _ => s

/-- The cells of an RLE block: none where a run is ill-formed or the runs do not total 4,096 cells (R276, R277). -/
def decodeRle : Nat → List Byte → Option (List Nat)
  | 0, _ => none
  | _ + 1, [] => some []
  | f + 1, b :: t =>
    let v := b.toNat / 16
    let n := b.toNat % 16
    if n < 15 then (decodeRle f t).map (fun r => List.replicate (n + 1) v ++ r)
    else
      let m := fieldU t 0 2
      if 2 ≤ t.length ∧ 16 ≤ m ∧ m ≤ 4096 then (decodeRle f (t.drop 2)).map (fun r => List.replicate m v ++ r) else none

/-- The cells of a raw block. -/
def decodeRaw (b : List Byte) : List Nat := b.flatMap (fun x => [x.toNat % 16, x.toNat / 16])

/-- The layer blocks of a transfer record; fuel counts the layers. -/
def decodeBlocks (mask : Nat) : Nat → Nat → List Byte → Option (List (List Nat))
  | 0, _, _ => some []
  | f + 1, layer, b =>
    let len := fieldU b 0 2
    let body := (b.drop 2).take len
    let cells := if bit mask (4 + layer) then decodeRle (len + 1) body else if body.length = 2048 then some (decodeRaw body) else none
    match cells with
    | none => none
    | some l => if l.length = 4096 then (decodeBlocks mask f (layer + 1) (b.drop (2 + len))).map (fun r => l :: r) else none

/-- Cell lists of layers as a tile's sparse cells. -/
def cellsOf (layers : List (List Nat)) : Tab Nat :=
  ((layers.zip (List.range layers.length)).flatMap (fun x => (x.1.zip (List.range 4096)).map (fun y => (x.2 * 4096 + y.2, y.1)))).filter
    (fun e => decide (e.2 ≠ 0))

/-- A tile as its transfer record gives it. -/
structure TileRecord where
  map : Nat
  key : Nat
  cell : Nat
  mask : Nat
  version : Nat
  ownSeq : Nat
  layers : List (List Nat)

/-- The tile of a transfer record for a map of n layers of a cell code; none where R277 discards it. -/
def parseTile (f : FieldRec) (b : List Byte) : Option TileRecord :=
  let len := fieldU b 14 2
  let mask := fieldU b 7 1
  if b.length = 20 + len ∧ crc32Ok b = true ∧ fieldU b 0 2 = f.id ∧ fieldU b 6 1 = f.cell ∧ mask % 16 = 2 ^ f.layers - 1 then
    (decodeBlocks mask f.layers 0 ((b.drop 16).take len)).map (fun l =>
      { map := f.id, key := tileKey (fieldI b 2 2) (fieldI b 4 2), cell := f.cell, mask := mask, version := fieldU b 8 4, ownSeq := fieldU b 12 2, layers := l })
  else none

/-- A pending segment repainted into the tile just installed (R277): its run's edges are taken from the segments before. -/
def repaint (f : FieldRec) (k : Nat) : List Segment → List (Nat × Pt × Pt × Option (Pt × Pt)) → Nat → Tab Nat → Tab Nat
  | [], _, _, cells => cells
  | g :: t, runs, own, cells =>
    match (if g.runStart then none else runs.find? (fun r => decide (r.1 = g.run))) with
    | some (_, l, r, b) =>
      let cells := if 0 < signedDiff 16 g.seq own ∧ g.runStart = false then
          paintCells (cellMm f.cell) g.product (regionOf l r g.left g.right) (beforeRegion l r b) k cells
        else cells
      repaint f k t ((g.run, g.left, g.right, some (l, r)) :: runs.filter (fun x => decide (x.1 ≠ g.run))) own cells
    | none => repaint f k t ((g.run, g.left, g.right, none) :: runs.filter (fun x => decide (x.1 ≠ g.run))) own cells

/-- The farthest cached tile from a point, which a full cache drops (R274). -/
def dropFarthest (c : Int) (p : Pt) (t : Tab (Option Tile)) : Tab (Option Tile) :=
  if t.length ≤ 131072 then t
  else match (sortBy (fun k => tileDist2 c k p) t.keys).getLast? with
    | none => t
    | some k => t.erase k

/-- A transfer record arrives at a rover (R277). -/
def State.tileTransferRx (s : State) (record : List Byte) : State :=
  match s.fleet.task with
  | none => s
  | some tk =>
    if !s.hasRole .rover then s
    else match parseTile tk.field record with
      | none => s
      | some r =>
        let same := match Tab.get none s.cache.tiles r.key with
          | none => false
          | some t => decide (t.version = r.version)
        if same then s
        else
          let gone := s.cache.edges.filterMap (fun e => e.2.map (fun x => (e.1, x.1.1, x.1.2, x.2)))
          let cells := repaint tk.field r.key (s.cache.pending.filter (fun g => decide (g.map = tk.field.id))) gone r.ownSeq (cellsOf r.layers)
          let at_ := match s.kerb.pose with
            | none => ({ e := 0, n := 0 } : Pt)
            | some p => toMm (planeOf tk.field p.est)
          (s.updCache (fun c => { c with
            tiles := dropFarthest (cellMm tk.field.cell) at_ (Tab.put none c.tiles r.key (some { version := r.version, cells := cells }))
            requested := c.requested.filter (fun k => decide (k ≠ r.key)) })).noteCache

/-! ### Base: accepting (R269, R273, R281) -/

/-- The map slot that holds a map. -/
def State.mapSlot (s : State) (id : Nat) : Option Nat :=
  (s.cover.maps.find? (fun e => match e.2 with | none => false | some m => decide (m.id = id))).map (·.1)

/-- The segment log is full (R281). -/
def State.logFull (s : State) : Bool := decide (20480 ≤ s.cover.log.length)

/-- SegmentLog follows the log. -/
def State.noteLog (s : State) : State := s.setReg Obj.segmentLog s.cover.log.length

/-- A segment takes the next map sequence number, the journal and the log (R269). -/
def State.acceptSegment (s : State) (machine : Nat) (g : Segment) : State :=
  let n : Nat := (s.regN Obj.mapSeqAccepted + 1) % 2 ^ 32
  let s := s.setReg Obj.mapSeqAccepted n
  ((s.journal (.segment (some (n, machine)) g)).updCover (fun c => { c with log := c.log ++ [{ mseq := n, machine := machine, seg := g }] })).noteLog

/-- The task that a machine holds. -/
def State.taskOfHolder (s : State) (machine : Nat) : Option FleetTask :=
  s.fleet.tasks.find? (fun t => decide (t.holder = some machine) && (decide (t.state = .claimed) || decide (t.state = .active)))

/-- Changes the tasks that a condition picks. -/
def State.mapTasks (s : State) (p : FleetTask → Bool) (f : FleetTask → FleetTask) : State :=
  { s with fleet := { s.fleet with tasks := s.fleet.tasks.map (fun t => if p t then f t else t) } }

/-- A segment or report of the holder renews its lease, unless the window has ended (R300). -/
def State.renewLease (s : State) (machine : Nat) : State :=
  s.mapTasks (fun t => decide (t.holder = some machine) && (match t.leaseEnd with | none => false | some e => decide (s.now < e)))
    (fun t => { t with leaseEnd := s.after (ticksS (s.regN Obj.leaseTime)) })

/-- The segments of a machine numbers: fleet machine number = base index × 128 + slot (R285). -/
def State.ownIndex (s : State) : Nat := if s.isManager then 0 else (s.bootReg Obj.baseIndex).toNat

/-- A duplicate is discarded, and the last acknowledgement repeated (R269): to a worker over the base link, to a rover in the beacons,
which always carry it. A worker that the manager has not answered forwards it again (R273). -/
def State.segmentAgain (s : State) (machine : Nat) (g : Segment) (record : List Byte) : State :=
  if s.isWorker then
    if s.cover.forwarded.contains g ∧ s.fleet.managerLost = false then s.sendLink 0 (.segment g.slot record) else s
  else match (if machine / 128 = 0 then none else Tab.get none s.cover.acc machine) with
    | some a => s.sendLink (machine / 128) (.segmentAck g.slot a)
    | none => s

/-- A segment reaches the base from a machine (none is accepted without NAND, R558): accepted in SEQ order, acknowledged, or left unacknowledged (R269). A worker
forwards it to the manager and acknowledges later (R273); while the manager is lost it forwards and accepts nothing (R310). -/
def State.segmentRx (s : State) (machine : Nat) (record : List Byte) : State :=
  if !s.isBase then s
  else match parseSegment record with
    | none => s
    | some g =>
      let next := (Tab.get none s.cover.expected machine).getD g.seq
      if g.slot ≠ machine % 128 then s
      else if signedDiff 16 g.seq next < 0 then s.segmentAgain machine g record
      else if g.seq ≠ next ∨ s.logFull = true ∨ s.store.nandFault = true ∨ s.fleet.managerLost = true then s
      else
        let s := s.updCover (fun c => { c with expected := Tab.put none c.expected machine (some ((next + 1) % 65536)) })
        if s.isWorker then
          (s.updCover (fun c => { c with forwarded := c.forwarded ++ [g] })).sendLink 0 (.segment g.slot record)
        else
          let s := (s.acceptSegment machine g).renewLease machine
          let s := s.mapTasks (fun t => decide (t.holder = some machine ∧ t.state = .claimed)) (fun t => { t with state := .active })
          let s := s.updCover (fun c => { c with acc := Tab.put none c.acc machine (some g.seq) })
          if machine / 128 = 0 then s else s.sendLink (machine / 128) (.segmentAck g.slot g.seq)

/-- The manager's acknowledgement reaches a worker, which acknowledges the segments up to it to its rover (R273). -/
def State.managerSegmentAckRx (s : State) (slot seq : Nat) : State :=
  if !s.isWorker then s
  else s.updCover (fun c => { c with acc := Tab.put none c.acc (s.ownIndex * 128 + slot) (some seq)
                                     forwarded := c.forwarded.filter (fun g => !(decide (g.slot = slot) && decide (signedDiff 16 g.seq seq ≤ 0))) })

/-! ### Base: painting (R270, R271, R280) -/

/-- Bytes of a tile of a map. -/
def CoverMap.tileBytes (m : CoverMap) : Nat := 128 + 2048 * m.layers

/-- The copies that painting a segment makes first, of tiles that wait to be written to a checkpoint: tile and bytes. -/
def State.copiesFor (s : State) (slot : Nat) (m : CoverMap) (x : Region) : List (Nat × Nat) :=
  match s.cover.check with
  | none => []
  | some c => (m.touched x).filterMap (fun k => if c.waiting.contains (slot, k) then some (k, m.tileBytes) else none)

/-- Notes copies in the copy buffer; false where they do not fit in 64 MiB (R280). -/
def State.copyTiles (s : State) (slot : Nat) (l : List (Nat × Nat)) : State × Bool :=
  match s.cover.check with
  | none => (s, true)
  | some c =>
    let n := (l.map (·.2)).foldl (· + ·) 0
    if 67108864 < c.copied + n then (s.updCover (fun c => { c with cowWait := true }), false)
    else (s.updCover (fun x => { x with cowWait := false, check := some { c with
            copied := c.copied + n, waiting := c.waiting.filter (fun w => !(decide (w.1 = slot) && (l.map (·.1)).contains w.2)) } }), true)

/-- The position of a machine in a field's plane, from its newest report in the base plane (R335, R626). -/
def State.machinePoint (s : State) (f : FieldRec) (slot : Nat) : Option Pt :=
  ((Tab.get FleetMachine.unknown s.fleet.machines slot).report).map (fun r =>
    fieldPoint s.baseEcef (f.lat, f.lon, f.height) r.pos)

/-- A tile waits for a rover, at most one copy (R275). -/
def State.queueTile (s : State) (slot map key : Nat) : State :=
  s.updCover (fun c => { c with sends := c.sends.filter (fun x => decide (x ≠ (slot, map, key))) ++ [(slot, map, key)] })

/-- A painted tile goes to every other connected machine within CacheRadius of it (R275); a base takes its own value of that object
(log 168). -/
def State.streamTile (s : State) (painter map : Nat) (f : FieldRec) (key : Nat) : State :=
  let r := s.reg Obj.cacheRadius * 1000
  (s.fleet.machines.keys.filter (fun m => decide (s.ownIndex * 128 + m ≠ painter))).foldl (fun s m =>
    match s.machinePoint f m with
    | none => s
    | some p => if tileDist2 (cellMm f.cell) key p ≤ r * r then s.queueTile m map key else s) s

/-- The open run of a machine. -/
def openRun (l : List OpenRun) (slot run : Nat) : Option OpenRun := l.find? (fun r => decide (r.slot = slot ∧ r.run = run))

/-- Room for one more open run of a machine, which holds up to 1,024; its oldest gives way (log 105). -/
def roomForRun (l : List OpenRun) (slot : Nat) : List OpenRun :=
  if (l.filter (fun r => decide (r.slot = slot))).length < 1024 then l else l.eraseP (fun r => decide (r.slot = slot))

/-- The open-run table with a run's new edge, or without it at its end. -/
def setRun (l : List OpenRun) (g : Segment) (before : Option (Pt × Pt)) : List OpenRun :=
  let rest := l.filter (fun r => !decide (r.slot = g.slot ∧ r.run = g.run))
  let rest := if rest.length < l.length then rest else roomForRun rest g.slot
  if g.runEnd then rest else rest ++ [{ slot := g.slot, run := g.run, left := g.left, right := g.right, before := before }]

/-- A segment is counted as rejected (R270). -/
def State.rejectSegment (s : State) : State := (s.incr Obj.segmentsRejected).updCover (fun c => { c with rejected := true })

/-- The segment of a map sequence number has been dealt with (R271). -/
def State.paintedUpTo (s : State) (g : LoggedSegment) (machine : Nat) : State :=
  (s.setReg Obj.mapSeqPainted g.mseq).updCover (fun c => { c with painted := Tab.put none c.painted machine (some g.seg.seq) })

/-- The along-track distance of a point on a line of vertices, mm: the lengths before its edge and the part on it. -/
def alongTrack (p : Pt) (half2 : Int) : List Pt → Nat → Option Nat
  | a :: b :: t, done =>
    if pointNear a b p half2 then some (done + Config.root (max 0 (dotAt a b p * dotAt a b p / max 1 (dist2 a b))).toNat)
    else alongTrack p half2 (b :: t) (done + Config.root (dist2 a b).toNat)
  | _, _ => none

/-- TrackProgress follows the newest painted segment that the holder applied on a track: the midpoint of its end edge lies
within half the track's width of the line (R293). -/
def State.noteProgress (s : State) (g : Segment) (machine : Nat) : State :=
  let mid : Pt := { e := (g.left.e + g.right.e) / 2, n := (g.left.n + g.right.n) / 2 }
  let hit := s.fleet.tracks.findSome? (fun e => match e.2 with
    | none => none
    | some t =>
      if e.1 / 65536 = g.map ∧ t.state = .reserved ∧ t.holder = machine then
        (alongTrack mid (t.width * t.width / 4) t.verts 0).map (fun d => (e.1, d))
      else none)
  match hit with
  | none => s
  | some (k, d) =>
    { s with fleet := { s.fleet with tracks := Tab.update none s.fleet.tracks k (fun o => o.map (fun t => { t with progress := min d 4294967295 })) } }

/-- Paints one accepted segment wholly into its map, opens a run, or rejects it (R266 to R271). Answers whether it was done:
not while the copy buffer is full. -/
def State.paintSegment (s : State) (g : LoggedSegment) (machine : Nat) : State × Bool :=
  let x := g.seg
  match s.mapSlot x.map with
  | none => ((s.rejectSegment).paintedUpTo g machine, true)
  | some slot =>
    match Tab.get none s.cover.maps slot with
    | none => ((s.rejectSegment).paintedUpTo g machine, true)
    | some m =>
      if m.layers ≤ x.product then ((s.rejectSegment).paintedUpTo g machine, true)
      else match openRun s.cover.runs machine x.run with
        | none =>
          let s := s.updCover (fun c => { c with runs := setRun c.runs { x with slot := machine, runEnd := false } none })
          ((if x.runStart then s else s.rejectSegment).paintedUpTo g machine, true)
        | some r =>
          if x.runStart then
            ((s.updCover (fun c => { c with runs := setRun c.runs { x with slot := machine, runEnd := false } none })).paintedUpTo g machine, true)
          else
            let reg := regionOf r.left r.right x.left x.right
            let (s, ok) := s.copyTiles slot (s.copiesFor slot m reg)
            if !ok then (s, false)
            else
              let m' := m.paint x.product reg (beforeRegion r.left r.right r.before)
              let m' := { m' with ownSeq := Tab.put none m'.ownSeq machine (some x.seq) }
              let s := s.updCover (fun c => { c with maps := Tab.put none c.maps slot (some m')
                                                     runs := setRun c.runs { x with slot := machine } (some (r.left, r.right)) })
              let s := s.noteProgress x machine
              let s := match Tab.get none s.fleet.fields slot with
                | none => s
                | some f => (m.touched reg).foldl (fun s k => s.streamTile machine slot f k) s
              (s.paintedUpTo g machine, true)

/-- The next accepted segment to paint. -/
def State.nextToPaint (s : State) : Option LoggedSegment :=
  s.cover.log.find? (fun g => decide (0 < signedDiff 32 g.mseq (s.regN Obj.mapSeqPainted)))

/-- The bases that are linked, other than the own one. -/
def State.linkedBases (s : State) : List Nat := (List.range 16).filter (fun n => bit s.fleet.linked n && decide (n ≠ s.ownIndex))

/-- The map engine paints the next accepted segment wholly into the map; a manager sends it to every worker (R271, R273). -/
def State.segmentPaint (s : State) : State :=
  if !s.isBase ∨ s.cover.restoring = true then s
  else match s.nextToPaint with
    | none => s
    | some g =>
      let (s, done) := s.paintSegment g g.machine
      if done && s.isManager then
        s.linkedBases.foldl (fun s b => s.sendLink b (LinkMsg.painted g.mseq g.machine g.seg.bytes)) s
      else s

/-- A worker paints a segment of the manager into its replica, in the same order (R273). -/
def State.paintedSegmentRx (s : State) (mseq machine : Nat) (record : List Byte) : State :=
  if !(s.isBase && s.isWorker) then s
  else match parseSegment record with
    | none => s
    | some g =>
      if mseq ≠ (s.regN Obj.mapSeqPainted + 1) % 2 ^ 32 then s
      else (s.paintSegment { mseq := mseq, machine := machine, seg := g } machine).1

/-! ### Base: streaming (R275, R276, R339) -/

/-- Runs of equal cells: value and length. -/
def runsOfCells : List Nat → List (Nat × Nat)
  | [] => []
  | v :: t =>
    match runsOfCells t with
    | (w, n) :: r => if w = v then (v, n + 1) :: r else (v, 1) :: (w, n) :: r
    | [] => [(v, 1)]

/-- An RLE block (R276). -/
def encodeRle (cells : List Nat) : List Byte :=
  (runsOfCells cells).flatMap (fun r => if r.2 ≤ 15 then leBytes 1 (r.1 * 16 + (r.2 - 1)) else leBytes 1 (r.1 * 16 + 15) ++ leBytes 2 r.2)

/-- A raw block (R262). -/
def encodeRaw : List Nat → List Byte
  | a :: b :: t => BitVec.ofNat 8 (a + 16 * b) :: encodeRaw t
  | _ => []

/-- The cells of a layer in cell order. -/
def Tile.layer (t : Tile) (n : Nat) : List Nat := (List.range 4096).map (fun k => Tab.get 0 t.cells (n * 4096 + k))

/-- A layer block: RLE only where it is shorter than 2,048 bytes. -/
def encodeLayer (cells : List Nat) : Bool × List Byte :=
  let r := encodeRle cells
  if r.length < 2048 then (true, r) else (false, encodeRaw cells)

/-- The transfer record of a tile (R276). -/
def transferRecord (m : CoverMap) (key : Nat) (t : Tile) (ownSeq : Nat) : List Byte :=
  let blocks := (List.range m.layers).map (fun n => encodeLayer (t.layer n))
  let mask := (blocks.zip (List.range m.layers)).foldl (fun a b => a + 2 ^ b.2 + flag b.1.1 (4 + b.2)) 0
  let body := blocks.flatMap (fun b => leBytes 2 b.2.length ++ b.2)
  withCrc32 (leBytes 2 m.id ++ leInt 2 (tileX key) ++ leInt 2 (tileY key) ++ leBytes 1 m.cell ++ leBytes 1 mask ++ leBytes 4 t.version ++
    leBytes 2 ownSeq ++ leBytes 2 body.length ++ body)

/-- The tile lies ahead of a machine's course. -/
def State.tileAhead (s : State) (f : FieldRec) (slot key : Nat) : Bool :=
  match (Tab.get FleetMachine.unknown s.fleet.machines slot).report, s.machinePoint f slot with
  | some r, some p =>
    let side : Int := 64 * cellMm f.cell
    decide (0 < (tileX key * side + side / 2 - p.e) * r.velE + (tileY key * side + side / 2 - p.n) * r.velN)
  | _, _ => false

/-- The waiting tile that goes next to a rover: ahead of its course first, then the nearest (R275). -/
def State.nextTile (s : State) (slot : Nat) : Option (Nat × Nat) :=
  let mine := (s.cover.sends.filter (fun x => decide (x.1 = slot))).map (·.2)
  let measure : Nat × Nat → Int × Int := fun x => match Tab.get none s.fleet.fields x.1 with
    | none => (1, 0)
    | some f => (if s.tileAhead f slot x.2 then (0 : Int) else 1, match s.machinePoint f slot with
      | none => 0
      | some p => tileDist2 (cellMm f.cell) x.2 p)
  mine.foldl (fun best x => match best with
    | none => some x
    | some b => if (measure x).1 < (measure b).1 ∨ ((measure x).1 = (measure b).1 ∧ (measure x).2 < (measure b).2) then some x else some b) none

/-- The base sends a waiting tile of a rover: once as broadcast where two or more rovers wait for it, which clears it for
each (R275, R339). A damaged tile waits for its rebuild (R549). -/
def State.tileSend (s : State) (slot : Nat) : State :=
  if !s.isBase ∨ s.cover.restoring = true then s
  else match s.nextTile slot with
    | none => s
    | some (map, key) =>
      match Tab.get none s.cover.maps map with
      | none => s.updCover (fun c => { c with sends := c.sends.filter (fun x => decide (x ≠ (slot, map, key))) })
      | some m =>
        match Tab.get none m.tiles key with
        | none => s.updCover (fun c => { c with sends := c.sends.filter (fun x => decide (x ≠ (slot, map, key))) })
        | some t =>
          if m.damaged.contains key then s
          else
            let waits := (s.cover.sends.filter (fun x => decide (x.2 = (map, key)))).length
            let dst := if 2 ≤ waits then 0xFF else slot
            -- a broadcast copy, or a machine with nothing painted, has no newest SEQ that the spec names: open (log 28)
            let (own, s) : Nat × State := match (if dst = slot then Tab.get none m.ownSeq (s.ownIndex * 128 + slot) else none) with
              | some n => (n, s)
              | none => let (v, s) := s.drawBits 16; (v.toNat, s)
            s.updCover (fun c => { c with sends := c.sends.filter (fun x => decide (x.2 ≠ (map, key)))
                                          sent := c.sent ++ [(dst, transferRecord m key t own)] })

/-- A tile request queues the tiles for that rover (R275). -/
def State.tileRequestRx (s : State) (slot : Nat) (data : List Byte) : State :=
  if !s.isBase then s
  else match s.mapSlot (fieldU data 0 2) with
    | none => s
    | some map =>
      match Tab.get none s.cover.maps map with
      | none => s
      | some m =>
        (List.range (fieldU data 2 1)).foldl (fun s n =>
          let key := tileKey (fieldI data (3 + 4 * n) 2) (fieldI data (5 + 4 * n) 2)
          if (Tab.get none m.tiles key).isSome then s.queueTile slot map key else s) s

/-! ### Maps (R259, R263, R264) -/

/-- Bytes of map space in use. -/
def State.mapBytes (s : State) : Nat :=
  (s.cover.maps.map (fun e => match e.2 with | none => 0 | some m => m.tiles.length * m.tileBytes)).foldl (· + ·) 0

/-- MapSpaceFree: 12 GiB less what the maps use. -/
def State.mapSpaceFree (s : State) : Nat := 12884901888 - s.mapBytes

/-- The keys of every tile that shares a positive area with the boundary (R263). -/
def fieldTiles (f : FieldRec) : List Nat :=
  match f.polys with
  | [] => []
  | b :: _ =>
    let side : Int := 64 * cellMm f.cell
    match b with
    | [] => []
    | p :: _ =>
      let xs := spanOf p.e (b.map (·.e))
      let ys := spanOf p.n (b.map (·.n))
      let x0 := xs.1 / side
      let y0 := ys.1 / side
      let nx := (xs.2 / side - x0 + 1).toNat
      let ny := (ys.2 / side - y0 + 1).toNat
      (List.range nx).flatMap (fun i => (List.range ny).filterMap (fun j =>
        let tx := x0 + (i : Nat)
        let ty := y0 + (j : Nat)
        if polygonMeetsSquare b { e := tx * side, n := ty * side } side then some (tileKey tx ty) else none))

/-- The map of a field record, every cell 0 and every VERSION 0. -/
def newMap (f : FieldRec) : CoverMap :=
  { id := f.id, cell := f.cell, layers := f.layers, ownSeq := [], dirty := [], damaged := [], restoredOld := 0,
    tiles := (fieldTiles f).foldl (fun t k => Tab.put none t k (some { version := 0, cells := [] })) [] }

/-- A held map is the one that a field record makes: its cell size and its layers are fixed (R260). -/
def State.mapFits (s : State) (n : Nat) (f : FieldRec) : Bool :=
  match Tab.get none s.cover.maps n with
  | none => false
  | some m => decide (m.cell = f.cell ∧ m.layers = f.layers)

/-- Creates the map of a field in a free slot; no slot where none is free, and with MAP_SPACE where the space does not hold it (R263).
The map that an unloaded field has left, or that a restore has brought back, goes on where it fits the record (log 51). -/
def State.createMap (s : State) (f : FieldRec) : State × Option Nat :=
  match s.mapSlot f.id with
  | some n => (s, if s.mapFits n f then some n else none)
  | none =>
    let m := newMap f
    match (List.range 64).find? (fun n => (Tab.get none s.cover.maps n).isNone) with
    | none => (s, none)
    | some n =>
      if s.mapSpaceFree < m.tiles.length * m.tileBytes then (s.updCover (fun c => { c with mapSpace := true }), none)
      else (s.updCover (fun c => { c with maps := Tab.put none c.maps n (some m), mapSpace := false }), some n)

/-- MapDelete frees a map's tiles and checkpoint images where no loaded task refers to it (R263). -/
def State.mapDelete (s : State) (q : Sess) (v : Int) : State :=
  s.writeCommand q Obj.mapDelete v (fun s =>
    let n := s.instanceOf q Obj.mapDelete
    match Tab.get none s.cover.maps n with
    | none => .error abortAccess
    | some m =>
      if s.fleet.tasks.any (fun t => decide (t.field = m.id)) then .error abortAccess
      else .ok (s.updCover (fun c => { c with maps := c.maps.erase n, sends := c.sends.filter (fun x => decide (x.2.1 ≠ n))
                                              saved := c.saved.map (fun k => { k with maps := k.maps.erase n }) })))

/-! ### Checkpoints (R280 to R282, R549) -/

/-- A checkpoint starts at its interval, or with 16,384 segments not yet in a completed one; it fixes the mark (R280). None without
NAND (R558). -/
def State.checkpointStart (s : State) : State :=
  if !s.isBase ∨ s.cover.check.isSome ∨ s.cover.restoring = true ∨ s.store.nandPresent = false then s
  else if s.now < s.cover.checkpointAt + ticksS (s.regN Obj.checkpointInterval) ∧ s.cover.log.length < 16384 then s
  else
    let mark := s.regN Obj.mapSeqPainted
    let waiting := s.cover.maps.flatMap (fun e => match e.2 with | none => [] | some m => m.dirty.map (fun k => (e.1, k)))
    s.updCover (fun c => { c with
      check := some { mark := mark, maps := c.maps, runs := c.runs, waiting := waiting, copied := 0 }
      checkpointAt := s.now
      maps := c.maps.map (fun e => (e.1, e.2.map (fun m => { m with dirty := [] }))) })

/-- Bytes of some tiles of maps. -/
def tilesBytes (maps : Tab (Option CoverMap)) (f : CoverMap → List Nat) : Nat :=
  (maps.map (fun e => match e.2 with | none => 0 | some m => (f m).length * m.tileBytes)).foldl (· + ·) 0

/-- The checkpoint's valid mark is written: it is the newest completed one, the log and the journal let go of the segments
up to its mark, and the journal notes it (R280, R281, R539). -/
def State.checkpointComplete (s : State) : State :=
  match s.cover.check with
  | none => s
  | some c =>
    let s := s.updCover (fun x => { x with saved := some { mark := c.mark, maps := c.maps, runs := c.runs }, check := none, cowWait := false,
                                            log := x.log.filter (fun g => decide (0 < signedDiff 32 g.mseq c.mark)) })
    let s := { s with store := { s.store with journal := s.store.journal.map (fun (e : JEntry) => match e.data with
      | .segment (some (n, _)) _ => if 0 < signedDiff 32 n c.mark then e else { e with live := false }
      | _ => e) } }
    let s := s.nandWrite 2 (tilesBytes c.maps (fun m => m.dirty)) (2 * tilesBytes c.maps (fun m => m.tiles.map (·.1)))
    ((s.setReg Obj.checkpointMark c.mark).noteLog).journal (.checkpoint c.mark)

/-- What a base without a completed checkpoint restores: no map, and the mark before its oldest logged segment. -/
def State.noCheckpoint (s : State) : Checkpointed :=
  { mark := match s.cover.log.head? with
      | some g => (g.mseq + 2 ^ 32 - 1) % 2 ^ 32
      | none => s.regN Obj.mapSeqAccepted
    maps := [], runs := [] }

/-- BOOT of a base begins the restore of its maps (R282): RESTORING, and the maps of the newest completed checkpoint; without NAND it
has none. -/
def State.restoreStart (s : State) : State :=
  let saved := if s.store.nandPresent then s.cover.saved else none
  let k := saved.getD s.noCheckpoint
  let clear : CoverMap → CoverMap := fun m => { m with restoredOld := 0, dirty := [] }
  let s := s.updCover (fun c => { c with restoring := saved.isSome || !c.log.isEmpty, replayTo := s.regN Obj.mapSeqAccepted, runs := k.runs
                                         maps := k.maps.map (fun e => (e.1, e.2.map clear)) })
  let s := s.setReg Obj.mapSeqPainted k.mark
  if saved.isSome then s.setReg Obj.checkpointMark k.mark else s

/-- Replays logged segments up to a number, in order. -/
def replay : List LoggedSegment → Nat → State → State
  | [], _, s => s
  | g :: t, upTo, s =>
    if 0 < signedDiff 32 g.mseq (s.regN Obj.mapSeqPainted) ∧ signedDiff 32 g.mseq upTo ≤ 0 then replay t upTo (s.paintSegment g g.machine).1
    else replay t upTo s

/-- The restore ends: the log replayed, RESTORING clear. older counts by map slot the tiles whose newest correct image is
older than the checkpoint: each is counted and a Milestone entry (R282). -/
def State.mapRestoreComplete (s : State) (older : List (Nat × Nat)) : State :=
  if s.cover.restoring = false then s
  else
    let s := older.foldl (fun s o =>
      let count : CoverMap → CoverMap := fun m => { m with restoredOld := (m.restoredOld + o.2) % 2 ^ 32 }
      let s := s.updCover (fun c => { c with maps := Tab.update none c.maps o.1 (fun e => e.map count) })
      (List.replicate o.2 ()).foldl (fun s _ => s.milestoneEntry 0x83) s) s
    let s := replay s.cover.log s.cover.replayTo s
    s.updCover (fun c => { c with restoring := false })

/-- An uncorrectable word marks a tile damaged; a rover drops it and requests it again (R549). -/
def State.tileDamaged (s : State) (map tile : Nat) : State :=
  if s.isBase then
    s.updCover (fun c => { c with maps := Tab.update none c.maps map (fun o => o.map (fun m =>
      if (Tab.get none m.tiles tile).isSome ∧ ¬ m.damaged.contains tile then { m with damaged := m.damaged ++ [tile] } else m)) })
  else (s.updCache (fun c => { c with tiles := c.tiles.erase tile, requested := c.requested.filter (fun k => decide (k ≠ tile)) })).noteCache

/-- The rebuild of a damaged tile ends and it may be streamed again. -/
def State.tileRebuildComplete (s : State) (map tile : Nat) : State :=
  if s.isBase then
    s.updCover (fun c => { c with maps := Tab.update none c.maps map (fun o => o.map (fun m => { m with damaged := m.damaged.filter (fun k => decide (k ≠ tile)) })) })
  else s

/-- CoverageStatus (R284). -/
def State.coverageStatus (s : State) : Nat :=
  flag s.cover.restoring 0 + flag s.cover.check.isSome 1 + flag s.logFull 2 + flag s.cover.cowWait 3 + flag s.cover.mapSpace 4 +
    flag s.cover.rejected 5 + flag (decide (2048 < s.cache.pending.length)) 6

end Sys2Proof.Machine
end

