-- ==== Sys2Proof/Machine/Fleet.lean ====
section
/-!
DEFINITION. Machine/Fleet.lean: fields, tracks and tasks (R285 to R295), claims and reservations (R296 to
R303), separation (R304 to R308), and the base link (R309 to R311).
-/
namespace Sys2Proof.Machine

/-- Changes the fleet. -/
def State.updFleet (s : State) (f : FleetState → FleetState) : State := { s with fleet := f s.fleet }

/-- A message to the manager; while it is lost a worker forwards nothing, and what a machine has sent waits (R310, R31). -/
def State.toManager (s : State) (m : LinkMsg) : State :=
  if s.fleet.managerLost then s.updFleet (fun f => { f with linkHeld := f.linkHeld ++ [m] }) else s.sendLink 0 m

/-- A message to every linked base. -/
def State.sendAll (s : State) (m : LinkMsg) : State := s.linkedBases.foldl (fun s b => s.sendLink b m) s

/-- A record for a machine: over the radio where it is the base's own, else to its worker. -/
def State.sendMachine (s : State) (machine : Nat) (r : AirRecord) : State :=
  if machine / 128 = s.ownIndex then { s with radio := { s.radio with down := s.radio.down ++ [(machine % 128, r)] } }
  else s.sendLink (machine / 128) (.record (machine % 128) r)

/-! ### Fields (R288 to R290) -/

/-- Vertices: n points of 8 bytes from an offset. -/
def parseVerts (b : List Byte) (off n : Nat) : List Pt :=
  (List.range n).map (fun k => { e := fieldI b (off + 8 * k) 4, n := fieldI b (off + 8 * k + 4) 4 })

/-- Polygons of a field record, and the offset after the last; fuel counts them. -/
def parsePolys (b : List Byte) : Nat → Nat → List (List Pt) × Nat
  | 0, off => ([], off)
  | f + 1, off =>
    let n := fieldU b off 2
    let r := parsePolys b f (off + 4 + 8 * n)
    (parseVerts b (off + 4) n :: r.1, r.2)

/-- The field of a record. -/
def parseField (b : List Byte) : FieldRec :=
  { id := fieldU b 2 2, cell := fieldU b 4 1, layers := fieldU b 5 1, serving := fieldU b 6 1, lat := fieldI b 8 8, lon := fieldI b 16 8,
    height := fieldI b 24 4, polys := (parsePolys b (fieldU b 7 1 + 1) 32).1, raw := b }

/-- CRC, FORMAT or length is wrong (code 0x01 of R289); a cell code, layer count or base index outside its range too. -/
def fieldBad (b : List Byte) : Bool :=
  let f := parseField b
  !crc32Ok b || decide (fieldU b 0 2 ≠ 3) || decide (b.length ≠ (parsePolys b (fieldU b 7 1 + 1) 32).2 + 4) ||
    decide ((f.polys.map List.length).foldl (· + ·) 0 ≠ fieldU b 28 4) || decide (16384 < fieldU b 28 4) ||
    decide (3 < f.cell) || decide (f.layers = 0 ∨ 4 < f.layers) || decide (15 < f.serving)

/-- A boundary vertex lies in the tile index range (R262). -/
def vertexInRange (cell : Nat) (p : Pt) : Bool :=
  let side : Int := 64 * cellMm cell
  decide (-32768 ≤ p.e / side ∧ p.e / side < 32768 ∧ -32768 ≤ p.n / side ∧ p.n / side < 32768)

/-- The field is loaded. -/
def State.fieldLoaded (s : State) (id : Nat) : Bool := s.fleet.fields.any (fun e => match e.2 with | none => false | some f => decide (f.id = id))

/-- The loaded field of an identifier. -/
def State.fieldOf (s : State) (id : Nat) : Option FieldRec :=
  s.fleet.fields.findSome? (fun e => match e.2 with | none => none | some f => if f.id = id then some f else none)

/-- The first check of R289 that a record fails; 0 where it fails none before the map. -/
def State.fieldCheck (s : State) (b : List Byte) : Nat :=
  let f := parseField b
  if !s.isManager then 7
  else if fieldBad b then 1
  else if f.id = 0 ∨ s.fieldLoaded f.id = true then 2
  else if !(f.polys.all polygonOk) then 3
  else if !((f.polys.headD []).all (vertexInRange f.cell)) then 4
  else if f.serving ≠ 0 ∧ bit s.fleet.linked f.serving = false then 6
  else 0

/-- A field that passes is loaded with its map, and copied to every worker (R289). -/
def State.loadField (s : State) (b : List Byte) : State × Nat :=
  let c := s.fieldCheck b
  if c ≠ 0 then (s, c)
  else
    let f := parseField b
    match s.createMap f with
    | (s, none) => (s, 5)
    | (s, some n) =>
      ((s.updFleet (fun x => { x with fields := Tab.put none x.fields n (some f) })).sendAll (.copy Obj.fieldLoad.addr b), 0)

/-- FieldLoad (R288, R289); refused on a worker (R312). -/
def State.fieldLoad (s : State) (q : Sess) (data : List Byte) : State :=
  s.writeBytesCommand q Obj.fieldLoad data (fun s =>
    if s.isWorker then .error abortAccess
    else let (s, c) := s.loadField data; .ok (s.setReg Obj.fieldLoadResult c))

/-- A task is in work: FieldUnload waits for it (R290). -/
def taskInWork (t : FleetTask) : Bool := decide (t.state = .claimed) || decide (t.state = .active) || decide (t.state = .suspended)

/-- A field's record, tracks and tasks are removed and its map is left (R290). -/
def State.unloadField (s : State) (id : Nat) : State :=
  s.updFleet (fun x => { x with
    fields := x.fields.filter (fun e => match e.2 with | none => true | some f => decide (f.id ≠ id))
    tasks := x.tasks.filter (fun t => decide (t.field ≠ id)), tracks := x.tracks.filter (fun e => decide (e.1 / 65536 ≠ id)) })

/-- FieldUnload removes the field's tracks and tasks, in the copies of the workers too, and leaves its map (R290). -/
def State.fieldUnload (s : State) (q : Sess) (v : Int) : State :=
  s.writeCommand q Obj.fieldUnload v (fun s =>
    let n := s.instanceOf q Obj.fieldUnload
    if s.isWorker then .error abortAccess
    else match Tab.get none s.fleet.fields n with
      | none => .error abortAccess
      | some f =>
        if s.fleet.tasks.any (fun t => decide (t.field = f.id) && taskInWork t) then .error abortAccess
        else .ok ((s.unloadField f.id).sendAll (.copy Obj.fieldUnload.addr (leBytes 2 f.id))))

/-! ### Tracks (R291 to R293) -/

/-- The key of a track. -/
def trackKey (field n : Nat) : Nat := field * 65536 + n

/-- A track. -/
def State.track (s : State) (field n : Nat) : Option Track := Tab.get none s.fleet.tracks (trackKey field n)

/-- Puts a track. -/
def State.setTrack (s : State) (field n : Nat) (t : Track) : State :=
  s.updFleet (fun f => { f with tracks := Tab.put none f.tracks (trackKey field n) (some t) })

/-- One track in the TRACKS layout of R291 and the bytes it takes. -/
def parseTrack (b : List Byte) : Track × Nat :=
  let n := fieldU b 4 2
  ({ work := decide (fieldU b 0 1 = 0), products := fieldU b 1 1, width := fieldU b 2 2, verts := parseVerts b 8 n, state := .free,
     holder := 0xFFFF, progress := 0 }, 8 + 8 * n)

/-- A track's own fields hold: KIND, WIDTH, NVERT and the reserved field. -/
def trackOk (b : List Byte) : Bool :=
  decide (fieldU b 0 1 ≤ 1) && decide (100 ≤ fieldU b 2 2 ∧ fieldU b 2 2 ≤ 60000) && decide (2 ≤ fieldU b 4 2 ∧ fieldU b 4 2 ≤ 256) &&
    decide (fieldU b 6 2 = 0)

/-- The tracks of a block; none where one is ill-formed or bytes are over. -/
def parseTracks : Nat → List Byte → Option (List Track)
  | 0, b => if b.isEmpty then some [] else none
  | f + 1, b =>
    if trackOk b then
      let (t, n) := parseTrack b
      (parseTracks f (b.drop n)).map (fun r => t :: r)
    else none

/-- Vertices of the pool in use by tracks other than those of a field that a block replaces. -/
def State.poolUsed (s : State) (field : Nat) (nums : List Nat) : Nat :=
  (s.fleet.tracks.map (fun e => match e.2 with
    | none => 0
    | some t => if e.1 / 65536 = field ∧ nums.contains (e.1 % 65536) = true then 0 else t.verts.length)).foldl (· + ·) 0

/-- A track block is loaded whole or refused: not FREE 0x01, pool 0x02, CRC or form 0x03 (R291). -/
def State.loadTracks (s : State) (b : List Byte) : State × Nat :=
  let field := fieldU b 0 2
  let first := fieldU b 2 2
  let count := fieldU b 4 2
  let body := (b.drop 8).take (b.length - 12)
  match (if crc32Ok b ∧ s.fieldLoaded field = true ∧ 1 ≤ count ∧ count ≤ 4096 ∧ first + count ≤ 65536 then parseTracks count body else none) with
  | none => (s, 3)
  | some l =>
    let nums := (List.range count).map (fun k => first + k)
    if nums.any (fun n => match s.track field n with | none => false | some t => decide (t.state ≠ .free)) then (s, 1)
    else if 8388608 < s.poolUsed field nums + (l.map (fun t => t.verts.length)).foldl (· + ·) 0 then (s, 2)
    else (((nums.zip l).foldl (fun s x => s.setTrack field x.1 x.2) s).sendAll (.copy Obj.trackLoad.addr b), 0)

/-- TrackLoad (R291). -/
def State.trackLoad (s : State) (q : Sess) (data : List Byte) : State :=
  s.writeBytesCommand q Obj.trackLoad data (fun s =>
    if s.isWorker then .error abortAccess
    else let (s, c) := s.loadTracks data; .ok (s.setReg Obj.trackLoadResult c))

/-! ### Tasks (R294, R295) -/

/-- The track numbers of a task's ranges. -/
def rangeTracks (l : List (Nat × Nat)) : List Nat := l.flatMap (fun r => (List.range r.2).map (fun k => r.1 + k))

/-- The task of a record (R294). -/
def parseTask (b : List Byte) : FleetTask :=
  { id := fieldU b 0 4, field := fieldU b 4 2, priority := fieldU b 6 1, caps := fieldU b 8 2,
    rates := (List.range 4).map (fun k => fieldI b (12 + 4 * k) 4),
    ranges := (List.range (fieldU b 7 1)).map (fun k => (fieldU b (28 + 4 * k) 2, fieldU b (30 + 4 * k) 2)),
    state := .unassigned, prior := .unassigned, holder := none, offerDue := none, leaseEnd := none }

/-- A task of an identifier. -/
def State.taskOf (s : State) (id : Nat) : Option FleetTask := s.fleet.tasks.find? (fun t => decide (t.id = id))

/-- A track belongs to a loaded task. -/
def State.inTask (s : State) (field n : Nat) : Bool :=
  s.fleet.tasks.any (fun t => decide (t.field = field) && (rangeTracks t.ranges).contains n)

/-- A task record is loaded whole or refused (R294): record error 0x01, a track 0x02, table full 0x03. -/
def State.loadTask (s : State) (b : List Byte) : State × Nat :=
  let t := parseTask b
  let n := fieldU b 7 1
  if !crc32Ok b ∨ b.length ≠ 32 + 4 * n ∨ n = 0 ∨ 16 < n ∨ t.id = 0 ∨ t.id = 0xFFFFFFFF ∨ fieldU b 10 2 ≠ 0 ∨ s.fieldLoaded t.field = false ∨
      (s.taskOf t.id).isSome = true then (s, 1)
  else if (rangeTracks t.ranges).any (fun k => s.inTask t.field k || (match s.track t.field k with
      | none => true
      | some x => !x.work || decide (x.state ≠ .free))) then (s, 2)
  else if 16384 ≤ s.fleet.tasks.length then (s, 3)
  else ((s.updFleet (fun f => { f with tasks := f.tasks ++ [t] })).sendAll (.copy Obj.taskLoad.addr b), 0)

/-- TaskLoad (R294). -/
def State.taskLoad (s : State) (q : Sess) (data : List Byte) : State :=
  s.writeBytesCommand q Obj.taskLoad data (fun s =>
    if s.isWorker then .error abortAccess
    else let (s, c) := s.loadTask data; .ok (s.setReg Obj.taskLoadResult c))

/-- A worker receives a copy of a field, track or task record from the manager: a read-only copy (R286, R289). -/
def State.fleetRecordCopyRx (s : State) (object : Nat) (data : List Byte) : State :=
  if !s.isWorker then s
  else if object = Obj.fieldLoad.addr then
    let f := parseField data
    match s.createMap f with
    | (s, none) => s
    | (s, some n) => s.updFleet (fun x => { x with fields := Tab.put none x.fields n (some f) })
  else if object = Obj.fieldUnload.addr then s.unloadField (fieldU data 0 2)
  else if object = Obj.trackLoad.addr then (s.loadTracks data).1
  else if object = Obj.taskLoad.addr then s.updFleet (fun f => { f with tasks := f.tasks.filter (fun t => decide (t.id ≠ fieldU data 0 4)) ++ [parseTask data] })
  else s

/-! ### Reservations (R297 to R301) -/

/-- Changes a task. -/
def State.updTask (s : State) (id : Nat) (f : FleetTask → FleetTask) : State := s.mapTasks (fun t => decide (t.id = id)) f

/-- The reserved tracks of a field held by a machine. -/
def State.heldTracks (s : State) (t : FleetTask) (machine : Nat) : List Nat :=
  (rangeTracks t.ranges).filter (fun n => match s.track t.field n with
    | none => false
    | some x => decide (x.state = .reserved) && decide (x.holder = machine))

/-- ReservationsHeld: the tracks reserved. -/
def State.reservations (s : State) : Nat :=
  (s.fleet.tracks.filter (fun e => match e.2 with | none => false | some t => decide (t.state = .reserved))).length

/-- A machine holds a reservation somewhere. -/
def State.machineHolds (s : State) (machine : Nat) : Bool :=
  s.fleet.tracks.any (fun e => match e.2 with | none => false | some t => decide (t.state = .reserved) && decide (t.holder = machine))

/-- The worker of a machine is told whether it holds a reservation (R331). -/
def State.reportReservation (s : State) (machine : Nat) : State :=
  if machine / 128 = 0 then s else s.sendLink (machine / 128) (.reservation (machine % 128) (s.machineHolds machine))

/-- Every track of a task that is not DONE becomes FREE, its progress kept (R293, R300). -/
def State.freeTracks (s : State) (t : FleetTask) : State :=
  (rangeTracks t.ranges).foldl (fun s n => match s.track t.field n with
    | none => s
    | some x => if x.state = .reserved then s.setTrack t.field n { x with state := .free, holder := 0xFFFF } else s) s

/-- Every track of the task is DONE. -/
def State.allDone (s : State) (t : FleetTask) : Bool :=
  (rangeTracks t.ranges).all (fun n => match s.track t.field n with | none => false | some x => decide (x.state = .done))

/-- The manager is in HALT, or the machine's serving base is in HALT by its newest halt state or not up (R52, R297). -/
def State.haltRefuses (s : State) (machine : Nat) : Bool :=
  decide (s.mode.current = .halt) ||
    (decide (machine / 128 ≠ s.ownIndex) && (!bit s.fleet.linked (machine / 128) || bit s.fleet.halted (machine / 128)))

/-- The declared capabilities of a machine include a mask. How a manager learns those of a worker's machine the spec does not
state (log 27). -/
def State.hasCaps (s : State) (machine mask : Nat) : Bool :=
  decide ((if machine / 128 = s.ownIndex then (Tab.get FleetMachine.unknown s.fleet.machines (machine % 128)).caps
    else Config.remoteCaps machine) &&& mask = mask)

/-- The tracks that a claim with count 0 stands for: the lowest 64 that are neither DONE nor the claimant's (R296). -/
def State.ownTracks (s : State) (t : FleetTask) (machine : Nat) : List Nat :=
  ((List.range 65536).filter (fun n => (rangeTracks t.ranges).contains n && (match s.track t.field n with
    | none => false
    | some x => decide (x.state ≠ .done) && !(decide (x.state = .reserved) && decide (x.holder = machine))))).take 64

/-- The manager has committed a fleet activation: it makes no offer, every claim meets 0x02 and every hand-over 0x01 (R581). -/
def State.activationCommitted (s : State) : Bool :=
  match s.gate.activation with
  | none => false
  | some a => a.fleet && a.committed && a.cancelled.isNone

/-- The result of a claim (R297, R299): the code, and the tracks it reserves. -/
def State.judgeClaim (s : State) (c : Claim) : Nat × List Nat :=
  match s.taskOf c.task with
  | none => (2, [])
  | some t =>
    match s.fieldOf t.field with
    | none => (3, [])
    | some f =>
      if s.activationCommitted then (2, [])
      else if f.serving ≠ c.machine / 128 then (3, [])
      else if s.haltRefuses c.machine then (4, [])
      else if !(decide (t.holder = some c.machine) && (decide (t.state = .offered) || decide (t.state = .claimed) || decide (t.state = .active))) then (2, [])
      else if !s.hasCaps c.machine t.caps then (5, [])
      else
        let l := c.tracks.getD (s.ownTracks t c.machine)
        let ok := l.all (fun n => (rangeTracks t.ranges).contains n && (match s.track t.field n with
          | none => false
          | some x => decide (x.state = .free) || (decide (x.state = .reserved) && decide (x.holder = c.machine))))
        if !ok then (1, []) else if 131072 < s.reservations + l.length then (6, []) else (0, l)

/-- A track in the TRACKS layout (R291). -/
def trackBytes (t : Track) : List Byte :=
  leBytes 1 (if t.work then 0 else 1) ++ leBytes 1 t.products ++ leBytes 2 t.width ++ leBytes 2 t.verts.length ++ [0, 0] ++
    t.verts.flatMap (fun p => leInt 4 p.e ++ leInt 4 p.n)

/-- The task load to a machine: one 0x83 record and one 0x89 record per reserved track (R299, R337). -/
def State.sendTask (s : State) (t : FleetTask) (machine : Nat) : State :=
  match s.fieldOf t.field with
  | none => s
  | some f =>
    let l := s.heldTracks t machine
    let s := s.sendMachine machine { code := 0x83, data := leBytes 4 t.id ++ t.rates.flatMap (leInt 4) ++ leBytes 1 l.length ++ f.raw }
    l.foldl (fun s n => match s.track t.field n with
      | none => s
      | some x => s.sendMachine machine { code := 0x89, data := leBytes 4 t.id ++ leBytes 2 n ++ leBytes 4 x.progress ++ trackBytes x }) s

/-- ReservationsHeld follows the table. -/
def State.noteReservations (s : State) : State := s.setReg Obj.reservationsHeld s.reservations

/-- A reservation's lease expires: the holder's tracks that are not DONE become FREE and the task SUSPENDED (R300). -/
def State.leaseExpiry (s : State) : State :=
  if !(s.isBase && s.isManager) then s
  else
    (s.fleet.tasks.filter (fun t => match t.leaseEnd with | none => false | some e => decide (e ≤ s.now))).foldl (fun s t =>
      let s := (s.freeTracks t).updTask t.id (fun t => { t with state := .suspended, holder := none, leaseEnd := none })
      let s := s.incr Obj.leasesExpired
      (match t.holder with | none => s | some m => s.reportReservation m).noteReservations) s

/-- A claim is decided in one indivisible step (R297, R299). -/
def State.decideClaim (s : State) (c : Claim) : State :=
  let (code, l) := s.judgeClaim c
  let s := if code = 0 then
      match s.taskOf c.task with
      | none => s
      | some t =>
        let s := l.foldl (fun s n => match s.track t.field n with
          | none => s
          | some x => s.setTrack t.field n { x with state := .reserved, holder := c.machine }) s
        let s := s.updTask t.id (fun t => { t with state := if t.state = .offered then .claimed else t.state, offerDue := none
                                                   leaseEnd := some (s.now + ticksS (s.regN Obj.leaseTime)) })
        ((s.incr Obj.claimsGranted).reportReservation c.machine).sendTask t c.machine
    else s.incr Obj.claimsRefused
  (s.sendMachine c.machine { code := 0x82, data := leBytes 4 c.task ++ leBytes 1 code }).noteReservations

/-- The claim at the head of the queue is decided, after the leases that have expired (R297, R298, R300). -/
def State.claimDecision (s : State) : State :=
  if !(s.isBase && s.isManager) then s
  else match s.fleet.claims with
    | [] => s
    | c :: rest => ((s.updFleet (fun f => { f with claims := rest })).leaseExpiry).decideClaim c

/-- A claim takes its place in order of arrival: of those of one CK_BLV cycle, 2.5 ns, the lower fleet machine number first (R298). -/
def insertClaim (c : Claim) (l : List Claim) : List Claim :=
  let later := fun (x : Claim) => decide (x.at_ / 5 = c.at_ / 5) && decide (c.machine < x.machine)
  l.filter (fun x => !later x) ++ c :: l.filter later

/-- The claim of the ClaimRequest layout (R312). -/
def State.parseClaim (s : State) (machine : Nat) (data : List Byte) : Claim :=
  let n := fieldU data 4 1
  { machine := machine, task := fieldU data 0 4, tracks := if n = 0 then none else some ((List.range n).map (fun k => fieldU data (5 + 2 * k) 2)), at_ := s.now }

/-- A claim reaches the manager's queue, or a worker, which forwards it, or refuses it with 0x04 while it is in HALT or the manager is
lost (R52, R296, R298, R310). Nothing is dropped: claims past 1,024 are held back before the queue (R31, R298). -/
def State.claimRx (s : State) (machine : Nat) (data : List Byte) : State :=
  if !s.isBase then s
  else if s.isWorker then
    if s.fleet.managerLost || decide (s.mode.current = .halt) then s.sendMachine machine { code := 0x82, data := leBytes 4 (fieldU data 0 4) ++ [4] }
    else s.sendLink 0 (.claim machine data)
  else s.updFleet (fun f => { f with claims := insertClaim (s.parseClaim machine data) f.claims })

/-- A record of a machine waits until every segment that the machine sent before it is painted (R301). -/
def State.paintAll : Nat → State → State
  | 0, s => s
  | n + 1, s => match s.nextToPaint with
    | none => s
    | some _ => State.paintAll n s.segmentPaint

/-- The task that owns a track of a machine. -/
def State.taskOfTrack (s : State) (machine n : Nat) : Option FleetTask :=
  s.fleet.tasks.find? (fun t => decide (t.holder = some machine) && (rangeTracks t.ranges).contains n)

/-- A track-done record: the track becomes DONE after the machine's segments are painted; from a machine that does not hold
it, it is ignored and counted in ClaimsRefused (R301). -/
def State.trackDoneRx (s : State) (machine n : Nat) : State :=
  if !s.isBase then s
  else if s.isWorker then s.toManager (.trackDone machine n)
  else
    let s := State.paintAll s.cover.log.length s
    match s.taskOfTrack machine n with
    | none => s.incr Obj.claimsRefused
    | some t =>
      match s.track t.field n with
      | none => s.incr Obj.claimsRefused
      | some x =>
        if x.state ≠ .reserved ∨ x.holder ≠ machine then s.incr Obj.claimsRefused
        else
          let s := s.setTrack t.field n { x with state := .done, holder := 0xFFFF }
          let s := if s.allDone t then s.updTask t.id (fun t => { t with state := .done, holder := none, leaseEnd := none }) else s
          (s.reportReservation machine).noteReservations

/-- A task-release record frees the task's tracks: SUSPENDED, or DONE when all are DONE (R301). -/
def State.taskReleaseRx (s : State) (machine id : Nat) : State :=
  if !s.isBase then s
  else if s.isWorker then s.toManager (.taskRelease machine id)
  else
    let s := State.paintAll s.cover.log.length s
    match s.taskOf id with
    | none => s
    | some t =>
      if t.holder ≠ some machine then s
      else
        let done := s.allDone t
        let s := (s.freeTracks t).updTask id (fun t => { t with state := if done then .done else .suspended, holder := none, leaseEnd := none })
        (s.reportReservation machine).noteReservations

/-! ### Task commands (R302) -/

/-- A machine loses its task: REVOKED. -/
def State.revoke (s : State) (t : FleetTask) : State :=
  match t.holder with
  | none => s
  | some m => if t.state = .offered then s else s.sendMachine m { code := 0x84, data := leBytes 4 t.id }

/-- A write of TaskCommand with a value of its own; leases that have expired come first (R300). -/
def State.taskCommandWrite (s : State) (q : Sess) (v : Int) (act : State → FleetTask → State × Nat) : State :=
  s.writeCommand q Obj.taskCommand v (fun s =>
    if s.isWorker then .error abortAccess
    else
      let s := s.leaseExpiry
      match s.taskOf (s.instanceOf q Obj.taskCommand) with
      | none => .ok (s.setReg Obj.taskCommandResult 1)
      | some t => let (s, c) := act s t; .ok ((s.setReg Obj.taskCommandResult c).noteReservations))

/-- 0x01: the task becomes CANCELLED and its tracks free. -/
def State.taskCancel (s : State) (q : Sess) : State :=
  s.taskCommandWrite q 1 (fun s t =>
    if t.state = .done ∨ t.state = .cancelled then (s, 1)
    else
      let s := ((s.revoke t).freeTracks t).updTask t.id (fun t => { t with state := .cancelled, holder := none, leaseEnd := none, offerDue := none })
      (match t.holder with | none => s | some m => s.reportReservation m, 0))

/-- 0x02: the task becomes SUSPENDED and its holder receives REVOKED. -/
def State.taskRevoke (s : State) (q : Sess) : State :=
  s.taskCommandWrite q 2 (fun s t =>
    if !taskInWork t then (s, 1)
    else
      let s := ((s.revoke t).freeTracks t).updTask t.id (fun t => { t with state := .suspended, holder := none, leaseEnd := none })
      (match t.holder with | none => s | some m => s.reportReservation m, 0))

/-- A machine is connected to the field's serving base. -/
def State.connectedAt (s : State) (machine serving : Nat) : Bool :=
  decide (machine / 128 = serving) &&
    (if serving = s.ownIndex then decide ((Tab.get SlotConn.free s.radio.slots (machine % 128)).state = .connected) else bit s.fleet.linked serving)

/-- 0x03: every reservation of the task passes to the target in one step (R302). -/
def State.taskHandOver (s : State) (q : Sess) : State :=
  s.taskCommandWrite q 3 (fun s t =>
    let target := s.regN Obj.taskHandOverTarget
    if !taskInWork t || s.activationCommitted then (s, 1)
    else if s.mode.current = .halt then (s, 4)
    else match s.fieldOf t.field with
      | none => (s, 2)
      | some f =>
        if !s.connectedAt target f.serving then (s, 2)
        else if !s.hasCaps target t.caps then (s, 3)
        else
          let own := rangeTracks t.ranges
          let free := own.all (fun n => match s.track t.field n with | none => false | some x => decide (x.state = .free) || decide (x.state = .done))
          if t.state = .suspended ∧ free = false then (s, 1)
          else
            let s := s.revoke t
            let s := own.foldl (fun s n => match s.track t.field n with
              | none => s
              | some x =>
                if x.state = .reserved ∨ (t.state = .suspended ∧ x.state = .free) then s.setTrack t.field n { x with state := .reserved, holder := target }
                else s) s
            let s := s.updTask t.id (fun t => { t with holder := some target, state := if t.state = .suspended then .claimed else t.state
                                                       leaseEnd := some (s.now + ticksS (s.regN Obj.leaseTime)) })
            let s := match t.holder with | none => s | some m => s.reportReservation m
            ((s.reportReservation target).sendTask t target, 0))

/-- The planner offers a task to a capable machine that is connected to the serving base (R287, R295). -/
def State.taskOffer (s : State) (id machine : Nat) : State :=
  if !(s.isBase && s.isManager) || s.activationCommitted then s
  else match s.taskOf id with
    | none => s
    | some t =>
      match s.fieldOf t.field with
      | none => s
      | some f =>
        if !(decide (t.state = .unassigned) || decide (t.state = .suspended)) ∨ s.connectedAt machine f.serving = false ∨ s.hasCaps machine t.caps = false then s
        else
          (s.updTask id (fun t => { t with prior := t.state, state := .offered, holder := some machine, offerDue := s.after (ticksS 10) })).sendMachine
            machine { code := 0x81, data := leBytes 4 id ++ leBytes 1 t.priority }

/-- An offer not claimed within 10 s lapses: the task returns to its previous state (R295). -/
def State.offerLapse (s : State) (id : Nat) : State :=
  match s.taskOf id with
  | none => s
  | some t =>
    if t.state = .offered ∧ s.due t.offerDue = true then
      s.updTask id (fun t => { t with state := t.prior, holder := none, offerDue := none })
    else s

/-! ### The rover's side (R296, R299, R301) -/

/-- The rover's task is unloaded: TaskCurrent 0, every section wanted OFF at the earliest slot (R229, R301). -/
def State.unloadTask (s : State) : State :=
  ((s.updFleet (fun f => { f with task := none })).setReg Obj.taskCurrent 0).planOffWhere (fun _ => true)

/-- ClaimRequest: the claim is sent (R296). -/
def State.claimRequest (s : State) (q : Sess) (data : List Byte) : State :=
  s.writeBytesCommand q Obj.claimRequest data (fun s =>
    let n := fieldU data 4 1
    if data.length < 5 ∨ data.length ≠ 5 + 2 * n then .error abortLength
    else if 64 < n then .error abortRange
    else .ok ((s.updFleet (fun f => { f with claim := data })).queueUp { code := 2, data := data }))

/-- TaskRelease: the task is unloaded at the write and the release sent (R301). -/
def State.taskRelease (s : State) (q : Sess) (v : Int) : State :=
  s.writeCommand q Obj.taskRelease v (fun s =>
    match s.fleet.task with
    | none => .ok s
    | some t => .ok (s.unloadTask.queueUp { code := 5, data := leBytes 4 t.id }))

/-- TrackDone: the track leaves TrackGeometry at the write and the record is sent; only a reserved track is taken (R301). -/
def State.trackDone (s : State) (q : Sess) (v : Int) : State :=
  s.writeCommand q Obj.trackDone v (fun s =>
    match s.fleet.task with
    | none => .error abortRange
    | some t =>
      if !(t.tracks.any (fun x => decide (x.1 = v.toNat))) then .error abortRange
      else
        let s := s.updFleet (fun f => { f with task := some { t with tracks := t.tracks.filter (fun x => decide (x.1 ≠ v.toNat)) } })
        .ok (s.queueUp { code := 4, data := leBytes 2 v.toNat }))

/-- TrackGeometry (R312): each reserved track with its number and progress. -/
def State.trackGeometry (s : State) : List Byte :=
  match s.fleet.task with
  | none => []
  | some t => t.tracks.flatMap (fun x => leBytes 2 x.1 ++ leBytes 4 x.2.progress ++ trackBytes x.2)

/-! ### Separation (R304 to R308) -/

/-- The pair number of slots a below b. -/
def pairNumber (a b : Nat) : Nat := b * (b - 1) / 2 + a

/-- The exemption minimum of a pair, mm. -/
def State.exemption (s : State) (a b : Nat) : Option Nat :=
  (List.range 64).findSome? (fun n =>
    let e := s.octAt Obj.exemptEntry n
    let x := fieldU e 0 1
    let y := fieldU e 1 1
    if x ≠ 0xFF ∧ y ≠ 0xFF ∧ ((x = a ∧ y = b) ∨ (x = b ∧ y = a)) then some (fieldU e 2 2) else none)

/-- The envelope of a machine: ahead, behind, half width, top speed. -/
def envelopeOf (m : FleetMachine) : Nat × Nat × Nat × Nat :=
  (fieldU m.envelope 0 2, fieldU m.envelope 2 2, fieldU m.envelope 4 2, fieldU m.envelope 6 2)

/-- A shape grown round a machine at a sample: corners of a rectangle, or a disc. µm. -/
inductive Shape where
  | rect (corners : List Pt)
  | disc (centre : Pt) (radius : Int)

/-- The growth g = 3 H_SIGMA + a (age + τ)² / 2, in µm; H_SIGMA is in mm, a Q16.16 m/s², the time in ns (R306). -/
def growth (hSigma : Nat) (accel : Int) (ns : Int) : Int := 3000 * hSigma + accel * ns * ns / (2 * 65536 * 1000000000000)

/-- The shape of a machine at τ ms after the check instant (R305, R306), to the µm (log 169): its heading is 360/2^16 degrees. -/
def State.shapeAt (s : State) (m : FleetMachine) (r : Report) (t : Int) (tau : Int) : Shape :=
  let age := t - r.time
  let ahead_ := age + tau * 1000000
  let (ahead, behind, half, top) := envelopeOf m
  if s.reg Obj.separationStaleLimit * 1000000 < age then
    let reach := Config.root ((max ahead behind * max ahead behind + half * half) * 1000000)
    .disc { e := r.pos.e * 1000, n := r.pos.n * 1000 } (reach + 3000 * r.hSigma + top * ahead_ / 1000000)
  else
    let g := growth r.hSigma (s.reg Obj.separationAccel) ahead_
    let c : Pt := { e := r.pos.e * 1000 + r.velE * ahead_ / 1000000, n := r.pos.n * 1000 + r.velN * ahead_ / 1000000 }
    let h : Int := r.heading * 360000000 / 65536
    let f : Int := ahead * 1000 + g
    let b : Int := -(behind * 1000 + g)
    let w : Int := half * 1000 + g
    .rect [bodyOffset c h f (-w), bodyOffset c h f w, bodyOffset c h b w, bodyOffset c h b (-w)]

/-- Two shapes lie within a distance of each other, overlap counting as 0; a distance at the limit is within (R307). -/
def shapesWithin (a b : Shape) (d : Int) : Bool :=
  match a, b with
  | .rect p, .rect q => (edgesOf p).any (fun x => nearEdges q x.1 x.2 (d * d)) || insideCount q (p.headD { e := 0, n := 0 }) || insideCount p (q.headD { e := 0, n := 0 })
  | .rect p, .disc c r => (edgesOf p).any (fun x => pointNear x.1 x.2 c ((d + r) * (d + r))) || insideCount p c
  | .disc c r, .rect p => (edgesOf p).any (fun x => pointNear x.1 x.2 c ((d + r) * (d + r))) || insideCount p c
  | .disc c r, .disc e u => decide (dist2 c e ≤ (d + r + u) * (d + r + u))

/-- The samples of τ up to a limit, in steps of 250 ms (R305). -/
def tauSamples (limit : Nat) : List Int := (List.range (limit / 250 + 1)).map (fun (k : Nat) => (250 * k : Int))

/-- The class of a pair: 0 CLEAR, 1 CAUTION, 2 STOP (R307). -/
def State.classify (s : State) (t : Int) (a b : Nat) : Nat :=
  let ma := Tab.get FleetMachine.unknown s.fleet.machines a
  let mb := Tab.get FleetMachine.unknown s.fleet.machines b
  match ma.report, mb.report with
  | some ra, some rb =>
    let near := fun (limit : Nat) (d : Int) => (tauSamples limit).any (fun tau => shapesWithin (s.shapeAt ma ra t tau) (s.shapeAt mb rb t tau) (d * 1000))
    let ex := s.exemption a b
    let minD : Int := match ex with | none => s.reg Obj.separationMin | some m => m
    if near (s.regN Obj.separationStopHorizon) minD then 2
    else if ex.isNone && near (s.regN Obj.separationLookAhead) (s.reg Obj.separationCaution) then 1
    else 0
  | _, _ => 0

/-- A machine reports a speed above 0.1 m/s. -/
def moves (m : FleetMachine) : Bool :=
  match m.report with
  | none => false
  | some r => decide (10000 < r.velE * r.velE + r.velN * r.velN)

/-- The alert of a machine changes: the value goes down in its next downlink command (R308). -/
def State.setAlert (s : State) (m v : Nat) : State :=
  let x := Tab.get FleetMachine.unknown s.fleet.machines m
  if x.alert = v then s
  else
    (s.updFleet (fun f => { f with machines := Tab.put FleetMachine.unknown f.machines m { x with alert := v } })).sendMachine
      (s.ownIndex * 128 + m) { code := 0x85, data := leBytes 2 v }

/-- Slots of the base that are CONNECTED. -/
def State.connectedSlots (s : State) : List Nat :=
  (s.radio.slots.filter (fun e => decide (e.1 < 128) && decide (e.2.state = .connected))).map (·.1)

/-- One pair in a check: state, alerts, and for a STOP the addressed stops to both machines and a Milestone entry; a STOP
that stays is repeated while either machine moves (R308). Answers the slots to stop. -/
def State.checkPair (s : State) (t : Int) (a b : Nat) : State × List Nat :=
  let n := pairNumber a b
  let old := Tab.get 0 s.fleet.pairs n
  let c := s.classify t a b
  let s := s.updFleet (fun f => { f with pairs := Tab.put 0 f.pairs n c })
  let alertOf := fun (m : Nat) => (Tab.get FleetMachine.unknown s.fleet.machines m).alert
  let s := if c = 1 then (s.setAlert a (1 + b * 256)).setAlert b (1 + a * 256)
    else if c = 0 then
      let s := if alertOf a = 1 + b * 256 then s.setAlert a 0 else s
      if alertOf b = 1 + a * 256 then s.setAlert b 0 else s
    else s
  if c = 2 then
    let s := if old = 2 then s else (s.incr Obj.pairStops).milestoneEntry 0x86
    let again := moves (Tab.get FleetMachine.unknown s.fleet.machines a) || moves (Tab.get FleetMachine.unknown s.fleet.machines b)
    (s, if old ≠ 2 ∨ again = true then [a, b] else [])
  else (s, [])

/-- Every pair of connected machines, slot a below slot b. -/
def State.separationPairs (s : State) : List (Nat × Nat) := pairsOf s.connectedSlots

/-- The check of a whole 100 ms of receiver time, once each (R305): answers the slots that an addressed stop goes to. -/
def State.separationRound (s : State) : State × List Nat :=
  let t := s.time64 / 100000000 * 100000000
  if s.fleet.checkedAt = some t then (s, []) else
  let s := s.updFleet (fun f => { f with checkedAt := some t })
  s.separationPairs.foldl (fun r p => let (s', l) := r.1.checkPair t p.1 p.2; (s', r.2 ++ l.filter (fun x => !r.2.contains x))) (s, [])

/-! ### Base link (R310) -/

/-- The bases that a base's heartbeat goes to: a worker's to the manager, the manager's to every worker. -/
def State.heartbeatPeers (s : State) : List Nat := if s.isWorker then [0] else (List.range 15).map (· + 1)

/-- Every 10 ms each base sends a heartbeat: a worker's carries the slots whose reports it has accepted since the last, which renew
their leases (R300, R310; log 170). -/
def State.baseLinkHeartbeat (s : State) : State :=
  if !s.isBase ∨ s.now < s.fleet.heartbeatDue then s
  else
    let m := LinkMsg.heartbeat (decide (s.mode.current = .halt)) s.fleet.reports
    (s.heartbeatPeers.foldl (fun s b => s.sendLink b m) s).updFleet (fun f => { f with heartbeatDue := s.now + ticksMs 10, reports := [] })

/-- BaseLinks shows the linked set. -/
def State.setLinked (s : State) (m : Nat) : State := (s.updFleet (fun f => { f with linked := m })).setReg Obj.baseLinks m

/-- A bit of a set of bases. -/
def setBit (m n : Nat) (v : Bool) : Nat := if bit m n = v then m else if v then m + 2 ^ n else m - 2 ^ n

/-- Nothing has been heard from a base for BaseLinkTimeout. -/
def State.baseSilent (s : State) (base : Nat) : Bool :=
  match Tab.get none s.fleet.heard base with
  | none => false
  | some t => decide (t + ticksMs (s.regN Obj.baseLinkTimeout) ≤ s.now)

/-- Nothing is heard from a base for BaseLinkTimeout (R310): a manager counts the worker as unlinked; a worker declares the
manager lost, stops beaconing, refuses claims. -/
def State.baseLinkTimeout (s : State) (base : Nat) : State :=
  if !(s.isBase && s.baseSilent base) then s
  else
    let s := if bit s.fleet.linked base then s.setLinked (s.fleet.linked - 2 ^ base) else s
    if s.isWorker ∧ base = 0 then { s.updFleet (fun f => { f with managerLost := true }) with radio := { s.radio with beaconStopped := true } } else s

/-- A heartbeat of a base is heard: the link stands; a manager notes the worker's halt state and renews the leases of the machines
that have reported (R297, R300, R310). -/
def State.heartbeatHeard (s : State) (base : Nat) (halted : Bool) (reports : List Nat) : State :=
  let s := if bit s.fleet.linked base then s else s.setLinked (s.fleet.linked + 2 ^ base)
  let s := s.updFleet (fun f => { f with halted := setBit f.halted base halted })
  if s.isManager then reports.foldl (fun s n => s.renewLease (base * 128 + n % 128)) s else s

/-- The link stands, and where the manager was lost it returns: a worker resumes beaconing and forwards what has waited (R310). -/
def State.baseLinkRestored (s : State) (base : Nat) (halted : Bool) (reports : List Nat) : State :=
  if !s.isBase ∨ 16 ≤ base ∨ base = s.ownIndex then s
  else
    let s := s.updFleet (fun f => { f with heard := Tab.put none f.heard base (some s.now) })
    let s := s.heartbeatHeard base halted reports
    if s.isWorker ∧ base = 0 ∧ s.fleet.managerLost = true then
      let held := s.fleet.linkHeld
      let s : State := { s.updFleet (fun f => { f with managerLost := false, linkHeld := [] }) with radio := { s.radio with beaconStopped := false } }
      held.foldl (fun s m => s.sendLink 0 m) s
    else s

/-- A HELD slot becomes FREE where its machine holds nothing (R331). -/
def State.freeHeld (s : State) (slot : Nat) : State :=
  { s with radio := { s.radio with slots := Tab.update SlotConn.free s.radio.slots slot (fun c => if c.state = .held then SlotConn.free else c) } }

/-- A worker keeps the manager's report of a machine's reservations; a freed slot that holds none is FREE at once (R331). -/
def State.reservationReportRx (s : State) (slot : Nat) (held : Bool) : State :=
  if !(s.isBase && s.isWorker) then s
  else
    let s := s.updFleet (fun f => { f with reserved := f.reserved.filter (fun x => decide (x ≠ slot)) ++ (if held then [slot] else []) })
    if held then s else s.freeHeld slot

end Sys2Proof.Machine
end

