-- ==== Sys2Proof/Machine/Keys.lean ====
section
/-!
DEFINITION. Machine/Keys.lean: the key slots of Tollgate as every block reads them (R559 to R562, R570).
-/
namespace Sys2Proof.Machine

/-- Changes Tollgate. -/
def State.updGate (s : State) (f : GateState → GateState) : State := { s with gate := f s.gate }

/-- An empty key record (R560). -/
def KeyRecord.empty : KeyRecord := { kind := 0, state := 0, gen := 0, key := [], factory := false }

/-- A slot as it leaves manufacture: 0 to 2 written and locked, generation 1, the others empty (R559). -/
def factoryRecord (slot : Nat) : KeyRecord :=
  match slot with
  | 0 => { kind := 1, state := 2, gen := 1, key := [], factory := true }
  | 1 => { kind := 2, state := 2, gen := 1, key := [], factory := true }
  | 2 => { kind := 4, state := 2, gen := 1, key := [], factory := true }
  | _ => KeyRecord.empty

/-- A copy of a slot; none where it is not good. -/
def State.keyCopy (s : State) (slot copy : Nat) : Option KeyRecord := Tab.get (some (factoryRecord slot)) s.gate.keys (slot * 2 + copy)

/-- Puts a copy of a slot. -/
def State.setKeyCopy (s : State) (slot copy : Nat) (k : Option KeyRecord) : State :=
  s.updGate (fun g => { g with keys := Tab.put (some (factoryRecord slot)) g.keys (slot * 2 + copy) k })

/-- The record in use of a slot: the good copy of the higher generation; none where neither is good (R561). -/
def State.keyRecord (s : State) (slot : Nat) : Option KeyRecord :=
  match s.keyCopy slot 0, s.keyCopy slot 1 with
  | none, k => k
  | k, none => k
  | some a, some b => if a.gen < b.gen then some b else some a

/-- The bytes of a record. -/
def KeyRecord.bytes (k : KeyRecord) (slot : Nat) : List Byte := if k.factory then Config.factoryKey slot else k.key

/-- The test root is in use: every slot but 0 and 2 is sealed (R570). -/
def State.sealedSlot (s : State) (slot : Nat) : Bool := s.mode.testRoot && (decide (slot = 1) || decide (3 ≤ slot ∧ slot ≤ 7))

/-- The key of a slot as Tollgate uses it: none where the slot is empty, bad or sealed. -/
def State.keyOf (s : State) (slot : Nat) : Option (List Byte) :=
  if s.sealedSlot slot then none
  else if s.mode.testRoot ∧ slot = 0 then some (Config.factoryKey 32)
  else match s.keyRecord slot with
    | none => none
    | some k => if k.state = 0 then none else some (k.bytes slot)

/-- The slot is bad (R561). -/
def State.slotBad (s : State) (slot : Nat) : Bool := (s.keyRecord slot).isNone

/-- IDENTITY_BAD (R562): slot 1 or 2 is bad or empty. -/
def State.identityBad (s : State) : Bool := (s.keyOf 1).isNone || (s.keyOf 2).isNone

/-- DEV_ID: the first 16 bytes of the device certificate (R559). -/
def State.deviceId (s : State) : List Byte := ((s.keyOf 2).getD []).take 16

/-- A pinned register is loaded with the key of its slot: one blob is unwrapped (R566; log 184). -/
def State.loadPinned (s : State) (slot : Nat) : State :=
  if 4 ≤ slot ∧ slot ≤ 7 ∧ (s.keyOf slot).isSome then s.incr Obj.keyRegisterLoads else s

/-- Bytes of an open value. -/
def State.drawBytes (s : State) (n : Nat) : List Byte × State :=
  let (v, s) := s.drawBits (8 * n)
  (leBytes n v.toNat, s)

/-- At BOOT Tollgate draws the wrap key and loads the pinned registers (R566). -/
def State.bootKeys (s : State) : State :=
  let (w, s) := s.drawBytes 32
  [7, 6, 4, 5].foldl State.loadPinned (s.updGate (fun g => { g with wrapKey := w }))

end Sys2Proof.Machine
end

