-- ==== Sys2Proof/Machine/RadioOps.lean ====
section
/-!
DEFINITION. Machine/RadioOps.lean: frames of the Adetre protocol as bytes (R321 to R325): header check, CRC,
MIC, replay test; sending frames and the air accounts (R345 to R349).
-/
namespace Sys2Proof.Machine

/-- Changes the radio. -/
def State.updRadio (s : State) (f : RadioState → RadioState) : State := { s with radio := f s.radio }

/-! ### Layout (R321, R322) -/

/-- CRC-4 over 12 bits, polynomial x^4 + x + 1, initial value 0xF (R321). -/
def crc4 (x : Nat) : Nat :=
  ((List.range 12).foldl (fun (c : Nat) k =>
    let top := bit c 3 != bit x (11 - k)
    (c * 2 % 16) ^^^ (if top then 3 else 0)) 15)

/-- CTRL with a TTL. -/
def AirFrame.ctrl (f : AirFrame) (ttl : Nat) : Nat := f.type % 16 + ttl % 8 * 16 + flag f.flood 7

/-- NET. -/
def AirFrame.netByte (f : AirFrame) : Nat := f.net % 16 + flag f.first 4 + flag f.last 5

/-- The PHY header: LEN counts the MAC header, the body and the MIC; HCS covers its low 12 bits. -/
def AirFrame.phy (f : AirFrame) : List Byte := let len := f.body.length + 10; leBytes 2 (len + crc4 len * 4096)

/-- The MAC header with a TTL. -/
def AirFrame.mac (f : AirFrame) (ttl : Nat) : List Byte :=
  leBytes 1 (f.ctrl ttl) ++ leBytes 1 f.src ++ leBytes 1 f.dst ++ leBytes 1 f.netByte ++ leBytes 2 f.fseq

/-- The bytes of a frame. CRC-16 goes most significant byte first. -/
def AirFrame.bytes (f : AirFrame) : List Byte :=
  let b := f.phy ++ f.mac f.ttl ++ f.body ++ f.mic
  b ++ beBytes 2 (crc16 b).toNat

/-- LEN of received bytes. -/
def frameLen (b : List Byte) : Nat := bits (fieldU b 0 2) 0 9

/-- The HCS of received bytes passes, and LEN lies in its range. -/
def hcsOk (b : List Byte) : Bool :=
  let h := fieldU b 0 2
  decide (bits h 12 4 = crc4 (bits h 0 12)) && decide (10 ≤ frameLen b) && decide (frameLen b ≤ 265)

/-- The CRC of received bytes passes. -/
def frameCrcOk (b : List Byte) : Bool :=
  decide (b.length = frameLen b + 4) && decide (beNat (b.drop (b.length - 2)) = (crc16 (b.take (b.length - 2))).toNat)

/-- The fields of received bytes. -/
def parseFrame (b : List Byte) : AirFrame :=
  let c := fieldU b 2 1
  let n := fieldU b 5 1
  let len := frameLen b
  { type := bits c 0 4, ttl := bits c 4 3, flood := bit c 7, src := fieldU b 3 1, dst := fieldU b 4 1, net := bits n 0 4,
    first := bit n 4, last := bit n 5, fseq := fieldU b 6 2, body := (b.drop 8).take (len - 10), mic := (b.drop (len - 2)).take 4 }

/-! ### Keys and MIC (R324) -/

/-- The nonce of a frame in an interval. -/
def frameNonce (fleet : Nat) (f : AirFrame) (k : Nat) : List Byte :=
  leBytes 2 fleet ++ leBytes 1 f.netByte ++ leBytes 1 f.src ++ leBytes 4 k ++ leBytes 2 f.fseq ++ leBytes 1 (f.ctrl 0) ++ [0, 0]

/-- A beacon's body goes in clear and is part of the associated data. -/
def clearBody (f : AirFrame) : Bool := decide (f.type = 0)

/-- The MIC of a frame whose body is plain: four bytes. -/
def frameMic (key : List Byte) (fleet : Nat) (f : AirFrame) (k : Nat) : List Byte :=
  let ad := f.phy ++ f.mac 0
  slice (if clearBody f then Config.ccmMic key (frameNonce fleet f k) (ad ++ f.body) [] 4
         else Config.ccmMic key (frameNonce fleet f k) ad f.body 4) 0 4

/-- Bytes combined with the key stream. -/
def xorBytes (a b : List Byte) : List Byte := (a.zip b).map (fun x => x.1 ^^^ x.2)

/-- A body combined with the key stream of its frame, as many bytes as it has: the same way out and back. -/
def cipherBody (key : List Byte) (fleet : Nat) (f : AirFrame) (k : Nat) : List Byte :=
  xorBytes f.body (slice (Config.ctrStream key (frameNonce fleet f k) f.body.length) 0 f.body.length)

/-- The plain body of a received frame under a key in an interval; none where the MIC fails. -/
def openFrame (key : List Byte) (fleet : Nat) (f : AirFrame) (k : Nat) : Option (List Byte) :=
  let body := if clearBody f then f.body else cipherBody key fleet f k
  if frameMic key fleet { f with body := body } k = f.mic then some body else none

/-- A frame protected under a key. -/
def sealFrame (key : List Byte) (fleet : Nat) (f : AirFrame) (k : Nat) : AirFrame :=
  { f with mic := frameMic key fleet f k
           body := if clearBody f then f.body else cipherBody key fleet f k }

/-- The FleetId of the network: a base's own, else JoinFleetId. -/
def State.netFleet (s : State) : Nat :=
  if s.mode.role = some .base then (s.bootReg Obj.fleetId).toNat else s.regN Obj.joinFleetId

/-- The beacon interval in force since BOOT, ns. -/
def State.biNs (s : State) : Int := s.bootReg Obj.beaconInterval * 1000000

/-- The time of the network: a base's own reported time; at a rover or relay the time of its learned model of the base's
clock on the counter (R340, R398), once it has heard a beacon. -/
def State.netTime (s : State) : Int :=
  if s.mode.role = some .base then s.time64
  else match s.radio.model with
    | none => s.time64
    | some (tick, t, ppb) => t + ((s.now : Int) - tick) * (1000000000 + ppb) / 2000000000

/-- The beacon interval of now (R317). -/
def State.intervalFull (s : State) : Nat := (s.netTime / s.biNs).toNat

/-- The time-stamp of a sync word: its count, moved by the asymmetry of the transceiver (R386, R387). -/
def State.stampTick (s : State) (asymmetry : ObjDesc) (tick : Nat) : Nat := ((tick : Int) + s.reg asymmetry).toNat

/-- The time of the network at a count of the past (R37, R340). -/
def State.netTimeAt (s : State) (tick : Nat) : Int :=
  if s.mode.role = some .base then s.time64 - ((s.now : Int) - tick) / 2
  else match s.radio.model with
    | none => s.time64 - ((s.now : Int) - tick) / 2
    | some (at_, t, ppb) => t + ((tick : Int) - at_) * (1000000000 + ppb) / 2000000000

/-- The interval modulo 2^32, as the nonce takes it (R324). -/
def State.interval (s : State) : Nat := s.intervalFull % 2 ^ 32

/-- The intervals whose MIC a receiver tries, newest first: back through every one that started within the last 8 s (R324). -/
def State.tryIntervals (s : State) (f : AirFrame) : List Nat :=
  let into := s.netTime % s.biNs
  if f.flood then (List.range (((8000000000 - into) / s.biNs).toNat + 1)).map (fun n => s.interval - n) else [s.interval]

/-- The key of a frame: group or session by its type (R323); none where there is none. -/
def State.frameKey (s : State) (f : AirFrame) : Option (List Byte) :=
  if f.type = 0 ∨ f.type = 1 ∨ f.type = 9 ∨ f.type = 0xA then s.radio.groupKey
  else if f.type = 2 ∧ f.dst = 0xFF then s.radio.groupKey
  else if s.mode.role = some .base then (let k := (Tab.get SlotConn.free s.radio.slots f.src).key; if k.isEmpty then none else some k)
  else s.radio.sessionKey

/-- A discarded frame is counted. -/
def State.discardFrame (s : State) : State := s.incr Obj.framesDiscarded

/-- The interval of a frame that is later than the last accepted of its SRC (R324). -/
def laterThan (last : Option (Nat × Nat)) (k fseq : Nat) : Bool :=
  match last with
  | none => true
  | some (k0, f0) => decide (k0 < k) || (decide (k0 = k) && decide (0 < signedDiff 16 fseq f0))

/-- The first interval in which a MIC verifies, with the plain body. -/
def firstOpen (key : List Byte) (fleet : Nat) (f : AirFrame) : List Nat → Option (Nat × List Byte)
  | [] => none
  | k :: t =>
    match openFrame key fleet f k with
    | some b => some (k, b)
    | none => firstOpen key fleet f t

/-- A received frame passes the checks of R324 and gives its plain body, or is discarded and counted. Reserved types are
discarded (R323). An accepted frame is an input that a pair mirrors (R595). -/
def State.receive (s : State) (b : List Byte) : State × Option AirFrame :=
  if !hcsOk b || !frameCrcOk b then (s.discardFrame, none)
  else
    let f := parseFrame b
    if 0xD ≤ f.type then (s.discardFrame, none)
    else if f.type = 6 ∨ f.type = 7 then (s.noteInput, some f)
    else match s.frameKey f with
      | none => (s.discardFrame, none)
      | some key =>
        match firstOpen key s.netFleet f (s.tryIntervals f) with
        | none => (s.discardFrame, none)
        | some (k, body) =>
          if laterThan (Tab.get none s.radio.accepted f.src) k f.fseq then
            ((s.updRadio (fun r => { r with accepted := Tab.put none r.accepted f.src (some (k, f.fseq)) })).noteInput, some { f with body := body })
          else (s.discardFrame, none)

/-- Puts a reassembly. -/
def State.setPart (s : State) (key : Nat) (v : Option (Nat × List Byte)) : State :=
  s.updRadio (fun r => { r with parts := Tab.put none r.parts key v })

/-- A fragment joins the one reassembly of its SRC and TYPE (R325): FIRST begins it and LAST ends it; a fragment that is missing, a FIRST
before LAST, or more than 135,168 bytes discard the whole record, counted. Answers the record that is whole. -/
def State.reassemble (s : State) (f : AirFrame) : State × Option (List Byte) :=
  let key := f.src * 16 + f.type
  let old := Tab.get none s.radio.parts key
  if f.first then
    let s := if old.isSome then s.discardFrame else s
    if f.last then (s.setPart key none, some f.body) else (s.setPart key (some (f.fseq, f.body)), none)
  else match old with
    | none => (s.discardFrame, none)
    | some (n, b) =>
      if f.fseq ≠ (n + 1) % 65536 ∨ 135168 < b.length + f.body.length then ((s.setPart key none).discardFrame, none)
      else if f.last then (s.setPart key none, some (b ++ f.body))
      else (s.setPart key (some (f.fseq, b ++ f.body)), none)

/-- Frames of a record as they arrive, each checked and joined to its reassembly; answers the frame that ends the record, and the record's
bytes, where one of the types is whole (R325). -/
def State.receiveRecord (s : State) (types : List Nat) : List (List Byte) → State × Option (AirFrame × List Byte)
  | [] => (s, none)
  | b :: t =>
    match s.receive b with
    | (s, none) => State.receiveRecord s types t
    | (s, some f) =>
      if !types.contains f.type then State.receiveRecord s types t
      else match s.reassemble f with
        | (s, some body) => (s, some (f, body))
        | (s, none) => State.receiveRecord s types t

/-- The data of a record of a code (R337): in one frame its length byte counts the data; in fragments the data is the rest. -/
def recordData (code : Nat) (body : List Byte) : Option (List Byte) :=
  if fieldU body 0 1 ≠ code ∨ body.length < 2 then none
  else if body.length ≤ 257 then some ((body.drop 2).take (fieldU body 1 1)) else some (body.drop 2)

/-- A record that reaches a base: its fleet machine number and its data. -/
def State.uplink (s : State) (code : Nat) (u : Uplink) : State × Option (Nat × List Byte) :=
  match u with
  | .link h m d =>
    let (s, ok) := s.acceptLink h
    (s, if ok then some (m, d) else none)
  | .radio frames =>
    let (s, r) := s.receiveRecord [5] frames
    match r with
    | none => (s, none)
    | some (f, body) =>
      if (Tab.get SlotConn.free s.radio.slots f.src).state ≠ .connected then (s, none)
      else (s, (recordData code body).map (fun d => (s.ownIndex * 128 + f.src, d)))

/-! ### Channels (R314 to R317) -/

/-- The region in force. -/
def State.region (s : State) : Nat := (s.bootReg Obj.radioRegion).toNat

/-- The map objects: 0 DownlinkMap, 1 UplinkMapA, 2 UplinkMapB; 0 selects the region default (R316). -/
def State.channelMap (s : State) (n : Nat) : Nat :=
  let v := (s.bootReg (match n with | 0 => Obj.downlinkMap | 1 => Obj.uplinkMapA | _ => Obj.uplinkMapB)).toNat
  if v ≠ 0 then v
  else if s.region = 1 then (match n with | 0 => 0xF | 1 => 0xFE0 | _ => 0x1000)
  else (match n with | 0 => 0 | 1 => 0x5555555555555555 | _ => 0xAAAAAAAAAAAAAAAA)

/-- The maps a device uses: a base its own, a rover or relay those it learned from beacons. -/
def State.mapInUse (s : State) (n : Nat) : Nat :=
  if s.mode.role = some .base then s.channelMap n else (Tab.get none s.radio.maps n).getD 0

/-- The enabled channels of a map in ascending order. -/
def mapChannels (m : Nat) : List Nat := (List.range 64).filter (bit m)

/-- The least number not below ⌈n/3⌉ that is coprime with n; fuel bounds the search. -/
def hopStep (n : Nat) : Nat → Nat → Nat
  | 0, h => h
  | f + 1, h => if Nat.gcd h n = 1 then h else hopStep n f (h + 1)

/-- The channel of a map in interval k (R317). -/
def hopChannel (l : List Nat) (k fleet base : Nat) : Nat :=
  let n := l.length
  l.getD ((k * hopStep n n ((n + 2) / 3) + (fleet + 7 * base) % max 1 n) % max 1 n) 0

/-- The base index of the network a device works in. -/
def State.netIndex (s : State) : Nat := if s.mode.role = some .base then s.ownIndex else s.radio.netBase

/-- The sub-band of a channel of a map (R315): the 433 band is sub-band 0, the 915 band 6. -/
def State.subBand (s : State) (map chan : Nat) : Nat :=
  if s.region = 2 then 6
  else if map = 0 then 0
  else if chan ≤ 4 then 1 else if chan ≤ 11 then 2 else if chan = 12 then 3 else if chan = 13 then 4 else 5

/-- A channel is one of an enabled pair 2m, 2m + 1 in one sub-band (R318). -/
def State.paired (s : State) (map m chan : Nat) : Bool :=
  bit m (chan / 2 * 2) && bit m (chan / 2 * 2 + 1) && decide (s.subBand map (chan / 2 * 2) = s.subBand map (chan / 2 * 2 + 1))

/-- The channels that a PHY mode hops over: with mode 0x2 the lower one of each enabled pair (R317, R318). -/
def State.hopList (s : State) (map phy : Nat) : List Nat :=
  let m := s.mapInUse map
  if phy = 2 then (mapChannels m).filter (fun c => decide (c % 2 = 0) && s.paired map m c) else mapChannels m

/-- The channel that a transceiver has now in a PHY mode: uplink maps A and B; the downlink is DownlinkMap in the EU region. -/
def State.channelOf (s : State) (map phy : Nat) : Nat :=
  let map := if map = 0 ∧ s.region = 2 then 1 else map
  hopChannel (s.hopList map phy) s.intervalFull s.netFleet s.netIndex

/-! ### Air time (R318, R345, R348) -/

/-- ns per byte of a PHY mode. -/
def phyNs : Nat → Nat
  | 0 => 80000 | 1 => 20000 | 2 => 10000 | _ => 640000

/-- The air time in µs of a frame of so many bytes from PHY header to CRC: preamble and sync word add 8, the flush byte of
DSSS one more (R321). -/
def airUs (phy len : Nat) : Nat := (len + 8 + (if phy = 3 then 1 else 0)) * phyNs phy / 1000

/-- The duty-cycle limit of a sub-band, ‰ (R315). -/
def dutyLimit : Nat → Nat
  | 0 => 100 | 1 => 1 | 2 => 10 | 3 => 10 | 4 => 1 | 5 => 100 | _ => 1000

/-- The stop PHY in force. -/
def State.stopPhy (s : State) : Nat := (s.bootReg Obj.stopPhy).toNat

/-- The air time of a stop frame: 47 bytes, or 48 in DSSS (R362). -/
def State.stopUs (s : State) : Nat := airUs s.stopPhy 39

/-- The stop reserve of a sub-band, µs (R345, R371). -/
def State.stopReserve (s : State) : Nat := 64 * s.stopUs

/-- The normal budget of a sub-band, µs (R345). -/
def State.normalBudget (s : State) (sub : Nat) : Nat := dutyLimit sub * 3600000 - s.stopReserve

/-- Uses of a sub-band in the rolling hour, normal or of the reserve, µs. -/
def State.subUse (s : State) (sub : Nat) (reserve : Bool) : Nat :=
  ((s.radio.uses.filter (fun u => decide (u.sub = sub) && (u.reserve == reserve) && decide ((s.now : Int) < u.at_ + ticksS 3600))).map (·.us)).foldl (· + ·) 0

/-- Occupancy of a channel in the US region over 10 s, or 20 s for a mode below 250 kHz (R348), µs. -/
def State.dwell (s : State) (phy chan : Nat) : Nat :=
  let w := if phy = 0 then 20 else 10
  ((s.radio.uses.filter (fun u => decide (u.chan = chan) && decide ((s.now : Int) < u.at_ + ticksS w))).map (·.us)).foldl (· + ·) 0

/-- The highest occupancy of a channel, µs (SubBandDwellMax). -/
def State.dwellMax (s : State) (phy : Nat) : Nat := (List.range 64).foldl (fun m c => max m (s.dwell phy c)) 0

/-- The budget or the dwell limit holds a normal frame (R345, R348, R371). -/
def State.airHolds (s : State) (phy sub chan us : Nat) : Bool :=
  if s.region = 2 then decide (s.dwell phy chan + us + 3 * s.stopUs ≤ 400000) else decide (s.subUse sub false + us ≤ s.normalBudget sub)

/-- The reserve, or the full dwell limit, holds a stop frame (R371). -/
def State.reserveHolds (s : State) (sub chan : Nat) : Bool :=
  if s.region = 2 then decide (s.dwell s.stopPhy chan + s.stopUs ≤ 400000) else decide (s.subUse sub true + s.stopUs ≤ s.stopReserve)

/-- Notes a use of air time and drops those older than the hour. -/
def State.noteUse (s : State) (u : AirUse) : State :=
  s.updRadio (fun r => { r with uses := r.uses.filter (fun x => decide ((s.now : Int) < x.at_ + ticksS 3600)) ++ [u] })

/-- The cap on the conducted output of a transceiver, Q16.16 dBm (R349). -/
def State.powerCap (s : State) (sideB : Bool) (sub n : Nat) : Int :=
  let ant := s.bootReg (if sideB then Obj.antennaNetGainB else Obj.antennaNetGainA)
  if s.region = 1 then
    (match sub with | 0 => 655360 | 5 => 1768772 | _ => 916173) + 140902 - ant
  else (if 50 ≤ n then 30 * 65536 else 24 * 65536) - (if 6 * 65536 < ant then ant - 6 * 65536 else 0)

/-- What the die and an external PA would deliver, Q16.16 dBm. -/
def State.fullPower (s : State) (sideB : Bool) : Int := 20 * 65536 + s.bootReg (if sideB then Obj.paGainB else Obj.paGainA)

/-- The conducted output on a channel of a map: the lower of the cap and what die and PA deliver (R349). -/
def State.conducted (s : State) (sideB : Bool) (map sub : Nat) : Int :=
  min (s.fullPower sideB) (s.powerCap sideB sub (mapChannels (s.mapInUse (if map = 0 ∧ s.region = 2 then 1 else map))).length)

/-- Gives a frame to a transceiver with its output power. -/
def State.transmit (s : State) (sideB : Bool) (power : Int) (b : List Byte) : State :=
  s.updRadio (fun r => if sideB then { r with txB := b, powerB := power } else { r with txA := b, powerA := power })

/-- PaLeadTime in ticks (R349). -/
def State.paLead (s : State) : Nat := ticksUs (s.regN Obj.paLeadTime)

/-- PA_EN of a transceiver is asserted: from PaLeadTime before the first preamble bit, with no lead for a stop frame, to 2 µs after the last
bit; the lead of a frame whose instant the schedule fixes lies before its command (R349). -/
def State.paOn (s : State) (sideB : Bool) : Bool :=
  s.radio.uses.any (fun u => (u.sideB == sideB) && decide (u.at_ - (if u.reserve then 0 else s.paLead : Nat) ≤ (s.now : Int)) && decide ((s.now : Int) < u.at_ + ticksUs (u.us + 2)))

/-- The air time of preamble and sync word, ns. -/
def syncNs (phy : Nat) : Int := 8 * phyNs phy

/-- The time-stamp of the sync word of a frame that leaves a transceiver at a count (R386, R387). -/
def State.stampSent (s : State) (sideB : Bool) (phy start : Nat) : State :=
  let t := s.stampTick (if sideB then Obj.rfBTxAsym else Obj.rfATxAsym) (start + 2 * (syncNs phy).toNat)
  s.updRadio (fun r => if sideB then { r with sentB := some t } else { r with sentA := some t })

/-- Sends a normal frame on a transceiver over a map after a lead, where the radio is on and the budget holds it; else it is deferred
and counted. Answers whether it went. -/
def State.sendFrame (s : State) (sideB : Bool) (map phy lead : Nat) (b : List Byte) : State × Bool :=
  let chan := s.channelOf map phy
  let sub := s.subBand map chan
  let us := airUs phy b.length
  if !s.radio.on then (s, false)
  else if !s.airHolds phy sub chan us then (s.incr Obj.dutyDeferred, false)
  else (((s.transmit sideB (s.conducted sideB map sub) b).stampSent sideB phy (s.now + lead)).noteUse
    { sub := sub, chan := chan, sideB := sideB, at_ := s.now + lead, us := us, reserve := false }, true)

/-- The next FSEQ of the device (R322). -/
def State.nextFseq (s : State) : Nat × State := (s.radio.fseq, s.updRadio (fun r => { r with fseq := (r.fseq + 1) % 65536 }))

/-- The address of the device: base, slot, relay, or not admitted (R322). -/
def State.ownAddress (s : State) : Nat :=
  if s.mode.role = some .base then 0x80 + s.ownIndex
  else if s.radio.conn = .connected ∨ s.radio.conn = .resync ∨ s.radio.conn = .closing then s.regN Obj.assignedSlot else 0xFE

/-- A frame of the device, whole in one piece. -/
def State.newFrame (s : State) (type dst ttl : Nat) (flood : Bool) (body : List Byte) : AirFrame × State :=
  let (n, s) := s.nextFseq
  ({ type := type, ttl := ttl, flood := flood, src := s.ownAddress, dst := dst, net := s.netIndex, first := true, last := true, fseq := n,
     body := body, mic := [0, 0, 0, 0] }, s)

/-- A frame protected under a key where there is one. -/
def State.protect (s : State) (key : Option (List Byte)) (f : AirFrame) : AirFrame :=
  match key with
  | none => f
  | some k => sealFrame k s.netFleet f s.interval

/-- Downlink and uplink PHY in force. -/
def State.downPhy (s : State) : Nat := (s.bootReg Obj.downlinkPhy).toNat
def State.upPhy (s : State) : Nat := (s.bootReg Obj.uplinkPhy).toNat

/-! ### Drift and guard time (R340, R341) -/

/-- The rate of a fit, ppb, and the partner's time that it gives for the newest reception: least squares over the receptions (log 172). -/
def driftFit (l : List (Nat × Int)) : Int × Int :=
  match l, l.getLast? with
  | f :: _, some e =>
    let n : Int := l.length
    let pts : List (Int × Int) := l.map (fun p => ((p.1 : Int) - f.1, p.2 - f.2))
    let sum := fun (g : Int × Int → Int) => (pts.map g).foldl (· + ·) 0
    let sx := sum (·.1)
    let d := n * sum (fun p => p.1 * p.1) - sx * sx
    let m := n * sum (fun p => p.1 * p.2) - sx * sum (·.2)
    if d = 0 then (0, e.2)
    else ((2 * m - d) * 1000000000 / d, f.2 + (d * sum (·.2) + m * (n * ((e.1 : Int) - f.1) - sx)) / (n * d))
  | _, _ => (0, 0)

/-- A reception joins the last 16 (R340): learned after 8 in a row whose residual lies within 2 × 10⁻⁶ of the time since the one before. One
found outside the guard discards what was learned (R342). -/
def Drift.take (d : Drift) (tick : Nat) (t : Int) (outside : Bool) : Drift :=
  let rx := (if outside then [] else d.rx.drop (d.rx.length - 15)) ++ [(tick, t)]
  let (rate, fit) := driftFit rx
  let fits := match d.last with
    | none => false
    | some p => decide ((t - fit).natAbs * 1000000 ≤ tick - p)
  let good := if outside then 0 else if fits then d.good + 1 else 0
  let learned := !outside && (d.learned || decide (8 ≤ good))
  { rx := rx, good := good, learned := learned, rate := if learned then rate else if outside then 0 else d.rate, last := some tick }

/-- 2 × the predicted error + 30 µs, at a count; none until the drift is learned (R341). -/
def Drift.predicted (d : Drift) (now : Nat) : Option Nat :=
  match d.learned, d.last with
  | true, some t => some (30 + 4 * ((now - t) / 2000) / 1000000)
  | _, _ => none

/-- The guard time at a count, µs. -/
def Drift.guardUs (d : Drift) (now : Nat) : Nat := min 250 ((d.predicted now).getD 250)

/-- The half width of a resync scan, ns (R342). -/
def State.scanNs (s : State) : Int := min (s.biNs / 4) 5000000

/-- A sync word at an error from its expected instant lies in the window that is open (R341). -/
def inGuard (err half : Int) : Bool := decide (-half ≤ err ∧ err < half)

/-- The half width of the window of a reception, ns: a scan where the guard would exceed 250 µs, or where one is due (R341, R342). -/
def State.windowNs (s : State) (d : Drift) (scan : Bool) (tick : Nat) : Int :=
  if scan || decide (250 < (d.predicted tick).getD 0) then s.scanNs else d.guardUs tick * 1000

/-- A remainder taken to the nearest multiple. -/
def centred (v m : Int) : Int := (v + m / 2) % m - m / 2

/-! ### Configuration check (R313, R316, R320, R328, R333, R345, R348, R349) -/

/-- Channels of the band that a map refers to. -/
def State.bandSize (s : State) (map : Nat) : Nat := if s.region = 2 then 64 else if map = 0 then 4 else 15

/-- The PHY modes that use a map. -/
def State.mapPhys (s : State) (map : Nat) : List Nat :=
  if map = 0 then [s.downPhy] else if map = 1 ∧ s.region = 2 then [s.downPhy, s.upPhy] else [s.upPhy]

/-- The maps of the region. -/
def State.regionMaps (s : State) : List Nat := if s.region = 2 then [1, 2] else [0, 1, 2]

/-- A map fails the check of R316. -/
def State.mapBad (s : State) (map : Nat) : Bool :=
  let m := s.channelMap map
  let l := mapChannels m
  l.any (fun c => decide (s.bandSize map ≤ c)) ||
    (s.mapPhys map).any (fun phy =>
      (decide (s.region = 1 ∧ map ≠ 0 ∧ phy ≠ 0) && bit m 14) || (decide (phy = 2) && l.any (fun c => !s.paired map m c))) ||
    (decide (s.region = 2) && decide (l.length < (if (s.mapPhys map).contains 0 then 50 else 25)))

/-- Positions per connection interval (R328). -/
def State.positions (s : State) : Nat :=
  let bi := (s.bootReg Obj.beaconInterval).toNat
  ((bi * 1000 - (s.bootReg Obj.downlinkWindow).toNat) / 2500) * ((s.bootReg Obj.connectionInterval).toNat / max 1 bi)

/-- The caps that a transceiver meets on the maps it sends over. -/
def State.capsOf (s : State) (sideB : Bool) : List Int :=
  let maps := if sideB then [2] else if s.region = 2 then [1] else if s.mode.role = some .base then [0] else [1]
  maps.flatMap (fun m => (mapChannels (s.channelMap m)).map (fun c => s.powerCap sideB (s.subBand m c) (mapChannels (s.channelMap m)).length))

/-- ConfigResult: the lowest code that fails (R313). -/
def State.configCode (s : State) : Nat :=
  let bi := (s.bootReg Obj.beaconInterval).toNat
  let ci := (s.bootReg Obj.connectionInterval).toNat
  let w := (s.bootReg Obj.downlinkWindow).toNat
  if s.region = 0 then 1
  else if s.regionMaps.any s.mapBad || decide (s.channelMap 1 &&& s.channelMap 2 ≠ 0) then 2
  else if s.positions < 64 then 3
  else if s.region = 1 ∧ s.normalBudget 0 * bi < w * 3600 * 1000 then 4
  else if ci % max 1 bi ≠ 0 ∨ ci < 2 * bi ∨ s.regN Obj.supervisionTimeout < 3 * bi + ci ∨ (s.region = 2 ∧ 400 < bi) then 5
  else if (s.downPhy = 3 ∧ bi < 500) ∨
      (s.region = 2 ∧ (s.regionMaps.any (fun m => (s.mapPhys m).contains 0 && decide ((mapChannels (s.channelMap m)).length < 50)))) ∨
      ([false, true].any (fun b => (s.capsOf b).any (fun c => decide (c < -10 * 65536 + (s.fullPower b - 20 * 65536))))) then 6
  else 0

/-- BOOT checks the radio configuration: both transceivers stay off unless it is accepted (R313); PA_LIMITED (R349). -/
def State.bootRadio (s : State) : State :=
  let c := s.configCode
  let s := s.setReg Obj.configResult c
  let limited := [false, true].any (fun b => (s.capsOf b).any (fun x => decide (x < s.fullPower b)))
  let rover := decide (s.mode.role = some .rover) || decide (s.mode.role = some .relay)
  if c ≠ 0 then s.updRadio (fun r => { r with on := false, conn := .idle })
  else
    s.updRadio (fun r => { r with on := true, paLimited := limited, conn := if rover && decide (s.reg Obj.connectionEnable = 1) then .scanning else .idle })

end Sys2Proof.Machine
end

