-- ==== Sys2Proof/Machine/ActivationOps.lean ====
section
/-!
DEFINITION. Machine/ActivationOps.lean: image slots, and the answers of a fleet activation (R574, R580, R581).
-/
namespace Sys2Proof.Machine

/-- An image slot. -/
def State.image (s : State) (n : Nat) : ImageSlot := Tab.get ImageSlot.empty s.gate.images n

/-- Puts an image slot. -/
def State.setImage (s : State) (n : Nat) (x : ImageSlot) : State := s.updGate (fun g => { g with images := Tab.put ImageSlot.empty g.images n x })

/-- Bytes of an image go to NAND. -/
def State.writeImage (s : State) (n : Nat) : State := s.nandWrite 0 n ((s.image 0).bytes.length + (s.image 1).bytes.length)

/-- The slot that is not active: A where none is. -/
def State.inactiveSlot (s : State) : Nat :=
  match s.gate.anchor.active with
  | some 0 => 1
  | _ => 0

/-- The inactive slot is verified with a digest. -/
def State.verifiedWith (s : State) (digest : List Byte) : Bool :=
  decide ((s.image s.inactiveSlot).state = .verified) && decide ((s.image s.inactiveSlot).info.digest = digest)

/-- T is a whole multiple of this base's beacon interval. -/
def State.onInterval (s : State) (t : Int) : Bool := decide (s.biNs ≠ 0) && decide (t % s.biNs = 0)

/-- Changes the activation. -/
def State.updActivation (s : State) (f : Activation → Activation) : State :=
  s.updGate (fun g => { g with activation := g.activation.map f })

/-- An activation record as it goes over the base link. -/
def activationMsg (code : Nat) (data : List Byte) : LinkMsg := .activation (leBytes 1 code ++ data)

/-- This module's own answer (R580); the acting unit of a pair in step speaks for its standby's image too (R602). -/
def State.ownAnswer (s : State) (a : Activation) : Nat :=
  if a.committed then 5
  else if !s.verifiedWith a.digest then 1
  else if s.zheoc.acting && decide (s.zheoc.pair = .inStep) && !Config.standbyVerified a.digest then 1
  else if s.mode.role = some .rover ∧ s.fleet.task.isSome then 2
  else if s.mode.current = .halt then 3
  else if s.isBase && !s.onInterval a.time then 4
  else 0

/-- The answer that goes to the manager: a worker's speaks for its machines too (R580, R581). None while one has not answered. -/
def State.answerToSend (s : State) (a : Activation) : Option Nat :=
  let own := s.ownAnswer a
  if !s.isWorker then some own
  else if own ≠ 0 ∧ own ≠ 5 then some own
  else
    let l := s.connectedSlots.map (fun n => Tab.get none a.answers n)
    if l.all (fun x => decide (x = some own)) then some own
    else match l.find? (fun x => match x with | some c => decide (c ≠ 0 ∧ c ≠ 5) | none => false) with
      | some c => if own = 0 then c else none
      | none => none

/-- A module that is not the manager sends its answer whenever it has changed (R580). -/
def State.sendAnswer (s : State) : State :=
  match s.gate.activation with
  | none => s
  | some a =>
    if !a.fleet || s.isManager || a.cancelled.isSome || !s.operating then s
    else match s.answerToSend a with
      | none => s
      | some c =>
        if a.answered = some c then s
        else
          let s := s.updActivation (fun a => { a with answered := some c })
          let data := leBytes 4 a.id ++ leBytes 1 c
          if s.isWorker then s.sendLink 0 (activationMsg 6 data) else s.queueUp { code := 6, data := data }

/-- ActivationReady: the slots and bases that are ready (R580). -/
def Activation.ready (a : Activation) : List Byte :=
  let yes (k : Nat) : Bool := decide (Tab.get none a.answers k = some 0) || decide (Tab.get none a.answers k = some 5)
  leBytes 16 ((List.range 128).foldl (fun m n => m + flag (yes n) n) 0) ++ leBytes 2 ((List.range 16).foldl (fun m n => m + flag (yes (1000 + n)) n) 0)

/-- An answer reaches a base: from a machine slot, or from a worker (R580). -/
def State.noteAnswer (s : State) (key : Nat) (d : List Byte) : State :=
  match s.gate.activation with
  | none => s
  | some a =>
    if a.id ≠ fieldU d 0 4 ∨ a.fleet = false then s
    else
      let a := { a with answers := Tab.put none a.answers key (some (fieldU d 4 1)) }
      ((s.updGate (fun g => { g with activation := some a })).setOct Obj.activationReady a.ready).sendAnswer

end Sys2Proof.Machine
end

