-- ==== Sys2Proof/Machine/Radio.lean ====
section
/-!
DEFINITION. Machine/Radio.lean: the base's side of the Adetre radio (R326 to R347): beacons, the downlink window,
slots, admission, uplink reception, and the correction stream.
-/
namespace Sys2Proof.Machine

/-! ### Slots (R331 to R334) -/

/-- A slot of the base: machine slots 0 to 127, relays 0x90 to 0x9F. -/
def State.slot (s : State) (n : Nat) : SlotConn := Tab.get SlotConn.free s.radio.slots n

/-- Puts a slot. -/
def State.setSlot (s : State) (n : Nat) (c : SlotConn) : State :=
  s.updRadio (fun r => { r with slots := Tab.put SlotConn.free r.slots n c })

/-- The fleet machine number of a slot. -/
def State.machineOf (s : State) (slot : Nat) : Nat := s.ownIndex * 128 + slot

/-- The slot's machine holds a reservation: by the manager's table, or by a worker's record of it; a worker without its
manager keeps the slot (R331). -/
def State.slotReserved (s : State) (n : Nat) : Bool :=
  if n ≥ 128 then false
  else if s.isWorker then s.fleet.managerLost || s.fleet.reserved.contains n else s.machineHolds (s.machineOf n)

/-- A connection ends at the base: the slot is held back while a reservation is held, else FREE (R331, R333). -/
def State.endSlot (s : State) (n : Nat) : State :=
  let c := s.slot n
  let s := s.setSlot n (if s.slotReserved n then { c with state := .held, key := [], releases := 0 } else SlotConn.free)
  s.updRadio (fun r => { r with terminates := r.terminates.filter (fun x => decide (x ≠ n)), down := r.down.filter (fun x => decide (x.1 ≠ n))
                                tunnels := r.tunnels.filter (fun x => decide (x.1 ≠ n)) })

/-- The slot can be reached: CONNECTED, or CLOSING with its terminate still to send. -/
def State.slotLive (s : State) (n : Nat) : Bool := decide ((s.slot n).state = .connected) || decide ((s.slot n).state = .closing)

/-- A connected slot hears nothing valid for SupervisionTimeout (R333). -/
def State.slotSupervisionTimeout (s : State) (n : Nat) : State :=
  if s.isBase && s.slotLive n && decide ((s.slot n).heard + ticksMs (s.regN Obj.supervisionTimeout) ≤ s.now) then s.endSlot n else s

/-- A terminate frame: from a machine it ends its slot at the base; from the base it ends the connection (R332, R333). -/
def State.endConnection (s : State) : State :=
  (s.updRadio (fun r => { r with conn := .scanning, sessionKey := none, groupKey := none, beacons := 0, missed := 0,
                                 retryDue := none, sentIn := [], sendNext := 0, parts := []
                                 lastSlot := if s.reg Obj.assignedSlot = 255 then r.lastSlot else s.regN Obj.assignedSlot })).setReg Obj.assignedSlot 255

/-- SlotEnable 0x00 starts CLOSING; 0x01 cancels a close whose terminate has not gone (R334). -/
def State.slotEnableWrite (s : State) (q : Sess) (v : Int) : State :=
  s.writeCommand q Obj.slotEnable v (fun s =>
    let n := s.instanceOf q Obj.slotEnable
    let s := s.setRegAt Obj.slotEnable n v
    let c := s.slot n
    if v = 0 then
      if c.state = .connected then
        .ok ((s.setSlot n { c with state := .closing }).updRadio (fun r => { r with terminates := r.terminates ++ [n] }))
      else .ok s
    else if c.state = .closing then
      .ok ((s.setSlot n { c with state := .connected }).updRadio (fun r => { r with terminates := r.terminates.filter (fun x => decide (x ≠ n)) }))
    else .ok s)

def State.slotDisable (s : State) (q : Sess) : State := s.slotEnableWrite q 0
def State.slotEnable (s : State) (q : Sess) : State := s.slotEnableWrite q 1

/-! ### Budgets (R346) -/

/-- The air time of a beacon, µs. -/
def State.beaconUs (s : State) : Nat := airUs s.downPhy 137

/-- The base judges its downlink budget: below 60 s of beacons at the current rate it sends only beacons (R346). -/
def State.judgeBudget (s : State) : State :=
  let low := decide (s.region = 1) &&
    decide ((s.normalBudget 0 - s.subUse 0 false) * (s.bootReg Obj.beaconInterval).toNat < 60000 * s.beaconUs)
  s.updRadio (fun r => { r with budgetLow := low })

/-! ### The downlink window (R326, R327) -/

/-- Seizure of the transceivers by a stop event (R358, R359). -/
def State.seized (s : State) : Bool :=
  match s.crier.event with
  | none => false
  | some e => !e.over s.now

/-- The base may transmit: role, mode, radio on, manager heard. -/
def State.baseSends (s : State) : Bool :=
  s.isBase && (decide (s.mode.current = .base) || decide (s.mode.current = .halt)) && s.radio.on && !s.radio.beaconStopped && !s.seized

/-- The base beacons (R372, R392). -/
def State.beaconing (s : State) : Bool := s.baseSends && s.clk.valid && !s.crier.withdrawn

/-- TTL and FLOOD of a frame to a slot (R352). -/
def State.slotTtl (s : State) (n : Nat) : Nat × Bool :=
  let h := s.regNAt Obj.slotHops n
  if n < 128 ∧ h ≠ 0 then (h + 1, true) else (1, false)

/-- A record of R337 as a body: type byte, length byte, data. -/
def recordBody (r : AirRecord) : List Byte :=
  leBytes 1 r.code ++ (if r.data.length ≤ 255 then leBytes 1 r.data.length else [Config.longLength r.data.length]) ++ r.data

/-- Bytes cut into pieces; fuel bounds the cut. -/
def pieces (n : Nat) (b : List Byte) : List (List Byte) := if b.isEmpty then [[]] else chunks n b.length b

/-- The frames of one record in fragments (R325), each with its FSEQ. -/
def State.fragments (s : State) (type dst ttl : Nat) (flood : Bool) (limit : Nat) (b : List Byte) : List AirFrame × State :=
  let l := pieces limit b
  let n := l.length
  let s' := s.updRadio (fun r => { r with fseq := (r.fseq + n) % 65536 })
  ((l.zip (List.range n)).map (fun x =>
    { type := type, ttl := ttl, flood := flood, src := s.ownAddress, dst := dst, net := s.netIndex, first := decide (x.2 = 0),
      last := decide (x.2 + 1 = n), fseq := (s.radio.fseq + x.2) % 65536, body := x.1, mic := [0, 0, 0, 0] }), s')

/-- The key that protects a frame of a type to a destination (R323). -/
def State.sendKey (s : State) (f : AirFrame) : Option (List Byte) :=
  if f.type = 6 ∨ f.type = 7 then none
  else if f.type = 0 ∨ f.type = 1 ∨ f.type = 9 ∨ f.type = 0xA ∨ (f.type = 2 ∧ f.dst = 0xFF) then s.radio.groupKey
  else if s.mode.role = some .base then (if (s.slot f.dst).key.isEmpty then none else some (s.slot f.dst).key)
  else s.radio.sessionKey

/-- The part of the window that is left, µs. -/
def State.windowLeft (s : State) : Nat := (s.bootReg Obj.downlinkWindow).toNat - s.radio.windowUs

/-- The PHY mode of a downlink frame: a release goes at StopPhy (R362). -/
def State.framePhy (s : State) (f : AirFrame) : Nat := if f.type = 0xB then s.stopPhy else s.downPhy

/-- A frame's air time in the downlink. -/
def State.downUs (s : State) (f : AirFrame) : Nat := airUs (s.framePhy f) f.bytes.length

/-- What waits for a slot, oldest first of each kind: a terminate, a release, a tunnel request, a record; as the frames of
its next item and the state without it. A halted base sends no release (R373). -/
def State.slotItem (s : State) (n : Nat) : Option (List AirFrame × State) :=
  let (ttl, flood) := s.slotTtl n
  if s.radio.terminates.contains n then
    let (f, s) := s.newFrame 8 n ttl flood []
    some ([f], s.endSlot n)
  else if (s.slot n).releases ≠ 0 ∧ s.mode.current ≠ .halt ∧ s.radio.released.contains n = false then
    let body := leBytes 4 (s.regN Obj.lastStopId) ++ leInt 8 s.radio.releaseTime ++ List.replicate 13 0
    let (f, s) := s.newFrame 0xB n ttl flood body
    let s := s.setSlot n { s.slot n with releases := (s.slot n).releases - 1 }
    some ([f], s.updRadio (fun r => { r with released := r.released ++ [n] }))
  else match s.radio.tunnels.find? (fun x => decide (x.1 = n)) with
    | some x =>
      let (f, s) := s.newFrame 0xC n ttl flood x.2
      some ([f], s.updRadio (fun r => { r with tunnels := r.tunnels.erase x }))
    | none => match s.radio.down.find? (fun x => decide (x.1 = n)) with
      | some x =>
        let (l, s) := s.fragments 3 n ttl flood 240 (recordBody x.2)
        some (l, s.updRadio (fun r => { r with down := r.down.erase x }))
      | none => none

/-- The slots for which something waits, in slot order. -/
def State.waitingSlots (s : State) : List Nat :=
  (List.range 160).filter (fun n => s.slotLive n && (s.slotItem n).isSome)

/-- The slots whose next frame still fits in what is left of a window, in order (R327). -/
def State.pendFor (s : State) : List Nat → Nat → List Nat
  | [], _ => []
  | n :: t, left =>
    match s.slotItem n with
    | some (f :: _, _) => if s.downUs f ≤ left then n :: State.pendFor s t (left - s.downUs f) else State.pendFor s t left
    | _ => State.pendFor s t left

/-- The end of the beacon and of the relay copies in the window, µs. -/
def State.beaconEnd (s : State) : Nat := if 1 < s.regN Obj.beaconTtl then 3000 * (s.regN Obj.beaconTtl - 1) + 2900 else s.beaconUs

/-- A mask of slots as the 16 bytes of PEND. -/
def pendBytes (l : List Nat) : List Byte := leBytes 16 (l.foldl (fun m n => if n < 128 then m ||| 2 ^ n else m) 0)

/-- One acknowledgement entry: ACC, PAINT, EVT (R326). With nothing accepted or painted yet the entry stands one before the
next expected SEQ (log 29). -/
def State.ackEntry (s : State) (n : Nat) : List Byte :=
  let m := s.machineOf n
  let before := ((Tab.get none s.cover.expected m).getD 0 + 65535) % 65536
  let acc := (Tab.get none s.cover.acc m).getD before
  let paint := (Tab.get none s.cover.painted m).getD before
  leBytes 2 acc ++ leBytes 2 paint ++ leBytes 1 ((s.slot n).evt % 128 + flag (s.slotLive n) 7)

/-- The interval that contains the next announced step, and its D (R397). -/
def State.stepInterval (s : State) : Option (Nat × Int) := s.clk.pending.map (fun p => ((p.at_ / s.biNs).toNat, p.parts.headD 0))

/-- STEP and STEP_CD of the beacon of an interval: the last two that start before S (R397). -/
def State.beaconStep (s : State) (k : Nat) : Int × Nat :=
  match s.stepInterval with
  | none => (0, 0)
  | some (n, d) => if k + 1 = n then (d, 1) else if k + 2 = n then (d, 2) else (0, 0)

/-- The body of the beacon of interval k (R326). -/
def State.beaconBody (s : State) (k : Nat) (pend : List Nat) : List Byte :=
  let (step, cd) := s.beaconStep k
  let flags := flag (decide (s.mode.current = .halt)) 0 + flag (decide (s.clk.state = .holdover)) 1 +
    flag (decide (s.reg Obj.admissionOpen = 1)) 2 + flag s.cover.restoring 3 + flag s.radio.budgetLow 4 + flag (decide (cd ≠ 0)) 5
  leBytes 2 (s.bootReg Obj.fleetId).toNat ++ leBytes 1 (s.ownIndex + flag s.isManager 4) ++ leBytes 1 flags ++ leInt 8 (k * s.biNs) ++
    leInt 4 step ++ leBytes 1 cd ++ leBytes 1 s.radio.mapSel ++ leBytes 8 (s.channelMap s.radio.mapSel) ++ pendBytes pend ++
    leBytes 1 s.radio.ackFirst ++ (List.range 16).flatMap (fun i => s.ackEntry (s.radio.ackFirst + i))

/-- Queues a record for a slot unless one of that code waits already. -/
def State.queueOnce (s : State) (n : Nat) (r : AirRecord) : State :=
  if s.radio.down.any (fun x => decide (x.1 = n) && decide (x.2.code = r.code)) then s
  else s.updRadio (fun x => { x with down := x.down ++ [(n, r)] })

/-- The activation record that a machine still needs in each window: the offer until it answers, the commit until it
answers 0x05, the cancel until T (R579, R581). -/
def State.activationRecord (a : Activation) (answer : Option Nat) : Option AirRecord :=
  match a.cancelled with
  | some r => some { code := 0x88, data := leBytes 4 a.id ++ leBytes 1 r }
  | none =>
    if a.committed then
      (if answer = some 5 then none else some { code := 0x87, data := leBytes 4 a.id ++ leInt 8 a.time })
    else if answer.isSome then none
    else some { code := 0x86, data := leBytes 4 a.id ++ leInt 8 a.time ++ leBytes 4 a.version ++ a.digest }

/-- Every connected machine gets its activation record. -/
def State.queueActivation (s : State) : State :=
  match s.gate.activation with
  | none => s
  | some a =>
    if !a.fleet then s
    else s.connectedSlots.foldl (fun s n =>
      match State.activationRecord a (Tab.get none a.answers n) with
      | none => s
      | some r => s.queueOnce n r) s

/-- A frame of the base goes out on transceiver A in the downlink, protected under its key. -/
def State.sendDown (s : State) (f : AirFrame) : State × Bool :=
  s.sendFrame false 0 (s.framePhy f) 0 ((s.protect (s.sendKey f) f).bytes)

/-- The beacon of this interval (R326): sent once, on transceiver A at the interval start, unless the budget cannot hold it; no
beacon goes in the interval of a step instant (R397). It opens the downlink window. -/
def State.beaconTx (s : State) : State :=
  let k := s.intervalFull
  if !s.beaconing || decide (s.radio.windowAt = k) || decide (s.stepInterval.map (·.1) = some k) then s
  else
    let s := s.judgeBudget.queueActivation
    let s := s.updRadio (fun r => { r with windowAt := k, windowUs := s.beaconEnd, released := [], pend := [] })
    let fixed := (s.radio.corrections.map s.downUs).foldl (· + ·) 0
    let pend := if s.radio.budgetLow then [] else s.pendFor s.waitingSlots (s.windowLeft - fixed)
    let (f, s) := s.newFrame 0 0xFF 1 false (s.beaconBody k pend)
    let (s, went) := s.sendDown f
    if !went then s
    else s.updRadio (fun r => { r with pend := pend, mapSel := (r.mapSel + 1) % 3, ackFirst := (r.ackFirst + 16) % 128 })

/-- The next frames of the window in the order of R327: a record begun, correction fragments, grants, the slots marked in
PEND, tiles. In DSSS there are no corrections and no tiles (R320). -/
def State.nextDown (s : State) : Option (List AirFrame × State) :=
  match s.radio.window with
  | f :: t => some (f :: t, s.updRadio (fun r => { r with window := [] }))
  | [] =>
    match s.radio.corrections with
    | f :: t => some ([f], s.updRadio (fun r => { r with corrections := t }))
    | [] =>
      match s.radio.grants with
      | g :: t =>
        let (f, s) := s.newFrame 7 0xFE 1 false g
        some ([f], s.updRadio (fun r => { r with grants := t }))
      | [] =>
        match s.radio.pend.find? (fun n => s.slotLive n && (s.slotItem n).isSome) with
        | some n => s.slotItem n
        | none =>
          match s.cover.sent with
          | (dst, b) :: t =>
            if s.downPhy = 3 then none
            else
              let (ttl, flood) := s.slotTtl dst
              let (l, s) := s.fragments 2 dst ttl flood 240 b
              some (l, s.updCover (fun c => { c with sent := t }))
          | [] => none

/-- One frame of the downlink window (R327): the next one in order, where it ends inside the window and the budget holds it;
else it waits. With BUDGET_LOW only beacons go (R346). -/
def State.downlinkFrameTx (s : State) : State :=
  if !s.baseSends ∨ s.radio.windowAt ≠ s.intervalFull then s
  else
    let s := s.judgeBudget
    if s.radio.budgetLow then s
    else match s.nextDown with
      | some (f :: rest, s') =>
        if s.windowLeft < s.downUs f then s
        else
          let (sent, went) := s.sendDown f
          if !went then sent
          else
            let b := sent.radio
            let us := s.downUs f
            { s' with dict := sent.dict, radio := { s'.radio with uses := b.uses, txA := b.txA, powerA := b.powerA, sentA := b.sentA, window := rest, windowUs := s.radio.windowUs + us } }
      | _ => s

/-! ### The correction stream (R338) -/

/-- The constellation code of a SignalId. -/
def constellationOf (signal : Nat) : Nat :=
  if signal ≤ 6 then 0 else if signal ≤ 14 then 1 else if signal ≤ 21 then 2 else if signal ≤ 28 then 3 else 4

/-- LOCK: 0 after a reset since the last epoch, and while the phase is half-cycle ambiguous (R159); else the largest n with lock time at
least 2^n ms. -/
def ObsEntry.lockCode (o : ObsEntry) : Nat := if o.broken || o.halfUnresolved then 0 else Nat.log2 (max 1 o.lockMs)

/-- The blocks of one satellite. -/
def satelliteBlock (key : Nat × Nat) (l : List ObsEntry) : List Byte :=
  let rough := Config.roughRange (l.map (·.pr))
  leBytes 1 (key.1 + l.length * 8) ++ leBytes 1 key.2 ++ leInt 1 (if key.1 = 4 then Config.glonassChannel key.2 else 0) ++ [0] ++ leBytes 4 rough ++
    l.flatMap (fun o =>
      leBytes 1 o.signal ++ leBytes 1 o.lockCode ++ leInt 3 (Config.finePr o.signal o.pr rough) ++
        leInt 3 (Config.finePhase o.signal o.phase rough) ++ leInt 1 (clampInt 0 255 (o.cn0 / 25)))

/-- Observables by satellite. -/
def satellitesOf (l : List ObsEntry) : List ((Nat × Nat) × List ObsEntry) :=
  let key : ObsEntry → Nat × Nat := fun o => (constellationOf o.signal, o.svid)
  l.foldl (fun acc o =>
    if acc.any (fun x => decide (x.1 = key o)) then acc.map (fun x => if x.1 = key o then (x.1, x.2 ++ [o]) else x) else acc ++ [(key o, [o])]) []

/-- The correction stream of the newest epoch, where that is a whole second, goes into fragments of 240 B (R338): the components of ANT_A;
none while the reference is in doubt, in DSSS, or at a worker that has lost its manager (R164, R310, R320). -/
def State.correctionEpoch (s : State) (e : Int) : State :=
  if !s.correctionsAllowed ∨ e % 1000000000 ≠ 0 ∨ s.downPhy = 3 ∨ s.fleet.managerLost = true then s
  else
    let moved := decide (s.radio.station.isSome ∧ s.radio.station ≠ some s.baseEcef)
    let s := s.updRadio (fun r => { r with station := some s.baseEcef, issue := if moved then (r.issue + 1) % 65536 else r.issue })
    let block := moved || decide (e % 10000000000 = 0)
    let sats := satellitesOf s.baseEntries
    let head := leInt 8 e ++ leBytes 1 sats.length ++ leBytes 1 (1 + 2 + flag (decide (s.clk.state = .holdover)) 2 + flag block 3) ++
      leBytes 2 s.radio.issue ++ leInt 4 s.obs.residual
    let station := if block then leInt 8 s.baseEcef.1 ++ leInt 8 s.baseEcef.2.1 ++ leInt 8 s.baseEcef.2.2 else []
    let (f, s) := s.fragments 1 0xFF 1 false 240 (head ++ station ++ sats.flatMap (fun x => satelliteBlock x.1 x.2))
    s.updRadio (fun r => { r with corrections := r.corrections ++ f })

/-- An observable epoch with the correction stream that follows it, once each epoch. -/
def State.takeEpoch (s : State) (residual : Int) : State :=
  let e := s.epochNow
  if s.obs.epoch = some e then s
  else
    let s := s.observableEpoch residual
    if s.obs.epoch = some e then s.correctionEpoch e else s

/-! ### Uplink reception (R335, R342) -/

/-- The event counter of the connection interval of now (R329). -/
def State.eventCounter (s : State) : Nat := (s.netTime / (s.bootReg Obj.connectionInterval * 1000000) % 65536).toNat

/-- The newest edge of a machine's run: of its segments that wait for painting or for the manager, else of the open run. -/
def State.runEdge (s : State) (machine run : Nat) : Option (Pt × Pt) :=
  let log := (s.cover.log.filter (fun g => decide (g.machine = machine ∧ g.seg.run = run) && decide (0 < signedDiff 32 g.mseq (s.regN Obj.mapSeqPainted)))).map (·.seg)
  let fwd := s.cover.forwarded.filter (fun g => decide (g.slot = machine % 128 ∧ g.run = run))
  match (log ++ fwd).getLast? with
  | some g => some (g.left, g.right)
  | none => (openRun s.cover.runs machine run).map (fun r => (r.left, r.right))

/-- The map of a machine's run. -/
def State.runMap (s : State) (machine : Nat) : Nat := match s.taskOfHolder machine with
  | some t => t.field
  | none => match (s.cover.log.filter (fun g => decide (g.machine = machine))).getLast? with
    | some g => g.seg.map
    | none => 0

/-- The milliseconds of a moment whose low 16 bits are T, at or before now (R335). -/
def State.reportMs (s : State) (t : Nat) : Int :=
  let ms := s.time64 / 1000000
  ms - (ms - t) % 65536

/-- The 32-byte record of R266 from the compact form (R335). -/
def State.compactSegment (s : State) (slot : Nat) (b : List Byte) : Option (List Byte) :=
  let f1 := fieldU b 0 1
  let run := fieldU b 21 2
  let m := s.machineOf slot
  (s.runEdge m run).map (fun e =>
    Segment.bytes
      { slot := slot, product := bits (fieldU b 1 1) 0 2, runStart := false, runEnd := bit f1 2, seq := fieldU b 19 2, run := run, map := s.runMap m,
        left := { e := e.1.e + fieldI b 23 2, n := e.1.n + fieldI b 25 2 }, right := { e := e.2.e + fieldI b 27 2, n := e.2.n + fieldI b 29 2 },
        tEnd := ((s.reportMs (fieldU b 2 2) - fieldU b 31 1) % 2 ^ 32).toNat })

/-- A record that arrives with a report or on its own goes to its block (R337). -/
def State.uplinkRecord (s : State) (machine : Nat) (code : Nat) (d : List Byte) : State :=
  match code with
  | 1 => s.segmentRx machine d
  | 2 => s.claimRx machine d
  | 3 => s.tileRequestRx (machine % 128) d
  | 4 => s.trackDoneRx machine (fieldU d 0 2)
  | 5 => s.taskReleaseRx machine (fieldU d 0 4)
  | 6 => s.noteAnswer (machine % 128) d
  | _ => s

/-- The report of a machine (R335, R305). -/
def parseReport (s : State) (b : List Byte) : Option Report :=
  if fieldU b 4 4 = 0x80000000 then none
  else some { pos := { e := fieldI b 4 4, n := fieldI b 8 4 }, velE := fieldI b 12 2, velN := fieldI b 14 2, heading := fieldU b 16 2,
              hSigma := 4 * fieldU b 18 1, time := s.reportMs (fieldU b 2 2) * 1000000 }

/-- An accepted report renews the lease of its machine: at the manager, or by a worker's next heartbeat (R300). -/
def State.reportHeard (s : State) (n : Nat) : State :=
  if s.isWorker then s.updFleet (fun f => { f with reports := if f.reports.contains n then f.reports else f.reports ++ [n] })
  else s.renewLease (s.machineOf n)

/-- A valid frame of a slot: heard, its event, its power, its hops (R333, R352, R353). How the base learns the hop count of a
flooded report the spec does not state: open, 1 to 6 (log 30). -/
def State.noteSlot (s : State) (n : Nat) (flood : Bool) (rssi : Int) : State :=
  let s := s.setSlot n { s.slot n with heard := s.now, evt := s.eventCounter }
  let s := s.setRegAt Obj.slotRssi n rssi
  if !flood then s.setRegAt Obj.slotHops n 0
  else
    let (v, s) := s.drawBits 8
    s.setRegAt Obj.slotHops n (1 + v.toNat % 6 : Nat)

/-- The start of a slot's position in its connection interval, ns (R328). -/
def State.positionNs (s : State) (n : Nat) : Int :=
  let bi := (s.bootReg Obj.beaconInterval).toNat * 1000
  let w := (s.bootReg Obj.downlinkWindow).toNat
  let per := max 1 ((bi - w) / 2500)
  ((n / 2 / per * bi + w + n / 2 % per * 2500 : Nat) : Int) * 1000

/-- The connection interval, ns. -/
def State.ciNs (s : State) : Int := s.bootReg Obj.connectionInterval * 1000000

/-- The error of a slot's sync word from its nominal instant, position start + 250 µs, preamble and sync word, ns (R328, R340). -/
def State.slotError (s : State) (n tick : Nat) : Int :=
  centred (s.netTimeAt tick - (s.positionNs n + 250000 + syncNs s.upPhy)) (max 1 s.ciNs)

/-- A report in a position lies in the window of its slot; a flooded copy comes in contention time (R341, R342, R352). -/
def State.slotWindow (s : State) (f : AirFrame) (tick : Nat) : Bool :=
  f.flood || inGuard (s.slotError f.src tick) (s.windowNs (s.slot f.src).drift false tick)

/-- The base learns the clock of the slot's machine (R340). -/
def State.learnSlot (s : State) (f : AirFrame) (tick : Nat) : State :=
  if f.flood then s
  else
    let c := s.slot f.src
    let e := s.slotError f.src tick
    s.setSlot f.src { c with drift := c.drift.take tick (s.netTimeAt tick - e) (!inGuard e (c.drift.guardUs tick * 1000)) }

/-- The transceiver that receives a report: by event and slot (R335), a flooded copy on RF_B (R352). -/
def State.reportSide (s : State) (f : AirFrame) : ObjDesc :=
  if f.flood || decide ((s.eventCounter + f.src) % 2 = 1) then Obj.rfBRxAsym else Obj.rfARxAsym

/-- An uplink report reaches the base (R335), with the count at its sync word (R37); outside the slot's window it is not received. -/
def State.uplinkReportRx (s : State) (frame : List Byte) (tick : Nat) (rssi : Int) : State :=
  let tick := s.stampTick (s.reportSide (parseFrame frame)) tick
  if !s.isBase ∨ s.radio.on = false ∨ s.slotWindow (parseFrame frame) tick = false then s
  else
    let (s, f) := s.receive frame
    match f with
    | none => s
    | some f =>
      if f.type ≠ 4 ∨ s.slotLive f.src = false ∨ 128 ≤ f.src ∨ f.body.length < 32 then s
      else
        let b := f.body
        let n := f.src
        let m := s.machineOf n
        let f1 := fieldU b 0 1
        let s := ((s.learnSlot f tick).noteSlot n f.flood rssi).milestoneSample 10 (linearBin (-8192000) 327680 rssi)
        let halted := bit f1 3
        let s := s.setSlot n { s.slot n with halted := halted, releases := if halted then (s.slot n).releases else 0 }
        let s := match parseReport s b with
          | none => s
          | some r => s.updFleet (fun x => { x with machines := Tab.update FleetMachine.unknown x.machines n (fun y => { y with report := some r }) })
        let s := s.reportHeard n
        let s := if bit f1 0 then (match s.compactSegment n b with | none => s | some d => s.segmentRx m d) else s
        if bit f1 1 then
          (match recordData (fieldU b 32 1) (b.drop 32) with
           | none => s
           | some d => s.uplinkRecord m (fieldU b 32 1) d)
        else s

/-- A slot's uplink window closes without a reception: SlotMissed counts (R342). -/
def State.uplinkMissed (s : State) (n : Nat) : State :=
  if s.isBase && decide (n < 128) && decide ((s.slot n).state = .connected) then s.incrAt Obj.slotMissed n else s

/-! ### Admission at the base (R330, R331, R567) -/

/-- The session key of an admission (R567). -/
def sessionKeyOf (admission z : List Byte) (fleet : Nat) (dev : List Byte) (temp slot : Nat) : List Byte :=
  (Config.hmacSha256 admission (z ++ leBytes 2 fleet ++ dev ++ leBytes 4 temp ++ leBytes 1 slot)).take 16

/-- The slot a device gets: the one it holds, else the wanted one where FREE, else the lowest FREE of its kind (R331). -/
def State.slotForDevice (s : State) (dev : List Byte) (relay : Bool) (want : Nat) : Option Nat :=
  let all := if relay then (List.range 16).map (· + 0x90) else List.range 128
  let own := all.find? (fun n => decide ((s.slot n).state ≠ .free) && decide ((s.slot n).device = dev))
  let free := fun n => decide ((s.slot n).state = .free) && (decide (128 ≤ n) || decide (s.regAt Obj.slotEnable n = 1))
  match own with
  | some n => some n
  | none => if all.contains want ∧ free want = true then some want else all.find? free

/-- The wanted slot is held back for another device, or disabled (R331, R334). -/
def State.slotWithheld (s : State) (dev : List Byte) (want : Nat) : Bool :=
  decide (want < 128) && (decide (s.regAt Obj.slotEnable want = 0) || (decide ((s.slot want).state = .held) && decide ((s.slot want).device ≠ dev)))

/-- RESULT of an admission request and the slot (R330, R331, R304, R562). -/
def State.judgeAdmission (s : State) (b : List Byte) : Nat × Nat :=
  let dev := (b.drop 84).take 16
  let relay := decide (fieldU b 7 1 = 2)
  if s.reg Obj.admissionOpen ≠ 1 then (2, 0xFF)
  else if (s.keyOf 6).isNone || s.identityBad || !Config.p256OnCurve ((b.drop 20).take 64) then (4, 0xFF)
  else if !relay ∧ (b.drop 10).take 8 = List.replicate 8 0 then (3, 0xFF)
  else match s.slotForDevice dev relay (fieldU b 6 1) with
    | some n => if n < 128 ∧ s.regAt Obj.slotEnable n = 0 then (5, 0xFF) else (0, n)
    | none => if s.slotWithheld dev (fieldU b 6 1) then (5, 0xFF) else (1, 0xFF)

/-- A grant body (R330). -/
def grantBody (temp result slot event : Nat) (pub wrapped : List Byte) : List Byte :=
  leBytes 4 temp ++ leBytes 1 result ++ leBytes 1 slot ++ leBytes 2 event ++ pub ++ wrapped

/-- An admission request reaches the base: it is judged, a slot granted, the grant waits for a window within 1 s. -/
def State.admissionRequestRx (s : State) (frame : List Byte) : State :=
  if !s.baseSends then s
  else
    let (s, f) := s.receive frame
    match f with
    | none => s
    | some f =>
      let b := f.body
      if f.type ≠ 6 ∨ b.length ≠ 100 ∨ fieldU b 4 2 ≠ (s.bootReg Obj.fleetId).toNat then s
      else
        let temp := fieldU b 0 4
        let (result, n) := s.judgeAdmission b
        if result ≠ 0 then
          s.updRadio (fun r => { r with grants := r.grants ++ [grantBody temp result 0xFF 0 (List.replicate 64 0) (List.replicate 24 0)] })
        else
          let (priv, s) := s.drawBytes 32
          let dev := (b.drop 84).take 16
          let key := sessionKeyOf ((s.keyOf 6).getD []) (Config.ecdh priv ((b.drop 20).take 64)) (s.bootReg Obj.fleetId).toNat dev temp n
          -- which event is the first the base chooses, the spec does not say how (log 31)
          let (event, s) : Nat × State := let (v, s) := s.drawBits 16; (v.toNat, s)
          let s := s.setSlot n { state := .connected, device := dev, key := key, heard := s.now, evt := s.eventCounter, firstEvent := event,
                                 halted := false, releases := 0, relay := decide (128 ≤ n), drift := { Drift.unknown with rate := (s.slot n).drift.rate } }
          let s := s.updRadio (fun r => { r with accepted := r.accepted.erase n, terminates := r.terminates.filter (fun x => decide (x ≠ n)) })
          let s := if n < 128 then
              let s := s.updCover (fun c => { c with expected := Tab.put none c.expected (s.machineOf n) (some (fieldU b 8 2)) })
              let known : FleetMachine := { FleetMachine.unknown with envelope := (b.drop 10).take 8, caps := fieldU b 18 2 }
              s.updFleet (fun x => { x with machines := Tab.put FleetMachine.unknown x.machines n known })
            else s
          let wrapped := Config.aesWrap key (s.radio.groupKey.getD [])
          s.updRadio (fun r => { r with grants := r.grants ++ [grantBody temp 0 n event (Config.p256Public priv) wrapped] })

/-- The base draws a new group key; the Crier's key register follows it (R568, R566). -/
def State.drawGroupKey (s : State) : State :=
  let (k, s) := s.drawBytes 16
  s.updRadio (fun r => { r with groupKey := some k })

/-- Once in the interval whose k modulo 2^32 is 0 the base draws a new group key and ends every connection (R568). -/
def State.groupKeyRollover (s : State) : State :=
  if !(s.baseSends && decide (s.interval = 0)) || decide (s.radio.rolledAt = some s.intervalFull) then s
  else
    let live := (s.radio.slots.filter (fun e => decide (e.2.state = .connected))).map (·.1)
    let s := s.drawGroupKey.updRadio (fun r => { r with rolledAt := some s.intervalFull })
    live.foldl (fun s n => (s.setSlot n { s.slot n with state := .closing }).updRadio (fun r => { r with terminates := r.terminates ++ [n] })) s

end Sys2Proof.Machine
end

