-- ==== Sys2Proof/Machine/RadioRover.lean ====
section
/-!
DEFINITION. Machine/RadioRover.lean: the rover's and relay's side of the Adetre radio (R329 to R352): beacons,
admission, uplink reports, contention frames, downlink records, flooding.
-/
namespace Sys2Proof.Machine

/-- The device is a rover or relay with its radio on. -/
def State.farSide (s : State) : Bool := s.operating && (decide (s.mode.role = some .rover) || decide (s.mode.role = some .relay)) && s.radio.on

/-- The connection stands: CONNECTED, RESYNC or CLOSING. -/
def State.linked (s : State) : Bool := decide (s.radio.conn = .connected) || decide (s.radio.conn = .resync) || decide (s.radio.conn = .closing)

/-- A rover's connection ends: SCANNING, and a rover that is not connected holds no task (R332, R343). -/
def State.dropConnection (s : State) : State := if s.mode.role = some .rover then s.endConnection.unloadTask else s.endConnection

/-! ### Guard time (R341, R342) -/

/-- The guard time now, µs: 250 after a missed beacon. -/
def State.guardUs (s : State) : Nat := if s.radio.missed ≠ 0 then 250 else s.radio.drift.guardUs s.now

/-! ### Beacons (R324, R342, R343, R370, R398) -/

/-- Segments that the base has painted leave the pending list (R278). -/
def State.dropPainted (s : State) (paint : Nat) : State :=
  let gone := s.cache.pending.takeWhile (fun g => decide (0 ≤ signedDiff 16 paint g.seq))
  let s := s.updCache (fun c => { c with
    pending := c.pending.drop gone.length
    edges := gone.foldl (fun t g => Tab.put none t g.run (if g.runEnd then none else some ((g.left, g.right), if g.runStart then none else
      (Tab.get none t g.run).map (·.1)))) c.edges })
  (s.updRadio (fun r => { r with sendNext := r.sendNext - gone.length })).notePending

/-- Sends again from the first segment after ACC when the entry's event is at or after the one that carried it (R336). -/
def State.rewind (s : State) (acc evt : Nat) : State :=
  let done := (s.cache.pending.takeWhile (fun g => decide (0 ≤ signedDiff 16 acc g.seq))).length
  match s.cache.pending[done]? with
  | none => s
  | some g =>
    match s.radio.sentIn.find? (fun x => decide (x.1 = g.seq)) with
    | some x => if done < s.radio.sendNext ∧ 0 ≤ signedDiff 7 evt (x.2 % 128) then s.updRadio (fun r => { r with sendNext := done }) else s
    | none => s

/-- The own entry of a beacon's acknowledgement slice (R326, R332, R336). -/
def State.takeAck (s : State) (b : List Byte) : State :=
  let slot := s.regN Obj.assignedSlot
  let first := fieldU b 42 1
  if slot < first ∨ first + 16 ≤ slot then s
  else
    let off := 43 + 5 * (slot - first)
    let evt := fieldU b (off + 4) 1
    if !bit evt 7 then s.dropConnection
    else ((s.updRadio (fun r => { r with acked := some (fieldU b off 2) })).dropPainted (fieldU b (off + 2) 2)).rewind (fieldU b off 2) (evt % 128)

/-- The step that a beacon of interval k announces: its instant is the first whole second of the interval named (R397). -/
def State.announcedStep (s : State) (k : Nat) (b : List Byte) : Option PendingStep :=
  let cd := fieldU b 16 1
  if cd = 0 then none
  else
    let from_ : Int := (k + cd) * s.biNs
    some { at_ := -(-from_ / 1000000000) * 1000000000, parts := [fieldI b 12 4] }

/-- The nominal instant of a beacon's sync word by the base's clock: the interval start, 3.0 ms for each hop, preamble and sync word (R340,
R352). -/
def State.beaconNominal (s : State) (b : List Byte) : Int := fieldI b 4 8 + 3000000 * bits (fieldU b 2 1) 5 3 + syncNs s.downPhy

/-- The error of a beacon's sync word against the own model of the base's clock, on the grid of the beacon intervals, ns. -/
def State.beaconError (s : State) (b : List Byte) (tick : Nat) : Int := centred (s.netTimeAt tick - s.beaconNominal b) (max 1 s.biNs)

/-- A device that scans has no window; any other receives a sync word in the window of R341, or of a resync scan (R342). -/
def State.beaconWindow (s : State) (b : List Byte) (tick : Nat) : Bool :=
  decide (s.radio.conn = .scanning) || s.radio.model.isNone || inGuard (s.beaconError b tick) (s.windowNs s.radio.drift (decide (s.radio.missed ≠ 0)) tick)

/-- The event counter differs from the base's after a resync scan (R329): half a beacon interval after the interval start. -/
def State.counterWrong (s : State) (b : List Byte) (tick : Nat) : Bool :=
  let own := s.netTimeAt tick - (s.beaconNominal b - fieldI b 4 8) + s.biNs / 2
  let base := fieldI b 4 8 + s.biNs / 2
  decide (s.radio.conn = .resync) && decide (own / (s.bootReg Obj.connectionInterval * 1000000) ≠ base / (s.bootReg Obj.connectionInterval * 1000000))

/-- A beacon's fields taken by a rover or relay: clock model, maps, hops, counts, state (R332, R340, R342, R352). -/
def State.takeBeacon (s : State) (b : List Byte) (tick : Nat) : State :=
  let base := fieldU b 2 1
  let hops := bits base 5 3
  let time := fieldI b 4 8
  let wrong := s.counterWrong b tick
  let known := decide (s.radio.conn ≠ .scanning) && s.radio.model.isSome
  let outside := known && !inGuard (s.beaconError b tick) (s.radio.drift.guardUs tick * 1000)
  let d := s.radio.drift.take tick (s.beaconNominal b) outside
  let same := decide (s.radio.netBase = base % 16)
  let seen := if same then s.radio.beacons + 1 else 1
  let k := (time / s.biNs).toNat
  let ann := s.announcedStep k b
  let s := s.updRadio (fun r => { r with
    model := some (tick, if d.learned then (driftFit d.rx).2 else s.beaconNominal b, d.rate)
    netBase := base % 16
    beacons := seen
    missed := 0
    maps := Tab.put none r.maps (fieldU b 17 1) (some (fieldU b 18 8))
    hops := hops
    relayed := decide (hops ≠ 0)
    heard := s.now
    drift := d
    beaconBody := b
    conn := match r.conn with
      | .scanning => if 3 ≤ seen then .synced else .scanning
      | .resync => .connected
      | c => c })
  let s := s.setReg Obj.learnedDrift (if d.learned then d.rate else 0)
  let s := { s with clk := { s.clk with announced := match ann with | some x => some x | none => s.clk.announced }
                    crier := { s.crier with unhalted := if bit (fieldU b 3 1) 0 then s.crier.unhalted else some s.now } }
  if wrong then s.dropConnection
  else if s.linked && decide (s.mode.role = some .rover) then s.takeAck b else s

/-- The own event lies in the interval of now: the slot's position is in it (R328). -/
def State.eventHere (s : State) : Bool :=
  let bi := (s.bootReg Obj.beaconInterval).toNat
  let per := (bi * 1000 - (s.bootReg Obj.downlinkWindow).toNat) / 2500
  let m := (s.bootReg Obj.connectionInterval).toNat / max 1 bi
  let slot := s.regN Obj.assignedSlot
  decide (slot < 128) && decide (slot / 2 / max 1 per = s.intervalFull % max 1 m)

/-- A beacon is missed (R342): counted, its events counted, a resync scan follows. A device that is not connected goes back
to SCANNING at the third (R332). -/
def State.missBeacon (s : State) : State :=
  let s := s.incr Obj.missedBeacons
  let s := if s.linked && s.eventHere then s.incr Obj.missedEvents else s
  let n := s.radio.missed + 1
  let s := s.updRadio (fun r => { r with missed := n })
  match s.radio.conn with
  | .connected => (s.updRadio (fun r => { r with conn := .resync })).incr Obj.resyncScans
  | .resync | .closing => s.incr Obj.resyncScans
  | .synced | .admitting =>
    if 3 ≤ n then s.updRadio (fun r => { r with conn := .scanning, beacons := 0, missed := 0, retryDue := none }) else s.incr Obj.resyncScans
  | .scanning => s.updRadio (fun r => { r with beacons := 0 })
  | .idle => s

/-- The beacon window closes without a valid beacon. -/
def State.beaconMissed (s : State) : State := if s.farSide && decide (s.radio.conn ≠ .idle) then s.missBeacon else s

/-- A beacon reaches a rover or relay, with the count at its sync word (R37); outside the window that is open it is not received (R341).
One without a group key checks what R324 lists; one with a key checks the MIC. A rover that is not in HALT counts a halted beacon as
missed (R370). -/
def State.beaconRx (s : State) (frame : List Byte) (tick : Nat) (rssi : Int) : State :=
  let tick := s.stampTick Obj.rfARxAsym tick
  if !s.farSide ∨ s.radio.conn = .idle ∨ s.beaconWindow (parseFrame frame).body tick = false then s
  else
    let take := fun (s : State) (b : List Byte) =>
      let s := if s.mode.role = some .rover then s.milestoneSample 10 (linearBin (-8192000) 327680 rssi) else s
      if bit (fieldU b 3 1) 0 && decide (s.mode.role = some .rover) && decide (s.mode.current ≠ .halt) then s.missBeacon
      else s.takeBeacon b tick
    if s.radio.groupKey.isSome then
      let (s, f) := s.receive frame
      match f with
      | some f => if f.type = 0 ∧ f.body.length = 123 ∧ fieldU f.body 2 1 % 16 = s.radio.netBase then take s f.body else s
      | none => s
    else
      let f := parseFrame frame
      let index := s.regN Obj.joinBaseIndex
      let base := fieldU f.body 2 1 % 16
      if !hcsOk frame || !frameCrcOk frame then s.discardFrame
      else if f.type ≠ 0 ∨ f.body.length ≠ 123 ∨ fieldU f.body 0 2 ≠ s.regN Obj.joinFleetId ∨ (index ≠ 0xFF ∧ base ≠ index) then s
      else if s.radio.conn ≠ .scanning ∧ base ≠ s.radio.netBase then s
      else take s f.body

/-- At S a rover or relay applies the announced step to its model of the base's clock (R398). -/
def State.announcedStepApply (s : State) : State :=
  match s.clk.announced with
  | none => s
  | some p =>
    if !s.farSide ∨ s.netTime < p.at_ then s
    else { s with clk := { s.clk with announced := none }
                  radio := { s.radio with model := s.radio.model.map (fun m => (m.1, m.2.1 + p.parts.headD 0, m.2.2)) } }

/-- Nothing valid is heard from the base for SupervisionTimeout (R332). -/
def State.supervisionTimeout (s : State) : State :=
  if s.farSide && s.linked && decide (s.radio.heard + ticksMs (s.regN Obj.supervisionTimeout) ≤ s.now) then s.dropConnection else s

/-- A relay's beacon copy with the next hop count, one for each beacon heard (R352). -/
def State.beaconCopyTx (s : State) : State :=
  let h := s.radio.hops + 1
  let b := s.radio.beaconBody
  if !(s.farSide && decide (s.mode.role = some .relay) && s.radio.groupKey.isSome) ∨ s.regN Obj.beaconTtl ≤ h ∨ s.radio.missed ≠ 0 ∨ b.length ≠ 123 then s
  else
    let body := b.take 2 ++ leBytes 1 (fieldU b 2 1 % 32 + h * 32) ++ b.drop 3
    let (f, s) := s.newFrame 0 0xFF 1 false body
    ((s.sendFrame false 0 s.downPhy 0 ((s.protect s.radio.groupKey f).bytes)).1).updRadio (fun r => { r with beaconBody := [] })

/-! ### Contention time and listen-before-talk (R328, R344) -/

/-- The pieces of contention time of a map in a beacon interval of the connection interval, as start and end in µs from the start of the
connection interval (R328, R352): the window after the beacon copies for downlink copies; on transceiver B's channel the downlink windows,
and positions 64 and above with the tail. -/
def State.contention (s : State) (map : Nat) : List (Nat × Nat) :=
  let bi := (s.bootReg Obj.beaconInterval).toNat * 1000
  let w := (s.bootReg Obj.downlinkWindow).toNat
  let ci := (s.bootReg Obj.connectionInterval).toNat * 1000
  let from_ := if map = 0 then s.beaconEnd else 0
  let windows := (List.range (ci / max 1 bi)).map (fun i => (i * bi + from_, i * bi + w))
  let late := (s.positionNs 128 / 1000).toNat
  if map = 0 then windows
  else windows ++ (List.range (ci / max 1 bi)).filterMap (fun i =>
    if late < (i + 1) * bi then some (max late (i * bi + w), (i + 1) * bi) else none)

/-- µs into the connection interval. -/
def State.intoCi (s : State) : Nat := (s.netTime % max 1 s.ciNs / 1000).toNat

/-- µs of contention time that are left now on a map. -/
def State.contentionLeft (s : State) (map : Nat) : Nat :=
  match (s.contention map).find? (fun x => decide (x.1 ≤ s.intoCi ∧ s.intoCi < x.2)) with
  | some x => x.2 - s.intoCi
  | none => 0

/-- The next contention time that leaves room for an assessment and a frame: µs until it, and the room that is left for the draw. -/
def State.contentionRoom (s : State) (map us : Nat) : Nat × Nat :=
  let ci := (s.ciNs / 1000).toNat
  let t := s.intoCi
  let need := us + 160
  let pieces := s.contention map ++ (s.contention map).map (fun x => (x.1 + ci, x.2 + ci))
  let fit := pieces.filterMap (fun x => let a := max t x.1; if a + need ≤ x.2 then some (a - t, x.2 - a - need) else none)
  fit.foldl (fun best x => if x.1 < best.1 then x else best) (fit.headD (0, 0))

/-- The instant of a frame's first assessment: uniform over the part of the next contention time that leaves room for it (R344). -/
def State.firstAssessment (s : State) (map us : Nat) : Nat × State :=
  let (wait, room) := s.contentionRoom map us
  let (v, s) := s.drawBits 32
  (s.now + ticksUs wait + v.toNat % (ticksUs room + 1), s)

/-- A frame joins those that wait for a clear channel: on transceiver B's channel, or as its copy was received. -/
def State.queueLbt (s : State) (f : AirFrame) (sealed_ sideB : Bool) (map phy : Nat) : State :=
  let (due, s) := s.firstAssessment map (s.regN Obj.paLeadTime + airUs phy f.bytes.length)
  s.updRadio (fun r => { r with lbt := r.lbt ++ [{ frame := f, sealed_ := sealed_, attempt := 1, due := due, sideB := sideB, map := map, phy := phy }] })

/-- TTL and FLOOD of a rover's frames: one that hears beacons only through copies floods them (R352). -/
def State.ownTtl (s : State) : Nat × Bool := if s.radio.relayed then (s.radio.hops + 1, true) else (1, false)

/-- Every segment closed before a waiting record has been sent (R336). -/
def State.segmentsBefore (s : State) (w : Waiting) : Bool :=
  (s.cache.pending.drop s.radio.sendNext).all (fun g => decide (signedDiff 16 w.mark g.seq ≤ 0))

/-- A record that goes as an uplink records frame: more than 32 bytes of data, or a small one that has waited one CI. -/
def State.goesAlone (s : State) (w : Waiting) : Bool :=
  decide (32 < w.item.data.length) || decide (w.since + ticksMs (s.bootReg Obj.connectionInterval).toNat ≤ s.now)

/-- Waiting records that may go now move to the frames that wait for a clear channel. -/
def State.loadContention (s : State) : State :=
  let go := s.radio.up.filter (fun w => decide (w.since ≤ s.now) && s.segmentsBefore w && s.goesAlone w)
  let (ttl, flood) := s.ownTtl
  go.foldl (fun s w =>
    let (l, s) := s.fragments 5 (0x80 + s.radio.netBase) ttl flood 240 (recordBody w.item)
    let s := s.updRadio (fun r => { r with up := r.up.erase w })
    l.foldl (fun s f => s.queueLbt f false true 2 s.upPhy) s) s

/-- An assessment of 160 µs ends with the power that it measured (R344): busy, the frame backs off by r × 160 µs, or is dropped after the
fifth; clear, it is sent where it ends inside the same contention time, and else assessed anew in the next. -/
def State.lbtAssessment (s : State) (power : Int) : State :=
  if !s.farSide ∨ s.seized = true then s
  else
    let s := if s.linked && decide (s.radio.conn ≠ .closing) then s.loadContention else s
    match s.radio.lbt with
    | [] => s
    | x :: t =>
      if s.now < x.due then s
      else if s.reg Obj.lbtThreshold ≤ power then
        if 5 ≤ x.attempt then (s.updRadio (fun r => { r with lbt := t })).incr Obj.lbtBusy
        else
          let (v, s) := s.drawBits (x.attempt + 2)
          s.updRadio (fun r => { r with lbt := { x with attempt := x.attempt + 1, due := s.now + ticksUs (160 * v.toNat) } :: t })
      else
        let f := if x.sealed_ then x.frame else s.protect (s.sendKey x.frame) x.frame
        let us := s.regN Obj.paLeadTime + airUs x.phy f.bytes.length
        if s.contentionLeft x.map < us then
          let (due, s) := s.firstAssessment x.map us
          s.updRadio (fun r => { r with lbt := { x with attempt := 1, due := due } :: t })
        else
          let (s', went) := s.sendFrame x.sideB x.map x.phy s.paLead f.bytes
          if !went then s'
          else
            let s' := s'.updRadio (fun r => { r with lbt := t })
            if x.sealed_ then s'.incr Obj.floodForwarded else s'

/-! ### Admission (R330, R567) -/

/-- The rover may ask for admission: identity good, fleet admission key held (R562), connection enabled. -/
def State.mayAsk (s : State) : Bool := !s.identityBad && (s.keyOf 6).isSome && decide (s.reg Obj.connectionEnable = 1)

/-- How many pending segments the newest acknowledgement covers. -/
def State.acceptedCount (s : State) : Nat :=
  match s.radio.acked with
  | none => 0
  | some a => (s.cache.pending.takeWhile (fun g => decide (signedDiff 16 g.seq a ≤ 0))).length

/-- The body of an admission request (R330). The next segment SEQ is that of the first segment that no acknowledgement has covered
(log 173). -/
def State.requestBody (s : State) (temp : Nat) (priv : List Byte) : List Byte :=
  let next := match s.cache.pending[s.acceptedCount]? with
    | some g => g.seq
    | none => s.regN Obj.nextSeq
  leBytes 4 temp ++ leBytes 2 (s.regN Obj.joinFleetId) ++ leBytes 1 s.radio.lastSlot ++
    leBytes 1 (if s.mode.role = some .relay then 2 else 1) ++ leBytes 2 next ++ s.oct Obj.envelope ++ leBytes 2 (s.regN Obj.capabilities) ++
    Config.p256Public priv ++ s.deviceId

/-- A request with fresh random values goes to the contention frames; its repeat is due after a random 1 s to 4 s. -/
def State.askAdmission (s : State) : State :=
  let (temp, s) := s.drawBits 32
  let (priv, s) := s.drawBytes 32
  let (wait, s) := s.drawBits 32
  let (ttl, flood) := s.ownTtl
  let (f, s) := s.newFrame 6 (0x80 + s.radio.netBase) ttl flood (s.requestBody temp.toNat priv)
  (s.updRadio (fun r => { r with conn := .admitting, tempId := temp.toNat, priv := priv,
                                 retryDue := some (s.now + ticksS 1 + wait.toNat % (ticksS 3 + 1)) })).queueLbt f false true 2 s.upPhy

/-- A synced rover or relay sends an admission request (R330). -/
def State.admissionRequestTx (s : State) : State :=
  if s.farSide && decide (s.radio.conn = .synced) && s.mayAsk then s.askAdmission else s

/-- An unanswered request is repeated (R330). -/
def State.admissionRetry (s : State) : State :=
  if s.farSide && decide (s.radio.conn = .admitting) && s.mayAsk && s.due s.radio.retryDue then s.askAdmission else s

/-- The grant (R330, R567): the session key is derived and the group key unwrapped; a failed unwrap counts as RESULT 0x04 and
the request is repeated. -/
def State.admissionGrantRx (s : State) (frame : List Byte) : State :=
  if !s.farSide ∨ s.radio.conn ≠ .admitting then s
  else
    let (s, f) := s.receive frame
    match f with
    | none => s
    | some f =>
      let b := f.body
      if f.type ≠ 7 ∨ b.length ≠ 96 ∨ fieldU b 0 4 ≠ s.radio.tempId then s
      else
        let result := fieldU b 4 1
        let s := s.setReg Obj.admissionResult result
        if result ≠ 0 then s
        else
          let slot := fieldU b 5 1
          let z := Config.ecdh s.radio.priv ((b.drop 8).take 64)
          let key := sessionKeyOf ((s.keyOf 6).getD []) z (s.regN Obj.joinFleetId) s.deviceId s.radio.tempId slot
          match Config.aesUnwrap key ((b.drop 72).take 24) with
          | none => s.setReg Obj.admissionResult 4
          | some g =>
            (s.updRadio (fun r => { r with conn := .connected, sessionKey := some key, groupKey := some g, retryDue := none, missed := 0,
                                           firstEvent := fieldU b 6 2, heard := s.now, accepted := [], sendNext := s.acceptedCount, sentIn := [], priv := [] })).setReg
              Obj.assignedSlot slot

/-! ### Closing (R332, R334) -/

/-- A terminate arrives: at a base it ends the slot, at a rover or relay the connection. -/
def State.terminateRx (s : State) (frame : List Byte) : State :=
  if !s.operating ∨ s.radio.on = false then s
  else
    let (s, f) := s.receive frame
    match f with
    | none => s
    | some f =>
      if f.type ≠ 8 then s
      else if s.mode.role = some .base then (if s.slotLive f.src then s.endSlot f.src else s)
      else if s.linked ∧ f.dst = s.regN Obj.assignedSlot then s.dropConnection else s

/-- ConnectionEnable 0x00 starts CLOSING; with no connection there is no terminate to send, and the radio is IDLE (R332). -/
def State.connectionDisable (s : State) (q : Sess) : State :=
  s.writeCommand q Obj.connectionEnable 0 (fun s =>
    let s := s.setReg Obj.connectionEnable 0
    .ok (s.updRadio (fun r => { r with
      retryDue := none
      conn := match r.conn with
        | .connected | .resync | .closing => .closing
        | _ => .idle })))

/-- ConnectionEnable 0x01 cancels a close whose terminate has not gone, its counters unchanged, or starts from SCANNING. -/
def State.connectionEnable (s : State) (q : Sess) : State :=
  s.writeCommand q Obj.connectionEnable 1 (fun s =>
    let s := s.setReg Obj.connectionEnable 1
    .ok (s.updRadio (fun r => { r with
      beacons := if r.conn = .idle then 0 else r.beacons
      conn := match r.conn with
        | .closing => if r.missed = 0 then .connected else .resync
        | .idle => if r.on then .scanning else .idle
        | c => c })))

/-! ### Uplink reports (R335, R336) -/

/-- The edge of a run before the pending segment at an index. -/
def State.edgeBefore (s : State) (i run : Nat) : Option (Pt × Pt) :=
  match ((s.cache.pending.take i).filter (fun g => decide (g.run = run))).getLast? with
  | some g => some (g.left, g.right)
  | none => (Tab.get none s.cache.edges run).map (·.1)

/-- A number fits in I16. -/
def fits16 (v : Int) : Bool := decide (-32768 ≤ v ∧ v ≤ 32767)

/-- The compact form of a segment against a pose time in ms: its 13 bytes, where it has one (R336). -/
def State.compactForm (s : State) (i : Nat) (g : Segment) (t : Nat) : Option (List Byte) :=
  match s.edgeBefore i g.run with
  | none => none
  | some (l, r) =>
    let back := (t + 65536 - g.tEnd % 65536) % 65536
    let d := [g.left.e - l.e, g.left.n - l.n, g.right.e - r.e, g.right.n - r.n]
    if g.runStart || !(d.all fits16) || decide (255 < back) then none
    else some (leBytes 2 g.seq ++ leBytes 2 g.run ++ d.flatMap (leInt 2) ++ leBytes 1 back)

/-- The oldest waiting record that needs a frame of its own: no segment that closed after it goes before it (R336). -/
def State.heldBack (s : State) (g : Segment) : Bool :=
  s.radio.up.any (fun w => decide (32 < w.item.data.length) && decide (w.since ≤ s.now) && decide (0 ≤ signedDiff 16 g.seq w.mark))

/-- The segment at an index of the pending window, if it may go. -/
def State.segmentAt (s : State) (i : Nat) : Option Segment :=
  match (s.cache.pending.take 2048)[i]? with
  | none => none
  | some g => if s.heldBack g then none else some g

/-- A value divided, to nearest. -/
def nearest (v d : Int) : Int := (v + d / 2) / d

/-- The pose part of a report: T to H_SIGMA (R335). Without a pose, or before the base position is known, EAST and NORTH are
0x8000_0000. -/
def State.reportPose (s : State) : List Byte :=
  match s.nav.pose with
  | none => leBytes 2 (s.time64 / 1000000 % 65536).toNat ++ leBytes 4 0x80000000 ++ leBytes 4 0x80000000 ++ List.replicate 7 0
  | some p =>
    let at_ := (p.est.lat, p.est.lon, p.est.height)
    let q : Pt := match s.radio.station with
      | none => { e := -2147483648, n := -2147483648 }
      | some o => basePoint o at_
    leBytes 2 (p.time / 1000000 % 65536).toNat ++ leInt 4 q.e ++ leInt 4 q.n ++ leInt 2 (clampInt (-32768) 32767 (nearest p.est.velE 10)) ++
      leInt 2 (clampInt (-32768) 32767 (nearest p.est.velN 10)) ++ leBytes 2 ((p.est.heading * 65536 + 180000000) / 360000000 % 65536) ++
      leBytes 1 (min 255 ((p.est.hSigma + 3) / 4))

/-- Any section is neither OFF nor FAULT (APPLYING). -/
def State.applying (s : State) : Bool :=
  s.busySections.any (fun i => match (s.sec i).state with | .off | .fault => false | _ => true)

/-- The next waiting record of at most 32 bytes that may share a report. -/
def State.smallRecord (s : State) (sent : Nat) : Option Waiting :=
  s.radio.up.find? (fun w => decide (w.item.data.length ≤ 32) && decide (w.since ≤ s.now) &&
    (s.cache.pending.drop (s.radio.sendNext + sent)).all (fun g => decide (signedDiff 16 w.mark g.seq ≤ 0)))

/-- A connected rover sends its report in its position, once in each event (R335): compact segment, second segment or record; a rover that is
CLOSING sends its terminate there instead (R334); one that missed the beacon transmits nothing (R342). -/
def State.uplinkReportTx (s : State) : State :=
  let slot := s.regN Obj.assignedSlot
  let e := s.eventCounter
  if !(s.farSide && decide (s.mode.role = some .rover) && s.linked && decide (slot < 128)) ∨ s.radio.missed ≠ 0 ∨ s.seized = true ∨
      signedDiff 16 e s.radio.firstEvent < 0 then s
  else
    let sideB := decide ((e + slot) % 2 = 1)
    let map := if sideB then 2 else 1
    let (ttl, flood) := s.ownTtl
    if s.radio.conn = .closing then
      let (f, s) := s.newFrame 8 (0x80 + s.radio.netBase) ttl flood []
      let (s, went) := s.sendFrame sideB map s.upPhy 0 ((s.protect s.radio.sessionKey f).bytes)
      if went then s.dropConnection.updRadio (fun r => { r with conn := .idle }) else s
    else
      let i := s.radio.sendNext
      let pose := s.reportPose
      let g1 := s.segmentAt i
      let compact := match g1 with
        | none => none
        | some g => (s.compactForm i g (fieldU pose 0 2)).map (fun d => (g, d))
      let full1 := match compact, g1 with
        | none, some g => some g
        | _, _ => none
      let second := if compact.isSome then s.segmentAt (i + 1) else full1
      let n := (if compact.isSome then 1 else 0) + (if second.isSome then 1 else 0)
      let small := if second.isSome then none else s.smallRecord n
      let record := match second, small with
        | some g, _ => recordBody { code := 1, data := g.bytes }
        | none, some w => recordBody w.item
        | none, none => []
      let runEnd := match compact with | some x => x.1.runEnd | none => false
      let product := match compact with | some x => x.1.product % 4 | none => 0
      let state := match s.nav.pose with | none => 0 | some p => p.state
      let hdg := match s.nav.pose with | none => false | some p => decide (p.hdgState ≠ 0)
      let f1 := flag compact.isSome 0 + flag (decide (record ≠ [])) 1 + flag runEnd 2 + flag (decide (s.mode.current = .halt)) 3 + state % 8 * 16
      let f2 := product + flag hdg 2 + flag s.applying 3 + flag (decide (i + n < s.cache.pending.length)) 4
      let body := leBytes 1 f1 ++ leBytes 1 f2 ++ pose ++ (match compact with | some x => x.2 | none => List.replicate 13 0) ++ record
      let (f, s) := s.newFrame 4 (0x80 + s.radio.netBase) ttl flood body
      let (s, went) := s.sendFrame sideB map s.upPhy 0 ((s.protect s.radio.sessionKey f).bytes)
      let s := s.updRadio (fun r => { r with budgetLow := !went && decide (s.region = 1), firstEvent := (e + 1) % 65536 })
      if !went then s
      else
        let sent := ((s.cache.pending.drop i).take n).map (fun g => (g.seq, e))
        (s.updRadio (fun r => { r with sendNext := i + n, up := match small with | some w => r.up.erase w | none => r.up
                                       sentIn := r.sentIn.filter (fun x => !(sent.map (·.1)).contains x.1) ++ sent })).loadContention

/-! ### Downlink records (R337, R299, R302, R308) -/

/-- A downlink record of a code at a rover, in one frame or in fragments. -/
def State.downRecord (s : State) (code : Nat) (frames : List (List Byte)) : State × Option (List Byte) :=
  if !(s.hasRole .rover && s.radio.on && s.linked) then (s, none)
  else
    let (s, r) := s.receiveRecord [3] frames
    match r with
    | none => (s, none)
    | some (f, body) =>
      if f.dst ≠ s.regN Obj.assignedSlot then (s, none)
      else ((s.updRadio (fun x => { x with heard := s.now })), recordData code body)

/-- An offer is claimed with count 0 where AutoAccept is set (R296). -/
def State.offerRx (s : State) (frames : List (List Byte)) : State :=
  let (s, d) := s.downRecord 0x81 frames
  match d with
  | none => s
  | some d =>
    if s.reg Obj.autoAccept = 1 then
      let c := leBytes 4 (fieldU d 0 4) ++ [0]
      (s.updFleet (fun f => { f with claim := c })).queueUp { code := 2, data := c }
    else s

/-- The result of a claim; a claim lost in transit is retried after 1 s (R299). -/
def State.claimResultRx (s : State) (frames : List (List Byte)) : State :=
  let (s, d) := s.downRecord 0x82 frames
  match d with
  | none => s
  | some d =>
    let s := s.setReg Obj.claimResult (fieldU d 4 1)
    if fieldU d 4 1 = 7 ∧ fieldU s.fleet.claim 0 4 = fieldU d 0 4 then
      s.updRadio (fun r => { r with up := r.up ++ [{ item := { code := 2, data := s.fleet.claim }, mark := s.regN Obj.nextSeq, since := s.now + ticksS 1 }] })
    else s

/-- The task of a complete load is in force on the rover (R299). -/
def State.startTask (s : State) (t : RoverTask) : State :=
  let same := match s.fleet.task with
    | none => false
    | some o => decide (o.field.id = t.field.id)
  let s := s.updFleet (fun f => { f with task := some t, loading := none })
  let s := if same then s else (s.updCache (fun c => { c with tiles := [], requested := [] })).noteCache
  let s := s.setReg Obj.taskCurrent t.id
  ((List.range 4).foldl (fun s p => s.setReg (productRateObj p) (t.rates.getD p 0)) s)

/-- A task load record begins a load; one for another task discards an incomplete one (R337). -/
def State.taskLoadRx (s : State) (frames : List (List Byte)) : State :=
  let (s, d) := s.downRecord 0x83 frames
  match d with
  | none => s
  | some d =>
    let t : RoverTask := { id := fieldU d 0 4, field := parseField (d.drop 21), rates := (List.range 4).map (fun k => fieldI d (4 + 4 * k) 4), tracks := [] }
    let n := fieldU d 20 1
    if n = 0 then s.startTask t else s.updFleet (fun f => { f with loading := some { task := t, wanted := n } })

/-- A task track record joins the load; the task is loaded once all its tracks have arrived (R337). -/
def State.taskTrackRx (s : State) (frames : List (List Byte)) : State :=
  let (s, d) := s.downRecord 0x89 frames
  match d, s.fleet.loading with
  | some d, some p =>
    if fieldU d 0 4 ≠ p.task.id then s
    else
      let n := fieldU d 4 2
      let track := { (parseTrack (d.drop 10)).1 with state := .reserved, progress := fieldU d 6 4 }
      let t := { p.task with tracks := p.task.tracks.filter (fun x => decide (x.1 ≠ n)) ++ [(n, track)] }
      if p.wanted ≤ t.tracks.length then s.startTask t else s.updFleet (fun f => { f with loading := some { p with task := t } })
  | _, _ => s

/-- REVOKED unloads the task (R302). -/
def State.revokedRx (s : State) (frames : List (List Byte)) : State :=
  let (s, d) := s.downRecord 0x84 frames
  match d, s.fleet.task with
  | some d, some t => if fieldU d 0 4 = t.id then s.unloadTask else s
  | _, _ => s

/-- A separation alert sets SeparationAlert (R308). -/
def State.separationAlertRx (s : State) (frames : List (List Byte)) : State :=
  let (s, d) := s.downRecord 0x85 frames
  match d with
  | none => s
  | some d => s.setReg Obj.separationAlert (fieldU d 0 2)

/-- A record of the correction stream is whole (R338): the station block, the issue, and the base half of its epoch. -/
def State.correctionFragmentRx (s : State) (frames : List (List Byte)) : State :=
  if !(s.hasRole .rover && s.radio.on && s.linked) then s
  else
    let (s, r) := s.receiveRecord [1] frames
    match r with
    | none => s
    | some (_, b) =>
      let block := bit (fieldU b 9 1) 3
      let s := s.updRadio (fun x => { x with issue := fieldU b 10 2, heard := s.now
                                             station := if block then some (fieldI b 16 8, fieldI b 24 8, fieldI b 32 8) else x.station })
      s.radioHalf (fieldI b 0 8) (fieldU b 8 1)

/-- The transfer records in a body: each is 20 bytes and its blocks (R276, R339); fuel bounds the cut. -/
def transferRecords : Nat → List Byte → List (List Byte)
  | 0, _ => []
  | f + 1, b =>
    if b.isEmpty then []
    else
      let n := 20 + fieldU b 14 2
      b.take n :: transferRecords f (b.drop n)

/-- Tile transfer frames reach a rover (R339). -/
def State.tileFramesRx (s : State) (frames : List (List Byte)) : State :=
  if !(s.hasRole .rover && s.radio.on && s.linked) then s
  else
    let (s, r) := s.receiveRecord [2] frames
    match r with
    | none => s
    | some (_, b) => (transferRecords b.length b).foldl (fun s x => s.tileTransferRx x) (s.updRadio (fun x => { x with heard := s.now }))

/-! ### Flooding (R350, R351) -/

/-- The key of a flooded frame: NET[3:0], SRC, FSEQ, TYPE. -/
def floodKey (f : AirFrame) : Nat := f.net + f.src * 16 + f.fseq * 4096 + f.type * 2 ^ 28

/-- The device forwards: a relay always, a rover by FloodForward. -/
def State.forwards (s : State) : Bool :=
  s.farSide && (decide (s.mode.role = some .relay) || decide (s.reg Obj.floodForward = 1))

/-- Keys older than 20 s leave the cache. -/
def State.expireSeen (s : State) : State :=
  let s := s.updRadio (fun r => { r with seen := r.seen.filter (fun x => decide (s.now < x.at_ + ticksS 20)) })
  s.setReg Obj.seenCacheUsed s.radio.seen.length

/-- A key reaches 20 s. -/
def State.seenCacheExpiry (s : State) : State := if s.farSide then s.expireSeen else s

/-- A flooded frame is heard by a forwarder: a key seen counts a copy heard and may cancel the scheduled copy; a new key
enters the cache, and with TTL 2 or more a copy is scheduled after a random delay. -/
def State.floodFrameRx (s : State) (frame : List Byte) : State :=
  let f := parseFrame frame
  if !s.forwards then s
  else if !hcsOk frame || !frameCrcOk frame then s.discardFrame
  else if !f.flood then s
  else
    let s := s.expireSeen
    let k := floodKey f
    if s.radio.seen.any (fun x => decide (x.key = k)) then
      let enough := s.radio.seen.any (fun x => decide (x.key = k) && decide (s.regN Obj.floodSuppress ≤ x.heard + 1))
      s.updRadio (fun r => { r with
        lbt := if enough then r.lbt.filter (fun x => !(x.sealed_ && decide (floodKey x.frame = k))) else r.lbt
        seen := r.seen.map (fun x => if x.key = k then { x with heard := x.heard + 1, copy := if enough then none else x.copy } else x) })
    else
      let (v, s) := s.drawBits 32
      let down := decide (0x80 ≤ f.src ∧ f.src ≤ 0x8F)
      let copy : Option FloodCopy :=
        if 2 ≤ f.ttl then
          some { frame := { f with ttl := f.ttl - 1 }, due := s.now + v.toNat % max 1 (ticksMs (s.regN Obj.floodDelayMax)), sideB := !down,
                 map := if down then 0 else 2, phy := if down then s.downPhy else s.upPhy }
        else none
      let full := decide (512 ≤ s.radio.seen.length)
      let s := s.updRadio (fun r => { r with seen := (if full then r.seen.drop 1 else r.seen) ++ [{ key := k, at_ := s.now, heard := 0, copy := copy }] })
      let s := if full then s.incr Obj.seenEvicted else s
      s.setReg Obj.seenCacheUsed s.radio.seen.length

/-- The delay of a scheduled copy is over: it goes under listen-before-talk. -/
def State.floodCopyTx (s : State) : State :=
  match s.radio.seen.find? (fun x => match x.copy with | none => false | some c => decide (c.due ≤ s.now)) with
  | none => s
  | some x =>
    match x.copy with
    | none => s
    | some c =>
      if !s.forwards then s
      else
        let s := s.updRadio (fun r => { r with seen := r.seen.map (fun y => if y.key = x.key then { y with copy := none } else y) })
        s.queueLbt c.frame true c.sideB c.map c.phy

/-! ### Status words -/

/-- RadioStatus (R353). -/
def State.radioStatus (s : State) : Nat :=
  flag (decide (s.reg Obj.configResult = 0)) 0 + flag s.radio.budgetLow 1 + flag s.radio.drift.learned 2 + flag s.radio.lostBase 3 +
    flag s.radio.relayed 4 + flag s.radio.paLimited 5

/-- The code of a connection state (R332). -/
def connCode : ConnState → Nat
  | .idle => 0 | .scanning => 1 | .synced => 2 | .admitting => 3 | .connected => 4 | .resync => 5 | .closing => 6

/-- The code of a slot state (R333). -/
def slotCode : SlotState → Nat
  | .free => 0 | .connected => 1 | .closing => 2 | .held => 3

/-! ### Records over the base link (R296) -/

/-- A worker relays a record of the manager to its machine on its downlink. -/
def State.workerRelayRx (s : State) (slot : Nat) (r : AirRecord) : State :=
  if s.isBase && s.isWorker && s.slotLive slot then s.updRadio (fun x => { x with down := x.down ++ [(slot, r)] }) else s

end Sys2Proof.Machine
end

