-- ==== Sys2Proof/Machine/TramOps.lean ====
section
/-!
DEFINITION. Machine/TramOps.lean: the profiles of the Tram (R453 to R475): trapezoids, ramps and chains in
integers of 10^-9 steps and nanoseconds (log 32), and the axes and groups as shared operations.
-/
namespace Sys2Proof.Machine

/-- Changes the Tram. -/
def State.updTram (s : State) (f : TramState → TramState) : State := { s with tram := f s.tram }

/-- An axis. -/
def State.axis (s : State) (n : Nat) : Axis := Tab.get Axis.initial s.tram.axes n

/-- Puts an axis. -/
def State.setAxis (s : State) (n : Nat) (a : Axis) : State := s.updTram (fun t => { t with axes := Tab.put Axis.initial t.axes n a })

/-- The group move of a group. -/
def State.groupMove (s : State) (n : Nat) : Option GroupMove := Tab.get none s.tram.groups n

/-- Puts a group move. -/
def State.setGroupMove (s : State) (n : Nat) (g : Option GroupMove) : State := s.updTram (fun t => { t with groups := Tab.put none t.groups n g })

/-- 10^9. -/
def giga : Int := 1000000000

/-! ### Profiles (R458, R459) -/

/-- The floor of a square root, from the highest bit down. -/
def isqrtFrom (x : Nat) : Nat → Nat → Nat
  | 0, r => r
  | k + 1, r =>
    let c := r + 2 ^ k
    isqrtFrom x k (if c * c ≤ x then c else r)

/-- The floor of the square root of a number below 2^128. -/
def isqrt (x : Nat) : Nat := isqrtFrom x 64 0

/-- Distance run in t ns from velocity v under acceleration a: 10^-9 steps. -/
def runDist (v a t : Int) : Int := v * t / giga + a * t * t / (2 * giga)

/-- The stopping distance v² / (2a) (R458), 10^-9 steps. -/
def stopDist (v a : Int) : Int := v * v / (2 * a * giga)

/-- One stretch at a constant acceleration that lasts at most t ns and not beyond the time u. -/
structure Stretch where
  d : Int
  v : Int
  left : Int
  deriving DecidableEq, Repr

/-- Runs a stretch: distance to go, velocity and time left afterwards. -/
def stretch (x : Stretch) (a u : Int) : Stretch :=
  let t := if x.left ≤ u then x.left else u
  { d := x.d - runDist x.v a t, v := x.v + a * t, left := x.left - t }

/-- A positive profile toward a target at distance d: brakes where the stopping distance asks for it, comes down to the
maximum, speeds up, or cruises; fuel bounds the stretches of one tick. Distances behind zero are handled by the caller. -/
def advance (vmax a : Int) : Nat → Stretch → Stretch
  | 0, x => x
  | f + 1, x =>
    if x.left ≤ 0 then x
    else if x.v < 0 then advance vmax a f (stretch x a (-(x.v / a)))
    else if x.v = 0 ∧ x.d ≤ 1000 then { x with d := 0, left := 0 }
    else if x.d ≤ stopDist x.v a then
      let y := stretch x (-a) (x.v / a + 1)
      let y := if y.v < 0 then { y with v := 0 } else y
      if y.v = 0 ∧ y.d.natAbs ≤ 1000000000 ∧ stopDist x.v a - x.d ≤ 1000000000 then { y with d := 0, left := 0 } else { y with left := if y.v = 0 then 0 else y.left }
    else if vmax < x.v then
      let u := (x.v - vmax + a - 1) / a
      let y := stretch x (-a) u
      advance vmax a f (if y.v < vmax then { y with v := vmax } else y)
    else
      let peak : Int := isqrt ((2 * a * giga * x.d + x.v * x.v) / 2).toNat
      if x.v < vmax then
        let u := (min vmax peak - x.v) / a
        if u ≤ 0 then
          let y := stretch x (-a) (x.v / a + 1)
          if y.v < 0 then { y with v := 0, left := 0 } else y
        else
          let y := stretch x a u
          let y := if vmax < y.v ∨ (y.left ≠ 0 ∧ vmax ≤ y.v + a) then { y with v := vmax } else y
          advance vmax a f y
      else
        let u := (x.d - stopDist x.v a) * giga / max 1 x.v
        if u ≤ 0 then
          let y := stretch x (-a) (x.v / a + 1)
          if y.v < 0 then { y with v := 0, left := 0 } else y
        else advance vmax a f (stretch x 0 u)

/-- The tick in ns. -/
def tickNs : Int := 50000

/-- One tick of a move to a target: position, velocity, and whether it is at rest on the target. -/
def moveTick (pos vel target vmax a : Int) : Int × Int × Bool :=
  let d := target - pos
  if 0 ≤ d then
    let y := advance vmax a 6 { d := d, v := vel, left := tickNs }
    (target - y.d, y.v, decide (y.d = 0 ∧ y.v = 0))
  else
    let y := advance vmax a 6 { d := -d, v := -vel, left := tickNs }
    (target + y.d, -y.v, decide (y.d = 0 ∧ y.v = 0))

/-- One tick of a ramp to a velocity (R459): position and velocity. -/
def rampTick (pos vel target a : Int) : Int × Int :=
  let dv := target - vel
  let t := min tickNs (dv.natAbs / a)
  let acc := if 0 ≤ dv then a else -a
  let v := if tickNs ≤ (dv.natAbs : Int) / a then vel + acc * tickNs else target
  (pos + runDist vel acc t + v * (tickNs - t) / giga, v)

/-! ### Chains (R463, R464) -/

/-- A segment table entry. -/
structure ChainEntry where
  dt : Nat
  pos : Int
  vel : Int
  next : Nat
  last : Bool
  deriving DecidableEq, Repr

/-- The entry of a number. -/
def State.chainEntry (s : State) (n : Nat) : ChainEntry :=
  let b := s.octAt Obj.segmentEntry n
  { dt := fieldU b 0 4, pos := fieldI b 4 4, vel := fieldI b 8 4, next := fieldU b 12 2, last := bit (fieldU b 14 2) 0 }

/-- The entries of a chain from a start, in order; none where one comes twice or no last one comes. -/
def State.chainFrom (s : State) : Nat → List Nat → Nat → Option (List Nat)
  | 0, _, _ => none
  | f + 1, seen, n =>
    if n ≥ 4096 ∨ seen.contains n = true then none
    else if (s.chainEntry n).last then some [n]
    else (State.chainFrom s f (n :: seen) (s.chainEntry n).next).map (fun r => n :: r)

/-- Hermite position after u ns of a segment of dt µs, from (p0, v0) to (p1, v1): steps and mstep/s to 10^-9 steps (R464). -/
def hermitePos (p0 v0 p1 v1 : Int) (dt : Nat) (u : Int) : Int :=
  let t : Int := dt * 1000
  let h := t * t * t
  (p0 * giga * (2 * u * u * u - 3 * u * u * t + h) + v0 * 1000000 * (u * u * u - 2 * u * u * t + u * t * t) * t / giga +
    p1 * giga * (-2 * u * u * u + 3 * u * u * t) + v1 * 1000000 * (u * u * u - u * u * t) * t / giga) / h

/-- The Hermite velocity stays within a maximum, in steps/s: at both ends and at its extremum. With velocities v0, v1 and
m = Δp / DT the velocity is a quadratic in the part of the segment; its extremum lies at B / (−2A). -/
def hermiteOk (p0 v0 p1 v1 : Int) (dt : Nat) (vmax : Nat) : Bool :=
  let m := (p1 - p0) * giga
  let d : Int := dt
  let lim : Int := vmax * 1000 * d
  let a := 3 * (v0 + v1) * d - 6 * m
  let b := 6 * m - (4 * v0 + 2 * v1) * d
  let c := v0 * d
  let inside := if 0 < a then decide (0 < -b ∧ -b < 2 * a) else decide (0 < b ∧ b < -(2 * a))
  decide ((v0.natAbs : Int) * d ≤ lim) && decide ((v1.natAbs : Int) * d ≤ lim) &&
    (decide (a = 0) || !inside || decide (((4 * a * c - b * b).natAbs : Int) ≤ 4 * (a.natAbs : Int) * lim))

/-- Each segment of a chain keeps to the maximum. -/
def State.chainVelOk (s : State) (vmax : Nat) : List Nat → Int → Int → Bool
  | [], _, _ => true
  | n :: t, p0, v0 =>
    let e := s.chainEntry n
    hermiteOk p0 v0 e.pos e.vel e.dt vmax && State.chainVelOk s vmax t e.pos e.vel

/-- The chain from an entry passes the check of R464 for an axis. -/
def State.chainOk (s : State) (n start : Nat) : Bool :=
  match s.chainFrom 4096 [] start with
  | none => false
  | some l =>
    let p := (s.axis n).count
    decide ((s.chainEntry (l.getLastD start)).vel = 0) && s.chainVelOk (s.regNAt Obj.maxVelocity n) l 0 0 &&
      l.all (fun k => decide (50 ≤ (s.chainEntry k).dt) && decide (s.regAt Obj.limitMin n ≤ p + (s.chainEntry k).pos ∧ p + (s.chainEntry k).pos ≤ s.regAt Obj.limitMax n))

/-- The final position of a chain. -/
def State.chainEnd (s : State) (origin : Int) (entry : Nat) : Int :=
  match s.chainFrom 4096 [] entry with
  | none => origin
  | some l => origin + (s.chainEntry (l.getLastD entry)).pos

/-- A chain that is interrupted goes on as a plain move to its end (R472). -/
def State.plainGoal (s : State) (g : Option AxisGoal) : Option AxisGoal :=
  match g with
  | some (.chain o e _ _ _) => some (.move (s.chainEnd o e))
  | g => g

/-! ### Axes -/

/-- The group of an axis by GroupMembers (R466). -/
def State.groupOfAxis (s : State) (n : Nat) : Option Nat := (List.range 8).find? (fun g => bit (s.regNAt Obj.groupMembers g) n)

/-- AxisPosition (R453): the step pulses emitted as far as now. It changes at each rising edge and at no other time. -/
def Axis.emitted (a : Axis) (now : Nat) : Int :=
  let later : Int := (a.pulses.filter (fun p => decide (now < p))).length
  if a.negative then a.count + later else a.count - later

/-- No further pulse starts: the position is that of the pulses emitted (R471, R474). -/
def State.cutPulses (s : State) (n : Nat) : State :=
  let a := s.axis n
  let c := a.emitted s.now
  if c = a.count then s else s.setAxis n { a with count := c, pos := c * giga, pulses := a.pulses.filter (fun p => decide (p ≤ s.now)) }

/-- Entry to HOLDUP: no further pulse on any axis (R474). -/
def State.tramCut (s : State) : State := (List.range 16).foldl (fun s n => s.cutPulses n) s

/-- The remaining distance of an axis, steps (R472). -/
def State.remaining (s : State) (n : Nat) : Int :=
  let a := s.axis n
  let at_ := a.emitted s.now
  match a.goal with
  | none => 0
  | some (.move t) => t - at_
  | some (.velocity _) => 0
  | some (.chain o e _ _ _) => s.chainEnd o e - at_
  | some .follow => a.backlog
  | some (.group g) => match s.groupMove g with
    | none => 0
    | some m => match m.members.find? (fun x => decide (x.1 = n)) with
      | none => 0
      | some x => x.2.1 + x.2.2 - at_

/-- Something is left to resume: a distance, a velocity target not run, a backlog. -/
def State.resumable (s : State) (n : Nat) : Bool :=
  match (s.axis n).goal with
  | none => false
  | some (.velocity v) => decide (v ≠ 0)
  | some _ => decide (s.remaining n ≠ 0)

/-- An axis that moves, or is stopping. -/
def Axis.runs (a : Axis) : Bool := decide (a.state = .moving) || decide (a.state = .stopping)

/-- At rest: DISABLED, IDLE, HELD, FAULT (R469). -/
def Axis.atRest (a : Axis) : Bool := decide (a.state = .disabled) || decide (a.state = .idle) || decide (a.state = .held) || decide (a.state = .fault)

/-- The enable output is high (R469). -/
def Axis.aen (a : Axis) : Bool := decide (a.state ≠ .disabled) && decide (a.state ≠ .fault)

/-- All 16 axes are at rest. -/
def State.axesAtRest (s : State) : Bool := (List.range 16).all (fun n => (s.axis n).atRest)

/-- A group move waits for its start time (R462). -/
def GroupMove.waits (m : GroupMove) : Bool := decide (m.start ≠ 0)

/-- An axis comes to a stop state with a deceleration; a chain becomes a plain move. -/
def State.stopAxis (s : State) (n decel : Nat) : State :=
  let a := s.axis n
  if a.state = .moving then s.setAxis n { a with state := .stopping, decel := decel, goal := s.plainGoal a.goal } else s

/-- A limit of a member scaled to the group's path: the smallest of limit × |Δ_L| / |Δ_i| (R467). -/
def pathLimit (m : GroupMove) (limit : Nat → Nat) : Nat :=
  (m.members.filter (fun x => decide (x.2.2 ≠ 0))).foldl (fun b x => min b (limit x.1 * m.length / x.2.2.natAbs)) (10 ^ 15)

/-- A group decelerates along its path; one that waits for its start is called off. -/
def State.stopGroup (s : State) (g decel : Nat) : State :=
  match s.groupMove g with
  | none => s
  | some m =>
    if m.waits then s.setGroupMove g none
    else if !m.running then s
    else m.members.foldl (fun s x => s.stopAxis x.1 decel) (s.setGroupMove g (some { m with stopping := some decel }))

/-- Entry to HALT: every moving axis and group stops along the soft-stop profile (R52, R473); a command that waits for its start time is
called off (log 178). -/
def State.tramHalt (s : State) : State :=
  let s := (List.range 8).foldl (fun s g => match s.groupMove g with
    | none => s
    | some m => s.stopGroup g (pathLimit m (fun n => s.regNAt Obj.softStopDecel n))) s
  (List.range 16).foldl (fun s n =>
    let s := s.stopAxis n (s.regNAt Obj.softStopDecel n)
    s.setAxis n { s.axis n with next := none }) s

/-- Release to ROVER: the next committed Boulevard command counts as new (R473). -/
def State.tramRelease (s : State) : State :=
  let s := { s with blv := { s.blv with axisCommands := [] } }
  (List.range 16).foldl (fun s n => s.setAxis n { s.axis n with taken := none, lastEdge := none }) s

/-- What a save holds of the axes (R94, item 5). -/
def State.tramSave (s : State) : List AxisSave :=
  (List.range 16).map (fun n => { axis := n, count := (s.axis n).emitted s.now, remaining := s.remaining n, backlog := (s.axis n).backlog })

/-- BOOT restores the axes, DISABLED, with POSITION_RESTORED, and POSITION_UNCERTAIN where the copy came from the journal
(R474). -/
def State.tramRestore (s : State) (l : List AxisSave) (journal : Bool) : State :=
  l.foldl (fun (s : State) (x : AxisSave) => s.setAxis x.axis { Axis.initial with
    pos := x.count * giga, count := x.count, backlog := x.backlog, restored := true, uncertain := journal,
    goal := if x.backlog ≠ 0 then some .follow else if x.remaining ≠ 0 then some (.move (x.count + x.remaining)) else none,
    acc := s.regNAt Obj.acceleration x.axis }) s

end Sys2Proof.Machine
end

