-- ==== Sys2Proof/Machine/Tram.lean ====
section
/-!
DEFINITION. Machine/Tram.lean: the commands of the Tram (R453 to R476): profile ticks, enable and disable, motion
commands, groups, faults, Follow inputs.
-/
namespace Sys2Proof.Machine

/-- The Tram runs: rover role (R453). -/
def State.tramOn (s : State) : Bool := s.hasRole .rover && decide (s.mode.current ≠ .service)

/-- HALT and SNAPSHOT refuse motion (R473). -/
def State.tramHeld (s : State) : Bool := decide (s.mode.current = .halt) || decide (s.mode.current = .snapshot)

/-! ### One profile tick (R453, R454, R458 to R461, R464, R467, R468, R475) -/

/-- The floor of a position in steps. -/
def stepsOf (pos : Int) : Int := pos / giga

/-- An axis after a tick: the pulses emitted are the change of the integer part of its position. -/
def Axis.moved (a : Axis) (pos vel : Int) : Axis :=
  { a with pos := pos, count := stepsOf pos, vel := vel, negative := if vel < 0 then true else if 0 < vel then false else a.negative }

/-- The step rate of an axis is limited to the lower of MaxVelocity and 100 MHz / (2 × StepWidth) (R454), steps/s. -/
def State.axisRate (s : State) (n : Nat) : Nat := min (s.regNAt Obj.maxVelocity n) (100000000 / (2 * max 1 (s.regNAt Obj.stepWidth n)))

/-- The maximum of an axis, 10^-9 steps/s. -/
def State.axisMax (s : State) (n : Nat) : Int := (s.axisRate n : Int) * giga

/-! #### Pulses (R453 to R455) -/

/-- The count of the CK_IO cycle nearest to the part num / den of a tick of 50 µs that starts at a count. -/
def pulseAt (start : Nat) (num den : Int) : Nat :=
  let d := max 1 den
  start + 20 * ((2 * 5000 * num + d) / (2 * d)).toNat

/-- The nominal pulses of a tick: where the line from one position to the next crosses each step boundary. -/
def crossings (old new : Axis) (start : Nat) : List Nat :=
  let up := decide (old.count ≤ new.count)
  (List.range (new.count - old.count).natAbs).map (fun (k : Nat) =>
    let i : Int := k
    if up then pulseAt start ((old.count + i + 1) * giga - old.pos) (new.pos - old.pos)
    else pulseAt start (old.pos - (old.count - i) * giga) (old.pos - new.pos))

/-- Rising edges kept at least gap apart, from an earliest count on. -/
def spread (gap : Nat) : Nat → List Nat → List Nat
  | _, [] => []
  | from_, t :: l => let t := max from_ t; t :: spread gap (t + gap) l

/-- The pulses of an axis in a tick that starts at a count: twice StepWidth apart at least; DIRn changes DirSetup after the last pulse has
fallen, and the first pulse comes DirSetup after that. -/
def State.placePulses (s : State) (n start : Nat) (old : Axis) : State :=
  let a := s.axis n
  let width := 20 * s.regNAt Obj.stepWidth n
  let setup := 200 * s.regNAt Obj.dirSetup n
  let dirAt := if a.negative != old.negative then max start (old.lastRise + width + setup) else a.dirAt
  let l := spread (2 * width) (max (old.lastRise + 2 * width) (dirAt + setup)) (crossings old a start)
  s.setAxis n { a with pulses := l, lastRise := l.getLastD a.lastRise, dirAt := dirAt }

/-- A new Acceleration judged at the tick (R475): taken at rest, in Velocity and Follow modes, or where it is at least d_req;
else kept back until the next move. -/
def State.judgeAcc (s : State) (n : Nat) : State :=
  let a := s.axis n
  if !a.accWritten then s
  else
    let new := s.regNAt Obj.acceleration n
    let plain := match a.goal with
      | some (.move t) => some (t * giga - a.pos)
      | _ => none
    match plain with
    | some r =>
      -- v² / (2r) against the new value, along the direction of motion
      let r := if a.vel < 0 then -r else r
      if a.state ≠ .moving ∨ a.vel = 0 ∨ (0 < r ∧ a.vel * a.vel ≤ 2 * r * new * giga) then
        s.setAxis n { a with acc := new, accWritten := false, deferred := false }
      else s.setAxis n { a with accWritten := false, deferred := true }
    | none => match a.goal with
      | some (.group _) => s
      | _ => s.setAxis n { a with acc := new, accWritten := false, deferred := false }

/-- The same of a group, along its path: the smallest limit of its members (R467, R475). -/
def State.judgeGroup (s : State) (m : GroupMove) : State × GroupMove :=
  if m.members.all (fun x => !(s.axis x.1).accWritten) then (s, m)
  else
    let new := pathLimit m (fun n => s.regNAt Obj.acceleration n)
    let r := m.length * giga - m.s
    let take := decide (m.v = 0) || (decide (0 < r) && decide (m.v * m.v ≤ 2 * r * new * giga))
    let s := m.members.foldl (fun s x =>
      let a := s.axis x.1
      if a.accWritten then s.setAxis x.1 { a with accWritten := false, deferred := !take } else s) s
    (s, if take then { m with acc := new } else m)

/-- A goal begins: the kept distance is discarded, a deferred Acceleration applies (R472, R475). -/
def State.begin (s : State) (n : Nat) (g : AxisGoal) : State :=
  let a := s.axis n
  s.setAxis n { a with goal := some g, state := .moving, next := none, acc := s.regNAt Obj.acceleration n, accWritten := false, deferred := false }

/-- A pending command whose start time has come begins (R462). -/
def State.startDue (s : State) (n : Nat) (t : Int) : State :=
  match (s.axis n).next with
  | some (g, at_) => if at_ ≤ t ∧ s.tramHeld = false then s.begin n g else s
  | none => s

/-- A Boulevard value as steps: value × StepsPerUnit, ties away from zero (R461). -/
def toSteps (value spu : Int) : Int :=
  let p := value * spu
  let q : Int := ((p.natAbs + 2 ^ 31) / 2 ^ 32 : Nat)
  if p < 0 then -q else q

/-- The newest committed Boulevard command of a Boulevard-sourced axis is taken (R461); a position beyond a limit is clamped
and LIMIT set (R460). -/
def State.takeBoulevard (s : State) (n : Nat) : State :=
  let a := s.axis n
  let c := Tab.get none s.blv.axisCommands n
  if s.regAt Obj.commandSource n ≠ 1 ∨ s.tramHeld = true ∨ c = a.taken then s
  else match c with
    | none => s
    | some (vel, v) =>
      let x := toSteps v (s.regAt Obj.stepsPerUnit n)
      let s := s.setAxis n { a with taken := c }
      if !(decide (a.state = .idle) || decide (a.state = .held) || decide (a.state = .moving)) then s
      else if vel && decide (s.regAt Obj.axisMode n = 2) then s.begin n (.velocity (x * 1000))
      else if !vel && decide (s.regAt Obj.axisMode n = 1) then
        let lo := s.regAt Obj.limitMin n
        let hi := s.regAt Obj.limitMax n
        let y := clampInt lo hi x
        let s := s.begin n (.move y)
        if y = x then s else s.setAxis n { s.axis n with limit := true }
      else s

/-- A velocity goal near a limit becomes a stop on the limit (R460). -/
def State.velocityTick (s : State) (n : Nat) (target : Int) : State :=
  let a := s.axis n
  let t := clampInt (-(s.axisMax n)) (s.axisMax n) (target * 1000000)
  let (pos, vel) := rampTick a.pos a.vel t a.acc
  let hi := s.regAt Obj.limitMax n * giga
  let lo := s.regAt Obj.limitMin n * giga
  if 0 < vel ∧ hi ≤ pos + stopDist vel a.acc then
    let (p, v, _) := moveTick a.pos a.vel hi (max a.vel (t.natAbs : Int)) a.acc
    s.setAxis n { a.moved p v with limit := a.limit || decide (v = 0) }
  else if vel < 0 ∧ pos - stopDist vel a.acc ≤ lo then
    let (p, v, _) := moveTick a.pos a.vel lo (max (-a.vel) (t.natAbs : Int)) a.acc
    s.setAxis n { a.moved p v with limit := a.limit || decide (v = 0) }
  else
    let a' := a.moved pos vel
    s.setAxis n (if vel = 0 ∧ target = 0 then { a' with state := .idle, goal := none } else a')

/-- The chain of an axis runs one tick; segments are whole multiples of 50 µs, so a tick lies in one segment (R463, R464). -/
def State.chainTick (s : State) (n : Nat) (origin : Int) (entry : Nat) (p0 v0 : Int) (ns : Nat) : State :=
  let a := s.axis n
  let e := s.chainEntry entry
  let u := ns + 50000
  let pos := origin * giga + hermitePos p0 v0 e.pos e.vel e.dt u
  if u < e.dt * 1000 then
    s.setAxis n { a.moved pos ((pos - a.pos) * 20000) with goal := some (.chain origin entry p0 v0 u) }
  else if e.last then
    s.setAxis n { a.moved ((origin + e.pos) * giga) 0 with goal := none, state := .idle }
  else
    s.setAxis n { a.moved ((origin + e.pos) * giga) (e.vel * 1000000) with goal := some (.chain origin e.next e.pos e.vel 0) }

/-- Follow output of one tick (R468): M / τ, raised where the backlog exceeds 2 M so that it empties within τ, at most
MaxVelocity. It rests on a limit. -/
def State.followTick (s : State) (n : Nat) : State :=
  let a := s.axis n
  if a.tau = 0 then s
  else
    let m := s.regNAt Obj.followMultiplier n
    let need : Int := if 2 * m < a.backlog.natAbs then a.backlog.natAbs else m
    -- τ is in ticks of 0.5 ns
    let rate := need * giga * 2 * giga / a.tau
    let vmax := s.axisMax n
    let tooFast := decide (vmax < rate)
    let v := if tooFast then vmax else rate
    let todo := (a.count + a.backlog) * giga - a.pos
    let dist := min (v * tickNs / giga) (todo.natAbs : Int)
    let pos := if todo < 0 then a.pos - dist else a.pos + dist
    let lo := s.regAt Obj.limitMin n * giga
    let hi := s.regAt Obj.limitMax n * giga
    -- it decelerates at Acceleration onto a limit (R460)
    let near := if todo < 0 then decide (a.pos - lo ≤ stopDist v a.acc) else decide (hi - a.pos ≤ stopDist v a.acc)
    let r := if todo < 0 then moveTick a.pos (min 0 a.vel) (min lo a.pos) v a.acc else moveTick a.pos (max 0 a.vel) (max hi a.pos) v a.acc
    let p := clampInt (min lo a.pos) (max hi a.pos) (if near then r.1 else pos)
    let a' := a.moved p (if p = a.pos then 0 else if near then r.2.1 else if todo < 0 then -v else v)
    let left := a.backlog - (a'.count - a.count)
    let a' := { a' with backlog := left, followBacklog := a.followBacklog || tooFast, limit := a.limit || decide (p ≠ pos) }
    s.setAxis n (if left = 0 then { a' with state := .idle, goal := none, vel := 0, pos := a'.count * giga } else a')

/-- A running axis in one tick, by its goal. -/
def State.runTick (s : State) (n : Nat) : State :=
  let a := s.axis n
  match a.goal with
  | none => s.setAxis n { a with state := .idle, vel := 0 }
  | some (.move t) =>
    let (p, v, done) := moveTick a.pos a.vel (t * giga) (s.axisMax n) a.acc
    s.setAxis n (if done then { a.moved p 0 with state := .idle, goal := none } else a.moved p v)
  | some (.velocity v) => s.velocityTick n v
  | some (.chain o e p v u) => s.chainTick n o e p v u
  | some .follow => s.followTick n
  | some (.group _) => s

/-- A stopping or disabling axis decelerates to rest: HELD, or the start of AenOffDelay (R470). -/
def State.stopTick (s : State) (n : Nat) : State :=
  let a := s.axis n
  let (p, v) := rampTick a.pos a.vel 0 (if a.state = .disabling then a.acc else max 1 a.decel)
  let a' := a.moved p v
  let a' := match a'.goal with
    | some .follow => { a' with backlog := a.backlog - (a'.count - a.count) }
    | _ => a'
  s.setAxis n
    (if v ≠ 0 then a'
     else if a.state = .stopping then { a' with state := .held }
     else { a' with offDue := match a.offDue with | some d => some d | none => s.after (ticksMs (s.regNAt Obj.aenOffDelay n)) })

/-- The members of a group at its path position (R467). -/
def State.placeMembers (s : State) (g : Nat) (m : GroupMove) : State :=
  m.members.foldl (fun s x =>
    let a := s.axis x.1
    let pos := x.2.1 * giga + x.2.2 * m.s / max 1 (m.length : Int)
    let vel := x.2.2 * m.v / max 1 (m.length : Int)
    let a := a.moved pos vel
    let a := { a with goal := some (.group g) }
    let rest := decide (m.v = 0) && (decide (m.s = m.length * giga) || m.stopping.isSome)
    s.setAxis x.1 (if !rest then a
      else if a.state = .disabling then
        { a with vel := 0, prior := .held, offDue := match a.offDue with | some d => some d | none => s.after (ticksMs (s.regNAt Obj.aenOffDelay x.1)) }
      else if m.s = m.length * giga then { a with state := .idle, goal := none, vel := 0 }
      else if a.state = .stopping then { a with state := .held, vel := 0 } else a)) s

/-- A group move whose start time has come begins (R462). -/
def State.startGroup (s : State) (t : Int) (g : Nat) : State :=
  match s.groupMove g with
  | none => s
  | some m =>
    if !m.waits ∨ t < m.start ∨ s.tramHeld = true then s
    else
      m.members.foldl (fun s x => s.setAxis x.1 { s.axis x.1 with state := .moving, goal := some (.group g), accWritten := false, deferred := false })
        (s.setGroupMove g (some { m with start := 0, running := true }))

/-- One tick of a group move along its path. -/
def State.groupTick (s : State) (t : Int) (g : Nat) : State :=
  let s := s.startGroup t g
  match s.groupMove g with
  | none => s
  | some m =>
    if !m.running then s
    else
      let (s, m) := s.judgeGroup m
      let m' : GroupMove := match m.stopping with
        | some d => let (p, v) := rampTick m.s m.v 0 (max 1 (d : Int)); { m with s := p, v := v }
        | none =>
          let vmax := (pathLimit m s.axisRate : Int) * giga
          let (p, v, done) := moveTick m.s m.v (m.length * giga) vmax m.acc
          { m with s := p, v := if done then 0 else v }
      let s := s.placeMembers g m'
      if m'.s = m.length * giga ∧ m'.v = 0 then s.setGroupMove g none
      else if m'.v = 0 ∧ m.stopping.isSome = true then s.setGroupMove g (some { m' with running := false })
      else s.setGroupMove g (some m')

/-- The axis feedback port: position and velocity over StepsPerUnit, tagged with the end of the tick that starts at t (R461). -/
def State.feedbackTick (s : State) (n : Nat) (t : Int) : State :=
  let a := s.axis n
  let spu := max 1 (s.regAt Obj.stepsPerUnit n)
  s.setAxis n { a with feedback := some (a.count * 2 ^ 32 / spu, a.vel * 2 ^ 32 / spu / giga, t + 50000) }

/-- One axis in one tick. -/
def State.axisTick (s : State) (t : Int) (n : Nat) : State :=
  let s := ((s.judgeAcc n).takeBoulevard n).startDue n t
  let s := match (s.axis n).goal with
    | some (.group _) => s
    | _ => match (s.axis n).state with
      | .moving => s.runTick n
      | .stopping | .disabling => s.stopTick n
      | _ => s
  s.feedbackTick n t

/-- A profile tick of 50 µs begins (R453): groups and axes take new commands, compute their position and velocity at its end, and place
its pulses; each tick once. -/
def State.profileTick (s : State) : State :=
  let t := s.time64 / 50000 * 50000
  if !s.tramOn ∨ s.tram.tickAt = some t then s
  else
    let old := s.axis
    let s := s.updTram (fun x => { x with tickAt := some t })
    let s := (List.range 8).foldl (fun s g => s.groupTick t g) s
    let s := (List.range 16).foldl (fun s n => s.axisTick t n) s
    (List.range 16).foldl (fun s n => s.placePulses n (countOf s.clk t) (old n)) s

/-! ### Enable and disable (R470) -/

/-- The axis a request names. -/
def State.axisOf (s : State) (q : Sess) : Nat := s.instanceOf q Obj.axisEnable % 16

/-- The result of a command in AxisCommandResult. -/
def State.axisResult (s : State) (n code : Nat) : State := s.setRegAt Obj.axisCommandResult n code

/-- AxisEnable 0x01: ENABLING, or a disable is cancelled (R470). -/
def State.enableAxis (s : State) (n : Nat) : State :=
  let a := s.axis n
  if s.tramHeld then s.axisResult n 1
  else
    match a.state with
    | .disabled | .fault =>
      if s.regAt Obj.axisMode n = 0 ∨ a.faultActive = true then s.axisResult n 1
      else
        ((s.setAxis n { a with state := .enabling, vel := 0, onDue := s.after (ticksMs (s.regNAt Obj.aenOnDelay n)), offDue := none }).setRegAt
          Obj.axisEnable n 1).axisResult n 0
    | .disabling =>
      let back := if a.prior = .stopping ∧ a.vel = 0 then .held else a.prior
      ((s.setAxis n { a with state := back, offDue := none }).setRegAt Obj.axisEnable n 1).axisResult n 0
    | _ => (s.setRegAt Obj.axisEnable n 1).axisResult n 0

/-- AxisEnable 0x00: DISABLING from any enabled state. A member of a group move stops with its group, along the path (R467). -/
def State.disableAxis (s : State) (n : Nat) : State :=
  let a := s.axis n
  let s := s.setRegAt Obj.axisEnable n 0
  match a.state, a.goal with
  | .disabled, _ | .fault, _ | .disabling, _ => s.axisResult n 0
  | st, goal =>
    let grp := match goal with
      | some (.group g) => (s.groupMove g).bind (fun m => if m.running then some (g, m.acc) else none)
      | _ => none
    let s := match grp with
      | some (g, acc) => s.stopGroup g acc
      | none => s
    let due := if a.vel = 0 then s.after (ticksMs (s.regNAt Obj.aenOffDelay n)) else none
    let prior := if grp.isSome then .stopping else st
    let s := s.setAxis n { a with state := .disabling, prior := prior, goal := s.plainGoal goal, next := none, offDue := due }
    s.axisResult n 0

def State.axisEnable (s : State) (q : Sess) : State := s.writeCommand q Obj.axisEnable 1 (fun s => .ok (s.enableAxis (s.axisOf q)))
def State.axisDisable (s : State) (q : Sess) : State := s.writeCommand q Obj.axisEnable 0 (fun s => .ok (s.disableAxis (s.axisOf q)))

/-- AenOnDelay has elapsed: IDLE, or HELD where a distance remains. -/
def State.aenOnDelayElapsed (s : State) (n : Nat) : State :=
  let a := s.axis n
  if s.tramOn && decide (n < 16) && decide (a.state = .enabling) && s.due a.onDue then
    s.setAxis n { a with state := if s.resumable n then .held else .idle, onDue := none }
  else s

/-- AenOffDelay has elapsed at rest: AENn falls. -/
def State.aenOffDelayElapsed (s : State) (n : Nat) : State :=
  let a := s.axis n
  if s.tramOn && decide (n < 16) && decide (a.state = .disabling) && decide (a.vel = 0) && s.due a.offDue then
    s.setAxis n { a with state := .disabled, offDue := none }
  else s

/-- AxisMode is written only while the axis is DISABLED (R457). -/
def State.axisModeWrite (s : State) (q : Sess) (v : Int) : State :=
  s.writeCommand q Obj.axisMode v (fun s =>
    let n := s.axisOf q
    if (s.axis n).state ≠ .disabled then .error abortAccess
    -- a member of a group stays in Position mode (R466)
    else if (s.groupOfAxis n).isSome ∧ v ≠ 1 then .error abortRange
    else s.applyNum Obj.axisMode n v)

/-! ### Motion commands (R458 to R464, R470, R472, R476) -/

/-- The state takes a motion command: IDLE, HELD or MOVING, outside HALT and SNAPSHOT, not a group member (R466, R470, R473). -/
def State.motionAllowed (s : State) (n : Nat) : Bool :=
  let a := s.axis n
  !s.tramHeld && (s.groupOfAxis n).isNone && (decide (a.state = .idle) || decide (a.state = .held) || decide (a.state = .moving))

/-- The code of a dictionary motion command in a mode: state or membership, source, mode (log 33 for the order). -/
def State.motionCode (s : State) (n : Nat) (mode : Int) : Nat :=
  if !s.motionAllowed n then 1
  else if s.regAt Obj.commandSource n = 1 then 5
  else if s.regAt Obj.axisMode n ≠ mode then 2 else 0

/-- A command begins at StartTime where it is set, else at the next tick (R462). -/
def State.schedule (s : State) (n : Nat) (g : AxisGoal) : State :=
  let t := s.regAt Obj.startTime n
  let s := s.setRegAt Obj.startTime n 0
  if t = 0 then s.begin n g else s.setAxis n { s.axis n with next := some (g, t) }

/-- A target lies within the limits (R460). -/
def State.withinLimits (s : State) (n : Nat) (t : Int) : Bool := decide (s.regAt Obj.limitMin n ≤ t ∧ t ≤ s.regAt Obj.limitMax n)

/-- MoveTarget (R458). -/
def State.moveTarget (s : State) (q : Sess) (v : Int) : State :=
  s.writeCommand q Obj.moveTarget v (fun s =>
    let n := s.axisOf q
    let c := s.motionCode n 1
    let c := if c = 0 ∧ s.withinLimits n v = false then 3 else c
    .ok ((if c = 0 then s.schedule n (.move v) else s).axisResult n c))

/-- VelocityTarget (R459): it takes effect at the next tick. -/
def State.velocityTarget (s : State) (q : Sess) (v : Int) : State :=
  s.writeCommand q Obj.velocityTarget v (fun s =>
    let n := s.axisOf q
    let c := s.motionCode n 2
    .ok ((if c = 0 then (s.setRegAt Obj.velocityTarget n v).begin n (.velocity v) else s).axisResult n c))

/-- SegmentStart: from IDLE, the whole chain checked (R464). -/
def State.segmentStart (s : State) (q : Sess) (v : Int) : State :=
  s.writeCommand q Obj.segmentStart v (fun s =>
    let n := s.axisOf q
    let c := if (s.axis n).state ≠ .idle then 1 else s.motionCode n 3
    let c := if c = 0 ∧ s.chainOk n v.toNat = false then 4 else c
    .ok ((if c = 0 then s.schedule n (.chain (s.axis n).count v.toNat 0 0 0) else s).axisResult n c))

/-- The entries that a chain from an entry holds (R465). -/
def State.heldBy (s : State) (n : Nat) : List Nat :=
  let from_ := fun (g : Option AxisGoal) => match g with
    | some (.chain _ e _ _ _) => (s.chainFrom 4096 [] e).getD []
    | _ => []
  from_ (s.axis n).goal ++ from_ ((s.axis n).next.map (·.1))

/-- A write of a segment table entry: refused while a running chain holds it (R465). A DT that is no multiple of 50 from 50 up,
or a reserved flag, is out of range. -/
def State.segmentEntryWrite (s : State) (q : Sess) (data : List Byte) : State :=
  s.writeBytesCommand q Obj.segmentEntry data (fun s =>
    let k := s.instanceOf q Obj.segmentEntry
    let dt := fieldU data 0 4
    if (List.range 16).any (fun n => (s.heldBy n).contains k) then .error abortAccess
    else if dt < 50 ∨ dt % 50 ≠ 0 ∨ 1 < fieldU data 14 2 then .error abortRange
    else s.applyOct Obj.segmentEntry k data)

/-- AxisStop: MOVING to STOPPING at Acceleration, the remaining distance kept; also in HALT and SNAPSHOT (R470, R473). -/
def State.axisStop (s : State) (q : Sess) (v : Int) : State :=
  s.writeCommand q Obj.axisStop v (fun s =>
    let n := s.axisOf q
    let a := s.axis n
    if (s.groupOfAxis n).isSome ∨ a.state = .disabled ∨ a.state = .fault then .ok (s.axisResult n 1)
    else .ok (((s.setAxis n { a with next := none }).stopAxis n a.acc).axisResult n 0))

/-- AxisResume: HELD to MOVING with what is left; nothing to resume is 0x06 (R472). -/
def State.axisResume (s : State) (q : Sess) (v : Int) : State :=
  s.writeCommand q Obj.axisResume v (fun s =>
    let n := s.axisOf q
    let a := s.axis n
    if s.tramHeld = true ∨ (s.groupOfAxis n).isSome ∨ !(decide (a.state = .held) || decide (a.state = .idle)) then .ok (s.axisResult n 1)
    else if !s.resumable n then .ok (s.axisResult n 6)
    else match a.goal with
      | none => .ok (s.axisResult n 6)
      | some g => .ok ((s.begin n g).axisResult n 0))

/-- PositionPreset at rest sets the position and clears both restore flags (R474). -/
def State.positionPreset (s : State) (q : Sess) (v : Int) : State :=
  s.writeCommand q Obj.positionPreset v (fun s =>
    let n := s.axisOf q
    let a := s.axis n
    if !a.atRest then .ok (s.axisResult n 1)
    else .ok ((s.setAxis n { a with pos := v * giga, count := v, restored := false, uncertain := false }).axisResult n 0))

/-- Acceleration is judged at the next tick (R475). -/
def State.accelerationWrite (s : State) (q : Sess) (v : Int) : State :=
  s.writeCommand q Obj.acceleration v (fun s =>
    let n := s.axisOf q
    match s.applyNum Obj.acceleration n v with
    | .error a => .error a
    | .ok s => .ok (s.setAxis n { s.axis n with accWritten := true }))

/-- MaxVelocity is checked against the pulse width: 100 MHz / (2 × StepWidth) (R454). -/
def State.maxVelocityWrite (s : State) (q : Sess) (v : Int) : State :=
  s.writeCommand q Obj.maxVelocity v (fun s =>
    let n := s.axisOf q
    if 100000000 < v * 2 * s.regAt Obj.stepWidth n then .error abortRange else s.applyNum Obj.maxVelocity n v)

/-! ### Groups (R466, R467) -/

/-- The axes of a mask. -/
def maskAxes (m : Nat) : List Nat := (List.range 16).filter (bit m)

/-- GroupMembers: at most 8 axes of no other group, in Position mode with CommandSource 0x00, every member DISABLED (R466). -/
def State.groupMembersWrite (s : State) (q : Sess) (v : Int) : State :=
  s.writeCommand q Obj.groupMembers v (fun s =>
    let g := s.instanceOf q Obj.groupMembers % 8
    let new := maskAxes v.toNat
    let ok := new.all (fun n => decide (s.regAt Obj.axisMode n = 1) && decide (s.regAt Obj.commandSource n = 0) &&
      (match s.groupOfAxis n with | none => true | some h => decide (h = g)))
    let rest := (new ++ maskAxes (s.regNAt Obj.groupMembers g)).all (fun n => decide ((s.axis n).state = .disabled))
    if !ok ∨ !rest ∨ 8 < new.length then .error abortRange
    else match s.applyNum Obj.groupMembers g v with
      | .error a => .error a
      | .ok s => .ok (s.setGroupMove g none))

/-- The result of a group command. -/
def State.groupTramResult (s : State) (g code : Nat) : State := s.setRegAt Obj.groupResult g code

/-- The group a request names. -/
def State.tramGroupOf (s : State) (q : Sess) : Nat := s.instanceOf q Obj.groupTarget % 8

/-- GroupTarget starts a group move: one I64 per member in ascending order (R467). -/
def State.groupTarget (s : State) (q : Sess) (data : List Byte) : State :=
  s.writeBytesCommand q Obj.groupTarget data (fun s =>
    let g := s.tramGroupOf q
    let l := maskAxes (s.regNAt Obj.groupMembers g)
    if data.length ≠ 8 * l.length ∨ l.isEmpty = true then .error abortLength
    else
      let targets := (l.zip (List.range l.length)).map (fun x => (x.1, fieldI data (8 * x.2) 8))
      let ready := l.all (fun n => decide ((s.axis n).state = .idle) || decide ((s.axis n).state = .held))
      if s.tramHeld = true ∨ !ready then .ok (s.groupTramResult g 1)
      else if !(targets.all (fun x => s.withinLimits x.1 x.2)) then .ok (s.groupTramResult g 3)
      else
        let members := targets.map (fun x => (x.1, (s.axis x.1).count, x.2 - (s.axis x.1).count))
        let length := members.foldl (fun b x => max b x.2.2.natAbs) 0
        if length = 0 then .ok (s.groupTramResult g 0)
        else
          let t := l.foldl (fun b n => max b (s.regAt Obj.startTime n)) 0
          let m : GroupMove := { members := members, length := length, s := 0, v := 0, acc := 0, stopping := none, running := decide (t = 0), start := t }
          let m := { m with acc := pathLimit m (fun n => s.regNAt Obj.acceleration n) }
          let s := l.foldl (fun s n => (s.setAxis n { s.axis n with
            state := if t = 0 then .moving else (s.axis n).state, goal := if t = 0 then some (.group g) else none, next := none
            accWritten := false, deferred := false }).setRegAt Obj.startTime n 0) s
          .ok ((s.setGroupMove g (some m)).groupTramResult g 0))

/-- GroupStop: every member stops along the path. -/
def State.groupStop (s : State) (q : Sess) (v : Int) : State :=
  s.writeCommand q Obj.groupStop v (fun s =>
    let g := s.tramGroupOf q
    match s.groupMove g with
    | none => .ok (s.groupTramResult g 0)
    | some m => .ok ((s.stopGroup g m.acc).groupTramResult g 0))

/-- GroupAxisResume: the group goes on along its remaining path. -/
def State.groupAxisResume (s : State) (q : Sess) (v : Int) : State :=
  s.writeCommand q Obj.groupAxisResume v (fun s =>
    let g := s.tramGroupOf q
    match s.groupMove g with
    | none => .ok (s.groupTramResult g 6)
    | some m =>
      if s.tramHeld = true ∨ m.waits = true ∨ !(m.members.all (fun x => decide ((s.axis x.1).state = .held) || decide ((s.axis x.1).state = .idle))) then .ok (s.groupTramResult g 1)
      else
        let s := m.members.foldl (fun (s : State) (x : Nat × Int × Int) => s.setAxis x.1 { s.axis x.1 with state := .moving }) s
        .ok ((s.setGroupMove g (some { m with stopping := none, running := true, acc := pathLimit m (fun n => s.regNAt Obj.acceleration n) })).groupTramResult g 0))

/-! ### Faults and Follow inputs (R468, R471) -/

/-- The drive fault of an axis: no further pulse, AENn falls, FAULT, the remaining distance kept; a group stops at once at the same path
value (R471). -/
def State.faultAxis (s : State) (n : Nat) : State :=
  let s := s.cutPulses n
  let a := s.axis n
  let s := s.setAxis n { a with faultActive := true }
  if a.state = .disabled then s
  else
    let s := match a.goal with
      | some (.group g) => (match s.groupMove g with
        | none => s
        | some m => m.members.foldl (fun (s : State) (x : Nat × Int × Int) =>
            let s := s.cutPulses x.1
            s.setAxis x.1 { s.axis x.1 with state := if (s.axis x.1).runs then .held else (s.axis x.1).state, vel := 0 })
            (s.setGroupMove g (some { m with v := 0, running := false })))
      | _ => s
    s.setAxis n { s.axis n with state := .fault, vel := 0, goal := s.plainGoal a.goal, next := none, onDue := none, offDue := none }

/-- The axes whose FaultInput names a GPIO. -/
def State.faultAxes (s : State) (gpio : Nat) : List Nat := (List.range 16).filter (fun n => decide (s.regNAt Obj.faultInput n = gpio))

/-- A level of a GPIO is the active one of an axis (R471). -/
def State.faultLevel (s : State) (n : Nat) (high : Bool) : Bool := high == decide (s.regAt Obj.faultPolarity n = 1)

/-- A GPIO has changed to a level for at least 50 ns: the fault of each axis that names it as its fault input with that active level. -/
def State.axisFault (s : State) (gpio : Nat) (high : Bool) : State :=
  if !s.tramOn ∨ 64 ≤ gpio then s
  else ((s.faultAxes gpio).filter (fun n => s.faultLevel n high)).foldl State.faultAxis s

/-- The GPIO returns to the inactive level (R471). -/
def State.faultInputDeassert (s : State) (gpio : Nat) (high : Bool) : State :=
  if !s.tramOn ∨ 64 ≤ gpio then s
  else ((s.faultAxes gpio).filter (fun n => !s.faultLevel n high)).foldl (fun (s : State) n => s.setAxis n { s.axis n with faultActive := false }) s

/-- A Follow axis rests on the limit toward which its edges go (R460). -/
def State.followBlocked (s : State) (n : Nat) : Bool :=
  let a := s.axis n
  decide (a.vel = 0) && (if s.regAt Obj.followDirection n = 1 then decide (a.count ≤ s.regAt Obj.limitMin n) else decide (s.regAt Obj.limitMax n ≤ a.count))

/-- A rising edge of STEP_INn, accepted after 20 cycles of CK_IO at its level, adds M steps to the backlog of each axis that follows it;
not in HALT or SNAPSHOT (R468, R473). -/
def State.stepInEdge (s : State) (input tick : Nat) : State :=
  if !s.tramOn ∨ s.tramHeld = true ∨ s.now < tick + 400 then s
  else
    (List.range 16).foldl (fun s n =>
      let a := s.axis n
      if s.regAt Obj.axisMode n ≠ 4 ∨ s.regNAt Obj.followInput n ≠ input ∨ s.followBlocked n = true ∨ !(decide (a.state = .idle) || decide (a.state = .moving) || decide (a.state = .held)) then s
      else
        let m : Int := s.regAt Obj.followMultiplier n
        s.setAxis n { a with
          backlog := if s.regAt Obj.followDirection n = 1 then a.backlog - m else a.backlog + m
          tau := match a.lastEdge with | some e => tick - e | none => a.tau
          lastEdge := some tick
          goal := some .follow
          state := if a.state = .idle then .moving else a.state }) s

/-- 4 τ have passed without an edge: the backlog goes out at the last rate and the next edge starts a new interval (R468). -/
def State.followTimeout (s : State) (n : Nat) : State :=
  let a := s.axis n
  match a.lastEdge with
  | none => s
  | some e => if s.tramOn && decide (n < 16) && decide (a.tau ≠ 0) && decide (e + 4 * a.tau ≤ s.now) then s.setAxis n { a with lastEdge := none } else s

/-! ### Status -/

/-- The code of an axis state (R469). -/
def axisCode : AxisState → Nat
  | .disabled => 0 | .enabling => 1 | .idle => 2 | .moving => 3 | .stopping => 4 | .held => 5 | .disabling => 6 | .fault => 7

/-- A chain runs on the axis. -/
def Axis.chainRuns (a : Axis) : Bool :=
  decide (a.state = .moving) && (match a.goal with | some (.chain _ _ _ _ _) => true | _ => false)

/-- AxisStatus (R476). -/
def State.axisStatus (s : State) (n : Nat) : Nat :=
  let a := s.axis n
  flag a.deferred 0 + flag a.limit 1 + flag a.followBacklog 2 + flag a.restored 3 + flag a.uncertain 4 + flag a.faultActive 5 + flag a.chainRuns 6

end Sys2Proof.Machine
end

