-- ==== Sys2Proof/Machine/ModeOps.lean ====
section
/-!
DEFINITION. Machine/ModeOps.lean: the mode controller as every block uses it: entry to HALT with its effects (R44,
R50, R52), the authenticated release (R374 to R376), and the change between ROVER and SNAPSHOT (R44, R145).
-/
namespace Sys2Proof.Machine

/-- The mode changes: PREV_MODE, no transition left, MODE_CHANGE (R499). -/
def State.setMode (s : State) (m : Mode) : State :=
  ({ s with mode := { s.mode with prev := s.mode.current, current := m, transition := none } }).raiseIrq irqModeChange

/-- The mode takes a HALT trigger of a cause (R44); HALT itself takes any (R50). -/
def haltPermitted (m : Mode) (worker : Bool) (c : HaltCause) : Bool :=
  match m, c with
  | .base, .stopInput | .base, .modeRequest => true
  | .base, .propagated => worker
  | .rover, .stopFrame | .rover, .stopInput | .rover, .lostBase | .rover, .modeRequest => true
  | .relay, .stopFrame | .relay, .stopInput | .relay, .modeRequest => true
  | .snapshot, .stopFrame | .snapshot, .stopInput | .snapshot, .lostBase => true
  | .standby, .failover => true
  | .halt, .none => false
  | .halt, _ => true
  | _, _ => false

/-- The mode that a release returns to (R44, R45). -/
def heldMode : Mode → Mode
  | .snapshot => .rover
  | .standby => .base
  | m => m

/-- The halt flag and HaltCause go to MRAM (R101), and HALT_ENTERED is set. -/
def State.noteHalt (s : State) (c : HaltCause) : State :=
  (({ s with mode := { s.mode with haltCause := c, haltFlag := some c, haltAt := some s.now } }).journal (.halt true c)).raiseIrq irqHaltEntered

/-- Entry to HALT (R52): on a rover the sections, the loops and the axes stop; a manager's stop goes to its workers (R311). -/
def State.enterHalt (s : State) (c : HaltCause) : State :=
  let s := { s with mode := { s.mode with heldBeforeHalt := some (heldMode s.mode.current) } }
  let s := if s.mode.current = .snapshot then s.leaveSnapshotGnss else s
  let s := (s.setMode .halt).noteHalt c
  let s := if s.mode.role = some .rover then s.kerbHalt.blvHold.tramHalt else s
  let s := if s.isManager then s.sendAll (.stop s.ownIndex)
    else if s.isWorker && (decide (c = HaltCause.stopInput) || decide (c = HaltCause.modeRequest)) then s.sendLink 0 .stopRequest else s
  if s.sameCycle s.mode.releasedAt then s.setReg Obj.releaseResult 7 else s

/-- A trigger that leads to RESET or HOLDUP waits in this CK_IO cycle (R49): a trigger of a lower rank is judged against the state
that it leads to, where every such trigger is dropped. No time passes while a command waits (log 142). -/
def State.resetWaits (s : State) : Bool :=
  s.running && s.pending.any (fun c => match c with
    | .vinSag v => decide ((v : Int) * 65536 < s.bootReg Obj.holdupSagLevel * 1000)
    | .isolationTimeout => s.power.isolated && decide (ticksMs 1 ≤ s.power.isolatedFor)
    | .nrstInAssert ns => decide (5000 ≤ ns)
    | .pllLossOfLock _ => true
    | .pgoodFall => s.power.pgood
    | _ => false)

/-- Entry to ROVER: the implement heading starts anew (R239), loops and axes go on (R222, R473). -/
def State.roverEntered (s : State) : State := (s.updKerb (fun k => { k with phi := none })).blvRelease.tramRelease

/-- A wake filter is active on a port (R415). -/
def State.filterActive (s : State) (p n : Nat) : Bool :=
  bit (s.regNAt Obj.wakePorts n) p && (s.octAt Obj.wakeMask n).any (fun b => decide (b ≠ 0))

/-- An active filter names the port. -/
def State.wakeListens (s : State) (p : Nat) : Bool := (List.range 16).any (s.filterActive p)

/-- In SNAPSHOT only a port that an active filter names stays linked (R416). -/
def State.dropLinks (s : State) : State :=
  [0, 1].foldl (fun s p => if s.wakeListens p then s
    else { s with net := { s.net with eth := Tab.update EthPort.down s.net.eth p (fun x => { x with linkUp := false, pausedUntil := none, pauseSent := false, repeatDue := none }) } }) s

/-- ROVER to SNAPSHOT (R44, R145, R222, R251). -/
def State.enterSnapshot (s : State) : State := (s.setMode .snapshot).deassertOe.blvHold.enterSnapshotGnss.dropLinks

/-- SNAPSHOT to ROVER (R44, R145). -/
def State.leaveSnapshot (s : State) : State :=
  let s := s.leaveSnapshotGnss
  (s.setMode .rover).roverEntered

/-- A ModeRequest of this CK_IO cycle loses to a HALT trigger (R49): its result becomes 0x01, and a rover that it took to SNAPSHOT
enters HALT from ROVER. -/
def State.dropRequest (s : State) : State :=
  if !s.sameCycle s.mode.askedAt then s
  else
    let s := if s.mode.current = .snapshot then s.leaveSnapshot else s
    let s := s.setReg Obj.modeRequestResult 1
    { s with mode := { s.mode with askedAt := none } }

/-- A HALT trigger: entry where the mode permits it; in HALT it updates HaltCause (R50); else it is dropped. -/
def State.haltTrigger (s : State) (c : HaltCause) : State :=
  if s.resetWaits || !haltPermitted s.mode.current s.isWorker c then s
  else if s.mode.current = .halt then s.noteHalt c
  else (if decide (c = .modeRequest) then s else s.dropRequest).enterHalt c

/-- STOP_A or STOP_B is qualified asserted, or STOP_DISCREPANCY stands (R355, R376). -/
def State.stopHeld (s : State) : Bool := s.crier.levelA || s.crier.levelB || s.crier.discrepancy

/-- A beacon without HALTED was received within SupervisionTimeout (R376). -/
def State.beaconRecent (s : State) : Bool :=
  match s.crier.unhalted with
  | none => false
  | some t => decide (s.now < t + ticksMs (s.regN Obj.supervisionTimeout))

/-- ReleaseResult of a release now (R376); from the manager, or by command or frame. -/
def State.releaseCode (s : State) (manager : Bool) : Nat :=
  if s.resetWaits then 1
  else if s.sameCycle s.mode.haltAt then 7
  else if s.mode.current ≠ .halt then 1
  else if s.isWorker && decide (s.mode.haltCause = .propagated) && !manager then 4
  else if s.stopHeld then 2
  else if s.mode.role = some .rover ∧ s.beaconRecent = false then 3
  else 0

/-- HALT is left for the mode held before (R44): the halt flag is cleared (R101), sections, loops and axes go on under their
own rules (R222, R251, R473). -/
def State.leaveHalt (s : State) : State :=
  let m := s.mode.heldBeforeHalt.getD .halt
  let c := s.mode.haltCause
  let s := { s with mode := { s.mode with heldBeforeHalt := none, haltFlag := none, releasedAt := some s.now } }
  let s := (s.setMode m).journal (.halt false c)
  let s := s.updRadio (fun r => { r with lostBase := false })
  if m = .rover then s.roverEntered else s

/-- An authenticated release: its outcome goes to ReleaseResult (R376). -/
def State.release (s : State) (manager : Bool) : State :=
  let c := s.releaseCode manager
  let s := s.setReg Obj.releaseResult c
  if c = 0 then s.leaveHalt else s

/-- The wake time is reached in SNAPSHOT (R145); in HALT it has no effect. -/
def State.snapshotWake (s : State) : State := if s.mode.current = .snapshot && s.wakeReached then s.leaveSnapshot else s

end Sys2Proof.Machine
end

