-- ==== Sys2Proof/Machine/Crier.lean ====
section
/-!
DEFINITION. Machine/Crier.lean: the Crier (R354 to R378): stop inputs, stop events and their copies, the header check
and its verification, releases, stops over the base link, separation stops, and lost base (R343).
-/
namespace Sys2Proof.Machine

/-- Changes the Crier. -/
def State.updCrier (s : State) (f : CrierState → CrierState) : State := { s with crier := f s.crier }

/-! ### Stop events (R358 to R363, R371, R372) -/

/-- Now lies in the downlink window of its interval (R327). -/
def State.inWindow (s : State) : Bool := decide (s.netTime % s.biNs < s.bootReg Obj.downlinkWindow * 1000)

/-- The channel of a map in its interval, in the region's band. -/
def State.tunedA (s : State) : Nat := if s.inWindow ∧ s.region ≠ 2 then 0 else 1

/-- The channel that a transceiver is tuned to. -/
def State.tunedChannel (s : State) (sideB : Bool) : Nat :=
  if sideB then s.channelOf 2 s.upPhy else s.channelOf s.tunedA (if s.inWindow then s.downPhy else s.upPhy)

/-- A base in BASE or HALT with its radio on sends stops. -/
def State.mayStop (s : State) : Bool :=
  decide (s.mode.role = some .base) && (decide (s.mode.current = .base) || decide (s.mode.current = .halt)) && s.radio.on

/-- The body of a stop frame (R363). -/
def stopBody (id : Nat) (time : Int) (cause origin copy : Nat) : List Byte :=
  leBytes 4 id ++ leInt 8 time ++ leBytes 1 cause ++ leBytes 1 origin ++ leBytes 1 copy ++ List.replicate 10 0

/-- A stop frame of this base under the Crier's key register; with no group key its MIC is zero (R362). -/
def State.stopFrame (s : State) (dst : Nat) (body : List Byte) : AirFrame × State :=
  let ttl := s.regN Obj.beaconTtl
  let (f, s) := s.newFrame 0xA dst ttl (decide (1 < ttl)) body
  (s.protect s.radio.groupKey f, s)

/-- A frame goes out on a transceiver at StopPhy, charged to the reserve or not. -/
def State.sendStop (s : State) (sideB : Bool) (map chan : Nat) (reserve : Bool) (f : AirFrame) : State :=
  ((s.transmit sideB (s.conducted sideB map (s.subBand map chan)) f.bytes).stampSent sideB (s.regN Obj.stopPhy) s.now).noteUse
    { sub := s.subBand map chan, chan := chan, sideB := sideB, at_ := s.now, us := s.stopUs, reserve := reserve }

/-- A copy of the event on one transceiver: sent, or withheld where the reserve cannot hold it, which withdraws the beacons
(R371, R372). -/
def State.stopCopyOn (s : State) (sideB : Bool) (e : StopEvent) : State :=
  let map := if sideB then 2 else e.mapA
  let chan := if sideB then e.chanB else e.chanA
  let copy := if sideB then e.copiesB else e.copiesA
  let next := s.now + ticksUs s.stopUs + (if copy < 2 then ticksMs 1 else 0)
  let e' := if sideB then { e with copiesB := copy + 1, nextB := next } else { e with copiesA := copy + 1, nextA := next }
  let s := s.updCrier (fun c => { c with event := some e' })
  if s.reserveHolds (s.subBand map chan) chan then
    let (f, s) := s.stopFrame e.dst (stopBody e.stopId e.time e.cause e.origin copy)
    s.sendStop sideB map chan true f
  else s.updCrier (fun c => { c with exhausted := true, withdrawn := true })

/-- The next copy of a transceiver, where it is due. -/
def State.stopCopyDue (s : State) (sideB : Bool) : State :=
  match s.crier.event with
  | none => s
  | some e =>
    let copy := if sideB then e.copiesB else e.copiesA
    let next := if sideB then e.nextB else e.nextA
    if copy < 3 ∧ next ≤ s.now then s.stopCopyOn sideB e else s

/-- 1 ms after a copy ends the next one goes (R358). -/
def State.stopCopy (s : State) : State := if s.mayStop then (s.stopCopyDue false).stopCopyDue true else s

/-- A stop event starts, unless copies of one are still being sent (R358): STOP_ID, the stamp, the channels in use, and the
first copy on each transceiver. -/
def State.stopEvent (s : State) (cause origin : Nat) : State :=
  if !s.mayStop ∨ s.seized = true then s
  else
    let id := (s.crier.stopCount + 1) % 2 ^ 32
    let e : StopEvent :=
      { cause := cause, origin := origin, dst := 0xFF, time := s.stampTime, stopId := id, copiesA := 0, copiesB := 0, nextA := s.now,
        nextB := s.now, mapA := s.tunedA, chanA := s.tunedChannel false, chanB := s.tunedChannel true }
    let s := s.updCrier (fun c => { c with event := some e, stopCount := id })
    ((s.setReg Obj.lastStopId id).incr Obj.stopsSent).stopCopy

/-- The maps and channels that a base uses. -/
def State.baseChannels (s : State) : List (Nat × Nat) := s.regionMaps.flatMap (fun m => (mapChannels (s.channelMap m)).map (fun c => (m, c)))

/-- The reserve of every sub-band in use, or the dwell limit, holds 8 stop frames again: beaconing resumes (R372). -/
def State.beaconResume (s : State) : State :=
  let holds := s.baseChannels.all (fun x =>
    if s.region = 2 then decide (s.dwell s.stopPhy x.2 + 8 * s.stopUs ≤ 400000)
    else decide (s.subUse (s.subBand x.1 x.2) true + 8 * s.stopUs ≤ s.stopReserve))
  if s.crier.withdrawn && s.mayStop && holds then s.updCrier (fun c => { c with withdrawn := false, exhausted := false }) else s

/-! ### Stop inputs (R354 to R356) -/

/-- The qualified levels follow the paths; the difference of the two is timed, and a latched discrepancy clears after both
were asserted and then deasserted together (R354, R355). -/
def State.judgeLevels (s : State) : State :=
  s.updCrier (fun c =>
    let a := c.aRadio || c.aIo
    let b := c.bRadio || c.bIo
    let seen := c.discrepancy && (c.bothSeen || (a && b))
    let clears := seen && !a && !b
    { c with levelA := a, levelB := b, discrepancy := c.discrepancy && !clears, bothSeen := seen && !clears
             differsFrom := if a == b then none else match c.differsFrom with
               | none => some s.now
               | t => t })

/-- The level of a channel on a path. -/
def State.setPath (s : State) (ch : StopChannel) (p : StopPath) (v : Bool) : State :=
  (s.updCrier (fun c => match ch, p with
    | .a, .ckRadio => { c with aRadio := v }
    | .a, .ckIo => { c with aIo := v }
    | .b, .ckRadio => { c with bRadio := v }
    | .b, .ckIo => { c with bIo := v })).judgeLevels

/-- The qualified level of a channel. -/
def State.levelOf (s : State) (ch : StopChannel) : Bool :=
  match ch with
  | .a => s.crier.levelA
  | .b => s.crier.levelB

/-- A stop trigger by mode (R356, R47): HALT and, at a base, a stop event; in SERVICE the stop outputs alone. -/
def State.stopAct (s : State) : State :=
  if s.mode.current = .service then { s with mode := { s.mode with serviceStop := true } }
  else (s.haltTrigger .stopInput).stopEvent 1 s.ownIndex

/-- A stop input is qualified asserted on a path; its level's rise is the trigger (R354, R356). -/
def State.stopTrigger (s : State) (ch : StopChannel) (p : StopPath) : State :=
  let before := s.levelOf ch
  let s := s.setPath ch p true
  if before then s else s.stopAct

/-- A stop input is qualified deasserted on a path. -/
def State.stopDeassert (s : State) (ch : StopChannel) (p : StopPath) : State := s.setPath ch p false

/-- The two levels have differed for longer than StopDiscrepancyTime: STOP_DISCREPANCY is latched (R355). -/
def State.stopDiscrepancyTimeout (s : State) : State :=
  match s.crier.differsFrom with
  | none => s
  | some t =>
    if s.operating && !s.crier.discrepancy && decide (t + ticksMs (s.regN Obj.stopDiscrepancyTime) < s.now) then
      (s.updCrier (fun c => { c with discrepancy := true, bothSeen := false })).milestoneEntry 0x84
    else s

/-! ### Stop frames at a rover or relay (R365, R367 to R369) -/

/-- The stop sync word of a fleet (R362). -/
def stopSync (fleet : Nat) : Nat := 0x5A3C0000 + (fleet ^^^ 0xC35A) % 65536

/-- The header check of R365. -/
def State.headerPasses (s : State) (sync : Nat) (frame : List Byte) : Bool :=
  let f := parseFrame frame
  decide (8 ≤ frame.length) && decide (sync = stopSync (s.regN Obj.joinFleetId)) && hcsOk frame && decide (frameLen frame = 35) &&
    decide (f.type = 0xA) && decide (1 ≤ f.ttl) && decide (0x80 ≤ f.src ∧ f.src ≤ 0x8F) &&
    (decide (s.radio.conn ≠ .connected) || decide (f.net = s.radio.netBase)) && (decide (f.dst = 0xFF) || decide (f.dst = s.regN Obj.assignedSlot))

/-- The stop detector listens: a rover or relay with its radio on, in the modes that a stop frame acts on. -/
def State.hearsStops (s : State) : Bool :=
  s.farSide && (match s.mode.current with
    | .rover | .relay | .snapshot | .halt => true
    | _ => false)

/-- The header check passes: HALT at once (R365, R367). -/
def State.stopHeaderCheck (s : State) (sync : Nat) (frame : List Byte) : State :=
  if s.hearsStops && s.headerPasses sync frame then (s.haltTrigger .stopFrame).updCrier (fun c => { c with acting := true }) else s

/-- A relay's copies of a stop frame with TTL less 1, on both transceivers, charged to its own reserve (R368). -/
def State.relayStop (s : State) (frame : List Byte) : State :=
  let f := parseFrame frame
  if s.mode.role = some .relay ∧ 2 ≤ f.ttl ∧ frame.length = frameLen frame + 4 then
    let f := { f with ttl := f.ttl - 1 }
    let send := fun (s : State) (sideB : Bool) =>
      let map := if sideB then 2 else s.tunedA
      let chan := s.tunedChannel sideB
      if s.reserveHolds (s.subBand map chan) chan then s.sendStop sideB map chan true f else s
    send (send s false) true
  else s

/-- The whole stop frame is in (R369): MIC, CRC and the replay test are judged; the HALT stands whatever the outcome. -/
def State.stopFrameVerify (s : State) (frame : List Byte) : State :=
  if !s.crier.acting then s
  else
    let s := s.updCrier (fun c => { c with acting := false })
    let f := parseFrame frame
    let fails := fun (s : State) => (((s.updCrier (fun c => { c with unverified := true })).incr Obj.stopsUnverified).milestoneEntry 0x85)
    let s := match (if hcsOk frame && frameCrcOk frame then s.radio.groupKey else none) with
      | none => fails s
      | some key => match firstOpen key s.netFleet f (s.tryIntervals f) with
        | none => fails s
        | some (k, body) =>
          if laterThan (Tab.get none s.radio.accepted f.src) k f.fseq then
            let s := s.updRadio (fun r => { r with accepted := Tab.put none r.accepted f.src (some (k, f.fseq)) })
            ((s.updCrier (fun c => { c with unverified := false })).incr Obj.stopsReceived).setReg Obj.lastStopId (fieldU body 0 4)
          else s.discardFrame
    s.relayStop frame

/-! ### Releases (R373 to R377) -/

/-- ReleaseRequest 0x005A releases the module; a manager that is not left in HALT sends a release to its workers (R374,
log 35). -/
def State.releaseRequest (s : State) (q : Sess) (v : Int) : State :=
  s.writeCommand q Obj.releaseRequest v (fun s =>
    let s := s.release false
    .ok (if s.isManager && decide (s.mode.current ≠ .halt) then s.sendAll .release else s))

/-- ReleaseMachines: release frames to the slots named that are CONNECTED and report HALTED; refused in HALT (R375). -/
def State.releaseMachines (s : State) (q : Sess) (v : Int) : State :=
  s.writeCommand q Obj.releaseMachines v (fun s =>
    if s.mode.current = .halt then .ok (s.setReg Obj.releaseResult 5)
    else
      let slots := s.connectedSlots.filter (fun (n : Nat) => (decide (v = 255) || decide (v = (n : Int))) && (s.slot n).halted)
      let s := s.updRadio (fun r => { r with releaseTime := s.stampTime })
      .ok (slots.foldl (fun s n => s.setSlot n { s.slot n with releases := 10 }) s))

/-- Release frames are being sent (RELEASE_SENDING). -/
def State.releaseSending (s : State) : Bool := s.radio.slots.any (fun e => decide (e.2.releases ≠ 0))

/-- A release frame reaches a rover (R376). -/
def State.releaseFrame (s : State) (sync : Nat) (frame : List Byte) : State :=
  if !s.hearsStops ∨ s.mode.role ≠ some .rover ∨ sync ≠ stopSync (s.regN Obj.joinFleetId) then s
  else
    let (s, f) := s.receive frame
    match f with
    | none => s
    | some f => if f.type = 0xB ∧ f.dst = s.regN Obj.assignedSlot then s.release false else s

/-! ### Across bases (R311, R377) -/

/-- The manager's stop reaches a worker: HALT with cause 0x05, and its Crier broadcasts. -/
def State.baseLinkStop (s : State) (origin : Nat) : State :=
  if !s.isWorker then s else (s.haltTrigger .propagated).stopEvent 3 origin

/-- A worker's stop request reaches the manager: with StopScope 0x01 an internal ModeRequest 0x07 and a stop event. -/
def State.baseLinkStopRequest (s : State) (base : Nat) : State :=
  if !s.isManager ∨ s.reg Obj.stopScope ≠ 1 then s
  else
    let s := if s.mode.current = .halt then s else s.haltTrigger .modeRequest
    s.stopEvent 5 base

/-- The manager's release reaches a worker that it halted (R374, R377). -/
def State.baseLinkRelease (s : State) : State :=
  if s.isWorker && decide (s.mode.current = .halt) && decide (s.mode.haltCause = .propagated) then s.release true else s

/-! ### Separation and lost base -/

/-- An addressed stop to a machine on both transceivers (R308, R371): charged to the normal budget, else to the reserve;
it is one frame per check and is no stop event, so STOP_ID stays (log 36). -/
def State.addressedStop (s : State) (slot : Nat) : State :=
  if !s.mayStop ∨ s.seized = true then s
  else
    let send := fun (s : State) (sideB : Bool) =>
      let map := if sideB then 2 else s.tunedA
      let chan := s.tunedChannel sideB
      let sub := s.subBand map chan
      let normal := s.airHolds s.stopPhy sub chan s.stopUs
      if normal || s.reserveHolds sub chan then
        let (f, s) := s.stopFrame slot (stopBody s.crier.stopCount s.stampTime 4 s.ownIndex 0)
        s.sendStop sideB map chan (!normal) f
      else s.updCrier (fun c => { c with exhausted := true, withdrawn := true })
    send (send s false) true

/-- The separation check of every 100 ms, with the stops it calls for (R305, R308). -/
def State.separationCheck (s : State) : State :=
  if !s.isBase then s
  else
    let (s, l) := s.separationRound
    l.foldl (fun s n => s.addressedStop n) s

/-- A connected rover that has missed three beacons in a row declares lost base and enters HALT (R343). -/
def State.lostBase (s : State) : State :=
  if s.farSide && decide (s.mode.role = some .rover) && s.linked && decide (3 ≤ s.radio.missed) && !s.radio.lostBase then
    (s.updRadio (fun r => { r with lostBase := true })).haltTrigger .lostBase
  else s

/-- CrierStatus (R378). -/
def State.crierStatus (s : State) : Nat :=
  let c := s.crier
  flag c.levelA 0 + flag c.levelB 1 + flag c.discrepancy 2 + flag c.unverified 3 + flag c.exhausted 4 + flag c.withdrawn 5 + flag s.seized 6 +
    flag s.releaseSending 7

end Sys2Proof.Machine
end

