-- ==== Sys2Proof/Machine/Eth.lean ====
section
/-!
DEFINITION. Machine/Eth.lean: the Ethernet ports (R407 to R423): buffers, PAUSE, disable, wake filters, time-aware
gates, and PTP.
-/
namespace Sys2Proof.Machine

/-- Changes the ports. -/
def State.updNet (s : State) (f : NetState → NetState) : State := { s with net := f s.net }

/-- A port. -/
def State.port (s : State) (p : Nat) : EthPort := Tab.get EthPort.down s.net.eth p

/-- Puts a port. -/
def State.setPort (s : State) (p : Nat) (x : EthPort) : State := s.updNet (fun n => { n with eth := Tab.put EthPort.down n.eth p x })

/-- The interface of a port in force since BOOT: 0 off (R407). -/
def State.ethInterface (s : State) (p : Nat) : Int := s.bootRegAt Obj.ethInterface p

/-- The port carries the base link (R309). -/
def State.baseLinkOn (s : State) (p : Nat) : Bool := decide (s.mode.role = some .base) && decide (s.reg Obj.baseLinkPort = p)

/-- ns per byte at a speed. -/
def byteNs : Nat → Nat
  | 0 => 800 | 1 => 80 | _ => 8

/-- The time of a frame on the wire with its preamble and gap, 20 bytes (R377, R418), ns. -/
def wireNs (speed len : Nat) : Nat := (len + 20) * byteNs speed

/-! ### Gates (R417 to R420) -/

/-- The cycle time, ns. -/
def GateList.cycle (l : GateList) : Nat := (l.entries.map (·.2)).foldl (· + ·) 0

/-- The entries from an offset into the cycle on, the first one cut; fuel counts the entries. -/
def entriesFrom : List (Nat × Nat) → Nat → List (Nat × Nat)
  | [], _ => []
  | e :: t, off => if off < e.2 then (e.1, e.2 - off) :: t else entriesFrom t (off - e.2)

/-- The open time of a queue from the start of a run of entries: its length and whether the run never closed. -/
def openRunOf (q : Nat) : List (Nat × Nat) → Nat × Bool
  | [] => (0, true)
  | e :: t => if bit e.1 q then (let r := openRunOf q t; (e.2 + r.1, r.2)) else (0, false)

/-- The time for which a queue's gate stays open from a reported time on: none where it never closes. -/
def GateList.openFor (l : GateList) (q : Nat) (t : Int) : Option Nat :=
  let off := ((t - l.base) % max 1 (l.cycle : Int)).toNat
  let r := openRunOf q (entriesFrom l.entries off ++ l.entries)
  if l.entries.all (fun e => bit e.1 q) then none else some r.1

/-- The longest unbroken open span of a queue in the cycle: none where it never closes. -/
def GateList.longest (l : GateList) (q : Nat) : Option Nat :=
  if l.entries.all (fun e => bit e.1 q) then none
  else some ((List.range l.entries.length).foldl (fun m k => max m (openRunOf q (l.entries.drop k ++ l.entries)).1) 0)

/-- The gates are in use on a port. -/
def State.gated (s : State) (p : Nat) : Bool := decide (s.regAt Obj.gateEnable p = 1)

/-- The open time of a queue of a port from now on; the start of a list that waits counts as a close for every queue that its
first entry does not open (R419). -/
def State.gateOpen (s : State) (p q : Nat) : Option Nat :=
  let x := s.port p
  if !s.gated p then none
  else
    let now := s.time64
    let r := x.gates.openFor q now
    match x.waiting with
    | none => r
    | some (l, start) =>
      let till := (start - now).toNat
      let reaches := match r with
        | none => true
        | some n => decide (till ≤ n)
      if !reaches then r
      else if bit (l.entries.headD (0, 0)).1 q then (l.openFor q start).map (fun n => till + n) else some till

/-- The frame ends before the gate closes (R418). -/
def fitsGate (dur : Nat) (open_ : Option Nat) : Bool :=
  match open_ with
  | none => true
  | some n => decide (dur < n)

/-! ### Transmission (R409, R411, R418) -/

/-- The queue of a base-link message (R309). -/
def linkQueue : LinkMsg → Nat
  | .stop _ | .stopRequest | .release => 7
  | .heartbeat _ _ => 6
  | .claim _ _ | .record _ _ | .trackDone _ _ | .taskRelease _ _ | .reservation _ _ => 5
  | .segment _ _ | .segmentAck _ _ => 4
  | .painted _ _ _ | .copy _ _ => 3
  | .dictRequest _ _ | .dictResponse _ | .activation _ => 2

/-- The bytes of the frame of a message: 64 on queue 7 (R377), else open between the bounds of Ethernet (log 39). -/
def linkFrame (m : Nat × LinkMsg) : TxFrame :=
  let q := linkQueue m.2
  { len := if q = 7 then 64 else max 64 (min 1522 (Config.linkBytes q)), msg := some m }

/-- A queue of a port. -/
def EthPort.queue (x : EthPort) (q : Nat) : List TxFrame := Tab.get [] x.queues q

/-- The bytes of a queue. -/
def queueBytes (l : List TxFrame) : Nat := (l.map (·.len)).foldl (· + ·) 0

/-- A frame enters its queue where the 16 KiB hold it (R409); else its producer is held back. -/
def EthPort.offer (x : EthPort) (q : Nat) (f : TxFrame) : Option EthPort :=
  if q < 8 ∧ f.len ≤ 1522 ∧ queueBytes (x.queue q) + f.len ≤ 16384 then some { x with queues := Tab.put [] x.queues q (x.queue q ++ [f]) } else none

/-- Messages that wait for the base link enter the queues, those that do not fit wait on. -/
def offerLinks : List (Nat × LinkMsg) → EthPort → EthPort × List (Nat × LinkMsg)
  | [], x => (x, [])
  | m :: t, x =>
    match x.offer (linkQueue m.2) (linkFrame m) with
    | some y => offerLinks t y
    | none => let r := offerLinks t x; (r.1, m :: r.2)

/-- The queue of a frame of the device's own protocols: PTP or another (R309, R411). -/
def ownQueue (ptp : Bool) : Nat := if ptp then 6 else 2

/-- Frames of the device's protocols enter their queues in turn; one that does not fit holds its producer back (R31). -/
def offerFrames (l : List (Bool × Nat)) (x : EthPort) : EthPort × List (Bool × Nat) :=
  l.foldl (fun r f =>
    if r.2.any (fun g => g.1 == f.1) then (r.1, r.2 ++ [f])
    else match r.1.offer (ownQueue f.1) { len := f.2, msg := none } with
      | some y => (y, r.2)
      | none => (r.1, r.2 ++ [f])) (x, [])

/-- The producers of a port offer frames; in SNAPSHOT, and in a unit that transmits nothing, they have stopped (R416, R592, R597). -/
def State.produce (s : State) (p : Nat) (l : List (Bool × Nat)) : State :=
  if s.mode.current = .snapshot ∨ s.silent = true then s
  else s.setPort p { s.port p with held := (s.port p).held ++ l.filter (fun f => decide (f.2 ≤ 1522)) }

/-- The heads that no open span can hold are discarded and counted (R418). -/
def State.dropOversize (s : State) (p : Nat) : State :=
  (List.range 8).foldl (fun s q =>
    let x := s.port p
    match x.queue q with
    | [] => s
    | f :: t =>
      if s.gated p && !fitsGate (wireNs x.speed f.len) (x.gates.longest q) then
        (s.setPort p { x with queues := Tab.put [] x.queues q t }).incrAt Obj.gateOversize p
      else s) s

/-- The open queue with the highest number that holds a frame (R417). -/
def State.selectQueue (s : State) (p : Nat) : Option Nat :=
  ((List.range 8).reverse).find? (fun q => !((s.port p).queue q).isEmpty && decide (s.gateOpen p q ≠ some 0))

/-- The port may start a frame: link up, not paused, nothing in flight. -/
def State.portFree (s : State) (p : Nat) : Bool :=
  let x := s.port p
  s.operating && decide (p < 2) && x.linkUp && !x.disabling && decide (x.busyUntil ≤ s.now) &&
    (match x.pausedUntil with
     | none => true
     | some t => decide (t ≤ s.now))

/-- Frames held back enter the transmit queues of a port that is up. -/
def State.fillQueues (s : State) (p : Nat) : State :=
  let (x, rest) := offerFrames (s.port p).held (s.port p)
  s.setPort p { x with held := rest }

/-- A queued frame starts where it ends before its gate closes (R418). offered holds the frames, for PTP or not and with their length,
that the device's protocols have for the port; while it is down they are held back (R414). -/
def State.ethFrameTx (s : State) (p : Nat) (offered : List (Bool × Nat)) : State :=
  if !s.operating ∨ 2 ≤ p then s
  else
  let s := s.produce p offered
  if s.silent || decide (s.mode.current = .snapshot) || !(s.port p).linkUp || (s.port p).disabling then s
  else
    let s := if s.baseLinkOn p then
        let (x, rest) := offerLinks s.fleet.linkOut (s.port p)
        (s.setPort p x).updFleet (fun f => { f with linkOut := rest })
      else s
    let s := (s.fillQueues p).dropOversize p
    if !s.portFree p then s
    else match s.selectQueue p with
      | none => s
      | some q =>
        let x := s.port p
        match x.queue q with
        | [] => s
        | f :: t =>
          let dur := wireNs x.speed f.len
          if fitsGate dur (s.gateOpen p q) then
            s.setPort p { x with queues := Tab.put [] x.queues q t, busyUntil := s.now + 2 * dur, wire := some (q, f) }
          else s

/-! ### Reception (R409, R410) -/

/-- A port receives: after BOOT with its link up; in SNAPSHOT only where an active filter names it (R416). -/
def State.portReceives (s : State) (p : Nat) : Bool :=
  s.operating && decide (p < 2) && (s.port p).linkUp &&
    (decide (s.mode.current ≠ .snapshot) || s.wakeListens p)

/-- A received frame with its FCS: passed on into the receive buffer, or discarded whole and counted (R410). drained is what
consumers have taken from the buffer meanwhile. -/
def State.ethFrameRx (s : State) (p : Nat) (frame : List Byte) (drained : Nat) : State :=
  if !s.portReceives p then s
  else
    let x := { s.port p with rxFill := (s.port p).rxFill - drained }
    let s := s.setPort p x
    if !crc32Ok frame ∨ 1522 < frame.length then s.incrAt Obj.rxDropped p
    else if 131072 < x.rxFill + frame.length then (s.setPort p { x with rxOverflow := true }).incrAt Obj.rxDropped p
    else s.setPort p { x with rxFill := x.rxFill + frame.length }

/-- The link as its PHY reports it (R408): a half-duplex link is held down. -/
def State.ethLinkChange (s : State) (p : Nat) (answers up fullDuplex : Bool) (speed : Nat) : State :=
  let x := s.port p
  if !(s.operating && decide (p < 2) && x.powered) then s
  else if !answers then s.setPort p { x with mdioFault := true }
  else
    let ok := up && fullDuplex
    let s := if p = 0 ∧ ok = false then s.rtcmClientsLost else s
    s.setPort p { x with mdioFault := false, duplexRefused := up && !fullDuplex, linkUp := ok, speed := if ok then min speed 2 else x.speed
                         pausedUntil := if ok then x.pausedUntil else none, pauseSent := x.pauseSent && ok
                         repeatDue := if ok then x.repeatDue else none }

/-! ### PAUSE (R412, R413) -/

/-- A PAUSE frame of Annex 31B (R412): its pause_time where the FCS is good, the destination is 01-80-C2-00-00-01 or the port's own address,
the type 0x8808 and the opcode 0x0001; log 151. -/
def State.pauseTime (s : State) (p : Nat) (frame : List Byte) : Option Nat :=
  let dest := slice frame 0 6
  let be := fun n => fieldU frame n 1 * 256 + fieldU frame (n + 1) 1
  if crc32Ok frame && (decide (dest = [0x01, 0x80, 0xC2, 0x00, 0x00, 0x01]) || decide (dest = s.octAt Obj.macAddress p)) &&
      decide (be 12 = 0x8808) && decide (be 14 = 1) then some (be 16) else none

/-- A PAUSE frame: obeyed with bit 0 of PauseMode, counted on the base link port. A frame in flight completes first; a
running pause is replaced from now. -/
def State.pauseTaken (s : State) (p time : Nat) : State :=
  if s.baseLinkOn p then s.incrAt Obj.pauseReceived p
  else if !bit (s.regNAt Obj.pauseMode p) 0 then s
  else
    let s := s.incrAt Obj.pauseReceived p
    let x := s.port p
    let bits := time * 512 * byteNs x.speed / 4
    let running := match x.pausedUntil with
      | none => false
      | some t => decide (s.now < t)
    let from_ := if running then s.now else max s.now x.busyUntil
    s.setPort p { x with pausedUntil := if time = 0 then none else some (from_ + bits) }

/-- A frame that may be PAUSE is received; in SNAPSHOT the port only receives (R416). -/
def State.pauseRx (s : State) (p : Nat) (frame : List Byte) : State :=
  if !s.portReceives p ∨ s.mode.current = .snapshot then s
  else match s.pauseTime p frame with
    | some t => s.pauseTaken p t
    | none => s.ethFrameRx p frame 0

/-- The pause ends. -/
def State.pauseEnd (s : State) (p : Nat) : State :=
  let x := s.port p
  if s.due x.pausedUntil then s.setPort p { x with pausedUntil := none } else s

/-- The port sends PAUSE: it is up, may transmit, and bit 1 of PauseMode is set (R413). -/
def State.mayPause (s : State) (p : Nat) : Bool :=
  s.portReceives p && !s.silent && decide (s.mode.current ≠ .snapshot) && bit (s.regNAt Obj.pauseMode p) 1

/-- Half the pause time of a PAUSE frame sent, ticks. -/
def State.halfPause (s : State) (p : Nat) : Nat := s.regNAt Obj.pauseQuanta p * 512 * byteNs (s.port p).speed / 4 / 2

/-- A PAUSE frame goes: after the frame in flight, ahead of every queue and regardless of the gates (R413). -/
def State.sendPause (s : State) (p quanta : Nat) (due : Option Nat) : State :=
  let x := s.port p
  s.setPort p { x with pauseSent := decide (quanta ≠ 0), pauseOut := some quanta, repeatDue := due,
                       busyUntil := max s.now x.busyUntil + 2 * wireNs x.speed 64 }

/-- The receive buffer passes 75 % full, or falls below 50 %: PAUSE goes out (R413). drained is what consumers have taken. -/
def State.pauseTx (s : State) (p drained : Nat) : State :=
  if !s.mayPause p then s
  else
    let x := { s.port p with rxFill := (s.port p).rxFill - drained }
    let s := s.setPort p x
    if !x.pauseSent ∧ 98304 < x.rxFill then s.sendPause p (s.regNAt Obj.pauseQuanta p) (some (s.now + s.halfPause p))
    else if x.pauseSent ∧ x.rxFill < 65536 then s.sendPause p 0 none
    else s

/-- Half the pause time has passed with the buffer above 50 %: PAUSE is repeated. -/
def State.pauseRepeat (s : State) (p : Nat) : State :=
  let x := s.port p
  if s.mayPause p && x.pauseSent && s.due x.repeatDue && decide (65536 < x.rxFill) then
    s.sendPause p (s.regNAt Obj.pauseQuanta p) (some (s.now + s.halfPause p))
  else s

/-! ### Disable and enable (R414) -/

/-- EthEnable 0x00 sets DISABLING on a port that is up; 0x01 cancels it, or powers the PHY up again. -/
def State.ethEnableWrite (s : State) (q : Sess) (v : Int) : State :=
  s.writeCommand q Obj.ethEnable v (fun s =>
    let p := s.instanceOf q Obj.ethEnable
    let s := s.setRegAt Obj.ethEnable p v
    let x := s.port p
    if v = 0 then .ok (if x.powered then s.setPort p { x with disabling := true } else s)
    else if x.disabling then .ok (s.setPort p { x with disabling := false })
    else if !x.powered ∧ s.ethInterface p ≠ 0 then .ok (s.setPort p { x with powered := true })
    else .ok s)

def State.ethDisable (s : State) (q : Sess) : State := s.ethEnableWrite q 0
def State.ethEnable (s : State) (q : Sess) : State := s.ethEnableWrite q 1

/-- The frames in flight are complete: queues flushed, PHY powered down, LINK_UP cleared. -/
def State.ethDisableComplete (s : State) (p : Nat) : State :=
  let x := s.port p
  if x.disabling ∧ x.busyUntil ≤ s.now then
    (if p = 0 then s.rtcmClientsLost else s).setPort p { x with disabling := false, powered := false, linkUp := false, queues := [], pausedUntil := none, pauseSent := false, repeatDue := none }
  else s

/-! ### Wake filters (R415, R416) -/

/-- The frame bytes that a mask selects, ascending. -/
def maskBytes (mask frame : List Byte) : List Byte :=
  ((List.range 128).zip frame).filterMap (fun x => if bit (mask.getD (x.1 / 8) 0).toNat (x.1 % 8) then some x.2 else none)

/-- The frame, its FCS correct, matches a filter. -/
def State.filterMatches (s : State) (p : Nat) (frame : List Byte) (n : Nat) : Bool :=
  let mask := s.octAt Obj.wakeMask n
  let highest := ((List.range 128).filter (fun k => bit (mask.getD (k / 8) 0).toNat (k % 8))).getLastD 0
  s.filterActive p n && crc32Ok frame && decide (highest + 1 ≤ frame.length) &&
    decide ((crc32 (maskBytes mask frame)).toNat = s.regNAt Obj.wakeCrc n)

/-- A frame matches a wake filter: WakeLast takes the lowest, WAKE_MATCH is set, and in SNAPSHOT the module returns to ROVER. -/
def State.wakeMatch (s : State) (p : Nat) (frame : List Byte) : State :=
  if !s.portReceives p then s
  else match (List.range 16).find? (s.filterMatches p frame) with
    | none => s
    | some n =>
      let s := (s.setReg Obj.wakeLast n).setPort p { s.port p with wakeMatch := true }
      if s.mode.current = .snapshot then s.leaveSnapshot else s

/-! ### Gate lists (R419) -/

/-- The list that a port's objects hold. -/
def State.gateDraft (s : State) (p : Nat) : GateList :=
  { entries := (List.range (s.regNAt Obj.gateEntryCount p)).map (fun k =>
      let e := s.octAt Obj.gateEntry (p * 256 + k)
      (fieldU e 0 1, fieldU e 4 4)), base := s.regAt Obj.gateBaseTime p }

/-- GateResult of a commit: the lowest code that refuses it. -/
def State.gateCode (s : State) (p : Nat) : Nat :=
  let l := s.gateDraft p
  let n := s.regNAt Obj.gateEntryCount p
  if l.entries.any (fun e => decide (e.2 < 64) || decide (e.2 % 8 ≠ 0)) ∨ l.cycle < 1000 ∨ 1000000000 < l.cycle then 2
  else if s.baseLinkOn p && l.entries.any (fun e => !bit e.1 7) then 3
  else if n = 0 ∨ 256 < n ∨ (List.range n).any (fun k => decide (fieldU (s.octAt Obj.gateEntry (p * 256 + k)) 1 3 ≠ 0)) = true then 4
  else 0

/-- B + n × cycle with the least n, from 0 on, at least 1 ms after now. -/
def State.gateStart (s : State) (l : GateList) : Int :=
  let from_ := s.time64 + 1000000
  if from_ ≤ l.base then l.base else l.base + -(-(from_ - l.base) / max 1 (l.cycle : Int)) * l.cycle

/-- GateCommit checks the list and schedules it; a second commit replaces the one that waits. -/
def State.gateCommit (s : State) (q : Sess) (v : Int) : State :=
  s.writeCommand q Obj.gateCommit v (fun s =>
    let p := s.instanceOf q Obj.gateCommit
    let c := s.gateCode p
    let s := s.setRegAt Obj.gateResult p c
    let l := s.gateDraft p
    .ok (if c = 0 then s.setPort p { s.port p with waiting := some (l, s.gateStart l) } else s))

/-- A list that waits takes effect at its start instant. -/
def State.gateListStart (s : State) (p : Nat) : State :=
  match (s.port p).waiting with
  | none => s
  | some (l, start) =>
    if s.time64 < start then s else (s.setPort p { s.port p with gates := l, waiting := none }).setRegAt Obj.gateResult p 1

/-- EthStatus (R432). -/
def State.ethStatus (s : State) (p : Nat) : Nat :=
  let x := s.port p
  flag x.linkUp 0 + (if x.linkUp then x.speed * 2 else 0) + flag x.duplexRefused 3 + flag x.disabling 4 + flag x.pausedUntil.isSome 5 +
    flag x.pauseSent 6 + flag x.rxOverflow 7 + flag x.wakeMatch 8 + flag x.waiting.isSome 9 + flag x.mdioFault 10

/-! ### PTP (R421 to R423) -/

/-- PTP on a port. -/
def State.ptpPort (s : State) (p : Nat) : PtpPort := Tab.get PtpPort.initial s.net.ptp p

/-- Puts PTP of a port. -/
def State.setPtp (s : State) (p : Nat) (x : PtpPort) : State := s.updNet (fun n => { n with ptp := Tab.put PtpPort.initial n.ptp p x })

/-- PTP runs on a port. -/
def State.ptpRuns (s : State) (p : Nat) : Bool := s.operating && decide (s.mode.current ≠ .snapshot) && decide (p < 2) && bit (s.regN Obj.ptpPorts) p && (s.port p).linkUp

/-- Mean of a list of offsets, toward minus infinity. -/
def meanOf (l : List Int) : Int := l.foldl (· + ·) 0 / max 1 (l.length : Int)

/-- |mean| + 3 × rms + 25 ns of the last Syncs (R423). -/
def ptpUncertainty (l : List Int) : Nat :=
  let m := meanOf l
  let rms := isqrt ((l.map (fun x => x * x)).foldl (· + ·) 0 / max 1 (l.length : Int)).toNat
  m.natAbs + 3 * rms + 25

/-- The rate of the master by the last Syncs, in the unit of RATE (log 176). -/
def ptpRate (l : List (Int × Nat)) (learned : Int) : Int :=
  match l, l.getLast? with
  | a :: _, some b => if a.2 < b.2 then (b.1 - a.1) * 2 ^ 41 / ((b.2 : Int) - a.2) - 2 ^ 40 else learned
  | _, _ => learned

/-- What a port's PTP slave says: the error of reported time and the rate of the master. -/
def State.ptpReading (s : State) (p : Nat) : Int × Int :=
  (-(meanOf (s.ptpPort p).offsets), ptpRate (s.ptpPort p).syncs s.clk.learnedRate)

/-- The PTP source is lost. -/
def State.ptpLost (s : State) (p : Nat) : State := (s.setPtp p { s.ptpPort p with qualified := false }).loseSource .ptp (fun _ => none)

/-- A time-stamp of a port, in half ns of reported time: the count converted, and moved by the asymmetry of the direction (R386, R387). -/
def State.ptpStamp (s : State) (p : Nat) (sent : Bool) (tick : Nat) : Int :=
  2 * timeOf s.clk tick + s.reg (match p, sent with
    | 0, false => Obj.eth0RxAsym
    | 0, true => Obj.eth0TxAsym
    | _, false => Obj.eth1RxAsym
    | _, true => Obj.eth1TxAsym)

/-- TAI from the 1970 epoch of PTP to that of TIME64 (R422), half ns. -/
def ptpEpoch : Int := 2 * 946684800000000000

/-- A Sync in the SLAVE state (9): offsetFromMaster, and the lock it gives or takes (R423). -/
def State.ptpSync (s : State) (p : Nat) (origin : Int) (tick : Nat) : State :=
  let x := s.ptpPort p
  let arrival := s.ptpStamp p false tick
  let off := (arrival - (2 * origin - ptpEpoch) - x.delay) / 2
  let l := (x.offsets ++ [off]).drop (x.offsets.length + 1 - 16)
  let y := { x with offsets := l, syncs := (x.syncs ++ [(origin, tick)]).drop (x.syncs.length + 1 - 16), arrival := arrival }
  let s := (s.setPtp p y).setReg Obj.ptpOffset (clampInt (-2147483648) 2147483647 off)
  if l.length = 16 ∧ l.all (fun o => decide (o.natAbs < 1000)) = true then
    let s := s.setPtp p { y with qualified := true }
    s.qualifySource .ptp (s.ptpReading p).1 (s.ptpReading p).2 (ptpUncertainty l)
  else if x.qualified ∧ l.length = 16 ∧ l.all (fun o => decide (10000 < o.natAbs)) = true then s.ptpLost p
  else s

/-- A PTP message is received, with its time-stamps (R421, R423). -/
def State.ptpMessageRx (s : State) (p : Nat) (m : PtpMessage) : State :=
  if !s.ptpRuns p then s
  else
    let x := s.ptpPort p
    match m with
    | .other => s
    | .announce st =>
      let s := s.setPtp p { x with state := st, announceDue := some (s.now + ticksS 3), offsets := if st = 9 then x.offsets else []
                                   syncs := if st = 9 then x.syncs else [] }
      if x.qualified ∧ st ≠ 9 then s.ptpLost p else s
    | .sync origin tick => if x.state = 9 then s.ptpSync p origin tick else s
    | .delayResponse left received =>
      match x.state, s.reg Obj.ptpProfile, x.syncs.getLast? with
      | 9, 0, some (origin, _) =>
        s.setPtp p { x with delay := ((x.arrival - (2 * origin - ptpEpoch)) + ((2 * received - ptpEpoch) - s.ptpStamp p true left)) / 2 }
      | _, _, _ => s
    | .pdelayResponse left came received returned =>
      if s.reg Obj.ptpProfile = 1 then
        s.setPtp p { x with delay := ((s.ptpStamp p false came - s.ptpStamp p true left) - 2 * (returned - received)) / 2 }
      else s

/-- The announce receipt timeout of 3 intervals expires: the source is lost and the port becomes a master (log 40). -/
def State.ptpAnnounceTimeout (s : State) (p : Nat) : State :=
  let x := s.ptpPort p
  if s.ptpRuns p && s.due x.announceDue then
    let s := s.setPtp p { x with announceDue := none, state := 6, offsets := [], syncs := [] }
    if x.qualified then s.ptpLost p else s
  else s

/-- The clockClass announced (R422). -/
def clockClass : TimeState → Nat
  | .gnss => 6
  | .holdover => 7
  | _ => 248

/-- The interval of a message by profile, ticks (R421). -/
def ptpInterval (profile : Int) : PtpKind → Nat
  | .sync => if profile = 1 then ticksMs 125 else ticksS 1
  | _ => ticksS 1

/-- The message belongs to the port's state and profile: a master sends Sync and Announce, a slave of the default profile
delay requests, a port of 802.1AS peer-delay requests. -/
def ptpSends (profile : Int) (state : Nat) : PtpKind → Bool
  | .sync | .announce => decide (state = 6)
  | .delayRequest => decide (profile = 0) && decide (state = 9)
  | .pdelayRequest => decide (profile = 1)

/-- The place of a kind in the table of instants. -/
def ptpKindCode : PtpKind → Nat
  | .sync => 0 | .announce => 1 | .delayRequest => 2 | .pdelayRequest => 3

/-- Where a PTP message goes (R421): the multicast address and the UDP port of an event or a general message. -/
def State.ptpDest (s : State) (k : PtpKind) : List Byte × Option Nat :=
  if s.reg Obj.ptpProfile = 1 then ([0x01, 0x80, 0xC2, 0x00, 0x00, 0x0E], none)
  else if s.reg Obj.ptpTransport = 1 then ([224, 0, 1, 129], some (if k = .announce then 320 else 319))
  else ([0x01, 0x1B, 0x19, 0x00, 0x00, 0x00], none)

/-- A PTP message goes at its interval, with the timestamp of now (R421, R422). -/
def State.ptpMessageTx (s : State) (p : Nat) (k : PtpKind) : State :=
  let x := s.ptpPort p
  let profile := s.reg Obj.ptpProfile
  let c := ptpKindCode k
  if !s.ptpRuns p ∨ s.silent = true ∨ ptpSends profile x.state k = false ∨ s.now < Tab.get 0 x.due c then s
  else
    let s := s.setPtp p { x with due := Tab.put 0 x.due c (s.now + ptpInterval profile k) }
    let m : PtpSent :=
      { port := p, kind := k, time := (s.ptpStamp p true s.now + ptpEpoch) / 2, clockClass := clockClass s.clk.state, priority := s.regN Obj.ptpPriority1,
        domain := s.regN Obj.ptpDomain, utcOffset := (s.obs.leap.getD 0 : Nat), utcValid := s.obs.leap.isSome, twoStep := decide (s.reg Obj.ptpTwoStep = 1),
        dest := (s.ptpDest k).1, udp := (s.ptpDest k).2 }
    s.updNet (fun n => { n with ptpSent := some m })

/-- PtpPortState: of the lowest enabled port. -/
def State.ptpPortState (s : State) : Nat :=
  match [0, 1].find? (fun p => bit (s.regN Obj.ptpPorts) p) with
  | none => 0
  | some p => (s.ptpPort p).state

end Sys2Proof.Machine
end

