-- ==== Sys2Proof/Machine/Can.lean ====
section
/-!
DEFINITION. Machine/Can.lean: the CAN controllers (R424, R425), the CANopen node but for its dictionary access
(R426 to R428), and the ISOBUS client (R429 to R431).
-/
namespace Sys2Proof.Machine

/-- A controller: 0 CAN0, 1 CAN1. -/
def State.canCtl (s : State) (n : Nat) : CanCtl := Tab.get CanCtl.initial s.net.can n

/-- Puts a controller. -/
def State.setCan (s : State) (n : Nat) (c : CanCtl) : State := s.updNet (fun x => { x with can := Tab.put CanCtl.initial x.can n c })

/-- Changes the CANopen node. -/
def State.updOpen (s : State) (f : CanOpen → CanOpen) : State := s.updNet (fun x => { x with open_ := f x.open_ })

/-- Changes the ISOBUS client. -/
def State.updIso (s : State) (f : Isobus → Isobus) : State := s.updNet (fun x => { x with iso := f x.iso })

/-! ### EMCY (R426, R531) -/

/-- The objects of the error field, newest first. -/
def errorFields : List ObjDesc :=
  [Obj.errorField1, Obj.errorField2, Obj.errorField3, Obj.errorField4, Obj.errorField5, Obj.errorField6, Obj.errorField7, Obj.errorField8]

/-- An EMCY message: sent by a node that has started, and entered in the error field. -/
def State.emergency (s : State) (code : Nat) : State :=
  if s.net.open_.nmt = .off then s
  else
    let old := errorFields.map s.reg
    let s := (errorFields.zip ((code : Int) :: old)).foldl (fun s x => s.setReg x.1 x.2) s
    let s := s.setReg Obj.predefinedErrors (min 8 (s.regN Obj.predefinedErrors + 1) : Nat)
    s.updOpen (fun x => { x with emcy := some code })

/-- ErrorRegister: bit 0 while an EMCY condition stands. -/
def State.errorRegister (s : State) : Nat := flag ((s.canCtl 0).overrun || decide ((s.canCtl 0).err ≠ 0)) 0

/-! ### Controllers (R425, R426) -/

/-- The controllers work after BOOT. -/
def State.canRuns (s : State) (n : Nat) : Bool := s.operating && decide (n < 2)

/-- Error passive; CAN0 sends EMCY 0x8120. -/
def State.canErrorPassive (s : State) (n tec : Nat) : State :=
  if !s.canRuns n ∨ (s.canCtl n).err = 2 then s
  else
    let s := s.setCan n { s.canCtl n with err := 1, tec := min 255 tec }
    if n = 0 then s.emergency 0x8120 else s

/-- Bus-off: recovery begins by itself, or waits for CanRecover. -/
def State.canBusOff (s : State) (n : Nat) : State :=
  if !s.canRuns n then s
  else
    let s := s.setCan n { s.canCtl n with err := 2, tec := 255, recovering := decide (s.regAt Obj.canBusOffRecovery n = 0) }
    if n = 1 then (s.updIso (fun x => { x with reclaim := true })).setReg Obj.isobusAddress 255 else s

/-- CanRecover begins the recovery of a controller that is bus-off. -/
def State.canRecover (s : State) (q : Sess) (v : Int) : State :=
  s.writeCommand q Obj.canRecover v (fun s =>
    let n := s.instanceOf q Obj.canRecover
    let c := s.canCtl n
    .ok (if c.err = 2 then s.setCan n { c with recovering := true } else s))

/-- 128 occurrences of 11 recessive bits end the recovery; CAN0 sends EMCY 0x8140. -/
def State.canRecoveryComplete (s : State) (n : Nat) : State :=
  let c := s.canCtl n
  if s.canRuns n && c.recovering then
    let s := s.setCan n { c with recovering := false, err := 0, tec := 0 }
    if n = 0 then s.emergency 0x8140 else s
  else s

/-- The entry of a consumed heartbeat: node and time in ms. -/
def consumerObj : Nat → ObjDesc
  | 0 => Obj.consumerHeartbeat1 | 1 => Obj.consumerHeartbeat2 | 2 => Obj.consumerHeartbeat3 | _ => Obj.consumerHeartbeat4

/-- A heartbeat of a consumed node was seen (R426). -/
def State.noteHeartbeat (s : State) (f : CanFrame) : State :=
  if f.ext ∨ f.id / 128 ≠ 14 then s
  else
    ((List.range 4).filter (fun k => decide (bits (s.regN (consumerObj k)) 16 7 = f.id % 128) && decide (f.id % 128 ≠ 0))).foldl (fun s k =>
      s.updOpen (fun x => { x with seen := Tab.put none x.seen k (some s.now), lost := x.lost.filter (fun j => decide (j ≠ k)) })) s

/-- The controller takes a frame: of up to 8 bytes, or a CAN FD frame where CanDataRate is not 0; ISOBUS runs on classical frames (R424,
R429). -/
def State.canTakes (s : State) (n : Nat) (f : CanFrame) : Bool :=
  decide (f.data.length ≤ 8) || (decide (f.data.length ≤ 64) && decide (s.bootRegAt Obj.canDataRate n ≠ 0) &&
    !(decide (n = 1) && decide (s.bootReg Obj.isobusEnable = 1)))

/-- A frame enters the FIFO of 128, or is lost and counted (R425). drained frames have been taken out meanwhile. -/
def State.canFrameRx (s : State) (n : Nat) (f : CanFrame) (drained : Nat) : State :=
  let c := { s.canCtl n with fifo := (s.canCtl n).fifo.drop drained }
  if !s.canRuns n ∨ c.err = 2 ∨ s.canTakes n f = false then s
  else if 128 ≤ c.fifo.length then
    let s := (s.setCan n { c with overrun := true }).incrAt Obj.canRxOverrun n
    if n = 0 then s.emergency 0x8110 else s
  else
    let s := s.setCan n { c with fifo := c.fifo ++ [f] }
    if n = 0 then s.noteHeartbeat f else s

/-- CanStatus (R432). -/
def State.canStatus (s : State) (n : Nat) : Nat :=
  let c := s.canCtl n
  c.err % 4 + flag (decide (s.bootRegAt Obj.canDataRate n ≠ 0)) 2 + flag c.overrun 3 + flag c.recovering 4 + min 255 c.tec * 256

/-! ### NMT (R426, R428) -/

/-- The state byte of a heartbeat (CiA 301). -/
def nmtCode : NmtState → Nat
  | .off => 0 | .stopped => 4 | .operational => 5 | .preOperational => 127

/-- The node starts: its boot-up message goes, and it is pre-operational (R426). -/
def State.nodeBoot (s : State) : State :=
  s.updOpen (fun x => { x with nmt := .preOperational, beat := some 0, beatDue := s.now, rpdoWait := [], syncs := [], inhibit := [], timer := [],
                               seen := [], lost := [] })

/-- A communication object at its value in force since BOOT, or its default. -/
def State.resetComm (s : State) : State :=
  let l := (commTable ++ pdoTable).filter (fun o => decide (o.acc = .rws))
  let s := l.foldl (fun s o => s.setReg o (s.bootReg o)) s
  errorFields.foldl (fun s o => s.setReg o 0) (s.setReg Obj.predefinedErrors 0)

/-- Reset Node and Reset Communication act on the communication area and the NMT state alone (R428): its objects take the
values loaded at BOOT, and the node boots (log 42). -/
def State.nmtReset (s : State) : State := if s.net.open_.nmt = .off then s else s.resetComm.nodeBoot

def State.nmtResetNode (s : State) : State := s.nmtReset
def State.nmtResetCommunication (s : State) : State := s.nmtReset

/-- The NMT state of a node that has started changes. -/
def State.setNmt (s : State) (m : NmtState) : State := if s.net.open_.nmt = .off then s else s.updOpen (fun x => { x with nmt := m })

def State.nmtStop (s : State) : State := s.setNmt .stopped
def State.nmtStart (s : State) : State := s.setNmt .operational
def State.nmtPreOperational (s : State) : State := s.setNmt .preOperational

/-- The heartbeat producer sends at its period (R426). -/
def State.canopenHeartbeatTx (s : State) : State :=
  let t := s.regN Obj.producerHeartbeat
  if s.net.open_.nmt = .off ∨ t = 0 ∨ s.now < s.net.open_.beatDue ∨ (s.canCtl 0).err = 2 then s
  else s.updOpen (fun x => { x with beat := some (nmtCode x.nmt), beatDue := s.now + ticksMs t })

/-- A consumed heartbeat is not received within its time. -/
def State.heartbeatConsumerTimeout (s : State) (k : Nat) : State :=
  let t := bits (s.regN (consumerObj k)) 0 16
  match Tab.get none s.net.open_.seen k with
  | none => s
  | some at_ =>
    if k < 4 ∧ t ≠ 0 ∧ at_ + ticksMs t ≤ s.now then
      s.updOpen (fun x => { x with seen := Tab.put none x.seen k none, lost := x.lost.filter (fun j => decide (j ≠ k)) ++ [k] })
    else s

/-! ### ISOBUS (R429 to R431) -/

/-- CAN1 carries ISOBUS on a rover with IsobusEnable in force since BOOT. -/
def State.isoRuns (s : State) : Bool := s.hasRole .rover && decide (s.bootReg Obj.isobusEnable = 1) && decide ((s.canCtl 1).err ≠ 2)

/-- The client holds an address and may send (R429). -/
def State.isoSends (s : State) : Bool := s.isoRuns && decide (s.regN Obj.isobusAddress ≤ 253) && decide (s.net.iso.waitUntil ≤ s.now)

/-- The address claim (R429): got is the address that the claim won. The preferred one, or with a self-configurable NAME
(bit 63) one of 128 to 247; else the device cannot claim: 254. After bus-off 250 ms pass before it sends. -/
def State.addressClaim (s : State) (got : Option Nat) : State :=
  if !s.isoRuns then s
  else
    let self_ := bit (s.regN Obj.isobusName) 63
    let a := match got with
      | some n => if n = s.regN Obj.isobusPreferredAddress ∨ (self_ = true ∧ 128 ≤ n ∧ n ≤ 247) then n else 254
      | none => 254
    let s := s.setReg Obj.isobusAddress a
    s.updIso (fun x => { x with reclaim := false, waitUntil := if x.reclaim then s.now + ticksMs 250 else x.waitUntil })

/-- A TC status message: the 6 s start anew, and a disconnected client with an address reconnects (R430). -/
def State.tcStatusRx (s : State) : State :=
  if !s.isoRuns then s
  else s.updIso (fun x => { x with heard := s.now, connected := x.connected || decide (s.regN Obj.isobusAddress ≤ 253) })

/-- No TC status for 6 s: the client disconnects, and sections 0 to 255 act as if their setpoint were 0b00. -/
def State.tcStatusTimeout (s : State) : State :=
  if s.isoRuns && s.net.iso.connected && decide (s.net.iso.heard + ticksS 6 ≤ s.now) then
    let s := s.updIso (fun x => { x with connected := false, setpoints := [] })
    if s.reg Obj.isobusSectionControl = 1 then s.planOffWhere (fun i => decide (i < 256)) else s
  else s

/-- Setpoint Condensed Work State of 16 sections (DDI 290 to 305): 0b01 leaves the section to the engine, every other value
forces it OFF at the earliest slot (R430, R255). -/
def State.sectionSetpointRx (s : State) (ddi value : Nat) : State :=
  if !(s.isoRuns && s.net.iso.connected) ∨ ddi < 290 ∨ 305 < ddi ∨ s.reg Obj.isobusSectionControl ≠ 1 then s
  else
    (List.range 16).foldl (fun s k =>
      let i := 16 * (ddi - 290) + k
      let v := bits value (2 * k) 2
      let s := s.updIso (fun x => { x with setpoints := Tab.put 0 x.setpoints i v })
      if v = 1 then s else s.planOff i) s

/-- A setpoint rate (DDI 1, 6, 11) writes ProductRate in Q16.16: value × 0.01, or × 10,000 for counts (R430). A value that the
object's range does not hold is not written (log 43). -/
def State.rateSetpointRx (s : State) (ddi product value : Nat) : State :=
  if !(s.isoRuns && s.net.iso.connected) ∨ s.reg Obj.isobusRateControl ≠ 1 ∨ 4 ≤ product then s
  else
    let v : Option Int := if ddi = 1 ∨ ddi = 6 then some (value * 65536 / 100 : Nat) else if ddi = 11 then some (value * 10000 * 65536 : Nat) else none
    match v with
    | none => s
    | some v =>
      if !s.valueOk (productRateObj product) 0 v then s
      else match s.applyNum (productRateObj product) 0 v with
        | .ok s' => s'
        | .error _ => s

/-- The work state of a section (R430). -/
def State.workState (s : State) (i : Nat) : Nat :=
  if !s.secEnabled i then 3
  else if (s.sec i).state = .fault then 2
  else if s.applies s.time64 i then 1 else 0

/-- Actual Condensed Work State of 16 sections (DDI 161 + k). -/
def State.condensedWork (s : State) (k : Nat) : Nat := (List.range 16).foldl (fun m n => m + s.workState (16 * k + n) * 4 ^ n) 0

/-- It is sent on change and at least every 1 s. -/
def State.workStateTx (s : State) : State :=
  let w := (List.range 16).map s.condensedWork
  if !(s.isoSends && s.net.iso.connected) ∨ (w = s.net.iso.work ∧ s.now < s.net.iso.workDue) then s
  else s.updIso (fun x => { x with work := w, workDue := s.now + ticksS 1 })

/-- The actual rate of a product in Q16.16 per ha: Output × 10,000 / (W / 1,000 × v × 60), v in 0.1 mm/s; 0 when W or v is 0
(R430, log 43). -/
def State.actualRate (s : State) (p : Nat) : Int :=
  let out := (s.blv.programs.flatMap (·.loops)).findSome? (fun d => if d.product = some p ∧ d.port = .published then some (s.loop d.loop).out else none)
  let w : Int := s.openWidth p
  let v := match s.kerb.pose with
    | none => 0
    | some x => if s.poseValid x s.time64 then forwardSpeed x else 0
  if w = 0 ∨ v = 0 then 0 else out.getD 0 * 100000000000 / (60 * w * v)

/-- Actual rates go every 1 s. -/
def State.actualRateTx (s : State) : State :=
  if !(s.isoSends && s.net.iso.connected) ∨ s.now < s.net.iso.rateDue then s
  else
    let t := (List.range 4).foldl (fun t p => Tab.put 0 t p (s.actualRate p)) []
    s.updIso (fun x => { x with rates := t, rateDue := s.now + ticksS 1 })

/-- The device description goes up again when a section record changed: the enabled sections of 0 to 255 (R430). -/
def State.ddUpload (s : State) : State :=
  if s.isoSends && s.net.iso.connected && s.net.iso.ddDue then
    s.updIso (fun x => { x with ddDue := false, ddSections := s.enabledSections.filter (fun i => decide (i < 256)) })
  else s

/-- A section record changed. -/
def State.noteDd (s : State) : State := s.updIso (fun x => { x with ddDue := true })

/-- A position PGN of a bit of IsobusPositionOutput goes at its rate from the newest pose (R431). -/
def State.positionPgnTx (s : State) (n : Nat) : State :=
  match s.nav.pose with
  | none => s
  | some p =>
    if !s.isoSends ∨ 4 ≤ n ∨ bit (s.regN Obj.isobusPositionOutput) n = false ∨ s.now < Tab.get 0 s.net.iso.posDue n then s
    else
      let t := if n = 2 then ticksS 1 else ticksMs 100
      s.updIso (fun x => { x with posDue := Tab.put 0 x.posDue n (s.now + t), posSent := some (n, p) })

end Sys2Proof.Machine
end

