-- ==== Sys2Proof/Machine/HostPort.lean ====
section
/-!
DEFINITION. Machine/HostPort.lean: the host port (R491 to R502): headers, register reads and writes, pops and pushes, and
the mailbox as registers. What a mailbox request does is the dictionary's (R513).
-/
namespace Sys2Proof.Machine

/-- Changes the port. -/
def State.updHost (s : State) (f : HostPort → HostPort) : State := { s with host := f s.host }

/-- The port answers (R492): bank B is in a window of R62, so its outputs leave Hi-Z, and no transaction holds it. -/
def State.hostReady (s : State) : Bool := s.running && s.boot.vioB33.isSome && s.host.stall.isNone

/-! ### Headers (R493, R495) -/

/-- A header: its HCRC and length hold, and its command, address and word count. -/
structure HostHeader where
  ok : Bool
  cmd : Nat
  addr : Nat
  count : Nat
  deriving DecidableEq, Repr

/-- Reads the five bytes. -/
def parseHeader (h : List Byte) : HostHeader :=
  { ok := decide (h.length = 5) && decide ((crc8 (h.take 4)).toNat = fieldU h 4 1), cmd := fieldU h 0 1, addr := fieldU h 1 2,
    count := fieldU h 3 1 + 1 }

/-- The queue whose Q_DATA an address names. -/
def dataQueue (addr : Nat) : Option Nat :=
  if 0x1000 ≤ addr ∧ addr < 0x2000 ∧ addr % 0x40 = 0 then some ((addr - 0x1000) / 0x40) else none

/-- The device drives nothing. -/
def State.driveNothing (s : State) : State := s.updHost (fun h => { h with out := [], outStatus := none, outCrc := none })

/-- A transaction ends at its header: XFER_ERR and HOST_XFER_ERRS (R495). -/
def State.headerRefused (s : State) : State :=
  (s.driveNothing.updHost (fun h => { h with xferErrs := (h.xferErrs + 1) % 2 ^ 32 })).raiseIrq irqXferErr

/-! ### Registers (R499, R500, R502) -/

/-- SYS_STATUS. -/
def State.sysStatus (s : State) : Nat :=
  s.boot.roleBits % 4 + flag (s.boot.disagree || s.boot.reserved) 2 + flag s.boot.bankFault 3 + flag s.power.vholdFault 4
  + flag s.boot.imageWait 5 + flag s.boot.imageRejected 6 + flag s.mode.testRoot 7 + flag s.gnss.navCopy.stopped 8
  + flag s.obs.copy.stopped 9 + flag s.baseRef.copy.stopped 10 + flag s.clk.evtCopy.stopped 11 + flag s.meter.copy.stopped 12
  + flag (decide (s.mbox.state = .busy)) 13 + flag (decide (s.mode.current = .halt)) 14 + flag s.clk.valid 15

/-- MODE_STATUS. -/
def State.modeStatus (s : State) : Nat :=
  modeCode s.mode.current + modeCode s.mode.prev * 2 ^ 4 + haltCode s.mode.haltCause * 2 ^ 8 + flag s.mode.transition.isSome 16
  + flag s.isWorker 17

/-- The code of STATE in MBOX_STATUS. -/
def mboxCode : MboxState → Nat
  | .idle => 0
  | .busy => 1
  | .done => 2

/-- A register of a queue window. -/
def queueReg (q : QueueState) (off : Nat) : Nat :=
  match off with
  | 0x04 => min q.words.length 0xFFFFF + (min q.packets 4095) * 2 ^ 20
  | 0x08 => min q.headLength 65535
  | 0x0C => flag q.toDevice 0 + flag q.lengthSlot 1 + flag q.open_ 2 + q.capacity % 2 ^ 20 * 2 ^ 8
  | 0x10 => flag q.lastE 0 + flag q.lastP 1 + flag q.lastAborted 2
  | 0x14 => q.poison
  | 0x18 => q.aborts
  | _ => 0

/-- QUEUE_PENDING: the queues from a number on that hold a whole packet. -/
def State.queuePending (s : State) (from_ : Nat) : Nat :=
  (List.range 32).foldl (fun n i => n + flag (decide (0 < (s.queue (from_ + i)).packets)) i) 0

/-- Four bytes of MBOX_DATA. -/
def Mailbox.word (m : Mailbox) (off : Nat) : Nat := leNat ((List.range 4).map (fun i => Tab.get 0 m.data (off + i)))

/-- The silicon revision in ASCII (R10, R499). -/
def revLetterByte : Byte := BitVec.ofNat 8 (0x41 + Config.revLetter.val)
def revDigitByte : Byte := BitVec.ofNat 8 (0x30 + Config.revDigit.val)

/-- A register of the host space by address; 0 where no register stands (R496). -/
def State.hostReg (s : State) (addr : Nat) : Nat :=
  match addr with
  | 0x0000 => 0x4810 + revLetterByte.toNat * 2 ^ 16 + revDigitByte.toNat * 2 ^ 24
  | 0x0004 => s.sysStatus
  | 0x0008 => s.modeStatus
  | 0x000C => s.power.resetCause
  | 0x0010 => s.host.irqStatus.toNat
  | 0x0014 => s.host.irqEnable.toNat
  | 0x0018 => flag s.host.quad 0
  | 0x001C => s.host.xferErrs
  | 0x0020 => s.host.queueMask.toNat % 2 ^ 32
  | 0x0024 => s.host.queueMask.toNat / 2 ^ 32
  | 0x0028 => s.queuePending 0
  | 0x002C => s.queuePending 32
  | 0x0100 => s.mbox.cmd.toNat
  | 0x0104 => s.mbox.arg.toNat
  | 0x0108 => s.mbox.len % 256 + flag s.mbox.more 31
  | 0x010C => s.mbox.tag
  | 0x0110 => mboxCode s.mbox.state + flag s.mbox.ignored 2 + flag s.mbox.cancelled 3 + s.mbox.respTag % 65536 * 2 ^ 4
  | 0x0114 => s.mbox.abort
  | a =>
    if a % 4 ≠ 0 then 0
    else if 0x0120 ≤ a ∧ a < 0x0200 then s.mbox.word (a - 0x0120)
    else if 0x1000 ≤ a ∧ a < 0x2000 then queueReg (s.queue ((a - 0x1000) / 0x40)) (a % 0x40)
    else 0

/-! ### The mailbox starts a request (R500, R501) -/

/-- Changes the mailbox. -/
def State.updMbox (s : State) (f : Mailbox → Mailbox) : State := { s with mbox := f s.mbox }

/-- The busy request ends as cancelled: not applied (R501). What MBOX_ABORT then holds is open (log 45). -/
def State.cancelMailbox (s : State) : State :=
  if s.mbox.state ≠ .busy then s
  else
    let (a, s) := s.drawBits 32
    let s := s.updSession .host (fun x => { x with waiting := [], serving := none, saveWait := none })
    let s := { s with remotes := s.remotes.filter (fun r => decide (r.from_ ≠ Sess.host)) }
    (s.updMbox (fun m => { m with state := .done, cancelled := true, respTag := m.tag, abort := a.toNat })).raiseIrq irqMboxDone

/-- A request enters the mailbox: refused while one is busy, CMD_IGNORED set (R501). -/
def State.mboxRequest (s : State) (r : Request) : State :=
  if s.mbox.state = .busy then s.updMbox (fun m => { m with ignored := true })
  else
    (s.updMbox (fun m => { m with state := .busy, ignored := false, cancelled := false })).updSession .host (fun x => { x with waiting := [r] })

/-- A write of MBOX_CMD starts the request that the other mailbox registers describe, or cancels the busy one. -/
def State.mboxCommand (s : State) (w : Word32) : State :=
  if w.toNat % 256 = 5 then (s.updMbox (fun m => { m with cmd := w })).cancelMailbox
  else if s.mbox.state = .busy then s.updMbox (fun m => { m with ignored := true })
  else
    let s := s.updMbox (fun m => { m with cmd := w })
    s.mboxRequest { op := w.toNat % 256, tag := s.mbox.tag, addr := w.toNat / 2 ^ 16 * 256 + w.toNat / 256 % 256, more := s.mbox.more,
                    base := 255, offset := s.mbox.arg.toNat, data := (List.range (min s.mbox.len 224)).map (fun i => Tab.get 0 s.mbox.data i),
                    since := s.now }

/-! ### Register writes (R496, R499, R500) -/

/-- Flags of IRQ_STATUS written with 1 clear, except those that hardware sets in the same CK_IO cycle (R20). -/
def State.clearIrq (s : State) (clear raised : BitVec 9) : State :=
  s.updHost (fun h => { h with irqStatus := (h.irqStatus &&& ~~~(clear &&& ~~~s.freshIrq)) ||| raised, irqFresh := s.freshIrq ||| raised, irqAt := some s.now })

/-- One word written to the host space; RO and absent registers ignore it. -/
def State.hostWriteReg (s : State) (addr : Nat) (w : Word32) : State :=
  match addr with
  | 0x0010 => s.clearIrq (w.truncate 9) 0
  | 0x0014 => s.updHost (fun h => { h with irqEnable := w.truncate 9 })
  | 0x0018 => s.updHost (fun h => { h with quad := w.getLsbD 0 })
  | 0x0020 => s.updHost (fun h => { h with queueMask := (h.queueMask &&& 0xFFFFFFFF00000000) ||| w.zeroExtend 64 })
  | 0x0024 => s.updHost (fun h => { h with queueMask := (h.queueMask &&& 0x00000000FFFFFFFF) ||| (w.zeroExtend 64 <<< 32) })
  | 0x0100 => s.mboxCommand w
  | 0x0104 => s.updMbox (fun m => { m with arg := w })
  | 0x0108 => s.updMbox (fun m => { m with len := w.toNat % 256, more := w.getLsbD 31 })
  | 0x010C => s.updMbox (fun m => { m with tag := w.toNat % 65536 })
  | a =>
    if 0x0120 ≤ a ∧ a < 0x0200 ∧ a % 4 = 0 then s.updMbox (fun m => { m with data := putBytes m.data (a - 0x0120) (leBytes 4 w.toNat) })
    else s

/-- Words written from an address upward, in order. -/
def writeWords : List Word32 → Nat → State → State
  | [], _, s => s
  | w :: t, a, s => writeWords t (a + 4) (s.hostWriteReg a w)

/-! ### Transactions -/

/-- A READ: COUNT words from the address upward with their CRC-16 (R495). -/
def State.hostRead (s : State) (header : List Byte) : State :=
  if !s.hostReady then s
  else
    let h := parseHeader header
    if !(h.ok && decide (h.cmd = 3)) then s.headerRefused
    else
      -- a burst at Q_DATA stays there, where a READ finds no register (R496, R502)
      let step := if (dataQueue h.addr).isSome then 0 else 4
      let data := (List.range h.count).map (fun i => BitVec.ofNat 32 (s.hostReg (h.addr + step * i)))
      s.updHost (fun p => { p with out := data, outStatus := none, outCrc := some (crc16 (wordBytes data)) })

/-- The host's words are whole and its CRC-16 passes (R496). -/
def crcPasses (h : HostHeader) (data : List Word32) (crc : BitVec 16) : Bool :=
  decide (data.length = h.count) && decide (crc16 (wordBytes data) = crc)

/-- A WRITE is applied once the host's CRC has passed; else nothing is, and XFER_ERR is set (R496). -/
def State.hostWrite (s : State) (header : List Byte) (data : List Word32) (crc : BitVec 16) : State :=
  if !s.hostReady then s
  else
    let h := parseHeader header
    if !(h.ok && decide (h.cmd = 2)) then s.headerRefused
    else if crcPasses h data crc then writeWords data h.addr s.driveNothing
    else s.driveNothing.raiseIrq irqXferErr

/-- The navigation data that wait for the host go to their queue as far as they fit. -/
def State.drainNav (s : State) : State :=
  let r := drainBacklog (s.regN Obj.navHostQueue) s.gnss.navCopy.backlog s
  { r.2 with gnss := { r.2.gnss with navCopy := { r.2.gnss.navCopy with backlog := r.1 } } }

/-- The observables that wait for the host go to their queue as far as they fit. -/
def State.drainObs (s : State) : State :=
  let r := drainBacklog (s.regN Obj.obsHostQueue) s.obs.copy.backlog s
  { r.2 with obs := { r.2.obs with copy := { r.2.obs.copy with backlog := r.1 } } }

/-- The RTCM messages that wait for the host go to their queue as far as they fit. -/
def State.drainRtcm (s : State) : State :=
  let r := drainBacklog (Config.rtcmQueue) s.baseRef.copy.backlog s
  { r.2 with baseRef := { r.2.baseRef with copy := { r.2.baseRef.copy with backlog := r.1 } } }

/-- The capture records that wait for the host go to their queue as far as they fit. -/
def State.drainEvt (s : State) : State :=
  let r := drainBacklog (s.regN Obj.evtHostQueue) s.clk.evtCopy.backlog s
  { r.2 with clk := { r.2.clk with evtCopy := { r.2.clk.evtCopy with backlog := r.1 } } }

/-- The interval records that wait for the host go to their queue as far as they fit. -/
def State.drainIntervals (s : State) : State :=
  let r := drainBacklog (s.regN Obj.intervalHostQueue) s.meter.copy.backlog s
  { r.2 with meter := { r.2.meter with copy := { r.2.meter.copy with backlog := r.1 } } }

/-- What waits in the host copies goes to their queues as far as it fits (R138). -/
def State.drainCopies (s : State) : State := s.drainNav.drainObs.drainRtcm.drainEvt.drainIntervals

/-- A POP that HCS_N ends after n whole words: those words are taken, and no status word is sent (R497, R498). -/
def State.cutPop (s : State) (q n : Nat) : State :=
  let (x, got, _, _) := popWords n (s.queue q) []
  let s := (s.setQueue q x).updHost (fun h => { h with out := got.map (·.data), outStatus := none, outCrc := none })
  let s := if got.any (·.p) then s.raiseIrq irqPoisonRead else s
  if got ≠ [] ∧ x.lastAborted then s.raiseIrq irqAbortRead else s

/-- A POP (R497): up to COUNT words of one packet, or as many as HCS_N lets pass. -/
def State.pop (s : State) (header : List Byte) (cut : Option Nat) : State :=
  if !s.hostReady then s
  else
    let h := parseHeader header
    match dataQueue h.addr with
    | none => s.headerRefused
    | some q =>
      if !(h.ok && decide (h.cmd = 0x0B) && (s.queue q).open_ && !(s.queue q).toDevice) then s.headerRefused
      else
        let s := match cut with
          | some n => s.cutPop q (min n h.count)
          | none => s.driveNothing.runPop q h.count []
        s.drainCopies

/-- A PUSH or PUSH_END (R494 to R496): it waits for free space for all its words, and is applied where the CRC passes. -/
def State.pushCommand (s : State) (cmd : Nat) (header : List Byte) (data : List Word32) (crc : BitVec 16) : State :=
  if !s.hostReady then s
  else
    let h := parseHeader header
    match dataQueue h.addr with
    | none => s.headerRefused
    | some q =>
      let x := s.queue q
      if !(h.ok && decide (h.cmd = cmd) && x.open_ && x.toDevice) then s.headerRefused
      else
        let ok := crcPasses h data crc
        let ended := decide (cmd = 0x0E)
        let s := s.driveNothing
        if x.takes data.length then s.finishPush q data ok ended
        else s.updHost (fun p => { p with stall := some (.push q data ok ended) })

/-- PUSH. -/
def State.push (s : State) (header : List Byte) (data : List Word32) (crc : BitVec 16) : State := s.pushCommand 0x0A header data crc

/-- PUSH_END: the last word is written with E. -/
def State.pushEnd (s : State) (header : List Byte) (data : List Word32) (crc : BitVec 16) : State := s.pushCommand 0x0E header data crc

/-- HCS_N rises: a stalled pop ends without status word, its words taken; a stalled push, or a write whose trailer had not
ended, applies nothing and sets XFER_ERR (R494, R496, R498). -/
def State.hcsNRise (s : State) (unfinished : Bool) : State :=
  if !s.running then s
  else match s.host.stall with
    | some (.pop q _ taken) =>
      let s := s.updHost (fun h => { h with stall := none, out := taken.map (·.data), outStatus := none, outCrc := none })
      let s := if taken.any (·.p) then s.raiseIrq irqPoisonRead else s
      if taken ≠ [] ∧ (s.queue q).lastAborted then s.raiseIrq irqAbortRead else s
    | some (.push _ _ _ _) => (s.updHost (fun h => { h with stall := none })).raiseIrq irqXferErr
    | none => if unfinished then s.driveNothing.raiseIrq irqXferErr else s.driveNothing

/-- A write of IRQ_STATUS, with the flags that hardware sets in the same cycle (R499, R20). -/
def State.irqStatusWrite (s : State) (clear raised : BitVec 9) : State := if !s.running then s else s.clearIrq clear raised

/-- An open LENGTH-SLOT packet whose next word finds no free space is aborted (R489). -/
def State.queuePacketAbort (s : State) (queue : Nat) : State :=
  let q := s.queue queue
  if s.running ∧ q.lengthSlot ∧ q.openPacket.isSome ∧ q.free = 0 then ((s.setQueue queue q.abortOpen).gainedPacket queue).resumeStall queue else s

end Sys2Proof.Machine
end

