-- ==== Sys2Proof/Machine/KeyStore.lean ====
section
/-!
DEFINITION. Machine/KeyStore.lean: the key slots in MRAM (R559 to R565): the check of both copies, imports and erasure.
-/
namespace Sys2Proof.Machine

/-! ### The check (R561) -/

/-- One slot's copies are checked: the higher GEN wins, a copy that is not good is rewritten, and a slot with neither is bad. -/
def State.checkSlot (s : State) (slot : Nat) : State :=
  if s.sealedSlot slot then s
  else match s.keyCopy slot 0, s.keyCopy slot 1 with
    | none, none => (s.updGate (fun g => { g with badSlots := if g.badSlots.contains slot then g.badSlots else slot :: g.badSlots })).milestoneEntry 0x8F
    | some a, none => (s.setKeyCopy slot 1 (some a)).incr Obj.keySlotRepairs
    | none, some b => (s.setKeyCopy slot 0 (some b)).incr Obj.keySlotRepairs
    | some a, some b =>
      if a.gen = b.gen then s
      else if a.gen < b.gen then (s.setKeyCopy slot 0 (some b)).incr Obj.keySlotRepairs
      else (s.setKeyCopy slot 1 (some a)).incr Obj.keySlotRepairs

/-- All 32 slots, at BOOT and at the daily scrub. -/
def State.checkKeySlots (s : State) : State := (List.range 32).foldl State.checkSlot s

/-- A copy's lines have read with an uncorrectable error: it is not good (R536, R561). -/
def State.loseCopies (s : State) (l : List (Nat × Nat)) : State :=
  (l.filter (fun x => decide (x.1 < 32 ∧ x.2 < 2))).foldl (fun s x => s.setKeyCopy x.1 x.2 none) s

/-! ### Writes (R560, R563 to R565) -/

/-- GEN of a slot now; an unusable slot has none. -/
def State.slotGen (s : State) (slot : Nat) : Nat :=
  match s.keyRecord slot with
  | none => 0
  | some k => k.gen

/-- Writes both copies of a slot; a bad slot is bad no longer, and its pinned register takes the new key. -/
def State.writeSlot (s : State) (slot : Nat) (k : KeyRecord) : State :=
  let s := (s.setKeyCopy slot 0 (some k)).setKeyCopy slot 1 (some k)
  (s.updGate (fun g => { g with badSlots := g.badSlots.filter (fun x => decide (x ≠ slot)) })).loadPinned slot

/-- A slot that holds nothing. -/
def State.emptySlot (s : State) (slot : Nat) : Bool :=
  match s.keyRecord slot with
  | none => true
  | some k => decide (k.state = 0)

/-- KeyImportResult. -/
def State.importResult (s : State) (c : Int) : State := s.setReg Obj.keyImportResult c

/-- The session is on a transport that may import (R563, R565). -/
def importTransport : Sess → Bool
  | .radio _ => false
  | _ => true

/-- A secret is unwrapped and written (R563). -/
def State.importSecret (s : State) (q : Sess) (data : List Byte) : State :=
  let slot := fieldU data 0 1
  if s.mode.current = .service ∨ s.identityBad then s.importResult 4
  else if !importTransport q then s.importResult 5
  else if slot < 4 ∨ 7 < slot then s.importResult 1
  else
    let z := Config.ecdh ((s.keyOf 1).getD []) (slice data 4 64)
    let transport := Config.hmacSha256 z (s.deviceId ++ leBytes 1 slot)
    match Config.aesUnwrap transport (slice data 68 40) with
    | none => s.importResult 2
    | some k => (s.writeSlot slot { kind := 3, state := 1, gen := (s.slotGen slot + 1) % 2 ^ 32, key := k, factory := false }).importResult 0

/-- A write of KeyImportSecret. Under the test root every key object refuses (R570). -/
def State.keyImportSecret (s : State) (q : Sess) (data : List Byte) : State :=
  s.writeBytesCommand q Obj.keyImportSecret data (fun s => if s.mode.testRoot then .error abortAccess else .ok (s.importSecret q data))

/-- The integrator image key is imported, replaced or emptied (R564, R565). -/
def State.importPublic (s : State) (q : Sess) (data : List Byte) : State :=
  let pub := slice data 8 64
  let sig := slice data 72 64
  let gen := fieldU data 4 4
  let empty := s.emptySlot 3
  if s.mode.current = .service then s.importResult 4
  else if !importTransport q then s.importResult 5
  else if fieldU data 0 1 ≠ 3 then s.importResult 1
  else if gen ≠ s.slotGen 3 then s.importResult 3
  else if empty && !decide (sig = List.replicate 64 0) then s.importResult 3
  else if !empty && !Config.ecdsaVerify ((s.keyOf 3).getD []) (Config.sha256 (pub ++ leBytes 4 gen)) sig then s.importResult 3
  else
    let k : KeyRecord := if pub = List.replicate 64 0 then { KeyRecord.empty with gen := (gen + 1) % 2 ^ 32 }
      else { kind := 1, state := 1, gen := (gen + 1) % 2 ^ 32, key := pub, factory := false }
    (s.writeSlot 3 k).importResult 0

/-- A write of KeyImportPublic. -/
def State.keyImportPublic (s : State) (q : Sess) (data : List Byte) : State :=
  s.writeBytesCommand q Obj.keyImportPublic data (fun s => if s.mode.testRoot then .error abortAccess else .ok (s.importPublic q data))

/-- A write of KeyErase empties a slot from 4 to 7 (R565). -/
def State.keyErase (s : State) (q : Sess) (v : Int) : State :=
  s.writeCommand q Obj.keyErase v (fun s =>
    if s.mode.testRoot then .error abortAccess
    else if s.mode.current = .service then .ok (s.importResult 4)
    else if !importTransport q then .ok (s.importResult 5)
    else .ok ((s.writeSlot v.toNat { KeyRecord.empty with gen := (s.slotGen v.toNat + 1) % 2 ^ 32 }).importResult 0))

/-! ### Reads (R584) -/

/-- TollgateStatus. -/
def State.tollgateStatus (s : State) : Nat :=
  flag (s.slotBad 0) 0 + flag (s.slotBad 1 || s.slotBad 2) 1 + flag s.mode.testRoot 2 + flag ((s.keyOf 4).isNone || (s.keyOf 5).isNone) 3
  + flag (s.keyOf 6).isNone 4 + flag (s.keyOf 7).isNone 5 + flag ((List.range 32).any s.slotBad) 6

end Sys2Proof.Machine
end

