-- ==== Sys2Proof/Machine/Meter.lean ====
section
/-!
DEFINITION. Machine/Meter.lean: the meter block (R433 to R452) and the as-applied records it feeds (R546, R547): counting of
pulses, credit to products and sections, rate, intervals, snapshot, clear, and the VIN quality monitor.
-/
namespace Sys2Proof.Machine

/-- Changes the meter block. -/
def State.updMeter (s : State) (f : MeterState → MeterState) : State := { s with meter := f s.meter }

/-- Changes an input. -/
def State.updInput (s : State) (i : Nat) (f : PulseInput → PulseInput) : State :=
  s.updMeter (fun m => { m with inputs := Tab.update PulseInput.initial m.inputs i f })

/-- An input. -/
def State.input (s : State) (i : Nat) : PulseInput := Tab.get PulseInput.initial s.meter.inputs i

/-- A setting of an input as it is in force (R448). -/
def State.inputSet (s : State) (o : ObjDesc) (i : Nat) : Nat := (Tab.get o.dflt s.meter.inForce (regKey o i)).toNat

/-- Pulses are counted (R436); in HOLDUP until the meter capture, 23.5 ms after its entry (R93, R95). -/
def State.counting (s : State) : Bool :=
  decide (s.mode.role = some .rover) &&
  match s.mode.current with
  | .rover | .snapshot | .halt => true
  | .holdup => decide (s.power.saving = some .holdup) && decide (s.mode.prev ≠ .boot) && decide (s.now < s.power.saveAt + ticksUs 23500)
  | _ => false

/-! ### Accumulators (R439 to R441) -/

/-- 2 to the 56. -/
def accModulus : Int := 2 ^ 56

/-- An accumulator moved by a signed amount (R439). -/
def accMove (t : Tab Nat) (k : Nat) (q : Int) : Tab Nat := Tab.update 0 t k (fun n => ((n + q) % accModulus).toNat)

/-- The difference of two readings of an accumulator, as a signed 56-bit number (R440). -/
def accDiff (b a : Nat) : Int := signedDiff 56 b a

/-- Changes the bank. -/
def State.updBankM (s : State) (f : MeterBank → MeterBank) : State := s.updMeter (fun m => { m with bank := f m.bank })

/-- Product and section of a binding (R442): kind and index. -/
def State.bindingOf (s : State) (i : Nat) : Nat × Nat := (bits (s.inputSet Obj.inputBinding i) 14 2, bits (s.inputSet Obj.inputBinding i) 0 10)

/-- The product that an input's quantity goes to. -/
def State.productOf (s : State) (i : Nat) : Option Nat :=
  match s.bindingOf i with
  | (1, p) => some p
  | (2, n) => some (s.regNAt Obj.sectionProduct n)
  | _ => none

/-! ### Intervals: the records (R446, R546) -/

/-- Subtotals of nothing. -/
def Subtotal.zero : Subtotal := { dirChg := 0, edges := 0, fwd := 0, rev := 0, total := 0 }

/-- One entry of the interval record. -/
def entryBytes (kind index : Nat) (x : Subtotal) : List Byte :=
  leBytes 1 kind ++ leBytes 1 index ++ leBytes 2 (min x.dirChg 65535) ++ leBytes 4 x.edges ++ leBytes 8 x.fwd ++ leBytes 8 x.rev ++
  leInt 8 x.total

/-- The interval record (R446). -/
def intervalRecord (v : MeterInterval) (seq ticks : Nat) (cut cleared : Bool) : List Byte :=
  let entries := v.inputs.flatMap (fun i => entryBytes 0 i (Tab.get Subtotal.zero v.sub i)) ++
    (List.range 4).flatMap (fun p => entryBytes 1 p (Tab.get Subtotal.zero v.sub (32 + p)))
  withCrc32 (leBytes 2 4 ++ leBytes 2 (v.inputs.length + 4) ++ leBytes 4 seq ++ leInt 8 v.startTime ++ leBytes 8 ticks ++
    leBytes 2 (flag v.holdover 0 + flag v.invalid 1 + flag v.applied 2 + flag cut 3 + flag cleared 4) ++ List.replicate 6 0 ++ entries)

/-- The as-applied record as its reader gets it (R546). -/
def AsApplied.bytes (r : AsApplied) : List Byte :=
  withCrc32 (leBytes 2 5 ++ leBytes 2 (92 + 16 * r.sections.length) ++ leBytes 1 (flag r.gap 0) ++
    leBytes 1 (flag r.full 0 + flag r.holdover 1 + flag r.invalid 2 + flag r.cut 3) ++ leBytes 2 r.sections.length ++ leBytes 8 r.rseq ++
    leInt 8 r.start ++ leInt 8 r.end_ ++ leBytes 4 r.task ++ leBytes 2 r.field ++ [0, 0] ++ leInt 8 r.lat ++ leInt 8 r.lon ++
    (List.range 4).flatMap (fun p => leInt 8 (r.product.getD p 0)) ++
    r.sections.flatMap (fun x => leBytes 2 x.1 ++ [0, 0] ++ leBytes 4 x.2.1 ++ leInt 8 x.2.2))

/-- Bytes of NAND that a record takes: codewords of 1 KiB, and the mark codeword (R542). -/
def AsApplied.nandBytes (r : AsApplied) : Nat := ((92 + 16 * r.sections.length + 1023) / 1024 + 1) * 1024

/-- Drops exported records, oldest first, until need bytes fit (R547). -/
def ringRoom (capacity exported need : Nat) : List AsApplied → List AsApplied
  | [] => []
  | r :: t =>
    if ((r :: t).map AsApplied.nandBytes).foldl (· + ·) need ≤ capacity then r :: t
    else if r.rseq ≤ exported then ringRoom capacity exported need t
    else r :: t

/-- AsAppliedOldest and AsAppliedNewest follow the ring. -/
def State.noteRing (s : State) : State :=
  match s.store.ring, s.store.ring.getLast? with
  | r :: _, some l => (s.setReg Obj.asAppliedOldest r.rseq).setReg Obj.asAppliedNewest l.rseq
  | _, _ => s

/-- Puts one record on the ring where it fits; the truth value says whether it was written (R547, R558). -/
def State.ringWrite (s : State) (r : AsApplied) : State × Bool :=
  let r := { r with rseq := s.regN Obj.asAppliedNewest + 1 }
  let kept := ringRoom s.store.ringCapacity (s.regN Obj.asAppliedExported) r.nandBytes s.store.ring
  if s.store.nandPresent ∧ (kept.map AsApplied.nandBytes).foldl (· + ·) r.nandBytes ≤ s.store.ringCapacity then
    let live := (kept.map AsApplied.nandBytes).foldl (· + ·) r.nandBytes
    ((({ s with store := { s.store with ring := kept ++ [r] } }).nandWrite 3 r.nandBytes live).noteRing, true)
  else (s, false)

/-- Task, field and position that a record carries at its end (R546). Before the first pose the position is open. -/
def State.asAppliedHere (s : State) (r : AsApplied) : AsApplied × State :=
  let field := match s.fleet.task with
    | none => 0
    | some t => t.field.id
  let r := { r with task := s.regN Obj.taskCurrent, field := field }
  match s.nav.pose with
  | some p => ({ r with lat := p.est.lat, lon := p.est.lon }, s)
  | none =>
    let (a, s) := s.drawInt
    let (b, s) := s.drawInt
    ({ r with lat := a, lon := b }, s)

/-- A record of nothing. -/
def AsApplied.zero : AsApplied :=
  { rseq := 0, gap := false, full := false, holdover := false, invalid := false, cut := false, start := 0, end_ := 0, task := 0, field := 0,
    lat := 0, lon := 0, product := [0, 0, 0, 0], sections := [] }

/-- The changes of the products between two sets of accumulators. -/
def productDiff (b a : Tab Nat) : List Int := (List.range 4).map (fun p => accDiff (Tab.get 0 b p) (Tab.get 0 a p))

/-- The gap marker over the records not written while the ring was full, once space has returned (R547). -/
def State.closeGap (s : State) (end_ : Int) (products : Tab Nat) : State :=
  match s.store.gapFrom with
  | none => s
  | some t =>
    let (r, s) := s.asAppliedHere { AsApplied.zero with
      gap := true, full := true, holdover := decide (s.clk.state = .holdover), invalid := !s.clk.valid, start := t, end_ := end_, product := productDiff products s.meter.gapBase }
    let (s, ok) := s.ringWrite r
    if ok then { s with store := { s.store with gapFrom := none, recordsFull := false } } else s

/-- One as-applied record of an interval: written, or RECORDS_FULL (R547, R558). -/
def State.asAppliedWrite (s : State) (r : AsApplied) (base : Tab Nat) : State :=
  let s := s.closeGap r.start base
  let (s, ok) := if s.store.gapFrom.isNone then s.ringWrite r else (s, false)
  if ok then s
  else
    let s := if s.store.gapFrom.isNone then s.updMeter (fun m => { m with gapBase := base }) else s
    { s with store := { s.store with recordsFull := true, gapFrom := some (s.store.gapFrom.getD r.start) } }

/-- The overlap of two spans of time. -/
def overlapOf (a b c d : Int) : Int := max 0 (min b d - max a c)

/-- The time that a section applied within a span, ns (R244). -/
def State.onTime (s : State) (i : Nat) (a b : Int) : Int :=
  let x := s.sec i
  let open_ := match x.from_ with
    | none => 0
    | some f => overlapOf a b f (match x.till with | none => b | some e => e)
  (s.kerb.spans.filter (fun p => decide (p.sec = i))).foldl (fun n p => n + overlapOf a b p.start p.stop) open_

/-- The sections with a time or a quantity other than zero in a span (R546). -/
def State.asAppliedSections (s : State) (v : MeterInterval) (end_ : Int) : List (Nat × Nat × Int) :=
  ((List.range 1024).map (fun i =>
    (i, (s.onTime i v.startTime end_ / 100000).toNat, accDiff (Tab.get 0 s.meter.bank.section_ i) (Tab.get 0 v.base.section_ i)))).filter
      (fun x => decide (x.2.1 ≠ 0 ∨ x.2.2 ≠ 0))

/-- The as-applied record of the open interval as far as a time (R546): at its end, or as its tail in a save. -/
def State.asAppliedNow (s : State) (v : MeterInterval) (end_ : Int) (cut : Bool) : AsApplied × State :=
  s.asAppliedHere { AsApplied.zero with
    holdover := v.holdover, invalid := v.invalid, cut := cut, start := v.startTime, end_ := end_
    product := productDiff s.meter.bank.product v.base.product, sections := s.asAppliedSections v end_ }

/-! ### Intervals: their course (R446 to R448) -/

/-- The objects whose writes wait for an interval start. -/
def pendingObjects : List ObjDesc :=
  [Obj.inputMode, Obj.debounce, Obj.kFactor, Obj.accumMode, Obj.dirPolarity, Obj.inputBinding]

/-- The written value of a setting differs from the one in force. -/
def State.inputPending (s : State) (o : ObjDesc) (i : Nat) : Bool := decide (s.regAt o i ≠ Tab.get o.dflt s.meter.inForce (regKey o i))

/-- CONFIG_PENDING (R448). -/
def State.configPending (s : State) : Bool :=
  pendingObjects.any (fun o => (List.range 32).any (s.inputPending o)) || s.inputPending Obj.intervalLength 0

/-- An input that is Off and gets a mode takes the levels of its lands (R64). -/
def State.inputTurnsOn (s : State) (i : Nat) : Bool :=
  decide (Tab.get Obj.inputMode.dflt s.meter.inForce (regKey Obj.inputMode i) = 0) && decide (s.regAt Obj.inputMode i ≠ 0)

/-- Puts written settings in force; a new KFactor clears the residual (R448). -/
def State.applyConfig (s : State) : State :=
  let s := ((List.range 32).filter s.inputTurnsOn).foldl (fun s i => s.updInput i (fun x => { x with a := x.landA, b := x.landB })) s
  let s := ((List.range 32).filter (s.inputPending Obj.kFactor)).foldl (fun s i => s.updInput i (fun x => { x with residual := 0 })) s
  let put (t : Tab Int) (o : ObjDesc) (i : Nat) : Tab Int := Tab.put o.dflt t (regKey o i) (s.regAt o i)
  let all (t : Tab Int) : Tab Int := pendingObjects.foldl (fun t o => (List.range 32).foldl (fun t i => put t o i) t) t
  s.updMeter (fun m => { m with inForce := put (all m.inForce) Obj.intervalLength 0 })

/-- A new interval begins at a count, with the settings that waited (R446, R448). -/
def State.openInterval (s : State) (start : Nat) : State :=
  let applied := s.configPending
  let s := s.applyConfig
  s.updMeter (fun m => { m with firstAt := none, interval := some {
    start := start, startTime := timeOf s.clk start, length := ticksMs (s.inputSet Obj.intervalLength 0)
    holdover := decide (s.clk.state = .holdover), invalid := !s.clk.valid, applied := applied
    inputs := (List.range 32).filter (fun i => decide (s.inputSet Obj.inputMode i ≠ 0)), sub := [], base := m.bank } })

/-- Emits an interval record: LastInterval, and the host copy where it is switched on (R446, R138). -/
def State.emitInterval (s : State) (v : MeterInterval) (ticks : Nat) (cut : Bool) : State :=
  let r := intervalRecord v s.meter.seq ticks cut s.meter.cleared
  let s := s.updMeter (fun m => { m with last := r, seq := (m.seq + 1) % 2 ^ 32, cleared := false })
  if s.reg Obj.intervalHostOutput = 1 then
    let (h, s, st) := s.hostCopy s.meter.copy (s.regN Obj.intervalHostQueue) 262144 r
    let s := s.updMeter (fun m => { m with copy := h })
    if st then s.setReg Obj.intervalHostOutput 0 else s
  else s

/-- Drops applied intervals that ended well before a time: no late edge can ask for them (R434: Debounce is at most 10 ms). -/
def State.dropSpans (s : State) (t : Int) : State :=
  s.updKerb (fun k => { k with spans := k.spans.filter (fun p => decide (t - 20000000 < p.stop)) })

/-- Ends the open interval at its own end and begins the next (R446). -/
def State.turnInterval (s : State) (v : MeterInterval) : State :=
  let e := v.start + v.length
  let end_ := timeOf s.clk e
  let s := s.emitInterval v v.length false
  let (r, s) := s.asAppliedNow v end_ false
  ((s.asAppliedWrite r v.base.product).dropSpans end_).openInterval e

/-- The open interval has reached its end, or T0 has come (R446). -/
def State.intervalEnd (s : State) : State :=
  if !s.counting then s
  else match s.meter.interval with
    | some v => if v.start + v.length ≤ s.now then s.turnInterval v else s
    | none =>
      match s.meter.firstAt with
      | some t => if t ≤ s.now then s.openInterval t else s
      | none => s

/-- Intervals begin after BOOT: T0 is the first whole second of reported time, or now while TIME_VALID is clear (R446). -/
def State.meterStart (s : State) : State :=
  let s := s.applyConfig
  s.updMeter (fun m => { m with
    firstAt := some (if s.clk.valid then countOf s.clk ((s.time64 / 1000000000 + 1) * 1000000000) else s.now) })

/-! ### Pulses (R433 to R438) -/

/-- The direction of an edge in quadrature: forward when A leads B (R433). -/
def quadForward (aChanged a b : Bool) : Bool := if aChanged then a != b else a == b

/-- OVERSPEED or QUAD_ERROR on an input and in MeterStatus (R435). -/
def State.flagOverspeed (s : State) (i : Nat) : State :=
  (s.updInput i (fun x => { x with overspeed := true })).updMeter (fun m => { m with overspeed := true })

/-- QUAD_ERROR. -/
def State.flagQuadError (s : State) (i : Nat) : State :=
  (s.updInput i (fun x => { x with quadError := true })).updMeter (fun m => { m with quadError := true })

/-- A rising edge of the counted signal, in quadrature of PLSn or of PDIRn: two of one land less than 50 µs apart set OVERSPEED (R435). -/
def State.noteRise (s : State) (i stamp : Nat) (ofB : Bool) : State :=
  let fast := match (if ofB then (s.input i).lastRiseB else (s.input i).lastRise) with
    | none => false
    | some t => decide (stamp - t < ticksUs 50)
  let s := if fast then s.flagOverspeed i else s
  s.updInput i (fun x => if ofB then { x with lastRiseB := some stamp } else { x with lastRise := some stamp })

/-- Stamps kept for the rate: a second of them, and always the last two. -/
def keepStamps (now : Nat) : List PulseStamp → List PulseStamp
  | a :: b :: c :: t => if a.stamp + ticksMs 1100 < now then keepStamps now (b :: c :: t) else a :: b :: c :: t
  | l => l

/-- Adds a pulse to interval subtotals. -/
def Subtotal.count (x : Subtotal) (changed forward : Bool) (q worth : Int) : Subtotal :=
  { dirChg := x.dirChg + (if changed then 1 else 0), edges := x.edges + 1, fwd := x.fwd + (if forward then q.toNat else 0)
    rev := x.rev + (if forward then 0 else q.toNat), total := x.total + worth }

/-- What a pulse credits, in µunits, with the residual it leaves (R437): the sum over any run of pulses stays the whole part
of the exact quantity. A reverse pulse in signed mode subtracts. -/
def pulseCredit (k residual : Nat) (sign : Int) : Int × Nat :=
  let n : Int := residual + sign * 65536000000
  (n / k, (n % k).toNat)

/-- Credits a quantity to its destination: at once through a section-bound input, in its tick through a product-bound one
(R442, R443). -/
def State.creditPulse (s : State) (i stamp : Nat) (q : Int) : State :=
  match s.bindingOf i with
  | (1, p) => s.updMeter (fun m => { m with credits := m.credits ++ [{ tick := timeOf s.clk stamp / 1000000, product := p, qty := q }] })
  | (2, n) =>
    s.updBankM (fun b => { b with section_ := accMove b.section_ n q, product := accMove b.product (s.regNAt Obj.sectionProduct n) q })
  | _ => s

/-- One counted pulse (R437, R438). -/
def State.countPulse (s : State) (i stamp : Nat) (forward : Bool) : State :=
  let x := s.input i
  let signed := decide (s.inputSet Obj.accumMode i = 0)
  let sign : Int := if signed && !forward then -1 else 1
  let (worth, residual) := pulseCredit (s.inputSet Obj.kFactor i) x.residual sign
  let changed := match x.lastForward with
    | none => false
    | some f => f != forward
  let stamps := keepStamps s.now (x.stamps ++ [{ stamp := stamp, worth := sign, forward := forward }])
  let s := s.updInput i (fun x => { x with residual := residual, lastForward := some forward, stamps := stamps })
  let s := if changed then s.incrAt Obj.directionChanges i else s
  let s := s.updBankM (fun b => if forward then { b with fwd := accMove b.fwd i 1 } else { b with rev := accMove b.rev i 1 })
  let product := s.productOf i
  let s := s.updMeter (fun m => { m with interval := m.interval.map (fun v =>
    let t := Tab.update Subtotal.zero v.sub i (fun y => y.count changed forward (sign * worth) worth)
    { v with sub := match product with
        | none => t
        | some p => Tab.update Subtotal.zero t (32 + p) (fun y => y.count changed forward (sign * worth) worth) }) })
  s.creditPulse i stamp worth

/-- An accepted edge: the levels of PLSn and PDIRn after the filter, and the tick at which the raw level first changed
(R433 to R435), in whole cycles of CK_IO. A level that Debounce has not yet passed is not accepted, and an input that is Off takes none
(R64). An edge stamped at or past the end of the open interval belongs to the next one, which it begins; one accepted after the interval
of its stamp has ended counts in the open one (log 177). -/
def State.pulseEdge (s : State) (input : Fin 32) (stamp : Nat) (a b : Bool) : State :=
  let i := input.val
  let stamp := stamp / 20 * 20
  if (!s.running && !s.counting) || decide (s.now < stamp + ticksUs (10 * s.inputSet Obj.debounce i)) then s
  else
    let x := s.input i
    let s := s.updInput i (fun x => { x with landA := a, landB := b })
    let s' := s.updInput i (fun x => { x with a := a, b := b })
    if s.inputSet Obj.inputMode i = 0 then s
    else if !s.counting then s'
    else
      let s := match s.meter.interval with
        | some v => if v.start + v.length ≤ stamp then (s'.turnInterval v) else s'
        | none => s'
      let aUp := a && !x.a
      match s.inputSet Obj.inputMode i with
      | 1 => if aUp then (s.noteRise i stamp false).countPulse i stamp true else s
      | 2 => if aUp then (s.noteRise i stamp false).countPulse i stamp (b == decide (s.inputSet Obj.dirPolarity i = 1)) else s
      | 3 =>
        if a ≠ x.a ∧ b ≠ x.b then s.flagQuadError i
        else if a = x.a ∧ b = x.b then s
        else
          let s := if aUp then s.noteRise i stamp false else if b && !x.b then s.noteRise i stamp true else s
          s.countPulse i stamp (quadForward (a != x.a) a b != decide (s.inputSet Obj.dirPolarity i = 1))
      | _ => s

/-! ### Credit by ticks (R443, R444) -/

/-- A section's applied interval holds a time (R244). -/
def State.appliedAt (s : State) (t : Int) (i : Nat) : Bool :=
  s.applies t i || s.kerb.spans.any (fun p => decide (p.sec = i ∧ p.start ≤ t ∧ t < p.stop))

/-- Shares a quantity by width, each share truncated toward zero; answers the sections and what each receives, the
remainder with the first. -/
def shares (q : Int) (l : List (Nat × Int)) : List (Nat × Int) :=
  let w := (l.map (·.2)).foldl (· + ·) 0
  let part := l.map (fun x => (x.1, (q * x.2).tdiv w))
  let rest := q - (part.map (·.2)).foldl (· + ·) 0
  match part with
  | [] => []
  | x :: t => (x.1, x.2 + rest) :: t

/-- Credits a tick's quantity of a product (R443): the product takes what its sections, or Unassigned, take (R444). -/
def State.creditTickOf (s : State) (tick : Int) (p : Nat) (q : Int) : State :=
  let secs := (List.range 1024).filter (fun i => decide (s.regNAt Obj.sectionProduct i = p) && s.appliedAt (tick * 1000000) i)
  s.updBankM (fun b =>
    let b := { b with product := accMove b.product p q }
    if secs.isEmpty then { b with unassigned := accMove b.unassigned p q }
    else { b with section_ := (shares q (secs.map (fun i => (i, s.regAt Obj.sectionWidth i)))).foldl (fun t x => accMove t x.1 x.2) b.section_ })

/-- The different ticks and products of a list of credits. -/
def creditGroups (l : List MeterCredit) : List (Int × Nat) := (l.map (fun c => (c.tick, c.product))).eraseDups

/-- The ticks that have ended are credited (R443). -/
def State.creditTick (s : State) : State :=
  if !s.counting then s
  else
    let now := s.time64 / 1000000
    let done := s.meter.credits.filter (fun c => decide (c.tick < now))
    let s := s.updMeter (fun m => { m with credits := m.credits.filter (fun c => decide (now ≤ c.tick)) })
    (creditGroups done).foldl (fun s g =>
      s.creditTickOf g.1 g.2 (((done.filter (fun c => decide (c.tick = g.1 ∧ c.product = g.2))).map (·.qty)).foldl (· + ·) 0)) s

/-! ### Rate (R445) -/

/-- The run of newest stamps that share the newest one's direction; the list is newest first. -/
def sameDirection : List PulseStamp → List PulseStamp
  | [] => []
  | x :: t => x :: t.takeWhile (fun y => y.forward == x.forward)

/-- The stamp that a rate starts from (R445): the oldest within the window, or the previous one where the window holds only
the newest. None where the rule names none. The list is newest first. -/
def rateStart (from_ : Nat) (l : List PulseStamp) : Option PulseStamp :=
  let inside := l.takeWhile (fun x => decide (from_ ≤ x.stamp))
  if 2 ≤ inside.length then inside.getLast? else if inside.length = 1 then l[1]? else none

/-- The rate of an input by R445, in 2^-16 units per minute; none where the rule gives no value. -/
def State.rateOf (s : State) (i : Nat) (l : List PulseStamp) : Option Int :=
  let run := if s.inputSet Obj.accumMode i = 0 then sameDirection l else l
  match run.head?, rateStart (s.now - ticksMs (s.regNAt Obj.rateWindow i)) run with
  | some n, some o =>
    let worth := ((run.takeWhile (fun x => decide (x ≠ o))).map (·.worth)).foldl (· + ·) 0
    let r := 60 * worth * 65536 * 65536 * 2000000000 / ((s.inputSet Obj.kFactor i : Int) * (n.stamp - o.stamp : Nat))
    if o.stamp < n.stamp ∧ -(2 ^ 31) ≤ r ∧ r < 2 ^ 31 then some r else none
  | _, _ => none

/-- The net counted pulses of an input (R445), low 32 bits. -/
def State.netPulses (s : State) (i : Nat) : Nat :=
  let f : Int := (Tab.get 0 s.meter.bank.fwd i : Nat)
  let r : Int := (Tab.get 0 s.meter.bank.rev i : Nat)
  ((if s.inputSet Obj.accumMode i = 0 then f - r else f + r) % 2 ^ 32).toNat

/-- The rate of one input is formed and published (R445). Where the rule gives no value the rate is open (log 44). -/
def State.rateInput (s : State) (i : Nat) : State :=
  let l := ((s.input i).stamps.reverse).filter (fun x => decide (x.stamp < s.now))
  let old := match l with
    | [] => true
    | x :: _ => decide (x.stamp + ticksMs (s.regNAt Obj.rateTimeout i) < s.now)
  let (r, s) := if old then ((0 : Int), s)
    else match s.rateOf i l with
      | some r => (r, s)
      | none =>
        let (v, s) := s.drawBits 32
        (v.toInt, s)
  let s := s.updInput i (fun x => { x with rate := r, rateTimeout := old })
  (s.setRegAt Obj.inputRate i r).updMeter (fun m => { m with port := Tab.put none m.port i (some (r, s.netPulses i, s.now)) })

/-- The millisecond on the counter. -/
def State.milli (s : State) : Nat := s.now / ticksMs 1

/-- Every 1 ms, and once in it, the rates are formed (R445). -/
def State.rateUpdate (s : State) : State :=
  if !s.counting ∨ s.meter.ratedAt = some s.milli then s
  else (List.range 32).foldl State.rateInput (s.updMeter (fun m => { m with ratedAt := some s.milli }))

/-! ### Writes (R448, R449) -/

/-- The object of a setting. -/
def meterObject : MeterField → ObjDesc
  | .mode => Obj.inputMode
  | .debounce => Obj.debounce
  | .kFactor => Obj.kFactor
  | .accumMode => Obj.accumMode
  | .dirPolarity => Obj.dirPolarity
  | .binding => Obj.inputBinding
  | .intervalLength => Obj.intervalLength

/-- A write of a setting that waits for the next interval start: the written value is stored, the one in force stays (R448). -/
def State.meterConfigWrite (s : State) (q : Sess) (which : MeterField) (v : Int) : State :=
  let o := meterObject which
  s.writeCommand q o v (fun s => s.applyNum o (s.instanceOf q o) v)

/-- A write of MeterSnapshot copies every accumulator (R449). -/
def State.meterSnapshot (s : State) (q : Sess) (v : Int) : State :=
  s.writeCommand q Obj.meterSnapshot v (fun s =>
    .ok ((s.updMeter (fun m => { m with snapshot := m.bank })).setReg Obj.snapshotTime s.time64))

/-- A write of MeterClear sets every accumulator to zero (R449). -/
def State.meterClear (s : State) (q : Sess) (v : Int) : State :=
  s.writeCommand q Obj.meterClear v (fun s =>
    .ok ((s.updMeter (fun m => { m with bank := MeterBank.zero, cleared := true })).milestoneEntry 0x88))

/-- The bank that the accumulator objects return (R449). -/
def State.viewBank (s : State) : MeterBank := if s.reg Obj.meterView = 1 then s.meter.snapshot else s.meter.bank

/-! ### VIN quality monitor (R450, R451) -/

/-- Changes the monitor. -/
def State.updVin (s : State) (f : VinMonitor → VinMonitor) : State := s.updMeter (fun m => { m with vin := f m.vin })

/-- The sample stands below, or above, VinNominal × percent / 100. -/
def State.vinBelow (s : State) (mv : Nat) (percent : Int) : Bool := decide ((mv : Int) * 6553600 < s.reg Obj.vinNominal * 1000 * percent)
def State.vinAbove (s : State) (mv : Nat) (percent : Int) : Bool := decide (s.reg Obj.vinNominal * 1000 * percent < (mv : Int) * 6553600)

/-- The kind of an excursion: 1 sag, 2 swell, 3 interruption. -/
def VinExcursion.kind (x : VinExcursion) : Nat := if x.swell then 2 else if x.interruption then 3 else 1

/-- The record of an event (R451). -/
def vinRecord (x : VinExcursion) (seq : Nat) : List Byte :=
  withCrc32 (leInt 8 x.time ++ leBytes 4 (min x.samples 0xFFFFFFFF) ++ leBytes 1 x.kind ++ [0] ++ leBytes 2 (min x.extreme 65535) ++ leBytes 4 seq)

/-- An excursion has ended: one event (R450, R451). -/
def State.vinEvent (s : State) (x : VinExcursion) : State :=
  let s := s.milestoneSample (if x.swell then 5 else if x.interruption then 6 else 4) (durationBin (100 * x.samples))
  let s := s.updVin (fun v => { v with
    open_ := none, seq := (v.seq + 1) % 2 ^ 32
    sags := (v.sags + (if x.kind = 1 then 1 else 0)) % 2 ^ 32, swells := (v.swells + (if x.kind = 2 then 1 else 0)) % 2 ^ 32
    interruptions := (v.interruptions + (if x.kind = 3 then 1 else 0)) % 2 ^ 32 })
  if 32 ≤ s.meter.vin.queue.length then (s.incr Obj.vinEventsLost).updMeter (fun m => { m with eventLost := true })
  else s.updVin (fun v => { v with queue := v.queue ++ [vinRecord x v.seq] })

/-- The excursion in progress with one more sample, or ended by a sample back inside by 2 % (R450). -/
def State.vinGo (s : State) (x : VinExcursion) (mv : Nat) : State :=
  let inside := if x.swell then !s.vinAbove mv (98 + s.reg Obj.swellPercent) else !s.vinBelow mv (102 - s.reg Obj.sagPercent)
  if inside then s.vinEvent x
  else s.updVin (fun v => { v with open_ := some { x with
    samples := x.samples + 1, interruption := x.interruption || (!x.swell && s.vinBelow mv 10)
    extreme := if x.swell then max x.extreme mv else min x.extreme mv } })

/-- A sample of VSNS in mV (R450): at most one in 100 µs. -/
def State.vinSample (s : State) (mv : Nat) : State :=
  if !s.hasRole .rover || decide (s.now < s.meter.vin.due) then s
  else
    let s := s.updVin (fun v => { v with due := s.now + ticksUs 100 })
    let s := match s.meter.vin.open_ with
      | some x => s.vinGo x mv
      | none => s
    match s.meter.vin.open_ with
    | some _ => s
    | none =>
      let begin (swell : Bool) : State := s.updVin (fun v => { v with open_ := some {
        swell := swell, time := s.time64, samples := 1, interruption := !swell && s.vinBelow mv 10, extreme := mv } })
      if s.vinBelow mv (100 - s.reg Obj.sagPercent) then begin false
      else if s.vinAbove mv (100 + s.reg Obj.swellPercent) then begin true
      else s

/-- A read of VinEventNext returns and removes the oldest record (R451). -/
def State.vinEventNext (s : State) (q : Sess) : State :=
  s.readCommand q Obj.vinEventNext (fun s =>
    match s.meter.vin.queue with
    | [] => .error abortUnavailable
    | r :: t => .ok (r, s.updVin (fun v => { v with queue := t })))

end Sys2Proof.Machine
end

