-- ==== Sys2Proof/Machine/Store.lean ====
section
/-!
DEFINITION. Machine/Store.lean: the record store and Milestone (R535 to R558): what the journal and a save hold, commits of
stored writes, the care of MRAM and NAND, and the Milestone recorder.
-/
namespace Sys2Proof.Machine

/-! ### The newest copies (R99) -/

/-- The entry of the highest sequence number. -/
def newestOf {α : Type} (l : List (Nat × α)) : Option (Nat × α) :=
  l.foldl (fun m e => match m with
    | none => some e
    | some x => if x.1 < e.1 then some e else some x) none

/-- The two save areas that are valid. -/
def State.saves (s : State) : List SaveImage := s.store.areaA.toList ++ s.store.areaB.toList

/-- Every entry of the journal and the spill partition. -/
def State.entries (s : State) : List JEntry := s.store.spill ++ s.store.journal

/-- The copies of an item: from saves and from journal entries, each with its sequence number. -/
def State.copies {α : Type} (s : State) (ofSave : SaveImage → Option α) (ofEntry : JEntry → Option α) : List (Nat × α) :=
  s.saves.filterMap (fun x => (ofSave x).map (fun v => (x.seq, v))) ++ s.entries.filterMap (fun e => (ofEntry e).map (fun v => (e.seq, v)))

/-- A copy of an item passes its CRC. -/
def State.goodCopy (s : State) (item seq : Nat) : Bool := !s.boot.badCopies.contains (item, seq)

/-- The newest copy of an item that passes its CRC (R99), with its sequence number. -/
def State.pick {α : Type} (s : State) (item : Nat) (l : List (Nat × α)) : Option (Nat × α) :=
  newestOf (l.filter (fun e => s.goodCopy item e.1))

/-- The newest copy of an item fails its CRC and an older one is taken (R99). -/
def State.olderTaken {α : Type} (s : State) (item : Nat) (l : List (Nat × α)) : Bool :=
  match newestOf l with
  | none => false
  | some x => !s.goodCopy item x.1 && (s.pick item l).isSome

/-- Item 2: the halt flag with its cause. -/
def State.haltCopies (s : State) : List (Nat × Bool × HaltCause) :=
  s.copies (fun x => some (x.haltFlag, x.haltCause)) (fun e => match e.data with | .halt f c => some (f, c) | _ => none)

/-- Item 3: the radio accounts. -/
def State.radioCopies (s : State) : List (Nat × RadioSave) :=
  s.copies (fun x => some x.radio) (fun e => match e.data with | .radio r => some r | _ => none)

/-- Item 4: the clock. -/
def State.clockCopies (s : State) : List (Nat × ClockSave) :=
  s.copies (fun x => some x.clock) (fun e => match e.data with | .clock r => some r | _ => none)

/-- Item 5: the axes, and whether the copy came from the journal. -/
def State.tramCopies (s : State) : List (Nat × Bool × List AxisSave) :=
  s.copies (fun x => some (false, x.tram)) (fun e => match e.data with | .tram r => some (true, r) | _ => none)

/-- Item 6: the segments of a save; the journal holds each of its own. -/
def State.segmentCopies (s : State) : List (Nat × List (Option (Nat × Nat) × Segment)) := s.copies (fun x => some x.segments) (fun _ => none)

/-- Item 7: the open as-applied record tail. -/
def State.tailCopies (s : State) : List (Nat × AsApplied) :=
  s.copies (fun x => x.tail) (fun e => match e.data with | .tail r => some r | _ => none)

/-- Item 8: a stored write; MRAM holds each in the journal as well. -/
def State.storedCopies (s : State) : List (Nat × List JEntry) :=
  s.copies (fun x => if x.stored.isEmpty then none else some x.stored) (fun e => if e.live && decide (e.data.kind = 5) then some [e] else none)

/-- Item 9: Milestone: the home copies as well. -/
def State.milestoneCopies (s : State) : List (Nat × MilestoneHome) :=
  s.copies (fun x => some x.milestone) (fun e => match e.data with | .milestone h => some h | _ => none) ++
    (s.milestone.home0.toList ++ s.milestone.home1.toList).map (fun h => (h.seq, h))

/-- Item 10: the last position and the almanac digest. -/
def State.fixCopies (s : State) : List (Nat × Option (Int × Int × Int) × Nat) := s.copies (fun x => some (x.fix, x.almanac)) (fun _ => none)

/-- Item 11: the meter: with the TIME64 of the journal entry where it came from the journal. -/
def State.meterCopies (s : State) : List (Nat × Option Int × MeterSave) :=
  s.copies (fun x => x.meter.map (fun m => (none, m))) (fun e => match e.data with | .meter m => some (some e.time, m) | _ => none)

/-- ITEM_DISCARDED: at least one item is taken from an older copy (R99, R106). -/
def State.itemDiscarded (s : State) : Bool :=
  s.olderTaken 2 s.haltCopies || s.olderTaken 3 s.radioCopies || s.olderTaken 4 s.clockCopies || s.olderTaken 5 s.tramCopies ||
  s.olderTaken 6 s.segmentCopies || s.olderTaken 7 s.tailCopies || s.olderTaken 8 s.storedCopies || s.olderTaken 9 s.milestoneCopies ||
  s.olderTaken 10 s.fixCopies || s.olderTaken 11 s.meterCopies

/-! ### What the journal and a save hold (R94, R538) -/

/-- The radio accounts (R347). -/
def State.radioSave (s : State) : RadioSave :=
  { uses := s.radio.uses.map (fun u => { u with at_ := u.at_ - s.now }), time := if s.clk.valid then some s.time64 else none
    events := s.radio.slots.map (fun e => (e.1, e.2.evt))
    drift := if s.radio.drift.learned then some s.radio.drift.rate else none
    slotDrifts := s.radio.slots.filterMap (fun e => if e.2.drift.learned then some (e.1, e.2.drift.rate) else none) }

/-- The meter's accumulators and interval subtotals. -/
def State.meterSave (s : State) : MeterSave :=
  { bank := s.meter.bank, interval := s.meter.interval, ticks := match s.meter.interval with | none => 0 | some v => s.now - v.start }

/-- The open as-applied record tail. -/
def State.tailNow (s : State) : Option AsApplied × State :=
  match s.meter.interval with
  | none => (none, s)
  | some v =>
    let (r, s) := s.asAppliedNow v s.time64 true
    (some r, s)

/-- The schedule of a journal kind that is written once in a period (R538), in ticks; 0 for the others. -/
def journalPeriod (kind : Nat) : Nat :=
  match kind with
  | 7 => ticksS 10
  | 8 | 9 => ticksS 60
  | _ => 0

/-- A journal entry of a kind that has a schedule (R538). Segments, stored writes and checkpoints are journalled by what makes
them. -/
def State.journalWrite (s : State) (kind : Nat) : State :=
  let p := journalPeriod kind
  if !s.operating || (decide (p ≠ 0) && !s.periodDue kind p) then s
  else
  let s := if p = 0 then s else s.periodTaken kind p
  match kind with
    | 1 => if s.mode.role = some .rover then s.journal (.meter s.meterSave) else s
    | 2 => s.journal (.halt s.mode.haltFlag.isSome (s.mode.haltFlag.getD s.mode.haltCause))
    | 3 => if s.mode.role = some .rover then s.journal (.tram s.tramSave) else s
    | 6 =>
      let (r, s) := s.tailNow
      match r with
      | some r => s.journal (.tail r)
      | none => s
    | 7 => s.journal (.radio s.radioSave)
    | 8 => s.journal (.clock s.clockSave)
    | 9 => s.journal (.milestone (s.milestoneHome s.store.seq))
    | _ => s

/-- The segments that a save holds (R94, item 6): on a rover the pending window, on a base those after the newest checkpoint. -/
def State.savedSegments (s : State) : List (Option (Nat × Nat) × Segment) :=
  if s.mode.role = some .rover then s.cache.pending.map (fun g => (none, g))
  else s.cover.log.map (fun g => (some (g.mseq, g.machine), g.seg))

/-- The run that ends is a BOOT: what it restores has not gone into the blocks yet. -/
def State.inBoot (s : State) : Bool := decide (s.mode.current = .boot) || (decide (s.mode.current = .holdup) && decide (s.mode.prev = .boot))

/-- What a save made now holds, in the order of R94; the meter is captured last (R95). -/
def State.saveNow (s : State) (seq : Nat) (cause : ResetSource) : SaveImage × State :=
  let (tail, s) := s.tailNow
  ({ seq := seq, cause := cause, time := s.power.saveTime
     mode := s.mode.heldBeforeHalt.getD (if s.mode.current = .holdup then s.mode.prev else s.mode.current)
     haltFlag := s.mode.haltFlag.isSome, haltCause := s.mode.haltFlag.getD s.mode.haltCause, radio := s.radioSave, clock := s.clockSave
     tram := s.tramSave, segments := s.savedSegments, tail := tail, stored := s.storePending, milestone := s.milestoneHome seq
     fix := match s.nav.pose with | some p => some (p.est.lat, p.est.lon, p.est.height) | none => s.gnss.lastFix
     almanac := s.gnss.almanac
     meter := if s.mode.role = some .rover then some s.meterSave else none }, s)

/-- What a save in an armed BOOT holds: the items as this BOOT finds them, so that the next start finds them too; the meter and its
tail where their newest copy is that of a save, for a journal entry stays in the journal (log 143). -/
def State.saveCarried (s : State) (seq : Nat) (cause : ResetSource) : SaveImage :=
  let fix := ((s.pick 10 s.fixCopies).map (·.2)).getD (none, 0)
  let meter := match s.pick 11 s.meterCopies with | some (_, none, m) => some m | _ => none
  { seq := seq, cause := cause, time := s.power.saveTime, mode := .boot
    haltFlag := s.mode.haltFlag.isSome, haltCause := s.mode.haltFlag.getD .none
    radio := ((s.pick 3 s.radioCopies).map (·.2)).getD s.radioSave, clock := ((s.pick 4 s.clockCopies).map (·.2)).getD s.clockSave
    tram := ((s.pick 5 s.tramCopies).map (·.2.2)).getD s.tramSave, segments := ((s.pick 6 s.segmentCopies).map (·.2)).getD s.savedSegments
    tail := if meter.isSome then (s.pick 7 s.tailCopies).map (·.2) else none, stored := s.storePending, milestone := s.milestoneHome seq
    fix := fix.1, almanac := fix.2, meter := meter }

/-- What a save holds. -/
def State.saveImage (s : State) (seq : Nat) (cause : ResetSource) : SaveImage × State :=
  if s.inBoot then (s.saveCarried seq cause, s) else s.saveNow seq cause

/-- Area A holds the newest valid save (R92). -/
def State.newestIsA (s : State) : Bool :=
  match s.store.areaA, s.store.areaB with
  | some a, some b => decide (b.seq < a.seq)
  | some _, none => true
  | none, _ => false

/-- A save begins: the area that does not hold the newest valid save is no longer valid (R92, R97). -/
def State.clearTarget (s : State) : State :=
  if s.unarmedBoot then s
  else s.updStore (fun x => if s.newestIsA then { x with areaB := none } else { x with areaA := none })

/-- When and from what a save begins (R93, R94). -/
def State.noteSaveStart (s : State) : State :=
  { s with power := { s.power with saveFrom := s.power.vhold, saveAt := s.now, saveTime := s.stampTime } }

/-- A save ends with its valid mark (R92). -/
def State.writeSave (s : State) (cause : ResetSource) : State :=
  let (n, s) := s.nextSeq
  let (m, s) := s.saveImage n cause
  s.updStore (fun x => if s.newestIsA then { x with areaB := some m } else { x with areaA := some m })

/-- An orderly save begins, unless a save is under way (R103, R104). -/
def State.beginOrderly (s : State) (cause : ResetSource) : State :=
  if s.power.saving.isSome || decide (s.mode.current = .holdup) then s
  else
    let s := s.clearTarget.noteSaveStart
    { s with power := { s.power with saving := some (.orderly cause) } }

/-! ### The stored set (R520, R522, R540) -/

/-- An address lies in an area of R522: 1 all, 2 the communication area, 3 from 0x2000 on. -/
def inArea (area addr : Nat) : Bool :=
  match area with
  | 1 => true
  | 2 => decide (addr < 0x200000)
  | _ => decide (0x200000 ≤ addr)

/-- The address of a stored write. -/
def JData.storedAddr : JData → Option Nat
  | .storedNum k _ | .storedBytes k _ => some (k / 2 ^ 32)
  | _ => none

/-- Acknowledged entries of an area wait for their commit. -/
def State.areaPending (s : State) (area : Nat) : Bool :=
  s.storePending.any (fun e => match e.data.storedAddr with | none => false | some a => inArea area a)

/-- Stored writes are dead: committed, or given up. -/
def killStored (p : Nat → Bool) (l : List JEntry) : List JEntry :=
  l.map (fun e => match e.data.storedAddr with
    | some a => if p a then { e with live := false } else e
    | none => e)

/-- Writes a set into the copy that does not hold the newest generation. -/
def State.putSet (s : State) (c : StoredCopy) : State :=
  let (n, s) := s.nextSeq
  let c := { c with gen := n }
  let zeroNewest := match s.store.copy0, s.store.copy1 with
    | some a, some b => decide (b.gen < a.gen)
    | some _, none => true
    | none, _ => false
  s.updStore (fun x => if zeroNewest then { x with copy1 := some c } else { x with copy0 := some c })

/-- Answers the store commands whose area has no entry left to commit (R522). -/
def State.answerSaves (s : State) : State :=
  ([Sess.host, .can0] ++ (List.range 4).map (fun n => Sess.tcp (Fin.ofNat 4 n)) ++ [Sess.baseLink .operator, .radio .operator]).foldl (fun s q =>
    match (s.session q).saveWait with
    | none => s
    | some (tag, area) =>
      if s.areaPending area then s
      else (s.updSession q (fun x => { x with saveWait := none })).answer q tag 0 [] false) s

/-- Every acknowledged stored write is committed in one new generation (R540). -/
def State.storeCommit (s : State) : State :=
  if !s.running || s.unarmedBoot || s.storePending.isEmpty then s
  else
    let s := s.putSet s.storedSet
    (s.updStore (fun x => { x with journal := killStored (fun _ => true) x.journal, spill := killStored (fun _ => true) x.spill })).answerSaves

/-- Every entry of an area that is stored now is gone: its object takes its default at the next BOOT (R522). -/
def State.eraseStored (s : State) (area : Nat) : State :=
  let keep (k : Nat) : Bool := !inArea area (k / 2 ^ 32)
  let c := s.storedSet
  let s := s.putSet { c with nums := c.nums.filter (fun e => keep e.1), octets := c.octets.filter (fun e => keep e.1) }
  s.updStore (fun x => { x with journal := killStored (fun _ => true) x.journal, spill := killStored (fun _ => true) x.spill })

/-- The sub-object of 0x1010 or 0x1011 for an area. -/
def storeObject (restore : Bool) (sub : Nat) : ObjDesc :=
  match restore, sub with
  | false, 1 => Obj.storeAll
  | false, 2 => Obj.storeCommunication
  | false, _ => Obj.storeApplication
  | true, 1 => Obj.restoreAll
  | true, 2 => Obj.restoreCommunication
  | true, _ => Obj.restoreApplication

/-- A request that waits for a commit is outstanding: in the host port, BUSY (R501). -/
def State.awaitCommit (s : State) (q : Sess) (area : Nat) : State :=
  let t := s.updSession q (fun x => { x with saveWait := some (s.ownTag q, area) })
  match q with
  | .host => { t with mbox := { t.mbox with state := .busy } }
  | _ => t

/-- A write of 0x1010: with the signature "save" it is answered once every acknowledged entry of the area is committed (R522). -/
def State.storeParameters (s : State) (q : Sess) (sub signature : Nat) : State :=
  if !s.reaches q then s
  else
    let s := s.serve q 2 (storeObject false sub) (leBytes 4 signature)
    let tag := s.ownTag q
    if sub < 1 ∨ 3 < sub then s.answer q tag abortNoSub [] false
    else match s.objCheck q (storeObject false sub) true with
      | some a => s.answer q tag a [] false
      | none =>
        if signature ≠ 0x65766173 then s.answer q tag abortBusy [] false
        else if s.areaPending sub then s.awaitCommit q sub
        else s.answer q tag 0 [] false

/-- A write of 0x1011 with the signature "load" (R522); what still waited for a commit is settled with it. -/
def State.restoreDefaultParameters (s : State) (q : Sess) (sub signature : Nat) : State :=
  if !s.reaches q then s
  else
    let s := s.serve q 2 (storeObject true sub) (leBytes 4 signature)
    let tag := s.ownTag q
    if sub < 1 ∨ 3 < sub then s.answer q tag abortNoSub [] false
    else match s.objCheck q (storeObject true sub) true with
      | some a => s.answer q tag a [] false
      | none =>
        if signature ≠ 0x64616F6C then s.answer q tag abortBusy [] false
        else (s.eraseStored sub).answerSaves.answer q tag 0 [] false

/-! ### MRAM (R536, R548, R561) -/

/-- Lines of MRAM that no code could correct (R536): counted, and a Milestone entry each. -/
def State.mramUncorrectable (s : State) (n : Nat) : State :=
  if n = 0 then s
  else
    let s := (s.addRegAt Obj.mramUncorrectable 0 n).updStore (fun x => { x with mramBad := true })
    (List.replicate n ()).foldl (fun s _ => s.milestoneEntry 0x8B) s

/-- A scrub that runs once in so many seconds of operation is due (R548); operation is counted by OP_SECONDS (log 180). -/
def State.scrubDue (s : State) (medium len : Nat) : Bool := decide (Tab.get 0 s.store.scrubs medium < s.opSeconds / len)

/-- The scrub runs. -/
def State.scrubTaken (s : State) (medium len : Nat) : State :=
  s.updStore (fun x => { x with scrubs := Tab.put 0 x.scrubs medium (s.opSeconds / len) })

/-- The daily scrub of MRAM: lines corrected and rewritten, lines uncorrectable, the key copies among these, and the check of
the key slots. -/
def State.mramScrub (s : State) (corrected uncorrectable : Nat) (badKeyCopies : List (Nat × Nat)) : State :=
  if !s.operating || !s.scrubDue 0 (24 * 3600) then s
  else ((((s.scrubTaken 0 (24 * 3600)).addRegAt Obj.mramCorrected 0 corrected).mramUncorrectable uncorrectable).loseCopies badKeyCopies).checkKeySlots

/-! ### NAND (R541 to R550) -/

/-- A block must be refreshed: a codeword needs more than 24 corrections, or it is older than NandRefreshInterval (R548). -/
def State.refreshDue (s : State) (b : NandBlock) : Bool :=
  b.holdsData && !b.retired && (decide (24 < b.corrections) || (s.clk.valid && decide (b.writtenDay + s.regN Obj.nandRefreshInterval < s.today)))

/-- The blocks that wait for refresh: RefreshPending. -/
def State.refreshList (s : State) : List (Nat × NandBlock) :=
  s.listed.filter (fun e => s.refreshDue e.2)

/-- REFRESH_BEHIND stands while a block's refresh is overdue (R548). -/
def State.noteRefresh (s : State) : State :=
  let behind := s.refreshList.any (fun e => s.clk.valid && decide (e.2.writtenDay + s.regN Obj.nandRefreshInterval < s.today))
  s.updStore (fun x => { x with refreshBehind := behind })

/-- A weekly read of every written page: the most corrections found in a codeword of each block (R548). -/
def State.nandScrub (s : State) (found : List (Nat × Nat)) : State :=
  if !s.operating || !s.store.nandPresent || !s.scrubDue 1 (7 * 24 * 3600) then s
  else (found.foldl (fun s f =>
    match s.block f.1 with
    | some b => if b.holdsData then s.setBlock f.1 { b with corrections := f.2 } else s
    | none => s) (s.scrubTaken 1 (7 * 24 * 3600))).noteRefresh

/-- The target is a free block of the partition, and no free block has a lower erase count (R548). -/
def State.lowestFree (s : State) (part target : Nat) : Bool :=
  match s.block target with
  | none => false
  | some t => t.free part && (decide (t.erases = 0) || (s.freshBlock part).isNone) &&
      s.listed.all (fun e => !e.2.free part || decide (t.erases ≤ e.2.erases))

/-- The data of a block moves to a free one, and the block is erased. -/
def State.moveBlock (s : State) (source target : Nat) : State :=
  match s.block source, s.block target with
  | some a, some b =>
    let s := s.setBlock target { b with holdsData := true, corrections := 0, writtenDay := s.today }
    s.setBlock source { a with holdsData := false, corrections := 0, erases := a.erases + 1 }
  | _, _ => s

/-- A block that needs refresh is rewritten, the oldest first (R548). -/
def State.nandRefresh (s : State) (block target : Nat) : State :=
  match s.block block with
  | none => s
  | some b =>
    if !s.operating || !s.refreshDue b || block = target || !s.lowestFree b.partition target then s
    else if s.refreshList.any (fun e => decide (e.2.writtenDay < b.writtenDay)) then s
    else (s.moveBlock block target).noteRefresh

/-- The highest erase count of a partition. -/
def State.eraseMaxOf (s : State) (part : Nat) : Nat :=
  s.store.blocks.foldl (fun m e => match e.2 with | none => m | some b => if b.partition = part then max m b.erases else m) 0

/-- Static wear levelling (R548): the least-erased block with data, 2,000 below the partition's highest; one move a minute. -/
def State.wearLevelMove (s : State) (block target : Nat) : State :=
  match s.block block with
  | none => s
  | some b =>
    let least := s.store.blocks.all (fun e => match e.2 with
      | none => true
      | some x => !x.holdsData || x.retired || decide (x.partition ≠ b.partition) || decide (b.erases ≤ x.erases))
    if !s.operating || !b.holdsData || b.retired || !least || block = target then s
    else if s.eraseMaxOf b.partition < b.erases + 2000 ∨ s.now < s.store.lastWearMove + ticksS 60 ∨ s.lowestFree b.partition target = false then s
    else (s.moveBlock block target).updStore (fun x => { x with lastWearMove := s.now })

/-- Blocks retired so far. -/
def State.retired (s : State) : Nat := s.store.blocks.countP (fun e => match e.2 with | none => false | some b => b.retired)

/-- Blocks of the spare partition that are left. -/
def State.sparesLeft (s : State) : Nat := s.store.partBlocks 4 - s.retired

/-- A block that failed a program or an erase, or needs more than 36 corrections, is copied out, retired and replaced by the spare of the
lowest erase count (R545, R548). -/
def State.nandBlockRetire (s : State) (block spare : Nat) (failed : Bool) : State :=
  match s.block block, s.block spare with
  | some b, some p =>
    if !s.running || b.retired || !(failed || decide (36 < b.corrections)) || !s.lowestFree 4 spare || decide (block = spare) then s
    else
      let s := s.setBlock spare { p with partition := b.partition, holdsData := b.holdsData, writtenDay := s.today }
      let s := (s.setBlock block { b with retired := true, holdsData := false }).milestoneEntry 0x8C
      s.updStore (fun x => { x with sparesLow := decide (s.sparesLeft * 200 < x.nandCount) })
  | _, _ => s

/-! ### As-applied records (R547) -/

/-- A write of AsAppliedExported frees records of the ring; where some were not written, the gap marker goes in (R547). -/
def State.asAppliedExportedWrite (s : State) (q : Sess) (v : Int) : State :=
  s.writeCommand q Obj.asAppliedExported v (fun s =>
    match s.applyNum Obj.asAppliedExported 0 v with
    | .error a => .error a
    | .ok s => .ok (match s.meter.interval with
      | some i => s.closeGap i.startTime i.base.product
      | none => s))

/-! ### Milestone (R551 to R556) -/

/-- A quantity is sampled at the end of each of its periods, from BOOT on (R551): CoreLoad, RtLoad, die temperature, VSNS. The loads are
measured. -/
def State.milestoneSampleRow (s : State) (item load : Nat) : State :=
  let p := if item < 2 then ticksS 1 else ticksS 60
  if !s.running || decide (3 < item) || !s.periodDue (0x10 + item) p then s
  else
  let s := s.periodTaken (0x10 + item) p
  match item with
    | 0 => (((s.setReg Obj.coreLoad (min load 1000)).milestoneSample 0 (linearBin 0 625 (10 * min load 1000)))).milestoneExtreme 0x44 (min load 1000)
    | 1 => (s.setReg Obj.rtLoad (min load 1000)).milestoneSample 1 (linearBin 0 625 (10 * min load 1000))
    | 2 => (s.milestoneSample 2 (linearBin (-40000) 10000 (s.reg Obj.dieTemperature))).milestoneExtreme 0x40 (s.reg Obj.dieTemperature)
    | 3 => (s.milestoneSample 3 (linearBin 0 2500 s.power.vsns)).milestoneExtreme 0x41 s.power.vsns
    | _ => s

/-- Every 6 h of operation the shadow goes to the home copy that does not hold the newest valid copy (R553). -/
def State.milestoneHomeWrite (s : State) : State :=
  let period := fun (n : Nat) => n / (6 * 3600)
  if !s.operating || decide (period s.opSeconds = 0) ||
      (s.milestone.home0.toList ++ s.milestone.home1.toList).any (fun h => decide (period s.opSeconds ≤ period h.opSeconds)) then s
  else
    let (n, s) := s.nextSeq
    let h := s.milestoneHome n
    let zeroNewest := match s.milestone.home0, s.milestone.home1 with
      | some a, some b => decide (b.seq < a.seq)
      | some _, none => true
      | none, _ => false
    { s with milestone := if zeroNewest then { s.milestone with home1 := some h } else { s.milestone with home0 := some h } }

/-- The pending bank is merged into the visible items (R554). -/
def State.mergeBanks (s : State) : State :=
  { s with milestone := { s.milestone with
      visible := s.milestone.visible.merge s.milestone.pendingBank, pendingBank := MilestoneBank.empty, frozen := false, freezeDue := none } }

/-- A write of 0x01 to MilestoneFreeze. -/
def State.milestoneFreeze (s : State) (q : Sess) : State :=
  s.writeCommand q Obj.milestoneFreeze 1 (fun s =>
    let s := s.setReg Obj.milestoneFreeze 1
    .ok (if s.milestone.frozen then s else { s with milestone := { s.milestone with frozen := true, freezeDue := s.after (ticksS 60) } }))

/-- A write of 0x00 to MilestoneFreeze. -/
def State.milestoneUnfreeze (s : State) (q : Sess) : State :=
  s.writeCommand q Obj.milestoneFreeze 0 (fun s =>
    let s := s.setReg Obj.milestoneFreeze 0
    .ok (if s.milestone.frozen then s.mergeBanks else s))

/-- 60 s after the freeze: merged, and FREEZE_EXPIRED. -/
def State.milestoneFreezeExpiry (s : State) : State :=
  if !(s.milestone.frozen && s.due s.milestone.freezeDue) then s
  else
    let s := s.mergeBanks
    { s with milestone := { s.milestone with expired := true } }

/-- A write of MilestoneClear (R556). -/
def State.milestoneClear (s : State) (q : Sess) (v : Int) : State :=
  s.writeCommand q Obj.milestoneClear v (fun s =>
    .ok { s with milestone := { s.milestone with visible := MilestoneBank.empty, pendingBank := MilestoneBank.empty, since := s.stamp } })

/-- The bytes of a stamp. -/
def Stamp.bytes (x : Stamp) : List Byte := leBytes 4 x.opSeconds ++ leBytes 4 x.cycles ++ leInt 8 x.time

/-- The record of an item (R555); none where no item has the number. -/
def State.milestoneItem (s : State) (n : Nat) : Option (List Byte) :=
  let head (kind : Nat) : List Byte := leBytes 1 n ++ leBytes 1 kind ++ [0, 0] ++ s.milestone.since.bytes
  let b := s.milestone.visible
  if n ≤ 0x0A then some (withCrc32 (head 1 ++ (List.range 16).flatMap (fun k => leBytes 4 (Tab.get 0 b.hist (n * 16 + k)))))
  else if 0x40 ≤ n ∧ n ≤ 0x44 then
    let x := (Tab.get none b.ext n).getD { min := 0, minAt := Stamp.zero, max := 0, maxAt := Stamp.zero }
    some (withCrc32 (head 2 ++ leInt 4 x.min ++ x.minAt.bytes ++ leInt 4 x.max ++ x.maxAt.bytes))
  else if 0x80 ≤ n ∧ n ≤ 0x92 then
    let x := (Tab.get none b.cls n).getD { count := 0, first := Stamp.zero, last := Stamp.zero }
    some (withCrc32 (head 3 ++ leBytes 4 x.count ++ x.first.bytes ++ x.last.bytes))
  else none

/-- StoreStatus. -/
def State.storeStatus (s : State) : Nat :=
  flag s.store.nandPresent 0 + flag s.store.nandFault 1 + flag s.store.sparesLow 2 + flag s.store.recordsFull 3
  + flag s.store.refreshBehind 4 + flag s.store.spilled 5 + flag s.store.scrubRunning 6 + flag s.store.mramBad 7

end Sys2Proof.Machine
end

