-- ==== Sys2Proof/Machine/Tollgate.lean ====
section
/-!
DEFINITION. Machine/Tollgate.lean: images, their check, update and trial (R571 to R577), and activation (R579 to R583).
-/
namespace Sys2Proof.Machine

/-! ### The check of an image (R571 to R573) -/

/-- One row of a section table. -/
structure ImageSection where
  type : Nat
  offset : Nat
  length : Nat
  hash : List Byte
  deriving DecidableEq, Repr

/-- A section table of n rows at an offset. -/
def sectionTable (b : List Byte) (off n : Nat) : List ImageSection :=
  (List.range n).map (fun k =>
    { type := fieldU b (off + 48 * k) 1, offset := fieldU b (off + 48 * k + 4) 4, length := fieldU b (off + 48 * k + 8) 4
      hash := slice b (off + 48 * k + 16) 32 })

/-- Every section hashes to its row. -/
def hashesOk (b : List Byte) (l : List ImageSection) : Bool := l.all (fun x => decide (Config.sha256 (slice b x.offset x.length) = x.hash))

/-- The sections lie within a part of a length. -/
def sectionsFit (l : List ImageSection) (len : Nat) : Bool := l.all (fun x => decide (x.offset + x.length ≤ len))

/-- The end of the vendor part: past its signature and its last section. -/
def vendorEnd (n : Nat) (l : List ImageSection) : Nat := l.foldl (fun m x => max m (x.offset + x.length)) (32 + 48 * n + 64)

/-- What an image says of itself, and the first failure of R573 (0 none): its steps in order, the role step with a role only,
the hashes last. The test root loads test images alone, the production root none of them (R570). -/
def State.checkImage (s : State) (b : List Byte) (role : Option Role) : Nat × ImageInfo :=
  let n := fieldU b 6 2
  let total := fieldU b 16 4
  let flags := fieldU b 15 1
  let sections := sectionTable b 32 n
  let signed := b.take (32 + 48 * n)
  let sig := slice b (32 + 48 * n) 64
  let info : ImageInfo := { version := fieldU b 8 4, security := fieldU b 12 2, digest := Config.sha256 signed, test := bit flags 0 }
  let v := vendorEnd n sections
  let part := b.drop v
  let m := fieldU part 38 2
  let inner := sectionTable part 40 m
  let types := [1, 2, 3, 4, 5, 6, 7]
  let formOk := decide (fieldU b 0 4 = 0x49594B44) && decide (fieldU b 4 2 = 1) && decide (1 ≤ n ∧ n ≤ 32) && decide (total = b.length) &&
    decide (total ≤ 536870912) && decide (v ≤ total) && sectionsFit sections total && types.all (fun t => decide (sections.countP (fun x => decide (x.type = t)) = 1)) &&
    sections.all (fun x => types.contains x.type)
  let integrator := decide (v < total)
  let innerOk := decide (fieldU part 0 4 = 0x4E494B44) && decide (fieldU part 4 2 = 1) && decide (1 ≤ m ∧ m ≤ 32) && decide (40 + 48 * m + 64 ≤ part.length) &&
    inner.all (fun x => decide (x.type = 8)) && sectionsFit inner (part.length - 64)
  let rootKey := s.keyOf 0
  let code :=
    if rootKey.isNone then 8
    else if !formOk || (integrator && !innerOk) then 2
    else if info.test != s.mode.testRoot then 9
    else if !Config.ecdsaVerify (rootKey.getD []) info.digest sig then 3
    else if integrator && ((s.keyOf 3).isNone || !decide (slice part 6 32 = info.digest) ||
      !Config.ecdsaVerify ((s.keyOf 3).getD []) (Config.sha256 (part.take (part.length - 64))) (part.drop (part.length - 64))) then 4
    else if info.security < s.gate.anchor.minSecurity then 5
    else if (match role with | none => false | some r => !bit (fieldU b 14 1) (roleBit r)) then 6
    else if !hashesOk b sections || (integrator && !hashesOk part inner) then 7
    else 0
  (code, info)

/-! ### Image slots (R574, R576) -/

/-- ImageSlotState (R584). -/
def State.imageSlotState (s : State) (n : Nat) : Nat :=
  if s.gate.anchor.active = some n then (if s.gate.anchor.trial then 5 else 4)
  else match (s.image n).state with
    | .empty => 0
    | .receiving => 1
    | .verified => 2
    | .invalid => 3

/-- An activation is offered or committed. -/
def State.activating (s : State) : Bool :=
  match s.gate.activation with
  | none => false
  | some a => a.cancelled.isNone

/-- The conditions under which update and activation objects refuse (R570, R576). -/
def State.updateRefused (s : State) : Bool := s.mode.testRoot || decide (s.mode.current = .service)

/-- A write of UpdateBegin erases the inactive slot and sets it to receiving (R576). -/
def State.updateBegin (s : State) (q : Sess) (v : Int) : State :=
  s.writeCommand q Obj.updateBegin v (fun s =>
    if s.updateRefused || s.activating || s.gate.anchor.trial then .error abortAccess
    else if !s.store.nandPresent then .ok (s.setReg Obj.updateResult 0x0C)
    else .ok (((s.setImage s.inactiveSlot { ImageSlot.empty with state := .receiving, total := v.toNat }).setReg Obj.updateReceived 0).setReg Obj.updateResult 1))

/-- A write of UpdateData appends to the slot that receives (R576). -/
def State.updateData (s : State) (q : Sess) (data : List Byte) : State :=
  s.writeBytesCommand q Obj.updateData data (fun s =>
    let x := s.image s.inactiveSlot
    if s.updateRefused || decide (x.state ≠ .receiving) then .error abortAccess
    else if data.isEmpty then .error abortRange
    else if !s.store.nandPresent then .ok (s.setReg Obj.updateResult 0x0C)
    else if x.total < x.bytes.length + data.length then .ok (s.setReg Obj.updateResult 0x0B)
    else .ok (((s.setImage s.inactiveSlot { x with bytes := x.bytes ++ data }).writeImage data.length).setReg Obj.updateReceived ((x.bytes.length + data.length : Nat) : Int)))

/-- A write of UpdateVerify checks the slot (R576). -/
def State.updateVerify (s : State) (q : Sess) (v : Int) : State :=
  s.writeCommand q Obj.updateVerify v (fun s =>
    let x := s.image s.inactiveSlot
    if s.updateRefused || decide (x.state ≠ .receiving) then .error abortAccess
    else if !s.store.nandPresent then .ok (s.setReg Obj.updateResult 0x0C)
    else
      let (c, info) := s.checkImage x.bytes none
      let c := if x.bytes.length ≠ x.total then 2 else c
      let s := s.setImage s.inactiveSlot { x with state := if c = 0 then .verified else .invalid, info := if c = 0 then info else x.info }
      .ok (s.setReg Obj.updateResult c))

/-! ### Trial (R577) -/

/-- The image has been in an operating mode for 300 s: confirmed, and MinSecurityVersion rises. -/
def State.trialConfirm (s : State) : State :=
  match s.gate.trialFrom, s.gate.running with
  | some t, some r =>
    if !s.gate.anchor.trial || s.now < t + ticksS 300 || !s.operating || decide (s.mode.current = .service) then s
    else
      (s.updGate (fun g => { g with trialFrom := none, anchor := { g.anchor with
        trial := false, minSecurity := max g.anchor.minSecurity r.security, outcome := 5 } })).setReg Obj.activationState 5
  | _, _ => s

/-- The other slot is active again: the image on trial is given up (R577). -/
def State.revert (s : State) : State :=
  (s.updGate (fun g => { g with trialFrom := none, anchor := { g.anchor with
    active := some (match g.anchor.active with | some 0 => 1 | _ => 0), trial := false, outcome := 6 } })).milestoneEntry 0x90

/-- A trial image is not in an operating mode 120 s after reset release. -/
def State.trialTimeout (s : State) : State :=
  if s.gate.anchor.trial && decide (s.mode.current = .boot) && decide (ticksS 120 ≤ s.now) then s.revert else s

/-! ### Activation (R579 to R583) -/

/-- The record that announces the state of an activation: offer, commit or cancel. -/
def Activation.news (a : Activation) : AirRecord :=
  match a.cancelled with
  | some r => { code := 0x88, data := leBytes 4 a.id ++ leBytes 1 r }
  | none =>
    if a.committed then { code := 0x87, data := leBytes 4 a.id ++ leInt 8 a.time }
    else { code := 0x86, data := leBytes 4 a.id ++ leInt 8 a.time ++ leBytes 4 a.version ++ a.digest }

/-- The manager tells its workers; the machines hear of it in each window. -/
def State.tellWorkers (s : State) : State :=
  match s.gate.activation with
  | none => s
  | some a => if a.fleet && s.isManager then s.sendAll (activationMsg a.news.code a.news.data) else s

/-- A fleet activation is offered (R579). -/
def State.activationFleet (s : State) (q : Sess) : State :=
  s.writeCommand q Obj.activationCommand 2 (fun s =>
    if s.updateRefused || !(s.isManager && s.isBase) || s.activating then .error abortAccess
    else
      let t := s.reg Obj.activationTime
      let digest := s.oct Obj.activationDigest
      let ahead := t - s.time64
      if !s.onInterval t || decide (ahead < 60000000000) || decide (604800000000000 < ahead) then .ok (s.setReg Obj.activationResult 1)
      else if !s.verifiedWith digest then .ok (s.setReg Obj.activationResult 2)
      else
        let (id, s) := s.drawBits 32
        let s := s.updGate (fun g => { g with activation := some {
          id := id.toNat, time := t, version := (s.image s.inactiveSlot).info.version, digest := digest, fleet := true, committed := false,
          answers := [], answered := none, cancelled := none } })
        .ok ((((s.setReg Obj.activationState 1).setReg Obj.activationId id.toNat).setOct Obj.activationReady (List.replicate 18 0)).tellWorkers))

/-- Activation of this module alone (R583): at once committed. -/
def State.activationLocal (s : State) (q : Sess) : State :=
  s.writeCommand q Obj.activationCommand 1 (fun s =>
    if s.updateRefused || s.activating then .error abortAccess
    else
      let t := s.reg Obj.activationTime
      let digest := s.oct Obj.activationDigest
      if t % 1000000000 ≠ 0 ∨ t - s.time64 < 10000000000 ∨ (s.isBase ∧ s.onInterval t = false) then .ok (s.setReg Obj.activationResult 1)
      else if !s.verifiedWith digest then .ok (s.setReg Obj.activationResult 2)
      else
        let s := s.updGate (fun g => { g with
          activation := some { id := s.regN Obj.activationId, time := t, version := (s.image s.inactiveSlot).info.version, digest := digest,
                               fleet := false, committed := true, answers := [], answered := none, cancelled := none }
          anchor := { g.anchor with committed := true } })
        .ok (s.setReg Obj.activationState 2))

/-- The activation is cancelled with a reason (R581). -/
def State.cancelActivation (s : State) (reason : Nat) : State :=
  if !s.activating then s
  else
    let s := s.updActivation (fun a => { a with cancelled := some reason })
    let s := s.updGate (fun g => { g with anchor := { g.anchor with committed := false } })
    ((s.setReg Obj.activationState 3).setReg Obj.activationResult reason).tellWorkers

/-- ActivationCommand 0x03 on the manager. -/
def State.activationCancel (s : State) (q : Sess) : State :=
  s.writeCommand q Obj.activationCommand 3 (fun s =>
    if s.updateRefused || !(s.isManager && s.isBase) || !s.activating then .error abortAccess else .ok (s.cancelActivation 6))

/-- An activation record from a base, of a code: over the radio at a rover, over the base link at a worker. -/
def State.activationRx (s : State) (code : Nat) (u : Uplink) : State × Option (List Byte) :=
  match u with
  | .radio frames => s.downRecord code frames
  | .link h _ data =>
    if s.isBase && s.isWorker then
      let (s, ok) := s.acceptLink h
      (s, if ok then some data else none)
    else (s, none)

/-- An offer arrives; the module answers (R579, R580). -/
def State.activationOfferRx (s : State) (u : Uplink) : State :=
  let (s, d) := s.activationRx 0x86 u
  match d with
  | none => s
  | some d =>
    let id := fieldU d 0 4
    let known := match s.gate.activation with
      | some a => decide (a.id = id) && a.fleet
      | none => false
    if known then s
    else if s.activating then s
    else
      let s := s.updGate (fun g => { g with activation := some {
        id := id, time := fieldI d 4 8, version := fieldU d 12 4, digest := slice d 16 32, fleet := true, committed := false, answers := [],
        answered := none, cancelled := none } })
      ((s.setReg Obj.activationState 1).setReg Obj.activationId id).sendAnswer

/-- ACTIVATION_ANSWER_RX. -/
def State.activationAnswerRx (s : State) (u : Uplink) : State :=
  if !s.isBase then s
  else match u with
    | .link h base d => if s.isManager then s.fromLink h (fun s => s.noteAnswer (1000 + base) d) else s
    | u =>
      let (s, r) := s.uplink 6 u
      match r with
      | none => s
      | some (m, d) => s.noteAnswer (m % 128) d

/-- Every linked worker and every connected machine has answered with a code. -/
def State.allAnswered (s : State) (a : Activation) (c : Nat) : Bool :=
  s.linkedBases.all (fun b => decide (Tab.get none a.answers (1000 + b) = some c)) &&
  s.connectedSlots.all (fun n => decide (Tab.get none a.answers n = some c))

/-- The commit point T − 10 s on the manager (R581). -/
def State.activationCommitPoint (s : State) : State :=
  match s.gate.activation with
  | none => s
  | some a =>
    if !a.fleet || a.committed || a.cancelled.isSome || !(s.isManager && s.isBase) || decide (s.time64 < a.time - 10000000000) then s
    else if s.allAnswered a 0 && decide (s.reg Obj.reservationsHeld = 0) && decide (s.mode.current ≠ .halt) then
      let s := s.updActivation (fun a => { a with committed := true })
      ((s.updGate (fun g => { g with anchor := { g.anchor with committed := true } })).setReg Obj.activationState 2).tellWorkers
    else s.cancelActivation 3

/-- The commit arrives; the module answers 0x05 (R581). -/
def State.activationCommitRx (s : State) (u : Uplink) : State :=
  let (s, d) := s.activationRx 0x87 u
  match d, s.gate.activation with
  | some d, some a =>
    if a.id ≠ fieldU d 0 4 ∨ a.fleet = false ∨ a.cancelled.isSome then s
    else
      let s := s.updActivation (fun a => { a with committed := true, time := fieldI d 4 8 })
      ((s.updGate (fun g => { g with anchor := { g.anchor with committed := true } })).setReg Obj.activationState 2).sendAnswer
  | _, _ => s

/-- A cancel arrives (R581). -/
def State.activationCancelRx (s : State) (u : Uplink) : State :=
  let (s, d) := s.activationRx 0x88 u
  match d, s.gate.activation with
  | some d, some a => if a.id ≠ fieldU d 0 4 ∨ a.fleet = false then s else s.cancelActivation (fieldU d 4 1)
  | _, _ => s

/-- At T − 2 s a missing answer 0x05 cancels (R581). -/
def State.activationAnswerDeadline (s : State) : State :=
  match s.gate.activation with
  | none => s
  | some a =>
    if !a.fleet || !a.committed || !(s.isManager && s.isBase) || decide (s.time64 < a.time - 2000000000) || s.allAnswered a 5 then s
    else s.cancelActivation 4

/-- At T a committed module that is not in HALT marks its new slot active, in trial, and makes the orderly save of a reset
request (R582, R583). -/
def State.activationTime (s : State) : State :=
  match s.gate.activation with
  | none => s
  | some a =>
    if s.time64 < a.time ∨ s.operating = false then s
    else
      let s := s.updGate (fun g => { g with activation := none, anchor := { g.anchor with committed := false } })
      if a.cancelled.isSome || !a.committed then s
      else if s.mode.current = .halt then (s.setReg Obj.activationResult 7).setReg Obj.activationState 0
      else if !a.fleet ∧ s.mode.role = some .rover ∧ s.fleet.task.isSome then (s.setReg Obj.activationResult 9).setReg Obj.activationState 0
      else if !s.verifiedWith a.digest then s.setReg Obj.activationState 0
      else
        let s := s.updGate (fun g => { g with anchor := { g.anchor with active := some s.inactiveSlot, trial := true, outcome := 4 } })
        (s.setReg Obj.activationState 4).beginOrderly .resetRequest

/-! ### Key registers (R566) -/

/-- Registers 8 to 63 cache the session keys of slots: a miss loads one blob in the place of the least recently used. A blob
that fails its unwrap check is discarded, and the session key ends its connection with a terminate. -/
def State.keyRegisterLoad (s : State) (slot : Nat) (ok : Bool) : State :=
  let formed := if s.isBase then decide ((s.slot slot).state = .connected ∨ (s.slot slot).state = .closing) else s.radio.sessionKey.isSome
  if !s.operating || !formed then s
  else if s.gate.registers.contains slot then
    s.updGate (fun g => { g with registers := slot :: g.registers.filter (fun x => decide (x ≠ slot)) })
  else
    let s := s.incr Obj.keyRegisterLoads
    if ok then s.updGate (fun g => { g with registers := (slot :: g.registers).take 56 })
    else if s.isBase then
      if (s.slot slot).state = .connected then
        (s.setSlot slot { s.slot slot with state := .closing }).updRadio (fun r => { r with terminates := r.terminates ++ [slot] })
      else s
    else if s.radio.conn = .connected then s.updRadio (fun r => { r with conn := .closing })
    else s

end Sys2Proof.Machine
end

