-- ==== Sys2Proof/Machine/Zheoc.lean ====
section
/-!
DEFINITION. Machine/Zheoc.lean: the pair of redundant bases (R585 to R603): link and lanes, heartbeat and fence, arbitration
at BOOT, transfer, mirrored inputs and digests, failover, and the switch of roles.
-/
namespace Sys2Proof.Machine

/-- The module is one unit of a pair: a base with RedundancyEnable since BOOT (R585). -/
def State.inPair (s : State) : Bool :=
  s.running && decide (s.mode.role = some .base) && decide (s.bootReg Obj.redundancyEnable = 1)

/-- The 1 ms frame number of now. -/
def State.frameNumber (s : State) : Nat := (s.time64 / 1000000).toNat

/-- The code of a PairState. -/
def pairCode : PairState → Nat
  | .noPartner => 0 | .linking => 1 | .transfer => 2 | .inStep => 3 | .outOfStep => 4

/-- Enters a pair state. -/
def State.setPair (s : State) (p : PairState) : State := s.updZheoc (fun z => { z with pair := p })

/-! ### Link (R588, R589) -/

/-- The link trains, and a hello goes out. -/
def State.linkTrained (s : State) : State :=
  if s.inPair && !s.linkUp then (s.updZheoc (fun z => { z with lane0 := true, lane1 := true })).zlSend 2 else s

/-- The pair loses step (R594 to R596). -/
def State.loseStep (s : State) : State :=
  match s.zheoc.pair with
  | .inStep | .transfer => s.updZheoc (fun z => { z with pair := .outOfStep, equalRun := 0, copied := false })
  | _ => s

/-- A lane is dropped, or shows errors while it is; without any lane the link is down and the pair out of step. -/
def State.laneDrop (s : State) (lane : Nat) : State :=
  if !s.inPair then s
  else
    let s := s.updZheoc (fun z => { z with lane0 := z.lane0 && decide (lane ≠ 0), lane1 := z.lane1 && decide (lane = 0), dropAt := Tab.put 0 z.dropAt lane s.now })
    if s.linkUp then s else s.loseStep

/-- A dropped lane rejoins after 100 ms free of errors. -/
def State.laneRejoin (s : State) (lane : Nat) : State :=
  if s.inPair && s.linkUp && decide (Tab.get 0 s.zheoc.dropAt lane + ticksMs 100 ≤ s.now) then s.updZheoc (fun z => if lane = 0 then { z with lane0 := true } else { z with lane1 := true }) else s

/-- 20 µs without acknowledgement, or a reported CRC failure: the frames go again from the first unacknowledged one. -/
def State.zlRetransmitTimeout (s : State) (crcFailed : Bool) : State :=
  match s.zheoc.unacked with
  | [] => s
  | f :: _ =>
    if s.inPair && s.linkUp && (crcFailed || decide (f.at_ + ticksUs 20 ≤ s.now)) then
      (s.incr Obj.linkRetransmits).updZheoc (fun z => { z with unacked := z.unacked.map (fun f => { f with at_ := s.now }) })
    else s

/-! ### Inputs in step (R595) -/

/-- An input that arrives at this unit (R592, R595, R597): a deposed unit applies none, and a STANDBY unit discards what its own
transceivers and ports receive. -/
def State.asInput (s : State) (f : State → State) : State :=
  if s.zheoc.deposed ∨ s.mode.current = .standby then s else f s

/-- A command of the host or of a session: a deposed unit applies none. -/
def State.asCommand (s : State) (f : State → State) : State := if s.zheoc.deposed then s else f s.noteInput

/-- The oldest mirrored input waits for its acknowledgement for 1 ms: OUT_OF_STEP, and the acting unit goes on alone. -/
def State.mirrorTimeout (s : State) : State :=
  let late := fun (type t : Nat) => decide (type = 5) && decide (t + ticksMs 1 ≤ s.now)
  if s.zheoc.acting && decide (s.zheoc.pair = .inStep) && (s.zheoc.unacked.any (fun f => late f.type f.first) || s.zheoc.held.any (fun f => late f.1 f.2)) then
    s.loseStep
  else s

/-- Objects that stay a unit's own: 0xD000 and 0x2010 (R594, R597). -/
def ownPair (key : Nat) : Bool := decide (key / 2 ^ 32 / 256 = 0xD000) || decide (key / 2 ^ 32 / 256 = 0x2010)

/-- A mirrored message of the base link, applied as the acting unit applies it. -/
def State.applyLink (s : State) (base : Nat) (m : LinkMsg) : State :=
  match m with
  | .claim machine d => s.claimRx machine d
  | .segment slot b => s.segmentRx (base * 128 + slot) b
  | .trackDone machine n => s.trackDoneRx machine n
  | .taskRelease machine id => s.taskReleaseRx machine id
  | .copy o d => s.fleetRecordCopyRx o d
  | .reservation slot held => s.reservationReportRx slot held
  | .heartbeat halted reports => (s.updFleet (fun f => { f with heard := Tab.put none f.heard base (some s.now) })).heartbeatHeard base halted reports
  | .segmentAck _ _ | .painted _ _ _ | .record _ _ | .stop _ | .stopRequest | .release | .dictRequest _ _ | .dictResponse _ | .activation _ => s

/-- A mirrored input takes effect (R595). -/
def State.applyMirrored (s : State) (x : MirrorInput) : State :=
  match x with
  | .record code machine d =>
    if code = 1 then s.segmentRx machine d
    else if code = 2 then s.claimRx machine d
    else if code = 3 then s.tileRequestRx (machine % 128) d
    else if code = 4 then s.trackDoneRx machine (fieldU d 0 2)
    else s.taskReleaseRx machine (fieldU d 0 4)
  | .report frame tick rssi => s.uplinkReportRx frame tick rssi
  | .slot n c => s.setSlot n c
  | .link base m => s.applyLink base m
  | .num k v =>
    match objOfKey k with
    | none => s
    | some o => if ownPair k then s else if o.acc = .rws then s.storeNum o (k % 2 ^ 32) v else s.setRegAt o (k % 2 ^ 32) v
  | .bytes k v =>
    match objOfKey k with
    | none => s
    | some o => if ownPair k then s else if o.acc = .rws then s.storeOct o (k % 2 ^ 32) v else s.setOctAt o (k % 2 ^ 32) v
  | .push n ws ended => s.applyPush n ws ended
  | .draw _ => s
  | .conversion t r st => { s with clk := { s.clk with offset := t, ref := s.clk.c, rate := r, state := st, valid := s.clk.valid || decide (st ≠ .unknown) } }
  | .roleSwitch t => s.updZheoc (fun z => { z with switchAt := some t })

/-- The mirrored inputs of frames that have come are applied, in order. -/
def State.applyWaiting (s : State) : State :=
  let due := s.zheoc.waiting.filter (fun e => decide (e.1 ≤ s.frameNumber))
  let s := s.updZheoc (fun z => { z with waiting := z.waiting.filter (fun e => decide (s.frameNumber < e.1)) })
  due.foldl (fun s e => s.applyMirrored e.2) s

/-- The standby takes a mirrored input that came in order, and applies it in its frame. -/
def State.takeMirrored (s : State) (seq frame : Nat) (x : MirrorInput) : State :=
  if s.mode.current ≠ .standby then s
  else (s.updZheoc (fun z => { z with inputs := z.inputs ++ [seq], waiting := z.waiting ++ [(frame, x)] })).applyWaiting

/-! ### Heartbeat (R590 to R592) -/

/-- A heartbeat of the partner arrives on a path: the longest gap is kept. -/
def State.noteGap (s : State) : State :=
  let last := max (s.zheoc.linkSeen.getD 0) (s.zheoc.pulseSeen.getD 0)
  if s.zheoc.linkSeen.isNone && s.zheoc.pulseSeen.isNone then s else s.raiseReg Obj.heartbeatGapMax (((s.now - last) / ticksUs 1 : Nat) : Int)

/-- The pair state that follows a heartbeat (R594): the acting unit takes its standby's; a standby whose acting partner is out
of step is out of step too. -/
def State.adoptPair (s : State) (b : Beat) : State :=
  if s.zheoc.acting then
    if b.mode ≠ .standby then s
    else match s.zheoc.pair, b.pair with
      | .outOfStep, .inStep => s
      | .noPartner, .noPartner => s.setPair .linking
      | _, .noPartner => s.setPair .linking
      | _, p => s.setPair p
  else if s.mode.current ≠ .standby then s
  else match s.zheoc.pair, b.pair with
    | .noPartner, _ => s.setPair .linking
    | .inStep, .outOfStep => s.loseStep
    | _, _ => s

/-- A halt flag taken over from the partner goes to MRAM (R101). -/
def State.takeHalt (s : State) (f : Option HaltCause) : State :=
  if s.mode.haltFlag = f then s
  else ({ s with mode := { s.mode with haltFlag := f } } : State).journal (.halt f.isSome (f.getD .none))

/-- From TRANSFER on a STANDBY unit holds the pair's halt state, not its own (R101; log 186). -/
def State.adoptHalt (s : State) (b : Beat) : State :=
  if s.mode.current ≠ .standby || (decide (s.zheoc.pair ≠ .transfer) && decide (s.zheoc.pair ≠ .inStep)) then s
  else match b.mode with
    | .halt => if s.mode.haltFlag.isSome then s else s.takeHalt (some .failover)
    | .base => s.takeHalt none
    | _ => s

/-- A heartbeat frame. -/
def State.beatRx (s : State) (b : Beat) : State :=
  let s := s.noteGap.updZheoc (fun z => { z with linkSeen := some s.now, partner := some b })
  ((s.setOct Obj.partnerDeviceId b.device).adoptPair b).adoptHalt b

/-- A unit with its partner acting sends at whole 200 µs + 100 µs, an acting one at whole 200 µs of reported time. -/
def State.inPhase (s : State) (actingPhase : Bool) : Bool :=
  let t := (s.time64 - (if actingPhase then 0 else 100000)) % 200000
  decide (t ≤ 20000) || decide (180000 ≤ t)

/-- A pulse on ZL_HB counts as the partner's in the partner's phase alone. -/
def State.hbPulseRx (s : State) : State :=
  if !s.inPair then s
  else if s.inPhase (!s.zheoc.acting) then s.noteGap.updZheoc (fun z => { z with pulseSeen := some s.now })
  else s

/-- This unit emits heartbeats: the acting unit while its health token is fresh and it is not deposed, a STANDBY unit always. -/
def State.emits (s : State) : Bool :=
  match s.mode.current with
  | .standby => true
  | .base | .halt => s.zheoc.acting && !s.zheoc.deposed && !s.zheoc.stopped && decide (s.now < s.zheoc.token + ticksUs 500)
  | _ => false

/-- Every 200 µs a heartbeat goes out on both paths; fresh: a level-31 thread has refreshed the health token since the last. -/
def State.heartbeatTx (s : State) (fresh : Bool) : State :=
  if !(s.inPair && s.operating) ∨ s.now < s.zheoc.beatAt + ticksUs 200 then s
  else
    let s := if fresh then s.updZheoc (fun z => { z with token := s.now, stopped := false }) else s
    if s.emits then
      let b : Beat := { device := s.deviceId, mode := s.mode.current, pair := s.zheoc.pair, frame := s.frameNumber, epoch := s.gate.linkEpoch }
      s.updZheoc (fun z => { z with beat := some b, beatAt := s.now })
    else s

/-- The health token was not refreshed for 0.5 ms: heartbeats stop. -/
def State.healthTokenExpiry (s : State) : State :=
  if s.inPair && s.zheoc.acting && decide (s.zheoc.token + ticksUs 500 ≤ s.now) then s.updZheoc (fun z => { z with stopped := true }) else s

/-- An acting unit in step whose heartbeat has been stopped for 3.0 ms is deposed. -/
def State.depose (s : State) : State :=
  if s.inPair && s.zheoc.acting && decide (s.zheoc.pair = .inStep) && decide (s.zheoc.beatAt + ticksMs 3 ≤ s.now) then
    s.updZheoc (fun z => { z with deposed := true })
  else s

/-- 5.5 ms after its last heartbeat a deposed unit's fence acts, and it makes the orderly save and reset. -/
def State.fence (s : State) : State :=
  if s.zheoc.deposed && !s.zheoc.fenced && decide (s.zheoc.beatAt + ticksUs 5500 ≤ s.now) then
    let s := s.updZheoc (fun z => { z with fenced := true })
    let s := { s with clk := { s.clk with ppsOut := false, ppsFallDue := none } }
    ((s.updRadio (fun r => { r with on := false, txA := [], txB := [] })).milestoneEntry 0x92).beginOrderly .resetRequest
  else s

/-! ### Failover (R598, R599) -/

/-- The pair's identity goes on at a new acting unit: FSEQ 256 beyond the last one mirrored, the link epoch mirrored plus 1 with
its sequence at 0, transceivers in full operation; signals that are not aligned start their lock anew. -/
def State.takeIdentity (s : State) : State :=
  let epoch := (match s.zheoc.partner with | none => s.gate.linkEpoch | some b => b.epoch) + 1
  let aligned := (s.zheoc.offsets.filter (fun e => match e.2 with | none => false | some o => decide (10 ≤ o.run))).map (·.1)
  let s := s.updGate (fun g => { g with linkEpoch := epoch % 2 ^ 32 })
  let s := s.updFleet (fun f => { f with linkSeq := 0 })
  let s := s.updRadio (fun r => { r with fseq := (r.fseq + 256) % 65536, on := decide (s.reg Obj.configResult = 0) })
  let s := s.mapChans (fun n c => if aligned.contains n then c else { c with lockFrom := if c.lockFrom.isNone then none else some s.now, lockBroken := true })
  s.updZheoc (fun z => { z with acting := true, stopped := false, token := s.now, beatAt := s.now })

/-- A STOP channel that is asserted when the trigger takes effect acts as a rising edge. -/
def State.heldStop (s : State) : State := if s.crier.levelA || s.crier.levelB then s.stopAct else s

/-- The failover trigger takes effect; th is the tick of the partner's last heartbeat. -/
def State.failover (s : State) (th : Nat) : State :=
  let halted : Bool := match s.zheoc.partner with | none => false | some b => decide (b.mode = .halt)
  let s := s.takeIdentity.updZheoc (fun z => { z with pair := .noPartner, haltOutFrom := some (th + ticksUs 5600), switchAt := none })
  let s := if halted then s.haltTrigger .failover else s.setMode .base
  let s := (s.incr Obj.failovers).milestoneEntry 0x91
  (s.heartbeatPeers.foldl (fun s b => s.sendLink b (.heartbeat halted [])) s).heldStop

/-- No heartbeat frame for 3.0 ms now, and no partner pulse for 3.0 ms now (R591). -/
def State.linkLost (s : State) : Bool := decide (s.zheoc.linkSeen.getD 0 + ticksMs 3 ≤ s.now)
def State.landLost (s : State) : Bool := decide (s.zheoc.pulseSeen.getD 0 + ticksMs 3 ≤ s.now)

/-- The partner's heartbeat is lost on both paths: a failover where this STANDBY unit is in step, which a trigger of RESET or HOLDUP in
the same cycle outranks (R49); else there is no partner. -/
def State.heartbeatLoss (s : State) : State :=
  if !(s.inPair && s.operating && s.linkLost && s.landLost) then s
  else
    let th := max (s.zheoc.linkSeen.getD 0) (s.zheoc.pulseSeen.getD 0)
    let s := s.raiseReg Obj.heartbeatGapMax (((s.now - th) / ticksUs 1 : Nat) : Int)
    if s.mode.current = .standby ∧ s.zheoc.pair = .inStep then (if s.resetWaits then s else s.failover th)
    else s.updZheoc (fun z => { z with pair := .noPartner, hello := none, copied := false, equalRun := 0 })

/-- 5.6 ms after the partner's last heartbeat the new acting unit drives HALT_OUT_A and HALT_OUT_B. -/
def State.haltOutTakeover (s : State) : State :=
  if s.due s.zheoc.haltOutFrom then s.updZheoc (fun z => { z with haltOutFrom := none }) else s

/-! ### Arbitration (R593) -/

/-- The own DEV_ID is the higher of the two, as unsigned big-endian numbers. -/
def State.higherThan (s : State) (device : List Byte) : Bool := decide (beNat device < beNat s.deviceId)

/-- A pulse in the acting phase was heard while the unit listened (R593); it counts as a heartbeat of an acting partner (log 185). -/
def State.pulseFound (s : State) : Bool :=
  match s.zheoc.pulseSeen with
  | none => false
  | some t => decide (t < s.gate.releasedAt + ticksMs 20)

/-- BOOT has found a partner. -/
def State.partnerFound (s : State) : Bool := s.zheoc.partner.isSome || s.zheoc.hello.isSome || s.pulseFound

/-- After 20 ms of listening in BOOT the unit chooses; where it found nothing, a foreign low in the next 10 ms leaves BASE to the
unit with the lower DEV_ID. -/
def State.partnerArbitration (s : State) (foreignLow higher : Bool) : State :=
  if s.mode.current ≠ .boot ∨ s.inPair = false ∨ s.zheoc.choice.isSome ∨ s.now < s.gate.releasedAt + ticksMs (if s.partnerFound then 20 else 30) then s
  else
    let choice : Mode := match s.zheoc.partner with
      | some b => if b.mode = .base ∨ b.mode = .halt then .standby else if s.higherThan b.device then .standby else .base
      | none => match s.zheoc.hello with
        | some h => if s.higherThan h.device then .standby else .base
        | none => if s.pulseFound || (foreignLow && higher) then .standby else .base
    s.updZheoc (fun z => { z with choice := some choice })

/-- A unit in BASE sees its partner acting: DUAL_ACTIVE; the higher DEV_ID makes the orderly save and reset. -/
def State.dualActiveDetect (s : State) (pulse higher : Bool) : State :=
  let seen := match s.zheoc.partner with | none => false | some b => decide (b.mode = .base) && !s.linkLost
  if !(s.inPair && s.zheoc.acting && decide (s.mode.current = .base) && (pulse || seen)) then s
  else
    let s := s.updZheoc (fun z => { z with dualActive := true })
    let resets := match s.zheoc.partner with | none => higher | some b => s.higherThan b.device
    if resets && s.power.saving.isNone then (s.milestoneEntry 0x92).beginOrderly .resetRequest else s

/-! ### Transfer and digests (R594, R596) -/

/-- The hello of the partner is judged: keys, then image; where both match, a STANDBY unit is in TRANSFER. -/
def State.helloRx (s : State) (h : Hello) : State :=
  let k7 := (s.keyOf 7).getD []
  let codeOk := decide (h.code = Config.hmacSha256 k7 (h.device ++ s.deviceId))
  let slotOk := decide (h.slot6 = Config.hmacSha256 k7 (Config.sha256 ((s.keyOf 6).getD [])))
  let imageOk := decide (some h.image = s.gate.running.map (·.digest))
  let s := (s.updZheoc (fun z => { z with hello := some h, keyMismatch := z.keyMismatch || !(codeOk && slotOk)
                                          imageMismatch := z.imageMismatch || !imageOk })).setOct Obj.partnerDeviceId h.device
  if s.mode.current = .standby then
    if s.zheoc.keyMismatch || s.zheoc.imageMismatch then s.setPair .linking
    else match s.zheoc.pair with
      | .noPartner | .linking => s.updZheoc (fun z => { z with pair := .transfer, copied := false, equalRun := 0 })
      | _ => s
  else s

/-- A part of the fleet state is laid over the standby's own (R594). -/
def State.takePart (s : State) (p : StatePart) : State :=
  match p with
  | .stored nums octets =>
    { s with dict := nums.foldl (fun t e => match objOfKey e.1 with
               | none => t
               | some o => if ownPair e.1 then t else Tab.put o.dflt t e.1 e.2) (s.dict.filter (fun e => ownPair e.1 || (match objOfKey e.1 with
                 | none => false
                 | some o => decide (o.acc ≠ .rws))))
             octets := octets.foldl (fun t e => match objOfKey e.1 with
               | none => t
               | some o => if ownPair e.1 then t else Tab.put (octetDefault o) t e.1 e.2) (s.octets.filter (fun e => ownPair e.1 || (match objOfKey e.1 with
                 | none => false
                 | some o => decide (o.acc ≠ .rws)))) }
  | .cover c => { s with cover := c }
  | .fleet f => { s with fleet := f }
  | .slots t => s.updRadio (fun r => { r with slots := t })
  | .accounts u => s.updRadio (fun r => { r with uses := u })
  | .counters n c a p =>
    (((s.updRadio (fun r => { r with fseq := n })).updCrier (fun x => { x with stopCount := c })).setReg Obj.mapSeqAccepted a).setReg Obj.mapSeqPainted p
  | .halt f => s.takeHalt f

/-- A key that crossed the link wrapped under the key derived from slot 7 (R589). -/
def State.takeKey (s : State) (slot : Option Nat) (blob : List Byte) : State :=
  match s.keyOf 7 with
  | none => s
  | some k7 => match Config.aesUnwrap (Config.linkWrapKey k7) blob with
    | none => s
    | some k => match slot with
      | none => s.updRadio (fun r => { r with groupKey := some k })
      | some n => s.setSlot n { s.slot n with key := k }

/-- The copy to the standby is complete. -/
def State.transferComplete (s : State) : State :=
  if s.mode.current = .standby ∧ s.zheoc.pair = .transfer then
    (s.setReg Obj.transferProgress 100).updZheoc (fun z => { z with copied := true, equalRun := 0 })
  else s

/-- The digest of this unit's frame (R596). -/
def State.ownDigest (s : State) (fseq : Nat) : BitVec 32 :=
  Config.frameDigest (s.zheoc.inputs ++ [fseq, s.regN Obj.mapSeqAccepted, s.reservations])

/-- The standby compares the acting unit's digest with its own. -/
def State.judgeDigest (s : State) : State :=
  match s.zheoc.digest with
  | none => s
  | some (d, fseq) =>
    let equal := decide (d = s.ownDigest fseq)
    let s := s.updRadio (fun r => { r with fseq := fseq })
    if equal then
      let s := s.updZheoc (fun z => { z with equalRun := z.equalRun + 1 })
      if s.zheoc.pair = .transfer ∧ s.zheoc.copied ∧ 100 ≤ s.zheoc.equalRun then s.setPair .inStep else s
    else
      let s := s.updZheoc (fun z => { z with equalRun := 0 })
      if s.zheoc.pair = .inStep then (s.incr Obj.digestMismatches).loseStep else s

/-- The end of a 1 ms frame, once in each: the acting unit sends its digest, the standby judges it; a standby out of step transfers again. -/
def State.frameDigest (s : State) : State :=
  if !(s.inPair && s.operating && s.linkUp) || decide (s.zheoc.frameAt = some s.frameNumber) then s
  else
  let s := s.updZheoc (fun z => { z with frameAt := some s.frameNumber })
  if s.zheoc.acting then
    (s.zlSend 6).updZheoc (fun z => { z with digest := some (s.ownDigest s.radio.fseq, s.radio.fseq), inputs := [] })
  else if s.mode.current ≠ .standby then s
  else
    let s := s.applyWaiting
    let s := if s.zheoc.pair = .outOfStep then
        (s.setReg Obj.transferProgress 0).updZheoc (fun z => { z with pair := .transfer, copied := false, equalRun := 0 })
      else s.judgeDigest
    s.updZheoc (fun z => { z with inputs := [], digest := none })

/-- The offsets between own and partner's carrier phases of one epoch (R597): constant within 0.05 cycle over 10 epochs, a
signal counts as aligned. -/
def State.notePhases (s : State) (l : List (Nat × Int)) : State :=
  let step := fun (t : Tab (Option PhaseOffset)) (e : Nat × Int) =>
    Tab.put none t e.1 (some (match Tab.get none t e.1 with
      | none => { lo := e.2, hi := e.2, run := 1 }
      | some o =>
        let lo := min o.lo e.2
        let hi := max o.hi e.2
        if hi - lo ≤ 50 then { lo := lo, hi := hi, run := o.run + 1 } else { lo := e.2, hi := e.2, run := 1 }))
  let t := l.foldl step s.zheoc.offsets
  (s.updZheoc (fun z => { z with offsets := t })).setReg Obj.alignedSignals
    (min 512 (t.filter (fun e => match e.2 with | none => false | some o => decide (10 ≤ o.run))).length : Nat)

/-! ### Frames (R589) -/

/-- What a frame's payload does. -/
def State.takePayload (s : State) (seq : Nat) (p : ZlPayload) : State :=
  match p with
  | .heartbeat b => s.beatRx b
  | .ack n => s.updZheoc (fun z =>
      let z := { z with unacked := z.unacked.filter (fun f => decide (0 < signedDiff 32 f.seq n)) }
      z.release s.now z.held)
  | .hello h => s.helloRx h
  | .state part percent =>
    if s.mode.current = .standby ∧ s.zheoc.pair = .transfer then (s.takePart part).setReg Obj.transferProgress (min percent 100) else s
  | .input frame x => s.takeMirrored seq frame x
  | .digest d n => s.updZheoc (fun z => { z with digest := some (d, n) })
  | .key slot blob => if s.mode.current = .standby then s.takeKey slot blob else s
  | .observables l => if s.mode.current = .standby then s.notePhases l else s

/-- The frame takes a SEQ of its own: all but heartbeats and acknowledgements. -/
def ZlPayload.counted : ZlPayload → Bool
  | .heartbeat _ | .ack _ => false
  | _ => true

/-- A link frame arrives: one whose CRC fails is discarded; others are taken in order and acknowledged. -/
def State.zlFrameRx (s : State) (f : ZlFrame) : State :=
  if !(s.inPair && s.linkUp && f.crcOk) then s
  else if !f.payload.counted then s.takePayload f.seq f.payload
  else if f.seq ≠ s.zheoc.rxSeq then s
  else (s.updZheoc (fun z => { z with rxSeq := (f.seq + 1) % 2 ^ 32, acked := some f.seq })).takePayload f.seq f.payload

/-- The standby receives a mirrored input: it acknowledges it and applies it in its frame (R595). -/
def State.mirroredInputRx (s : State) (seq frame : Nat) (x : MirrorInput) : State :=
  s.zlFrameRx { crcOk := true, seq := seq, payload := .input frame x }

/-! ### Switch of roles (R601) -/

/-- The first 1 ms frame boundary at least 1 ms after now. -/
def State.switchBoundary (s : State) : Int := ((s.time64 + 1000000 + 999999) / 1000000) * 1000000

/-- The partner is in STANDBY and in step (R44). -/
def State.partnerReady (s : State) : Bool :=
  s.zheoc.acting && decide (s.zheoc.pair = .inStep) && (match s.zheoc.partner with | none => false | some b => decide (b.mode = .standby))

/-- An accepted ModeRequest 0x05: the boundary is set and mirrored to the partner. -/
def State.scheduleSwitch (s : State) : State :=
  let s := (s.zlSend 5).updZheoc (fun z => { z with switchAt := some s.switchBoundary })
  { s with mode := { s.mode with transition := some .standby } }

/-- The boundary comes: the acting unit goes to STANDBY, its partner from STANDBY to BASE. -/
def State.roleSwitch (s : State) : State :=
  match s.zheoc.switchAt with
  | none => s
  | some t =>
    if s.time64 < t then s
    else
      let s := s.updZheoc (fun z => { z with switchAt := none })
      if s.mode.current = .base ∧ s.zheoc.acting ∧ s.mode.transition = some .standby then
        let s := s.updZheoc (fun z => { z with acting := false, haltOutUntil := some (s.now + ticksUs 1) })
        (s.updRadio (fun r => { r with on := false })).setMode .standby
      else if s.mode.current = .standby ∧ s.zheoc.pair = .inStep then s.takeIdentity.setMode .base
      else s

/-! ### Status -/

/-- ZL_HB is pulled low (R590, R593): for 10 µs from each whole 200 µs by an acting unit, 100 µs later by a STANDBY unit; by a unit that
has found no partner in BOOT, for 10 ms. -/
def State.pulsing (s : State) : Bool :=
  let phase := fun (acting : Bool) => decide ((s.time64 - (if acting then 0 else 100000)) % 200000 < 10000)
  if s.mode.current = .boot then
    s.inPair && s.zheoc.choice.isNone && !s.partnerFound && decide (s.gate.releasedAt + ticksMs 20 ≤ s.now) &&
      decide (s.now < s.gate.releasedAt + ticksMs 30) && phase true
  else s.inPair && s.operating && s.emits && phase (decide (s.mode.current ≠ .standby))

/-- PairStatus (R603). -/
def State.pairStatus (s : State) : Nat :=
  let z := s.zheoc
  let on := s.inPair && s.operating
  flag s.linkUp 0 + flag (s.linkUp && !(z.lane0 && z.lane1)) 1 + flag (on && s.linkLost) 2 + flag (on && s.landLost) 3 +
    flag z.imageMismatch 4 + flag z.keyMismatch 5 + flag z.dualActive 6 + flag z.acting 7

end Sys2Proof.Machine
end

