-- ==== Sys2Proof/Machine/Power.lean ====
section
/-!
DEFINITION. Machine/Power.lean: supply and VHOLD (R80 to R90), saves (R91 to R98), reset sources and entry to RESET (R72, R103
to R106), straps and the start of BOOT (R62 to R70, R570 to R575).
-/
namespace Sys2Proof.Machine

/-- Changes the supply block. -/
def State.updPower (s : State) (f : PowerState → PowerState) : State := { s with power := f s.power }

/-- Changes what BOOT has sampled. -/
def State.updBoot (s : State) (f : BootState → BootState) : State := { s with boot := f s.boot }

/-- A number of the stored set, or its default. -/
def State.storedNum (s : State) (o : ObjDesc) : Int := Tab.get o.dflt s.storedSet.nums (regKey o 0)

/-- HoldupSagLevel in force (R88, R107), Q16.16 V: the stored one before BOOT has taken it. -/
def State.sagLevel (s : State) : Int := if s.mode.current = .reset then s.storedNum Obj.holdupSagLevel else s.bootReg Obj.holdupSagLevel

/-- VSNS lies below a level in Q16.16 V. -/
def belowVolts (mv : Nat) (level : Int) : Bool := decide ((mv : Int) * 65536 < level * 1000)

/-- The start threshold (R83): 3.0 V or HoldupSagLevel + 0.5 V. -/
def State.startLevel (s : State) : Int := max (3 * 65536) (s.sagLevel + 32768)

/-! ### Entry to RESET (R72, R77, R96, R103) -/

/-- What MRAM and NAND hold through a reset. -/
def StoreState.kept (x : StoreState) : StoreState :=
  { x with spilled := false, nandFault := false, recordsFull := false, refreshBehind := false, scrubRunning := false, mramBad := false,
           lastWearMove := 0, nandMode := none, nandOpen := [] }

/-- VHOLD at a start: discharged where it is at or above 10 V, else charged (R83, R85). -/
def vholdStart (vhold : Nat) : VholdPhase := if 10000 ≤ vhold then .discharging else .charging

/-- RESET by a source that ends a run: everything but what outlives a reset takes its reset value. rails: the supply stays. -/
def State.enterReset (s : State) (src : ResetSource) (rails done aborted : Bool) : State :=
  let z := State.reset
  let c := s.crier
  { z with
    mode := { z.mode with prev := s.mode.current }
    power := { z.power with converterOn := rails && s.power.converterOn, pgood := rails && s.power.pgood, vsns := s.power.vsns, vhold := s.power.vhold,
                            swell := s.power.swell, isolated := s.power.isolated, isolatedFor := s.power.isolatedFor,
                            endedBy := src, saveDone := done, saveAborted := aborted, lastSave := s.power.lastSave,
                            phase := if rails && s.power.pgood then vholdStart s.power.vhold else .idle, reduced := decide (s.power.vsns < 4500),
                            fullThroughout := decide (4500 ≤ s.power.vsns) }
    crier := { z.crier with aRadio := c.aRadio, aIo := c.aIo, bRadio := c.bRadio, bIo := c.bIo, levelA := c.levelA, levelB := c.levelB,
                            differsFrom := if c.levelA == c.levelB then none else some 0 }
    store := s.store.kept
    milestone := { z.milestone with home0 := s.milestone.home0, home1 := s.milestone.home1 }
    gate := { z.gate with keys := s.gate.keys, badSlots := s.gate.badSlots, images := s.gate.images, anchor := s.gate.anchor, linkEpoch := s.gate.linkEpoch }
    cover := { z.cover with saved := s.cover.saved, log := s.cover.log, expected := s.cover.expected, acc := s.cover.acc, forwarded := s.cover.forwarded }
    cache := { z.cache with nextRun := s.cache.nextRun, runs := s.cache.runs, pending := s.cache.pending, edges := s.cache.edges }
    blv := { z.blv with storedPart := s.blv.storedPart }
    meter := { z.meter with inputs := s.meter.inputs.filterMap (fun e => let x := { PulseInput.initial with a := e.2.a, b := e.2.b }
                              if x = PulseInput.initial then none else some (e.1, x)), gapBase := s.meter.gapBase }
    dict := [Obj.nextSeq, Obj.mapSeqAccepted].foldl (fun t o => Tab.put o.dflt t (regKey o 0) (s.reg o)) []
    draws := s.draws
    pending := s.pending }

/-! ### Supply and VHOLD (R83 to R86) -/

/-- VSNS takes a level: VIN_SWELL, the charge current with its hysteresis (R86), and the input switch, which closes below 35.0 V; a
closing within 1 ms makes a Milestone entry (R89). -/
def State.seeVsns (s : State) (v : Nat) : State :=
  let back := s.power.isolated && decide (v < 35000)
  let t := s.updPower (fun p => { p with
    vsns := v, swell := decide (33000 < v), isolated := p.isolated && decide (35000 ≤ v)
    reduced := if v < 4500 then true else if 4700 < v then false else p.reduced
    fullThroughout := p.fullThroughout && decide (4500 ≤ v) })
  if back && s.running && decide (s.power.isolatedFor < ticksMs 1) then t.milestoneEntry 0x81 else t

/-- VSNS rises to the start threshold: the converter starts. -/
def State.powerOn (s : State) (vsns : Nat) : State :=
  let s := s.seeVsns vsns
  if s.mode.current = .reset ∧ s.power.converterOn = false ∧ belowVolts vsns s.startLevel = false then
    s.updPower (fun p => { p with converterOn := true })
  else s

/-- Every rail is in regulation: PGOOD is released, and VHOLD is charged, or first discharged. -/
def State.pgoodRelease (s : State) (vhold : Nat) : State :=
  if s.power.converterOn && !s.power.pgood then
    s.updPower (fun p => { p with pgood := true, vhold := vhold, phase := vholdStart vhold, reduced := decide (p.vsns < 4500),
                                  fullThroughout := decide (4500 ≤ p.vsns), chargeTime := 0 })
  else s

/-- A rail leaves regulation: PGOOD falls and power-up starts again; a run ends without a recorded cause (R78, R88, R103). -/
def State.pgoodFall (s : State) : State :=
  if !s.power.pgood then s
  else if s.mode.current = .reset then s.updPower (fun p => { p with converterOn := false, pgood := false, phase := .idle })
  else s.enterReset .powerOn false false false

/-- VHOLD has been discharged below 9.5 V; charging begins. -/
def State.vholdDischarged (s : State) (vhold : Nat) : State :=
  if s.power.phase = .discharging ∧ vhold < 9500 then
    s.updPower (fun p => { p with phase := .charging, vhold := vhold, chargeTime := 0, fullThroughout := decide (4500 ≤ p.vsns) })
  else s

/-- VHOLD passes 10 V: the measurement starts. -/
def State.vholdMeasureStart (s : State) : State :=
  if s.power.phase = .charging then s.updPower (fun p => { p with phase := .measuring, vhold := 10000 }) else s

/-- The capacitance, µF, from the times that 50 mA and 20 mA have charged VHOLD by 12 V (R85). -/
def capacitance (us50 us20 : Nat) : Nat := (50 * us50 + 20 * us20) / 12000

/-- VHOLD reaches 22 V: measured, and armed or a VHOLD fault. -/
def State.vholdArmed (s : State) (us50 us20 : Nat) : State :=
  if s.power.phase = .measuring then
    let c := min 65535 (capacitance us50 us20)
    let s := (s.setReg Obj.vholdCapacitance c).milestoneExtreme 0x42 c
    let s := s.updPower (fun p => { p with vhold := 22000 })
    if c < 420 then s.updPower (fun p => { p with phase := .fault, vholdFault := true })
    else
      let s := s.updPower (fun p => { p with phase := .armed, armed := true })
      if c ≤ 520 then (s.updPower (fun p => { p with vholdLow := true })).milestoneEntry 0x80 else s
  else if s.power.phase = .armed then s.updPower (fun p => { p with armed := true, vhold := 22000 })
  else s

/-- VHOLD has not reached 22 V within 3 s of the start of charging, or within 8 s where VSNS was below 4.5 V. -/
def State.vholdChargeTimeout (s : State) : State :=
  let limit := ticksS (if s.power.fullThroughout then 3 else 8)
  if (s.power.phase = .charging ∨ s.power.phase = .measuring) ∧ limit ≤ s.power.chargeTime then
    s.updPower (fun p => { p with phase := .fault, vholdFault := true })
  else s

/-- VHOLD falls below 22 V while running: VHOLD_ARMED clears (R86). -/
def State.vholdDisarm (s : State) (vhold : Nat) : State :=
  if s.power.phase = .armed ∧ vhold < 22000 then s.updPower (fun p => { p with armed := false, vhold := vhold }) else s

/-- The charge current changes: reduced below 4.5 V, full again above 4.7 V (R86). -/
def State.chargeCurrentChange (s : State) (vsns : Nat) : State := s.seeVsns vsns

/-! ### HOLDUP (R88, R89, R93, R97, R98) -/

/-- Transmissions are cut, no further step pulse starts, the cores stop, a stalled host transaction ends. -/
def State.cutRun (s : State) : State :=
  let s := (s.hcsNRise true).tramCut
  let s := s.updRadio (fun r => { r with on := false, lbt := [] })
  let s := s.updCrier (fun c => { c with event := none, acting := false })
  let s := { s with clk := { s.clk with ppsOut := false, ppsFallDue := none }, gnss := { s.gnss with channels := [], dumps := [], search := none } }
  { s with sessions := [], remotes := [], roundabout := { s.roundabout with ready := [], running := [], store := [], held := [] } }

/-- HOLDUP is entered: the outputs go Hi-Z, transmissions are cut, and the save begins. In BOOT before VHOLD is armed there is no
save, and HOLDUP passes to RESET at once. -/
def State.enterHoldup (s : State) : State :=
  if s.mode.current = .boot ∧ s.power.armed = false then s.enterReset .holdup false false false
  else
    let s := (s.cutRun.setMode .holdup).clearTarget.noteSaveStart
    let s := { s with mode := { s.mode with clockFail := none } }
    s.updPower (fun p => { p with saving := some .holdup })

/-- VSNS stays below HoldupSagLevel for 50 µs; in RESET and HOLDUP it changes nothing. -/
def State.vinSag (s : State) (vsns : Nat) : State :=
  let s := s.seeVsns vsns
  if s.running && belowVolts vsns s.sagLevel then s.enterHoldup else s

/-- VSNS above 36.0 V: the input switch opens. -/
def State.vinOvervoltage (s : State) (vsns : Nat) : State :=
  let s := s.seeVsns vsns
  if 36000 < vsns ∧ s.power.isolated = false then s.updPower (fun p => { p with isolated := true, isolatedFor := 0 }) else s

/-- VSNS below 35.0 V within the 1 ms: the switch closes, VHOLD recharges, and a Milestone entry is made. -/
def State.vinOvervoltageEnd (s : State) (vsns : Nat) : State := s.seeVsns vsns

/-- The isolation has lasted 1 ms: HOLDUP from any mode. -/
def State.isolationTimeout (s : State) : State :=
  if s.power.isolated && decide (ticksMs 1 ≤ s.power.isolatedFor) && s.running then s.enterHoldup else s

/-- VIN_SWELL follows VSNS at 33.0 V. -/
def State.vinSwell (s : State) (vsns : Nat) : State := s.seeVsns vsns

/-- The energy drawn from VHOLD by a save in % of the usable energy ½C(30² − 6²) (R87, R551); the capacitance cancels. -/
def savePercent (v0 v1 : Nat) : Nat := (v0 ^ 2 - v1 ^ 2) * 100 / 864000000

/-- What Milestone samples of a save; the next BOOT takes it in. -/
def State.noteSave (s : State) (us vhold : Nat) : State :=
  s.updPower (fun p => { p with vhold := vhold, lastSave := some (us, savePercent p.saveFrom vhold, vhold) })

/-- The valid mark of the HOLDUP save is written: RESET, with every rail off. -/
def State.saveComplete (s : State) (us vhold : Nat) : State :=
  if s.mode.current = .holdup ∧ s.power.saving = some .holdup ∧ 6000 < vhold then
    ((s.noteSave us vhold).writeSave .holdup).enterReset .holdup false true false
  else s

/-- VHOLD falls to 6.0 V before the valid mark: the save stops and the area is invalid. -/
def State.saveAbort (s : State) : State :=
  if s.mode.current = .holdup ∧ s.power.saving = some .holdup then (s.updPower (fun p => { p with vhold := 6000 })).enterReset .holdup false false true else s

/-! ### Reset sources (R103 to R105) -/

/-- A sag or an isolation of 1 ms waits in this CK_IO cycle: it ranks before every other trigger (R49). No time passes while a
command waits, so what waits lies in this cycle (log 142). -/
def State.holdupWaits (s : State) : Bool :=
  s.running && s.pending.any (fun c => match c with
    | .vinSag v => belowVolts v s.sagLevel
    | .isolationTimeout => s.power.isolated && decide (ticksMs 1 ≤ s.power.isolatedFor)
    | _ => false)

/-- NRST_IN is low for a time in ns (R79): from 5 µs it always resets, below 1 µs never; between, either. -/
def State.nrstInAssert (s : State) (ns : Nat) : State :=
  if s.mode.current = .reset ∨ s.mode.current = .holdup ∨ s.holdupWaits ∨ ns < 1000 then s
  else if 5000 ≤ ns then s.enterReset .nrstIn true false false
  else
    let (b, s) := s.drawBool
    if b then s.enterReset .nrstIn true false false else s

/-- The watchdog expires: an orderly save with the watchdog as its cause; it is not active in BOOT, HOLDUP or SERVICE, or during a
save (R104). -/
def State.watchdogExpiry (s : State) : State :=
  if s.operating && decide (s.mode.current ≠ .service) && s.power.saving.isNone then
    s.beginOrderly .watchdog
  else s

/-- A write of ResetRequest (R105): in HALT it needs Service level. -/
def State.resetRequest (s : State) (q : Sess) (v : Int) : State :=
  s.writeCommand q Obj.resetRequest v (fun s =>
    if s.mode.current = .halt ∧ s.level q ≠ .service then .error abortAccess
    else .ok (s.beginOrderly .resetRequest))

/-- An orderly save is complete: the reset of its cause. Before VHOLD is armed BOOT has saved nothing (R84). -/
def State.orderlySaveComplete (s : State) (us vhold : Nat) : State :=
  match s.power.saving with
  | some (.orderly cause) =>
    if s.unarmedBoot then s.enterReset cause true false false
    else ((s.noteSave us vhold).writeSave cause).enterReset cause true true false
  | _ => s

/-- A PLL loses lock (R36): in RESET and HOLDUP nothing. In a domain marked Allowed the device resets with clock failure as its cause;
in one marked Never it first drives the stop outputs without a clock, and RESET begins with the next edge of CK_TS (log 149). -/
def State.pllLossOfLock (s : State) (d : ClockDomain) : State :=
  if s.mode.current = .reset ∨ s.mode.current = .holdup ∨ s.holdupWaits then s
  else if spreadAllowed d then s.enterReset (.clockFailure d) true false false
  else { s with mode := { s.mode with clockFail := some (s.mode.clockFail.getD d) } }

/-- RESET begins after the loss of lock of a domain marked Never (R36). -/
def State.clockReset (s : State) : State :=
  match s.mode.clockFail with
  | none => s
  | some d => s.enterReset (.clockFailure d) true false false

/-- EXT_REF_IN is lost (R35): the TCXO takes over until the next reset. -/
def State.extRefLoss (s : State) : State :=
  if s.running && s.mode.extRef then { s with mode := { s.mode with extRef := false, refLost := true } } else s

/-! ### Straps and images at the start of BOOT (R62, R66 to R69, R570, R573 to R575) -/

/-- The samples of the straps as they read. -/
structure StrapReads where
  role0 : Bool × Bool × Bool
  role1 : Bool × Bool × Bool
  bootSel0 : Bool × Bool × Bool
  bootSel1 : Bool × Bool × Bool
  dbgEn : Bool × Bool × Bool
  deriving DecidableEq, Repr

/-- How a level in mV reads at a strap land (R66): high from 1.2 V, low to 0.5 V; between, either: the n-th open truth value. -/
def strapLevel (n mv : Nat) : Bool := if 1200 ≤ mv then true else if mv ≤ 500 then false else Config.freeBool n

/-- The three samples of a strap. -/
def strapReads (n : Nat) (x : Nat × Nat × Nat) : Bool × Bool × Bool := (strapLevel n x.1, strapLevel (n + 1) x.2.1, strapLevel (n + 2) x.2.2)

/-- The straps as they read, with open values from the n-th on. -/
def readStraps (n : Nat) (x : StrapSamples) : StrapReads :=
  { role0 := strapReads n x.role0, role1 := strapReads (n + 3) x.role1, bootSel0 := strapReads (n + 6) x.bootSel0
    bootSel1 := strapReads (n + 9) x.bootSel1, dbgEn := strapReads (n + 12) x.dbgEn }

/-- The value of a strap whose samples agree. -/
def agree3 (x : Bool × Bool × Bool) : Option Bool := if x.1 = x.2.1 ∧ x.2.1 = x.2.2 then some x.1 else none

/-- The mode of operation of a bank: 3.3 V or 1.8 V; none outside both windows (R62). -/
def bankLevel (mv : Nat) : Option Bool :=
  if 1710 ≤ mv ∧ mv ≤ 1890 then some false else if 3135 ≤ mv ∧ mv ≤ 3465 then some true else none

/-- A strap fault (R68). -/
def BootState.strapFault (b : BootState) : Bool := b.disagree || b.reserved

/-- BootSampled (R69). -/
def State.bootSampled (s : State) : Nat :=
  s.boot.roleBits + s.boot.bootSel * 4 + flag s.boot.dbgEn 4 + flag s.boot.disagree 5 + flag s.boot.reserved 6 + flag s.boot.bankFault 7

/-- What BOOT samples of the straps and the banks (R69). DESIGN CHOICE (log 144): ROLE 0b00 or BOOTSEL 0b11 that is reported only
because samples disagreed does not set STRAP_RESERVED; it is set where both straps of the field agree on the reserved value. -/
def sampledBoot (x : StrapReads) (vioA vioB : Nat) : BootState :=
  let r0 := agree3 x.role0
  let r1 := agree3 x.role1
  let b0 := agree3 x.bootSel0
  let b1 := agree3 x.bootSel1
  let d := agree3 x.dbgEn
  let role := match r0, r1 with | some a, some b => flag a 0 + flag b 1 | _, _ => 0
  let sel := match b0, b1 with | some a, some b => flag a 0 + flag b 1 | _, _ => 3
  { roleBits := role, bootSel := sel, dbgEn := decide (d = some true)
    disagree := r0.isNone || r1.isNone || b0.isNone || b1.isNone || d.isNone
    reserved := (r0.isSome && r1.isSome && decide (role = 0)) || (b0.isSome && b1.isSome && decide (sel = 3))
    bankFault := (bankLevel vioA).isNone || (bankLevel vioB).isNone, vioA33 := bankLevel vioA, vioB33 := bankLevel vioB
    imageLoaded := false, imageWait := false, imageRejected := false, nrstOutLow := true, nrstOutDue := none, offered := [], badCopies := [] }

/-- The role of the straps (R67). -/
def roleOfBits : Nat → Option Role
  | 1 => some .base
  | 2 => some .rover
  | 3 => some .relay
  | _ => none

/-- A rejection of an image (R573). -/
def State.rejectImage (s : State) (code : Nat) : State :=
  ((s.setReg Obj.bootImageResult code).updBoot (fun b => { b with imageRejected := true })).milestoneEntry 0x90

/-- An image is loaded to run; slot: the NAND slot it runs from. -/
def State.runImage (s : State) (info : ImageInfo) (slot : Option Nat) : State :=
  let s := s.setReg Obj.bootImageResult 0
  let s := s.updGate (fun g => { g with running := some info, runningSlot := slot })
  s.updBoot (fun b => { b with imageLoaded := true, imageWait := false, imageRejected := false })

/-- BOOT waits for an image. -/
def State.waitImage (s : State) : State := s.updBoot (fun b => { b with imageWait := true })

/-- Tries a NAND slot: the image it holds, where it passes R573; else the code of its first failure; none where it holds none. -/
def State.trySlot (s : State) (n : Nat) : Option (Nat × ImageInfo) :=
  if !s.store.nandPresent || (s.image n).bytes.isEmpty then none else some (s.checkImage (s.image n).bytes s.mode.role)

/-- BOOT with BOOTSEL 0b00 (R574): the active slot, else the other, which becomes active and is reverted; else it waits. In
SERVICE the anchor is left untouched (R570). -/
def State.bootFromNand (s : State) : State :=
  let first := s.gate.anchor.active.getD 0
  let other := 1 - first
  if s.mode.testRoot then
    match s.trySlot first, s.trySlot other with
    | some (0, i), _ => s.runImage i (some first)
    | _, some (0, i) => s.runImage i (some other)
    | _, _ => (s.setReg Obj.bootImageResult 9).waitImage
  else
    let a := if s.gate.anchor.active.isSome then s.trySlot first else none
    match a with
    | some (0, i) => s.runImage i (some first)
    | _ =>
      let s := match a with | some (c, _) => s.rejectImage c | none => s
      match s.trySlot other with
      | some (0, i) =>
        let s := s.runImage i (some other)
        s.updGate (fun g => { g with anchor := { g.anchor with active := some other, trial := false, outcome := if g.anchor.active.isSome then 6 else g.anchor.outcome } })
      | some (c, _) => (s.rejectImage c).waitImage
      | none => s.waitImage

/-- The slot that an image offered in BOOT goes to: the one that holds no valid image, or A (R575). -/
def State.offerSlot (s : State) : Nat :=
  let good := fun (n : Nat) => match s.trySlot n with | some (0, _) => true | _ => false
  if good 0 && !good 1 then 1 else 0

/-- An image offered in BOOT is verified (R573, R575): run, and with BOOTSEL 0b00 outside SERVICE also written to NAND. -/
def State.offerImage (s : State) (b : List Byte) : State :=
  let (c, info) := s.checkImage b s.mode.role
  if c ≠ 0 then (s.rejectImage c).waitImage
  else if s.boot.bootSel = 0 ∧ s.mode.testRoot = false ∧ s.store.nandPresent then
    let n := s.offerSlot
    let s := ((s.runImage info (some n)).setImage n { state := .verified, total := b.length, bytes := b, info := info }).writeImage b.length
    s.updGate (fun g => { g with anchor := { g.anchor with active := some n, trial := false } })
  else s.runImage info none

/-- BOOT waits for an image from a source: BOOTSEL 0b00 and 0b01 the host port, 0b10 UART0. -/
def State.awaitsImage (s : State) (uart : Bool) : Bool :=
  decide (s.mode.current = .boot) && s.boot.imageWait && (if uart then decide (s.boot.bootSel = 2) else decide (s.boot.bootSel < 2))

/-- The words of queue 0 go to the image that arrives; its last word ends the image (R575). Fuel bounds the walk. -/
def drainBoot : Nat → State → State
  | 0, s => s
  | f + 1, s =>
    match (s.queue 0).words with
    | [] => s
    | w :: t =>
      let s := s.setQueue 0 { s.queue 0 with words := t }
      let s := if s.awaitsImage false then s.updBoot (fun b => { b with offered := b.offered ++ leBytes 4 w.data.toNat }) else s
      let s := if w.e && s.awaitsImage false then
          let b := s.boot.offered
          let n := fieldU b 16 4
          let b := if n ≤ b.length ∧ b.length < n + 4 then b.take n else b
          (s.updBoot (fun x => { x with offered := [] })).offerImage b
        else s
      drainBoot f s

/-- In BOOT the boot core reads queue 0, so a stalled push goes on. -/
def State.bootReads (s : State) : State :=
  if s.mode.current ≠ .boot then s
  else
    let s := drainBoot (s.queue 0).words.length s
    let s := s.resumeStall 0
    drainBoot (s.queue 0).words.length s

/-- A block of UART0 is good (R575): the next in sequence, of at most 1,024 bytes, with its CRC. -/
def uartBlockGood (seq : Nat) (block : List Byte) : Bool :=
  let n := fieldU block 2 2
  decide (block.length = n + 6) && decide (n ≤ 1024) && decide (fieldU block 0 2 = seq) &&
    decide (beNat (block.drop (n + 4)) = (crc16 (block.take (n + 4))).toNat)

/-- A block of an image on UART0 (R575): 0x06 to a good one, 0x15 to a bad one; ten bad ones in a row drop the stream. -/
def State.uartImageBlock (s : State) (block : List Byte) : State :=
  if !s.awaitsImage true then s
  else
    let u := s.gate.uart
    let n := fieldU block 2 2
    if !uartBlockGood u.seq block then
      let u := if 9 ≤ u.bad then { seq := 0, bytes := [], bad := 0, answer := 0x15 } else { u with bad := u.bad + 1, answer := 0x15 }
      s.updGate (fun g => { g with uart := u })
    else if n = 0 then
      (s.updGate (fun g => { g with uart := { seq := 0, bytes := [], bad := 0, answer := 0x06 } })).offerImage u.bytes
    else s.updGate (fun g => { g with uart := { seq := (u.seq + 1) % 65536, bytes := u.bytes ++ (block.drop 4).take n, bad := 0, answer := 0x06 } })

/-- The NAND passes the checks of R541. -/
def nandUsable (n : NandInfo) : Bool :=
  decide (n.cellBits = 1) && (decide (n.pageKiB = 4) || decide (n.pageKiB = 8) || decide (n.pageKiB = 16)) && decide (80 ≤ n.spare) && decide (30000 ≤ n.endurance)

/-- The fastest of some modes, a bit each. -/
def fastest (modes : Nat) : Option Nat := ((List.range 8).filter (fun n => bit modes n)).getLast?

/-- The NV-DDR2 and SDR modes whose strobes a slew setting lets toggle (R609, R610): those of ONFI 4.2 up to 5, 25, 50 and 200 MHz
(log 181). -/
def slewModes : Nat → Nat × Nat
  | 0 => (0, 0)
  | 1 => (0, 0x03)
  | 2 => (0x03, 0x3F)
  | _ => (0xFF, 0x3F)

/-- The fastest mode that the slew setting, the table of loads and every target support (R610, R614): NV-DDR2 before SDR, mode 0 of SDR
where they share none (log 181). -/
def nandModeOf (slew : Nat) (l : List NandInfo) : NandMode :=
  let ddr := (slewModes slew).1 &&& (if l.length ≤ 2 then 0xFF else 0x3F)
  match fastest (l.foldl (fun m t => m &&& t.ddrModes) ddr) with
  | some n => .nvDdr2 n
  | none => .sdr ((fastest (l.foldl (fun m t => m &&& t.sdrModes) (slewModes slew).2)).getD 0)

/-- The store runs without NAND (R541, R558): a rover writes no as-applied records. -/
def State.withoutNand (s : State) : State :=
  s.updStore (fun x => { x with nandPresent := false, nandFault := true, recordsFull := x.recordsFull || decide (s.mode.role = some .rover)
                                nandTargets := 0, nandMode := none })

/-- BOOT reads the parameter page of each target: none of a list is a target that does not answer (R541). -/
def State.takeNand (s : State) (targets : List (Option NandInfo)) : State :=
  let rover := decide (s.mode.role = some .rover)
  match targets with
  | some n :: _ =>
    if targets.all (fun t => match t with | none => false | some t => nandUsable t) then
      let l := targets.filterMap id
      let fresh := decide (s.store.nandCount = 0)
      let s := s.updStore (fun x => { x with
        nandPresent := true, nandFault := false, nandCount := (l.map (·.blocks)).foldl (· + ·) 0, nandBlockKiB := n.blockKiB
        nandFactoryBad := (l.map (·.bad)).foldl (· + ·) 0, nandRover := if fresh then rover else x.nandRover
        nandTargets := l.length, nandMode := some (nandModeOf (bits (s.bootRegN Obj.outputSlew) 12 2) l) })
      s.updStore (fun x => { x with ringCapacity := x.partBlocks 3 * x.nandBlockKiB * 1024 })
    else s.withoutNand
  | _ => s.withoutNand

/-- Milestone comes back, with what the last save adds to it (R551 to R553). -/
def State.restoreMilestone (s : State) : State :=
  let counts := match s.power.endedBy with | .powerOn | .holdup => true | _ => false
  let h := (s.pick 9 s.milestoneCopies).map (·.2)
  let cycles := (match h with | none => 0 | some h => h.cycles) + (if counts then 1 else 0)
  let s := { s with milestone := { s.milestone with
      visible := match h with | none => MilestoneBank.empty | some h => h.bank
      since := match h with | none => { Stamp.zero with cycles := cycles % 2 ^ 32 } | some h => h.since
      opSeconds := match h with | none => 0 | some h => h.opSeconds
      cycles := cycles % 2 ^ 32 } }
  let s := match s.power.lastSave with
    | none => s
    | some (us, percent, vhold) =>
      let s := (s.milestoneSample 8 (linearBin 0 5 percent)).milestoneExtreme 0x43 vhold
      if s.power.endedBy = ResetSource.holdup then s.milestoneSample 7 (linearBin 0 2000 us) else s
  let s := if s.power.saveAborted then s.milestoneEntry 0x8D else s
  s.updPower (fun p => { p with lastSave := none })

/-- What the anchor says at the start of BOOT (R574, R576, R577, R582): receiving slots are invalid, an unconfirmed trial is
reverted after a reset other than power-on or hold-up completion, and the outcomes are reported. In SERVICE it is left untouched
(R570). -/
def State.bootAnchor (s : State) : State :=
  if s.mode.testRoot then s.setReg Obj.activationState (if s.gate.anchor.trial then 4 else s.gate.anchor.outcome) else
  let s := [0, 1].foldl (fun (s : State) (n : Nat) => if (s.image n).state = .receiving then s.setImage n { s.image n with state := .invalid } else s) s
  let s := if s.gate.anchor.trial && (match s.power.endedBy with
      | .powerOn | .holdup => false
      -- the reset that starts the trial itself
      | .resetRequest => decide (s.gate.anchor.outcome ≠ 4)
      | _ => true) then s.revert else s
  let s := s.setReg Obj.activationState (if s.gate.anchor.trial then 4 else s.gate.anchor.outcome)
  let s := if s.gate.anchor.committed then s.setReg Obj.activationResult 8 else s
  s.updGate (fun g => { g with anchor := { g.anchor with committed := false, outcome := 0 } })

/-- RESET may end (R44, R66, R78, R79, R88): the device and the land hold PGOOD high, NRST_IN is released, every PLL is locked, and
VSNS has not lain below HoldupSagLevel in the last 50 µs. -/
def State.resetReleased (s : State) (x : StartLands) : Bool :=
  decide (s.mode.current = .reset) && s.power.pgood && x.pgoodHigh && x.nrstInHigh && x.unlocked.isEmpty && !belowVolts x.vsnsLow s.sagLevel

/-- The halt flag that this start keeps (R101, R103): NRST_IN and ResetRequest clear it. -/
def State.keptHalt (s : State) : Option HaltCause :=
  match s.power.endedBy, s.pick 2 s.haltCopies with
  | .nrstIn, _ | .resetRequest, _ => none
  | _, some (_, true, c) => some c
  | _, _ => none

/-- The straps are sampled and BOOT begins (R66): the banks are measured, the stored set is read, and the image is looked for.
DESIGN CHOICE (log 145): on a bank fault (R62) no image is looked for, IMAGE_WAIT stays clear and BootImageResult reads 1. -/
def State.strapSample (s : State) (x : StartLands) (vioA vioB : Nat) (nand : List (Option NandInfo)) (badKeyCopies : List (Nat × Nat)) : State :=
  if s.resetReleased x = false then s
  else
    let b := sampledBoot (readStraps s.draws x.straps) vioA vioB
    let s := { s with boot := { b with nrstOutDue := some (s.now + 2014160), badCopies := x.badCopies }, draws := s.draws + 15 }
    let s := { s with mode := { s.mode with role := if b.strapFault then none else roleOfBits b.roleBits, testRoot := b.dbgEn, haltFlag := s.keptHalt } }
    let c := s.storedSet
    let s := { s with dict := s.dict.foldl (fun (t : Tab Int) (e : Nat × Int) => Tab.put 0 t e.1 e.2) c.nums, octets := c.octets }
    let s := { s with bootDict := s.dict }
    let s := (s.setMode .boot).updSession .host (fun _ => { Session.closed with open_ := true })
    let s := s.restoreMilestone.takeNand nand
    let s := ((s.loseCopies badKeyCopies).checkKeySlots.bootKeys).bootAnchor
    let s := s.updGate (fun g => { g with linkEpoch := (g.linkEpoch + 1) % 2 ^ 32, releasedAt := s.now })
    let s := s.setReg Obj.bootImageResult 1
    if b.strapFault || b.bankFault then s
    else if (s.keyOf 0).isNone then s.setReg Obj.bootImageResult 8
    else if b.bootSel = 0 then s.bootFromNand
    else s.waitImage

/-- 33 CK_AON cycles after BOOT began NRST_OUT is released (R77). DESIGN CHOICE (log 146): a release that comes due in HOLDUP is made
then; the spec says that HOLDUP does not change NRST_OUT, not whether the timer that BOOT started runs on. -/
def State.nrstOutRelease (s : State) : State :=
  if s.boot.nrstOutLow && s.due s.boot.nrstOutDue then s.updBoot (fun b => { b with nrstOutLow := false, nrstOutDue := none }) else s

end Sys2Proof.Machine
end

