-- ==== Sys2Proof/Machine/Boot.lean ====
section
/-!
DEFINITION. Machine/Boot.lean: the end of BOOT (R44, R99 to R102, R356, R578), mode requests (R42, R44, R48), and the die
temperature (R619, R620).
-/
namespace Sys2Proof.Machine

/-! ### What the image brings (R484, R508, R578) -/

/-- Stored entries that the running image does not take (R578): those of another format version take the image default, those it
lacks are discarded; each is counted. -/
def State.checkStored (s : State) (x : BootStart) : State :=
  let c := s.storedSet
  let held := fun (k : Nat) => c.nums.any (fun e => decide (e.1 = k)) || c.octets.any (fun e => decide (e.1 = k))
  let gone := (x.changed ++ x.lacking).filter held
  if gone.isEmpty then s.setReg Obj.storedEntriesReset 0
  else
    let keep := fun (k : Nat) => !gone.contains k
    let s := s.putSet { c with nums := c.nums.filter (fun e => keep e.1), octets := c.octets.filter (fun e => keep e.1) }
    let s := s.updStore (fun x => { x with journal := killStored (fun _ => true) x.journal, spill := killStored (fun _ => true) x.spill })
    let s := { s with dict := s.dict.filter (fun e => keep e.1), octets := s.octets.filter (fun e => keep e.1) }
    gone.foldl (fun s _ => s.milestoneEntry 0x8A) (s.setReg Obj.storedEntriesReset ((min gone.length 65535 : Nat) : Int))

/-- The image's values, under what is stored. -/
def State.takeValues (s : State) (x : BootStart) : State :=
  let c := s.storedSet
  let s := { s with dict := x.values.foldl (fun (t : Tab Int) (e : Nat × Int) => match objOfKey e.1 with
    | none => t
    | some o => if c.nums.any (fun y => decide (y.1 = e.1)) then t else Tab.put o.dflt t e.1 e.2) s.dict }
  let s := { s with octets := x.strings.foldl (fun (t : Tab (List Byte)) (e : Nat × List Byte) => match objOfKey e.1 with
    | none => t
    | some o => if c.octets.any (fun y => decide (y.1 = e.1)) then t else Tab.put (octetDefault o) t e.1 e.2) s.octets }
  { s with bootDict := s.dict }

/-- The Alley queues as the image fixes them (R484). -/
def openQueues (l : List QueueConfig) : Tab QueueState :=
  l.foldl (fun t q => if q.number < 64 then
    Tab.put QueueState.closed t q.number { QueueState.closed with open_ := q.hostOpen, toDevice := q.toDevice, lengthSlot := q.lengthSlot, capacity := q.capacity }
    else t) []

/-! ### What a save or the journal brings (R99 to R102) -/

/-- Radio accounts (R347). -/
def State.restoreRadio (s : State) (r : RadioSave) : State :=
  let s := match r.drift with | none => s | some d => s.setReg Obj.learnedDrift d
  let rate := fun (n : Nat) => ((r.slotDrifts.find? (fun e => decide (e.1 = n))).map (·.2)).getD 0
  s.updRadio (fun x => { x with
    uses := r.uses.map (fun u => { u with at_ := u.at_ + s.now }), usesFrom := r.time.map (fun t => (t, s.now))
    drift := { x.drift with rate := r.drift.getD 0 }
    slots := r.events.foldl (fun t e => Tab.put SlotConn.free t e.1 { SlotConn.free with evt := e.2, drift := { Drift.unknown with rate := rate e.1 } }) x.slots })

/-- The clock (R391): the learned rate, and the TIME64 of the save; time is not valid. -/
def State.restoreClock (s : State) (c : ClockSave) : State :=
  { s with clk := { s.clk with offset := c.offset, ref := s.clk.c, rate := c.rate, learnedRate := c.rate } }

/-- The meter (R100, R447): its accumulators as absolute values; from a save the interval then open goes out with CUT, and its
as-applied record is written; from the journal a gap marker goes in. The bank goes to the journal, so that what was written here is
not written again from the same copy. Answers whether a gap marker was written. -/
def State.restoreMeter (s : State) (src : Option Int) (m : MeterSave) (tail : Option AsApplied) : State × Bool :=
  let s := s.updMeter (fun x => { x with bank := m.bank })
  let base := match m.interval with | none => m.bank.product | some v => v.base.product
  let (s, gap) := match src with
    | none =>
      let s := match m.interval with | none => s | some v => s.emitInterval v m.ticks true
      (match tail with | none => s | some r => s.asAppliedWrite r base, false)
    | some t =>
      let (r, s) := s.asAppliedHere { AsApplied.zero with
        gap := true, holdover := false, invalid := true, start := t, end_ := s.time64, product := productDiff m.bank.product base }
      s.ringWrite r
  (s.journal (.meter { bank := m.bank, interval := none, ticks := 0 }), gap)

/-- Segments (R281 to R283): a base's log and a rover's pending ones; those that a save alone holds come from it. -/
def State.restoreSegments (s : State) : State :=
  let l := (s.pick 6 s.segmentCopies).map (·.2)
  match l with
  | none => s
  | some l =>
    if s.mode.role = some .base then
      let extra := l.filterMap (fun e => match e.1 with
        | some (n, m) => if s.cover.log.any (fun g => decide (g.mseq = n)) then none else some { mseq := n, machine := m, seg := e.2 : LoggedSegment }
        | none => none)
      (s.updCover (fun c => { c with log := c.log ++ extra.filter (fun g => match c.saved with | none => true | some k => decide (0 < signedDiff 32 g.mseq k.mark)) })).noteLog
    else s.notePending

/-- The last position and the almanac digest (R94, item 10). -/
def State.restoreFix (s : State) (c : Option (Int × Int × Int) × Nat) : State :=
  { s with gnss := { s.gnss with lastFix := c.1, almanac := c.2 } }

/-- A restore with the newest good copy of an item, where there is one (R99). -/
def State.withCopy {α : Type} (s : State) (c : Option (Nat × α)) (f : State → α → State) : State :=
  match c with
  | none => s
  | some x => f s x.2

/-- The meter is restored from its newest good copy. Answers whether a gap marker was written. -/
def State.restoreQuantities (s : State) : State × Bool :=
  match s.pick 11 s.meterCopies with
  | none => (s, false)
  | some x => s.restoreMeter x.2.1 x.2.2 ((s.pick 7 s.tailCopies).map (·.2))

/-- Every item of the save is restored from its newest good copy (R99); item 2 and item 9 are in force since BOOT began. Answers
whether a gap marker was written. -/
def State.restoreItems (s : State) : State × Bool :=
  let s := s.withCopy (s.pick 3 s.radioCopies) State.restoreRadio
  let s := s.withCopy (s.pick 4 s.clockCopies) State.restoreClock
  let s := s.withCopy (s.pick 10 s.fixCopies) State.restoreFix
  let s := s.restoreSegments
  if s.mode.role ≠ some .rover then (s, false)
  else
    let s := s.withCopy (s.pick 5 s.tramCopies) (fun s c => s.tramRestore c.2 c.1)
    let r := s.restoreQuantities
    (r.1.noteRing, r.2)

/-! ### The operating mode -/

/-- The mode that BOOT ends in (R44, R593); none while a pair's arbitration has not chosen. -/
def State.bootTarget (s : State) : Option Mode :=
  if s.boot.dbgEn then some .service
  else match s.mode.role with
    | some .rover => some .rover
    | some .relay => some .relay
    | some .base => if s.inPair then s.zheoc.choice else some .base
    | none => none

/-- The halt flag that this BOOT acts on (R101): not in a STANDBY unit, and not in SERVICE, where the flag stays as it is. -/
def State.haltRestored (s : State) (target : Mode) : Option HaltCause :=
  match target with
  | .standby | .service => none
  | _ => s.mode.haltFlag

/-- The tracking groups of a base or a rover run (R28, R219), and the stored implement groups of a rover start at their next frame start. -/
def State.startGroups (s : State) : State :=
  let s := if s.mode.role = some .relay then s else (List.range 8).foldl (fun s g => s.setGroup g { Group.idle with state := .running }) s
  if s.mode.role ≠ some .rover then s
  else (List.range 56).foldl (fun s k => if s.regAt Obj.groupEnable (k + 8) = 1 ∧ s.groupLoaded (k + 8) then s.setGroup (k + 8) { s.group (k + 8) with order := some .start } else s) s

/-- The ports (R407, R417, R426): a port with an interface powers its PHY and takes the stored gate list; the CANopen node boots. -/
def State.startPorts (s : State) : State :=
  let s := [0, 1].foldl (fun (s : State) (p : Nat) =>
    let x := s.port p
    let g := if s.regNAt Obj.gateEntryCount p = 0 then x.gates else s.gateDraft p
    s.setPort p { x with powered := decide (s.ethInterface p ≠ 0), gates := g }) s
  s.nodeBoot

/-- What starts with the role (R163, R282, R446, R568); a worker's BaseLinkTimeout runs from here (R310). -/
def State.startRole (s : State) (target : Mode) : State :=
  match target with
  | .base =>
    let s := ((s.powerChains.drawGroupKey.startReference).restoreStart).updZheoc (fun z => { z with acting := s.inPair, token := s.now, beatAt := s.now })
    if s.isWorker then s.updFleet (fun f => { f with heard := Tab.put none f.heard 0 (some s.now) }) else s
  | .standby => (s.powerChains.updRadio (fun r => { r with on := false })).restoreStart
  | .rover => s.powerChains.meterStart
  | _ => s

/-- RESET_CAUSE (R106). -/
def State.causeWord (s : State) (discarded halted gap : Bool) : Nat :=
  let e := match s.power.endedBy with
    | .powerOn => 0 | .holdup => 1 | .nrstIn => 2 | .watchdog => 3 | .resetRequest => 4 | .clockFailure _ => 5
  let d := match s.power.endedBy with
    | .clockFailure d => domainCode d
    | _ => 0
  2 ^ e + flag s.power.saveDone 8 + flag s.power.saveAborted 9 + flag discarded 10 + flag halted 11 + flag gap 12 + d * 2 ^ 16

/-- The first act of the operating mode: HALT where it is restored (R101), or where a stop channel is asserted (R356). -/
def State.firstAct (s : State) (restored : Option HaltCause) : State :=
  let held := s.crier.levelA || s.crier.levelB
  match restored with
  | some c =>
    let s := s.enterHalt c
    if held then s.stopEvent 1 s.ownIndex else s
  | none => if held then s.stopAct else s

/-- BOOT may end: the image is loaded, VHOLD armed, and no strap, bank or VHOLD fault stands (R46, R62, R68, R84, R85). -/
def State.bootReady (s : State) : Bool :=
  decide (s.mode.current = .boot) && s.boot.imageLoaded && s.power.armed && !s.power.vholdFault && !s.boot.strapFault && !s.boot.bankFault

/-- BOOT ends in its operating mode; a refused Boulevard timetable is a rejected image of which nothing is loaded (R4, R573). -/
def State.bootComplete (s : State) (x : BootStart) : State :=
  match s.bootTarget with
  | none => s
  | some target =>
    if s.bootReady = false then s
    else if loadStatusOf x.blv ≠ 0 then
      ((s.loadBoulevard x.blv).rejectImage 0x0A).updBoot (fun b => { b with imageLoaded := false, imageWait := true })
    else
      let s := ((s.checkStored x).takeValues x).loadBoulevard x.blv
      let restored := s.haltRestored target
      let flagged := match s.pick 2 s.haltCopies with | some (_, true, _) => true | _ => false
      let discarded := s.itemDiscarded
      let (s, gap) := s.restoreItems
      let s := { s with queues := openQueues x.queues, mode := { s.mode with extRef := decide (s.mode.role = some Role.base) && decide (s.bootReg Obj.referenceSelect = 1) } }
      let s := s.updSession .can0 (fun _ => { Session.closed with open_ := true, lastRequest := s.now })
      let s := (s.startGroups.startPorts).bootRadio
      let s := { s with gnss := { s.gnss with enable := s.regN Obj.signalEnable } }
      let s := s.updGate (fun g => { g with trialFrom := if g.anchor.trial then some s.now else none })
      let s := s.updPower (fun p => { p with resetCause := s.causeWord discarded restored.isSome gap })
      let s := if flagged && s.mode.haltFlag.isNone then s.journal (.halt false .none) else s
      ((s.setMode target).startRole target).firstAct (match target with | .base | .rover | .relay => restored | _ => none)

/-! ### Mode requests (R42, R44, R48, R50) -/

/-- Every section is OFF. -/
def State.sectionsOff (s : State) : Bool := s.kerb.sections.all (fun e => decide (e.2.state = .off))

/-- What a ModeRequest for a mode does, with its result. -/
def State.askMode (s : State) (m : Mode) : Nat × State :=
  if s.resetWaits then (1, s)
  else if s.mode.transition.isSome then (3, s)
  else if s.mode.current = m then (0, s)
  else
    let s : State := { s with mode := { s.mode with askedAt := some s.now } }
    match s.mode.current, m with
    | .rover, .snapshot => if s.sectionsOff && s.axesAtRest then (0, s.enterSnapshot) else (2, s)
    | .snapshot, .rover => (0, s.leaveSnapshot)
    | .base, .standby => if s.partnerReady then (0, s.scheduleSwitch) else (2, s)
    | .base, .halt => (0, (s.haltTrigger .modeRequest).stopEvent 2 s.ownIndex)
    | .rover, .halt | .relay, .halt => (0, s.haltTrigger .modeRequest)
    | _, _ => (1, s)

/-- A write of ModeRequest for a mode. A STANDBY unit refuses the access (R597), and as every transition by its own request is
forbidden there the result is 0x01 (R42, R48); a request for the mode held sets 0x00 (log 147). -/
def State.modeRequest (s : State) (q : Sess) (m : Mode) : State :=
  let t := s.writeCommand q Obj.modeRequest (modeCode m) (fun s =>
    let (c, s) := s.askMode m
    .ok (s.setReg Obj.modeRequestResult c))
  if s.mode.current = .standby ∧ 1 ≤ levelCode (s.level q) then t.setReg Obj.modeRequestResult (s.askMode m).1 else t

/-- The six values of ModeRequest. -/
def State.modeRequestBase (s : State) (q : Sess) : State := s.modeRequest q .base
def State.modeRequestRover (s : State) (q : Sess) : State := s.modeRequest q .rover
def State.modeRequestRelay (s : State) (q : Sess) : State := s.modeRequest q .relay
def State.modeRequestStandby (s : State) (q : Sess) : State := s.modeRequest q .standby
def State.modeRequestSnapshot (s : State) (q : Sess) : State := s.modeRequest q .snapshot
def State.modeRequestHalt (s : State) (q : Sess) : State := s.modeRequest q .halt

/-! ### Die temperature (R619, R620) -/

/-- ThermalStatus after a reading: each flag with its hysteresis. -/
def thermalNext (t : Int) (old : Nat) : Nat :=
  let warn := decide (115000 ≤ t) || (bit old 0 && decide (110000 ≤ t))
  let throttled := decide (125000 ≤ t) || (bit old 1 && decide (120000 ≤ t))
  flag warn 0 + flag throttled 1 + flag (bit old 2 || throttled) 2

/-- A reading of the die temperature of at most 140 °C, every 100 ms. -/
def State.dieTemperatureSample (s : State) (t : Int) : State :=
  if !s.running || !s.periodDue 0x20 (ticksMs 100) then s
  else ((s.periodTaken 0x20 (ticksMs 100)).setReg Obj.dieTemperature t).setReg Obj.thermalStatus (thermalNext t (s.regN Obj.thermalStatus) : Nat)

end Sys2Proof.Machine
end

