-- ==== Sys2Proof/Machine/DictRead.lean ====
section
/-!
DEFINITION. Machine/DictRead.lean: what a read of a dictionary object returns (R508, R513): the objects whose value another block
holds, by address, the flags that a read clears, and the stored value of every other object.
-/
namespace Sys2Proof.Machine

/-- A reader of a number: the value, by session and window instance. -/
abbrev NumReader := State → Sess → Nat → Int

/-- A reader of a window: none where the cursor selects nothing that exists (R505, R514). -/
abbrev OptReader := State → Sess → Nat → Option Int

/-- A reader of bytes. -/
abbrev ByteReader := State → Sess → Nat → Option (List Byte)

/-- A read that clears what it returns. -/
abbrev ClearReader := State → Sess → Nat → Int × State

/-- Millivolts as Q16.16 volts, rounded to nearest (log 52). -/
def q16OfMilli (x : Nat) : Int := ((x * 65536 + 500) / 1000 : Nat)

/-- The code of an antenna bias state (R115). -/
def biasCode : BiasState → Nat
  | .off => 0 | .normal => 1 | .open_ => 2 | .short => 3

/-- SessionId (R532). -/
def sessionIdOf : Sess → Nat
  | .host => 0x00 | .can0 => 0x10 | .tcp n => 0x20 + n.val | .baseLink _ => 0x30 | .radio _ => 0x40

/-- The rover's machine slot as a cursor reads it: 0 until it is admitted (R226). -/
def State.slotOfRover (s : State) : Nat := if s.regN Obj.assignedSlot < 128 then s.regN Obj.assignedSlot else 0

/-- VERSION of the running image (R571). -/
def State.runningVersion (s : State) : Nat := (s.gate.running.map (·.version)).getD 0

/-! ### Modes, power, sessions, ports -/

/-- STATE and the flags of SnapshotStatus (R146). -/
def State.snapshotStatus (s : State) : Nat :=
  let x := s.gnss.snapshot
  (if x.run.isSome then 1 else if x.slots.any (·.processing) then 2 else if s.oldestExport.isSome then 3 else 0) + x.slots.length * 4 +
    flag x.refused 5 + flag x.fixValid 6 + flag x.timeUncertain 7 + flag x.ephemerisOld 8

/-- PowerStatus (R107). -/
def State.powerStatus (s : State) : Nat :=
  let p := s.power
  flag p.armed 0 + flag p.charging 1 + flag (p.charging && p.reduced) 2 + flag p.vholdLow 3 + flag p.vholdFault 4 + flag p.swell 5 + flag p.isolated 6

/-- AntennaStatus (R115). -/
def State.antennaStatus (s : State) : Nat :=
  biasCode s.gnss.biasA.state + biasCode s.gnss.biasB.state * 4 + s.gnss.agcLimit % 16 * 16 + s.gnss.chainsOn % 16 * 256

/-- BaseStatus (R166). -/
def State.baseStatus (s : State) : Nat :=
  let b := s.baseRef
  flag b.inForce 0 + flag b.surveying 1 + flag b.restarted 2 + flag b.mismatch 3

/-- TimeStatus (R406). -/
def State.timeStatus (s : State) : Nat :=
  let k := s.clk
  flag k.valid 0 + flag (decide (k.state = .holdover)) 1 + flag k.slewing 2 + flag k.pending.isSome 3 + flag k.ahead 4 + flag s.mode.extRef 5 +
    flag s.mode.refLost 6 + flag k.ppsInPresent 7 + flag k.backwardSet 8 + flag k.evtLost 9

/-- MeterStatus (R452). -/
def State.meterStatus (s : State) : Nat :=
  flag s.meter.interval.isSome 0 + flag s.meter.overspeed 1 + flag s.meter.quadError 2 + flag s.configPending 3 + flag s.meter.eventLost 4 +
    flag (decide (s.reg Obj.meterView = 1)) 5

/-- InputStatus of an input (R452). -/
def State.inputStatus (s : State) (i : Nat) : Nat :=
  let x := s.input i
  flag x.overspeed 0 + flag x.quadError 1 + flag (decide (x.lastForward = some false)) 2 + flag x.rateTimeout 3

/-- The values in force beside those written that the next BOOT will take over (R521). -/
def State.pendingBootChanges (s : State) : Nat :=
  (objTable.filter (·.nextBoot)).countP (fun o =>
    let keys := ((s.dict ++ s.bootDict).map (·.1)).filter (fun k => decide (k / 2 ^ 32 = o.addr))
    keys.any (fun k => decide (Tab.get o.dflt s.dict k ≠ Tab.get o.dflt s.bootDict k)))

/-- Readers that take no window: modes, power, sessions, antennas, base, radio. -/
def readers0 : List (ObjDesc × NumReader) :=
  [(Obj.errorRegister, fun s _ _ => s.errorRegister),
   (Obj.identityRevision, fun s _ _ => s.runningVersion),
   (Obj.identitySerial, fun s _ _ => beNat (slice s.deviceId 12 4)),
   (Obj.sdoCobIdRx, fun s _ _ => 0x600 + s.bootReg Obj.canopenNodeId),
   (Obj.sdoCobIdTx, fun s _ _ => 0x580 + s.bootReg Obj.canopenNodeId),
   (Obj.cobIdEmcy, fun s _ _ => if s.reg Obj.cobIdEmcy = -1 then 0x80 + s.bootReg Obj.canopenNodeId else s.reg Obj.cobIdEmcy),
   (Obj.modeCurrent, fun s _ _ => modeCode s.mode.current),
   (Obj.haltCause, fun s _ _ => haltCode s.mode.haltCause),
   (Obj.bootSampled, fun s _ _ => s.bootSampled),
   (Obj.resetCause, fun s _ _ => s.power.resetCause),
   (Obj.powerStatus, fun s _ _ => s.powerStatus),
   (Obj.vholdVoltage, fun s _ _ => q16OfMilli s.power.vhold),
   (Obj.sessionLevel, fun s q _ => levelCode (s.level q)),
   (Obj.sessionId, fun _ q _ => sessionIdOf q),
   (Obj.antennaStatus, fun s _ _ => s.antennaStatus),
   (Obj.snapshotStatus, fun s _ _ => s.snapshotStatus),
   (Obj.baseStatus, fun s _ _ => s.baseStatus),
   (Obj.radioStatus, fun s _ _ => s.radioStatus),
   (Obj.connectionState, fun s _ _ => connCode s.radio.conn),
   (Obj.guardTime, fun s _ _ => s.guardUs),
   (Obj.floodForward, fun s _ _ => if s.mode.role = some .relay then 1 else s.reg Obj.floodForward),
   (Obj.crierStatus, fun s _ _ => s.crierStatus),
   (Obj.linkEpoch, fun s _ _ => s.gate.linkEpoch),
   (Obj.mapSpaceFree, fun s _ _ => s.mapSpaceFree)]

/-- Readers that take no window: time, store, keys, images, redundancy, diagnostics. -/
def readers1 : List (ObjDesc × NumReader) :=
  [(Obj.timeNow, fun s _ _ => s.time64),
   (Obj.timeState, fun s _ _ => timeStateCode s.clk.state),
   (Obj.timeUncertainty, fun s _ _ => s.timeUncertainty),
   (Obj.clockRef, fun s q _ => match (s.session q).clockLatch with | some (_, r, _) => r | none => s.clk.ref.toNat),
   (Obj.clockRate, fun s q _ => match (s.session q).clockLatch with | some (_, _, r) => r | none => s.clk.rate),
   (Obj.ptpPortState, fun s _ _ => s.ptpPortState),
   (Obj.operatingSeconds, fun s _ _ => s.opSeconds),
   (Obj.powerCycles, fun s _ _ => s.milestone.cycles),
   (Obj.tollgateStatus, fun s _ _ => s.tollgateStatus),
   (Obj.activeImageVersion, fun s _ _ => s.runningVersion),
   (Obj.minSecurityVersion, fun s _ _ => s.gate.anchor.minSecurity),
   (Obj.zheocPairState, fun s _ _ => pairCode s.zheoc.pair),
   (Obj.pendingBootChanges, fun s _ _ => s.pendingBootChanges),
   (Obj.storePending, fun s _ _ => s.storePending.length),
   (Obj.threadsReady, fun s _ _ => ((s.roundabout.ready.map (fun e => e.2.length)).foldl (· + ·) 0 : Nat)),
   (Obj.nandCapacity, fun s _ _ => if s.store.nandPresent then s.store.nandCount * s.store.nandBlockKiB * 1024 else 0),
   (Obj.nandBlocksBad, fun s _ _ => s.store.nandFactoryBad + s.retired),
   (Obj.nandSparesLeft, fun s _ _ => s.sparesLeft),
   (Obj.nandEraseMax, fun s _ _ => ((s.store.blocks.map (fun e => (e.2.map (·.erases)).getD 0)).foldl max 0 : Nat)),
   (Obj.nandEraseMean, fun s _ _ =>
      (((s.store.blocks.map (fun e => (e.2.map (·.erases)).getD 0)).foldl (· + ·) 0) /
        max 1 (s.store.nandCount - s.store.nandFactoryBad - s.retired) : Nat)),
   (Obj.journalUsed, fun s _ _ => journalBytes s.store.journal),
   (Obj.refreshPending, fun s _ _ => s.refreshList.length)]

/-! ### Windows -/

/-- The track at the session's two cursors (R308). -/
def State.trackAt (s : State) (q : Sess) : Option Track := s.track (s.cursor q Obj.trackFieldCursor) (s.cursor q Obj.trackCursor)

/-- The code of a track state (R293). -/
def trackCode : TrackState → Nat
  | .free => 0 | .reserved => 1 | .done => 2

/-- The code of a task state (R295). -/
def taskStateCode : TaskState → Nat
  | .unassigned => 0 | .offered => 1 | .claimed => 2 | .active => 3 | .suspended => 4 | .done => 5 | .cancelled => 6

/-- A machine slot that is CONNECTED (R514). -/
def State.machineAt (s : State) (i : Nat) : Option FleetMachine :=
  if (s.slot i).state = .connected then some (Tab.get FleetMachine.unknown s.fleet.machines i) else none

/-- The age of a machine's report in ms, saturating (R308). -/
def State.reportAge (s : State) (m : FleetMachine) : Int :=
  match m.report with
  | none => 0xFFFF
  | some r => clampInt 0 0xFFFF ((s.time64 - r.time) / 1000000)

/-- The map in a slot (R284). -/
def State.mapAt (s : State) (i : Nat) : Option CoverMap := Tab.get none s.cover.maps i

/-- The next switch of a section: scheduled, or issued and not yet captured (R226). -/
def State.nextSwitch (s : State) (i : Nat) : Int :=
  match (s.sec i).plan, (s.sec i).issued with
  | some (_, k), _ => s.switchInstant k
  | none, some (_, k) => s.switchInstant k
  | none, none => 0

/-- KeySlotState (R561): bad, or the STATE of the record. -/
def State.keySlotState (s : State) (i : Nat) : Nat :=
  match s.keyRecord i with
  | none => 3
  | some k => k.state

/-- Readers of windows of the radio, the fleet, the maps. -/
def windows0 : List (ObjDesc × OptReader) :=
  [(Obj.subBandUsed, fun s _ i => some (s.subUse i false / 1000 : Nat)),
   (Obj.subBandLimit, fun s _ i => some (if s.region = 2 then 0 else (s.normalBudget i / 1000 : Nat))),
   (Obj.subBandDwellMax, fun s _ _ => some (if s.region = 2 then (max (s.dwellMax s.downPhy) (s.dwellMax s.upPhy) / 1000 : Nat) else 0)),
   (Obj.reserveUsed, fun s _ i => some (s.subUse i true / 1000 : Nat)),
   (Obj.slotState, fun s _ i => some (slotCode (s.slot i).state)),
   (Obj.trackState, fun s q _ => (s.trackAt q).map (fun t => (trackCode t.state : Int))),
   (Obj.trackHolder, fun s q _ => (s.trackAt q).map (fun t => if t.state = .reserved then (t.holder : Int) else 0xFFFF)),
   (Obj.trackProgress, fun s q _ => (s.trackAt q).map (fun t => (t.progress : Int))),
   (Obj.taskState, fun s _ i => (s.taskOf i).map (fun t => (taskStateCode t.state : Int))),
   (Obj.taskHolder, fun s _ i => (s.taskOf i).map (fun t => match t.holder with | some h => (h : Int) | none => 0xFFFF)),
   (Obj.pairState, fun s _ i => some (Tab.get 0 s.fleet.pairs i : Nat)),
   (Obj.machineCaps, fun s _ i => (s.machineAt i).map (fun m => (m.caps : Int))),
   (Obj.machineReportAge, fun s _ i => (s.machineAt i).map s.reportAge),
   (Obj.mapId, fun s _ i => some (match s.mapAt i with | some m => (m.id : Int) | none => 0)),
   (Obj.mapCellSize, fun s _ i => (s.mapAt i).map (fun m => (m.cell : Int))),
   (Obj.mapLayers, fun s _ i => (s.mapAt i).map (fun m => (m.layers : Int))),
   (Obj.mapTiles, fun s _ i => (s.mapAt i).map (fun m => (m.tiles.length : Int))),
   (Obj.tilesRestoredOld, fun s _ i => (s.mapAt i).map (fun m => (m.restoredOld : Int)))]

/-- Readers of windows of the machine's own blocks, keys, images, Boulevard. -/
def windows1 : List (ObjDesc × OptReader) :=
  [(Obj.sectionState, fun s _ i => some (secCode (s.sec i).state)),
   (Obj.sectionNextSwitch, fun s _ i => some (s.nextSwitch i)),
   (Obj.inputForward, fun s _ i => some (Tab.get 0 s.viewBank.fwd i : Nat)),
   (Obj.inputReverse, fun s _ i => some (Tab.get 0 s.viewBank.rev i : Nat)),
   (Obj.productQuantity0, fun s _ _ => some (Tab.get 0 s.viewBank.product 0 : Nat)),
   (Obj.productQuantity1, fun s _ _ => some (Tab.get 0 s.viewBank.product 1 : Nat)),
   (Obj.productQuantity2, fun s _ _ => some (Tab.get 0 s.viewBank.product 2 : Nat)),
   (Obj.productQuantity3, fun s _ _ => some (Tab.get 0 s.viewBank.product 3 : Nat)),
   (Obj.unassignedQuantity0, fun s _ _ => some (Tab.get 0 s.viewBank.unassigned 0 : Nat)),
   (Obj.unassignedQuantity1, fun s _ _ => some (Tab.get 0 s.viewBank.unassigned 1 : Nat)),
   (Obj.unassignedQuantity2, fun s _ _ => some (Tab.get 0 s.viewBank.unassigned 2 : Nat)),
   (Obj.unassignedQuantity3, fun s _ _ => some (Tab.get 0 s.viewBank.unassigned 3 : Nat)),
   (Obj.sectionQuantity, fun s _ i => some (Tab.get 0 s.viewBank.section_ i : Nat)),
   (Obj.axisPosition, fun s _ i => some ((s.axis i).emitted s.now)),
   (Obj.axisVelocity, fun s _ i => some ((s.axis i).vel / 1000000)),
   (Obj.remainingDistance, fun s _ i => some (s.remaining i)),
   (Obj.axisState, fun s _ i => some (axisCode (s.axis i).state)),
   (Obj.evtPending, fun s _ i => some ((Tab.get [] s.clk.queues i).length : Nat)),
   (Obj.keySlotState, fun s _ i => some (s.keySlotState i)),
   (Obj.keySlotKind, fun s _ i => some (match s.keyRecord i with | some k => (k.kind : Int) | none => 0)),
   (Obj.keySlotGeneration, fun s _ i => some (s.slotGen i)),
   (Obj.imageSlotState, fun s _ i => some (s.imageSlotState i)),
   (Obj.imageSlotVersion, fun s _ i => some (s.image i).info.version),
   (Obj.imageSlotSecurity, fun s _ i => some (s.image i).info.security),
   (Obj.coefInactive, fun s _ i => some (s.coefInactive i)),
   (Obj.coefActive, fun s _ i => some (s.coefActive i))]

/-! ### Reads that clear (R508: the flags that stand since the last read) -/

/-- Reads an object that another block measures and whose value the spec leaves open: an open value within the object's range
(log 5, log 53). -/
def State.readOpen (s : State) (o : ObjDesc) : Int × State :=
  let (v, s) := s.drawInt
  match o.rng with
  | .span lo hi => (clampInt lo hi v, s)
  | _ => (v, s)

/-- Reads that clear what they return, and reads of open values. -/
def clearing : List (ObjDesc × ClearReader) :=
  [(Obj.thermalStatus, fun s _ _ => (s.reg Obj.thermalStatus, s.setReg Obj.thermalStatus (s.regN Obj.thermalStatus % 4 : Nat))),
   (Obj.ethStatus, fun s _ i => (s.ethStatus i, s.setPort i { s.port i with rxOverflow := false, wakeMatch := false })),
   (Obj.canStatus, fun s _ i => (s.canStatus i, s.setCan i { s.canCtl i with overrun := false })),
   (Obj.kerbStatus, fun s _ _ => (s.kerbStatus, s.updKerb (fun k => { k with tileMiss := false, late := false }))),
   (Obj.coverageStatus, fun s _ _ => (s.coverageStatus, s.updCover (fun c => { c with rejected := false }))),
   (Obj.meterStatus, fun s _ _ => (s.meterStatus, s.updMeter (fun m => { m with overspeed := false, quadError := false, eventLost := false }))),
   (Obj.inputStatus, fun s _ i => (s.inputStatus i, s.updInput i (fun x => { x with overspeed := false, quadError := false }))),
   (Obj.axisStatus, fun s _ i => (s.axisStatus i, s.setAxis i { s.axis i with limit := false, followBacklog := false })),
   (Obj.timeStatus, fun s _ _ => (s.timeStatus, { s with clk := { s.clk with evtLost := false } })),
   (Obj.storeStatus, fun s _ _ =>
      -- how long a scrub pass lasts is open (log 182)
      let (v, s) := s.drawBits 1
      let s := s.updStore (fun x => { x with scrubRunning := decide (v.toNat = 1) })
      (s.storeStatus, s.updStore (fun x => { x with spilled := false }))),
   (Obj.milestoneStatus, fun s _ _ =>
      ((flag s.milestone.frozen 0 + flag s.milestone.expired 1 : Nat), { s with milestone := { s.milestone with expired := false } })),
   (Obj.pairStatus, fun s _ _ => (s.pairStatus, s.updZheoc (fun z => { z with dualActive := false }))),
   (Obj.loopStatus, fun s _ i => (s.loopStatus i, s.setLoop i { s.loop i with bfpClamp := false })),
   (Obj.dispatchMax, fun s _ _ => s.readOpen Obj.dispatchMax)]

/-! ### Bytes -/

/-- ASCII bytes of a decimal number, at least n digits (R531). -/
def decimal : Nat → Nat → Nat → List Byte
  | 0, _, _ => []
  | f + 1, n, x => if x = 0 ∧ n = 0 then [] else decimal f (n - 1) (x / 10) ++ [BitVec.ofNat 8 (0x30 + x % 10)]

/-- The software version: major, minor and build of the active image (R531). -/
def versionText (v : Nat) : List Byte :=
  decimal 4 1 (v / 2 ^ 24) ++ [0x2E] ++ decimal 4 1 (v / 2 ^ 16 % 256) ++ [0x2E] ++ decimal 6 4 (v % 65536)

/-- The code of a type (R506). -/
def typeCode : ObjType → Nat
  | .bool => 0x01 | .i8 => 0x02 | .i16 => 0x03 | .i32 => 0x04 | .i64 => 0x15 | .u8 => 0x05 | .u16 => 0x06 | .u32 => 0x07 | .u64 => 0x1B
  | .f32 => 0x08 | .str => 0x09 | .octets => 0x0A | .domain => 0x0F | .q16 => 0x40 | .time64 => 0x41

/-- The code of an access class (R533). -/
def accessCode : AccessClass → Nat
  | .const => 0 | .ro => 1 | .rw => 2 | .rws => 3 | .wo => 4

/-- The object can be mapped to a PDO (R526). -/
def mappable (o : ObjDesc) : Bool :=
  typeIsNumber o.ty && decide (o.size ≤ 8) && !o.cursor && decide (o.windowOf = 0) && decide (o.acc ≠ .wo)

/-- A request to the object can be remote on a base (R528). -/
def remoteCapable (o : ObjDesc) : Bool := (decide (o.idx = 0x6010) || decide (o.idx = 0x7030)) && decide (o.windowOf ≠ 0)

/-- A record of ObjectDirectory (R533). -/
def directoryRecord (base : Bool) (o : ObjDesc) : List Byte :=
  leBytes 2 o.idx ++ leBytes 1 o.sub ++ leBytes 1 (typeCode o.ty) ++ leBytes 1 (accessCode o.acc) ++ leBytes 1 (levelCode o.lvl) ++
    leBytes 1 (flag (mappable o) 0 + flag o.nextBoot 1 + flag (decide (o.windowOf ≠ 0)) 2 + flag o.cursor 3 + flag (base && remoteCapable o) 4) ++ [0]

/-- ObjectDirectory: every object of the role, in ascending address order (R533). -/
def State.objectDirectory (s : State) : List Byte :=
  (objTable.filter s.inRole).flatMap (directoryRecord (decide (s.mode.role = some .base)))

/-- The tile at the tile cursors in the map at MapCursor (R284). -/
def State.tileAt (s : State) (q : Sess) : Option (List Byte) :=
  match s.mapAt (s.cursor q Obj.mapCursor) with
  | none => none
  | some m =>
    let k := tileKey (s.cursorI q Obj.tileCursorX) (s.cursorI q Obj.tileCursorY)
    (Tab.get none m.tiles k).map (fun t => transferRecord m k t 0)

/-- KeySlotPublic: the key of a public key slot; in SERVICE slot 0 returns the test root (R559, R570). -/
def State.keySlotPublic (s : State) (i : Nat) : Option (List Byte) :=
  if s.mode.testRoot ∧ i = 0 then some (slice (Config.factoryKey 32) 0 64)
  else match s.keyRecord i with
    | none => none
    | some k => if k.kind = 1 then some (slice (k.bytes i) 0 64) else none

/-- The device certificate, and the DEV_ID in it (R559); none where slot 2 is bad. -/
def State.certificate (s : State) (n : Nat) : Option (List Byte) := (s.keyOf 2).map (fun b => slice b 0 n)

/-- Readers of bytes. -/
def byteReaders : List (ObjDesc × ByteReader) :=
  [(Obj.deviceName, fun _ _ _ => some [0x44, 0x4B, 0x59, 0x34, 0x38, 0x31, 0x30]),
   (Obj.hardwareVersion, fun _ _ _ => some [revLetterByte, revDigitByte]),
   (Obj.softwareVersion, fun s _ _ => some (versionText s.runningVersion)),
   (Obj.snapshotData, fun s _ _ => s.oldestExport.map (·.record)),
   (Obj.poseLatest, fun s _ _ => some (match s.nav.pose with | some p => p.bytes | none => List.replicate 80 0)),
   (Obj.slotDevice, fun s _ i => some (slice (s.slot i).device 0 16)),
   (Obj.machineEnvelope, fun s _ i => (s.machineAt i).map (fun m => slice m.envelope 0 8)),
   (Obj.trackGeometry, fun s _ _ => some s.trackGeometry),
   (Obj.tileData, fun s q _ => s.tileAt q),
   (Obj.lastInterval, fun s _ _ => if s.meter.last = [] then none else some s.meter.last),
   (Obj.vinEventCounts, fun s _ _ => some (leBytes 4 s.meter.vin.sags ++ leBytes 4 s.meter.vin.swells ++ leBytes 4 s.meter.vin.interruptions)),
   (Obj.milestoneItem, fun s _ i => s.milestoneItem i),
   (Obj.keySlotPublic, fun s _ i => s.keySlotPublic i),
   (Obj.deviceCertificate, fun s _ _ => s.certificate 144),
   (Obj.deviceId, fun s _ _ => s.certificate 16),
   (Obj.imageSlotDigest, fun s _ i => some (slice (s.image i).info.digest 0 32)),
   (Obj.objectDirectory, fun s _ _ => some s.objectDirectory),
   (Obj.asAppliedRecord, fun s _ i => (s.store.ring.find? (fun r => decide (r.rseq = i))).map AsApplied.bytes)]

/-! ### The value of an object -/

/-- The entry of a table of readers for an object. -/
def entryOf {α : Type} (l : List (ObjDesc × α)) (o : ObjDesc) : Option α := (l.find? (fun e => decide (e.1.addr = o.addr))).map (·.2)

/-- What the session reads of a cursor (R510); a rover's section cursors carry its machine slot (R226). -/
def State.cursorRead (s : State) (q : Sess) (o : ObjDesc) : Int :=
  let v := s.cursorI q o
  if s.mode.role = some .rover ∧ (o.addr = Obj.sectionCursor.addr ∨ o.addr = Obj.meterSectionCursor.addr) then
    s.slotOfRover * 1024 + v % 1024
  else v

/-- The COB-ID of a PDO whose default follows the node-ID (CiA 301; log 38). -/
def State.pdoCobId (s : State) (o : ObjDesc) : Int :=
  let n := o.idx % 16
  if s.reg o ≠ -1 then s.reg o
  else (if o.idx < 0x1800 then 0x200 else 0x180) + 0x100 * n + s.bootReg Obj.canopenNodeId

/-- The bytes that a read returns, and the state after it; none where the object is not available (R505, R514). -/
def State.readValue (s : State) (q : Sess) (o : ObjDesc) : Option (List Byte × State) :=
  let i := s.instanceOf q o
  if o.cursor then some (encodeValue o (s.cursorRead q o), s)
  else if typeIsNumber o.ty = false then
    match entryOf byteReaders o with
    | some f => (f s q i).map (fun b => (b, s))
    | none => some (s.octAt o i, s)
  else match entryOf clearing o with
    | some f => let (v, s) := f s q i; some (encodeValue o v, s)
    | none => match entryOf (readers0 ++ readers1) o with
      | some f => some (encodeValue o (f s q i), s)
      | none => match entryOf (windows0 ++ windows1) o with
        | some f => (f s q i).map (fun v => (encodeValue o v, s))
        | none =>
          if (o.idx / 256 = 0x14 ∨ o.idx / 256 = 0x18) ∧ o.sub = 1 then some (encodeValue o (s.pdoCobId o), s)
          else some (encodeValue o (s.regAt o i), s)

end Sys2Proof.Machine
end

