-- ==== Sys2Proof/WellFormed.lean ====
section
/-!
DEFINITION. WellFormed.lean: the operands that a command's source can give: a port that exists, a slot of a machine, a header of
five bytes. The meanings are total and do not rest on it.
-/
namespace Sys2Proof

/-- Data per request of a session (R510); CAN0's SDO protocols carry any length. -/
def sessionData : Sess → Nat
  | .host | .radio _ => 224
  | .tcp _ | .baseLink _ => 1024
  | .can0 => 2 ^ 32

/-- The envelope of a base-link frame is in its fields' ranges (R309, R569). -/
def LinkHead.wf (h : LinkHead) : Bool := decide (h.peer < 16) && decide (h.epoch < 2 ^ 32) && decide (h.seq < 2 ^ 16)

/-- A record that reaches a base: frames of its own radio, or a link frame in range. -/
def Uplink.wf : Uplink → Bool
  | .radio _ => true
  | .link head _ _ => head.wf

/-- The operands of a command are in the ranges of its source. -/
def Instr.wf : Instr → Bool
  | .stopHeaderCheck sync _ => decide (sync < 2 ^ 32)
  | .releaseFrame sync _ => decide (sync < 2 ^ 32)
  | .baseLinkStop origin => decide (origin < 16)
  | .baseLinkStopRequest base => decide (base < 16)
  | .baseLinkRelease head => head.wf
  | .uplinkMissed slot => decide (slot < 128)
  | .slotSupervisionTimeout slot => decide (slot < 128)
  | .eventCapture input _ tick => decide (input < 5) && decide (tick < 2 ^ 64)
  | .codeEpochDump channel _ samples => decide (channel < 512) && samples.all (fun x => decide (-8 ≤ x.1 ∧ x.1 ≤ 7 ∧ -8 ≤ x.2 ∧ x.2 ≤ 7))
  | .lossOfLock channel => decide (channel < 512)
  | .sectionDelayElapsed sec => decide (sec < 1024)
  | .segmentRx source => source.wf
  | .paintedSegmentRx head _ _ record => head.wf && decide (record.length = 32)
  | .managerSegmentAckRx head slot seq => head.wf && decide (slot < 128) && decide (seq < 2 ^ 16)
  | .tileSend slot => decide (slot < 128)
  | .fleetRecordCopyRx head _ _ => head.wf
  | .claimRx source => source.wf
  | .trackDoneRx source => source.wf
  | .taskReleaseRx source => source.wf
  | .tileRequestRx source => source.wf
  | .baseLinkTimeout base => decide (base < 16)
  | .baseLinkRestored head base _ reports => head.wf && decide (base < 16) && reports.all (fun n => decide (n < 128))
  | .reservationReportRx head slot _ => head.wf && decide (slot < 128)
  | .ethFrameRx port _ _ => decide (port < 2)
  | .ethFrameTx port _ => decide (port < 2)
  | .ethLinkChange port _ _ _ _ => decide (port < 2)
  | .pauseRx port _ => decide (port < 2)
  | .pauseEnd port => decide (port < 2)
  | .pauseTx port _ => decide (port < 2)
  | .pauseRepeat port => decide (port < 2)
  | .ethDisableComplete port => decide (port < 2)
  | .wakeMatch port _ => decide (port < 2)
  | .gateListStart port => decide (port < 2)
  | .ptpMessageRx port _ => decide (port < 2)
  | .ptpMessageTx port _ => decide (port < 2)
  | .ptpAnnounceTimeout port => decide (port < 2)
  | .canBusOff ctl => decide (ctl < 2)
  | .canRecoveryComplete ctl => decide (ctl < 2)
  | .canFrameRx ctl _ _ => decide (ctl < 2)
  | .sdoRequest _ addr => decide (addr < 2 ^ 24)
  | .rpdoRx n data _ => decide (n < 16) && decide (data.length ≤ 8)
  | .tpdoTx n => decide (n < 16)
  | .heartbeatConsumerTimeout entry => decide (entry < 4)
  | .sectionSetpointRx ddi value => decide (ddi < 2 ^ 16) && decide (value < 2 ^ 32)
  | .rateSetpointRx ddi product value => decide (ddi < 2 ^ 16) && decide (product < 4) && decide (value < 2 ^ 32)
  | .positionPgnTx pgn => decide (pgn < 4)
  | .aenOnDelayElapsed axis => decide (axis < 16)
  | .aenOffDelayElapsed axis => decide (axis < 16)
  | .axisFault gpio _ => decide (gpio < 64)
  | .stepInEdge input tick => decide (input < 4) && decide (tick < 2 ^ 64)
  | .followTimeout axis => decide (axis < 16)
  | .hostRead header => decide (header.length = 5)
  | .hostWrite header _ _ => decide (header.length = 5)
  | .pop header _ => decide (header.length = 5)
  | .push header _ _ => decide (header.length = 5)
  | .pushEnd header _ _ => decide (header.length = 5)
  | .queuePacketAbort queue => decide (queue < 64)
  | .dictRead _ tag base addr => decide (tag < 2 ^ 16) && decide (base < 256) && decide (addr < 2 ^ 24)
  | .dictWrite q tag base addr data => decide (tag < 2 ^ 16) && decide (base < 256) && decide (addr < 2 ^ 24) && decide (data.length ≤ sessionData q)
  | .dictReadSegment _ tag base addr offset => decide (tag < 2 ^ 16) && decide (base < 256) && decide (addr < 2 ^ 24) && decide (offset < 2 ^ 32)
  | .dictWriteSegment q tag base addr offset data _ => decide (tag < 2 ^ 16) && decide (base < 256) && decide (addr < 2 ^ 24) && decide (offset < 2 ^ 32) && decide (data.length ≤ sessionData q)
  | .storeParameters _ sub signature => decide (sub < 256) && decide (signature < 2 ^ 32)
  | .restoreDefaultParameters _ sub signature => decide (sub < 256) && decide (signature < 2 ^ 32)
  | .accessChallenge _ random => decide (random.length = 16)
  | .strapSample _ _ _ nand _ =>
    decide (nand.length ≤ 4) && decide ((nand.map (fun t => (t.map (fun n => n.blocks * n.blockKiB)).getD 0)).foldl (· + ·) 0 ≤ 2 ^ 31)
  | .tcpConnect port tcp => decide (port < 2) && decide (tcp < 65536)
  | .tunnelRequestRx _ sec _ => decide (sec < 1024)
  | .remoteTimeout slot => decide (slot < 128)
  | .milestoneSample item _ => decide (item < 4)
  | .keyRegisterLoad slot _ => decide (slot < 128)
  | .activationOfferRx source => source.wf
  | .activationAnswerRx source => source.wf
  | .activationCommitRx source => source.wf
  | .activationCancelRx source => source.wf
  | .laneDrop lane => decide (lane < 2)
  | .laneRejoin lane => decide (lane < 2)
  | .mirroredInputRx seq _ _ => decide (seq < 2 ^ 32)
  | .workerRelayRx head slot _ => head.wf && decide (slot < 128)
  | .baseLinkDictResponseRx head data => head.wf && decide (data.length ≤ 1048)
  | .canErrorPassive ctl _ => decide (ctl < 2)
  | .faultInputDeassert gpio _ => decide (gpio < 64)
  | .powerOn _ | .pgoodRelease _ | .pgoodFall | .nrstOutRelease | .nrstInAssert _ | .vholdDischarged _ 
  | .vholdMeasureStart | .vholdArmed _ _ | .vholdChargeTimeout | .vholdDisarm _ | .chargeCurrentChange _ | .bootComplete _ 
  | .vinSag _ | .vinOvervoltage _ | .vinOvervoltageEnd _ | .isolationTimeout | .vinSwell _ | .saveComplete _ _ | .saveAbort 
  | .watchdogExpiry | .resetRequest _ _ | .orderlySaveComplete _ _ | .pllLossOfLock _ | .extRefLoss | .modeRequestBase _ 
  | .modeRequestRover _ | .modeRequestRelay _ | .modeRequestStandby _ | .modeRequestSnapshot _ | .modeRequestHalt _ 
  | .stopTrigger _ _ | .stopDeassert _ _ | .stopDiscrepancyTimeout | .stopCopy | .beaconResume | .stopFrameVerify _ 
  | .releaseRequest _ _ | .releaseMachines _ _ | .beaconTx | .beaconCopyTx | .beaconRx _ _ _ | .beaconMissed | .lostBase 
  | .announcedStepApply | .downlinkFrameTx | .uplinkReportTx | .uplinkReportRx _ _ _ | .admissionRequestTx | .admissionRetry 
  | .admissionRequestRx _ | .admissionGrantRx _ | .terminateRx _ | .supervisionTimeout | .connectionDisable _ | .connectionEnable _ 
  | .slotDisable _ | .slotEnable _ | .lbtAssessment _ | .floodFrameRx _ | .floodCopyTx | .seenCacheExpiry | .correctionFragmentRx _ 
  | .tileTransferRx _ | .offerRx _ | .claimResultRx _ | .taskLoadRx _ | .taskTrackRx _ | .revokedRx _ | .separationAlertRx _ 
  | .groupKeyRollover | .timeSourceQualified _ _ | .timeSourceLost _ | .disciplineMeasure _ | .timeStep 
  | .conversionSetApply | .compareLoad _ _ | .clockOffsetRead _ | .ppsOutRise | .ppsOutFall | .ppsInTimeout | .evtNext _ 
  | .biasClassify _ _ _ _ | .biasRetry _ | .signalEnableWrite _ _ | .trackingFrame | .channelRanking _ | .acqRequest _ 
  | .acqPassComplete _ | .acqVerifyComplete _ _ | .navUnitComplete _ | .navHostOutputWrite _ _ | .snapshotTrigger _ _ 
  | .snapshotInterval | .snapshotCaptureComplete _ | .snapshotProcessingComplete _ | .snapshotDataRead _ | .snapshotRelease _ _ 
  | .snapshotWakeTimeWrite _ _ | .snapshotWake | .observableEpoch _ | .obsHostOutputWrite _ _ | .surveyInComplete _ 
  | .surveyInTimeout | .basePositionCheck _ _ _ | .baseEcefWrite _ _ _ | .rtcmEpoch _ | .ntripRetry _ | .ntripGga 
  | .ntripMessageRx _ _ _ _ | .matchOperand _ _ _ _ _ _ | .matchExpiry _ _ | .rtkSolution _ | .ambiguityHoldExpiry 
  | .headingSolution _ | .headingHoldExpiry | .imuSyncSample | .imuFrameRead _ | .poseInstant _ | .programFrame _ _ 
  | .outputPhase _ _ _ | .blvScrub _ _ | .bankCopy _ _ | .coefInactiveWrite _ _ | .bankSwapRequest _ _ | .bankSwap | .groupEnable _ 
  | .groupDisable _ | .groupResume _ _ | .kerbEvaluation _ | .slotIssue | .slotBoundary _ | .chainFaultClear _ _ 
  | .chainConfigWrite _ _ _ | .sectionRecordWrite _ _ _ | .sectionModeWrite _ _ | .masterEnableWrite _ _ | .segmentClose 
  | .tileCacheUpdate | .segmentPaint | .checkpointStart | .checkpointComplete | .mapRestoreComplete _ | .mapDelete _ _ 
  | .fieldLoad _ _ | .fieldUnload _ _ | .trackLoad _ _ | .taskLoad _ _ | .taskCancel _ | .taskRevoke _ | .taskHandOver _ 
  | .taskOffer _ _ | .offerLapse _ | .claimDecision | .leaseExpiry | .claimRequest _ _ | .taskRelease _ _ | .trackDone _ _ 
  | .separationCheck | .baseLinkHeartbeat | .ethDisable _ | .ethEnable _ | .gateCommit _ _ | .canRecover _ _ | .syncRx 
  | .canopenHeartbeatTx | .nmtResetNode | .nmtResetCommunication | .nmtStop | .nmtStart | .nmtPreOperational | .addressClaim _ 
  | .workStateTx | .actualRateTx | .tcStatusTimeout | .ddUpload | .pulseEdge _ _ _ _ | .creditTick | .rateUpdate | .intervalEnd 
  | .meterConfigWrite _ _ _ | .meterSnapshot _ _ | .meterClear _ _ | .vinSample _ | .vinEventNext _ | .profileTick | .axisEnable _ 
  | .axisDisable _ | .axisModeWrite _ _ | .moveTarget _ _ | .velocityTarget _ _ | .segmentStart _ _ | .segmentEntryWrite _ _ 
  | .axisStop _ _ | .axisResume _ _ | .positionPreset _ _ | .accelerationWrite _ _ | .maxVelocityWrite _ _ | .groupMembersWrite _ _ 
  | .groupTarget _ _ | .groupStop _ _ | .groupAxisResume _ _ | .hcsNRise _ | .irqStatusWrite _ _ | .dictCancel _ 
  | .dictBusyTimeout _ | .dictRequestApply _ | .storeCommit | .accessResponse _ _ | .accessDrop _ _ | .accessLockoutEnd _ 
  | .sessionTimeout _ | .tcpClose _ | .tunnelResponseRx _ | .journalWrite _ | .mramScrub _ _ _ | .nandScrub _ | .nandRefresh _ _ 
  | .wearLevelMove _ _ | .nandBlockRetire _ _ _ | .asAppliedExportedWrite _ _ | .tileDamaged _ _ | .tileRebuildComplete _ _ 
  | .milestoneHomeWrite | .milestoneFreeze _ | .milestoneUnfreeze _ | .milestoneFreezeExpiry | .milestoneClear _ _ 
  | .keyImportSecret _ _ | .keyImportPublic _ _ | .keyErase _ _ | .uartImageBlock _ | .updateBegin _ _ | .updateData _ _ 
  | .updateVerify _ _ | .trialConfirm | .trialTimeout | .activationLocal _ | .activationFleet _ | .activationCancel _ 
  | .activationCommitPoint | .activationAnswerDeadline | .activationTime | .linkTrained | .zlFrameRx _ | .zlRetransmitTimeout _ 
  | .heartbeatTx _ | .hbPulseRx | .healthTokenExpiry | .heartbeatLoss | .depose | .fence | .haltOutTakeover 
  | .partnerArbitration _ _ | .dualActiveDetect _ _ | .transferComplete | .mirrorTimeout | .frameDigest | .roleSwitch 
  | .dieTemperatureSample _ | .tcStatusRx | .ntripConnectionLost | .rtcmTcpConnect _ => true

end Sys2Proof
end

