-- ==== Sys2Proof/Machine/DictRoute.lean ====
section
/-!
DEFINITION. Machine/DictRoute.lean: dictionary requests (R510 to R529): how a request waits, is applied and answered; sessions,
access by challenge and response; segments; requests forwarded to workers and, through the radio tunnel, to machines.
-/
namespace Sys2Proof.Machine

/-! ### Sessions (R510 to R512) -/

/-- The key of an access level (R511, R562, R570): none where the level cannot be granted to the session. -/
def State.accessKey (s : State) (q : Sess) (l : AccessLevel) : Option (List Byte) :=
  if s.mode.testRoot then some (Config.sha256 (slice (Config.factoryKey 32) 0 64))
  else
    let key := match l with
      | .service => s.keyOf 5
      | _ => s.keyOf 4
    match key, q with
    | some k, _ => some k
    | none, .host | none, .can0 => some (List.replicate 32 0)
    | none, _ => none

/-- The level that a response grants (R511, R512): its code is Integrator or Service, its code matches under that level's key over
the session's challenge; Service never over the radio tunnel. -/
def State.responseGrants (s : State) (q : Sess) (data : List Byte) : Option AccessLevel :=
  let lvl : Option AccessLevel := match fieldU data 0 1 with
    | 1 => some .integrator
    | 2 => some .service
    | _ => none
  match (s.session q).challenge, lvl with
  | some c, some l =>
    let air := match q with
      | .radio _ => true
      | _ => false
    match s.accessKey q l with
    | none => none
    | some k =>
      if decide (data.drop 1 = slice (Config.hmacSha256 k (c ++ data.take 1)) 0 16) && !(air && decide (l = .service)) then some l else none
  | _, _ => none

/-- A read of AccessChallenge: 16 random bytes become the session's challenge (R511). -/
def State.accessChallenge (s : State) (q : Sess) (random : List Byte) : State :=
  s.readCommand q Obj.accessChallenge (fun s =>
    let c := slice random 0 16
    .ok (c, s.updSession q (fun x => { x with challenge := some c })))

/-- AccessResponse is locked after three failures (R512). -/
def State.lockedOut (s : State) (q : Sess) : Bool :=
  match (s.session q).lockedUntil with
  | none => false
  | some t => decide (s.now < t)

/-- A response that does not match (R512): the challenge is consumed; the third in a row locks for 60 s. -/
def State.responseFails (s : State) (q : Sess) : State :=
  let n := (s.session q).failures + 1
  let s := s.updSession q (fun x => { x with challenge := none, failures := if n < 3 then n else 0,
                                             lockedUntil := if n < 3 then none else s.after (ticksS 60) })
  if n < 3 then s else s.milestoneEntry 0x89

/-- A write of AccessResponse (R511, R512): locked, it is refused whatever it carries. -/
def State.accessResponse (s : State) (q : Sess) (data : List Byte) : State :=
  if !s.reaches q then s
  else
    let s := s.serve q 2 Obj.accessResponse data
    match s.objCheck q Obj.accessResponse true with
    | some a => s.answer q (s.ownTag q) a [] false
    | none =>
      if s.lockedOut q then s.answer q (s.ownTag q) abortAccess [] false
      else match lengthCheck Obj.accessResponse data with
        | some a => s.answer q (s.ownTag q) a [] false
        | none => match s.responseGrants q data with
          | some l =>
            let s := s.updSession q (fun x => { x with challenge := none, failures := 0, lockedUntil := none, granted := some l })
            s.answer q (s.ownTag q) 0 [] false
          | none => (s.responseFails q).answer q (s.ownTag q) abortAccess [] false

/-- A write of 0x01 to AccessDrop: the default level at once (R512). -/
def State.accessDrop (s : State) (q : Sess) (v : Int) : State :=
  s.writeCommand q Obj.accessDrop v (fun s => .ok (s.updSession q (fun x => { x with granted := none })))

/-- 60 s after the third failure (R512). -/
def State.accessLockoutEnd (s : State) (q : Sess) : State :=
  if s.running && !s.lockedOut q then s.updSession q (fun x => { x with lockedUntil := none }) else s

/-- SessionTimeout without a request: the default level; cursors stay (R510). -/
def State.sessionTimeout (s : State) (q : Sess) : State :=
  if s.running && s.sessionOpen q && decide ((s.session q).lastRequest + ticksS (s.regN Obj.sessionTimeout) ≤ s.now) then
    s.updSession q (fun x => { x with granted := none })
  else s

/-- A TCP connection to DictTcpPort, as it was taken at BOOT, on an enabled port takes the first free session; a fifth is refused
(R524). None before BOOT has ended, and none at a STANDBY unit (R597). -/
def State.tcpConnect (s : State) (p tcp : Nat) : State :=
  if s.operating && decide (tcp = s.bootReg Obj.dictTcpPort) && decide (s.mode.current ≠ .standby) && decide (p < 2) && bit (s.regN Obj.dictTcpEnable) p && (s.port p).linkUp then
    match (List.range 4).find? (fun n => !(s.session (.tcp (Fin.ofNat 4 n))).open_) with
    | none => s
    | some n => s.updSession (.tcp (Fin.ofNat 4 n)) (fun _ => { Session.closed with open_ := true, lastRequest := s.now })
  else s

/-! ### Messages (R523) -/

/-- A request or a response as a message; BASE 0xFF in a response. -/
def messageBytes (op tag addr : Nat) (more : Bool) (base offset : Nat) (abort : Nat) (data : List Byte) : List Byte :=
  [1] ++ leBytes 1 op ++ leBytes 2 tag ++ leBytes 2 (addr / 256) ++ leBytes 1 addr ++ leBytes 1 (flag more 0) ++ leBytes 1 base ++ [0, 0, 0] ++
    leBytes 4 offset ++ leBytes 2 data.length ++ [0, 0] ++ leBytes 4 abort ++ data

/-- The message of a request. -/
def Request.bytes (r : Request) : List Byte := messageBytes r.op r.tag r.addr r.more r.base r.offset 0 r.data

/-- The message of an answer: OP + 0x80. -/
def Answer.bytes (a : Answer) : List Byte := messageBytes (a.op + 0x80) a.tag a.addr a.more 255 a.offset a.abort a.data

/-- A whole message: VER 0x01 and LEN bytes of data. -/
def messageOk (b : List Byte) : Bool := decide (24 ≤ b.length) && decide (fieldU b 0 1 = 1) && decide (b.length = 24 + fieldU b 16 2)

/-- The request that a message spells. -/
def parseRequest (b : List Byte) (now : Nat) : Request :=
  { op := fieldU b 1 1, tag := fieldU b 2 2, addr := fieldU b 4 2 * 256 + fieldU b 6 1, more := bit (fieldU b 7 1) 0, base := fieldU b 8 1,
    offset := fieldU b 12 4, data := b.drop 24, since := now }

/-! ### Requests enter (R510, R513) -/

/-- Requests of the session that have no answer yet. -/
def State.outstanding (s : State) (q : Sess) : Nat :=
  (s.session q).waiting.length + (if (s.session q).serving.isSome then 1 else 0)

/-- How many a session may have outstanding (R510). -/
def sessionRoom : Sess → Nat
  | .host | .can0 | .radio _ => 1
  | .tcp _ | .baseLink _ => 8

/-- A request arrives: through the mailbox's registers (R500), or as one more of the session's requests. -/
def State.dictRequest (s : State) (q : Sess) (r : Request) : State :=
  match q with
  | .host =>
    if !s.hostReady then s
    else
      let s := s.updMbox (fun m => { m with arg := BitVec.ofNat 32 r.offset, len := min r.data.length 224, more := r.more, tag := r.tag % 65536,
                                            data := putBytes m.data 0 (r.data.take 224) })
      s.mboxCommand (BitVec.ofNat 32 (r.op + r.addr % 256 * 256 + r.addr / 256 * 65536))
  | q =>
    if s.reaches q && decide (s.outstanding q < sessionRoom q) && decide (r.data.length ≤ sessionData q) then
      s.updSession q (fun x => { x with waiting := x.waiting ++ [r] })
    else s

/-- A request that arrives and is applied at one instant: the meaning of a command that names an object of its own. One that comes
while the session has as many outstanding as it may have is ignored, the mailbox noting it (R501); a deposed unit applies none. -/
def State.ownRequest (s : State) (q : Sess) (f : State → State) : State :=
  if s.zheoc.deposed then s
  else if (decide (q = .host) && decide (s.mbox.state = .busy)) || decide (s.outstanding q ≠ 0) then
    if q = .host then s.updMbox (fun m => { m with ignored := true }) else s
  else f s

/-- A write that is a command of its own: a pair mirrors it (R595). -/
def State.ownWrite (s : State) (q : Sess) (f : State → State) : State := s.ownRequest q (fun s => f s.noteInput)

/-! ### Refusals before an object is reached -/

/-- Under the test root every update and key object refuses, and a sealed slot is not read (R570). -/
def State.testRefuses (s : State) (q : Sess) (o : ObjDesc) (write : Bool) : Bool :=
  s.mode.testRoot &&
    ((write && (decide (o.idx = 0xB010) || decide (o.idx = 0xC010) || decide (o.idx = 0xC020))) ||
     (decide (o.windowOf = Obj.keySlotCursor.addr) && s.sealedSlot (s.instanceOf q o)))

/-- Why a request to an object is refused before its own rules; none where it is not. -/
def State.refuses (s : State) (q : Sess) (o : ObjDesc) (write : Bool) : Option Abort :=
  match s.objCheck q o write with
  | some a => some a
  | none => if s.testRefuses q o write then some abortAccess else none

/-! ### Writes -/

/-- A write of ModeRequest: one of the six requests, or a value outside them, which sets ModeRequestResult to 0x04 (R42). -/
def State.modeWrite (s : State) (q : Sess) (v : Int) : State :=
  if v = 2 then s.modeRequestBase q
  else if v = 3 then s.modeRequestRover q
  else if v = 4 then s.modeRequestRelay q
  else if v = 5 then s.modeRequestStandby q
  else if v = 6 then s.modeRequestSnapshot q
  else if v = 7 then s.modeRequestHalt q
  else
    let s' := s.writeCommand q Obj.modeRequest v (fun s => .ok s)
    if s.reaches q ∧ (s.objCheck q Obj.modeRequest true).isNone then s'.setReg Obj.modeRequestResult 4 else s'

/-- A number object whose writes have a meaning of their own. -/
abbrev NumWriter := State → Sess → Int → State

/-- A write that only its range can refuse. -/
def refuseRange (o : ObjDesc) : NumWriter := fun s q v => s.writeCommand q o v (fun s => .ok s)

/-- A write of 0x01 and of 0x00 with two meanings. -/
def onOff (o : ObjDesc) (on off : State → Sess → State) : NumWriter :=
  fun s q v => if v = 1 then on s q else if v = 0 then off s q else refuseRange o s q v

/-- A write of 0x01, 0x02 or 0x03 with three meanings. -/
def oneTwoThree (o : ObjDesc) (a b c : State → Sess → State) : NumWriter :=
  fun s q v => if v = 1 then a s q else if v = 2 then b s q else if v = 3 then c s q else refuseRange o s q v

/-- Writers of modes, sessions, ports, baseband, base position. -/
def writers0 : List (ObjDesc × NumWriter) :=
  [(Obj.storeAll, fun s q v => s.storeParameters q 1 v.toNat), (Obj.storeCommunication, fun s q v => s.storeParameters q 2 v.toNat),
   (Obj.storeApplication, fun s q v => s.storeParameters q 3 v.toNat),
   (Obj.restoreAll, fun s q v => s.restoreDefaultParameters q 1 v.toNat),
   (Obj.restoreCommunication, fun s q v => s.restoreDefaultParameters q 2 v.toNat),
   (Obj.restoreApplication, fun s q v => s.restoreDefaultParameters q 3 v.toNat),
   (Obj.modeRequest, State.modeWrite), (Obj.resetRequest, State.resetRequest), (Obj.accessDrop, State.accessDrop),
   (Obj.ethEnable, onOff Obj.ethEnable State.ethEnable State.ethDisable), (Obj.gateCommit, State.gateCommit), (Obj.canRecover, State.canRecover),
   (Obj.signalEnable, State.signalEnableWrite), (Obj.snapshotWakeTime, State.snapshotWakeTimeWrite), (Obj.snapshotTrigger, State.snapshotTrigger),
   (Obj.snapshotRelease, State.snapshotRelease), (Obj.navHostOutput, State.navHostOutputWrite), (Obj.obsHostOutput, State.obsHostOutputWrite),
   (Obj.baseEcefX, fun s q v => s.baseEcefWrite q 0 v), (Obj.baseEcefY, fun s q v => s.baseEcefWrite q 1 v),
   (Obj.baseEcefZ, fun s q v => s.baseEcefWrite q 2 v),
   (Obj.slotEnable, onOff Obj.slotEnable State.slotEnable State.slotDisable),
   (Obj.connectionEnable, onOff Obj.connectionEnable State.connectionEnable State.connectionDisable),
   (Obj.releaseRequest, State.releaseRequest), (Obj.releaseMachines, State.releaseMachines)]

/-- A write of a section record field; where it changes, the device description is sent anew (R429). -/
def State.recordWrite (s : State) (q : Sess) (which : SectionField) (v : Int) : State :=
  let s' := s.sectionRecordWrite q which v
  if s'.regAt (sectionObj which) (s.sectionOf q) = s.regAt (sectionObj which) (s.sectionOf q) then s' else s'.noteDd

/-- Writers of the fleet, the maps, the Kerb engine, the meter. -/
def writers1 : List (ObjDesc × NumWriter) :=
  [(Obj.fieldUnload, State.fieldUnload), (Obj.taskCommand, oneTwoThree Obj.taskCommand State.taskCancel State.taskRevoke State.taskHandOver),
   (Obj.taskRelease, State.taskRelease), (Obj.trackDone, State.trackDone), (Obj.mapDelete, State.mapDelete),
   (Obj.masterEnable, State.masterEnableWrite), (Obj.chainFaultClear, State.chainFaultClear),
   (Obj.chainLength, fun s q v => s.chainConfigWrite q .length v), (Obj.chainDivider, fun s q v => s.chainConfigWrite q .divider v),
   (Obj.chainReadback, fun s q v => s.chainConfigWrite q .readback v), (Obj.implementModel, fun s q v => s.chainConfigWrite q .model v),
   (Obj.sectionEnable, fun s q v => s.recordWrite q .enable v), (Obj.sectionOnDelay, fun s q v => s.recordWrite q .onDelay v),
   (Obj.sectionOffDelay, fun s q v => s.recordWrite q .offDelay v), (Obj.sectionOffsetX, fun s q v => s.recordWrite q .offsetX v),
   (Obj.sectionOffsetY, fun s q v => s.recordWrite q .offsetY v), (Obj.sectionWidth, fun s q v => s.recordWrite q .width v),
   (Obj.sectionChainBit, fun s q v => s.recordWrite q .chainBit v),
   (Obj.sectionActiveLevel, fun s q v => s.recordWrite q .activeLevel v),
   (Obj.sectionProduct, fun s q v => s.recordWrite q .product v), (Obj.sectionLoopGroup, fun s q v => s.recordWrite q .loopGroup v),
   (Obj.sectionMode, State.sectionModeWrite),
   (Obj.inputMode, fun s q v => s.meterConfigWrite q .mode v), (Obj.debounce, fun s q v => s.meterConfigWrite q .debounce v),
   (Obj.kFactor, fun s q v => s.meterConfigWrite q .kFactor v), (Obj.accumMode, fun s q v => s.meterConfigWrite q .accumMode v),
   (Obj.dirPolarity, fun s q v => s.meterConfigWrite q .dirPolarity v), (Obj.inputBinding, fun s q v => s.meterConfigWrite q .binding v),
   (Obj.intervalLength, fun s q v => s.meterConfigWrite q .intervalLength v), (Obj.meterSnapshot, State.meterSnapshot),
   (Obj.meterClear, State.meterClear)]

/-- Writers of the Tram, the store, Tollgate, Boulevard. -/
def writers2 : List (ObjDesc × NumWriter) :=
  [(Obj.axisMode, State.axisModeWrite), (Obj.axisEnable, onOff Obj.axisEnable State.axisEnable State.axisDisable),
   (Obj.maxVelocity, State.maxVelocityWrite), (Obj.acceleration, State.accelerationWrite), (Obj.moveTarget, State.moveTarget),
   (Obj.velocityTarget, State.velocityTarget), (Obj.segmentStart, State.segmentStart), (Obj.axisStop, State.axisStop),
   (Obj.axisResume, State.axisResume), (Obj.positionPreset, State.positionPreset), (Obj.groupMembers, State.groupMembersWrite),
   (Obj.groupStop, State.groupStop), (Obj.groupAxisResume, State.groupAxisResume),
   (Obj.milestoneFreeze, onOff Obj.milestoneFreeze State.milestoneFreeze State.milestoneUnfreeze), (Obj.milestoneClear, State.milestoneClear),
   (Obj.asAppliedExported, State.asAppliedExportedWrite), (Obj.keyErase, State.keyErase), (Obj.updateBegin, State.updateBegin),
   (Obj.updateVerify, State.updateVerify),
   (Obj.activationCommand, oneTwoThree Obj.activationCommand State.activationLocal State.activationFleet State.activationCancel),
   (Obj.groupEnable, onOff Obj.groupEnable State.groupEnable State.groupDisable), (Obj.groupResume, State.groupResume),
   (Obj.bankCopy, State.bankCopy), (Obj.bankSwapRequest, State.bankSwapRequest), (Obj.coefInactive, State.coefInactiveWrite)]

/-- Writers of bytes. -/
def byteWriters : List (ObjDesc × (State → Sess → List Byte → State)) :=
  [(Obj.accessResponse, State.accessResponse), (Obj.fieldLoad, State.fieldLoad), (Obj.trackLoad, State.trackLoad), (Obj.taskLoad, State.taskLoad),
   (Obj.claimRequest, State.claimRequest), (Obj.segmentEntry, State.segmentEntryWrite), (Obj.groupTarget, State.groupTarget),
   (Obj.keyImportSecret, State.keyImportSecret), (Obj.keyImportPublic, State.keyImportPublic), (Obj.updateData, State.updateData)]

/-- A mapping entry may stand (R427, R526): none, or index, sub-index and length in bits of a mappable object; an RPDO maps only
objects that are RW at Operator level. -/
def State.mapEntryOk (s : State) (rpdo : Bool) (v : Nat) : Bool :=
  decide (v = 0) || (match objOf (v / 256) with
    | none => false
    | some o => s.inRole o && mappable o && decide (v % 256 = o.size * 8) && (!rpdo || (decide (o.acc = .rw) && decide (o.lvl = .operator))))

/-- The mapping object of an entry of a PDO: k 0 the count. -/
def pdoMapObj (rpdo : Bool) (n k : Nat) : ObjDesc := pdoMap (if rpdo then 0x1600 else 0x1A00) k n

/-- The objects that a PDO maps, in order (R427). -/
def State.pdoEntries (s : State) (rpdo : Bool) (n : Nat) : List ObjDesc :=
  (List.range (s.regN (pdoMapObj rpdo n 0))).filterMap (fun k => objOf (s.regN (pdoMapObj rpdo n (k + 1)) / 256))

/-- A write of a PDO mapping object (R427): entries that may not be mapped, and a count whose entries exceed 8 bytes, are refused. -/
def State.pdoMapOk (s : State) (o : ObjDesc) (v : Nat) : Bool :=
  let rpdo := decide (o.idx < 0x1800)
  if o.sub ≠ 0 then s.mapEntryOk rpdo v
  else decide ((((List.range v).map (fun k => s.regN (pdoMapObj rpdo (o.idx % 16) (k + 1)) % 256)).foldl (· + ·) 0) ≤ 64)

/-- The object is a PDO mapping object. -/
def isPdoMap (o : ObjDesc) : Bool := decide (o.idx / 16 = 0x160) || decide (o.idx / 16 = 0x1A0)

/-- What a write of a plain object does beside its value: a host copy that stopped goes on (R138, R166, R403, R446), a fixed base
position is in force (R163). -/
def State.afterWrite (s : State) (o : ObjDesc) (v : Int) : State :=
  if o.addr = Obj.evtHostOutput.addr ∧ v = 1 then { s with clk := { s.clk with evtCopy := { s.clk.evtCopy with stopped := false } } }
  else if o.addr = Obj.intervalHostOutput.addr ∧ v = 1 then s.updMeter (fun m => { m with copy := { m.copy with stopped := false } })
  else if o.addr = Obj.rtcmPorts.addr ∧ bit v.toNat 3 = true then s.updRef (fun b => { b with copy := { b.copy with stopped := false } })
  else if o.addr = Obj.basePositionMode.addr ∧ v = 0 then s.updRef (fun b => { b with inForce := true, surveying := false })
  else if o.addr = Obj.snapshotInterval.addr ∧ s.mode.current = .snapshot then s.intervalWritten
  else s

/-- The cursor of a session takes a value (R510, R514); a rover ignores the slot bits of a section cursor (R226). -/
def State.setCursor (s : State) (q : Sess) (o : ObjDesc) (v : Int) : State :=
  let v := if s.mode.role = some .rover ∧ (o.addr = Obj.sectionCursor.addr ∨ o.addr = Obj.meterSectionCursor.addr) then v % 1024 else v
  s.updSession q (fun x => { x with cursors := Tab.put 0 x.cursors o.addr v })

/-- A write of a number object that no rule gives a meaning of its own. -/
def State.plainWrite (s : State) (q : Sess) (o : ObjDesc) (v : Int) : State :=
  s.writeCommand q o v (fun s =>
    let i := s.instanceOf q o
    if o.cursor then .ok (s.setCursor q o v)
    -- a tracking loop's objects (R223)
    else if o.idx = 0xF020 ∧ i < 512 then .error abortAccess
    else if isPdoMap o ∧ s.pdoMapOk o v.toNat = false then .error abortNotMappable
    else if o.addr = Obj.predefinedErrors.addr then
      -- CiA 301: only 0, which empties the field
      if v = 0 then .ok (errorFields.foldl (fun s o => s.setReg o 0) (s.setReg o 0)) else .error abortRange
    else match s.applyNum o i v with
      | .error a => .error a
      | .ok s => .ok (s.afterWrite o v))

/-- A write of a number object. -/
def State.writeNumber (s : State) (q : Sess) (o : ObjDesc) (v : Int) : State :=
  match entryOf (writers0 ++ writers1 ++ writers2) o with
  | some f => f s q v
  | none => s.plainWrite q o v

/-- A write of a bytes object. -/
def State.writeOctets (s : State) (q : Sess) (o : ObjDesc) (data : List Byte) : State :=
  match entryOf byteWriters o with
  | some f => f s q data
  | none => s.writeBytesCommand q o data (fun s => s.applyOct o (s.instanceOf q o) data)

/-- A whole write (R507, R508): access, length, then the object's own meaning. -/
def State.writeObject (s : State) (q : Sess) (o : ObjDesc) (data : List Byte) : State :=
  match s.refuses q o true with
  | some a => s.answer q (s.ownTag q) a [] false
  | none =>
    if !typeIsNumber o.ty then s.writeOctets q o data
    else if data.length ≠ o.size then s.answer q (s.ownTag q) abortLength [] false
    else s.writeNumber q o (decodeValue o data)

/-! ### Reads -/

/-- The part of a large object from an offset (R515). A capture read to its last byte frees its slot (R142). -/
def State.answerSegment (s : State) (q : Sess) (o : ObjDesc) (b : List Byte) (offset : Nat) : State :=
  let data := (b.drop offset).take (sessionData q)
  let more := decide (offset + data.length < b.length)
  let s := if o.addr = Obj.snapshotData.addr ∧ more = false ∧ offset < b.length ∧ s.oldestExport.map (·.record) = some b then s.dropExport else s
  s.answer q (s.ownTag q) 0 data more

/-- A read of a DOMAIN object: at offset 0 it takes the session's snapshot (R515). -/
def State.readDomain (s : State) (q : Sess) (o : ObjDesc) (offset : Nat) : State :=
  if offset = 0 then
    match s.readValue q o with
    | none => s.answer q (s.ownTag q) abortUnavailable [] false
    | some (b, s) => (s.updSession q (fun x => { x with snapshot := some (o.addr, b) })).answerSegment q o b 0
  else match (s.session q).snapshot with
    | none => s.answer q (s.ownTag q) abortSegment [] false
    | some (a, b) => if a = o.addr then s.answerSegment q o b offset else s.answer q (s.ownTag q) abortSegment [] false

/-- A read of an object. -/
def State.readObject (s : State) (q : Sess) (o : ObjDesc) (offset : Nat) : State :=
  match s.refuses q o false with
  | some a => s.answer q (s.ownTag q) a [] false
  | none =>
    if o.ty = .domain then s.readDomain q o offset
    else if offset ≠ 0 then s.answer q (s.ownTag q) abortSegment [] false
    else if o.addr = Obj.evtNext.addr then s.evtNextRead q
    else if o.addr = Obj.vinEventNext.addr then s.vinEventNext q
    else if o.addr = Obj.clockOffset.addr then s.clockOffsetRead q
    else if o.addr = Obj.accessChallenge.addr then
      let (c, s) := s.drawBytes 16
      s.accessChallenge q c
    else match s.readValue q o with
      | none => s.answer q (s.ownTag q) abortUnavailable [] false
      | some (b, s) => s.answer q (s.ownTag q) 0 b false

/-! ### Segmented writes (R515) -/

/-- The most that the session's partial write of an object may hold. -/
def partialRoom (o : ObjDesc) : Nat := min 262144 o.size

/-- A write segment: in order it is kept; with MORE clear the whole is applied. -/
def State.writeSegment (s : State) (q : Sess) (o : ObjDesc) (r : Request) : State :=
  let drop (s : State) : State := s.updSession q (fun x => { x with partialWrite := none })
  match s.refuses q o true with
  | some a => (drop s).answer q (s.ownTag q) a [] false
  | none =>
    let held : Option (List Byte) :=
      if r.offset = 0 then some []
      else match (s.session q).partialWrite with
        | none => none
        | some (a, b) => if a = o.addr ∧ b.length = r.offset then some b else none
    match held with
    | none => (drop s).answer q (s.ownTag q) abortSegment [] false
    | some b =>
      let b := b ++ r.data
      if partialRoom o < b.length then (drop s).answer q (s.ownTag q) abortRange [] false
      else if r.more then (s.updSession q (fun x => { x with partialWrite := some (o.addr, b) })).answer q (s.ownTag q) 0 [] false
      else (drop s).writeObject q o b

/-! ### Remote requests (R524, R528) -/

/-- Answers a request of a session that was forwarded. -/
def State.answerFor (s : State) (q : Sess) (r : Request) (abort : Nat) (data : List Byte) (more : Bool) : State :=
  (s.updSession q (fun x => { x with serving := some r })).answer q r.tag abort data more

/-- The first request that waits for a slot goes out where none of that slot is out (R528); where the slot is no longer CONNECTED,
all that wait for it are answered at once (R529). -/
def State.pumpRemote (s : State) (slot : Nat) : State :=
  let waiting := s.remotes.filter (fun r => decide (r.slot = slot))
  match waiting with
  | [] => s
  | r :: _ =>
    if r.due.isSome then s
    else if (s.slot slot).state ≠ .connected then
      waiting.foldl (fun s r => s.answerFor r.from_ r.req abortUnavailable [] false)
        { s with remotes := s.remotes.filter (fun r => decide (r.slot ≠ slot)) }
    else
      let due := s.after (ticksMs (s.regN Obj.remoteTimeout))
      let s := { s with remotes := s.remotes.map (fun x => if x = r then { x with due := due } else x) }
      s.updRadio (fun x => { x with tunnels := x.tunnels ++ [(slot, r.req.bytes)] })

/-- Forwarded requests are dropped, and the next of each slot goes out. -/
def State.dropRemotes (s : State) (p : RemoteRequest → Bool) : State :=
  let slots := s.remotes.map (·.slot)
  let s : State := { s with remotes := s.remotes.filter (fun r => !p r) }
  slots.foldl (fun s n => if n < 1000 then s.pumpRemote n else s) s

/-- The connection closes: its outstanding requests are dropped without an answer (R525). -/
def State.tcpClose (s : State) (n : Fin 4) : State :=
  (s.updSession (.tcp n) (fun _ => Session.closed)).dropRemotes (fun r => decide (r.from_ = Sess.tcp n))

/-- A request to a remote window at a base: forwarded to the machine slot of its cursor (R528, R529). -/
def State.remoteRequest (s : State) (q : Sess) (o : ObjDesc) (r : Request) : State :=
  match s.refuses q o (decide (r.op = 2) || decide (r.op = 4)) with
  | some a => s.answer q (s.ownTag q) a [] false
  | none =>
    let c := (Tab.get 0 (s.session q).cursors o.windowOf).toNat
    if (s.slot (c / 1024)).state ≠ .connected then s.answer q (s.ownTag q) abortUnavailable [] false
    else
      let s : State := { s with remotes := s.remotes ++ [{ slot := c / 1024, from_ := q, req := r, section_ := c % 1024, due := none }] }
      s.pumpRemote (c / 1024)

/-- A request that names a worker goes over the base link at the session's level (R524). -/
def State.forwardRequest (s : State) (q : Sess) (r : Request) : State :=
  if s.isManager && decide (1 ≤ r.base) && decide (r.base ≤ 15) && bit s.fleet.linked r.base then
    let s : State := { s with remotes := s.remotes ++ [{ slot := 1000 + r.base, from_ := q, req := r, section_ := 0, due := none }] }
    s.sendLink r.base (.dictRequest (s.level q) ({ r with base := 255 } : Request).bytes)
  else s.answer q (s.ownTag q) abortUnavailable [] false

/-! ### Service (R513, R517) -/

/-- The request in service is applied. -/
def State.serveRequest (s : State) (q : Sess) (r : Request) : State :=
  if r.base ≠ 255 ∧ ¬(r.base = 0 ∧ s.isManager = true) then s.forwardRequest q r
  else if s.mode.current = .boot ∧ ¬((r.op = 1 ∨ r.op = 3) ∧ r.addr / 256 = 0x2000) then s.answer q (s.ownTag q) abortUnavailable [] false
  else match objOf r.addr with
    | none =>
      s.answer q (s.ownTag q) (if objTable.any (fun o => decide (o.idx = r.addr / 256)) then abortNoSub else abortNoObject) [] false
    | some o =>
      if s.isBase && remoteCapable o && decide (1 ≤ r.op) && decide (r.op ≤ 4) then s.remoteRequest q o r
      else match r.op with
        | 1 => s.readObject q o 0
        | 2 => s.writeObject q o r.data
        | 3 => s.readObject q o r.offset
        | 4 => s.writeSegment q o r
        | _ =>
          -- an OP that the spec does not list: what it answers is open (log 45)
          let (a, s) := s.drawBits 32
          s.answer q (s.ownTag q) a.toNat [] false

/-- A request that could not begin within 200 ms is answered busy, and nothing of it is applied (R517, R518). -/
def State.busyAnswer (s : State) (q : Sess) (r : Request) : State :=
  let s := s.updSession q (fun x => { x with waiting := x.waiting.drop 1 })
  (s.answerFor q r abortBusy [] false).incr Obj.dictBusyAborts

/-- A request of the session is in service elsewhere: it waits for a commit or a remote answer, and later ones wait behind it (R513). -/
def State.sessionBlocked (s : State) (q : Sess) : Bool := (s.session q).serving.isSome

/-- The management cores begin the session's oldest request, apply it and answer it (R513, R517). -/
def State.dictRequestApply (s : State) (q : Sess) : State :=
  if !s.reaches q || s.sessionBlocked q then s
  else match (s.session q).waiting with
    | [] => s
    | r :: _ =>
      if r.since + ticksMs 200 ≤ s.now then s.busyAnswer q r
      else (s.updSession q (fun x => { x with waiting := x.waiting.drop 1, serving := some r })).serveRequest q r

/-- A write that the session's oldest request makes is an input that a pair mirrors (R595). -/
def State.noteWrite (s : State) (q : Sess) : State :=
  match (s.session q).waiting with
  | [] => s
  | r :: _ => if r.op = 2 ∨ r.op = 4 then s.noteInput else s

/-- 200 ms have passed before the session's oldest waiting request began (R517). -/
def State.dictBusyTimeout (s : State) (q : Sess) : State :=
  if !s.reaches q then s
  else match (s.session q).waiting with
    | [] => s
    | r :: _ =>
      if r.since + ticksMs 200 ≤ s.now then
        let old := (s.session q).serving
        (s.busyAnswer q r).updSession q (fun x => { x with serving := old })
      else s

/-- OP 0x05 (R501, R523): the mailbox's busy request, or the session's oldest outstanding request, ends unapplied. -/
def State.dictCancel (s : State) (q : Sess) : State :=
  match q with
  | .host => if s.hostReady then (s.mboxCommand 5).dropRemotes (fun r => decide (r.from_ = Sess.host)) else s
  | q =>
    if !s.reaches q then s
    else match s.remotes.find? (fun r => decide (r.from_ = q)) with
      | some r =>
        let (a, s) := s.drawBits 32
        (s.dropRemotes (fun x => decide (x = r))).answerFor q r.req a.toNat [] false
      | none =>
        if (s.session q).serving.isSome then s
        else match (s.session q).waiting with
          | [] => s
          | r :: _ =>
            let (a, s) := s.drawBits 32
            let s := s.updSession q (fun x => { x with waiting := x.waiting.drop 1 })
            s.answerFor q r a.toNat [] false

/-! ### The radio tunnel and the base link (R524, R528, R529) -/

/-- The tunnel frame of a rover's answer waits for contention time. -/
def State.sendTunnel (s : State) (b : List Byte) : State :=
  let (ttl, flood) := s.ownTtl
  let (l, s) := s.fragments 0xC (0x80 + s.radio.netBase) ttl flood 248 b
  l.foldl (fun s f => s.queueLbt f false true 2 s.upPhy) s

/-- A tunnel request reaches a rover (R528, R529): with its section number and its level. -/
def State.tunnelRequestRx (s : State) (origin : AccessLevel) (sec : Nat) (frames : List (List Byte)) : State :=
  if !s.farSide then s
  else
    let (s, got) := s.receiveRecord [0xC] frames
    match got with
    | none => s
    | some (_, b) =>
      let q := Sess.radio origin
      if !messageOk b || !s.reaches q || decide (s.outstanding q ≠ 0) then s
      else
        let r := parseRequest b s.now
        if s.reg Obj.tunnelEnable = 0 then s.answerFor q r abortAccess [] false
        else
          let put (t : Tab Int) (o : ObjDesc) : Tab Int := Tab.put 0 t o.addr (sec % 1024 : Nat)
          s.updSession q (fun x => { x with waiting := [r], cursors := put (put x.cursors Obj.sectionCursor) Obj.meterSectionCursor })

/-- The answer of a slot, or of a worker, goes to the requester whose tag it carries (R524, R528). -/
def State.passAnswer (s : State) (slot : Nat) (b : List Byte) : State :=
  match s.remotes.find? (fun r => decide (r.slot = slot)) with
  | none => s
  | some r =>
    if messageOk b && decide (fieldU b 1 1 = r.req.op + 0x80) && decide (fieldU b 2 2 = r.req.tag) then
      let s := { s with remotes := s.remotes.erase r }
      let s := s.answerFor r.from_ r.req (fieldU b 20 4) (b.drop 24) (bit (fieldU b 7 1) 0)
      if slot < 1000 then s.pumpRemote slot else s
    else s

/-- A rover's tunnel answer reaches the base. -/
def State.tunnelResponseRx (s : State) (frames : List (List Byte)) : State :=
  if !s.isBase then s
  else
    let (s, got) := s.receiveRecord [0xC] frames
    match got with
    | none => s
    | some (f, b) => if (s.slot f.src).state = .connected then s.passAnswer f.src b else s

/-- RemoteTimeout without an answer (R528). -/
def State.remoteTimeout (s : State) (slot : Nat) : State :=
  match s.remotes.find? (fun r => decide (r.slot = slot)) with
  | none => s
  | some r =>
    if s.running && s.due r.due then
      let s := { s with remotes := s.remotes.erase r }
      let s := s.updRadio (fun x => { x with tunnels := x.tunnels.erase (slot, r.req.bytes) })
      ((s.answerFor r.from_ r.req abortTimeout [] false).incr Obj.remoteTimeouts).pumpRemote slot
    else s

/-- A worker's answer reaches the manager (R524). -/
def State.baseLinkDictResponseRx (s : State) (base : Nat) (data : List Byte) : State :=
  if s.isManager ∧ s.operating = true then s.passAnswer (1000 + base) data else s

/-- A session that answers by message over the base link or the tunnel: its answer goes out; one whose link has ended is closed. -/
def State.sendReply (s : State) (q : Sess) : State :=
  let x := s.session q
  if x ≠ Session.closed ∧ s.sessionOpen q = false then s.updSession q (fun _ => Session.closed)
  else match x.reply with
    | none => s
    | some a =>
      let s := s.updSession q (fun x => { x with reply := none })
      match q with
      | .radio _ => s.sendTunnel a.bytes
      | .baseLink _ => s.sendLink 0 (.dictResponse a.bytes)
      | _ => s

end Sys2Proof.Machine
end

