-- ==== Sys2Proof/Machine/CanDict.lean ====
section
/-!
DEFINITION. Machine/CanDict.lean: the dictionary over CAN0: SDO requests and PDOs (R426, R427, R519, R526).
-/
namespace Sys2Proof.Machine

/-- An SDO upload or download is a dictionary request of the CAN0 session (R426, R526). -/
def State.sdoRequest (s : State) (write : Option (List Byte)) (addr : Nat) : State :=
  if (s.canCtl 0).err = 2 then s
  else s.dictRequest .can0 { op := if write.isSome then 2 else 1, tag := 0, addr := addr, more := false, base := 255, offset := 0,
                             data := write.getD [], since := s.now }

/-- A communication object of a PDO. -/
def pdoCommObj (rpdo : Bool) (n k : Nat) : ObjDesc := pdoComm (if rpdo then 0x1400 else 0x1800) k n

/-- The node is operational on a bus that is not off, and the PDO is valid: bit 31 of its COB-ID is clear (CiA 301; log 38). -/
def State.pdoRuns (s : State) (rpdo : Bool) (n : Nat) : Bool :=
  s.operating && decide (s.net.open_.nmt = .operational) && decide ((s.canCtl 0).err ≠ 2) && decide (n < 16) &&
    decide (s.mode.current ≠ .standby ∨ s.zheoc.deposed = false) && decide ((s.pdoCobId (pdoCommObj rpdo n 1)).toNat < 2 ^ 31)

/-- The transmission type of a PDO. -/
def State.pdoType (s : State) (rpdo : Bool) (n : Nat) : Nat := s.regN (pdoCommObj rpdo n 2)

/-- The data of an RPDO are written to its mapped objects by the CAN0 session, without an answer of its own (R519). -/
def State.pdoWrite (s : State) : List ObjDesc → List Byte → State
  | [], _ => s
  | o :: t, b =>
    let x := s.session .can0
    let s := (s.updSession .can0 (fun x => { x with serving := none })).writeObject .can0 o (b.take o.size)
    let s := s.updSession .can0 (fun y => { y with serving := x.serving, reply := x.reply })
    State.pdoWrite s t (b.drop o.size)

/-- An RPDO's mapped length in bytes. -/
def pdoLength (l : List ObjDesc) : Nat := (l.map (·.size)).foldl (· + ·) 0

/-- An RPDO arrives (R426, R519): one that cannot be applied within 200 ms is dropped and counted; a synchronous one waits for the
next SYNC. -/
def State.rpdoRx (s : State) (n : Nat) (data : List Byte) (busy : Bool) : State :=
  let l := s.pdoEntries true n
  if !s.pdoRuns true n ∨ data.length < pdoLength l then s
  else if busy then s.incr Obj.pdoDropped
  else if s.pdoType true n ≤ 240 then s.updOpen (fun x => { x with rpdoWait := Tab.put [] x.rpdoWait n data })
  else s.pdoWrite l data

/-- The values of a TPDO's objects now; a value that is not available is open (log 5). -/
def State.pdoRead (s : State) : List ObjDesc → List Byte × State
  | [] => ([], s)
  | o :: t =>
    let (b, s) := (s.readValue .can0 o).getD (s.drawBytes o.size)
    let (r, s) := State.pdoRead s t
    (slice b 0 o.size ++ r, s)

/-- A TPDO goes, with the values of this instant (R519): after its inhibit time; a synchronous one after as many SYNCs as its type
counts. -/
def State.tpdoTx (s : State) (n : Nat) : State :=
  let kind := s.pdoType false n
  if !s.pdoRuns false n ∨ s.now < Tab.get 0 s.net.open_.inhibit n ∨ (kind ≤ 240 ∧ Tab.get 0 s.net.open_.syncs n < kind) then s
  else
    let (b, s) := s.pdoRead (s.pdoEntries false n)
    -- inhibit time in 100 µs, event timer in ms (CiA 301)
    s.updOpen (fun x => { x with tpdo := Tab.put [] x.tpdo n b, syncs := Tab.put 0 x.syncs n 0
                                 inhibit := Tab.put 0 x.inhibit n (s.now + ticksUs (100 * s.regN (pdoCommObj false n 3)))
                                 timer := Tab.put 0 x.timer n (s.now + ticksMs (s.regN (pdoCommObj false n 5))) })

/-- A SYNC message (R426): the RPDOs that wait for it are applied, and every TPDO counts it. -/
def State.syncRx (s : State) : State :=
  if !(s.operating && decide (s.net.open_.nmt = .operational) && decide ((s.canCtl 0).err ≠ 2)) then s
  else
    let l := s.net.open_.rpdoWait
    let s := s.updOpen (fun x => { x with rpdoWait := [], syncs := (List.range 16).foldl (fun t n => Tab.put 0 t n (min 255 (Tab.get 0 t n + 1))) x.syncs })
    l.foldl (fun s e => s.pdoWrite (s.pdoEntries true e.1) e.2) s

end Sys2Proof.Machine
end

