-- ==== Sys2Proof/Machine/Sources.lean ====
section
/-!
DEFINITION. Machine/Sources.lean: what each source of time says (R389), and the commands that qualify, lose and measure one.
-/
namespace Sys2Proof.Machine

/-- The beacons of the base that the device is connected to or joins are heard: SYNCED or later (R332, R389). -/
def State.beaconsHeard (s : State) : Bool :=
  match s.radio.conn with
  | .idle | .scanning => false
  | _ => s.farSide && s.radio.model.isSome && !s.radio.lostBase

/-- The beacons are lost: lost base, or 3 missed while not CONNECTED (R389). -/
def State.beaconsLost (s : State) : Bool :=
  !s.beaconsHeard || (decide (s.radio.conn ≠ .connected) && decide (3 ≤ s.radio.missed))

/-- What the beacons say: the base's time now against reported time, and the rate learned (R340), in the unit of RATE. -/
def State.beaconReading (s : State) : Int × Int := (s.netTime - s.time64, s.radio.drift.rate * 2 ^ 40 / 1000000000)

/-- The port whose PTP slave reports lock. -/
def State.ptpLocked (s : State) : Option Nat := [0, 1].find? (fun p => (s.ptpPort p).qualified)

/-- The error and rate that a source other than GNSS gives now. -/
def State.sourceReading (s : State) (t : TimeState) : Option (Int × Int) :=
  match t with
  | .beacon => if s.beaconsHeard then some s.beaconReading else none
  | .ptp => s.ptpLocked.map (fun p => s.ptpReading p)
  | _ => none

/-- The uncertainty that PTP reports. -/
def State.ptpReported (s : State) : Nat := match s.ptpLocked with
  | some p => ptpUncertainty (s.ptpPort p).offsets
  | none => 0

/-- The unit's time is its partner's: a STANDBY unit follows it over the link (R597). -/
def State.followsPartner (s : State) : Bool := decide (s.mode.current = .standby) && s.linkUp

/-- A source qualifies: GNSS by its last three clock solutions, PTP and the beacons by the state of their own (R389, R390). -/
def State.timeSourceQualified (s : State) (src : TimeSource) (solutions : List ClockSolution) : State :=
  if s.followsPartner then s
  else match src with
  | .gnss => s.gnssQualifies solutions
  | src =>
    match s.sourceReading (sourceState src) with
    | some r => s.qualifySource src r.1 r.2 s.ptpReported
    | none => s

/-- What the table of R389 calls lost holds of a source. -/
def State.sourceGone (s : State) (src : TimeSource) : Bool :=
  match src with
  | .gnss => s.gnssSilent
  | .ptp => s.ptpLocked.isNone
  | .beacon => s.beaconsLost

/-- A source is lost (R389, R390). -/
def State.timeSourceLost (s : State) (src : TimeSource) : State :=
  if !s.followsPartner && s.sourceGone src then s.loseSource src s.sourceReading else s

/-- The once-per-second measurement of the source in use (R393). -/
def State.disciplineMeasure (s : State) (solution : Option ClockSolution) : State :=
  if s.followsPartner then s
  else match s.clk.state, solution with
  | .gnss, some x => s.gnssMeasure x
  | .gnss, none => s
  | t, _ =>
    match s.sourceReading t with
    | some r => s.discipline r.1 r.2 s.ptpReported
    | none => s

end Sys2Proof.Machine
end

