-- ==== Sys2Proof/Machine/Settle.lean ====
section
/-!
DEFINITION. Machine/Settle.lean: what follows every command at once, whatever it was: the levels of the output lands (R47, R71,
R499), the interrupt flag of a changed fault bit, replies that go out, and records that wait for room.
-/
namespace Sys2Proof.Machine

/-! ### Output lands (R47, R71, R499, R598, R601) -/

/-- HALT_OUT_A and HALT_OUT_B: high when halted; not yet driven by a base that has just taken over, driven no longer by a fenced
one. -/
def State.haltOut (s : State) : Drive :=
  if s.mode.clockFail.isSome then .high
  else
  let held := s.zheoc.haltOutFrom.isSome || s.zheoc.fenced
  match s.mode.current with
  | .base | .relay | .rover | .snapshot => if held then .hiZ else .low
  | .halt => if held then .hiZ else .high
  | .standby => match s.zheoc.haltOutUntil with
    | some t => if s.now < t then .low else .hiZ
    | none => .hiZ
  | .service => if s.mode.serviceStop then .high else .hiZ
  | .reset | .boot | .holdup => .hiZ

/-- SEC_OE_N: low while the chain's outputs are enabled, driven only by a rover; in SERVICE high on a stop input. -/
def State.secOe (s : State) : Drive :=
  if s.mode.clockFail.isSome then .high
  else match s.mode.current with
  | .rover | .snapshot => if s.kerb.chain.oe then .low else .high
  | .halt => if s.mode.role = some .rover then .high else .hiZ
  | .service => if s.mode.serviceStop then .high else .hiZ
  | _ => .hiZ

/-- A rover drives its section chain and its axes. -/
def State.roverDrives (s : State) : Bool :=
  match s.mode.current with
  | .rover | .snapshot => true
  | .halt => decide (s.mode.role = some .rover)
  | _ => false

/-- The radio drives its amplifier enables. -/
def State.radioDrives (s : State) : Bool :=
  match s.mode.current with
  | .base | .relay | .rover | .snapshot | .halt => !s.zheoc.fenced
  | _ => false

/-- An output that leaves Hi-Z shows its fail-safe level first, and passes to its function with what comes next (R73). -/
def leave (old new failSafe : Drive) : Drive :=
  match old, new with
  | _, .hiZ => .hiZ
  | .hiZ, _ => failSafe
  | _, d => d

/-- The same of a group of lands. -/
def leadNext (old : Lead) (drives : Bool) : Lead :=
  match old, drives with
  | _, false => .hiZ
  | .hiZ, true => .failSafe
  | _, true => .driven

/-- The output lands of the state (R47, R71), from what they were. HALT_OUT_A, HALT_OUT_B and SEC_OE_N are fail-safe high (R74). HIRQ_N
is a bank B output: it stays Hi-Z where VIO_B lies outside both windows (R62). -/
def State.outputsNow (s : State) : Outputs :=
  let o := s.outputs
  { haltOutA := leave o.haltOutA s.haltOut .high
    haltOutB := leave o.haltOutB s.haltOut .high
    secOeN := leave o.secOeN s.secOe .high
    secChain := leadNext o.secChain s.roverDrives
    tram := leadNext o.tram s.roverDrives
    radio := leadNext o.radio s.radioDrives
    paEnA := if !s.radioDrives then .hiZ else if s.paOn false then .high else .low
    paEnB := if !s.radioDrives then .hiZ else if s.paOn true then .high else .low
    gpio := leadNext o.gpio (s.operating && decide (s.mode.current ≠ .service))
    hirqN := if !s.running || s.boot.vioB33.isNone then .hiZ else if s.host.irqStatus &&& s.host.irqEnable = 0 then .high else .low
    ppsOut := if !s.operating || s.zheoc.fenced then .hiZ else if s.clk.ppsOut then .high else .low
    zlHb := if s.pulsing then .low else .hiZ }

/-! ### What follows a command -/

/-- A fault bit of SYS_STATUS, [7:2], differs from what it was (R499). -/
def State.noteStatus (s old : State) : State :=
  if s.running && decide (bits s.sysStatus 2 6 ≠ bits old.sysStatus 2 6) then s.raiseIrq 8 else s

/-- A manager that enters HALT cancels a fleet activation with reason 0x05 (R582). -/
def State.noteHaltEntry (s old : State) : State :=
  if old.mode.current ≠ .halt ∧ s.mode.current = .halt ∧ s.isManager = true ∧ (s.gate.activation.map (·.fleet)) = some true then s.cancelActivation 5 else s

/-- A manager tells a worker that has just been linked of the fleet activation under way (R579). -/
def State.noteLinks (s old : State) : State :=
  if !s.isManager then s
  else match s.gate.activation with
    | none => s
    | some a =>
      if !a.fleet then s
      else (s.linkedBases.filter (fun b => !bit old.fleet.linked b)).foldl (fun s b => s.sendLink b (activationMsg a.news.code a.news.data)) s

/-- Once time is known, the time spent powered off counts as time without use (R347). -/
def State.ageUses (s : State) : State :=
  match s.radio.usesFrom with
  | none => s
  | some (t, n) =>
    if !s.clk.valid then s
    else
      let n' : Int := n
      let off : Int := max 0 ((s.time64 - t) * 2 - ((s.now : Int) - n'))
      s.updRadio (fun r => { r with usesFrom := none, uses := r.uses.map (fun u => if u.at_ ≤ n' then { u with at_ := u.at_ - off } else u) })

/-- Blocks of the running machine that go on by themselves: an image offered in BOOT is read, host copies fill freed queues, an
activation answer that has changed is sent, replies and remote requests go out. -/
def State.goOn (s : State) : State :=
  if !s.running then s
  else if s.mode.current = .boot then s.bootReads
  else
    let s := (s.drainCopies.sendAnswer.ageUses.sendReply (.baseLink .operator)).sendReply (.radio .operator)
    s.remotes.foldl (fun s r => if r.slot < 1000 then s.pumpRemote r.slot else s) s

/-- What follows a command, given the state before it. -/
def State.settle (s old : State) : State :=
  let s := ((s.goOn.noteHaltEntry old).noteLinks old).noteStatus old
  { s with outputs := s.outputsNow }

/-- The state after a command on s whose own effect is t: what follows at once; the queue of waiting commands is no command's to
change. -/
def State.settled (s t : State) : State := { t.settle s with pending := s.pending }

/-- The outcome of a command with the effect f. -/
def State.complete (s : State) (f : State → State) : Host.Outcome State Fault Refusal := .next (s.settled (f s))

/-- VHOLD one millisecond later (R83, R85 to R87): charged at 50 mA, or 20 mA, with the measured capacitance up to 30.0 V; before the
measurement ends its value is open within the bounds of its phase (log 148). -/
def State.chargeMs (s : State) : State :=
  let p := s.power
  match p.phase with
  | .idle | .fault => s
  | .armed =>
    if !p.charging then s
    else s.updPower (fun p => { p with vhold := min 30000 (p.vhold + (if p.reduced then 20 else 50) * 1000 / max 1 (s.regN Obj.vholdCapacitance)) })
  | .discharging | .charging | .measuring =>
    let (v, s) := s.drawBits 15
    s.updPower (fun p => { p with vhold := match p.phase with
      | .discharging => 9500 + v.toNat % (max 1 (p.vhold + 1 - 9500))
      | .charging => p.vhold + v.toNat % (10001 - p.vhold)
      | _ => p.vhold + v.toNat % (22001 - p.vhold) })

/-- The times of the supply that run through RESET grow by one edge of CK_TS. -/
def PowerState.ageOne (p : PowerState) : PowerState :=
  { p with chargeTime := if p.phase = .charging ∨ p.phase = .measuring then p.chargeTime + 8 else p.chargeTime
           isolatedFor := if p.isolated then p.isolatedFor + 8 else p.isolatedFor }

/-- No command waits: one edge of CK_TS passes. C grows by 8 ticks unless the module is in RESET (R379), compares are loaded and fire
(R383), a conversion set staged 64 cycles before takes effect (R381), and the outputs follow the time (log 8); after a loss of lock of a domain marked Never RESET begins instead (R36). -/
def State.idle (s : State) : State :=
  match s.mode.clockFail, s.mode.current with
  | some _, _ => { s.clockReset with pending := s.pending }
  | none, .reset => s.updPower PowerState.ageOne
  | none, _ =>
    let s : State := { s with clk := s.clk.tick }
    let s := if s.stagedDue then s.conversionSetApply else s
    let s := s.updPower PowerState.ageOne
    let s := (if s.now % ticksMs 1 < 8 then s.chargeMs else s).coresRun
    { s with outputs := s.outputsNow }

end Sys2Proof.Machine
end

