-- ==== Sys2Proof/Machine/ExecBaseband.lean ====
section
/-!
DEFINITION. Machine/ExecBaseband.lean: the meanings of the commands of the GNSS baseband: each its own effect, with what follows at once.
-/
namespace Sys2Proof.Machine

/-- BIAS_CLASSIFY (R112): Every 10 ms each antenna bias is classified open, short or normal, and switched off on a short. -/
def execBiasClassify (ant : Side) (milliamps : Nat) (atLimit : Bool) (gains : Int × Int) (s : State) : Host.Outcome State Fault Refusal :=
  s.complete (fun s => s.biasClassify ant milliamps atLimit gains)

/-- BIAS_RETRY (R112): 1 s after a short the antenna bias is retried. -/
def execBiasRetry (ant : Side) (s : State) : Host.Outcome State Fault Refusal :=
  s.complete (fun s => s.biasRetry ant)

/-- SIGNAL_ENABLE_WRITE (R118): A write of SignalEnable is checked and takes effect at the next tracking frame. -/
def execSignalEnableWrite (q : Sess) (v : Int) (s : State) : Host.Outcome State Fault Refusal :=
  s.complete (fun s => s.ownWrite q (fun s => s.signalEnableWrite q v))

/-- CODE_EPOCH_DUMP (R122): At a code epoch boundary a channel emits its dump record and applies any pending NCO set. -/
def execCodeEpochDump (channel tag : Nat) (samples : List (Int × Int)) (s : State) : Host.Outcome State Fault Refusal :=
  s.complete (fun s => s.codeEpochDump channel tag samples)

/-- TRACKING_FRAME (R124): Each 1 ms the tracking programs read the dumps and close the loops of every channel. -/
def execTrackingFrame (s : State) : Host.Outcome State Fault Refusal :=
  s.complete (fun s => s.trackingFrame)

/-- LOSS_OF_LOCK (R155): A channel coasts 1 s without interruption; it is released and re-acquisition queued. -/
def execLossOfLock (channel : Nat) (s : State) : Host.Outcome State Fault Refusal :=
  s.complete (fun s => s.lossOfLock channel)

/-- CHANNEL_RANKING (R120): Every 1 s channels are granted by rank, with up to 8 pre-emptions. -/
def execChannelRanking (view : List SatView) (s : State) : Host.Outcome State Fault Refusal :=
  s.complete (fun s => s.channelRanking view)

/-- ACQ_REQUEST (R130): A search request enters the acquisition queue, or is refused when the queue is full. -/
def execAcqRequest (request : AcqRequest) (s : State) : Host.Outcome State Fault Refusal :=
  s.complete (fun s => s.acqRequest request)

/-- ACQ_PASS_COMPLETE (R127): An acquisition pass ends and the next pass, peak search or verification follows. -/
def execAcqPassComplete (cells : List (List (Int × Int))) (s : State) : Host.Outcome State Fault Refusal :=
  s.complete (fun s => s.acqPassComplete cells)

/-- ACQ_VERIFY_COMPLETE (R131): The verification pass ends and the result record is written and a detection handed over. -/
def execAcqVerifyComplete (cells : List (List (Int × Int))) (tag : Nat) (s : State) : Host.Outcome State Fault Refusal :=
  s.complete (fun s => s.acqVerifyComplete cells tag)

/-- NAV_UNIT_COMPLETE (R137): A navigation delivery unit ends or is cut and its checked record is delivered. -/
def execNavUnitComplete (nav : NavUnit) (s : State) : Host.Outcome State Fault Refusal :=
  s.complete (fun s => s.navUnitComplete nav)

/-- NAV_HOST_OUTPUT_WRITE (R138): A write of NavHostOutput starts, stops or resumes the host copy of navigation records. -/
def execNavHostOutputWrite (q : Sess) (v : Int) (s : State) : Host.Outcome State Fault Refusal :=
  s.complete (fun s => s.ownWrite q (fun s => s.navHostOutputWrite q v))

/-- SNAPSHOT_TRIGGER (R142): A write of SnapshotTrigger starts a capture or is refused. -/
def execSnapshotTrigger (q : Sess) (v : Int) (s : State) : Host.Outcome State Fault Refusal :=
  s.complete (fun s => s.ownWrite q (fun s => s.snapshotTrigger q v))

/-- SNAPSHOT_INTERVAL (R145): At the start of each SnapshotInterval in SNAPSHOT a capture is triggered. -/
def execSnapshotInterval (s : State) : Host.Outcome State Fault Refusal :=
  s.complete (fun s => s.snapshotInterval)

/-- SNAPSHOT_CAPTURE_COMPLETE (R141): A capture ends and its records are written to their slots. -/
def execSnapshotCaptureComplete (samples : List (List (Int × Int))) (s : State) : Host.Outcome State Fault Refusal :=
  s.complete (fun s => s.snapshotCaptureComplete samples)

/-- SNAPSHOT_PROCESSING_COMPLETE (R143): Deferred processing of a capture ends with a fix reported valid or invalid and its slot freed. -/
def execSnapshotProcessingComplete (fix : SnapshotFix) (s : State) : Host.Outcome State Fault Refusal :=
  s.complete (fun s => s.snapshotProcessingComplete fix)

/-- SNAPSHOT_DATA_READ (R142): A capture read to its last byte through SnapshotData frees its slot. -/
def execSnapshotDataRead (q : Sess) (s : State) : Host.Outcome State Fault Refusal :=
  s.complete (fun s => s.ownRequest q (fun s => s.snapshotDataRead q))

/-- SNAPSHOT_RELEASE (R142): A write of SnapshotRelease frees the oldest capture held for export. -/
def execSnapshotRelease (q : Sess) (v : Int) (s : State) : Host.Outcome State Fault Refusal :=
  s.complete (fun s => s.ownWrite q (fun s => s.snapshotRelease q v))

/-- SNAPSHOT_WAKE_TIME_WRITE (R145): A write of SnapshotWakeTime arms, disarms or schedules the wake. -/
def execSnapshotWakeTimeWrite (q : Sess) (v : Int) (s : State) : Host.Outcome State Fault Refusal :=
  s.complete (fun s => s.ownWrite q (fun s => s.snapshotWakeTimeWrite q v))

end Sys2Proof.Machine
end

