-- ==== Sys2Proof/Machine/ExecCanBus.lean ====
section
/-!
DEFINITION. Machine/ExecCanBus.lean: the meanings of the commands of CAN0 and CAN1: each its own effect, with what follows at once.
-/
namespace Sys2Proof.Machine

/-- CAN_BUS_OFF (R425): A CAN controller reaches bus-off and recovers automatically or waits. -/
def execCanBusOff (ctl : Nat) (s : State) : Host.Outcome State Fault Refusal :=
  s.complete (fun s => s.canBusOff ctl)

/-- CAN_RECOVER (R425): A write of CanRecover starts the bus-off recovery sequence. -/
def execCanRecover (q : Sess) (v : Int) (s : State) : Host.Outcome State Fault Refusal :=
  s.complete (fun s => s.ownWrite q (fun s => s.canRecover q v))

/-- CAN_RECOVERY_COMPLETE (R425): 128 occurrences of 11 recessive bits end the recovery. -/
def execCanRecoveryComplete (ctl : Nat) (s : State) : Host.Outcome State Fault Refusal :=
  s.complete (fun s => s.canRecoveryComplete ctl)

/-- CAN_FRAME_RX (R425): A CAN frame is received into the FIFO, or lost when the FIFO is full. -/
def execCanFrameRx (ctl : Nat) (f : CanFrame) (drained : Nat) (s : State) : Host.Outcome State Fault Refusal :=
  s.complete (fun s => s.canFrameRx ctl f drained)

/-- SDO_REQUEST (R426): An SDO request on CAN0 is served as a dictionary request. -/
def execSdoRequest (write : Option (List Byte)) (addr : Nat) (s : State) : Host.Outcome State Fault Refusal :=
  s.complete (fun s => s.sdoRequest write addr)

/-- RPDO_RX (R519): An RPDO is applied as a CAN0 write, or dropped after 200 ms. -/
def execRpdoRx (n : Nat) (data : List Byte) (busy : Bool) (s : State) : Host.Outcome State Fault Refusal :=
  s.complete (fun s => s.asCommand (fun s => s.rpdoRx n data busy))

/-- TPDO_TX (R519): A TPDO is sent with values read at its transmission. -/
def execTpdoTx (n : Nat) (s : State) : Host.Outcome State Fault Refusal :=
  s.complete (fun s => s.tpdoTx n)

/-- SYNC_RX (R426): A SYNC message is consumed for synchronous PDOs. -/
def execSyncRx (s : State) : Host.Outcome State Fault Refusal :=
  s.complete (fun s => s.syncRx)

/-- CANOPEN_HEARTBEAT_TX (R426): The heartbeat producer sends at its period. -/
def execCanopenHeartbeatTx (s : State) : Host.Outcome State Fault Refusal :=
  s.complete (fun s => s.canopenHeartbeatTx)

/-- HEARTBEAT_CONSUMER_TIMEOUT (R426): A consumed heartbeat is not received within its time. -/
def execHeartbeatConsumerTimeout (entry : Nat) (s : State) : Host.Outcome State Fault Refusal :=
  s.complete (fun s => s.heartbeatConsumerTimeout entry)

/-- NMT_RESET_NODE (R428): NMT Reset Node resets the communication area and NMT state only. -/
def execNmtResetNode (s : State) : Host.Outcome State Fault Refusal :=
  s.complete (fun s => s.nmtResetNode)

/-- NMT_RESET_COMMUNICATION (R428): NMT Reset Communication resets the communication area only. -/
def execNmtResetCommunication (s : State) : Host.Outcome State Fault Refusal :=
  s.complete (fun s => s.nmtResetCommunication)

/-- NMT_STOP (R428): NMT Stopped stops PDO and SDO traffic without changing the mode. -/
def execNmtStop (s : State) : Host.Outcome State Fault Refusal :=
  s.complete (fun s => s.nmtStop)

/-- NMT_START (R426): NMT Start puts the node in the operational state. -/
def execNmtStart (s : State) : Host.Outcome State Fault Refusal :=
  s.complete (fun s => s.nmtStart)

/-- NMT_PRE_OPERATIONAL (R426): NMT Enter Pre-Operational puts the node in the pre-operational state. -/
def execNmtPreOperational (s : State) : Host.Outcome State Fault Refusal :=
  s.complete (fun s => s.nmtPreOperational)

/-- ADDRESS_CLAIM (R429): The ISOBUS address claim runs, including after bus-off. -/
def execAddressClaim (got : Option Nat) (s : State) : Host.Outcome State Fault Refusal :=
  s.complete (fun s => s.addressClaim got)

/-- SECTION_SETPOINT_RX (R430): A Setpoint Condensed Work State acts on sections 0–255 as forced OFF or automatic. -/
def execSectionSetpointRx (ddi value : Nat) (s : State) : Host.Outcome State Fault Refusal :=
  s.complete (fun s => s.sectionSetpointRx ddi value)

/-- RATE_SETPOINT_RX (R430): A setpoint rate DDI writes ProductRate. -/
def execRateSetpointRx (ddi product value : Nat) (s : State) : Host.Outcome State Fault Refusal :=
  s.complete (fun s => s.rateSetpointRx ddi product value)

/-- WORK_STATE_TX (R430): Actual Condensed Work State is sent on change and at least every 1 s. -/
def execWorkStateTx (s : State) : Host.Outcome State Fault Refusal :=
  s.complete (fun s => s.workStateTx)

/-- ACTUAL_RATE_TX (R430): Every 1 s the actual rate is sent. -/
def execActualRateTx (s : State) : Host.Outcome State Fault Refusal :=
  s.complete (fun s => s.actualRateTx)

/-- TC_STATUS_TIMEOUT (R430): No TC status for 6 s disconnects the client and sections 0–255 act as setpoint OFF. -/
def execTcStatusTimeout (s : State) : Host.Outcome State Fault Refusal :=
  s.complete (fun s => s.tcStatusTimeout)

/-- DD_UPLOAD (R430): The device description is uploaded again when a section record changes. -/
def execDdUpload (s : State) : Host.Outcome State Fault Refusal :=
  s.complete (fun s => s.ddUpload)

/-- POSITION_PGN_TX (R431): An enabled position PGN is sent at its rate from the newest pose. -/
def execPositionPgnTx (pgn : Nat) (s : State) : Host.Outcome State Fault Refusal :=
  s.complete (fun s => s.positionPgnTx pgn)

/-- TC_STATUS_RX (R430): A TC status message arrives on CAN1, restarting the 6 s supervision and letting a disconnected task controller client reconnect. -/
def execTcStatusRx (s : State) : Host.Outcome State Fault Refusal :=
  s.complete (fun s => s.tcStatusRx)

/-- CAN_ERROR_PASSIVE (R426): A CAN controller enters error passive and CAN0 sends EMCY 0x8120. -/
def execCanErrorPassive (ctl tec : Nat) (s : State) : Host.Outcome State Fault Refusal :=
  s.complete (fun s => s.canErrorPassive ctl tec)

end Sys2Proof.Machine
end

