-- ==== Sys2Proof/Machine/ExecClocktower.lean ====
section
/-!
DEFINITION. Machine/ExecClocktower.lean: the meanings of the commands of time: each its own effect, with what follows at once.
-/
namespace Sys2Proof.Machine

/-- TIME_SOURCE_QUALIFIED (R389): A time source qualifies and, if better, replaces the source in use, making the initial set or a slew or step. -/
def execTimeSourceQualified (src : TimeSource) (solutions : List ClockSolution) (s : State) : Host.Outcome State Fault Refusal :=
  s.complete (fun s => s.timeSourceQualified src solutions)

/-- TIME_SOURCE_LOST (R390): The time source in use is lost and the device moves to the next source or to HOLDOVER. -/
def execTimeSourceLost (src : TimeSource) (s : State) : Host.Outcome State Fault Refusal :=
  s.complete (fun s => s.timeSourceLost src)

/-- DISCIPLINE_MEASURE (R393): Once per second the error against the source is measured and RATE steered, slewed or a step decided. -/
def execDisciplineMeasure (solution : Option ClockSolution) (s : State) : Host.Outcome State Fault Refusal :=
  s.complete (fun s => s.disciplineMeasure solution)

/-- TIME_STEP (R397): At the step instant S reported time passes from S to S + D. -/
def execTimeStep (s : State) : Host.Outcome State Fault Refusal :=
  s.complete (fun s => s.timeStep)

/-- CONVERSION_SET_APPLY (R381): A staged conversion set takes effect at a CK_TS boundary and loaded compares are reconverted. -/
def execConversionSetApply (s : State) : Host.Outcome State Fault Refusal :=
  s.complete (fun s => s.asCommand (fun s => s.conversionSetApply))

/-- COMPARE_LOAD (R384): A held compare target comes within 2³⁹ ticks and is loaded into a unit. -/
def execCompareLoad (user : Nat) (target : Int) (s : State) : Host.Outcome State Fault Refusal :=
  s.complete (fun s => s.compareLoad user target)

/-- CLOCK_OFFSET_READ (R382): A read of ClockOffset latches OFFSET, REF and RATE for the session. -/
def execClockOffsetRead (q : Sess) (s : State) : Host.Outcome State Fault Refusal :=
  s.complete (fun s => s.ownRequest q (fun s => s.clockOffsetRead q))

/-- PPS_OUT_RISE (R401): PPS_OUT rises at each whole second plus PpsOutOffset. -/
def execPpsOutRise (s : State) : Host.Outcome State Fault Refusal :=
  s.complete (fun s => s.ppsRise)

/-- PPS_OUT_FALL (R401): PPS_OUT falls after PpsOutWidth. -/
def execPpsOutFall (s : State) : Host.Outcome State Fault Refusal :=
  s.complete (fun s => s.ppsFall)

/-- EVENT_CAPTURE (R402): A selected edge on EVT_INn or PPS_IN is time-stamped and queued, or lost when the queue is full. -/
def execEventCapture (input : Nat) (falling : Bool) (tick : Nat) (s : State) : Host.Outcome State Fault Refusal :=
  s.complete (fun s => s.eventCapture input falling tick)

/-- PPS_IN_TIMEOUT (R404): No rising edge of PPS_IN for 1.5 s clears PPS_IN_PRESENT. -/
def execPpsInTimeout (s : State) : Host.Outcome State Fault Refusal :=
  s.complete (fun s => s.ppsInTimeout)

/-- EVT_NEXT (R403): A read of EvtNext returns and removes the oldest capture record. -/
def execEvtNext (q : Sess) (s : State) : Host.Outcome State Fault Refusal :=
  s.complete (fun s => s.ownRequest q (fun s => s.evtNextRead q))

end Sys2Proof.Machine
end

