-- ==== Sys2Proof/Machine/ExecControl.lean ====
section
/-!
DEFINITION. Machine/ExecControl.lean: the meanings of the commands of the control engine: each its own effect, with what follows at once.
-/
namespace Sys2Proof.Machine

/-- PROGRAM_FRAME (R190): A Boulevard program starts at its frame start and runs its fixed count. -/
def execProgramFrame (program wait : Nat) (s : State) : Host.Outcome State Fault Refusal :=
  s.complete (fun s => s.programFrame program wait)

/-- OUTPUT_PHASE (R216): At the output phase the program's outputs and state commit together, or the frame is abandoned as an overrun. -/
def execOutputPhase (program corrected : Nat) (uncorrectable : Bool) (s : State) : Host.Outcome State Fault Refusal :=
  s.complete (fun s => s.outputPhase program corrected uncorrectable)

/-- BLV_SCRUB (R185): Every 10 s the background scrub reads every word of the Boulevard memories. -/
def execBlvScrub (corrected : Nat) (badGroups : List Nat) (s : State) : Host.Outcome State Fault Refusal :=
  s.complete (fun s => s.blvScrub corrected badGroups)

/-- BANK_COPY (R204): A write of BankCopy copies the active coefficient bank over the inactive one. -/
def execBankCopy (q : Sess) (v : Int) (s : State) : Host.Outcome State Fault Refusal :=
  s.complete (fun s => s.ownWrite q (fun s => s.bankCopy q v))

/-- COEF_INACTIVE_WRITE (R204): A write of CoefInactive changes an integrator-partition entry of the inactive bank, or is refused. -/
def execCoefInactiveWrite (q : Sess) (v : Int) (s : State) : Host.Outcome State Fault Refusal :=
  s.complete (fun s => s.ownWrite q (fun s => s.coefInactiveWrite q v))

/-- BANK_SWAP_REQUEST (R205): A write of BankSwapRequest is accepted or refused. -/
def execBankSwapRequest (q : Sess) (v : Int) (s : State) : Host.Outcome State Fault Refusal :=
  s.complete (fun s => s.ownWrite q (fun s => s.bankSwapRequest q v))

/-- BANK_SWAP (R205): At the first whole 100 ms after acceptance the banks exchange and the new partition is stored. -/
def execBankSwap (s : State) : Host.Outcome State Fault Refusal :=
  s.complete (fun s => s.bankSwap)

/-- GROUP_ENABLE (R220): GroupEnable 0x01 starts a DISABLED group or cancels a stopping ramp. -/
def execGroupEnable (q : Sess) (s : State) : Host.Outcome State Fault Refusal :=
  s.complete (fun s => s.ownWrite q (fun s => s.groupEnable q))

/-- GROUP_DISABLE (R220): GroupEnable 0x00 starts STOPPING or disables a suspended group. -/
def execGroupDisable (q : Sess) (s : State) : Host.Outcome State Fault Refusal :=
  s.complete (fun s => s.ownWrite q (fun s => s.groupDisable q))

/-- GROUP_RESUME (R220): GroupResume on a SUSPENDED group leads to STARTING at the next frame. -/
def execGroupResume (q : Sess) (v : Int) (s : State) : Host.Outcome State Fault Refusal :=
  s.complete (fun s => s.ownWrite q (fun s => s.groupResume q v))

end Sys2Proof.Machine
end

