-- ==== Sys2Proof/Machine/ExecCrier.lean ====
section
/-!
DEFINITION. Machine/ExecCrier.lean: the meanings of the commands of the fleet stop: each its own effect, with what follows at once.
-/
namespace Sys2Proof.Machine

/-- STOP_TRIGGER (R356): A qualified rising edge of STOP_A or STOP_B drives the stop outputs high, enters HALT and at a base starts a stop event. -/
def execStopTrigger (channel : StopChannel) (path : StopPath) (s : State) : Host.Outcome State Fault Refusal :=
  s.complete (fun s => s.stopTrigger channel path)

/-- STOP_DEASSERT (R354): A stop channel is qualified deasserted on both paths. -/
def execStopDeassert (channel : StopChannel) (path : StopPath) (s : State) : Host.Outcome State Fault Refusal :=
  s.complete (fun s => s.stopDeassert channel path)

/-- STOP_DISCREPANCY_TIMEOUT (R355): The two stop channels differ for longer than StopDiscrepancyTime and STOP_DISCREPANCY latches. -/
def execStopDiscrepancyTimeout (s : State) : Host.Outcome State Fault Refusal :=
  s.complete (fun s => s.stopDiscrepancyTimeout)

/-- STOP_COPY (R358): 1 ms after a stop copy ends, the next copy of the stop event is sent, or withheld when the reserve cannot hold it. -/
def execStopCopy (s : State) : Host.Outcome State Fault Refusal :=
  s.complete (fun s => s.stopCopy)

/-- BEACON_RESUME (R372): The reserve of every sub-band holds 8 stop frames again and the base resumes beaconing. -/
def execBeaconResume (s : State) : Host.Outcome State Fault Refusal :=
  s.complete (fun s => s.beaconResume)

/-- STOP_HEADER_CHECK (R365): A received stop frame passes its header check and the rover or relay drives its stop outputs and enters HALT. -/
def execStopHeaderCheck (sync : Nat) (frame : List Byte) (s : State) : Host.Outcome State Fault Refusal :=
  s.complete (fun s => s.asInput (fun s => s.stopHeaderCheck sync frame))

/-- STOP_FRAME_VERIFY (R369): The whole stop frame has arrived and its MIC, CRC and replay test are judged. -/
def execStopFrameVerify (frame : List Byte) (s : State) : Host.Outcome State Fault Refusal :=
  s.complete (fun s => s.asInput (fun s => s.stopFrameVerify frame))

/-- RELEASE_REQUEST (R374): A write of 0x005A to ReleaseRequest at Service level is an authenticated release of the module. -/
def execReleaseRequest (q : Sess) (v : Int) (s : State) : Host.Outcome State Fault Refusal :=
  s.complete (fun s => s.ownWrite q (fun s => s.releaseRequest q v))

/-- RELEASE_FRAME (R376): A rover receives a release frame, checks it and leaves HALT when the conditions hold. -/
def execReleaseFrame (sync : Nat) (frame : List Byte) (s : State) : Host.Outcome State Fault Refusal :=
  s.complete (fun s => s.asInput (fun s => s.releaseFrame sync frame))

/-- RELEASE_MACHINES (R375): A write to ReleaseMachines makes the base send release frames to the named halted slots. -/
def execReleaseMachines (q : Sess) (v : Int) (s : State) : Host.Outcome State Fault Refusal :=
  s.complete (fun s => s.ownWrite q (fun s => s.releaseMachines q v))

/-- BASE_LINK_STOP (R311): A worker receives a stop from the manager over the base link and enters HALT with HaltCause 0x05. -/
def execBaseLinkStop (origin : Nat) (s : State) : Host.Outcome State Fault Refusal :=
  s.complete (fun s => s.asInput (fun s => s.baseLinkStop origin))

/-- BASE_LINK_STOP_REQUEST (R311): The manager receives a worker's stop request and halts the hierarchy or only the worker per StopScope. -/
def execBaseLinkStopRequest (base : Nat) (s : State) : Host.Outcome State Fault Refusal :=
  s.complete (fun s => s.asInput (fun s => s.baseLinkStopRequest base))

/-- BASE_LINK_RELEASE (R377): A worker receives an authenticated release from the manager over the base link. -/
def execBaseLinkRelease (head : LinkHead) (s : State) : Host.Outcome State Fault Refusal :=
  s.complete (fun s => s.asInput (fun s => s.fromLink head State.baseLinkRelease))

/-- LOST_BASE (R343): A connected rover misses three consecutive beacons and enters HALT with HaltCause 0x03. -/
def execLostBase (s : State) : Host.Outcome State Fault Refusal :=
  s.complete (fun s => s.lostBase)

/-- SEPARATION_CHECK (R305): Every 100 ms the allotment engine classifies every machine pair and alerts or stops. -/
def execSeparationCheck (s : State) : Host.Outcome State Fault Refusal :=
  s.complete (fun s => s.separationCheck)

end Sys2Proof.Machine
end

