-- ==== Sys2Proof/Machine/ExecDictionary.lean ====
section
/-!
DEFINITION. Machine/ExecDictionary.lean: the meanings of the commands of the dictionary and its sessions: each its own effect, with what follows at once.
-/
namespace Sys2Proof.Machine

/-- SECTION_RECORD_WRITE (R227): A write to a section record field is checked against the chain and the horizon. -/
def execSectionRecordWrite (q : Sess) (which : SectionField) (v : Int) (s : State) : Host.Outcome State Fault Refusal :=
  s.complete (fun s => s.ownWrite q (fun s => s.recordWrite q which v))

/-- DICT_READ (R513): OP 0x01 read of an object, on the mailbox or a message transport. -/
def execDictRead (q : Sess) (tag base addr : Nat) (s : State) : Host.Outcome State Fault Refusal :=
  s.complete (fun s => if s.zheoc.deposed then s else s.dictRequest q { op := 1, tag := tag, addr := addr, more := false, base := base, offset := 0, data := [], since := s.now })

/-- DICT_WRITE (R508): OP 0x02 write of an object that has no row of its own, applied per its access class. -/
def execDictWrite (q : Sess) (tag base addr : Nat) (data : List Byte) (s : State) : Host.Outcome State Fault Refusal :=
  s.complete (fun s => if s.zheoc.deposed then s else s.dictRequest q { op := 2, tag := tag, addr := addr, more := false, base := base, offset := 0, data := data, since := s.now })

/-- DICT_READ_SEGMENT (R515): OP 0x03 read segment returns bytes of the session's snapshot of a large object. -/
def execDictReadSegment (q : Sess) (tag base addr offset : Nat) (s : State) : Host.Outcome State Fault Refusal :=
  s.complete (fun s => if s.zheoc.deposed then s else s.dictRequest q { op := 3, tag := tag, addr := addr, more := false, base := base, offset := offset, data := [], since := s.now })

/-- DICT_WRITE_SEGMENT (R515): OP 0x04 write segment appends to the session's partial write and applies it on the last segment. -/
def execDictWriteSegment (q : Sess) (tag base addr offset : Nat) (data : List Byte) (more : Bool) (s : State) : Host.Outcome State Fault Refusal :=
  s.complete (fun s => if s.zheoc.deposed then s else s.dictRequest q { op := 4, tag := tag, addr := addr, more := more, base := base, offset := offset, data := data, since := s.now })

/-- DICT_CANCEL (R501): OP 0x05 cancels the session's busy or oldest outstanding request. -/
def execDictCancel (q : Sess) (s : State) : Host.Outcome State Fault Refusal :=
  s.complete (fun s => s.dictCancel q)

/-- DICT_BUSY_TIMEOUT (R517): A request not begun within 200 ms is answered busy and nothing applied. -/
def execDictBusyTimeout (q : Sess) (s : State) : Host.Outcome State Fault Refusal :=
  s.complete (fun s => s.dictBusyTimeout q)

/-- DICT_REQUEST_APPLY (R517): The management cores begin and complete a waiting dictionary request and answer it. -/
def execDictRequestApply (q : Sess) (s : State) : Host.Outcome State Fault Refusal :=
  s.complete (fun s => if s.zheoc.deposed then s else (s.noteWrite q).dictRequestApply q)

/-- ACCESS_CHALLENGE (R511): A read of AccessChallenge returns a new challenge for the session. -/
def execAccessChallenge (q : Sess) (random : List Byte) (s : State) : Host.Outcome State Fault Refusal :=
  s.complete (fun s => s.ownWrite q (fun s => s.accessChallenge q random))

/-- ACCESS_RESPONSE (R511): A write of AccessResponse raises the session level or counts a failure. -/
def execAccessResponse (q : Sess) (data : List Byte) (s : State) : Host.Outcome State Fault Refusal :=
  s.complete (fun s => s.ownWrite q (fun s => s.accessResponse q data))

/-- ACCESS_DROP (R512): A write of AccessDrop returns the session to its default level. -/
def execAccessDrop (q : Sess) (v : Int) (s : State) : Host.Outcome State Fault Refusal :=
  s.complete (fun s => s.ownWrite q (fun s => s.accessDrop q v))

/-- ACCESS_LOCKOUT_END (R512): 60 s after three failures the session may answer a challenge again. -/
def execAccessLockoutEnd (q : Sess) (s : State) : Host.Outcome State Fault Refusal :=
  s.complete (fun s => s.accessLockoutEnd q)

/-- SESSION_TIMEOUT (R510): A session without a request for SessionTimeout falls back to its default level. -/
def execSessionTimeout (q : Sess) (s : State) : Host.Outcome State Fault Refusal :=
  s.complete (fun s => s.sessionTimeout q)

/-- TCP_CONNECT (R524): A TCP connection to the dictionary port starts a session, or a fifth is refused. -/
def execTcpConnect (port tcp : Nat) (s : State) : Host.Outcome State Fault Refusal :=
  s.complete (fun s => s.asCommand (fun s => s.tcpConnect port tcp))

/-- TCP_CLOSE (R525): A TCP connection closes and its outstanding requests are dropped. -/
def execTcpClose (n : Fin 4) (s : State) : Host.Outcome State Fault Refusal :=
  s.complete (fun s => s.asCommand (fun s => s.tcpClose n))

/-- TUNNEL_REQUEST_RX (R528): A rover receives a dictionary tunnel request and answers in contention time. -/
def execTunnelRequestRx (origin : AccessLevel) (sec : Nat) (frames : List (List Byte)) (s : State) : Host.Outcome State Fault Refusal :=
  s.complete (fun s => s.asInput (fun s => s.tunnelRequestRx origin sec frames))

/-- TUNNEL_RESPONSE_RX (R528): A base receives a rover's tunnel answer and passes it to the requester. -/
def execTunnelResponseRx (frames : List (List Byte)) (s : State) : Host.Outcome State Fault Refusal :=
  s.complete (fun s => s.asInput (fun s => s.tunnelResponseRx frames))

/-- REMOTE_TIMEOUT (R528): A remote request is not answered within RemoteTimeout and 0x0504_0000 is returned. -/
def execRemoteTimeout (slot : Nat) (s : State) : Host.Outcome State Fault Refusal :=
  s.complete (fun s => s.remoteTimeout slot)

/-- BASE_LINK_DICT_RESPONSE_RX (R524): The manager receives a worker's response to a forwarded dictionary request and passes it to the originating session. -/
def execBaseLinkDictResponseRx (head : LinkHead) (data : List Byte) (s : State) : Host.Outcome State Fault Refusal :=
  s.complete (fun s => s.asInput (fun s => s.fromLink head (fun s => s.baseLinkDictResponseRx head.peer data)))

end Sys2Proof.Machine
end

