-- ==== Sys2Proof/Machine/ExecEthernet.lean ====
section
/-!
DEFINITION. Machine/ExecEthernet.lean: the meanings of the commands of Ethernet: each its own effect, with what follows at once.
-/
namespace Sys2Proof.Machine

/-- ETH_FRAME_RX (R410): A received Ethernet frame is checked and passed on, or discarded. -/
def execEthFrameRx (port : Nat) (frame : List Byte) (drained : Nat) (s : State) : Host.Outcome State Fault Refusal :=
  s.complete (fun s => s.ethFrameRx port frame drained)

/-- ETH_FRAME_TX (R418): A queued frame starts on the wire when its gate span can hold it, or is discarded as oversize. -/
def execEthFrameTx (port : Nat) (offered : List (Bool × Nat)) (s : State) : Host.Outcome State Fault Refusal :=
  s.complete (fun s => s.ethFrameTx port offered)

/-- ETH_LINK_CHANGE (R408): A port's link comes up or goes down, and a half-duplex link is held down. -/
def execEthLinkChange (port : Nat) (answers up fullDuplex : Bool) (speed : Nat) (s : State) : Host.Outcome State Fault Refusal :=
  s.complete (fun s => s.ethLinkChange port answers up fullDuplex speed)

/-- PAUSE_RX (R412): A received PAUSE frame starts, replaces or ends a pause, or is only counted on the base link. -/
def execPauseRx (port : Nat) (frame : List Byte) (s : State) : Host.Outcome State Fault Refusal :=
  s.complete (fun s => s.pauseRx port frame)

/-- PAUSE_END (R412): A pause time expires and transmission resumes under the open gates. -/
def execPauseEnd (port : Nat) (s : State) : Host.Outcome State Fault Refusal :=
  s.complete (fun s => s.pauseEnd port)

/-- PAUSE_TX (R413): The receive buffer passes 75 % or falls below 50 % and a PAUSE frame is sent. -/
def execPauseTx (port drained : Nat) (s : State) : Host.Outcome State Fault Refusal :=
  s.complete (fun s => s.pauseTx port drained)

/-- PAUSE_REPEAT (R413): Half the pause time expires with the buffer above 50 % and PAUSE is repeated. -/
def execPauseRepeat (port : Nat) (s : State) : Host.Outcome State Fault Refusal :=
  s.complete (fun s => s.pauseRepeat port)

/-- ETH_DISABLE (R414): EthEnable 0x00 sets DISABLING and lets frames in flight complete. -/
def execEthDisable (q : Sess) (s : State) : Host.Outcome State Fault Refusal :=
  s.complete (fun s => s.ownWrite q (fun s => s.ethDisable q))

/-- ETH_DISABLE_COMPLETE (R414): Frames in flight complete; the port flushes its queues and powers down its PHY. -/
def execEthDisableComplete (port : Nat) (s : State) : Host.Outcome State Fault Refusal :=
  s.complete (fun s => s.ethDisableComplete port)

/-- ETH_ENABLE (R414): EthEnable 0x01 cancels a disable or starts a full bring-up. -/
def execEthEnable (q : Sess) (s : State) : Host.Outcome State Fault Refusal :=
  s.complete (fun s => s.ownWrite q (fun s => s.ethEnable q))

/-- WAKE_MATCH (R416): A frame matches a wake filter and in SNAPSHOT returns the module to ROVER. -/
def execWakeMatch (port : Nat) (frame : List Byte) (s : State) : Host.Outcome State Fault Refusal :=
  s.complete (fun s => s.wakeMatch port frame)

/-- GATE_COMMIT (R419): A write of GateCommit checks the gate control list and schedules it. -/
def execGateCommit (q : Sess) (v : Int) (s : State) : Host.Outcome State Fault Refusal :=
  s.complete (fun s => s.ownWrite q (fun s => s.gateCommit q v))

/-- GATE_LIST_START (R419): A committed gate list takes effect at its start instant. -/
def execGateListStart (port : Nat) (s : State) : Host.Outcome State Fault Refusal :=
  s.complete (fun s => s.gateListStart port)

/-- PTP_MESSAGE_RX (R421): A PTP message is received and time-stamped for the PTP state machine. -/
def execPtpMessageRx (port : Nat) (m : PtpMessage) (s : State) : Host.Outcome State Fault Refusal :=
  s.complete (fun s => s.ptpMessageRx port m)

/-- PTP_MESSAGE_TX (R421): A PTP Sync, Announce or delay message is sent at its interval. -/
def execPtpMessageTx (port : Nat) (k : PtpKind) (s : State) : Host.Outcome State Fault Refusal :=
  s.complete (fun s => s.ptpMessageTx port k)

/-- PTP_ANNOUNCE_TIMEOUT (R423): The announce receipt timeout expires and the PTP source is lost. -/
def execPtpAnnounceTimeout (port : Nat) (s : State) : Host.Outcome State Fault Refusal :=
  s.complete (fun s => s.ptpAnnounceTimeout port)

end Sys2Proof.Machine
end

