-- ==== Sys2Proof/Machine/ExecHost.lean ====
section
/-!
DEFINITION. Machine/ExecHost.lean: the meanings of the commands of the host port: each its own effect, with what follows at once.
-/
namespace Sys2Proof.Machine

/-- HOST_READ (R495): READ command returns COUNT words of host registers with a CRC-16 trailer. -/
def execHostRead (header : List Byte) (s : State) : Host.Outcome State Fault Refusal :=
  s.complete (fun s => s.hostRead header)

/-- HOST_WRITE (R496): WRITE command applies COUNT words to host registers once the host CRC passes. -/
def execHostWrite (header : List Byte) (data : List Word32) (crc : BitVec 16) (s : State) : Host.Outcome State Fault Refusal :=
  s.complete (fun s => s.hostWrite header data crc)

/-- POP (R497): POP command takes words of one packet from a host-readable queue with a status word. -/
def execPop (header : List Byte) (cut : Option Nat) (s : State) : Host.Outcome State Fault Refusal :=
  s.complete (fun s => s.pop header cut)

/-- PUSH (R496): PUSH command writes COUNT words to a host-writable queue. -/
def execPush (header : List Byte) (data : List Word32) (crc : BitVec 16) (s : State) : Host.Outcome State Fault Refusal :=
  s.complete (fun s => s.asCommand (fun s => s.push header data crc))

/-- PUSH_END (R495): PUSH_END command writes COUNT words and marks the last as the packet end. -/
def execPushEnd (header : List Byte) (data : List Word32) (crc : BitVec 16) (s : State) : Host.Outcome State Fault Refusal :=
  s.complete (fun s => s.asCommand (fun s => s.pushEnd header data crc))

/-- HCS_N_RISE (R496): HCS_N rises and ends the transaction, early or not, applying nothing of an unfinished write. -/
def execHcsNRise (unfinished : Bool) (s : State) : Host.Outcome State Fault Refusal :=
  s.complete (fun s => s.hcsNRise unfinished)

/-- IRQ_STATUS_WRITE (R499): A write of IRQ_STATUS clears the flags written with 1 and updates HIRQ_N. -/
def execIrqStatusWrite (clear raised : BitVec 9) (s : State) : Host.Outcome State Fault Refusal :=
  s.complete (fun s => s.irqStatusWrite clear raised)

/-- QUEUE_PACKET_ABORT (R489): An open LENGTH-SLOT packet is aborted and made visible as a 0xFFFF_FFFF slot. -/
def execQueuePacketAbort (queue : Nat) (s : State) : Host.Outcome State Fault Refusal :=
  s.complete (fun s => s.queuePacketAbort queue)

end Sys2Proof.Machine
end

