-- ==== Sys2Proof/Machine/ExecMap.lean ====
section
/-!
DEFINITION. Machine/ExecMap.lean: the meanings of the commands of the coverage map: each its own effect, with what follows at once.
-/
namespace Sys2Proof.Machine

/-- SEGMENT_CLOSE (R265): A rover closes a segment at a 200 ms boundary, run end or turn, journals it and paints its cache. -/
def execSegmentClose (s : State) : Host.Outcome State Fault Refusal :=
  s.complete (fun s => s.segmentClose)

/-- TILE_CACHE_UPDATE (R274): The rover requests tiles within CacheRadius and drops far tiles. -/
def execTileCacheUpdate (s : State) : Host.Outcome State Fault Refusal :=
  s.complete (fun s => s.tileCacheUpdate)

/-- SEGMENT_RX (R269): The base judges a segment in SEQ order, journals and acknowledges it or repeats its last acknowledgement. -/
def execSegmentRx (source : Uplink) (s : State) : Host.Outcome State Fault Refusal :=
  s.complete (fun s => s.asInput (fun s =>
    match s.uplink 1 source with
    | (s, none) => s
    | (s, some r) => s.segmentRx r.1 r.2))

/-- SEGMENT_PAINT (R271): The map engine paints the next accepted segment wholly into the map. -/
def execSegmentPaint (s : State) : Host.Outcome State Fault Refusal :=
  s.complete (fun s => s.segmentPaint)

/-- PAINTED_SEGMENT_RX (R273): A worker receives a painted segment from the manager and paints its replica. -/
def execPaintedSegmentRx (head : LinkHead) (mseq machine : Nat) (record : List Byte) (s : State) : Host.Outcome State Fault Refusal :=
  s.complete (fun s => s.asInput (fun s => s.fromLink head (fun s => s.paintedSegmentRx mseq machine record)))

/-- MANAGER_SEGMENT_ACK_RX (R273): A worker receives the manager's acknowledgement and acknowledges the segment to its rover. -/
def execManagerSegmentAckRx (head : LinkHead) (slot seq : Nat) (s : State) : Host.Outcome State Fault Refusal :=
  s.complete (fun s => s.asInput (fun s => s.fromLink head (fun s => s.managerSegmentAckRx slot seq)))

/-- TILE_SEND (R275): The base sends waiting tiles within the radio budget. -/
def execTileSend (slot : Nat) (s : State) : Host.Outcome State Fault Refusal :=
  s.complete (fun s => s.tileSend slot)

/-- CHECKPOINT_START (R280): A checkpoint starts at its interval or segment count and fixes the mark M. -/
def execCheckpointStart (s : State) : Host.Outcome State Fault Refusal :=
  s.complete (fun s => s.checkpointStart)

/-- CHECKPOINT_COMPLETE (R280): The checkpoint record's valid mark is written and the journal entry made. -/
def execCheckpointComplete (s : State) : Host.Outcome State Fault Refusal :=
  s.complete (fun s => s.checkpointComplete)

/-- MAP_RESTORE_COMPLETE (R282): The map restore and log replay end and RESTORING clears. -/
def execMapRestoreComplete (older : List (Nat × Nat)) (s : State) : Host.Outcome State Fault Refusal :=
  s.complete (fun s => s.mapRestoreComplete older)

/-- MAP_DELETE (R263): A write of MapDelete frees a map's tiles and checkpoint images, or is refused. -/
def execMapDelete (q : Sess) (v : Int) (s : State) : Host.Outcome State Fault Refusal :=
  s.complete (fun s => s.ownWrite q (fun s => s.mapDelete q v))

/-- TILE_REQUEST_RX (R275): The base receives a tile request and queues the tiles for that rover. -/
def execTileRequestRx (source : Uplink) (s : State) : Host.Outcome State Fault Refusal :=
  s.complete (fun s => s.asInput (fun s =>
    match s.uplink 3 source with
    | (s, none) => s
    | (s, some r) => s.tileRequestRx (r.1 % 128) r.2))

/-- TILE_DAMAGED (R549): An uncorrectable word in map space marks its tile damaged and starts its rebuild. -/
def execTileDamaged (map tile : Nat) (s : State) : Host.Outcome State Fault Refusal :=
  s.complete (fun s => s.tileDamaged map tile)

/-- TILE_REBUILD_COMPLETE (R549): A damaged tile is rebuilt from its checkpoint and the log and may be streamed again. -/
def execTileRebuildComplete (map tile : Nat) (s : State) : Host.Outcome State Fault Refusal :=
  s.complete (fun s => s.tileRebuildComplete map tile)

end Sys2Proof.Machine
end

