-- ==== Sys2Proof/Machine/ExecMode.lean ====
section
/-!
DEFINITION. Machine/ExecMode.lean: the meanings of the commands of modes and boot: each its own effect, with what follows at once.
-/
namespace Sys2Proof.Machine

/-- BOOT_COMPLETE (R44): With the image loaded, the restore done and VHOLD armed, BOOT ends in the operating mode permitted by the straps and the Zheoc arbitration. -/
def execBootComplete (start : BootStart) (s : State) : Host.Outcome State Fault Refusal :=
  s.complete (fun s => s.bootComplete start)

/-- MODE_REQUEST_BASE (R42): ModeRequest 0x02 is judged against the permitted transitions and the result set. -/
def execModeRequestBase (q : Sess) (s : State) : Host.Outcome State Fault Refusal :=
  s.complete (fun s => s.ownWrite q (fun s => s.modeRequestBase q))

/-- MODE_REQUEST_ROVER (R44): ModeRequest 0x03 returns a module from SNAPSHOT to ROVER. -/
def execModeRequestRover (q : Sess) (s : State) : Host.Outcome State Fault Refusal :=
  s.complete (fun s => s.ownWrite q (fun s => s.modeRequestRover q))

/-- MODE_REQUEST_RELAY (R42): ModeRequest 0x04 is judged against the permitted transitions and the result set. -/
def execModeRequestRelay (q : Sess) (s : State) : Host.Outcome State Fault Refusal :=
  s.complete (fun s => s.ownWrite q (fun s => s.modeRequestRelay q))

/-- MODE_REQUEST_STANDBY (R601): ModeRequest 0x05 on an in-step acting unit schedules the switch of roles. -/
def execModeRequestStandby (q : Sess) (s : State) : Host.Outcome State Fault Refusal :=
  s.complete (fun s => s.ownWrite q (fun s => s.modeRequestStandby q))

/-- MODE_REQUEST_SNAPSHOT (R44): ModeRequest 0x06 moves a rover with all sections OFF and axes at rest into SNAPSHOT. -/
def execModeRequestSnapshot (q : Sess) (s : State) : Host.Outcome State Fault Refusal :=
  s.complete (fun s => s.ownWrite q (fun s => s.modeRequestSnapshot q))

/-- MODE_REQUEST_HALT (R42): ModeRequest 0x07 enters HALT, or returns 0x00 in HALT without a trigger. -/
def execModeRequestHalt (q : Sess) (s : State) : Host.Outcome State Fault Refusal :=
  s.complete (fun s => s.ownWrite q (fun s => s.modeRequestHalt q))

/-- SNAPSHOT_WAKE (R145): The wake time is reached in SNAPSHOT and the module returns to ROVER. -/
def execSnapshotWake (s : State) : Host.Outcome State Fault Refusal :=
  s.complete (fun s => s.snapshotWake)

/-- DIE_TEMPERATURE_SAMPLE (R619): Every 100 ms the die temperature is measured and warning and throttling judged. -/
def execDieTemperatureSample (milliC : Int) (s : State) : Host.Outcome State Fault Refusal :=
  if 140000 < milliC then .fault .beyondRatings else s.complete (fun s => s.dieTemperatureSample milliC)

end Sys2Proof.Machine
end

