-- ==== Sys2Proof/Machine/ExecMotion.lean ====
section
/-!
DEFINITION. Machine/ExecMotion.lean: the meanings of the commands of the axes: each its own effect, with what follows at once.
-/
namespace Sys2Proof.Machine

/-- PROFILE_TICK (R453): Each 50 µs every running axis computes its profile, takes new commands and places its step pulses. -/
def execProfileTick (s : State) : Host.Outcome State Fault Refusal :=
  s.complete (fun s => s.profileTick)

/-- AXIS_ENABLE (R470): AxisEnable 0x01 raises AENn or cancels a disable. -/
def execAxisEnable (q : Sess) (s : State) : Host.Outcome State Fault Refusal :=
  s.complete (fun s => s.ownWrite q (fun s => s.axisEnable q))

/-- AXIS_DISABLE (R470): AxisEnable 0x00 decelerates the axis and starts DISABLING. -/
def execAxisDisable (q : Sess) (s : State) : Host.Outcome State Fault Refusal :=
  s.complete (fun s => s.ownWrite q (fun s => s.axisDisable q))

/-- AEN_ON_DELAY_ELAPSED (R470): AenOnDelay elapses and the axis becomes IDLE or HELD. -/
def execAenOnDelayElapsed (axis : Nat) (s : State) : Host.Outcome State Fault Refusal :=
  s.complete (fun s => s.aenOnDelayElapsed axis)

/-- AEN_OFF_DELAY_ELAPSED (R470): AenOffDelay elapses at rest and AENn falls. -/
def execAenOffDelayElapsed (axis : Nat) (s : State) : Host.Outcome State Fault Refusal :=
  s.complete (fun s => s.aenOffDelayElapsed axis)

/-- AXIS_MODE_WRITE (R457): A write of AxisMode is accepted only while the axis is DISABLED. -/
def execAxisModeWrite (q : Sess) (v : Int) (s : State) : Host.Outcome State Fault Refusal :=
  s.complete (fun s => s.ownWrite q (fun s => s.axisModeWrite q v))

/-- MOVE_TARGET (R458): A write of MoveTarget plans a trapezoidal move or is refused. -/
def execMoveTarget (q : Sess) (v : Int) (s : State) : Host.Outcome State Fault Refusal :=
  s.complete (fun s => s.ownWrite q (fun s => s.moveTarget q v))

/-- VELOCITY_TARGET (R459): A write of VelocityTarget ramps the axis to the new velocity. -/
def execVelocityTarget (q : Sess) (v : Int) (s : State) : Host.Outcome State Fault Refusal :=
  s.complete (fun s => s.ownWrite q (fun s => s.velocityTarget q v))

/-- SEGMENT_START (R464): A write of SegmentStart checks and starts a segment chain. -/
def execSegmentStart (q : Sess) (v : Int) (s : State) : Host.Outcome State Fault Refusal :=
  s.complete (fun s => s.ownWrite q (fun s => s.segmentStart q v))

/-- SEGMENT_ENTRY_WRITE (R465): A write to a segment table entry, refused while a running chain holds it. -/
def execSegmentEntryWrite (q : Sess) (data : List Byte) (s : State) : Host.Outcome State Fault Refusal :=
  s.complete (fun s => s.ownWrite q (fun s => s.segmentEntryWrite q data))

/-- AXIS_STOP (R470): AxisStop decelerates the axis at Acceleration, keeping its remaining distance. -/
def execAxisStop (q : Sess) (v : Int) (s : State) : Host.Outcome State Fault Refusal :=
  s.complete (fun s => s.ownWrite q (fun s => s.axisStop q v))

/-- AXIS_RESUME (R472): AxisResume continues an interrupted move, chain or Follow backlog. -/
def execAxisResume (q : Sess) (v : Int) (s : State) : Host.Outcome State Fault Refusal :=
  s.complete (fun s => s.ownWrite q (fun s => s.axisResume q v))

/-- POSITION_PRESET (R474): A write of PositionPreset at rest sets the position and clears the restore flags. -/
def execPositionPreset (q : Sess) (v : Int) (s : State) : Host.Outcome State Fault Refusal :=
  s.complete (fun s => s.ownWrite q (fun s => s.positionPreset q v))

/-- ACCELERATION_WRITE (R475): A write of Acceleration is taken at the next tick or deferred to the next move. -/
def execAccelerationWrite (q : Sess) (v : Int) (s : State) : Host.Outcome State Fault Refusal :=
  s.complete (fun s => s.ownWrite q (fun s => s.accelerationWrite q v))

/-- MAX_VELOCITY_WRITE (R454): A write of MaxVelocity is checked against the step width limit and taken at the next tick. -/
def execMaxVelocityWrite (q : Sess) (v : Int) (s : State) : Host.Outcome State Fault Refusal :=
  s.complete (fun s => s.ownWrite q (fun s => s.maxVelocityWrite q v))

/-- GROUP_MEMBERS_WRITE (R466): A write of GroupMembers sets an interpolation group, or is refused. -/
def execGroupMembersWrite (q : Sess) (v : Int) (s : State) : Host.Outcome State Fault Refusal :=
  s.complete (fun s => s.ownWrite q (fun s => s.groupMembersWrite q v))

/-- GROUP_TARGET (R467): A write of GroupTarget starts a coordinated group move. -/
def execGroupTarget (q : Sess) (data : List Byte) (s : State) : Host.Outcome State Fault Refusal :=
  s.complete (fun s => s.ownWrite q (fun s => s.groupTarget q data))

/-- GROUP_STOP (R467): GroupStop stops every member along the path. -/
def execGroupStop (q : Sess) (v : Int) (s : State) : Host.Outcome State Fault Refusal :=
  s.complete (fun s => s.ownWrite q (fun s => s.groupStop q v))

/-- GROUP_AXIS_RESUME (R467): GroupAxisResume resumes the group along its remaining path. -/
def execGroupAxisResume (q : Sess) (v : Int) (s : State) : Host.Outcome State Fault Refusal :=
  s.complete (fun s => s.ownWrite q (fun s => s.groupAxisResume q v))

/-- AXIS_FAULT (R471): A drive fault edge stops steps at once, drops AENn and puts the axis in FAULT. -/
def execAxisFault (gpio : Nat) (high : Bool) (s : State) : Host.Outcome State Fault Refusal :=
  s.complete (fun s => s.axisFault gpio high)

/-- STEP_IN_EDGE (R468): A STEP_INn edge adds M steps to a Follow axis's backlog. -/
def execStepInEdge (input tick : Nat) (s : State) : Host.Outcome State Fault Refusal :=
  s.complete (fun s => s.stepInEdge input tick)

/-- FOLLOW_TIMEOUT (R468): 4 × τ pass without a coarse edge and the backlog is emitted at the last rate. -/
def execFollowTimeout (axis : Nat) (s : State) : Host.Outcome State Fault Refusal :=
  s.complete (fun s => s.followTimeout axis)

/-- FAULT_INPUT_DEASSERT (R476): The drive fault input of an axis returns to its inactive level and FAULT_ACTIVE clears, allowing AxisEnable to leave FAULT. -/
def execFaultInputDeassert (gpio : Nat) (high : Bool) (s : State) : Host.Outcome State Fault Refusal :=
  s.complete (fun s => s.faultInputDeassert gpio high)

end Sys2Proof.Machine
end

