-- ==== Sys2Proof/Machine/ExecPair.lean ====
section
/-!
DEFINITION. Machine/ExecPair.lean: the meanings of the commands of the pair of redundant bases: each its own effect, with what follows at once.
-/
namespace Sys2Proof.Machine

/-- LINK_TRAINED (R588): The Zheoc link trains with both ends powered and enabled. -/
def execLinkTrained (s : State) : Host.Outcome State Fault Refusal :=
  s.complete (fun s => s.linkTrained)

/-- LANE_DROP (R588): A lane with errors or lost alignment is dropped and the link runs at half rate. -/
def execLaneDrop (lane : Nat) (s : State) : Host.Outcome State Fault Refusal :=
  s.complete (fun s => s.laneDrop lane)

/-- LANE_REJOIN (R588): A dropped lane rejoins after 100 ms free of errors. -/
def execLaneRejoin (lane : Nat) (s : State) : Host.Outcome State Fault Refusal :=
  s.complete (fun s => s.laneRejoin lane)

/-- ZL_FRAME_RX (R589): A Zheoc link frame is received and acknowledged, and acted on by TYPE. -/
def execZlFrameRx (f : ZlFrame) (s : State) : Host.Outcome State Fault Refusal :=
  s.complete (fun s => s.zlFrameRx f)

/-- ZL_RETRANSMIT_TIMEOUT (R589): 20 µs without acknowledgement or a CRC failure makes the sender retransmit. -/
def execZlRetransmitTimeout (crcFailed : Bool) (s : State) : Host.Outcome State Fault Refusal :=
  s.complete (fun s => s.zlRetransmitTimeout crcFailed)

/-- HEARTBEAT_TX (R590): Every 200 µs a unit sends a heartbeat frame and its ZL_HB pulse while its health token is fresh. -/
def execHeartbeatTx (fresh : Bool) (s : State) : Host.Outcome State Fault Refusal :=
  s.complete (fun s => s.heartbeatTx fresh)

/-- HB_PULSE_RX (R590): A partner pulse on ZL_HB in the partner's phase is received. -/
def execHbPulseRx (s : State) : Host.Outcome State Fault Refusal :=
  s.complete (fun s => s.hbPulseRx)

/-- HEALTH_TOKEN_EXPIRY (R592): The health token is not refreshed for 0.5 ms and heartbeats stop. -/
def execHealthTokenExpiry (s : State) : Host.Outcome State Fault Refusal :=
  s.complete (fun s => s.healthTokenExpiry)

/-- HEARTBEAT_LOSS (R591): No partner heartbeat on a path for 3.0 ms; on both paths in step this triggers failover. -/
def execHeartbeatLoss (s : State) : Host.Outcome State Fault Refusal :=
  s.complete (fun s => s.heartbeatLoss)

/-- DEPOSE (R592): An acting unit whose heartbeat has stopped for 3.0 ms in step is deposed. -/
def execDepose (s : State) : Host.Outcome State Fault Refusal :=
  s.complete (fun s => s.depose)

/-- FENCE (R592): 5.5 ms after its last heartbeat a deposed unit silences its outputs and saves and resets. -/
def execFence (s : State) : Host.Outcome State Fault Refusal :=
  s.complete (fun s => s.fence)

/-- HALT_OUT_TAKEOVER (R598): At t_h + 5.6 ms the new acting unit starts to drive HALT_OUT_A and HALT_OUT_B. -/
def execHaltOutTakeover (s : State) : Host.Outcome State Fault Refusal :=
  s.complete (fun s => s.haltOutTakeover)

/-- PARTNER_ARBITRATION (R593): After 20 ms of listening in BOOT the unit chooses BASE or STANDBY. -/
def execPartnerArbitration (foreignLow higher : Bool) (s : State) : Host.Outcome State Fault Refusal :=
  s.complete (fun s => s.partnerArbitration foreignLow higher)

/-- DUAL_ACTIVE_DETECT (R593): A unit in BASE sees its partner acting; the higher DEV_ID saves and resets. -/
def execDualActiveDetect (pulse higher : Bool) (s : State) : Host.Outcome State Fault Refusal :=
  s.complete (fun s => s.dualActiveDetect pulse higher)

/-- TRANSFER_COMPLETE (R594): The fleet state copy to the standby ends. -/
def execTransferComplete (s : State) : Host.Outcome State Fault Refusal :=
  s.complete (fun s => s.transferComplete)

/-- MIRRORED_INPUT_RX (R595): The standby receives a mirrored input, acknowledges it and applies it in the same frame. -/
def execMirroredInputRx (seq frame : Nat) (x : MirrorInput) (s : State) : Host.Outcome State Fault Refusal :=
  s.complete (fun s => s.mirroredInputRx seq frame x)

/-- MIRROR_TIMEOUT (R595): A mirrored input is not acknowledged within 1 ms and the pair becomes OUT_OF_STEP. -/
def execMirrorTimeout (s : State) : Host.Outcome State Fault Refusal :=
  s.complete (fun s => s.mirrorTimeout)

/-- FRAME_DIGEST (R596): At the end of each 1 ms frame the units compare digests and enter or leave IN_STEP. -/
def execFrameDigest (s : State) : Host.Outcome State Fault Refusal :=
  s.complete (fun s => s.frameDigest)

/-- ROLE_SWITCH (R601): At the chosen 1 ms boundary the pair exchanges the acting and standby roles. -/
def execRoleSwitch (s : State) : Host.Outcome State Fault Refusal :=
  s.complete (fun s => s.roleSwitch)

end Sys2Proof.Machine
end

