-- ==== Sys2Proof/Machine/ExecPositioning.lean ====
section
/-!
DEFINITION. Machine/ExecPositioning.lean: the meanings of the commands of observables, position and pose: each its own effect, with what follows at once.
-/
namespace Sys2Proof.Machine

/-- OBSERVABLE_EPOCH (R157): At each observable epoch the NCO phases are latched and the observable record formed. -/
def execObservableEpoch (clockResidual : Int) (s : State) : Host.Outcome State Fault Refusal :=
  s.complete (fun s => s.takeEpoch clockResidual)

/-- OBS_HOST_OUTPUT_WRITE (R161): A write of ObsHostOutput starts, stops or resumes the host copy of observable records. -/
def execObsHostOutputWrite (q : Sess) (v : Int) (s : State) : Host.Outcome State Fault Refusal :=
  s.complete (fun s => s.ownWrite q (fun s => s.obsHostOutputWrite q v))

/-- SURVEY_IN_COMPLETE (R163): The survey-in mean meets SurveyInLimit and becomes the fixed reference position. -/
def execSurveyInComplete (positions : List (Int × Int × Int)) (s : State) : Host.Outcome State Fault Refusal :=
  s.complete (fun s => s.surveyInComplete positions)

/-- SURVEY_IN_TIMEOUT (R163): The limit is not met within three times SurveyInTime and the survey restarts. -/
def execSurveyInTimeout (s : State) : Host.Outcome State Fault Refusal :=
  s.complete (fun s => s.surveyInTimeout)

/-- BASE_POSITION_CHECK (R164): Every 10 s the base compares its position with its reference and withholds or resumes corrections. -/
def execBasePositionCheck (x y z : Int) (s : State) : Host.Outcome State Fault Refusal :=
  s.complete (fun s => s.basePositionCheck x y z)

/-- BASE_ECEF_WRITE (R164): A write of BaseEcefX, Y or Z sets the reference and resumes withheld corrections. -/
def execBaseEcefWrite (q : Sess) (axis : Fin 3) (v : Int) (s : State) : Host.Outcome State Fault Refusal :=
  s.complete (fun s => s.ownWrite q (fun s => s.baseEcefWrite q axis v))

/-- RTCM_EPOCH (R166): An RTCM epoch's messages are queued to each port, discarding an unfinished older epoch. -/
def execRtcmEpoch (tcpSent : Nat) (s : State) : Host.Outcome State Fault Refusal :=
  s.complete (fun s => s.rtcmEpoch tcpSent)

/-- NTRIP_RETRY (R168): The retry wait after a lost NTRIP connection expires and the client connects again. -/
def execNtripRetry (connected : Bool) (s : State) : Host.Outcome State Fault Refusal :=
  s.complete (fun s => s.ntripRetry connected)

/-- NTRIP_GGA (R168): Every 10 s the NTRIP client sends a GGA sentence. -/
def execNtripGga (s : State) : Host.Outcome State Fault Refusal :=
  s.complete (fun s => s.ntripGga)

/-- NTRIP_MESSAGE_RX (R168): An RTCM message received from NTRIP is accepted or ignored. -/
def execNtripMessageRx (number : Nat) (aligned more : Bool) (epoch : Int) (s : State) : Host.Outcome State Fault Refusal :=
  s.complete (fun s => s.asInput (fun s => s.ntripMessageRx number aligned more epoch))

/-- MATCH_OPERAND (R479): An operand arrives in the matching store and a task becomes ready when complete. -/
def execMatchOperand (flow epoch slot value need hold : Nat) (s : State) : Host.Outcome State Fault Refusal :=
  s.complete (fun s => s.matchOperand flow epoch slot value need hold)

/-- MATCH_EXPIRY (R479): An incomplete matching entry reaches its holding time and is discarded. -/
def execMatchExpiry (flow epoch : Nat) (s : State) : Host.Outcome State Fault Refusal :=
  s.complete (fun s => s.matchExpiry flow epoch)

/-- RTK_SOLUTION (R169): A matched or extrapolated RTK solution is delivered with its state. -/
def execRtkSolution (solution : RtkSolution) (s : State) : Host.Outcome State Fault Refusal :=
  s.complete (fun s => s.rtkSolution solution)

/-- AMBIGUITY_HOLD_EXPIRY (R171): Ambiguities kept after correction loss expire after 30 s. -/
def execAmbiguityHoldExpiry (s : State) : Host.Outcome State Fault Refusal :=
  s.complete (fun s => s.ambiguityHoldExpiry)

/-- HEADING_SOLUTION (R175): A heading solution is delivered and checked against BaselineLength. -/
def execHeadingSolution (solution : HeadingSolution) (s : State) : Host.Outcome State Fault Refusal :=
  s.complete (fun s => s.headingSolution solution)

/-- HEADING_HOLD_EXPIRY (R176): IMU-propagated heading exceeds HeadingHoldTime and the next heading source applies. -/
def execHeadingHoldExpiry (s : State) : Host.Outcome State Fault Refusal :=
  s.complete (fun s => s.headingHoldExpiry)

/-- IMU_SYNC_SAMPLE (R177): IMU_SYNC is pulsed at each sample instant. -/
def execImuSyncSample (s : State) : Host.Outcome State Fault Refusal :=
  s.complete (fun s => s.imuSyncSample)

/-- IMU_FRAME_READ (R179): ImuReadDelay after the sync edge the IMU frame is read and tested for fault. -/
def execImuFrameRead (frame : List Byte) (s : State) : Host.Outcome State Fault Refusal :=
  s.complete (fun s => s.imuFrameRead frame)

/-- POSE_INSTANT (R180): At each pose instant the fusion thread propagates, applies solutions and writes the pose record. -/
def execPoseInstant (estimate : PoseEstimate) (s : State) : Host.Outcome State Fault Refusal :=
  s.complete (fun s => s.poseInstant estimate)

/-- NTRIP_CONNECTION_LOST (R168): The NTRIP connection is lost and the retry wait starts, doubling up to 60 s. -/
def execNtripConnectionLost (s : State) : Host.Outcome State Fault Refusal :=
  s.complete (fun s => s.ntripConnectionLost)

/-- RTCM_TCP_CONNECT (R166): A client connects to the RTCM TCP server on ETH0 and is served, or is refused beyond 4 clients. -/
def execRtcmTcpConnect (port : Nat) (s : State) : Host.Outcome State Fault Refusal :=
  s.complete (fun s => s.asInput (fun s => s.rtcmTcpConnect port))

end Sys2Proof.Machine
end

