-- ==== Sys2Proof/Machine/ExecPower.lean ====
section
/-!
DEFINITION. Machine/ExecPower.lean: the meanings of the commands of power, reset and hold-up: each its own effect, with what follows at once.
-/
namespace Sys2Proof.Machine

/-- POWER_ON (R83): VSNS rises to the start threshold and the buck-boost converter starts. -/
def execPowerOn (vsns : Nat) (s : State) : Host.Outcome State Fault Refusal :=
  s.complete (fun s => s.powerOn vsns)

/-- PGOOD_RELEASE (R78): Every internal rail comes into regulation and the device releases PGOOD. -/
def execPgoodRelease (vhold : Nat) (s : State) : Host.Outcome State Fault Refusal :=
  s.complete (fun s => s.pgoodRelease vhold)

/-- PGOOD_FALL (R78): An internal rail leaves regulation and PGOOD is pulled low within 1 µs. -/
def execPgoodFall (s : State) : Host.Outcome State Fault Refusal :=
  s.complete (fun s => s.pgoodFall)

/-- STRAP_SAMPLE (R66): Once PGOOD is asserted and every reset source is released, the straps are sampled on three CK_AON edges and the module passes from RESET to BOOT. -/
def execStrapSample (lands : StartLands) (vioA vioB : Nat) (nand : List (Option NandInfo)) (badKeyCopies : List (Nat × Nat)) (s : State) : Host.Outcome State Fault Refusal :=
  s.complete (fun s => s.strapSample lands vioA vioB nand badKeyCopies)

/-- NRST_OUT_RELEASE (R77): NRST_OUT is released 33 CK_AON cycles after the transition from RESET to BOOT. -/
def execNrstOutRelease (s : State) : Host.Outcome State Fault Refusal :=
  s.complete (fun s => s.nrstOutRelease)

/-- NRST_IN_ASSERT (R79): A low on NRST_IN of at least 5 µs causes a reset. -/
def execNrstInAssert (ns : Nat) (s : State) : Host.Outcome State Fault Refusal :=
  s.complete (fun s => s.nrstInAssert ns)

/-- VHOLD_DISCHARGED (R85): A VHOLD found charged at PGOOD falls below 9.5 V through the internal sink and charging begins. -/
def execVholdDischarged (vhold : Nat) (s : State) : Host.Outcome State Fault Refusal :=
  s.complete (fun s => s.vholdDischarged vhold)

/-- VHOLD_MEASURE_START (R85): VHOLD passes 10 V and the capacitance measurement timing starts. -/
def execVholdMeasureStart (s : State) : Host.Outcome State Fault Refusal :=
  s.complete (fun s => s.vholdMeasureStart)

/-- VHOLD_ARMED (R83): VHOLD reaches 22 V; the capacitance is computed, VHOLD_LOW or VHOLD_FAULT judged and VHOLD armed. -/
def execVholdArmed (us50 us20 : Nat) (s : State) : Host.Outcome State Fault Refusal :=
  s.complete (fun s => s.vholdArmed us50 us20)

/-- VHOLD_CHARGE_TIMEOUT (R85): VHOLD has not reached 22 V within 3 s or 8 s of the start of charging; VHOLD fault. -/
def execVholdChargeTimeout (s : State) : Host.Outcome State Fault Refusal :=
  s.complete (fun s => s.vholdChargeTimeout)

/-- VHOLD_DISARM (R86): VHOLD falls below 22 V while running and VHOLD_ARMED clears. -/
def execVholdDisarm (vhold : Nat) (s : State) : Host.Outcome State Fault Refusal :=
  s.complete (fun s => s.vholdDisarm vhold)

/-- CHARGE_CURRENT_CHANGE (R86): VSNS crosses below 4.5 V or above 4.7 V and the VHOLD charge current switches between 20 mA and 50 mA. -/
def execChargeCurrentChange (vsns : Nat) (s : State) : Host.Outcome State Fault Refusal :=
  s.complete (fun s => s.chargeCurrentChange vsns)

/-- VIN_SAG (R88): VSNS stays below HoldupSagLevel for 50 µs in a mode and the device enters HOLDUP. -/
def execVinSag (vsns : Nat) (s : State) : Host.Outcome State Fault Refusal :=
  s.complete (fun s => s.vinSag vsns)

/-- VIN_OVERVOLTAGE (R89): VSNS exceeds 36 V, the input switch opens and the module runs from VHOLD. -/
def execVinOvervoltage (vsns : Nat) (s : State) : Host.Outcome State Fault Refusal :=
  s.complete (fun s => s.vinOvervoltage vsns)

/-- VIN_OVERVOLTAGE_END (R89): VSNS falls below 35 V within 1 ms, the switch closes and VHOLD recharges. -/
def execVinOvervoltageEnd (vsns : Nat) (s : State) : Host.Outcome State Fault Refusal :=
  s.complete (fun s => s.vinOvervoltageEnd vsns)

/-- ISOLATION_TIMEOUT (R89): Overvoltage isolation lasts 1 ms and the device enters HOLDUP. -/
def execIsolationTimeout (s : State) : Host.Outcome State Fault Refusal :=
  s.complete (fun s => s.isolationTimeout)

/-- VIN_SWELL (R89): VSNS crosses 33 V and VIN_SWELL follows it. -/
def execVinSwell (vsns : Nat) (s : State) : Host.Outcome State Fault Refusal :=
  s.complete (fun s => s.vinSwell vsns)

/-- SAVE_COMPLETE (R93): The valid mark of the HOLDUP save is written and read back and the module passes to RESET with every rail off. -/
def execSaveComplete (us vhold : Nat) (s : State) : Host.Outcome State Fault Refusal :=
  s.complete (fun s => s.saveComplete us vhold)

/-- SAVE_ABORT (R97): VHOLD reaches 6.0 V before the valid mark; the save stops and the module passes to RESET. -/
def execSaveAbort (s : State) : Host.Outcome State Fault Refusal :=
  s.complete (fun s => s.saveAbort)

/-- WATCHDOG_EXPIRY (R103): 250 ms pass without a real-time kernel service and the orderly save for a reset begins. -/
def execWatchdogExpiry (s : State) : Host.Outcome State Fault Refusal :=
  s.complete (fun s => s.watchdogExpiry)

/-- RESET_REQUEST (R105): A write to ResetRequest starts the orderly save and reset, or is refused. -/
def execResetRequest (q : Sess) (v : Int) (s : State) : Host.Outcome State Fault Refusal :=
  s.complete (fun s => s.ownWrite q (fun s => s.resetRequest q v))

/-- ORDERLY_SAVE_COMPLETE (R103): The orderly save from VIN ends and the module resets with the recorded cause. -/
def execOrderlySaveComplete (us vhold : Nat) (s : State) : Host.Outcome State Fault Refusal :=
  s.complete (fun s => s.orderlySaveComplete us vhold)

/-- PLL_LOSS_OF_LOCK (R36): A PLL loses lock; stop outputs are driven without a clock for Never domains and the module resets with clock failure. -/
def execPllLossOfLock (domain : ClockDomain) (s : State) : Host.Outcome State Fault Refusal :=
  s.complete (fun s => s.pllLossOfLock domain)

/-- EXT_REF_LOSS (R35): EXT_REF_IN shows 4 missing or malformed periods and every PLL switches to the TCXO. -/
def execExtRefLoss (s : State) : Host.Outcome State Fault Refusal :=
  s.complete (fun s => s.extRefLoss)

/-- UART_IMAGE_BLOCK (R575): An image block on UART0 in BOOT is checked and acknowledged with 0x06 or 0x15. -/
def execUartImageBlock (block : List Byte) (s : State) : Host.Outcome State Fault Refusal :=
  s.complete (fun s => s.uartImageBlock block)

end Sys2Proof.Machine
end

