-- ==== Sys2Proof/Machine/ExecQuantities.lean ====
section
/-!
DEFINITION. Machine/ExecQuantities.lean: the meanings of the commands of the meters: each its own effect, with what follows at once.
-/
namespace Sys2Proof.Machine

/-- PULSE_EDGE (R435): An accepted edge of a pulse input is stamped and counted with its direction. -/
def execPulseEdge (input : Fin 32) (stamp : Nat) (a b : Bool) (s : State) : Host.Outcome State Fault Refusal :=
  s.complete (fun s => s.pulseEdge input stamp a b)

/-- CREDIT_TICK (R443): Each 1 ms tick the quantity of product-bound inputs is credited to the applying sections or unassigned. -/
def execCreditTick (s : State) : Host.Outcome State Fault Refusal :=
  s.complete (fun s => s.creditTick)

/-- RATE_UPDATE (R445): Every 1 ms each input's rate is formed and published to the meter rate port. -/
def execRateUpdate (s : State) : Host.Outcome State Fault Refusal :=
  s.complete (fun s => s.rateUpdate)

/-- INTERVAL_END (R446): At each interval end the interval record and the as-applied record are emitted and pending configuration applied. -/
def execIntervalEnd (s : State) : Host.Outcome State Fault Refusal :=
  s.complete (fun s => s.intervalEnd)

/-- METER_CONFIG_WRITE (R448): A meter configuration write is held pending until the next interval start. -/
def execMeterConfigWrite (q : Sess) (which : MeterField) (v : Int) (s : State) : Host.Outcome State Fault Refusal :=
  s.complete (fun s => s.ownWrite q (fun s => s.meterConfigWrite q which v))

/-- METER_SNAPSHOT (R449): A write of MeterSnapshot copies every accumulator into the snapshot bank. -/
def execMeterSnapshot (q : Sess) (v : Int) (s : State) : Host.Outcome State Fault Refusal :=
  s.complete (fun s => s.ownWrite q (fun s => s.meterSnapshot q v))

/-- METER_CLEAR (R449): A write of 0x00C3 to MeterClear at Service level zeroes every accumulator. -/
def execMeterClear (q : Sess) (v : Int) (s : State) : Host.Outcome State Fault Refusal :=
  s.complete (fun s => s.ownWrite q (fun s => s.meterClear q v))

/-- VIN_SAMPLE (R450): Every 100 µs VSNS is sampled and a sag, swell or interruption starts or ends. -/
def execVinSample (mv : Nat) (s : State) : Host.Outcome State Fault Refusal :=
  s.complete (fun s => s.vinSample mv)

/-- VIN_EVENT_NEXT (R451): A read of VinEventNext returns and removes the oldest VIN event record. -/
def execVinEventNext (q : Sess) (s : State) : Host.Outcome State Fault Refusal :=
  s.complete (fun s => s.ownRequest q (fun s => s.vinEventNext q))

end Sys2Proof.Machine
end

