-- ==== Sys2Proof/Machine/ExecRadio.lean ====
section
/-!
DEFINITION. Machine/ExecRadio.lean: the meanings of the commands of the radio: each its own effect, with what follows at once.
-/
namespace Sys2Proof.Machine

/-- BEACON_TX (R326): At each beacon interval start the base sends its beacon on transceiver A. -/
def execBeaconTx (s : State) : Host.Outcome State Fault Refusal :=
  s.complete (fun s => s.beaconTx)

/-- BEACON_COPY_TX (R352): A relay sends its beacon copy with the next hop count at its scheduled instant. -/
def execBeaconCopyTx (s : State) : Host.Outcome State Fault Refusal :=
  s.complete (fun s => s.beaconCopyTx)

/-- BEACON_RX (R342): A beacon of the wanted base passes its checks in the window and updates timing, maps, acks and connection state. -/
def execBeaconRx (frame : List Byte) (tick : Nat) (rssi : Int) (s : State) : Host.Outcome State Fault Refusal :=
  s.complete (fun s => s.asInput (fun s => s.beaconRx frame tick rssi))

/-- BEACON_MISSED (R342): The beacon window closes without a valid beacon; misses are counted and a resync scan follows. -/
def execBeaconMissed (s : State) : Host.Outcome State Fault Refusal :=
  s.complete (fun s => s.beaconMissed)

/-- ANNOUNCED_STEP_APPLY (R398): At the announced step instant a rover or relay applies the step to its model of the base clock. -/
def execAnnouncedStepApply (s : State) : Host.Outcome State Fault Refusal :=
  s.complete (fun s => s.announcedStepApply)

/-- DOWNLINK_FRAME_TX (R327): A correction fragment, downlink record, terminate, tunnel, release or tile frame is sent in the downlink window. -/
def execDownlinkFrameTx (s : State) : Host.Outcome State Fault Refusal :=
  s.complete (fun s => s.downlinkFrameTx)

/-- UPLINK_REPORT_TX (R335): A connected rover sends its uplink report, with segments or a record, in its position. -/
def execUplinkReportTx (s : State) : Host.Outcome State Fault Refusal :=
  s.complete (fun s => s.uplinkReportTx)

/-- UPLINK_REPORT_RX (R335): The base receives an uplink report, renews the lease, updates the machine and forms any compact segment. -/
def execUplinkReportRx (frame : List Byte) (tick : Nat) (rssi : Int) (s : State) : Host.Outcome State Fault Refusal :=
  s.complete (fun s => s.asInput (fun s => s.uplinkReportRx frame tick rssi))

/-- UPLINK_MISSED (R342): A slot's uplink window closes without a reception and SlotMissed is counted. -/
def execUplinkMissed (slot : Nat) (s : State) : Host.Outcome State Fault Refusal :=
  s.complete (fun s => s.uplinkMissed slot)

/-- ADMISSION_REQUEST_TX (R330): A synced rover or relay sends an admission request in contention time. -/
def execAdmissionRequestTx (s : State) : Host.Outcome State Fault Refusal :=
  s.complete (fun s => s.admissionRequestTx)

/-- ADMISSION_RETRY (R330): An unanswered admission request is repeated after a random 1 s to 4 s. -/
def execAdmissionRetry (s : State) : Host.Outcome State Fault Refusal :=
  s.complete (fun s => s.admissionRetry)

/-- ADMISSION_REQUEST_RX (R331): The base judges an admission request, allots a slot and sends the grant. -/
def execAdmissionRequestRx (frame : List Byte) (s : State) : Host.Outcome State Fault Refusal :=
  s.complete (fun s => s.asInput (fun s => s.admissionRequestRx frame))

/-- ADMISSION_GRANT_RX (R567): The rover receives the grant, derives its session key and unwraps the group key. -/
def execAdmissionGrantRx (frame : List Byte) (s : State) : Host.Outcome State Fault Refusal :=
  s.complete (fun s => s.asInput (fun s => s.admissionGrantRx frame))

/-- TERMINATE_RX (R332): A terminate frame ends the connection and frees or holds the slot. -/
def execTerminateRx (frame : List Byte) (s : State) : Host.Outcome State Fault Refusal :=
  s.complete (fun s => s.asInput (fun s => s.terminateRx frame))

/-- SUPERVISION_TIMEOUT (R332): A rover hears no valid frame from its base for SupervisionTimeout and returns to SCANNING. -/
def execSupervisionTimeout (s : State) : Host.Outcome State Fault Refusal :=
  s.complete (fun s => s.supervisionTimeout)

/-- SLOT_SUPERVISION_TIMEOUT (R333): A base hears no valid uplink from a slot for SupervisionTimeout and the slot becomes HELD or FREE. -/
def execSlotSupervisionTimeout (slot : Nat) (s : State) : Host.Outcome State Fault Refusal :=
  s.complete (fun s => s.slotSupervisionTimeout slot)

/-- CONNECTION_DISABLE (R334): ConnectionEnable 0x00 on a rover starts CLOSING. -/
def execConnectionDisable (q : Sess) (s : State) : Host.Outcome State Fault Refusal :=
  s.complete (fun s => s.ownWrite q (fun s => s.connectionDisable q))

/-- CONNECTION_ENABLE (R334): ConnectionEnable 0x01 cancels a pending close or starts a full admission. -/
def execConnectionEnable (q : Sess) (s : State) : Host.Outcome State Fault Refusal :=
  s.complete (fun s => s.ownWrite q (fun s => s.connectionEnable q))

/-- SLOT_DISABLE (R334): SlotEnable 0x00 on a base starts closing that slot. -/
def execSlotDisable (q : Sess) (s : State) : Host.Outcome State Fault Refusal :=
  s.complete (fun s => s.ownWrite q (fun s => s.slotDisable q))

/-- SLOT_ENABLE (R334): SlotEnable 0x01 cancels a pending close or reopens the slot to admission. -/
def execSlotEnable (q : Sess) (s : State) : Host.Outcome State Fault Refusal :=
  s.complete (fun s => s.ownWrite q (fun s => s.slotEnable q))

/-- LBT_ASSESSMENT (R344): A listen-before-talk assessment of a frame outside the schedule ends and the frame is sent, backed off or dropped. -/
def execLbtAssessment (power : Int) (s : State) : Host.Outcome State Fault Refusal :=
  s.complete (fun s => s.lbtAssessment power)

/-- FLOOD_FRAME_RX (R350): A forwarder receives a flooded frame, consults the seen cache and schedules or suppresses a copy. -/
def execFloodFrameRx (frame : List Byte) (s : State) : Host.Outcome State Fault Refusal :=
  s.complete (fun s => s.asInput (fun s => s.floodFrameRx frame))

/-- FLOOD_COPY_TX (R350): The random delay of a scheduled flood copy expires and the copy is sent under listen-before-talk. -/
def execFloodCopyTx (s : State) : Host.Outcome State Fault Refusal :=
  s.complete (fun s => s.floodCopyTx)

/-- SEEN_CACHE_EXPIRY (R351): A seen-cache key reaches 20 s and leaves the cache. -/
def execSeenCacheExpiry (s : State) : Host.Outcome State Fault Refusal :=
  s.complete (fun s => s.seenCacheExpiry)

/-- CORRECTION_FRAGMENT_RX (R338): A rover receives a correction fragment and reassembles the correction stream. -/
def execCorrectionFragmentRx (frames : List (List Byte)) (s : State) : Host.Outcome State Fault Refusal :=
  s.complete (fun s => s.asInput (fun s => s.correctionFragmentRx frames))

/-- TILE_TRANSFER_RX (R277): A rover receives a tile transfer record and installs or discards it, repainting its pending segments. -/
def execTileTransferRx (frames : List (List Byte)) (s : State) : Host.Outcome State Fault Refusal :=
  s.complete (fun s => s.asInput (fun s => s.tileFramesRx frames))

/-- OFFER_RX (R296): A rover receives a task offer and claims it when AutoAccept is set. -/
def execOfferRx (frames : List (List Byte)) (s : State) : Host.Outcome State Fault Refusal :=
  s.complete (fun s => s.asInput (fun s => s.offerRx frames))

/-- CLAIM_RESULT_RX (R299): A rover receives the result of its claim. -/
def execClaimResultRx (frames : List (List Byte)) (s : State) : Host.Outcome State Fault Refusal :=
  s.complete (fun s => s.asInput (fun s => s.claimResultRx frames))

/-- TASK_LOAD_RX (R337): A rover receives a task load record with the field record. -/
def execTaskLoadRx (frames : List (List Byte)) (s : State) : Host.Outcome State Fault Refusal :=
  s.complete (fun s => s.asInput (fun s => s.taskLoadRx frames))

/-- TASK_TRACK_RX (R337): A rover receives a task track record and loads the task once all tracks have arrived. -/
def execTaskTrackRx (frames : List (List Byte)) (s : State) : Host.Outcome State Fault Refusal :=
  s.complete (fun s => s.asInput (fun s => s.taskTrackRx frames))

/-- REVOKED_RX (R302): A rover receives REVOKED and unloads its task. -/
def execRevokedRx (frames : List (List Byte)) (s : State) : Host.Outcome State Fault Refusal :=
  s.complete (fun s => s.asInput (fun s => s.revokedRx frames))

/-- SEPARATION_ALERT_RX (R308): A rover receives a separation alert and sets SeparationAlert. -/
def execSeparationAlertRx (frames : List (List Byte)) (s : State) : Host.Outcome State Fault Refusal :=
  s.complete (fun s => s.asInput (fun s => s.separationAlertRx frames))

/-- GROUP_KEY_ROLLOVER (R568): At the interval where k modulo 2³² is 0 the base draws a new group key and readmits every machine. -/
def execGroupKeyRollover (s : State) : Host.Outcome State Fault Refusal :=
  s.complete (fun s => s.groupKeyRollover)

/-- WORKER_RELAY_RX (R296): A worker receives from the manager over the base link a claim result, offer or revocation for one of its machines and relays it on its downlink. -/
def execWorkerRelayRx (head : LinkHead) (slot : Nat) (r : AirRecord) (s : State) : Host.Outcome State Fault Refusal :=
  s.complete (fun s => s.asInput (fun s => s.fromLink head (fun s => s.workerRelayRx slot r)))

end Sys2Proof.Machine
end

