-- ==== Sys2Proof/Machine/ExecSections.lean ====
section
/-!
DEFINITION. Machine/ExecSections.lean: the meanings of the commands of section control: each its own effect, with what follows at once.
-/
namespace Sys2Proof.Machine

/-- KERB_EVALUATION (R225): Each millisecond the Kerb engine evaluates all sections against the newest pose and schedules switches. -/
def execKerbEvaluation (crcOk : Bool) (s : State) : Host.Outcome State Fault Refusal :=
  s.complete (fun s => s.kerbEvaluation crcOk)

/-- SLOT_ISSUE (R242): At the start of slot k − 1 the entries of slot k are issued to the CK_IO queue. -/
def execSlotIssue (s : State) : Host.Outcome State Fault Refusal :=
  s.complete (fun s => s.slotIssue)

/-- SLOT_BOUNDARY (R246): At each slot boundary the chain captures its image, shifts, compares readback and latches at the switch instant. -/
def execSlotBoundary (readback : Nat) (s : State) : Host.Outcome State Fault Refusal :=
  s.complete (fun s => s.slotBoundary readback)

/-- SECTION_DELAY_ELAPSED (R253): A section's switch instant plus its on- or off-delay is reached and it passes to ON or OFF. -/
def execSectionDelayElapsed (sec : Nat) (s : State) : Host.Outcome State Fault Refusal :=
  s.complete (fun s => s.sectionDelayElapsed sec)

/-- CHAIN_FAULT_CLEAR (R250): A write of ChainFaultClear clears CHAIN_FAULT and moves sections from FAULT to OFF. -/
def execChainFaultClear (q : Sess) (v : Int) (s : State) : Host.Outcome State Fault Refusal :=
  s.complete (fun s => s.ownWrite q (fun s => s.chainFaultClear q v))

/-- CHAIN_CONFIG_WRITE (R247): A write of ChainLength, ChainDivider, ChainReadback or ImplementModel is checked and restarts the chain. -/
def execChainConfigWrite (q : Sess) (which : ChainObject) (v : Int) (s : State) : Host.Outcome State Fault Refusal :=
  s.complete (fun s => s.ownWrite q (fun s => s.chainConfigWrite q which v))

/-- SECTION_MODE_WRITE (R255): A write of SectionMode forces the section OFF, ON or back to automatic. -/
def execSectionModeWrite (q : Sess) (v : Int) (s : State) : Host.Outcome State Fault Refusal :=
  s.complete (fun s => s.ownWrite q (fun s => s.sectionModeWrite q v))

/-- MASTER_ENABLE_WRITE (R255): A write of MasterEnable allows switching or closes every section at the earliest slot. -/
def execMasterEnableWrite (q : Sess) (v : Int) (s : State) : Host.Outcome State Fault Refusal :=
  s.complete (fun s => s.ownWrite q (fun s => s.masterEnableWrite q v))

end Sys2Proof.Machine
end

