-- ==== Sys2Proof/Machine/ExecStorage.lean ====
section
/-!
DEFINITION. Machine/ExecStorage.lean: the meanings of the commands of MRAM, NAND and Milestone: each its own effect, with what follows at once.
-/
namespace Sys2Proof.Machine

/-- STORE_COMMIT (R540): Acknowledged stored writes are committed as a new stored-set generation in MRAM. -/
def execStoreCommit (s : State) : Host.Outcome State Fault Refusal :=
  s.complete (fun s => s.storeCommit)

/-- STORE_PARAMETERS (R522): A write of the save signature to 0x1010 answers once the area is committed. -/
def execStoreParameters (q : Sess) (sub : Nat) (signature : Nat) (s : State) : Host.Outcome State Fault Refusal :=
  s.complete (fun s => s.ownWrite q (fun s => s.storeParameters q sub signature))

/-- RESTORE_DEFAULT_PARAMETERS (R522): A write of the load signature to 0x1011 returns the area to image defaults at the next BOOT. -/
def execRestoreDefaultParameters (q : Sess) (sub : Nat) (signature : Nat) (s : State) : Host.Outcome State Fault Refusal :=
  s.complete (fun s => s.ownWrite q (fun s => s.restoreDefaultParameters q sub signature))

/-- JOURNAL_WRITE (R538): A journal entry of a kind is written at its schedule or event, spilling live entries if needed. -/
def execJournalWrite (kind : Nat) (s : State) : Host.Outcome State Fault Refusal :=
  s.complete (fun s => s.journalWrite kind)

/-- MRAM_SCRUB (R548): Every 24 h of operation every MRAM line is read and corrected lines rewritten, key slots checked. -/
def execMramScrub (corrected uncorrectable : Nat) (badKeyCopies : List (Nat × Nat)) (s : State) : Host.Outcome State Fault Refusal :=
  s.complete (fun s => s.mramScrub corrected uncorrectable badKeyCopies)

/-- NAND_SCRUB (R548): Every 7 days of operation every written NAND page is read. -/
def execNandScrub (found : List (Nat × Nat)) (s : State) : Host.Outcome State Fault Refusal :=
  s.complete (fun s => s.nandScrub found)

/-- NAND_REFRESH (R548): A NAND block needing refresh is rewritten. -/
def execNandRefresh (block target : Nat) (s : State) : Host.Outcome State Fault Refusal :=
  s.complete (fun s => s.nandRefresh block target)

/-- WEAR_LEVEL_MOVE (R548): The least-erased data block is moved for static wear levelling. -/
def execWearLevelMove (block target : Nat) (s : State) : Host.Outcome State Fault Refusal :=
  s.complete (fun s => s.wearLevelMove block target)

/-- NAND_BLOCK_RETIRE (R545): A block that fails or needs too many corrections is copied out and retired. -/
def execNandBlockRetire (block spare : Nat) (failed : Bool) (s : State) : Host.Outcome State Fault Refusal :=
  s.complete (fun s => s.nandBlockRetire block spare failed)

/-- AS_APPLIED_EXPORTED_WRITE (R547): A write of AsAppliedExported frees ring space and a gap marker resumes records. -/
def execAsAppliedExportedWrite (q : Sess) (v : Int) (s : State) : Host.Outcome State Fault Refusal :=
  s.complete (fun s => s.ownWrite q (fun s => s.asAppliedExportedWrite q v))

/-- MILESTONE_SAMPLE (R551): At the end of each sampling period a Milestone quantity is sampled into its histogram and extremes. -/
def execMilestoneSample (item load : Nat) (s : State) : Host.Outcome State Fault Refusal :=
  s.complete (fun s => s.milestoneSampleRow item load)

/-- MILESTONE_HOME_WRITE (R553): Every 6 h of operation the Milestone shadow is written to a home copy. -/
def execMilestoneHomeWrite (s : State) : Host.Outcome State Fault Refusal :=
  s.complete (fun s => s.milestoneHomeWrite)

/-- MILESTONE_FREEZE (R554): MilestoneFreeze 0x01 freezes the visible items. -/
def execMilestoneFreeze (q : Sess) (s : State) : Host.Outcome State Fault Refusal :=
  s.complete (fun s => s.ownWrite q (fun s => s.milestoneFreeze q))

/-- MILESTONE_UNFREEZE (R554): MilestoneFreeze 0x00 merges the pending bank into the visible items. -/
def execMilestoneUnfreeze (q : Sess) (s : State) : Host.Outcome State Fault Refusal :=
  s.complete (fun s => s.ownWrite q (fun s => s.milestoneUnfreeze q))

/-- MILESTONE_FREEZE_EXPIRY (R554): 60 s after a freeze the pending bank is merged and FREEZE_EXPIRED set. -/
def execMilestoneFreezeExpiry (s : State) : Host.Outcome State Fault Refusal :=
  s.complete (fun s => s.milestoneFreezeExpiry)

/-- MILESTONE_CLEAR (R556): A write of 0x004D to MilestoneClear at Service level zeroes every item. -/
def execMilestoneClear (q : Sess) (v : Int) (s : State) : Host.Outcome State Fault Refusal :=
  s.complete (fun s => s.ownWrite q (fun s => s.milestoneClear q v))

end Sys2Proof.Machine
end

