-- ==== Sys2Proof/Machine/ExecUpdate.lean ====
section
/-!
DEFINITION. Machine/ExecUpdate.lean: the meanings of the commands of keys and update: each its own effect, with what follows at once.
-/
namespace Sys2Proof.Machine

/-- KEY_IMPORT_SECRET (R563): A write of KeyImportSecret unwraps and stores a secret in slots 4 to 7. -/
def execKeyImportSecret (q : Sess) (data : List Byte) (s : State) : Host.Outcome State Fault Refusal :=
  s.complete (fun s => s.ownWrite q (fun s => s.keyImportSecret q data))

/-- KEY_IMPORT_PUBLIC (R564): A write of KeyImportPublic replaces the integrator image key after its signature check. -/
def execKeyImportPublic (q : Sess) (data : List Byte) (s : State) : Host.Outcome State Fault Refusal :=
  s.complete (fun s => s.ownWrite q (fun s => s.keyImportPublic q data))

/-- KEY_ERASE (R565): A write of KeyErase empties key slot 4 to 7. -/
def execKeyErase (q : Sess) (v : Int) (s : State) : Host.Outcome State Fault Refusal :=
  s.complete (fun s => s.ownWrite q (fun s => s.keyErase q v))

/-- KEY_REGISTER_LOAD (R566): A key register miss unwraps a blob into a volatile key register. -/
def execKeyRegisterLoad (slot : Nat) (ok : Bool) (s : State) : Host.Outcome State Fault Refusal :=
  s.complete (fun s => s.keyRegisterLoad slot ok)

/-- UPDATE_BEGIN (R576): A write of UpdateBegin erases the inactive image slot and sets it receiving. -/
def execUpdateBegin (q : Sess) (v : Int) (s : State) : Host.Outcome State Fault Refusal :=
  s.complete (fun s => s.ownWrite q (fun s => s.updateBegin q v))

/-- UPDATE_DATA (R576): A write of UpdateData appends image bytes to the inactive slot. -/
def execUpdateData (q : Sess) (data : List Byte) (s : State) : Host.Outcome State Fault Refusal :=
  s.complete (fun s => s.ownWrite q (fun s => s.updateData q data))

/-- UPDATE_VERIFY (R576): A write of UpdateVerify checks the received image and sets UpdateResult. -/
def execUpdateVerify (q : Sess) (v : Int) (s : State) : Host.Outcome State Fault Refusal :=
  s.complete (fun s => s.ownWrite q (fun s => s.updateVerify q v))

/-- TRIAL_CONFIRM (R577): After 300 s in an operating mode the trial image is confirmed and MinSecurityVersion raised. -/
def execTrialConfirm (s : State) : Host.Outcome State Fault Refusal :=
  s.complete (fun s => s.trialConfirm)

/-- TRIAL_TIMEOUT (R577): A trial image not in an operating mode 120 s after reset release reverts to the previous slot. -/
def execTrialTimeout (s : State) : Host.Outcome State Fault Refusal :=
  s.complete (fun s => s.trialTimeout)

/-- ACTIVATION_LOCAL (R583): ActivationCommand 0x01 schedules activation of this module alone. -/
def execActivationLocal (q : Sess) (s : State) : Host.Outcome State Fault Refusal :=
  s.complete (fun s => s.ownWrite q (fun s => s.activationLocal q))

/-- ACTIVATION_FLEET (R579): ActivationCommand 0x02 on the manager offers a fleet activation. -/
def execActivationFleet (q : Sess) (s : State) : Host.Outcome State Fault Refusal :=
  s.complete (fun s => s.ownWrite q (fun s => s.activationFleet q))

/-- ACTIVATION_CANCEL (R581): ActivationCommand 0x03 cancels the activation. -/
def execActivationCancel (q : Sess) (s : State) : Host.Outcome State Fault Refusal :=
  s.complete (fun s => s.ownWrite q (fun s => s.activationCancel q))

/-- ACTIVATION_OFFER_RX (R580): A module receives an activation offer and answers. -/
def execActivationOfferRx (source : Uplink) (s : State) : Host.Outcome State Fault Refusal :=
  s.complete (fun s => s.asInput (fun s => s.activationOfferRx source))

/-- ACTIVATION_ANSWER_RX (R580): A base receives an activation answer and updates ActivationReady. -/
def execActivationAnswerRx (source : Uplink) (s : State) : Host.Outcome State Fault Refusal :=
  s.complete (fun s => s.asInput (fun s => s.activationAnswerRx source))

/-- ACTIVATION_COMMIT_POINT (R581): At T − 10 s the manager commits or cancels the activation. -/
def execActivationCommitPoint (s : State) : Host.Outcome State Fault Refusal :=
  s.complete (fun s => s.activationCommitPoint)

/-- ACTIVATION_COMMIT_RX (R581): A module receives the commit and answers 0x05. -/
def execActivationCommitRx (source : Uplink) (s : State) : Host.Outcome State Fault Refusal :=
  s.complete (fun s => s.asInput (fun s => s.activationCommitRx source))

/-- ACTIVATION_CANCEL_RX (R581): A module receives an activation cancel. -/
def execActivationCancelRx (source : Uplink) (s : State) : Host.Outcome State Fault Refusal :=
  s.complete (fun s => s.asInput (fun s => s.activationCancelRx source))

/-- ACTIVATION_ANSWER_DEADLINE (R581): At T − 2 s a missing 0x05 answer cancels the activation. -/
def execActivationAnswerDeadline (s : State) : Host.Outcome State Fault Refusal :=
  s.complete (fun s => s.activationAnswerDeadline)

/-- ACTIVATION_TIME (R582): At T each committed module not in HALT marks the new slot in trial and makes the orderly save and reset. -/
def execActivationTime (s : State) : Host.Outcome State Fault Refusal :=
  s.complete (fun s => s.activationTime)

end Sys2Proof.Machine
end

