-- ==== Sys2Proof/Machine/ExecWork.lean ====
section
/-!
DEFINITION. Machine/ExecWork.lean: the meanings of the commands of fields, tracks, tasks and base links: each its own effect, with what follows at once.
-/
namespace Sys2Proof.Machine

/-- FIELD_LOAD (R289): A field record written to FieldLoad is checked, its map created and copied to workers. -/
def execFieldLoad (q : Sess) (data : List Byte) (s : State) : Host.Outcome State Fault Refusal :=
  s.complete (fun s => s.ownWrite q (fun s => s.fieldLoad q data))

/-- FIELD_UNLOAD (R290): A write of FieldUnload removes the field's tracks and tasks, or is refused. -/
def execFieldUnload (q : Sess) (v : Int) (s : State) : Host.Outcome State Fault Refusal :=
  s.complete (fun s => s.ownWrite q (fun s => s.fieldUnload q v))

/-- TRACK_LOAD (R291): A track block written to TrackLoad is checked and loaded whole. -/
def execTrackLoad (q : Sess) (data : List Byte) (s : State) : Host.Outcome State Fault Refusal :=
  s.complete (fun s => s.ownWrite q (fun s => s.trackLoad q data))

/-- TASK_LOAD (R294): A task record written to TaskLoad is checked and loaded whole. -/
def execTaskLoad (q : Sess) (data : List Byte) (s : State) : Host.Outcome State Fault Refusal :=
  s.complete (fun s => s.ownWrite q (fun s => s.taskLoad q data))

/-- FLEET_RECORD_COPY_RX (R286): A worker receives a field, track or task copy from the manager. -/
def execFleetRecordCopyRx (head : LinkHead) (object : Nat) (data : List Byte) (s : State) : Host.Outcome State Fault Refusal :=
  s.complete (fun s => s.asInput (fun s => s.fromLink head (fun s => s.fleetRecordCopyRx object data)))

/-- TASK_CANCEL (R302): TaskCommand 0x01 makes the task CANCELLED and frees its tracks. -/
def execTaskCancel (q : Sess) (s : State) : Host.Outcome State Fault Refusal :=
  s.complete (fun s => s.ownWrite q (fun s => s.taskCancel q))

/-- TASK_REVOKE (R302): TaskCommand 0x02 makes the task SUSPENDED and revokes its holder. -/
def execTaskRevoke (q : Sess) (s : State) : Host.Outcome State Fault Refusal :=
  s.complete (fun s => s.ownWrite q (fun s => s.taskRevoke q))

/-- TASK_HAND_OVER (R302): TaskCommand 0x03 passes every reservation of the task to the target in one step. -/
def execTaskHandOver (q : Sess) (s : State) : Host.Outcome State Fault Refusal :=
  s.complete (fun s => s.ownWrite q (fun s => s.taskHandOver q))

/-- TASK_OFFER (R295): The allotment planner offers a task to a capable machine. -/
def execTaskOffer (task machine : Nat) (s : State) : Host.Outcome State Fault Refusal :=
  s.complete (fun s => s.taskOffer task machine)

/-- OFFER_LAPSE (R295): An offer not claimed within 10 s lapses. -/
def execOfferLapse (task : Nat) (s : State) : Host.Outcome State Fault Refusal :=
  s.complete (fun s => s.offerLapse task)

/-- CLAIM_RX (R298): A claim reaches the manager's claim queue, forwarded by a worker if need be. -/
def execClaimRx (source : Uplink) (s : State) : Host.Outcome State Fault Refusal :=
  s.complete (fun s => s.asInput (fun s =>
    match s.uplink 2 source with
    | (s, none) => s
    | (s, some r) => s.claimRx r.1 r.2))

/-- CLAIM_DECISION (R297): The claim at the head of the queue is granted or refused in one indivisible step. -/
def execClaimDecision (s : State) : Host.Outcome State Fault Refusal :=
  s.complete (fun s => s.claimDecision)

/-- LEASE_EXPIRY (R300): A reservation's lease expires; its tracks become FREE and the task SUSPENDED. -/
def execLeaseExpiry (s : State) : Host.Outcome State Fault Refusal :=
  s.complete (fun s => s.leaseExpiry)

/-- TRACK_DONE_RX (R301): The base receives a track-done record and marks the track DONE. -/
def execTrackDoneRx (source : Uplink) (s : State) : Host.Outcome State Fault Refusal :=
  s.complete (fun s => s.asInput (fun s =>
    match s.uplink 4 source with
    | (s, none) => s
    | (s, some r) => s.trackDoneRx r.1 (fieldU r.2 0 2)))

/-- TASK_RELEASE_RX (R301): The base receives a task-release record and frees the task's tracks. -/
def execTaskReleaseRx (source : Uplink) (s : State) : Host.Outcome State Fault Refusal :=
  s.complete (fun s => s.asInput (fun s =>
    match s.uplink 5 source with
    | (s, none) => s
    | (s, some r) => s.taskReleaseRx r.1 (fieldU r.2 0 4)))

/-- CLAIM_REQUEST (R296): A write of ClaimRequest makes the rover send a claim. -/
def execClaimRequest (q : Sess) (data : List Byte) (s : State) : Host.Outcome State Fault Refusal :=
  s.complete (fun s => s.ownWrite q (fun s => s.claimRequest q data))

/-- TASK_RELEASE (R301): A write of TaskRelease unloads the rover's task and sends the release. -/
def execTaskRelease (q : Sess) (v : Int) (s : State) : Host.Outcome State Fault Refusal :=
  s.complete (fun s => s.ownWrite q (fun s => s.taskRelease q v))

/-- TRACK_DONE (R301): A write of TrackDone removes the track from TrackGeometry and sends the record. -/
def execTrackDone (q : Sess) (v : Int) (s : State) : Host.Outcome State Fault Refusal :=
  s.complete (fun s => s.ownWrite q (fun s => s.trackDone q v))

/-- BASE_LINK_HEARTBEAT (R310): Every 10 ms each base sends a base-link heartbeat. -/
def execBaseLinkHeartbeat (s : State) : Host.Outcome State Fault Refusal :=
  s.complete (fun s => s.baseLinkHeartbeat)

/-- BASE_LINK_TIMEOUT (R310): Nothing is heard from the manager for BaseLinkTimeout; the worker withdraws beacons and refuses claims. -/
def execBaseLinkTimeout (base : Nat) (s : State) : Host.Outcome State Fault Refusal :=
  s.complete (fun s => s.baseLinkTimeout base)

/-- BASE_LINK_RESTORED (R310): The base link returns and the worker resumes beaconing. -/
def execBaseLinkRestored (head : LinkHead) (base : Nat) (halted : Bool) (reports : List Nat) (s : State) : Host.Outcome State Fault Refusal :=
  s.complete (fun s => s.asInput (fun s => s.fromLink head (fun s => s.baseLinkRestored base halted reports)))

/-- RESERVATION_REPORT_RX (R331): A worker receives the manager's report of a reservation change for one of its machines. -/
def execReservationReportRx (head : LinkHead) (slot : Nat) (held : Bool) (s : State) : Host.Outcome State Fault Refusal :=
  s.complete (fun s => s.asInput (fun s => s.fromLink head (fun s => s.reservationReportRx slot held)))

end Sys2Proof.Machine
end

