-- ==== Sys2Proof/Machine/Dispatch.lean ====
section
/-!
DEFINITION. Machine/Dispatch.lean: one arm per command, each one direct call of its meaning.
-/
namespace Sys2Proof.Machine

/-- The effect of a command on everything but the queue of waiting commands. -/
def exec (i : Instr) (s : State) : Host.Outcome State Fault Refusal :=
  match i with
  | .powerOn vsns => Sys2Proof.Machine.execPowerOn vsns s
  | .pgoodRelease vhold => Sys2Proof.Machine.execPgoodRelease vhold s
  | .pgoodFall => Sys2Proof.Machine.execPgoodFall s
  | .strapSample lands vioA vioB nand badKeyCopies => Sys2Proof.Machine.execStrapSample lands vioA vioB nand badKeyCopies s
  | .nrstOutRelease => Sys2Proof.Machine.execNrstOutRelease s
  | .nrstInAssert ns => Sys2Proof.Machine.execNrstInAssert ns s
  | .vholdDischarged vhold => Sys2Proof.Machine.execVholdDischarged vhold s
  | .vholdMeasureStart => Sys2Proof.Machine.execVholdMeasureStart s
  | .vholdArmed us50 us20 => Sys2Proof.Machine.execVholdArmed us50 us20 s
  | .vholdChargeTimeout => Sys2Proof.Machine.execVholdChargeTimeout s
  | .vholdDisarm vhold => Sys2Proof.Machine.execVholdDisarm vhold s
  | .chargeCurrentChange vsns => Sys2Proof.Machine.execChargeCurrentChange vsns s
  | .bootComplete start => Sys2Proof.Machine.execBootComplete start s
  | .vinSag vsns => Sys2Proof.Machine.execVinSag vsns s
  | .vinOvervoltage vsns => Sys2Proof.Machine.execVinOvervoltage vsns s
  | .vinOvervoltageEnd vsns => Sys2Proof.Machine.execVinOvervoltageEnd vsns s
  | .isolationTimeout => Sys2Proof.Machine.execIsolationTimeout s
  | .vinSwell vsns => Sys2Proof.Machine.execVinSwell vsns s
  | .saveComplete us vhold => Sys2Proof.Machine.execSaveComplete us vhold s
  | .saveAbort => Sys2Proof.Machine.execSaveAbort s
  | .watchdogExpiry => Sys2Proof.Machine.execWatchdogExpiry s
  | .resetRequest q v => Sys2Proof.Machine.execResetRequest q v s
  | .orderlySaveComplete us vhold => Sys2Proof.Machine.execOrderlySaveComplete us vhold s
  | .pllLossOfLock domain => Sys2Proof.Machine.execPllLossOfLock domain s
  | .extRefLoss => Sys2Proof.Machine.execExtRefLoss s
  | .modeRequestBase q => Sys2Proof.Machine.execModeRequestBase q s
  | .modeRequestRover q => Sys2Proof.Machine.execModeRequestRover q s
  | .modeRequestRelay q => Sys2Proof.Machine.execModeRequestRelay q s
  | .modeRequestStandby q => Sys2Proof.Machine.execModeRequestStandby q s
  | .modeRequestSnapshot q => Sys2Proof.Machine.execModeRequestSnapshot q s
  | .modeRequestHalt q => Sys2Proof.Machine.execModeRequestHalt q s
  | .stopTrigger channel path => Sys2Proof.Machine.execStopTrigger channel path s
  | .stopDeassert channel path => Sys2Proof.Machine.execStopDeassert channel path s
  | .stopDiscrepancyTimeout => Sys2Proof.Machine.execStopDiscrepancyTimeout s
  | .stopCopy => Sys2Proof.Machine.execStopCopy s
  | .beaconResume => Sys2Proof.Machine.execBeaconResume s
  | .stopHeaderCheck sync frame => Sys2Proof.Machine.execStopHeaderCheck sync frame s
  | .stopFrameVerify frame => Sys2Proof.Machine.execStopFrameVerify frame s
  | .releaseRequest q v => Sys2Proof.Machine.execReleaseRequest q v s
  | .releaseFrame sync frame => Sys2Proof.Machine.execReleaseFrame sync frame s
  | .releaseMachines q v => Sys2Proof.Machine.execReleaseMachines q v s
  | .baseLinkStop origin => Sys2Proof.Machine.execBaseLinkStop origin s
  | .baseLinkStopRequest base => Sys2Proof.Machine.execBaseLinkStopRequest base s
  | .baseLinkRelease head => Sys2Proof.Machine.execBaseLinkRelease head s
  | .beaconTx => Sys2Proof.Machine.execBeaconTx s
  | .beaconCopyTx => Sys2Proof.Machine.execBeaconCopyTx s
  | .beaconRx frame tick rssi => Sys2Proof.Machine.execBeaconRx frame tick rssi s
  | .beaconMissed => Sys2Proof.Machine.execBeaconMissed s
  | .lostBase => Sys2Proof.Machine.execLostBase s
  | .announcedStepApply => Sys2Proof.Machine.execAnnouncedStepApply s
  | .downlinkFrameTx => Sys2Proof.Machine.execDownlinkFrameTx s
  | .uplinkReportTx => Sys2Proof.Machine.execUplinkReportTx s
  | .uplinkReportRx frame tick rssi => Sys2Proof.Machine.execUplinkReportRx frame tick rssi s
  | .uplinkMissed slot => Sys2Proof.Machine.execUplinkMissed slot s
  | .admissionRequestTx => Sys2Proof.Machine.execAdmissionRequestTx s
  | .admissionRetry => Sys2Proof.Machine.execAdmissionRetry s
  | .admissionRequestRx frame => Sys2Proof.Machine.execAdmissionRequestRx frame s
  | .admissionGrantRx frame => Sys2Proof.Machine.execAdmissionGrantRx frame s
  | .terminateRx frame => Sys2Proof.Machine.execTerminateRx frame s
  | .supervisionTimeout => Sys2Proof.Machine.execSupervisionTimeout s
  | .slotSupervisionTimeout slot => Sys2Proof.Machine.execSlotSupervisionTimeout slot s
  | .connectionDisable q => Sys2Proof.Machine.execConnectionDisable q s
  | .connectionEnable q => Sys2Proof.Machine.execConnectionEnable q s
  | .slotDisable q => Sys2Proof.Machine.execSlotDisable q s
  | .slotEnable q => Sys2Proof.Machine.execSlotEnable q s
  | .lbtAssessment power => Sys2Proof.Machine.execLbtAssessment power s
  | .floodFrameRx frame => Sys2Proof.Machine.execFloodFrameRx frame s
  | .floodCopyTx => Sys2Proof.Machine.execFloodCopyTx s
  | .seenCacheExpiry => Sys2Proof.Machine.execSeenCacheExpiry s
  | .correctionFragmentRx frames => Sys2Proof.Machine.execCorrectionFragmentRx frames s
  | .tileTransferRx frames => Sys2Proof.Machine.execTileTransferRx frames s
  | .offerRx frames => Sys2Proof.Machine.execOfferRx frames s
  | .claimResultRx frames => Sys2Proof.Machine.execClaimResultRx frames s
  | .taskLoadRx frames => Sys2Proof.Machine.execTaskLoadRx frames s
  | .taskTrackRx frames => Sys2Proof.Machine.execTaskTrackRx frames s
  | .revokedRx frames => Sys2Proof.Machine.execRevokedRx frames s
  | .separationAlertRx frames => Sys2Proof.Machine.execSeparationAlertRx frames s
  | .groupKeyRollover => Sys2Proof.Machine.execGroupKeyRollover s
  | .timeSourceQualified src solutions => Sys2Proof.Machine.execTimeSourceQualified src solutions s
  | .timeSourceLost src => Sys2Proof.Machine.execTimeSourceLost src s
  | .disciplineMeasure solution => Sys2Proof.Machine.execDisciplineMeasure solution s
  | .timeStep => Sys2Proof.Machine.execTimeStep s
  | .conversionSetApply => Sys2Proof.Machine.execConversionSetApply s
  | .compareLoad user target => Sys2Proof.Machine.execCompareLoad user target s
  | .clockOffsetRead q => Sys2Proof.Machine.execClockOffsetRead q s
  | .ppsOutRise => Sys2Proof.Machine.execPpsOutRise s
  | .ppsOutFall => Sys2Proof.Machine.execPpsOutFall s
  | .eventCapture input falling tick => Sys2Proof.Machine.execEventCapture input falling tick s
  | .ppsInTimeout => Sys2Proof.Machine.execPpsInTimeout s
  | .evtNext q => Sys2Proof.Machine.execEvtNext q s
  | .biasClassify ant milliamps atLimit gains => Sys2Proof.Machine.execBiasClassify ant milliamps atLimit gains s
  | .biasRetry ant => Sys2Proof.Machine.execBiasRetry ant s
  | .signalEnableWrite q v => Sys2Proof.Machine.execSignalEnableWrite q v s
  | .codeEpochDump channel tag samples => Sys2Proof.Machine.execCodeEpochDump channel tag samples s
  | .trackingFrame => Sys2Proof.Machine.execTrackingFrame s
  | .lossOfLock channel => Sys2Proof.Machine.execLossOfLock channel s
  | .channelRanking view => Sys2Proof.Machine.execChannelRanking view s
  | .acqRequest request => Sys2Proof.Machine.execAcqRequest request s
  | .acqPassComplete cells => Sys2Proof.Machine.execAcqPassComplete cells s
  | .acqVerifyComplete cells tag => Sys2Proof.Machine.execAcqVerifyComplete cells tag s
  | .navUnitComplete nav => Sys2Proof.Machine.execNavUnitComplete nav s
  | .navHostOutputWrite q v => Sys2Proof.Machine.execNavHostOutputWrite q v s
  | .snapshotTrigger q v => Sys2Proof.Machine.execSnapshotTrigger q v s
  | .snapshotInterval => Sys2Proof.Machine.execSnapshotInterval s
  | .snapshotCaptureComplete samples => Sys2Proof.Machine.execSnapshotCaptureComplete samples s
  | .snapshotProcessingComplete fix => Sys2Proof.Machine.execSnapshotProcessingComplete fix s
  | .snapshotDataRead q => Sys2Proof.Machine.execSnapshotDataRead q s
  | .snapshotRelease q v => Sys2Proof.Machine.execSnapshotRelease q v s
  | .snapshotWakeTimeWrite q v => Sys2Proof.Machine.execSnapshotWakeTimeWrite q v s
  | .snapshotWake => Sys2Proof.Machine.execSnapshotWake s
  | .observableEpoch clockResidual => Sys2Proof.Machine.execObservableEpoch clockResidual s
  | .obsHostOutputWrite q v => Sys2Proof.Machine.execObsHostOutputWrite q v s
  | .surveyInComplete positions => Sys2Proof.Machine.execSurveyInComplete positions s
  | .surveyInTimeout => Sys2Proof.Machine.execSurveyInTimeout s
  | .basePositionCheck x y z => Sys2Proof.Machine.execBasePositionCheck x y z s
  | .baseEcefWrite q axis v => Sys2Proof.Machine.execBaseEcefWrite q axis v s
  | .rtcmEpoch tcpSent => Sys2Proof.Machine.execRtcmEpoch tcpSent s
  | .ntripRetry connected => Sys2Proof.Machine.execNtripRetry connected s
  | .ntripGga => Sys2Proof.Machine.execNtripGga s
  | .ntripMessageRx number aligned more epoch => Sys2Proof.Machine.execNtripMessageRx number aligned more epoch s
  | .matchOperand flow epoch slot value need hold => Sys2Proof.Machine.execMatchOperand flow epoch slot value need hold s
  | .matchExpiry flow epoch => Sys2Proof.Machine.execMatchExpiry flow epoch s
  | .rtkSolution solution => Sys2Proof.Machine.execRtkSolution solution s
  | .ambiguityHoldExpiry => Sys2Proof.Machine.execAmbiguityHoldExpiry s
  | .headingSolution solution => Sys2Proof.Machine.execHeadingSolution solution s
  | .headingHoldExpiry => Sys2Proof.Machine.execHeadingHoldExpiry s
  | .imuSyncSample => Sys2Proof.Machine.execImuSyncSample s
  | .imuFrameRead frame => Sys2Proof.Machine.execImuFrameRead frame s
  | .poseInstant estimate => Sys2Proof.Machine.execPoseInstant estimate s
  | .programFrame program wait => Sys2Proof.Machine.execProgramFrame program wait s
  | .outputPhase program corrected uncorrectable => Sys2Proof.Machine.execOutputPhase program corrected uncorrectable s
  | .blvScrub corrected badGroups => Sys2Proof.Machine.execBlvScrub corrected badGroups s
  | .bankCopy q v => Sys2Proof.Machine.execBankCopy q v s
  | .coefInactiveWrite q v => Sys2Proof.Machine.execCoefInactiveWrite q v s
  | .bankSwapRequest q v => Sys2Proof.Machine.execBankSwapRequest q v s
  | .bankSwap => Sys2Proof.Machine.execBankSwap s
  | .groupEnable q => Sys2Proof.Machine.execGroupEnable q s
  | .groupDisable q => Sys2Proof.Machine.execGroupDisable q s
  | .groupResume q v => Sys2Proof.Machine.execGroupResume q v s
  | .kerbEvaluation crcOk => Sys2Proof.Machine.execKerbEvaluation crcOk s
  | .slotIssue => Sys2Proof.Machine.execSlotIssue s
  | .slotBoundary readback => Sys2Proof.Machine.execSlotBoundary readback s
  | .sectionDelayElapsed sec => Sys2Proof.Machine.execSectionDelayElapsed sec s
  | .chainFaultClear q v => Sys2Proof.Machine.execChainFaultClear q v s
  | .chainConfigWrite q which v => Sys2Proof.Machine.execChainConfigWrite q which v s
  | .sectionRecordWrite q which v => Sys2Proof.Machine.execSectionRecordWrite q which v s
  | .sectionModeWrite q v => Sys2Proof.Machine.execSectionModeWrite q v s
  | .masterEnableWrite q v => Sys2Proof.Machine.execMasterEnableWrite q v s
  | .segmentClose => Sys2Proof.Machine.execSegmentClose s
  | .tileCacheUpdate => Sys2Proof.Machine.execTileCacheUpdate s
  | .segmentRx source => Sys2Proof.Machine.execSegmentRx source s
  | .segmentPaint => Sys2Proof.Machine.execSegmentPaint s
  | .paintedSegmentRx head mseq machine record => Sys2Proof.Machine.execPaintedSegmentRx head mseq machine record s
  | .managerSegmentAckRx head slot seq => Sys2Proof.Machine.execManagerSegmentAckRx head slot seq s
  | .tileSend slot => Sys2Proof.Machine.execTileSend slot s
  | .checkpointStart => Sys2Proof.Machine.execCheckpointStart s
  | .checkpointComplete => Sys2Proof.Machine.execCheckpointComplete s
  | .mapRestoreComplete older => Sys2Proof.Machine.execMapRestoreComplete older s
  | .mapDelete q v => Sys2Proof.Machine.execMapDelete q v s
  | .fieldLoad q data => Sys2Proof.Machine.execFieldLoad q data s
  | .fieldUnload q v => Sys2Proof.Machine.execFieldUnload q v s
  | .trackLoad q data => Sys2Proof.Machine.execTrackLoad q data s
  | .taskLoad q data => Sys2Proof.Machine.execTaskLoad q data s
  | .fleetRecordCopyRx head object data => Sys2Proof.Machine.execFleetRecordCopyRx head object data s
  | .taskCancel q => Sys2Proof.Machine.execTaskCancel q s
  | .taskRevoke q => Sys2Proof.Machine.execTaskRevoke q s
  | .taskHandOver q => Sys2Proof.Machine.execTaskHandOver q s
  | .taskOffer task machine => Sys2Proof.Machine.execTaskOffer task machine s
  | .offerLapse task => Sys2Proof.Machine.execOfferLapse task s
  | .claimRx source => Sys2Proof.Machine.execClaimRx source s
  | .claimDecision => Sys2Proof.Machine.execClaimDecision s
  | .leaseExpiry => Sys2Proof.Machine.execLeaseExpiry s
  | .trackDoneRx source => Sys2Proof.Machine.execTrackDoneRx source s
  | .taskReleaseRx source => Sys2Proof.Machine.execTaskReleaseRx source s
  | .tileRequestRx source => Sys2Proof.Machine.execTileRequestRx source s
  | .claimRequest q data => Sys2Proof.Machine.execClaimRequest q data s
  | .taskRelease q v => Sys2Proof.Machine.execTaskRelease q v s
  | .trackDone q v => Sys2Proof.Machine.execTrackDone q v s
  | .separationCheck => Sys2Proof.Machine.execSeparationCheck s
  | .baseLinkHeartbeat => Sys2Proof.Machine.execBaseLinkHeartbeat s
  | .baseLinkTimeout base => Sys2Proof.Machine.execBaseLinkTimeout base s
  | .baseLinkRestored head base halted reports => Sys2Proof.Machine.execBaseLinkRestored head base halted reports s
  | .reservationReportRx head slot held => Sys2Proof.Machine.execReservationReportRx head slot held s
  | .ethFrameRx port frame drained => Sys2Proof.Machine.execEthFrameRx port frame drained s
  | .ethFrameTx port offered => Sys2Proof.Machine.execEthFrameTx port offered s
  | .ethLinkChange port answers up fullDuplex speed => Sys2Proof.Machine.execEthLinkChange port answers up fullDuplex speed s
  | .pauseRx port frame => Sys2Proof.Machine.execPauseRx port frame s
  | .pauseEnd port => Sys2Proof.Machine.execPauseEnd port s
  | .pauseTx port drained => Sys2Proof.Machine.execPauseTx port drained s
  | .pauseRepeat port => Sys2Proof.Machine.execPauseRepeat port s
  | .ethDisable q => Sys2Proof.Machine.execEthDisable q s
  | .ethDisableComplete port => Sys2Proof.Machine.execEthDisableComplete port s
  | .ethEnable q => Sys2Proof.Machine.execEthEnable q s
  | .wakeMatch port frame => Sys2Proof.Machine.execWakeMatch port frame s
  | .gateCommit q v => Sys2Proof.Machine.execGateCommit q v s
  | .gateListStart port => Sys2Proof.Machine.execGateListStart port s
  | .ptpMessageRx port m => Sys2Proof.Machine.execPtpMessageRx port m s
  | .ptpMessageTx port k => Sys2Proof.Machine.execPtpMessageTx port k s
  | .ptpAnnounceTimeout port => Sys2Proof.Machine.execPtpAnnounceTimeout port s
  | .canBusOff ctl => Sys2Proof.Machine.execCanBusOff ctl s
  | .canRecover q v => Sys2Proof.Machine.execCanRecover q v s
  | .canRecoveryComplete ctl => Sys2Proof.Machine.execCanRecoveryComplete ctl s
  | .canFrameRx ctl f drained => Sys2Proof.Machine.execCanFrameRx ctl f drained s
  | .sdoRequest write addr => Sys2Proof.Machine.execSdoRequest write addr s
  | .rpdoRx n data busy => Sys2Proof.Machine.execRpdoRx n data busy s
  | .tpdoTx n => Sys2Proof.Machine.execTpdoTx n s
  | .syncRx => Sys2Proof.Machine.execSyncRx s
  | .canopenHeartbeatTx => Sys2Proof.Machine.execCanopenHeartbeatTx s
  | .heartbeatConsumerTimeout entry => Sys2Proof.Machine.execHeartbeatConsumerTimeout entry s
  | .nmtResetNode => Sys2Proof.Machine.execNmtResetNode s
  | .nmtResetCommunication => Sys2Proof.Machine.execNmtResetCommunication s
  | .nmtStop => Sys2Proof.Machine.execNmtStop s
  | .nmtStart => Sys2Proof.Machine.execNmtStart s
  | .nmtPreOperational => Sys2Proof.Machine.execNmtPreOperational s
  | .addressClaim got => Sys2Proof.Machine.execAddressClaim got s
  | .sectionSetpointRx ddi value => Sys2Proof.Machine.execSectionSetpointRx ddi value s
  | .rateSetpointRx ddi product value => Sys2Proof.Machine.execRateSetpointRx ddi product value s
  | .workStateTx => Sys2Proof.Machine.execWorkStateTx s
  | .actualRateTx => Sys2Proof.Machine.execActualRateTx s
  | .tcStatusTimeout => Sys2Proof.Machine.execTcStatusTimeout s
  | .ddUpload => Sys2Proof.Machine.execDdUpload s
  | .positionPgnTx pgn => Sys2Proof.Machine.execPositionPgnTx pgn s
  | .pulseEdge input stamp a b => Sys2Proof.Machine.execPulseEdge input stamp a b s
  | .creditTick => Sys2Proof.Machine.execCreditTick s
  | .rateUpdate => Sys2Proof.Machine.execRateUpdate s
  | .intervalEnd => Sys2Proof.Machine.execIntervalEnd s
  | .meterConfigWrite q which v => Sys2Proof.Machine.execMeterConfigWrite q which v s
  | .meterSnapshot q v => Sys2Proof.Machine.execMeterSnapshot q v s
  | .meterClear q v => Sys2Proof.Machine.execMeterClear q v s
  | .vinSample mv => Sys2Proof.Machine.execVinSample mv s
  | .vinEventNext q => Sys2Proof.Machine.execVinEventNext q s
  | .profileTick => Sys2Proof.Machine.execProfileTick s
  | .axisEnable q => Sys2Proof.Machine.execAxisEnable q s
  | .axisDisable q => Sys2Proof.Machine.execAxisDisable q s
  | .aenOnDelayElapsed axis => Sys2Proof.Machine.execAenOnDelayElapsed axis s
  | .aenOffDelayElapsed axis => Sys2Proof.Machine.execAenOffDelayElapsed axis s
  | .axisModeWrite q v => Sys2Proof.Machine.execAxisModeWrite q v s
  | .moveTarget q v => Sys2Proof.Machine.execMoveTarget q v s
  | .velocityTarget q v => Sys2Proof.Machine.execVelocityTarget q v s
  | .segmentStart q v => Sys2Proof.Machine.execSegmentStart q v s
  | .segmentEntryWrite q data => Sys2Proof.Machine.execSegmentEntryWrite q data s
  | .axisStop q v => Sys2Proof.Machine.execAxisStop q v s
  | .axisResume q v => Sys2Proof.Machine.execAxisResume q v s
  | .positionPreset q v => Sys2Proof.Machine.execPositionPreset q v s
  | .accelerationWrite q v => Sys2Proof.Machine.execAccelerationWrite q v s
  | .maxVelocityWrite q v => Sys2Proof.Machine.execMaxVelocityWrite q v s
  | .groupMembersWrite q v => Sys2Proof.Machine.execGroupMembersWrite q v s
  | .groupTarget q data => Sys2Proof.Machine.execGroupTarget q data s
  | .groupStop q v => Sys2Proof.Machine.execGroupStop q v s
  | .groupAxisResume q v => Sys2Proof.Machine.execGroupAxisResume q v s
  | .axisFault gpio high => Sys2Proof.Machine.execAxisFault gpio high s
  | .stepInEdge input tick => Sys2Proof.Machine.execStepInEdge input tick s
  | .followTimeout axis => Sys2Proof.Machine.execFollowTimeout axis s
  | .hostRead header => Sys2Proof.Machine.execHostRead header s
  | .hostWrite header data crc => Sys2Proof.Machine.execHostWrite header data crc s
  | .pop header cut => Sys2Proof.Machine.execPop header cut s
  | .push header data crc => Sys2Proof.Machine.execPush header data crc s
  | .pushEnd header data crc => Sys2Proof.Machine.execPushEnd header data crc s
  | .hcsNRise unfinished => Sys2Proof.Machine.execHcsNRise unfinished s
  | .irqStatusWrite clear raised => Sys2Proof.Machine.execIrqStatusWrite clear raised s
  | .queuePacketAbort queue => Sys2Proof.Machine.execQueuePacketAbort queue s
  | .dictRead q tag base addr => Sys2Proof.Machine.execDictRead q tag base addr s
  | .dictWrite q tag base addr data => Sys2Proof.Machine.execDictWrite q tag base addr data s
  | .dictReadSegment q tag base addr offset => Sys2Proof.Machine.execDictReadSegment q tag base addr offset s
  | .dictWriteSegment q tag base addr offset data more => Sys2Proof.Machine.execDictWriteSegment q tag base addr offset data more s
  | .dictCancel q => Sys2Proof.Machine.execDictCancel q s
  | .dictBusyTimeout q => Sys2Proof.Machine.execDictBusyTimeout q s
  | .dictRequestApply q => Sys2Proof.Machine.execDictRequestApply q s
  | .storeCommit => Sys2Proof.Machine.execStoreCommit s
  | .storeParameters q sub signature => Sys2Proof.Machine.execStoreParameters q sub signature s
  | .restoreDefaultParameters q sub signature => Sys2Proof.Machine.execRestoreDefaultParameters q sub signature s
  | .accessChallenge q random => Sys2Proof.Machine.execAccessChallenge q random s
  | .accessResponse q data => Sys2Proof.Machine.execAccessResponse q data s
  | .accessDrop q v => Sys2Proof.Machine.execAccessDrop q v s
  | .accessLockoutEnd q => Sys2Proof.Machine.execAccessLockoutEnd q s
  | .sessionTimeout q => Sys2Proof.Machine.execSessionTimeout q s
  | .tcpConnect port tcp => Sys2Proof.Machine.execTcpConnect port tcp s
  | .tcpClose n => Sys2Proof.Machine.execTcpClose n s
  | .tunnelRequestRx origin sec frames => Sys2Proof.Machine.execTunnelRequestRx origin sec frames s
  | .tunnelResponseRx frames => Sys2Proof.Machine.execTunnelResponseRx frames s
  | .remoteTimeout slot => Sys2Proof.Machine.execRemoteTimeout slot s
  | .journalWrite kind => Sys2Proof.Machine.execJournalWrite kind s
  | .mramScrub corrected uncorrectable badKeyCopies => Sys2Proof.Machine.execMramScrub corrected uncorrectable badKeyCopies s
  | .nandScrub found => Sys2Proof.Machine.execNandScrub found s
  | .nandRefresh block target => Sys2Proof.Machine.execNandRefresh block target s
  | .wearLevelMove block target => Sys2Proof.Machine.execWearLevelMove block target s
  | .nandBlockRetire block spare failed => Sys2Proof.Machine.execNandBlockRetire block spare failed s
  | .asAppliedExportedWrite q v => Sys2Proof.Machine.execAsAppliedExportedWrite q v s
  | .tileDamaged map tile => Sys2Proof.Machine.execTileDamaged map tile s
  | .tileRebuildComplete map tile => Sys2Proof.Machine.execTileRebuildComplete map tile s
  | .milestoneSample item load => Sys2Proof.Machine.execMilestoneSample item load s
  | .milestoneHomeWrite => Sys2Proof.Machine.execMilestoneHomeWrite s
  | .milestoneFreeze q => Sys2Proof.Machine.execMilestoneFreeze q s
  | .milestoneUnfreeze q => Sys2Proof.Machine.execMilestoneUnfreeze q s
  | .milestoneFreezeExpiry => Sys2Proof.Machine.execMilestoneFreezeExpiry s
  | .milestoneClear q v => Sys2Proof.Machine.execMilestoneClear q v s
  | .keyImportSecret q data => Sys2Proof.Machine.execKeyImportSecret q data s
  | .keyImportPublic q data => Sys2Proof.Machine.execKeyImportPublic q data s
  | .keyErase q v => Sys2Proof.Machine.execKeyErase q v s
  | .keyRegisterLoad slot ok => Sys2Proof.Machine.execKeyRegisterLoad slot ok s
  | .uartImageBlock block => Sys2Proof.Machine.execUartImageBlock block s
  | .updateBegin q v => Sys2Proof.Machine.execUpdateBegin q v s
  | .updateData q data => Sys2Proof.Machine.execUpdateData q data s
  | .updateVerify q v => Sys2Proof.Machine.execUpdateVerify q v s
  | .trialConfirm => Sys2Proof.Machine.execTrialConfirm s
  | .trialTimeout => Sys2Proof.Machine.execTrialTimeout s
  | .activationLocal q => Sys2Proof.Machine.execActivationLocal q s
  | .activationFleet q => Sys2Proof.Machine.execActivationFleet q s
  | .activationCancel q => Sys2Proof.Machine.execActivationCancel q s
  | .activationOfferRx source => Sys2Proof.Machine.execActivationOfferRx source s
  | .activationAnswerRx source => Sys2Proof.Machine.execActivationAnswerRx source s
  | .activationCommitPoint => Sys2Proof.Machine.execActivationCommitPoint s
  | .activationCommitRx source => Sys2Proof.Machine.execActivationCommitRx source s
  | .activationCancelRx source => Sys2Proof.Machine.execActivationCancelRx source s
  | .activationAnswerDeadline => Sys2Proof.Machine.execActivationAnswerDeadline s
  | .activationTime => Sys2Proof.Machine.execActivationTime s
  | .linkTrained => Sys2Proof.Machine.execLinkTrained s
  | .laneDrop lane => Sys2Proof.Machine.execLaneDrop lane s
  | .laneRejoin lane => Sys2Proof.Machine.execLaneRejoin lane s
  | .zlFrameRx f => Sys2Proof.Machine.execZlFrameRx f s
  | .zlRetransmitTimeout crcFailed => Sys2Proof.Machine.execZlRetransmitTimeout crcFailed s
  | .heartbeatTx fresh => Sys2Proof.Machine.execHeartbeatTx fresh s
  | .hbPulseRx => Sys2Proof.Machine.execHbPulseRx s
  | .healthTokenExpiry => Sys2Proof.Machine.execHealthTokenExpiry s
  | .heartbeatLoss => Sys2Proof.Machine.execHeartbeatLoss s
  | .depose => Sys2Proof.Machine.execDepose s
  | .fence => Sys2Proof.Machine.execFence s
  | .haltOutTakeover => Sys2Proof.Machine.execHaltOutTakeover s
  | .partnerArbitration foreignLow higher => Sys2Proof.Machine.execPartnerArbitration foreignLow higher s
  | .dualActiveDetect pulse higher => Sys2Proof.Machine.execDualActiveDetect pulse higher s
  | .transferComplete => Sys2Proof.Machine.execTransferComplete s
  | .mirroredInputRx seq frame x => Sys2Proof.Machine.execMirroredInputRx seq frame x s
  | .mirrorTimeout => Sys2Proof.Machine.execMirrorTimeout s
  | .frameDigest => Sys2Proof.Machine.execFrameDigest s
  | .roleSwitch => Sys2Proof.Machine.execRoleSwitch s
  | .dieTemperatureSample milliC => Sys2Proof.Machine.execDieTemperatureSample milliC s
  | .workerRelayRx head slot r => Sys2Proof.Machine.execWorkerRelayRx head slot r s
  | .baseLinkDictResponseRx head data => Sys2Proof.Machine.execBaseLinkDictResponseRx head data s
  | .tcStatusRx => Sys2Proof.Machine.execTcStatusRx s
  | .canErrorPassive ctl tec => Sys2Proof.Machine.execCanErrorPassive ctl tec s
  | .ntripConnectionLost => Sys2Proof.Machine.execNtripConnectionLost s
  | .rtcmTcpConnect port => Sys2Proof.Machine.execRtcmTcpConnect port s
  | .faultInputDeassert gpio high => Sys2Proof.Machine.execFaultInputDeassert gpio high s

end Sys2Proof.Machine
end

