-- ==== Sys2Proof/Safety.lean ====
section
/-!
DEFINITION. Safety.lean: the terms of the claims: the parts of the state and what it means to change only some of them, when a
session's write or read is taken, and what the output lands may show.
-/
namespace Sys2Proof.Machine

/-- The parts of the state, one per field. -/
inductive Part where
  | mode | boot | outputs | power | clk | roundabout | queues | host | mbox | sessions | remotes | gnss | obs | baseRef | nav | blv | kerb | cover | cache | fleet | radio | crier | gate | tram | net | meter | zheoc | store | milestone | dict | bootDict | octets | periods | draws | pending
  deriving DecidableEq, Repr

/-- Two states agree in a part. -/
def State.agree (s t : State) : Part → Prop
  | .mode => s.mode = t.mode
  | .boot => s.boot = t.boot
  | .outputs => s.outputs = t.outputs
  | .power => s.power = t.power
  | .clk => s.clk = t.clk
  | .roundabout => s.roundabout = t.roundabout
  | .queues => s.queues = t.queues
  | .host => s.host = t.host
  | .mbox => s.mbox = t.mbox
  | .sessions => s.sessions = t.sessions
  | .remotes => s.remotes = t.remotes
  | .gnss => s.gnss = t.gnss
  | .obs => s.obs = t.obs
  | .baseRef => s.baseRef = t.baseRef
  | .nav => s.nav = t.nav
  | .blv => s.blv = t.blv
  | .kerb => s.kerb = t.kerb
  | .cover => s.cover = t.cover
  | .cache => s.cache = t.cache
  | .fleet => s.fleet = t.fleet
  | .radio => s.radio = t.radio
  | .crier => s.crier = t.crier
  | .gate => s.gate = t.gate
  | .tram => s.tram = t.tram
  | .net => s.net = t.net
  | .meter => s.meter = t.meter
  | .zheoc => s.zheoc = t.zheoc
  | .store => s.store = t.store
  | .milestone => s.milestone = t.milestone
  | .dict => s.dict = t.dict
  | .bootDict => s.bootDict = t.bootDict
  | .octets => s.octets = t.octets
  | .periods => s.periods = t.periods
  | .draws => s.draws = t.draws
  | .pending => s.pending = t.pending

/-- From s to t nothing changes outside the listed parts. -/
def State.changesOnly (ps : List Part) (s t : State) : Prop := ∀ p : Part, ps.contains p = false → s.agree t p

/-- What entry to HALT writes beside what follows it (R51, R52, R101, R251, R311, R473): the mode, the interrupt flags, the halt flag
in MRAM, the snapshot receiver, the sections and the chain, loops, axes, and what goes to other bases. -/
def haltParts : List Part := [.mode, .host, .gnss, .store, .milestone, .draws, .dict, .kerb, .blv, .tram, .fleet, .gate]

/-- What leaving HALT writes (R44, R101, R376). -/
def releaseParts : List Part := [.mode, .host, .store, .milestone, .draws, .dict, .radio, .kerb, .blv, .tram]

/-- The transitions that R44 permits to a ModeRequest. -/
def requestPermitted (old m : Mode) : Bool :=
  match old, m with
  | .rover, .snapshot | .snapshot, .rover | .base, .standby | .base, .halt | .rover, .halt | .relay, .halt => true
  | _, _ => false

/-- The command that writes ModeRequest for a mode from a session. -/
def requestOf (q : Sess) : Mode → Option Instr
  | .base => some (.modeRequestBase q)
  | .rover => some (.modeRequestRover q)
  | .relay => some (.modeRequestRelay q)
  | .standby => some (.modeRequestStandby q)
  | .snapshot => some (.modeRequestSnapshot q)
  | .halt => some (.modeRequestHalt q)
  | _ => none

/-! ### Supply (R83, R86, R89, R104) -/

/-- The supply block once VSNS reads a level in mV. -/
def PowerState.seen (p : PowerState) (v : Nat) : PowerState :=
  { p with vsns := v, swell := decide (33000 < v), isolated := p.isolated && decide (35000 ≤ v)
           reduced := if v < 4500 then true else if 4700 < v then false else p.reduced
           fullThroughout := p.fullThroughout && decide (4500 ≤ v) }

/-- The store once a save has begun: the target area is invalid; in BOOT before VHOLD is armed nothing is written. -/
def State.targetCleared (s : State) : StoreState :=
  if s.unarmedBoot then s.store else if s.newestIsA then { s.store with areaB := none } else { s.store with areaA := none }

/-- The supply block once a save of a kind has begun. -/
def State.savingNow (s : State) (k : SaveKind) : PowerState :=
  { s.power with saving := some k, saveFrom := s.power.vhold, saveAt := s.now, saveTime := s.stampTime }

/-! ### Requests of sessions (R501, R503 to R510, R592) -/

/-- The session may make a request of its own now: the unit is not deposed, and none of the session's is outstanding. -/
def State.ready (s : State) (q : Sess) : Prop :=
  s.zheoc.deposed = false ∧ (q = .host → s.mbox.state ≠ .busy) ∧ s.outstanding q = 0 ∧ s.reaches q = true

/-- A write of a number is taken: the object may be written by the session now, and the value is in type and range. -/
def State.takesWrite (s : State) (q : Sess) (o : ObjDesc) (v : Int) : Prop :=
  s.ready q ∧ s.objCheck q o true = none ∧ s.valueOk o (s.instanceOf q o) v = true

/-- A write of bytes is taken. -/
def State.takesBytes (s : State) (q : Sess) (o : ObjDesc) (data : List Byte) : Prop :=
  s.ready q ∧ s.objCheck q o true = none ∧ lengthCheck o data = none

/-- A read is taken. -/
def State.takesRead (s : State) (q : Sess) (o : ObjDesc) : Prop := s.ready q ∧ s.objCheck q o false = none

/-- The state in which a session's own write acts: mirrored where a pair is in step, and in service. -/
def State.begun (s : State) (q : Sess) (o : ObjDesc) (data : List Byte) : State := s.noteInput.serve q 2 o data

/-- The state in which a session's own read acts. -/
def State.asked (s : State) (q : Sess) (o : ObjDesc) : State := s.serve q 1 o []

/-- The request of the session in s is answered without error from the state u that it leads to (R501, R523). -/
def State.acked (s u : State) (q : Sess) (data : List Byte) : State := u.answer q (s.ownTag q) 0 data false

/-- The session's oldest waiting request begins now: none is in service, and 200 ms have not passed since it arrived (R513, R517). -/
def State.begins (s : State) (q : Sess) (r : Request) : Prop :=
  s.zheoc.deposed = false ∧ s.reaches q = true ∧ (s.session q).serving = none ∧ (∃ l, (s.session q).waiting = r :: l) ∧ s.now < r.since + ticksMs 200

/-- The state in which that request acts: out of the queue and in service; a write is mirrored where a pair is in step. -/
def State.taken (s : State) (q : Sess) (r : Request) : State :=
  (s.noteWrite q).updSession q (fun x => { x with waiting := x.waiting.drop 1, serving := some r })

/-- That request is served here, outside BOOT, on an object that exists. -/
def State.serves (s : State) (q : Sess) (r : Request) (o : ObjDesc) : Prop :=
  s.begins q r ∧ r.base = 255 ∧ s.mode.current ≠ .boot ∧ objOf r.addr = some o ∧ (s.isBase && remoteCapable o) = false

/-- The request of the session is refused with an abort code (R534). -/
def State.nacked (s u : State) (q : Sess) (a : Abort) : State := u.answer q (s.ownTag q) a [] false

/-! ### Inputs and frames (R321 to R323, R345, R592, R597) -/

/-- The unit applies what reaches it from the field: not deposed by its partner, and not in STANDBY. -/
def State.heeds (s : State) : Prop := s.zheoc.deposed = false ∧ s.mode.current ≠ .standby

/-- The air has room for any frame of a PHY mode on the channel of a map. -/
def State.airFree (s : State) (phy map : Nat) : Prop :=
  ∀ n ≤ 269, s.airHolds phy (s.subBand map (s.channelOf map phy)) (s.channelOf map phy) (airUs phy n) = true

/-- The frame that the device would build of a body next. -/
def State.ownFrame (s : State) (type dst ttl : Nat) (flood : Bool) (body : List Byte) : AirFrame := (s.newFrame type dst ttl flood body).1

/-- The session key of a slot is formed (R566): at a base the slot is connected or closing, at a rover its own key stands. -/
def State.sessionKeyed (s : State) (n : Nat) : Prop :=
  if s.isBase then (s.slot n).state = .connected ∨ (s.slot n).state = .closing else s.radio.sessionKey.isSome = true

/-- The fields of a frame are in their ranges, and its body fits a frame. -/
def AirFrame.wf (f : AirFrame) : Prop :=
  f.type < 16 ∧ f.ttl < 8 ∧ f.src < 256 ∧ f.dst < 256 ∧ f.net < 16 ∧ f.fseq < 65536 ∧ f.body.length ≤ 255 ∧ f.mic.length = 4

/-! ### Output lands (R47, R71, R499, R592, R598, R601) -/

/-- The lands of a mode: all Hi-Z in RESET, BOOT and HOLDUP, but for the clock-free drive of R36; HALT_OUT high in HALT, unless a takeover or a fence holds it, and low
only in a mode that runs; SEC_OE_N low only with the chain's outputs enabled in ROVER or SNAPSHOT; no radio output of a fenced unit;
HIRQ_N low exactly while an enabled flag is set. -/
def State.landsHold (s : State) : Prop :=
  ((s.mode.current = .reset ∨ s.mode.current = .boot ∨ s.mode.current = .holdup) → s.mode.clockFail = none →
    s.outputs.haltOutA = .hiZ ∧ s.outputs.haltOutB = .hiZ ∧ s.outputs.secOeN = .hiZ ∧ s.outputs.secChain = .hiZ ∧
    s.outputs.tram = .hiZ ∧ s.outputs.radio = .hiZ ∧ s.outputs.ppsOut = .hiZ) ∧
  (s.mode.current = .halt → s.zheoc.haltOutFrom = none → s.zheoc.fenced = false → s.outputs.haltOutA = .high ∧ s.outputs.haltOutB = .high) ∧
  (s.outputs.haltOutA = .low → s.mode.current = .base ∨ s.mode.current = .relay ∨ s.mode.current = .rover ∨ s.mode.current = .snapshot ∨
    s.mode.current = .standby) ∧
  (s.outputs.secOeN = .low → (s.mode.current = .rover ∨ s.mode.current = .snapshot) ∧ s.kerb.chain.oe = true) ∧
  (s.zheoc.fenced = true → s.outputs.radio = .hiZ) ∧
  (s.running = true → s.boot.vioB33.isSome = true → (s.outputs.hirqN = .low ↔ s.host.irqStatus &&& s.host.irqEnable ≠ 0))

end Sys2Proof.Machine
end

