-- ==== Sys2Proof/Certificates/Slice0/Obligations.lean ====
section
/-!
DEFINITION. Obligations.lean: the statements for the provers. A clause that names the next state as `.next (s.settled t)`, with what t holds,
says both that the command completes and what it leaves; `changesOnly` is the frame: every part of the state outside its list stays. What a session's own write or read rests on
is the model's choice of log 54.
-/
open Sys2Proof Sys2Proof.Machine

/-! ## Power, reset and hold-up (spec/03) -/

/-- Parts of R77, R83, R85. A start, one command a clause with the whole state that it leads to: POWER_ON starts the converter;
PGOOD_RELEASE charges VHOLD below 10 V and first discharges it from there; VHOLD_DISCHARGED below 9.5 V begins the charge;
VHOLD_MEASURE_START begins the measurement; VHOLD_ARMED reports the capacitance and arms VHOLD from 420 µF, with VHOLD_LOW up to 520 µF,
and is a VHOLD fault below 420 µF; VHOLD_CHARGE_TIMEOUT is a fault after 3 s, or 8 s where VSNS was below 4.5 V; NRST_OUT_RELEASE
releases NRST_OUT when it is due. Parts of R35, R86, R89, R90. While running: VHOLD_DISARM below 22 V clears VHOLD_ARMED; VHOLD back at
22 V sets it; VSNS above 36.0 V opens the input switch; CHARGE_CURRENT_CHANGE, VIN_OVERVOLTAGE_END and VIN_SWELL each give VSNS,
VIN_SWELL at 33.0 V, the charge current, and below 35.0 V the closed switch, with a Milestone entry where the isolation lasted less than
1 ms; VIN_SAMPLE leaves the mode and the supply block as they are; EXT_REF_LOSS falls back to the TCXO. Of the model are the points of
log 68. -/
def Obligations.Supply : Prop :=
  (∀ (s : State) (v : Nat), s.mode.current = .reset → s.power.converterOn = false → belowVolts v s.startLevel = false → s.power.isolated = false →
    exec (.powerOn v) s = .next (s.settled { s with power := { s.power.seen v with converterOn := true } })) ∧
  (∀ (s : State) (v : Nat), s.power.converterOn = true → s.power.pgood = false →
    exec (.pgoodRelease v) s = .next (s.settled { s with power := { s.power with
      pgood := true, vhold := v, phase := if 10000 ≤ v then .discharging else .charging,
      reduced := decide (s.power.vsns < 4500), fullThroughout := decide (4500 ≤ s.power.vsns), chargeTime := 0 } })) ∧
  (∀ (s : State) (v : Nat), s.power.phase = .discharging → v < 9500 →
    exec (.vholdDischarged v) s = .next (s.settled { s with power := { s.power with
      phase := .charging, vhold := v, chargeTime := 0, fullThroughout := decide (4500 ≤ s.power.vsns) } })) ∧
  (∀ s : State, s.power.phase = .charging →
    exec .vholdMeasureStart s = .next (s.settled { s with power := { s.power with phase := .measuring, vhold := 10000 } })) ∧
  (∀ (s : State) (a b : Nat), s.power.phase = .measuring → 420 ≤ min 65535 ((50 * a + 20 * b) / 12000) →
    ∃ t, exec (.vholdArmed a b) s = .next (s.settled t) ∧ s.changesOnly [.power, .dict, .milestone, .draws] t ∧
      t.power = { s.power with phase := .armed, armed := true, vhold := 22000,
                               vholdLow := s.power.vholdLow || decide (min 65535 ((50 * a + 20 * b) / 12000) ≤ 520) } ∧
      t.reg Obj.vholdCapacitance = (min 65535 ((50 * a + 20 * b) / 12000) : Nat)) ∧
  (∀ (s : State) (a b : Nat), s.power.phase = .measuring → min 65535 ((50 * a + 20 * b) / 12000) < 420 →
    ∃ t, exec (.vholdArmed a b) s = .next (s.settled t) ∧ s.changesOnly [.power, .dict, .milestone] t ∧
      t.power = { s.power with phase := .fault, vholdFault := true, vhold := 22000 } ∧
      t.reg Obj.vholdCapacitance = (min 65535 ((50 * a + 20 * b) / 12000) : Nat)) ∧
  (∀ s : State, s.power.phase = .charging ∨ s.power.phase = .measuring →
    ticksS (if s.power.fullThroughout then 3 else 8) ≤ s.power.chargeTime →
    exec .vholdChargeTimeout s = .next (s.settled { s with power := { s.power with phase := .fault, vholdFault := true } })) ∧
  (∀ s : State, s.boot.nrstOutLow = true → s.due s.boot.nrstOutDue = true →
    exec .nrstOutRelease s = .next (s.settled { s with boot := { s.boot with nrstOutLow := false, nrstOutDue := none } })) ∧
  (∀ (s : State) (v : Nat), s.power.phase = .armed → v < 22000 →
    exec (.vholdDisarm v) s = .next (s.settled { s with power := { s.power with armed := false, vhold := v } })) ∧
  (∀ (s : State) (a b : Nat), s.power.phase = .armed →
    exec (.vholdArmed a b) s = .next (s.settled { s with power := { s.power with armed := true, vhold := 22000 } })) ∧
  (∀ (s : State) (v : Nat), 36000 < v → s.power.isolated = false →
    exec (.vinOvervoltage v) s = .next (s.settled { s with power := { s.power.seen v with isolated := true, isolatedFor := 0 } })) ∧
  (∀ (s : State) (v : Nat), (s.power.isolated = false ∨ 35000 ≤ v ∨ s.running = false ∨ ticksMs 1 ≤ s.power.isolatedFor) →
    let t := s.settled { s with power := s.power.seen v }
    exec (.chargeCurrentChange v) s = .next t ∧ exec (.vinOvervoltageEnd v) s = .next t ∧ exec (.vinSwell v) s = .next t) ∧
  (∀ (s : State) (v : Nat), s.power.isolated = true → v < 35000 → s.running = true → s.power.isolatedFor < ticksMs 1 →
    ∃ t, (exec (.chargeCurrentChange v) s = .next (s.settled t) ∧ exec (.vinOvervoltageEnd v) s = .next (s.settled t) ∧
        exec (.vinSwell v) s = .next (s.settled t)) ∧ t = ({ s with power := s.power.seen v } : State).milestoneEntry 0x81 ∧
      s.changesOnly [.power, .milestone, .draws] t ∧ t.power = s.power.seen v ∧ t.power.isolated = false) ∧
  (∀ (s : State) (v : Nat), ∃ t, exec (.vinSample v) s = .next (s.settled t) ∧ t.mode = s.mode ∧ t.power = s.power) ∧
  (∀ s : State, s.running = true → s.mode.extRef = true →
    exec .extRefLoss s = .next (s.settled { s with mode := { s.mode with extRef := false, refLost := true } }))

/-- Parts of R72, R77, R96, R101, R103, R379, R510. What RESET is entered with, whatever the source: the mode held is kept as the one
before, C is 0, the source and the outcome of the save are noted, every output land is Hi-Z, no session, remote request, stalled
transfer or slot is left, sections and axes stand as at reset; of MRAM and NAND the journal and its spill, the save areas, the copies of
the stored set, the key slots, the image slots, the boot anchor and Milestone's home copies are as they were; the waiting commands too.
Of the model are the points of log 49, 66. -/
def Obligations.ResetEntry : Prop :=
  ∀ (s : State) (src : ResetSource) (rails done aborted : Bool),
    let t := s.enterReset src rails done aborted
    t.mode.current = .reset ∧ t.mode.prev = s.mode.current ∧ t.clk.c = 0 ∧ t.power.endedBy = src ∧ t.power.saveDone = done ∧
    t.power.saveAborted = aborted ∧ t.power.converterOn = (rails && s.power.converterOn) ∧ t.power.pgood = (rails && s.power.pgood) ∧
    t.power.vsns = s.power.vsns ∧ t.power.isolated = s.power.isolated ∧ t.outputs = Outputs.allHiZ ∧ t.sessions = [] ∧ t.remotes = [] ∧
    t.host.stall = none ∧ t.radio.slots = [] ∧ t.kerb = KerbState.initial ∧ t.tram = TramState.initial ∧
    t.store.journal = s.store.journal ∧ t.store.spill = s.store.spill ∧ t.store.areaA = s.store.areaA ∧ t.store.areaB = s.store.areaB ∧
    t.store.copy0 = s.store.copy0 ∧ t.store.copy1 = s.store.copy1 ∧ t.gate.keys = s.gate.keys ∧ t.gate.images = s.gate.images ∧
    t.gate.anchor = s.gate.anchor ∧ t.milestone.home0 = s.milestone.home0 ∧ t.milestone.home1 = s.milestone.home1 ∧
    t.pending = s.pending ∧ t.draws = s.draws

/-- Parts of R36, R78, R79, R84, R93, R97, R103, R106. Which source each command enters RESET with, and whether the rails stay and the save
counts as made or aborted: PGOOD_FALL, NRST_IN_ASSERT of 5 µs or more with no HOLDUP entry waiting (below 1 µs it changes nothing),
PLL_LOSS_OF_LOCK of a domain marked Allowed (one marked Never raises the clock-free drive of the stop outputs), SAVE_ABORT,
SAVE_COMPLETE above 6.0 V, and ORDERLY_SAVE_COMPLETE, which in BOOT before VHOLD is armed has saved nothing. Of the model are the points
of log 50, 66. -/
def Obligations.ResetSources : Prop :=
  (∀ s : State, s.power.pgood = true → s.mode.current ≠ .reset →
    exec .pgoodFall s = .next (s.settled (s.enterReset .powerOn false false false))) ∧
  (∀ s : State, s.power.pgood = true → s.mode.current = .reset →
    exec .pgoodFall s = .next (s.settled { s with power := { s.power with converterOn := false, pgood := false, phase := .idle } })) ∧
  (∀ (s : State) (ns : Nat), s.mode.current ≠ .reset → s.mode.current ≠ .holdup → s.holdupWaits = false → 5000 ≤ ns →
    exec (.nrstInAssert ns) s = .next (s.settled (s.enterReset .nrstIn true false false))) ∧
  (∀ (s : State) (ns : Nat), ns < 1000 → exec (.nrstInAssert ns) s = .next (s.settled s)) ∧
  (∀ (s : State) (d : ClockDomain), s.mode.current ≠ .reset → s.mode.current ≠ .holdup → s.holdupWaits = false → spreadAllowed d = true →
    exec (.pllLossOfLock d) s = .next (s.settled (s.enterReset (.clockFailure d) true false false))) ∧
  (∀ (s : State) (d : ClockDomain), s.mode.current ≠ .reset → s.mode.current ≠ .holdup → s.holdupWaits = false → spreadAllowed d = false →
    s.mode.clockFail = none →
    ∃ t, exec (.pllLossOfLock d) s = .next (s.settled t) ∧ t = { s with mode := { s.mode with clockFail := some d } } ∧
      t.haltOut = .high ∧ t.secOe = .high) ∧
  (∀ s : State, s.mode.current = .holdup → s.power.saving = some .holdup →
    exec .saveAbort s = .next (s.settled ({ s with power := { s.power with vhold := 6000 } }.enterReset .holdup false false true))) ∧
  (∀ (s : State) (us v : Nat), s.mode.current = .holdup → s.power.saving = some .holdup → 6000 < v →
    ∃ t, exec (.saveComplete us v) s = .next (s.settled t) ∧ t.mode.current = .reset ∧ t.power.endedBy = .holdup ∧ t.power.saveDone = true ∧
      t.power.saveAborted = false ∧ t.power.converterOn = false ∧ t.clk.c = 0 ∧ (t.store.areaA.isSome = true ∨ t.store.areaB.isSome = true)) ∧
  (∀ (s : State) (us v : Nat) (c : ResetSource), s.power.saving = some (.orderly c) → s.unarmedBoot = false →
    ∃ t, exec (.orderlySaveComplete us v) s = .next (s.settled t) ∧ t.mode.current = .reset ∧ t.power.endedBy = c ∧ t.power.saveDone = true ∧
      t.power.saveAborted = false ∧ t.power.converterOn = s.power.converterOn ∧ t.clk.c = 0 ∧
      (t.store.areaA.isSome = true ∨ t.store.areaB.isSome = true)) ∧
  (∀ (s : State) (us v : Nat) (c : ResetSource), s.power.saving = some (.orderly c) → s.unarmedBoot = true →
    exec (.orderlySaveComplete us v) s = .next (s.settled (s.enterReset c true false false)))

/-- Parts of R84, R88, R89, R97, R98, R104, R105. VIN_SAG below HoldupSagLevel and ISOLATION_TIMEOUT after 1 ms enter HOLDUP in every
running mode: the mode is HOLDUP, the save is begun, sessions and remote requests are gone, the radio is off, no stop event runs, and of
MRAM and NAND the target area alone is invalid; in BOOT before VHOLD is armed each enters RESET at once with no save; not running,
VIN_SAG gives VSNS alone. WATCHDOG_EXPIRY and a RESET_REQUEST that is taken begin an orderly save, where none is under way, and change
nothing else; while one is, they change nothing. In HALT a RESET_REQUEST below Service level is refused with 0x06010000. Of the model
are the points of log 70. -/
def Obligations.SavesBegin : Prop :=
  (∀ (s : State) (v : Nat), s.running = true → belowVolts v s.sagLevel = true → s.unarmedBoot = false → s.power.isolated = false →
    ∃ t, exec (.vinSag v) s = .next (s.settled t) ∧
      s.changesOnly [.mode, .power, .store, .host, .tram, .radio, .crier, .clk, .gnss, .sessions, .remotes, .roundabout] t ∧
      t.mode.current = .holdup ∧ t.mode.prev = s.mode.current ∧ t.power = { s.savingNow .holdup with
        vsns := v, swell := decide (33000 < v), reduced := (s.power.seen v).reduced, fullThroughout := (s.power.seen v).fullThroughout } ∧
      t.store = s.targetCleared ∧ t.sessions = [] ∧ t.remotes = [] ∧ t.radio.on = false ∧ t.crier.event = none) ∧
  (∀ (s : State) (v : Nat), s.running = false → exec (.vinSag v) s = .next (s.settled { s with power := s.power.seen v })) ∧
  (∀ (s : State) (v : Nat), s.unarmedBoot = true → belowVolts v s.sagLevel = true → s.power.isolated = false →
    exec (.vinSag v) s = .next (s.settled ({ s with power := s.power.seen v }.enterReset .holdup false false false))) ∧
  (∀ s : State, s.power.isolated = true → ticksMs 1 ≤ s.power.isolatedFor → s.running = true → s.unarmedBoot = false →
    ∃ t, exec .isolationTimeout s = .next (s.settled t) ∧
      s.changesOnly [.mode, .power, .store, .host, .tram, .radio, .crier, .clk, .gnss, .sessions, .remotes, .roundabout] t ∧
      t.mode.current = .holdup ∧ t.mode.prev = s.mode.current ∧ t.power = s.savingNow .holdup ∧ t.store = s.targetCleared ∧
      t.sessions = [] ∧ t.remotes = [] ∧ t.radio.on = false ∧ t.crier.event = none) ∧
  (∀ s : State, s.power.isolated = true → ticksMs 1 ≤ s.power.isolatedFor → s.unarmedBoot = true →
    exec .isolationTimeout s = .next (s.settled (s.enterReset .holdup false false false))) ∧
  (∀ s : State, s.operating = true → s.mode.current ≠ .service → s.power.saving = none →
    exec .watchdogExpiry s = .next (s.settled { s with power := s.savingNow (.orderly .watchdog), store := s.targetCleared })) ∧
  (∀ s : State, s.power.saving.isSome = true → exec .watchdogExpiry s = .next (s.settled s)) ∧
  (∀ (s : State) (q : Sess), s.takesWrite q Obj.resetRequest 165 → (s.mode.current ≠ .halt ∨ s.level q = .service) →
    s.power.saving = none →
    ∃ t, exec (.resetRequest q 165) s = .next (s.settled (s.acked t q [])) ∧ s.changesOnly [.power, .store, .zheoc, .sessions] t ∧
      t.power = s.savingNow (.orderly .resetRequest) ∧ t.store = s.targetCleared) ∧
  (∀ (s : State) (q : Sess), s.takesWrite q Obj.resetRequest 165 → (s.mode.current ≠ .halt ∨ s.level q = .service) →
    s.power.saving.isSome = true →
    exec (.resetRequest q 165) s = .next (s.settled (s.acked (s.begun q Obj.resetRequest (encodeValue Obj.resetRequest 165)) q []))) ∧
  (∀ (s : State) (q : Sess), s.takesWrite q Obj.resetRequest 165 → s.mode.current = .halt → s.level q ≠ .service →
    exec (.resetRequest q 165) s =
      .next (s.settled (s.nacked (s.begun q Obj.resetRequest (encodeValue Obj.resetRequest 165)) q 0x06010000)))

/-- Parts of R44, R62, R66, R67, R68, R69, R571, R575. STRAP_SAMPLE in RESET, with PGOOD released by the device and the land high, NRST_IN
high, every PLL locked and VSNS not below HoldupSagLevel in the last 50 µs, begins BOOT: the boot fields are those sampled, the role is
that of ROLE[1:0], none on a strap fault, and the host's session is open; while a condition fails it changes nothing. UART_IMAGE_BLOCK
while BOOT waits for an image on UART0: a block that passes R575 is kept in order and answered 0x06, any other is answered 0x15, the
tenth in a row dropping what was kept; the empty block ends the image and offers it. Parts of R4, R44, R46, R84, R101, R356, R573.
BOOT_COMPLETE with the image loaded, VHOLD armed and no fault: with an accepted timetable it leaves BOOT with the role kept, the queues
of the image and the CAN0 session open; the mode is that of the role where no halt flag is restored and no stop input is asserted, else
HALT with the restored cause or with cause 0x01. With a refused timetable BOOT waits again and BootImageResult reads 0x0A. While a
condition fails it changes nothing. Of the model are the points of log 66, 67, 69. -/
def Obligations.Boot : Prop :=
  (∀ (s : State) (x : StartLands) (a b : Nat) (n : List (Option NandInfo)) (k : List (Nat × Nat)),
    s.mode.current = .reset → s.power.pgood = true → x.pgoodHigh = true → x.nrstInHigh = true → x.unlocked = [] →
    belowVolts x.vsnsLow s.sagLevel = false →
    ∃ t, exec (.strapSample x a b n k) s = .next (s.settled t) ∧ t.mode.current = .boot ∧ t.mode.prev = .reset ∧
      t.mode.role = (if (sampledBoot (readStraps s.draws x.straps) a b).strapFault then none
        else roleOfBits (sampledBoot (readStraps s.draws x.straps) a b).roleBits) ∧
      t.boot.roleBits = (sampledBoot (readStraps s.draws x.straps) a b).roleBits ∧
      t.boot.disagree = (sampledBoot (readStraps s.draws x.straps) a b).disagree ∧
      t.boot.reserved = (sampledBoot (readStraps s.draws x.straps) a b).reserved ∧
      t.boot.bankFault = (sampledBoot (readStraps s.draws x.straps) a b).bankFault ∧
      t.boot.dbgEn = (sampledBoot (readStraps s.draws x.straps) a b).dbgEn ∧
      t.boot.bootSel = (sampledBoot (readStraps s.draws x.straps) a b).bootSel ∧ (t.session .host).open_ = true) ∧
  (∀ (s : State) (x : StartLands) (a b : Nat) (n : List (Option NandInfo)) (k : List (Nat × Nat)),
    s.mode.current ≠ .reset ∨ s.power.pgood = false ∨ x.pgoodHigh = false ∨ x.nrstInHigh = false ∨ x.unlocked ≠ [] ∨
      belowVolts x.vsnsLow s.sagLevel = true →
    exec (.strapSample x a b n k) s = .next (s.settled s)) ∧
  (∀ (s : State) (b : List Byte), s.awaitsImage true = true → uartBlockGood s.gate.uart.seq b = true → fieldU b 2 2 ≠ 0 →
    exec (.uartImageBlock b) s = .next (s.settled { s with gate := { s.gate with uart :=
      { seq := (s.gate.uart.seq + 1) % 65536, bytes := s.gate.uart.bytes ++ (b.drop 4).take (fieldU b 2 2), bad := 0, answer := 0x06 } } })) ∧
  (∀ (s : State) (b : List Byte), s.awaitsImage true = true → uartBlockGood s.gate.uart.seq b = true → fieldU b 2 2 = 0 →
    exec (.uartImageBlock b) s = .next (s.settled
      ({ s with gate := { s.gate with uart := { seq := 0, bytes := [], bad := 0, answer := 0x06 } } }.offerImage s.gate.uart.bytes))) ∧
  (∀ (s : State) (b : List Byte), s.awaitsImage true = true → uartBlockGood s.gate.uart.seq b = false →
    exec (.uartImageBlock b) s = .next (s.settled { s with gate := { s.gate with uart :=
      if 9 ≤ s.gate.uart.bad then { seq := 0, bytes := [], bad := 0, answer := 0x15 }
      else { s.gate.uart with bad := s.gate.uart.bad + 1, answer := 0x15 } } })) ∧
  ((∀ (s : State) (x : BootStart) (m : Mode), s.bootTarget = some m → s.bootReady = true → loadStatusOf x.blv = 0 → s.haltRestored m = none →
    s.crier.levelA = false → s.crier.levelB = false →
    ∃ t, exec (.bootComplete x) s = .next (s.settled t) ∧ t.mode.current = m ∧ t.mode.prev = .boot ∧ t.mode.role = s.mode.role ∧
      t.queues = openQueues x.queues ∧ (t.session .can0).open_ = true) ∧
  (∀ (s : State) (x : BootStart) (m : Mode) (c : HaltCause), s.bootTarget = some m → (m = .base ∨ m = .rover ∨ m = .relay) → s.bootReady = true →
    loadStatusOf x.blv = 0 → s.haltRestored m = some c →
    ∃ t, exec (.bootComplete x) s = .next (s.settled t) ∧ t.mode.current = .halt ∧ t.mode.haltCause = c ∧ t.mode.heldBeforeHalt = some m ∧
      t.mode.role = s.mode.role ∧ t.queues = openQueues x.queues ∧ (t.session .can0).open_ = true) ∧
  (∀ (s : State) (x : BootStart) (m : Mode), s.bootTarget = some m → (m = .base ∨ m = .rover ∨ m = .relay) → s.bootReady = true →
    loadStatusOf x.blv = 0 → s.haltRestored m = none → s.crier.levelA = true ∨ s.crier.levelB = true → s.resetWaits = false →
    ∃ t, exec (.bootComplete x) s = .next (s.settled t) ∧ t.mode.current = .halt ∧ t.mode.haltCause = .stopInput ∧ t.mode.heldBeforeHalt = some m) ∧
  (∀ (s : State) (x : BootStart), s.bootTarget.isSome = true → s.bootReady = true → loadStatusOf x.blv ≠ 0 →
    ∃ t, exec (.bootComplete x) s = .next (s.settled t) ∧ t.mode = s.mode ∧ t.boot = { s.boot with imageLoaded := false, imageWait := true, imageRejected := true } ∧
      t.reg Obj.bootImageResult = 0x0A) ∧
  (∀ (s : State) (x : BootStart), s.bootTarget = none ∨ s.bootReady = false → exec (.bootComplete x) s = .next (s.settled s)))

/-! ## Modes and boot (spec/01, spec/03), the fleet stop (spec/11) -/

/-- Parts of R44, R48, R49, R50, R52, R101, R499, for the operation that every HALT trigger of the model calls, with no sag, isolation or
reset source waiting in the same CK_IO cycle. A trigger that the mode permits enters HALT with its cause and the instant: the mode
before and the mode to go back to are kept, the halt flag is written, HALT_ENTERED and MODE_CHANGE are set, and a rover's chain output
enable is deasserted; of a ModeRequest obeyed in the same cycle ModeRequestResult becomes 0x01. In HALT a further trigger writes cause,
flag and instant alone into the mode, and sets HALT_ENTERED. A trigger that the mode does not permit, or with such a source waiting,
changes nothing. Of the model are the points of log 34. -/
def Obligations.HaltEntry : Prop :=
  (∀ (s : State) (c : HaltCause), s.resetWaits = false → haltPermitted s.mode.current s.isWorker c = true → s.mode.current ≠ .halt →
    (s.haltTrigger c).mode.current = .halt ∧ (s.haltTrigger c).mode.haltCause = c ∧ (s.haltTrigger c).mode.haltFlag = some c ∧
    (s.haltTrigger c).mode.heldBeforeHalt = some (heldMode s.mode.current) ∧ (s.haltTrigger c).mode.haltAt = some s.now ∧
    (s.haltTrigger c).host.irqStatus.getLsbD 1 = true ∧ (s.haltTrigger c).host.irqStatus.getLsbD 2 = true ∧
    (s.sameCycle s.mode.askedAt = false → (s.haltTrigger c).mode.prev = s.mode.current) ∧
    (s.mode.role = some .rover → (s.haltTrigger c).kerb.chain.oe = false) ∧ s.changesOnly haltParts (s.haltTrigger c)) ∧
  (∀ (s : State) (c : HaltCause), s.resetWaits = false → haltPermitted s.mode.current s.isWorker c = true → s.mode.current ≠ .halt →
    s.sameCycle s.mode.askedAt = true → c ≠ .modeRequest → (s.haltTrigger c).reg Obj.modeRequestResult = 1) ∧
  (∀ (s : State) (c : HaltCause), s.resetWaits = false → s.mode.current = .halt → c ≠ .none →
    (s.haltTrigger c).mode = { s.mode with haltCause := c, haltFlag := some c, haltAt := some s.now } ∧
    (s.haltTrigger c).host.irqStatus.getLsbD 2 = true ∧ s.changesOnly [.mode, .host, .store, .milestone, .draws, .dict] (s.haltTrigger c)) ∧
  (∀ (s : State) (c : HaltCause), s.resetWaits = true ∨ haltPermitted s.mode.current s.isWorker c = false → s.haltTrigger c = s)

/-- Parts of R42, R44, R48, R50, R597. A write of ModeRequest that is taken, with no transition in progress and no sag, isolation or reset
source waiting in the cycle: for the mode held, result 0x00 and no change; SNAPSHOT to ROVER, ROVER to SNAPSHOT with sections OFF and
axes at rest, BASE, ROVER or RELAY to HALT, and the change to STANDBY of a BASE whose partner is ready are obeyed with 0x00; with that
condition not met the result is 0x02 and the mode stays; every other request gives 0x01 and the mode stays. With a transition in
progress it gives 0x03. In STANDBY the write is refused and the result is 0x01. SNAPSHOT_WAKE when the wake is due enters ROVER. -/
def Obligations.ModeRequests : Prop :=
  (∀ (s : State) (q : Sess) (m : Mode) (c : Instr), requestOf q m = some c → s.takesWrite q Obj.modeRequest (modeCode m) → s.resetWaits = false →
    s.mode.transition = none → s.mode.current = m →
    ∃ u, exec c s = .next (s.settled (s.acked u q [])) ∧ s.changesOnly [.dict, .zheoc, .sessions] u ∧ u.reg Obj.modeRequestResult = 0) ∧
  (∀ (s : State) (q : Sess), s.takesWrite q Obj.modeRequest 2 → s.resetWaits = false → s.mode.transition = none → s.mode.current = .base →
    ∃ u, exec (.modeRequestBase q) s = .next (s.settled (s.acked u q [])) ∧ s.changesOnly [.dict, .zheoc, .sessions] u ∧ u.reg Obj.modeRequestResult = 0) ∧
  (∀ (s : State) (q : Sess), s.takesWrite q Obj.modeRequest 4 → s.resetWaits = false → s.mode.transition = none → s.mode.current = .relay →
    ∃ u, exec (.modeRequestRelay q) s = .next (s.settled (s.acked u q [])) ∧ s.changesOnly [.dict, .zheoc, .sessions] u ∧ u.reg Obj.modeRequestResult = 0) ∧
  (∀ (s : State) (q : Sess) (m : Mode) (c : Instr), requestOf q m = some c → s.takesWrite q Obj.modeRequest (modeCode m) → s.resetWaits = false →
    s.mode.transition.isSome = true →
    ∃ u, exec c s = .next (s.settled (s.acked u q [])) ∧ s.changesOnly [.dict, .zheoc, .sessions] u ∧ u.reg Obj.modeRequestResult = 3) ∧
  (∀ (s : State) (q : Sess) (m : Mode) (c : Instr), requestOf q m = some c → s.takesWrite q Obj.modeRequest (modeCode m) → s.resetWaits = false →
    s.mode.transition = none → s.mode.current ≠ m → requestPermitted s.mode.current m = false →
    ∃ u, exec c s = .next (s.settled (s.acked u q [])) ∧ s.changesOnly [.mode, .dict, .zheoc, .sessions] u ∧
      u.mode = { s.mode with askedAt := some s.now } ∧ u.reg Obj.modeRequestResult = 1) ∧
  (∀ (s : State) (q : Sess), s.takesWrite q Obj.modeRequest 3 → s.resetWaits = false → s.mode.transition = none → s.mode.current = .snapshot →
    ∃ u, exec (.modeRequestRover q) s = .next (s.settled (s.acked u q [])) ∧
      s.changesOnly [.mode, .host, .gnss, .kerb, .blv, .tram, .dict, .zheoc, .sessions] u ∧ u.mode.current = .rover ∧ u.mode.prev = .snapshot ∧
      u.reg Obj.modeRequestResult = 0) ∧
  (∀ (s : State) (q : Sess), s.takesWrite q Obj.modeRequest 6 → s.resetWaits = false → s.mode.transition = none → s.mode.current = .rover →
    s.sectionsOff = true → s.axesAtRest = true →
    ∃ u, exec (.modeRequestSnapshot q) s = .next (s.settled (s.acked u q [])) ∧
      s.changesOnly [.mode, .host, .gnss, .kerb, .blv, .net, .dict, .zheoc, .sessions] u ∧ u.mode.current = .snapshot ∧ u.mode.prev = .rover ∧
      u.kerb.chain.oe = false ∧ u.reg Obj.modeRequestResult = 0) ∧
  (∀ (s : State) (q : Sess), s.takesWrite q Obj.modeRequest 6 → s.resetWaits = false → s.mode.transition = none → s.mode.current = .rover →
    s.sectionsOff = false ∨ s.axesAtRest = false →
    ∃ u, exec (.modeRequestSnapshot q) s = .next (s.settled (s.acked u q [])) ∧ s.changesOnly [.mode, .dict, .zheoc, .sessions] u ∧
      u.mode = { s.mode with askedAt := some s.now } ∧ u.reg Obj.modeRequestResult = 2) ∧
  (∀ (s : State) (q : Sess), s.takesWrite q Obj.modeRequest 7 → s.resetWaits = false → s.mode.transition = none →
    (s.mode.current = .base ∨ s.mode.current = .rover ∨ s.mode.current = .relay) →
    ∃ u, exec (.modeRequestHalt q) s = .next (s.settled (s.acked u q [])) ∧
      s.changesOnly (haltParts ++ [Part.crier, Part.radio, Part.zheoc, Part.sessions]) u ∧ u.mode.current = .halt ∧ u.mode.haltCause = .modeRequest ∧
      u.reg Obj.modeRequestResult = 0) ∧
  (∀ (s : State) (q : Sess), s.takesWrite q Obj.modeRequest 5 → s.resetWaits = false → s.mode.transition = none → s.mode.current = .base →
    s.partnerReady = true →
    ∃ u, exec (.modeRequestStandby q) s = .next (s.settled (s.acked u q [])) ∧ s.changesOnly [.mode, .dict, .zheoc, .sessions] u ∧
      u.mode.current = .base ∧ u.mode.transition = some .standby ∧ u.zheoc.switchAt.isSome = true ∧ u.reg Obj.modeRequestResult = 0) ∧
  (∀ (s : State) (q : Sess), s.takesWrite q Obj.modeRequest 5 → s.resetWaits = false → s.mode.transition = none → s.mode.current = .base →
    s.partnerReady = false →
    ∃ u, exec (.modeRequestStandby q) s = .next (s.settled (s.acked u q [])) ∧ s.changesOnly [.mode, .dict, .zheoc, .sessions] u ∧
      u.mode = { s.mode with askedAt := some s.now } ∧ u.reg Obj.modeRequestResult = 2) ∧
  (∀ (s : State) (q : Sess) (m : Mode) (c : Instr) (a : Abort), requestOf q m = some c → s.ready q → s.mode.current = .standby → m ≠ .standby →
    s.objCheck q Obj.modeRequest true = some a → 1 ≤ levelCode (s.level q) → s.mode.transition = none →
    ∃ t, exec c s = .next (s.settled t) ∧ t.mode = s.mode ∧ t.reg Obj.modeRequestResult = 1) ∧
  (∀ s : State, s.mode.current = .snapshot → s.wakeReached = true →
    ∃ t, exec .snapshotWake s = .next (s.settled t) ∧ s.changesOnly [.mode, .host, .gnss, .kerb, .blv, .tram, .dict] t ∧ t.mode.current = .rover ∧ t.mode.prev = .snapshot)

/-- Parts of R619, R620. DIE_TEMPERATURE_SAMPLE of at most 140 °C, outside RESET and HOLDUP and once per 100 ms: the reading is reported,
and the two flags of ThermalStatus follow it, each with its hysteresis; a further one in the same 100 ms changes nothing; above 140 °C,
where the specification guarantees no behaviour, the model stops with the fault beyondRatings. Of the model are the points of log 139. -/
def Obligations.DieTemperature : Prop :=
  (∀ (s : State) (m : Int), s.running = true → s.periodDue 0x20 (ticksMs 100) = true → m ≤ 140000 →
    exec (.dieTemperatureSample m) s =
      .next (s.settled (((s.periodTaken 0x20 (ticksMs 100)).setReg Obj.dieTemperature m).setReg Obj.thermalStatus
        (thermalNext m (s.regN Obj.thermalStatus) : Nat)))) ∧
  (∀ (s : State) (m : Int), (s.running = false ∨ s.periodDue 0x20 (ticksMs 100) = false) → m ≤ 140000 →
    exec (.dieTemperatureSample m) s = .next (s.settled s)) ∧
  (∀ (s : State) (m : Int), 140000 < m → exec (.dieTemperatureSample m) s = .fault .beyondRatings) ∧
  (∀ (m : Int) (old : Nat), 115000 ≤ m → bit (thermalNext m old) 0 = true) ∧
  (∀ (m : Int) (old : Nat), m < 110000 → bit (thermalNext m old) 0 = false) ∧
  (∀ (m : Int) (old : Nat), 110000 ≤ m → m < 115000 → bit (thermalNext m old) 0 = bit old 0) ∧
  (∀ (m : Int) (old : Nat), 125000 ≤ m → bit (thermalNext m old) 1 = true) ∧
  (∀ (m : Int) (old : Nat), m < 120000 → bit (thermalNext m old) 1 = false) ∧
  (∀ (m : Int) (old : Nat), 120000 ≤ m → m < 125000 → bit (thermalNext m old) 1 = bit old 1)

/-- Parts of R47, R354, R355, R356, R358. STOP_TRIGGER on a path of a channel whose level was low raises the level: in ROVER, RELAY or
SNAPSHOT it halts with cause 0x01; a base in BASE halts so and, with its radio on and no stop event running, begins one with the next
STOP_ID; in SERVICE it drives the stop outputs and the mode stays; in RESET, BOOT, HOLDUP and STANDBY it changes the Crier alone. With
the level already high it changes the Crier alone. STOP_DEASSERT takes its path alone back, and each level is that of its two paths.
STOP_DISCREPANCY_TIMEOUT after StopDiscrepancyTime of different levels latches STOP_DISCREPANCY. Of the model are the points of log 87. -/
def Obligations.StopInputs : Prop :=
  (∀ (s : State) (c : StopChannel) (p : StopPath), s.levelOf c = false → s.resetWaits = false →
    (s.mode.current = .rover ∨ s.mode.current = .relay ∨ s.mode.current = .snapshot) → s.mode.role ≠ some .base →
    ∃ t, exec (.stopTrigger c p) s = .next (s.settled t) ∧ s.changesOnly (haltParts ++ [Part.crier]) t ∧ t.mode.current = .halt ∧
      t.mode.haltCause = .stopInput ∧ t.levelOf c = true) ∧
  (∀ (s : State) (c : StopChannel) (p : StopPath), s.levelOf c = false → s.resetWaits = false → s.mode.current = .base → s.mode.role = some .base →
    s.radio.on = true → s.crier.event = none →
    ∃ t, exec (.stopTrigger c p) s = .next (s.settled t) ∧ s.changesOnly (haltParts ++ [Part.crier, Part.radio]) t ∧ t.mode.current = .halt ∧
      t.mode.haltCause = .stopInput ∧ t.levelOf c = true ∧ t.crier.event.isSome = true ∧ t.crier.stopCount = (s.crier.stopCount + 1) % 2 ^ 32) ∧
  (∀ (s : State) (c : StopChannel) (p : StopPath), s.levelOf c = false → s.mode.current = .service →
    ∃ t, exec (.stopTrigger c p) s = .next (s.settled t) ∧ s.changesOnly [.mode, .crier] t ∧ t.mode = { s.mode with serviceStop := true } ∧
      t.levelOf c = true) ∧
  (∀ (s : State) (c : StopChannel) (p : StopPath),
    (s.levelOf c = true ∨ s.mode.current = .reset ∨ s.mode.current = .boot ∨ s.mode.current = .holdup ∨ s.mode.current = .standby) →
    ∃ t, exec (.stopTrigger c p) s = .next (s.settled t) ∧ s.changesOnly [.crier] t ∧ t.levelOf c = true) ∧
  (∀ (s : State) (c : StopChannel) (p : StopPath), ∃ t, exec (.stopDeassert c p) s = .next (s.settled t) ∧ s.changesOnly [.crier] t ∧
      t.crier.aRadio = (if c = .a ∧ p = .ckRadio then false else s.crier.aRadio) ∧ t.crier.aIo = (if c = .a ∧ p = .ckIo then false else s.crier.aIo) ∧
      t.crier.bRadio = (if c = .b ∧ p = .ckRadio then false else s.crier.bRadio) ∧ t.crier.bIo = (if c = .b ∧ p = .ckIo then false else s.crier.bIo) ∧
      t.crier.levelA = (t.crier.aRadio || t.crier.aIo) ∧ t.crier.levelB = (t.crier.bRadio || t.crier.bIo)) ∧
  (∀ (s : State) (f : Nat), s.crier.differsFrom = some f → s.operating = true → s.crier.discrepancy = false →
    f + ticksMs (s.regN Obj.stopDiscrepancyTime) < s.now →
    ∃ t, exec .stopDiscrepancyTimeout s = .next (s.settled t) ∧ s.changesOnly [.crier, .milestone, .draws] t ∧ t.crier.discrepancy = true)

/-- Parts of R343, R358, R371, R372. STOP_COPY, at a base that may send stops, of a copy that is due on transceiver A while none is on B:
the copy counts, and the next is due after the frame and, but for the last, 1 ms. BEACON_RESUME, where the stop reserve holds eight stop
frames on every channel, ends the withdrawal. LOST_BASE at a linked rover with three beacons missed halts it with cause 0x03. Of the
model are the points of log 88. -/
def Obligations.StopCopiesAndLostBase : Prop :=
  (∀ (s : State) (e : StopEvent), s.mayStop = true → s.crier.event = some e → e.copiesA < 3 → e.nextA ≤ s.now → (3 ≤ e.copiesB ∨ s.now < e.nextB) →
    s.reserveHolds (s.subBand e.mapA e.chanA) e.chanA = true →
    ∃ t, exec .stopCopy s = .next (s.settled t) ∧ s.changesOnly [.crier, .radio] t ∧
      t.crier.event = some { e with copiesA := e.copiesA + 1, nextA := s.now + ticksUs s.stopUs + (if e.copiesA < 2 then ticksMs 1 else 0) }) ∧
  (∀ s : State, s.crier.withdrawn = true → s.mayStop = true →
    (∀ x ∈ s.baseChannels, if s.region = 2 then s.dwell s.stopPhy x.2 + 8 * s.stopUs ≤ 400000
      else s.subUse (s.subBand x.1 x.2) true + 8 * s.stopUs ≤ s.stopReserve) →
    exec .beaconResume s = .next (s.settled { s with crier := { s.crier with withdrawn := false, exhausted := false } })) ∧
  (∀ s : State, (s.mode.current = .rover ∨ s.mode.current = .snapshot) → s.mode.role = some .rover → s.farSide = true → s.linked = true →
    3 ≤ s.radio.missed → s.radio.lostBase = false → s.resetWaits = false →
    ∃ t, exec .lostBase s = .next (s.settled t) ∧ s.changesOnly (haltParts ++ [Part.radio]) t ∧ t.mode.current = .halt ∧ t.mode.haltCause = .lostBase ∧ t.radio.lostBase = true)

/-- Parts of R365, R367, R369. STOP_HEADER_CHECK that passes halts a rover, in ROVER or SNAPSHOT, or a relay, before the MIC is known; one
that fails changes nothing. STOP_FRAME_VERIFY of the whole frame changes no mode: verified and later than the last of its source it
counts as received and LastStopId is its STOP_ID; with a failed frame CRC it counts as unverified. Parts of R305, R307, R308, R311.
BASE_LINK_STOP at a worker in BASE with its radio on and no stop event running halts it with cause 0x05 and begins a stop event of cause
3 and that origin; BASE_LINK_STOP_REQUEST at a manager in BASE with StopScope 0x01 halts it and begins one of cause 5. SEPARATION_CHECK
at a base checks once per 100 ms of receiver time: a second in the same 100 ms changes nothing; the one pair of two connected machines
takes its class, and where that class is STOP and was not, PairStops counts and each of the two is sent an addressed stop. Of the model
are the points of log 89, 90. -/
def Obligations.StopFrames : Prop :=
  (∀ (s : State) (w : Nat) (f : List Byte), s.heeds → s.resetWaits = false → (s.mode.current = .rover ∨ s.mode.current = .snapshot ∨ s.mode.current = .relay) →
    s.hearsStops = true → s.headerPasses w f = true →
    ∃ t, exec (.stopHeaderCheck w f) s = .next (s.settled t) ∧ s.changesOnly (haltParts ++ [Part.crier, Part.zheoc]) t ∧ t.mode.current = .halt ∧ t.mode.haltCause = .stopFrame ∧ t.crier.acting = true) ∧
  (∀ (s : State) (w : Nat) (f : List Byte), s.headerPasses w f = false → exec (.stopHeaderCheck w f) s = .next (s.settled s)) ∧
  (∀ (s : State) (f k body : List Byte) (i : Nat), s.heeds → s.crier.acting = true → s.mode.role = some .rover → hcsOk f = true → frameCrcOk f = true →
    s.radio.groupKey = some k → firstOpen k s.netFleet (parseFrame f) (s.tryIntervals (parseFrame f)) = some (i, body) →
    laterThan (Tab.get none s.radio.accepted (parseFrame f).src) i (parseFrame f).fseq = true →
    ∃ t, exec (.stopFrameVerify f) s = .next (s.settled t) ∧ s.changesOnly [.crier, .radio, .dict] t ∧ t.crier.acting = false ∧
      t.crier.unverified = false ∧ t.reg Obj.lastStopId = (fieldU body 0 4 : Nat) ∧ t.reg Obj.stopsReceived = (s.incr Obj.stopsReceived).reg Obj.stopsReceived) ∧
  (∀ (s : State) (f : List Byte), s.heeds → s.crier.acting = true → s.mode.role = some .rover → frameCrcOk f = false →
    ∃ t, exec (.stopFrameVerify f) s = .next (s.settled t) ∧ s.changesOnly [.crier, .dict, .milestone, .draws] t ∧ t.crier.acting = false ∧
      t.crier.unverified = true ∧ t.reg Obj.stopsUnverified = (s.incr Obj.stopsUnverified).reg Obj.stopsUnverified) ∧
  (∀ (s : State) (o : Nat), s.heeds → s.resetWaits = false → s.isWorker = true → s.mode.current = .base → s.radio.on = true → s.crier.event = none →
    ∃ t, exec (.baseLinkStop o) s = .next (s.settled t) ∧ s.changesOnly (haltParts ++ [Part.crier, Part.radio, Part.zheoc]) t ∧ t.mode.current = .halt ∧ t.mode.haltCause = .propagated ∧
      (t.crier.event.map (·.cause)) = some 3 ∧ (t.crier.event.map (·.origin)) = some o) ∧
  (∀ (s : State) (b : Nat), s.heeds → s.resetWaits = false → s.isManager = true → s.reg Obj.stopScope = 1 → s.mode.current = .base → s.radio.on = true →
    s.crier.event = none →
    ∃ t, exec (.baseLinkStopRequest b) s = .next (s.settled t) ∧ s.changesOnly (haltParts ++ [Part.crier, Part.radio, Part.zheoc]) t ∧ t.mode.current = .halt ∧ t.mode.haltCause = .modeRequest ∧
      (t.crier.event.map (·.cause)) = some 5) ∧
  (∀ s : State, s.isBase = true → s.fleet.checkedAt = some (s.time64 / 100000000 * 100000000) → exec .separationCheck s = .next (s.settled s)) ∧
  (∀ (s : State) (a b : Nat), s.isBase = true → s.fleet.checkedAt ≠ some (s.time64 / 100000000 * 100000000) → s.connectedSlots = [a, b] →
    s.classify (s.time64 / 100000000 * 100000000) a b ≠ 2 →
    ∃ t, exec .separationCheck s = .next (s.settled t) ∧ s.changesOnly [.fleet, .gate, .radio] t ∧
      t.fleet.checkedAt = some (s.time64 / 100000000 * 100000000) ∧
      Tab.get 0 t.fleet.pairs (pairNumber a b) = s.classify (s.time64 / 100000000 * 100000000) a b) ∧
  (∀ (s : State) (a b : Nat), s.isBase = true → s.fleet.checkedAt ≠ some (s.time64 / 100000000 * 100000000) → s.connectedSlots = [a, b] →
    s.classify (s.time64 / 100000000 * 100000000) a b = 2 → Tab.get 0 s.fleet.pairs (pairNumber a b) ≠ 2 →
    ∃ u t, exec .separationCheck s = .next (s.settled t) ∧ t = (u.addressedStop a).addressedStop b ∧ s.changesOnly [.fleet, .dict, .milestone, .draws] u ∧
      Tab.get 0 u.fleet.pairs (pairNumber a b) = 2 ∧ u.reg Obj.pairStops = (s.incr Obj.pairStops).reg Obj.pairStops)

/-- Parts of R44, R101, R373 to R377. A RELEASE_REQUEST that is taken in HALT, with both stop inputs and STOP_DISCREPANCY clear, the halt of
an earlier CK_IO cycle, not a propagated one at a worker, and for a rover a recent beacon: it leaves HALT for the mode held before with
ReleaseResult 0x00; with a stop input or STOP_DISCREPANCY held the result is 0x02 and the mode stays. RELEASE_MACHINES outside HALT
stamps the release and gives ten release frames to each connected halted slot that it names; in HALT ReleaseResult is 0x05. A
RELEASE_FRAME to the rover's slot that is received leaves HALT by the same conditions, and BASE_LINK_RELEASE does at a worker that its
manager halted. Of the model are the points of log 35. -/
def Obligations.Releases : Prop :=
  (∀ (s : State) (q : Sess) (m : Mode), s.takesWrite q Obj.releaseRequest 0x5A → s.resetWaits = false → s.mode.current = .halt →
    s.mode.heldBeforeHalt = some m → m ≠ .halt → s.stopHeld = false → s.sameCycle s.mode.haltAt = false →
    (s.isWorker = false ∨ s.mode.haltCause ≠ .propagated) → (s.mode.role ≠ some .rover ∨ s.beaconRecent = true) →
    ∃ u, exec (.releaseRequest q 0x5A) s = .next (s.settled (s.acked u q [])) ∧ s.changesOnly (releaseParts ++ [Part.fleet, Part.gate, Part.zheoc, Part.sessions]) u ∧
      u.mode.current = m ∧ u.mode.prev = .halt ∧ u.mode.heldBeforeHalt = none ∧ u.mode.haltFlag = none ∧ u.radio.lostBase = false ∧
      u.reg Obj.releaseResult = 0) ∧
  (∀ (s : State) (q : Sess), s.takesWrite q Obj.releaseRequest 0x5A → s.resetWaits = false → s.mode.current = .halt → s.stopHeld = true →
    s.sameCycle s.mode.haltAt = false → (s.isWorker = false ∨ s.mode.haltCause ≠ .propagated) →
    ∃ u, exec (.releaseRequest q 0x5A) s = .next (s.settled (s.acked u q [])) ∧ s.changesOnly [.dict, .zheoc, .sessions] u ∧ u.reg Obj.releaseResult = 2) ∧
  (∀ (s : State) (q : Sess) (v : Int), s.takesWrite q Obj.releaseMachines v → s.mode.current ≠ .halt →
    ∃ u, exec (.releaseMachines q v) s = .next (s.settled (s.acked u q [])) ∧ s.changesOnly [.radio, .zheoc, .sessions] u ∧
      u.radio.releaseTime = s.stampTime ∧
      (∀ n ∈ s.connectedSlots, (v = 255 ∨ v = (n : Int)) → (s.slot n).halted = true → (u.slot n).releases = 10)) ∧
  (∀ (s : State) (q : Sess) (v : Int), s.takesWrite q Obj.releaseMachines v → s.mode.current = .halt →
    ∃ u, exec (.releaseMachines q v) s = .next (s.settled (s.acked u q [])) ∧ s.changesOnly [.dict, .zheoc, .sessions] u ∧ u.reg Obj.releaseResult = 5) ∧
  (∀ (s : State) (w : Nat) (f : List Byte) (x : AirFrame), s.heeds → s.mode.current = .halt → s.hearsStops = true →
    s.mode.role = some .rover → w = stopSync (s.regN Obj.joinFleetId) → (s.receive f).2 = some x → x.type = 0xB →
    x.dst = (s.receive f).1.regN Obj.assignedSlot → (s.receive f).1.releaseCode false = 0 → s.mode.heldBeforeHalt = some .rover →
    ∃ t, exec (.releaseFrame w f) s = .next (s.settled t) ∧ s.changesOnly (releaseParts ++ [Part.zheoc]) t ∧ t.mode.current = .rover) ∧
  (∀ (s : State) (h : LinkHead), s.heeds → (s.acceptLink h).2 = true → s.isWorker = true → s.mode.current = .halt →
    s.mode.haltCause = .propagated → (s.acceptLink h).1.releaseCode true = 0 → s.mode.heldBeforeHalt = some .base →
    ∃ t, exec (.baseLinkRelease h) s = .next (s.settled t) ∧ s.changesOnly (releaseParts ++ [Part.gate, Part.fleet, Part.zheoc]) t ∧ t.mode.current = .base)

/-! ## The Adetre radio (spec/10) -/

/-- Parts of R326, R327, R346, R352, R397. In an interval whose beacon has not gone, and which holds no announced step, a base that beacons
sends on transceiver A, where the air holds it, the beacon of R326 with the slots of PEND, and opens the downlink window; in any other
case the command changes nothing. A relay that holds its group key sends its copy of the beacon that it heard, with the next hop count
below BeaconTtl; with a hop count that reaches BeaconTtl, after a missed beacon, or with no beacon to copy it sends nothing. In the
window of its interval the next frame in the order of R327 that ends inside the window and that the air holds goes out protected under
its key, and uses its time of the window; outside the window, or with the budget low, nothing goes. Of the model are the points of log
110, 117. -/
def Obligations.DownlinkSends : Prop :=
  (∀ s : State, s.beaconing = true → s.radio.windowAt ≠ s.intervalFull → s.stepInterval.map (·.1) ≠ some s.intervalFull → s.airFree s.downPhy 0 →
    ∃ t, exec .beaconTx s = .next (s.settled t) ∧ s.changesOnly [.radio] t ∧
      t.radio.txA = (s.protect s.radio.groupKey (s.ownFrame 0 0xFF 1 false (s.judgeBudget.beaconBody s.intervalFull t.radio.pend))).bytes ∧
      t.radio.windowAt = s.intervalFull ∧ t.radio.windowUs = s.beaconEnd ∧ t.radio.mapSel = (s.radio.mapSel + 1) % 3 ∧
      t.radio.ackFirst = (s.radio.ackFirst + 16) % 128 ∧ t.radio.fseq = (s.radio.fseq + 1) % 65536) ∧
  (∀ s : State, s.beaconing = false ∨ s.radio.windowAt = s.intervalFull ∨ s.stepInterval.map (·.1) = some s.intervalFull →
    exec .beaconTx s = .next (s.settled s)) ∧
  (∀ s : State, s.farSide = true → s.mode.role = some .relay → s.radio.groupKey.isSome = true → s.radio.hops + 1 < s.regN Obj.beaconTtl →
    s.radio.missed = 0 → s.radio.beaconBody.length = 123 → s.airFree s.downPhy 0 →
    ∃ t, exec .beaconCopyTx s = .next (s.settled t) ∧ s.changesOnly [.radio] t ∧ t.radio.beaconBody = [] ∧
      t.radio.txA = (s.protect s.radio.groupKey (s.ownFrame 0 0xFF 1 false (s.radio.beaconBody.take 2 ++
        leBytes 1 (fieldU s.radio.beaconBody 2 1 % 32 + (s.radio.hops + 1) * 32) ++ s.radio.beaconBody.drop 3))).bytes) ∧
  (∀ s : State, s.regN Obj.beaconTtl ≤ s.radio.hops + 1 ∨ s.radio.missed ≠ 0 ∨ s.radio.beaconBody.length ≠ 123 →
    exec .beaconCopyTx s = .next (s.settled s)) ∧
  (∀ (s u : State) (f : AirFrame) (l : List AirFrame), s.baseSends = true → s.radio.windowAt = s.intervalFull → s.judgeBudget.radio.budgetLow = false →
    s.judgeBudget.nextDown = some (f :: l, u) → f.body.length ≤ 240 → f.mic.length = 4 → s.downUs f ≤ s.windowLeft → s.airFree (s.framePhy f) 0 →
    ∃ t, exec .downlinkFrameTx s = .next (s.settled t) ∧ u.changesOnly [.radio] t ∧ t.radio.window = l ∧
      t.radio.txA = (s.protect (s.judgeBudget.sendKey f) f).bytes ∧ t.radio.windowUs = s.radio.windowUs + s.downUs f) ∧
  (∀ s : State, s.baseSends = false ∨ s.radio.windowAt ≠ s.intervalFull → exec .downlinkFrameTx s = .next (s.settled s)) ∧
  (∀ s : State, s.baseSends = true → s.radio.windowAt = s.intervalFull → s.judgeBudget.radio.budgetLow = true →
    exec .downlinkFrameTx s = .next (s.settled s.judgeBudget))

/-- Parts of R332, R340, R342, R352, R370, R398. A rover or relay that scans and holds no group key takes a beacon of its fleet and wanted
base whose header check and CRC pass: the reception joins the fit of the base's clock, and the model of that clock, the base and the
count of beacons in a row follow; it is SYNCED at the third. A rover not in HALT counts a beacon with HALTED as missed. A relay that is
connected or in RESYNC takes a beacon of its base that passes the checks of R324, inside its window, and is connected, with no miss
counted; one outside the window is not received. A beacon window without a valid beacon is counted, and a connected device goes to
RESYNC; one that is synced or admitting goes back to SCANNING at the third. At the instant of an announced step the model of the base's
clock moves by the step. Of the model are the points of log 116. -/
def Obligations.BeaconReception : Prop :=
  (∀ (s : State) (b : List Byte) (tick : Nat) (rssi : Int), s.heeds → s.farSide = true → s.radio.conn = .scanning →
    s.radio.groupKey = none → hcsOk b = true → frameCrcOk b = true → (parseFrame b).type = 0 → (parseFrame b).body.length = 123 →
    fieldU (parseFrame b).body 0 2 = s.regN Obj.joinFleetId →
    (s.regN Obj.joinBaseIndex = 0xFF ∨ fieldU (parseFrame b).body 2 1 % 16 = s.regN Obj.joinBaseIndex) →
    bit (fieldU (parseFrame b).body 3 1) 0 = false →
    let at_ := s.stampTick Obj.rfARxAsym tick
    let d := s.radio.drift.take at_ (s.beaconNominal (parseFrame b).body) false
    let n := if s.radio.netBase = fieldU (parseFrame b).body 2 1 % 16 then s.radio.beacons + 1 else 1
    ∃ t, exec (.beaconRx b tick rssi) s = .next (s.settled t) ∧
      s.changesOnly [.radio, .milestone, .draws, .dict, .clk, .crier] t ∧ t.radio.netBase = fieldU (parseFrame b).body 2 1 % 16 ∧
      t.radio.beacons = n ∧ t.radio.missed = 0 ∧ t.radio.heard = s.now ∧ t.radio.conn = (if 3 ≤ n then .synced else .scanning) ∧
      t.radio.drift = d ∧
      t.radio.model = some (at_, if d.learned then (driftFit d.rx).2 else s.beaconNominal (parseFrame b).body, d.rate)) ∧
  (∀ (s : State) (b : List Byte) (tick : Nat) (rssi : Int), s.heeds → s.farSide = true → s.radio.conn = .scanning →
    s.radio.groupKey = none → hcsOk b = true → frameCrcOk b = true → (parseFrame b).type = 0 → (parseFrame b).body.length = 123 →
    fieldU (parseFrame b).body 0 2 = s.regN Obj.joinFleetId →
    (s.regN Obj.joinBaseIndex = 0xFF ∨ fieldU (parseFrame b).body 2 1 % 16 = s.regN Obj.joinBaseIndex) →
    bit (fieldU (parseFrame b).body 3 1) 0 = true → s.mode.role = some .rover → s.mode.current ≠ .halt →
    ∃ t, exec (.beaconRx b tick rssi) s = .next (s.settled t) ∧ s.changesOnly [.radio, .milestone, .draws, .dict] t ∧
      t.radio = { s.radio with missed := s.radio.missed + 1, beacons := 0 }) ∧
  (∀ (s u : State) (b : List Byte) (f : AirFrame) (tick : Nat) (rssi : Int), s.heeds → s.farSide = true → s.mode.role = some .relay →
    s.radio.conn = .connected ∨ s.radio.conn = .resync → s.radio.groupKey.isSome = true → s.receive b = (u, some f) → f.type = 0 → f.body.length = 123 →
    fieldU f.body 2 1 % 16 = s.radio.netBase → s.beaconWindow (parseFrame b).body (s.stampTick Obj.rfARxAsym tick) = true →
    u.counterWrong f.body (s.stampTick Obj.rfARxAsym tick) = false →
    ∃ t, exec (.beaconRx b tick rssi) s = .next (s.settled t) ∧ u.changesOnly [.radio, .dict, .clk, .crier] t ∧ t.radio.conn = .connected ∧
      t.radio.missed = 0 ∧ t.radio.heard = s.now ∧ t.radio.beaconBody = f.body) ∧
  (∀ (s : State) (b : List Byte) (tick : Nat) (rssi : Int), s.beaconWindow (parseFrame b).body (s.stampTick Obj.rfARxAsym tick) = false →
    exec (.beaconRx b tick rssi) s = .next (s.settled s)) ∧
  (∀ s : State, s.farSide = true → s.radio.conn = .connected →
    ∃ t, exec .beaconMissed s = .next (s.settled t) ∧ s.changesOnly [.radio, .dict] t ∧
      t.radio = { s.radio with conn := .resync, missed := s.radio.missed + 1 } ∧
      t.reg Obj.missedBeacons = (s.reg Obj.missedBeacons + 1) % 2 ^ 32 ∧ t.reg Obj.resyncScans = (s.reg Obj.resyncScans + 1) % 2 ^ 32) ∧
  (∀ s : State, s.farSide = true → s.radio.conn = .synced ∨ s.radio.conn = .admitting → 2 ≤ s.radio.missed →
    ∃ t, exec .beaconMissed s = .next (s.settled t) ∧ s.changesOnly [.radio, .dict] t ∧
      t.radio = { s.radio with conn := .scanning, beacons := 0, missed := 0, retryDue := none }) ∧
  (∀ (s : State) (p : PendingStep), s.clk.announced = some p → s.farSide = true → p.at_ ≤ s.netTime →
    exec .announcedStepApply s = .next (s.settled { s with
      clk := { s.clk with announced := none }
      radio := { s.radio with model := s.radio.model.map (fun m => (m.1, m.2.1 + p.parts.headD 0, m.2.2)) } })) ∧
  (∀ (s : State) (p : PendingStep), s.clk.announced = some p → s.netTime < p.at_ → exec .announcedStepApply s = .next (s.settled s))

/-- Parts of R330, R331, R332, R567, R568. A synced rover or relay that may ask sends an admission request to contention time with a fresh
TEMP_ID, and is ADMITTING; one whose wait is over repeats it; one that may not ask sends none. The base answers a request of its fleet
with a grant, and for RESULT 0x00 the slot that the grant names is CONNECTED to the device. At the device a grant with another RESULT is
only reported; with RESULT 0x00 it connects the device with its slot and both keys, or, where the group key does not unwrap,
AdmissionResult is 0x04 and the radio stays as it was. Once in the interval whose k modulo 2^32 is 0 the base draws a new group key, and
every connected slot starts to close. Of the model are the points of log 31, 111. -/
def Obligations.Admission : Prop :=
  (∀ s : State, s.farSide = true → s.radio.conn = .synced → s.mayAsk = true →
    ∃ (t : State) (x : LbtTry), exec .admissionRequestTx s = .next (s.settled t) ∧ s.changesOnly [.radio, .draws] t ∧ t.radio.conn = .admitting ∧
      t.radio.retryDue.isSome = true ∧ t.radio.lbt = s.radio.lbt ++ [x] ∧ x.frame.type = 6 ∧ x.frame.dst = 0x80 + s.radio.netBase ∧
      x.frame.body = s.requestBody t.radio.tempId t.radio.priv) ∧
  (∀ s : State, s.farSide = true → s.radio.conn = .admitting → s.mayAsk = true → s.due s.radio.retryDue = true →
    ∃ (t : State) (x : LbtTry), exec .admissionRetry s = .next (s.settled t) ∧ s.changesOnly [.radio, .draws] t ∧ t.radio.conn = .admitting ∧
      t.radio.lbt = s.radio.lbt ++ [x] ∧ x.frame.type = 6 ∧ x.frame.body = s.requestBody t.radio.tempId t.radio.priv) ∧
  (∀ (s : State) (b : List Byte), s.heeds → s.baseSends = true → hcsOk b = true → frameCrcOk b = true → (parseFrame b).type = 6 →
    (parseFrame b).body.length = 100 → fieldU (parseFrame b).body 4 2 = (s.bootReg Obj.fleetId).toNat →
    let j := s.judgeAdmission (parseFrame b).body
    ∃ t, exec (.admissionRequestRx b) s = .next (s.settled t) ∧ s.changesOnly [.radio, .cover, .fleet, .draws, .zheoc] t ∧
      (j.1 ≠ 0 → t.radio = { s.radio with grants := s.radio.grants ++
        [grantBody (fieldU (parseFrame b).body 0 4) j.1 0xFF 0 (List.replicate 64 0) (List.replicate 24 0)] }) ∧
      (j.1 = 0 → (t.slot j.2).state = .connected ∧ (t.slot j.2).device = ((parseFrame b).body.drop 84).take 16 ∧ (t.slot j.2).heard = s.now ∧
        t.radio.grants.length = s.radio.grants.length + 1)) ∧
  (∀ (s : State) (b : List Byte), s.heeds → s.farSide = true → s.radio.conn = .admitting → hcsOk b = true → frameCrcOk b = true →
    (parseFrame b).type = 7 → (parseFrame b).body.length = 96 → fieldU (parseFrame b).body 0 4 = s.radio.tempId →
    ∃ t, exec (.admissionGrantRx b) s = .next (s.settled t) ∧ s.changesOnly [.radio, .dict, .zheoc] t ∧
      (fieldU (parseFrame b).body 4 1 ≠ 0 → t.radio = s.radio ∧ t.reg Obj.admissionResult = fieldU (parseFrame b).body 4 1) ∧
      (fieldU (parseFrame b).body 4 1 = 0 → (t.reg Obj.admissionResult = 4 ∧ t.radio = s.radio) ∨
        (t.reg Obj.admissionResult = 0 ∧ t.radio.conn = .connected ∧ t.radio.sessionKey.isSome = true ∧ t.radio.groupKey.isSome = true ∧
          t.radio.heard = s.now ∧ t.reg Obj.assignedSlot = fieldU (parseFrame b).body 5 1))) ∧
  (∀ s : State, s.mayAsk = false →
    exec .admissionRequestTx s = .next (s.settled s) ∧ exec .admissionRetry s = .next (s.settled s)) ∧
  (∀ s : State, s.baseSends = true → s.interval = 0 → s.radio.rolledAt ≠ some s.intervalFull →
    ∃ t, exec .groupKeyRollover s = .next (s.settled t) ∧ s.changesOnly [.radio, .draws] t ∧ t.radio.groupKey = some (s.drawBytes 16).1 ∧
      t.radio.rolledAt = some s.intervalFull ∧ (∀ n, (s.slot n).state = .connected → (t.slot n).state = .closing ∧ n ∈ t.radio.terminates)) ∧
  (∀ s : State, s.interval ≠ 0 ∨ s.radio.rolledAt = some s.intervalFull → exec .groupKeyRollover s = .next (s.settled s))

/-- Parts of R331 to R334, R343. SupervisionTimeout without a valid frame ends a connection: at a rover or relay the keys and slot go, it
scans, and a rover holds no task; at the base the slot is HELD where a reservation is held, else FREE. Before it is over nothing
changes. A valid terminate frame ends the slot at the base, or the connection at the rover it is for. A write of ConnectionEnable 0x00
makes a connection CLOSING, and the radio IDLE where there is none; 0x01 cancels a close whose terminate has not gone, and takes an IDLE
device with its radio on to SCANNING. SlotEnable 0x00 makes a connected slot CLOSING with a terminate to send; 0x01 makes a closing slot
CONNECTED and takes its terminate back. Of the model are the points of log 106, 112. -/
def Obligations.ConnectionsEnd : Prop :=
  (∀ s : State, s.farSide = true → s.linked = true → s.radio.heard + ticksMs (s.regN Obj.supervisionTimeout) ≤ s.now →
    ∃ t, exec .supervisionTimeout s = .next (s.settled t) ∧ t.radio.conn = .scanning ∧ t.radio.sessionKey = none ∧ t.radio.groupKey = none ∧
      t.reg Obj.assignedSlot = 255 ∧ (s.mode.role = some .rover → t.fleet.task = none) ∧ s.changesOnly [.radio, .dict, .fleet, .kerb] t) ∧
  (∀ (s : State) (n : Nat), s.isBase = true → s.slotLive n = true → (s.slot n).heard + ticksMs (s.regN Obj.supervisionTimeout) ≤ s.now →
    ∃ t, exec (.slotSupervisionTimeout n) s = .next (s.settled t) ∧ s.changesOnly [.radio] t ∧
      (t.slot n).state = (if s.slotReserved n then .held else .free) ∧ (t.slot n).key = []) ∧
  (∀ s : State, s.now < s.radio.heard + ticksMs (s.regN Obj.supervisionTimeout) → exec .supervisionTimeout s = .next (s.settled s)) ∧
  (∀ (s : State) (n : Nat), s.now < (s.slot n).heard + ticksMs (s.regN Obj.supervisionTimeout) →
    exec (.slotSupervisionTimeout n) s = .next (s.settled s)) ∧
  (∀ (s u : State) (b : List Byte) (f : AirFrame), s.heeds → s.operating = true → s.radio.on = true → s.receive b = (u, some f) → f.type = 8 →
    s.mode.role = some .base → s.slotLive f.src = true →
    exec (.terminateRx b) s = .next (s.settled (u.endSlot f.src))) ∧
  (∀ (s u : State) (b : List Byte) (f : AirFrame), s.heeds → s.operating = true → s.radio.on = true → s.receive b = (u, some f) → f.type = 8 →
    s.mode.role = some .rover → s.linked = true → f.dst = s.regN Obj.assignedSlot →
    ∃ t, exec (.terminateRx b) s = .next (s.settled t) ∧ u.changesOnly [.radio, .dict, .fleet, .kerb] t ∧ t.radio.conn = .scanning ∧ t.fleet.task = none) ∧
  (∀ (s : State) (q : Sess), s.takesWrite q Obj.connectionEnable 0 →
    ∃ u, exec (.connectionDisable q) s = .next (s.settled (s.acked u q [])) ∧ s.changesOnly [.dict, .radio, .zheoc, .sessions] u ∧
      u.reg Obj.connectionEnable = 0 ∧ u.radio.conn = (if s.linked then .closing else .idle)) ∧
  (∀ (s : State) (q : Sess), s.takesWrite q Obj.connectionEnable 1 → s.radio.conn = .closing →
    ∃ u, exec (.connectionEnable q) s = .next (s.settled (s.acked u q [])) ∧ s.changesOnly [.dict, .radio, .zheoc, .sessions] u ∧
      u.radio = { s.radio with conn := if s.radio.missed = 0 then .connected else .resync }) ∧
  (∀ (s : State) (q : Sess), s.takesWrite q Obj.connectionEnable 1 → s.radio.conn = .idle → s.radio.on = true →
    ∃ u, exec (.connectionEnable q) s = .next (s.settled (s.acked u q [])) ∧ s.changesOnly [.dict, .radio, .zheoc, .sessions] u ∧
      u.radio = { s.radio with conn := .scanning, beacons := 0 }) ∧
  (∀ (s : State) (q : Sess), s.takesWrite q Obj.slotEnable 0 → (s.slot (s.instanceOf q Obj.slotEnable)).state = .connected →
    ∃ u, exec (.slotDisable q) s = .next (s.settled (s.acked u q [])) ∧ s.changesOnly [.dict, .radio, .zheoc, .sessions] u ∧
      (u.slot (s.instanceOf q Obj.slotEnable)).state = .closing ∧ u.radio.terminates = s.radio.terminates ++ [s.instanceOf q Obj.slotEnable]) ∧
  (∀ (s : State) (q : Sess), s.takesWrite q Obj.slotEnable 1 → (s.slot (s.instanceOf q Obj.slotEnable)).state = .closing →
    ∃ u, exec (.slotEnable q) s = .next (s.settled (s.acked u q [])) ∧ s.changesOnly [.dict, .radio, .zheoc, .sessions] u ∧
      (u.slot (s.instanceOf q Obj.slotEnable)).state = .connected ∧ ¬ s.instanceOf q Obj.slotEnable ∈ u.radio.terminates)

/-- Parts of R305, R333, R334, R335, R341, R342. A connected rover that missed no beacon sends, where the air holds it, its report once in
its event: on the transceiver of event and slot, protected, with its pose, and at most two segments go with it; one that is CLOSING
sends its terminate there and is IDLE without a task; one that missed the beacon sends nothing. At the base a valid report of a live
slot, inside the slot's window and with neither compact segment nor record, renews the slot, its halt flag, RSSI and hop count 0, and
gives the machine the position that it reports; one outside the window is not received. A connected slot's window without a reception
counts. Of the model are the points of log 113, 114. -/
def Obligations.UplinkReports : Prop :=
  (∀ s : State, s.farSide = true → s.mode.role = some .rover → s.linked = true → s.radio.conn ≠ .closing → s.regN Obj.assignedSlot < 128 →
    s.radio.missed = 0 → s.seized = false → 0 ≤ signedDiff 16 s.eventCounter s.radio.firstEvent → s.airFree s.upPhy 1 → s.airFree s.upPhy 2 →
    ∃ t f, exec .uplinkReportTx s = .next (s.settled t) ∧ s.changesOnly [.radio, .draws] t ∧
      (if (s.eventCounter + s.regN Obj.assignedSlot) % 2 = 1 then t.radio.txB else t.radio.txA) = (s.protect s.radio.sessionKey f).bytes ∧
      f.type = 4 ∧ f.src = s.ownAddress ∧ f.dst = 0x80 + s.radio.netBase ∧ f.fseq = s.radio.fseq ∧ (f.body.drop 2).take 17 = s.reportPose ∧
      t.radio.firstEvent = (s.eventCounter + 1) % 65536 ∧ s.radio.sendNext ≤ t.radio.sendNext ∧ t.radio.sendNext ≤ s.radio.sendNext + 2) ∧
  (∀ s : State, s.farSide = true → s.mode.role = some .rover → s.radio.conn = .closing → s.regN Obj.assignedSlot < 128 →
    s.radio.missed = 0 → s.seized = false → 0 ≤ signedDiff 16 s.eventCounter s.radio.firstEvent → s.airFree s.upPhy 1 → s.airFree s.upPhy 2 →
    ∃ t, exec .uplinkReportTx s = .next (s.settled t) ∧ s.changesOnly [.radio, .dict, .fleet, .kerb] t ∧ t.radio.conn = .idle ∧ t.fleet.task = none) ∧
  (∀ s : State, s.radio.missed ≠ 0 ∨ s.seized = true ∨ s.linked = false ∨ signedDiff 16 s.eventCounter s.radio.firstEvent < 0 →
    exec .uplinkReportTx s = .next (s.settled s)) ∧
  (∀ (s : State) (b : List Byte) (tick : Nat) (rssi : Int),
    s.slotWindow (parseFrame b) (s.stampTick (s.reportSide (parseFrame b)) tick) = false → exec (.uplinkReportRx b tick rssi) s = .next (s.settled s)) ∧
  (∀ (s u : State) (b : List Byte) (f : AirFrame) (tick : Nat) (rssi : Int), s.heeds → s.isBase = true → s.radio.on = true → s.receive b = (u, some f) →
    f.type = 4 → s.slotLive f.src = true → f.src < 128 → 32 ≤ f.body.length → f.flood = false → bit (fieldU f.body 0 1) 0 = false →
    bit (fieldU f.body 0 1) 1 = false → s.slotWindow (parseFrame b) (s.stampTick (s.reportSide (parseFrame b)) tick) = true →
    ∃ t, exec (.uplinkReportRx b tick rssi) s = .next (s.settled t) ∧ u.changesOnly [.radio, .dict, .fleet, .milestone, .draws] t ∧ (t.slot f.src).heard = s.now ∧
      (t.slot f.src).halted = bit (fieldU f.body 0 1) 3 ∧ t.regAt Obj.slotRssi f.src = rssi ∧ t.regAt Obj.slotHops f.src = 0 ∧
      (∀ r, parseReport s f.body = some r → (Tab.get FleetMachine.unknown t.fleet.machines f.src).report = some r)) ∧
  (∀ (s : State) (n : Nat), s.isBase = true → n < 128 → (s.slot n).state = .connected →
    exec (.uplinkMissed n) s = .next (s.settled (s.incrAt Obj.slotMissed n)))

/-- Parts of R344, R350, R351. For the first frame that waits for a clear channel, when its assessment is due, at a device without a
connection: a power at or above LbtThreshold backs it off, and drops it after the fifth, which LbtBusy counts; a power below sends it
where it ends inside the contention time, sealed as it was received for a flooded copy, and with too little of the contention time left
it is assessed anew later. Before it is due nothing changes. A forwarder enters a new key of a flooded frame in its cache and schedules
a copy with TTL reduced, where the TTL is 2 or more; of a key that it holds it counts the copy heard. A copy whose delay is over waits
for a clear channel. A device that does not forward does nothing. Keys older than 20 s leave. Of the model are the points of log 110. -/
def Obligations.ContentionAndFlood : Prop :=
  (∀ (s : State) (x : LbtTry) (l : List LbtTry) (power : Int), s.farSide = true → s.seized = false → s.linked = false → s.radio.lbt = x :: l →
    x.due ≤ s.now → s.reg Obj.lbtThreshold ≤ power → 5 ≤ x.attempt →
    ∃ t, exec (.lbtAssessment power) s = .next (s.settled t) ∧ s.changesOnly [.radio, .dict] t ∧ t.radio.lbt = l ∧
      t.reg Obj.lbtBusy = (s.reg Obj.lbtBusy + 1) % 2 ^ 32) ∧
  (∀ (s : State) (x : LbtTry) (l : List LbtTry) (power : Int), s.farSide = true → s.seized = false → s.linked = false → s.radio.lbt = x :: l →
    x.due ≤ s.now → s.reg Obj.lbtThreshold ≤ power → x.attempt < 5 →
    ∃ t d, exec (.lbtAssessment power) s = .next (s.settled t) ∧ s.changesOnly [.radio, .draws] t ∧ s.now ≤ d ∧
      t.radio.lbt = { x with attempt := x.attempt + 1, due := d } :: l) ∧
  (∀ (s : State) (x : LbtTry) (l : List LbtTry) (power : Int), s.farSide = true → s.seized = false → s.linked = false → s.radio.lbt = x :: l →
    x.due ≤ s.now → power < s.reg Obj.lbtThreshold → s.airFree x.phy x.map →
    let f := if x.sealed_ then x.frame else s.protect (s.sendKey x.frame) x.frame
    f.bytes.length ≤ 269 → s.regN Obj.paLeadTime + airUs x.phy f.bytes.length ≤ s.contentionLeft x.map →
    ∃ t, exec (.lbtAssessment power) s = .next (s.settled t) ∧ s.changesOnly [.radio, .dict] t ∧ t.radio.lbt = l ∧
      (if x.sideB then t.radio.txB else t.radio.txA) = f.bytes ∧
      t.reg Obj.floodForwarded = (if x.sealed_ then (s.reg Obj.floodForwarded + 1) % 2 ^ 32 else s.reg Obj.floodForwarded)) ∧
  (∀ (s : State) (x : LbtTry) (l : List LbtTry) (power : Int), s.farSide = true → s.seized = false → s.linked = false → s.radio.lbt = x :: l →
    x.due ≤ s.now → power < s.reg Obj.lbtThreshold →
    let f := if x.sealed_ then x.frame else s.protect (s.sendKey x.frame) x.frame
    s.contentionLeft x.map < s.regN Obj.paLeadTime + airUs x.phy f.bytes.length →
    ∃ t d, exec (.lbtAssessment power) s = .next (s.settled t) ∧ s.changesOnly [.radio, .draws] t ∧ s.now ≤ d ∧
      t.radio.lbt = { x with attempt := 1, due := d } :: l) ∧
  (∀ (s : State) (x : LbtTry) (l : List LbtTry) (power : Int), s.linked = false → s.radio.lbt = x :: l → s.now < x.due →
    exec (.lbtAssessment power) s = .next (s.settled s)) ∧
  (∀ (s : State) (b : List Byte), s.heeds → s.forwards = true → hcsOk b = true → frameCrcOk b = true → (parseFrame b).flood = true →
    (s.expireSeen.radio.seen.any (fun x => decide (x.key = floodKey (parseFrame b)))) = false → s.expireSeen.radio.seen.length < 512 →
    ∃ (t : State) (x : SeenKey), exec (.floodFrameRx b) s = .next (s.settled t) ∧ s.changesOnly [.radio, .dict, .draws] t ∧
      t.radio.seen = s.expireSeen.radio.seen ++ [x] ∧ x.key = floodKey (parseFrame b) ∧ x.at_ = s.now ∧ x.heard = 0 ∧
      x.copy.map (·.frame) = (if 2 ≤ (parseFrame b).ttl then some { parseFrame b with ttl := (parseFrame b).ttl - 1 } else none) ∧
      t.reg Obj.seenCacheUsed = t.radio.seen.length) ∧
  (∀ (s : State) (b : List Byte) (x : SeenKey), s.heeds → s.forwards = true → hcsOk b = true → frameCrcOk b = true → (parseFrame b).flood = true →
    s.expireSeen.radio.seen = [x] → x.key = floodKey (parseFrame b) → x.heard + 1 < s.regN Obj.floodSuppress →
    ∃ t, exec (.floodFrameRx b) s = .next (s.settled t) ∧ s.changesOnly [.radio, .dict] t ∧ t.radio.seen = [{ x with heard := x.heard + 1 }]) ∧
  (∀ (s : State) (x : SeenKey) (c : FloodCopy) (l : List SeenKey), s.forwards = true → s.radio.seen = x :: l → x.copy = some c → c.due ≤ s.now →
    ∃ (t : State) (y : LbtTry), exec .floodCopyTx s = .next (s.settled t) ∧ s.changesOnly [.radio, .draws] t ∧ t.radio.lbt = s.radio.lbt ++ [y] ∧
      y.frame = c.frame ∧ y.sealed_ = true ∧ y.map = c.map ∧ y.sideB = c.sideB) ∧
  (∀ (s : State) (b : List Byte), s.forwards = false →
    exec (.floodFrameRx b) s = .next (s.settled s) ∧ exec .floodCopyTx s = .next (s.settled s)) ∧
  (∀ s : State, s.farSide = true →
    ∃ t, exec .seenCacheExpiry s = .next (s.settled t) ∧ s.changesOnly [.radio, .dict] t ∧
      t.radio.seen = s.radio.seen.filter (fun x => decide (s.now < x.at_ + ticksS 20)) ∧ t.reg Obj.seenCacheUsed = t.radio.seen.length)

/-- Parts of R276, R296, R299, R302, R308, R337 to R339. Records that reach a connected rover in downlink frames for its slot: an offer is
claimed with count 0 where AutoAccept is set; a claim's result is ClaimResult; a task load record with tracks to come begins a load, and
with none starts the task; the one track that a load waits for starts it; REVOKED of the task held unloads it; a separation alert is
SeparationAlert; a correction record gives its issue and, with a station block, the reference position; the transfer records of a tile
frame are taken in order. A manager's record for a live slot waits in the worker's downlink. Of the model are the points of log 113. -/
def Obligations.DownlinkRecords : Prop :=
  (∀ (s u : State) (l : List (List Byte)) (d : List Byte), s.heeds → s.downRecord 0x81 l = (u, some d) →
    exec (.offerRx l) s = .next (s.settled (if u.reg Obj.autoAccept = 1 then
      (u.updFleet (fun f => { f with claim := leBytes 4 (fieldU d 0 4) ++ [0] })).queueUp { code := 2, data := leBytes 4 (fieldU d 0 4) ++ [0] }
      else u))) ∧
  (∀ (s u : State) (l : List (List Byte)) (d : List Byte), s.heeds → s.downRecord 0x82 l = (u, some d) →
    ∃ t, exec (.claimResultRx l) s = .next (s.settled t) ∧ u.changesOnly [.dict, .radio] t ∧ t.reg Obj.claimResult = fieldU d 4 1 ∧
      (fieldU d 4 1 ≠ 7 → t.radio = u.radio)) ∧
  (∀ (s u : State) (l : List (List Byte)) (d : List Byte), s.heeds → s.downRecord 0x83 l = (u, some d) → fieldU d 20 1 ≠ 0 →
    ∃ t, exec (.taskLoadRx l) s = .next (s.settled t) ∧ u.changesOnly [.fleet] t ∧ t.fleet.task = u.fleet.task ∧
      t.fleet.loading.map (fun x => (x.task.id, x.wanted)) = some (fieldU d 0 4, fieldU d 20 1)) ∧
  (∀ (s u : State) (l : List (List Byte)) (d : List Byte), s.heeds → s.downRecord 0x83 l = (u, some d) → fieldU d 20 1 = 0 →
    ∃ t, exec (.taskLoadRx l) s = .next (s.settled t) ∧ u.changesOnly [.fleet, .cache, .dict] t ∧ t.fleet.loading = none ∧
      t.fleet.task.map (·.id) = some (fieldU d 0 4) ∧ t.reg Obj.taskCurrent = fieldU d 0 4) ∧
  (∀ (s u : State) (l : List (List Byte)) (d : List Byte) (p : PartialTask), s.heeds → s.downRecord 0x89 l = (u, some d) →
    u.fleet.loading = some p → p.task.tracks = [] → p.wanted = 1 → fieldU d 0 4 = p.task.id →
    ∃ t, exec (.taskTrackRx l) s = .next (s.settled t) ∧ u.changesOnly [.fleet, .cache, .dict] t ∧ t.fleet.loading = none ∧
      t.fleet.task.map (fun x => x.tracks.map (·.1)) = some [fieldU d 4 2] ∧ t.reg Obj.taskCurrent = p.task.id) ∧
  (∀ (s u : State) (l : List (List Byte)) (d : List Byte) (k : RoverTask), s.heeds → s.downRecord 0x84 l = (u, some d) →
    u.fleet.task = some k → fieldU d 0 4 = k.id →
    ∃ t, exec (.revokedRx l) s = .next (s.settled t) ∧ u.changesOnly [.fleet, .dict, .kerb] t ∧ t.fleet.task = none ∧ t.reg Obj.taskCurrent = 0) ∧
  (∀ (s u : State) (l : List (List Byte)) (d : List Byte), s.heeds → s.downRecord 0x85 l = (u, some d) →
    exec (.separationAlertRx l) s = .next (s.settled (u.setReg Obj.separationAlert (fieldU d 0 2)))) ∧
  (∀ (s u : State) (l : List (List Byte)) (f : AirFrame) (b : List Byte), s.heeds → s.hasRole .rover = true → s.radio.on = true →
    s.linked = true → s.receiveRecord [1] l = (u, some (f, b)) →
    ∃ t, exec (.correctionFragmentRx l) s = .next (s.settled t) ∧ u.changesOnly [.radio, .roundabout, .nav, .store, .dict] t ∧
      t.radio = { u.radio with issue := fieldU b 10 2, heard := u.now
                               station := if bit (fieldU b 9 1) 3 then some (fieldI b 16 8, fieldI b 24 8, fieldI b 32 8) else u.radio.station }) ∧
  (∀ (s u : State) (l : List (List Byte)) (f : AirFrame) (b : List Byte), s.heeds → s.hasRole .rover = true → s.radio.on = true →
    s.linked = true → s.receiveRecord [2] l = (u, some (f, b)) →
    exec (.tileTransferRx l) s = .next (s.settled ((transferRecords b.length b).foldl (fun s x => s.tileTransferRx x)
      (u.updRadio (fun x => { x with heard := u.now }))))) ∧
  (∀ (s : State) (h : LinkHead) (n : Nat) (r : AirRecord), s.heeds → (s.acceptLink h).2 = true → s.isBase = true → s.isWorker = true →
    s.slotLive n = true →
    ∃ t, exec (.workerRelayRx h n r) s = .next (s.settled t) ∧ s.changesOnly [.radio, .gate, .zheoc] t ∧
      t.radio = { s.radio with down := s.radio.down ++ [(n, r)] })

/-- Parts of R321 to R325. A record of at most 135,168 bytes that a device cuts into frames of any limit, of a type that a key protects, and
seals under the key that the receiver holds for them, in one interval, is received whole: the frames pass the checks and the record has
the bytes that were sent. Of the model are the points of log 6, 110. -/
def Obligations.RecordRoundTrip : Prop :=
  ∀ (b s : State) (type dst ttl limit : Nat) (flood : Bool) (key data : List Byte), type < 13 → type ≠ 6 → type ≠ 7 → dst < 256 → ttl < 8 →
    0 < limit → limit ≤ 255 → data.length ≤ 135168 → b.ownAddress < 256 → b.netIndex < 16 →
    s.netFleet = b.netFleet → s.interval = b.interval →
    (∀ f : AirFrame, f.type = type → f.dst = dst → f.src = b.ownAddress → s.frameKey f = some key) →
    laterThan (Tab.get none s.radio.accepted b.ownAddress) s.interval b.radio.fseq = true → b.radio.fseq < 65536 →
    ∃ u f, s.receiveRecord [type] ((b.fragments type dst ttl flood limit data).1.map (fun f => (sealFrame key b.netFleet f b.interval).bytes)) =
      (u, some (f, data)) ∧ f.type = type ∧ f.dst = dst ∧ f.src = b.ownAddress

/-! ## The Clocktower (spec/12) -/

/-- Parts of R389 to R395, R397, R627. Where no source is qualified and TIME_VALID is clear, three GNSS clock solutions that agree, or the
reading of the beacons or of a locked PTP port, qualify their source, where it is one of the role's: its state is entered and the first
conversion set is staged; without such a reading nothing changes. The source in use lost with no other qualified leaves HOLDOVER at the
rate learned; one that is not gone is not lost. With TIME_VALID the first measurement of a second, by a GNSS clock solution of that
second or by the reading of the beacons or PTP: an error below 10 ns ends a slew and stages the source's rate, one of at most 1 ms
forward stages a slew, and a larger one on a rover or relay decides a step at a whole second. A second solution in a second only tells
that GNSS is heard. Of the model are the points of log 18, 118. -/
def Obligations.TimeSources : Prop :=
  (∀ (s : State) (x : TimeSource) (l : List ClockSolution) (r : Int × Int), x ≠ .gnss → s.followsPartner = false → s.running = true →
    s.sourceReading (sourceState x) = some r → s.clk.qualified = [] → sourceState x ∈ s.sourceOrder →
    s.clk.state ≠ sourceState x → s.clk.valid = false →
    exec (.timeSourceQualified x l) s = .next (s.settled { s with clk := { s.clk with
      qualified := [{ src := sourceState x, uncertainty := sourceUncertainty x s.ptpReported }], state := sourceState x, holdover := none,
      learnedRate := clampRate r.2, error := 0, staged := some { at_ := s.now, rate := r.2, step := 0, initial := some r.1 } } })) ∧
  (∀ (s : State) (a b c : ClockSolution), s.followsPartner = false → s.running = true → s.solutionsQualify a b c = true → s.clk.qualified = [] →
    TimeState.gnss ∈ s.sourceOrder → s.clk.state ≠ .gnss → s.clk.valid = false →
    exec (.timeSourceQualified .gnss [a, b, c]) s = .next (s.settled { s with clk := { s.clk with
      solvedAt := some c.tick, qualified := [{ src := .gnss, uncertainty := 20 }], state := .gnss, holdover := none, learnedRate := clampRate c.rate,
      error := 0, staged := some { at_ := s.now, rate := c.rate, step := 0, initial := some (s.solutionError c / 1000) } } })) ∧
  (∀ (s : State) (x : TimeSource) (l : List ClockSolution), x ≠ .gnss → s.sourceReading (sourceState x) = none →
    exec (.timeSourceQualified x l) s = .next (s.settled s)) ∧
  (∀ (s : State) (a b c : ClockSolution), s.solutionsQualify a b c = false →
    exec (.timeSourceQualified .gnss [a, b, c]) s = .next (s.settled s)) ∧
  (∀ (s : State) (x : TimeSource), s.followsPartner = false → s.sourceGone x = true → s.running = true → s.clk.state = sourceState x → s.clk.valid = true →
    (∀ y ∈ s.clk.qualified, y.src = sourceState x) →
    ∃ t, exec (.timeSourceLost x) s = .next (s.settled t) ∧ s.changesOnly [.clk] t ∧ t.clk.state = .holdover ∧
      t.clk.holdover = some (s.now, s.timeUncertainty) ∧ t.clk.slewing = false ∧
      t.clk.staged = some { at_ := s.now, rate := s.clk.learnedRate, step := 0, initial := none }) ∧
  (∀ (s : State) (x : TimeSource), s.sourceGone x = false → exec (.timeSourceLost x) s = .next (s.settled s)) ∧
  (∀ (s : State) (x : ClockSolution), s.followsPartner = false → s.running = true → s.clk.state = .gnss → s.clk.valid = true →
    s.clk.measured ≠ some s.wholeSecond → x.tick ≤ s.now → s.now < x.tick + ticksS 1 →
    let e := s.solutionError x / 1000
    ∃ t, exec (.disciplineMeasure (some x)) s = .next (s.settled t) ∧ s.changesOnly [.clk] t ∧ t.clk.error = e ∧ t.clk.learnedRate = clampRate x.rate ∧
      t.clk.measured = some s.wholeSecond ∧ t.clk.solvedAt = some x.tick ∧
      (e.natAbs < 10 → t.clk.slewing = false ∧ t.clk.staged = some { at_ := s.now, rate := x.rate, step := 0, initial := none }) ∧
      (10 ≤ e → e ≤ 1000000 → t.clk.slewing = true ∧ t.clk.pending = s.clk.pending ∧
        t.clk.staged = some { at_ := s.now, rate := x.rate + ppmRate s.slewPpm, step := 0, initial := none }) ∧
      (1000000 < e → s.clk.pending = none → s.mode.role ≠ some .base → t.clk.staged = s.clk.staged ∧
        t.clk.pending = some { at_ := nextSecond s.time64 10000000, parts := [e] })) ∧
  (∀ (s : State) (x : Option ClockSolution) (r : Int × Int), s.followsPartner = false → s.running = true → s.clk.state ≠ .gnss → s.sourceInUse = true →
    s.clk.valid = true → s.clk.measured ≠ some s.wholeSecond → s.sourceReading s.clk.state = some r → r.1.natAbs < 10 →
    ∃ t, exec (.disciplineMeasure x) s = .next (s.settled t) ∧ s.changesOnly [.clk] t ∧ t.clk.error = r.1 ∧ t.clk.learnedRate = clampRate r.2 ∧
      t.clk.slewing = false ∧ t.clk.staged = some { at_ := s.now, rate := r.2, step := 0, initial := none }) ∧
  (∀ (s : State) (x : ClockSolution), s.followsPartner = false → s.clk.state = .gnss → s.clk.measured = some s.wholeSecond → x.tick ≤ s.now →
    s.now < x.tick + ticksS 1 →
    exec (.disciplineMeasure (some x)) s = .next (s.settled { s with clk := { s.clk with solvedAt := some x.tick } }))

/-- Parts of R380, R381, R391, R397. At its instant a pending step moves reported time by D, once, and STEP_COUNT counts; before it nothing
changes. A staged set takes effect without moving reported time but by its step; the first set moves it by the initial error and makes
TIME64 valid, and BACKWARD_SET is set where that error is negative. Parts of R380, R384. With a RATE in its range, the count that the
model computes for a target is the first count, from REF on and below 2^64, at which reported time is the target or later. Of the model
are the points of log 9. -/
def Obligations.StepsAndCounts : Prop :=
  (∀ (s : State) (p : PendingStep), s.running = true → s.clk.pending = some p → p.at_ ≤ s.time64 →
    ∃ t, exec .timeStep s = .next (s.settled t) ∧ s.changesOnly [.clk, .dict, .store, .milestone, .draws] t ∧
      t.time64 = s.time64 + p.parts.headD 0 ∧ t.clk.ref = s.clk.c ∧ t.clk.prior = some (s.clk.offset, s.clk.ref, s.clk.rate) ∧
      t.clk.rate = clampRate s.clk.rate ∧ t.reg Obj.stepCount = (s.reg Obj.stepCount + 1) % 2 ^ 32) ∧
  (∀ (s : State) (p : PendingStep), s.clk.pending = some p → s.time64 < p.at_ → exec .timeStep s = .next (s.settled s)) ∧
  (∀ (s : State) (x : StagedSet), s.zheoc.deposed = false → s.running = true → s.clk.staged = some x → x.initial = none →
    ∃ t, exec .conversionSetApply s = .next (s.settled t) ∧ s.changesOnly [.clk, .zheoc] t ∧ t.time64 = s.time64 + x.step ∧
      t.clk.rate = clampRate x.rate ∧ t.clk.staged = none ∧ t.clk.valid = s.clk.valid) ∧
  (∀ (s : State) (x : StagedSet) (e : Int), s.zheoc.deposed = false → s.running = true → s.clk.staged = some x → x.initial = some e →
    ∃ t, exec .conversionSetApply s = .next (s.settled t) ∧ s.changesOnly [.clk, .zheoc, .milestone, .draws] t ∧ t.time64 = s.time64 + e ∧
      t.clk.valid = true ∧ t.clk.backwardSet = (s.clk.backwardSet || decide (e < 0)) ∧ t.clk.staged = none) ∧
  (∀ (k : ClockState) (t : Int) (m : Nat), k.ref.toNat + m < 2 ^ 64 → -219902326 ≤ k.rate → k.rate ≤ 219902326 →
    (t ≤ timeAt k (BitVec.ofNat 64 (k.ref.toNat + m)) ↔ countOf k t ≤ k.ref.toNat + m))

/-- Parts of R382 to R385, R401 to R404. A compare target that has passed fires at once; a later one is held for its user. A read of
ClockOffset latches OFFSET, REF and RATE. PPS_OUT rises at the count of its edge where it may and where the edge falls in this cycle,
and falls when its width is over. A selected edge of EVT_IN0 to EVT_IN3 queues a record with its count and time, or, with 64 records
waiting, is lost, EVT_LOST set and SEQ counted. A rising edge of PPS_IN gives PpsInOffset, its time less the nearest whole second;
PPS_IN silent until its timeout is not present. A read of EvtNext takes the oldest record of the input selected. Of the model are the
points of log 4, 17, 19. -/
def Obligations.ComparesAndCapture : Prop :=
  (∀ (s : State) (user : Nat) (target : Int), s.running = true → target ≤ s.time64 →
    exec (.compareLoad user target) s = .next (s.settled { s with clk := { s.clk with
      compares := s.clk.compares.filter (fun x => decide (x.user ≠ user)), fired := user :: s.clk.fired } })) ∧
  (∀ (s : State) (user : Nat) (target : Int), s.running = true → s.time64 < target → s.clk.compares = [] →
    ∃ (t : State) (x : Compare), exec (.compareLoad user target) s = .next (s.settled t) ∧ s.changesOnly [.clk] t ∧ t.clk.compares = [x] ∧ x.user = user ∧
      x.target = target ∧ t.clk.fired = s.clk.fired ∧ (countOf s.clk target < s.now + 2 ^ 39 → x.count = some (countOf s.clk target % 2 ^ 40))) ∧
  (∀ (s : State) (q : Sess), s.takesRead q Obj.clockOffset →
    ∃ u, exec (.clockOffsetRead q) s = .next (s.settled (s.acked u q (leInt 8 s.clk.offset))) ∧ s.changesOnly [.sessions] u ∧
      (u.session q).clockLatch = some (s.clk.offset, s.clk.ref.toNat, s.clk.rate)) ∧
  (∀ (s : State) (e : Nat), s.ppsEdge = some e → s.ppsMayRise e = true →
    exec .ppsOutRise s = .next (s.settled { s with clk := { s.clk with
      ppsOut := true, ppsFallDue := some (e + ticksMs (s.regN Obj.ppsOutWidth)), ppsLastRise := some (e : Int) } })) ∧
  (∀ s : State, s.ppsEdge = none ∨ s.clk.valid = false ∨ s.reg Obj.ppsOutEnable ≠ 1 → exec .ppsOutRise s = .next (s.settled s)) ∧
  (∀ (s : State) (d : Nat), s.clk.ppsFallDue = some d → d < s.now + 8 →
    exec .ppsOutFall s = .next (s.settled { s with clk := { s.clk with ppsOut := false, ppsFallDue := none } })) ∧
  (∀ (s : State) (d : Nat), s.clk.ppsFallDue = some d → s.now + 8 ≤ d → exec .ppsOutFall s = .next (s.settled s)) ∧
  (∀ s : State, s.due s.clk.ppsInDue = true →
    exec .ppsInTimeout s = .next (s.settled { s with clk := { s.clk with ppsInPresent := false, ppsInDue := none } })) ∧
  (∀ s : State, s.due s.clk.ppsInDue = false → exec .ppsInTimeout s = .next (s.settled s)) ∧
  (∀ (s : State) (i tick : Nat) (falling : Bool), s.running = true → i < 4 → edgeSelected (s.regAt Obj.evtEdge i) falling = true →
    (Tab.get [] s.clk.queues i).length < 64 → s.reg Obj.evtHostOutput ≠ 1 →
    ∃ (t : State) (r : EvtRecord), exec (.eventCapture i falling tick) s = .next (s.settled t) ∧ s.changesOnly [.clk] t ∧
      Tab.get [] t.clk.queues i = Tab.get [] s.clk.queues i ++ [r] ∧ r.tick = tick ∧ r.time = timeOf s.clk tick ∧ r.input = i ∧
      r.falling = falling ∧ r.seq = (Tab.get 0 s.clk.seqs i + 1) % 2 ^ 32) ∧
  (∀ (s : State) (i tick : Nat) (falling : Bool), s.running = true → i < 4 → edgeSelected (s.regAt Obj.evtEdge i) falling = true →
    64 ≤ (Tab.get [] s.clk.queues i).length →
    ∃ t, exec (.eventCapture i falling tick) s = .next (s.settled t) ∧ s.changesOnly [.clk, .dict] t ∧ t.clk.queues = s.clk.queues ∧
      t.clk.evtLost = true ∧ Tab.get 0 t.clk.seqs i = (Tab.get 0 s.clk.seqs i + 1) % 2 ^ 32) ∧
  (∀ (s : State) (i tick : Nat) (falling : Bool), i < 4 → edgeSelected (s.regAt Obj.evtEdge i) falling = false →
    exec (.eventCapture i falling tick) s = .next (s.settled s)) ∧
  (∀ (s : State) (tick : Nat), s.running = true → edgeSelected (s.regAt Obj.evtEdge 4) false = false → timeOf s.clk tick % 1000000000 ≠ 500000000 →
    ∃ t, exec (.eventCapture 4 false tick) s = .next (s.settled t) ∧ s.changesOnly [.clk, .dict] t ∧ t.clk.ppsInPresent = true ∧
      t.reg Obj.ppsInOffset = (if 500000000 < timeOf s.clk tick % 1000000000 then timeOf s.clk tick % 1000000000 - 1000000000 else timeOf s.clk tick % 1000000000)) ∧
  (∀ (s : State) (q : Sess) (r : EvtRecord) (l : List EvtRecord), s.takesRead q Obj.evtNext →
    Tab.get [] s.clk.queues (s.cursor q Obj.evtCursor) = r :: l →
    ∃ u, exec (.evtNext q) s = .next (s.settled (s.acked u q r.bytes)) ∧ s.changesOnly [.clk, .sessions] u ∧
      Tab.get [] u.clk.queues (s.cursor q Obj.evtCursor) = l)

/-! ## The GNSS baseband (spec/04) -/

/-- Parts of R111, R112, R114, R115, R118 to R120, R122 to R126, R155. The classification of a rover's ANT_A gives its bias state and
current, a short switches the bias off and starts the retry wait, and a powered upper chain's gain is shown within its range; with the
bias off there is no state and no current. A retry that is due ends its wait. A write of SignalEnable changes the object, and the
baseband takes it in the next tracking frame. A code epoch, with exactly its samples, gives one dump of their correlation, moves the
phases and puts the pending words in force; other samples give nothing. A tracking frame takes the dumps of epochs that ended before its
millisecond, once in it. A channel that coasts for 1 s is released to be acquired again; before that nothing changes. The ranking
without a satellite in view releases a granted channel, and on an idle base it grants channel 0 to the GPS L1 C/A component of a
satellite at 45 degrees. Of the model are the points of log 20. -/
def Obligations.ChannelsAndBias : Prop :=
  (∀ (s : State) (m : Nat) (g : Int × Int), s.hasRole .rover = true → s.reg Obj.antennaBiasA ≠ 0 → s.gnss.biasA.retryDue = none →
    ∃ t, exec (.biasClassify .a m false g) s = .next (s.settled t) ∧ s.changesOnly [.gnss, .dict] t ∧
      t.gnss.biasA = { state := if m < 2 then .open_ else .normal, retryDue := none } ∧ t.reg Obj.antennaCurrentA = (min m 150 : Nat) ∧
      (bit s.gnss.chainsOn 0 = true → t.reg Obj.chainGainAUpper = clampInt (-655360) 3932160 g.1)) ∧
  (∀ (s : State) (m : Nat) (g : Int × Int), s.hasRole .rover = true → s.reg Obj.antennaBiasA ≠ 0 → s.gnss.biasA.retryDue = none →
    ∃ t, exec (.biasClassify .a m true g) s = .next (s.settled t) ∧ s.changesOnly [.gnss, .dict, .milestone, .draws] t ∧
      t.gnss.biasA = { state := .short, retryDue := some (s.now + ticksMs 1000) }) ∧
  (∀ (s : State) (m : Nat) (b : Bool) (g : Int × Int), s.hasRole .rover = true → s.reg Obj.antennaBiasA = 0 →
    ∃ t, exec (.biasClassify .a m b g) s = .next (s.settled t) ∧ s.changesOnly [.gnss, .dict] t ∧ t.gnss.biasA = Bias.none ∧ t.reg Obj.antennaCurrentA = 0) ∧
  (∀ s : State, s.running = true → s.due s.gnss.biasB.retryDue = true →
    exec (.biasRetry .b) s = .next (s.settled { s with gnss := { s.gnss with biasB := { s.gnss.biasB with retryDue := none } } })) ∧
  (∀ s : State, s.due s.gnss.biasB.retryDue = false → exec (.biasRetry .b) s = .next (s.settled s)) ∧
  (∀ (s : State) (q : Sess) (v : Int), s.takesWrite q Obj.signalEnable v → s.shadowHolds (.storedNum (regKey Obj.signalEnable 0) v) = true →
    ∃ u, exec (.signalEnableWrite q v) s = .next (s.settled (s.acked u q [])) ∧
      s.changesOnly [.dict, .store, .milestone, .draws, .zheoc, .sessions] u ∧ u.reg Obj.signalEnable = v ∧ u.gnss = s.gnss) ∧
  (∀ (s : State) (n tag : Nat) (l : List (Int × Int)), s.gnssRuns = true → (s.chan n).en = true → l ≠ [] → s.gnss.dumps.length < 1024 →
    let c := s.chan n
    let w := s.ncoWords c
    let from_ := s.epochStart c tag
    let sums := correlate c.signal c.svid c.tapOfs w.1 w.2 l from_.1 from_.2 (List.replicate 12 (0, false))
    l.length = epochSamples c.signal w.2 from_.2 →
    ∃ (t : State) (d : Dump), exec (.codeEpochDump n tag l) s = .next (s.settled t) ∧ s.changesOnly [.gnss] t ∧ t.gnss.dumps = s.gnss.dumps ++ [d] ∧
      d.channel = n ∧ d.tag = tag ∧ d.taps = sums.map (·.1) ∧ d.sat = sums.any (·.2) ∧ d.epochs = (c.epochs + 1) % 256 ∧
      (t.chan n).carrier = from_.1 + w.1 * l.length ∧ (t.chan n).freq = c.newFreq.getD c.freq ∧
      (t.chan n).rate = c.newRate.getD c.rate ∧ (t.chan n).newSlew = none) ∧
  (∀ (s : State) (n tag : Nat) (l : List (Int × Int)),
    (s.chan n).en = false ∨ l.length ≠ epochSamples (s.chan n).signal (s.ncoWords (s.chan n)).2 (s.epochStart (s.chan n) tag).2 →
    exec (.codeEpochDump n tag l) s = .next (s.settled s)) ∧
  (∀ s : State, s.gnssRuns = true → s.gnss.frameMs ≠ some s.frameMsNow →
    ∃ t, exec .trackingFrame s = .next (s.settled t) ∧ s.changesOnly [.gnss, .dict] t ∧ t.gnss.frameMs = some s.frameMsNow ∧
      t.gnss.dumps = s.gnss.dumps.filter (fun d => !s.dumpBefore s.frameMsNow d) ∧
      t.gnss.frames = (s.gnss.frames + 1) % 20 ∧ t.gnss.enable = s.regN Obj.signalEnable ∧ t.gnss.queue = s.gnss.queue) ∧
  (∀ s : State, s.gnss.frameMs = some s.frameMsNow → exec .trackingFrame s = .next (s.settled s)) ∧
  (∀ (s : State) (n f : Nat), s.gnssRuns = true → (s.chan n).en = true → s.gnss.suspended.contains (n / 64) = false →
    (s.chan n).coastFrom = some f → f + ticksMs 1000 ≤ s.now → s.reg Obj.navHostOutput ≠ 1 →
    ∃ t, exec (.lossOfLock n) s = .next (s.settled t) ∧ s.changesOnly [.gnss, .dict, .octets] t ∧ t.chan n = (s.chan n).vacant ∧
      t.reg Obj.lossOfLockCount = (s.reg Obj.lossOfLockCount + 1) % 2 ^ 32) ∧
  (∀ (s : State) (n f : Nat), (s.chan n).coastFrom = some f → s.now < f + ticksMs 1000 → exec (.lossOfLock n) s = .next (s.settled s)) ∧
  (∀ (s : State) (n : Nat) (c : Channel), s.gnssRuns = true → s.gnss.channels = [(n, c)] → c.rank ≠ 0 →
    ∃ t, exec (.channelRanking []) s = .next (s.settled t) ∧ s.changesOnly [.gnss, .dict] t ∧ t.gnss.channels = [] ∧ t.reg Obj.channelsWithheld = 0 ∧
      t.reg Obj.channelsInUse = 0) ∧
  (∀ s : State, s.gnssRuns = true → s.gnss.channels = [] → s.mode.role = some .base → bit s.gnss.enable 0 = true →
    s.reg Obj.elevationMask * 100 ≤ 4500 →
    ∃ t, exec (.channelRanking [{ svid := 7, elevation := 4500, signals := [0] }]) s = .next (s.settled t) ∧
      s.changesOnly [.gnss, .dict, .octets] t ∧ (t.chan 0).signal = 0 ∧ (t.chan 0).svid = 7 ∧ (t.chan 0).rank = 1 ∧
      t.reg Obj.channelsInUse = 1)

/-- Parts of R118, R125, R127 to R132, R134 to R138. An allowed search request starts in an idle engine, or, with 64 waiting or more passes
than the engine makes, is refused with a record of STATUS 0x03; one that is not allowed does nothing. A pass that is not the last adds
its metrics; the last one starts the verification of a detection, or ends the search with STATUS 0x01. The verification ends it with
STATUS 0x00 or 0x02, and hands a detection of an enabled component over to a free channel, a snapshot's to none. A unit that ends is
checked, its symbols leave the channel, and where it began with the polarity resolved its record is delivered, a failed check counted. A
write of NavHostOutput is taken, and 0x01 resumes the copy. Of the model are the points of log 20. -/
def Obligations.SearchAndData : Prop :=
  (∀ (s : State) (r : AcqRequest), s.hasRole .base = true ∨ s.hasRole .rover = true → r.signal ≤ 30 →
    (if r.aided then s.hasAiding r || r.relock else unaidedAllowed r.signal) = true → (s.mode.role = some .base → r.ant = .a) →
    64 ≤ s.gnss.queue.length ∨ searchPasses (s.searchBins r).1 (s.searchBins r).2 = none →
    exec (.acqRequest r) s = .next (s.settled ((s.incr Obj.acqRejected).setOct Obj.acqLastResult (acqResult (s.searchOf r 0) 3 s.now)))) ∧
  (∀ (s : State) (r : AcqRequest) (n : Nat), s.hasRole .base = true ∨ s.hasRole .rover = true → r.signal ≤ 30 →
    (if r.aided then s.hasAiding r || r.relock else unaidedAllowed r.signal) = true → (s.mode.role = some .base → r.ant = .a) →
    s.gnss.queue = [] → s.gnss.search = none → searchPasses (s.searchBins r).1 (s.searchBins r).2 = some n →
    exec (.acqRequest r) s = .next (s.settled { s with gnss := { s.gnss with search := some (s.searchOf r n) } })) ∧
  (∀ (s : State) (r : AcqRequest), (if r.aided then s.hasAiding r || r.relock else unaidedAllowed r.signal) = false →
    exec (.acqRequest r) s = .next (s.settled s)) ∧
  (∀ (s : State) (l : List (List (Int × Int))) (x : Search), s.gnss.search = some x → x.verifying = false → x.pass + 1 < x.passes →
    exec (.acqPassComplete l) s = .next (s.settled { s with gnss := { s.gnss with search := some (x.takePass l) } })) ∧
  (∀ (s : State) (l : List (List (Int × Int))) (x y : Search), s.gnss.search = some x → x.verifying = false → x.passes ≤ x.pass + 1 → s.gnss.queue = [] →
    y = { x.takePass l with best := (x.takePass l).peak } →
    ∃ t, exec (.acqPassComplete l) s = .next (s.settled t) ∧ s.changesOnly [.gnss, .dict, .octets] t ∧
      (detects x.k x.alarm y.best.peak = true → t.gnss.search = some { y with verifying := true }) ∧
      (detects x.k x.alarm y.best.peak = false → t.gnss.search = none ∧ t.oct Obj.acqLastResult = acqResult y 1 s.now ∧
        t.reg Obj.acqSearches = (s.reg Obj.acqSearches + 1) % 2 ^ 32)) ∧
  (∀ (s : State) (l : List (List (Int × Int))) (tag : Nat) (x : Search), s.gnss.search = some x → x.verifying = true → s.gnss.queue = [] →
    ∃ t, exec (.acqVerifyComplete l tag) s = .next (s.settled t) ∧ s.changesOnly [.gnss, .dict, .octets] t ∧ t.gnss.search = none ∧
      t.reg Obj.acqSearches = (s.reg Obj.acqSearches + 1) % 2 ^ 32 ∧ (x.req.snapshot = true → t.gnss.channels = s.gnss.channels) ∧
      t.oct Obj.acqLastResult = acqResult x
        (if detects x.k x.alarm (inNoise x.k x.bestNoise (((l.take 9).map (cellMetric x.k)).foldl max 0)) then 0 else 2) tag) ∧
  (∀ (s : State) (l : List (List (Int × Int))) (tag : Nat) (x : Search), s.gnss.search = some x → x.verifying = true → s.gnss.queue = [] →
    x.req.snapshot = false → s.gnssRuns = true → s.gnss.channels = [] → bit s.gnss.enable x.req.signal = true →
    detects x.k x.alarm (inNoise x.k x.bestNoise (((l.take 9).map (cellMetric x.k)).foldl max 0)) = true →
    ∃ t, exec (.acqVerifyComplete l tag) s = .next (s.settled t) ∧ s.changesOnly [.gnss, .dict, .octets] t ∧
      (t.chan 0).en = true ∧ (t.chan 0).signal = x.req.signal ∧ (t.chan 0).svid = x.req.svid ∧ (t.chan 0).ant = x.req.ant ∧
      (t.chan 0).freq = freqWord (s.startMHz x.req.signal x.req.svid x.best.doppler) ∧
      (t.chan 0).rate = dopplerRate x.req.signal x.req.svid x.best.doppler) ∧
  (∀ (s : State) (n : NavUnit) (m : NavMessage), s.gnssRuns = true → (s.chan n.channel).en = true → messageOf (s.chan n.channel).signal = some m →
    m.symbols n.part ≤ (s.chan n.channel).symbols.length → s.reg Obj.navHostOutput ≠ 1 →
    let c := s.chan n.channel
    let x := checkUnit c.signal m n.part n.firstWord c.lastWord (c.unit (m.symbols n.part) (n.polarity.getD c.inverted))
    ∃ t, exec (.navUnitComplete n) s = .next (s.settled t) ∧ s.changesOnly [.gnss, .dict, .obs] t ∧
      (t.chan n.channel).symbols = [] ∧ (t.chan n.channel).inverted = n.polarity.getD c.inverted ∧
      (t.chan n.channel).unitResolved = (c.resolved || n.polarity.isSome) ∧
      (c.unitResolved = false → t.gnss.navRecord = s.gnss.navRecord) ∧
      (c.unitResolved = true → t.gnss.navRecord = navRecord n.channel c m x.2 (n.polarity.getD c.inverted) x.1
        (c.bitTime - ((m.symbols n.part * bitMs c.signal * 1000000 : Nat) : Int))) ∧
      (c.unitResolved = true → x.2 = 2 → t.reg Obj.navCheckFailed = (s.reg Obj.navCheckFailed + 1) % 2 ^ 32)) ∧
  (∀ (s : State) (n : NavUnit) (m : NavMessage), messageOf (s.chan n.channel).signal = some m → (s.chan n.channel).symbols.length < m.symbols n.part →
    exec (.navUnitComplete n) s = .next (s.settled s)) ∧
  (∀ (s : State) (q : Sess) (v : Int), s.takesWrite q Obj.navHostOutput v →
    ∃ u, exec (.navHostOutputWrite q v) s = .next (s.settled (s.acked u q [])) ∧ s.changesOnly [.dict, .gnss, .zheoc, .sessions] u ∧
      u.reg Obj.navHostOutput = v ∧ (v = 1 → u.gnss.navCopy.stopped = false))

/-- Parts of R139 to R145. In a mode that takes captures a write of SnapshotTrigger starts one at the first whole millisecond at which its
chains are ready and powers them, or, refused, sets LAST_REFUSED. The start of an interval in SNAPSHOT does the same, and the next
interval follows. A capture that has run its length puts one record for each chain into a slot and powers the chains of the mode alone;
before that nothing changes. Processing of the oldest capture that waits ends with a fix that is valid only with ephemeris, time within
2 s and 5 satellites; a rover's valid one is its pose. A read of SnapshotData and a write of SnapshotRelease end the export of the
oldest slot held for it. A write of SnapshotWakeTime in SNAPSHOT less than 1 ms ahead wakes 1 ms later; a later one arms no such wake. -/
def Obligations.Snapshots : Prop :=
  (∀ (s : State) (q : Sess) (v : Int), s.takesWrite q Obj.snapshotTrigger v → s.captureMode = true → s.captureRefused = false →
    ∃ u, exec (.snapshotTrigger q v) s = .next (s.settled (s.acked u q [])) ∧ s.changesOnly [.gnss, .zheoc, .sessions] u ∧
      u.gnss.snapshot.refused = false ∧ u.gnss.chainsOn = s.gnss.chainsOn ||| s.regN Obj.snapshotChains ∧ u.gnss.snapshot.run = some
        { chains := s.regN Obj.snapshotChains, length := s.regN Obj.snapshotLength, mode := s.regN Obj.snapshotProcessing
          time := s.captureTime (s.regN Obj.snapshotChains), tick := countOf s.clk (s.captureTime (s.regN Obj.snapshotChains)) }) ∧
  (∀ (s : State) (q : Sess) (v : Int), s.takesWrite q Obj.snapshotTrigger v → s.captureMode = true → s.captureRefused = true →
    ∃ u, exec (.snapshotTrigger q v) s = .next (s.settled (s.acked u q [])) ∧ s.changesOnly [.gnss, .zheoc, .sessions] u ∧
      u.gnss.snapshot = { s.gnss.snapshot with refused := true }) ∧
  (∀ s : State, s.mode.current = .snapshot → s.reg Obj.snapshotInterval ≠ 0 → s.due s.gnss.snapshot.intervalDue = true →
    ∃ t, exec .snapshotInterval s = .next (s.settled t) ∧ s.changesOnly [.gnss] t ∧
      (s.captureRefused = false → t.gnss.snapshot.run.isSome = true) ∧ (s.captureRefused = true → t.gnss.snapshot.refused = true) ∧
      t.gnss.snapshot.intervalDue = some (s.gnss.snapshot.intervalDue.getD 0 + ticksS (s.regN Obj.snapshotInterval))) ∧
  (∀ s : State, s.mode.current ≠ .snapshot ∨ s.due s.gnss.snapshot.intervalDue = false → exec .snapshotInterval s = .next (s.settled s)) ∧
  (∀ (s : State) (l : List (List (Int × Int))) (r : CaptureRun), s.gnss.snapshot.run = some r → r.tick + ticksMs r.length ≤ s.now →
    ∃ t, exec (.snapshotCaptureComplete l) s = .next (s.settled t) ∧ s.changesOnly [.gnss] t ∧ t.gnss.snapshot.run = none ∧
      t.gnss.snapshot.slots.length = s.gnss.snapshot.slots.length + popcount r.chains 4 ∧ t.gnss.chainsOn = s.restChains ∧
      t.gnss.snapshot.timeUncertain = decide (2000000000 < s.timeUncertainty)) ∧
  (∀ (s : State) (l : List (List (Int × Int))) (r : CaptureRun), s.gnss.snapshot.run = some r → s.now < r.tick + ticksMs r.length →
    exec (.snapshotCaptureComplete l) s = .next (s.settled s)) ∧
  (∀ (s : State) (x : SnapshotFix) (c : Capture) (l : List Capture), s.gnss.snapshot.slots = c :: l → c.processing = true →
    ∃ t, exec (.snapshotProcessingComplete x) s = .next (s.settled t) ∧ s.changesOnly [.gnss, .nav, .dict] t ∧
      t.gnss.snapshot.fixValid = (x.ephemerisValid && decide (c.timeUnc ≤ 2000000000) && decide (5 ≤ x.satellites)) ∧
      t.gnss.snapshot.ephemerisOld = (!x.ephemerisValid) ∧
      t.gnss.snapshot.slots = freeSlots ((c :: l).map (fun d => if d.tick = c.tick then { d with processing := false } else d)) ∧
      (t.gnss.snapshot.fixValid = true → s.mode.role = some .rover → t.nav.pose.map (·.state) = some 6 ∧ t.reg Obj.solutionState = 6)) ∧
  (∀ (s : State) (q : Sess) (c : Capture) (l : List Capture), s.takesRead q Obj.snapshotData → s.gnss.snapshot.slots = c :: l → c.forExport = true →
    ∃ u, exec (.snapshotDataRead q) s = .next (s.settled (s.acked u q c.record)) ∧ s.changesOnly [.gnss, .sessions] u ∧
      u.gnss.snapshot.slots = freeSlots ({ c with forExport := false } :: l)) ∧
  (∀ (s : State) (q : Sess) (v : Int) (c : Capture) (l : List Capture), s.takesWrite q Obj.snapshotRelease v → s.gnss.snapshot.slots = c :: l →
    c.forExport = true →
    ∃ u, exec (.snapshotRelease q v) s = .next (s.settled (s.acked u q [])) ∧ s.changesOnly [.gnss, .zheoc, .sessions] u ∧
      u.gnss.snapshot.slots = freeSlots ({ c with forExport := false } :: l)) ∧
  (∀ (s : State) (q : Sess) (v : Int), s.takesWrite q Obj.snapshotWakeTime v → s.mode.current = .snapshot →
    ∃ u, exec (.snapshotWakeTimeWrite q v) s = .next (s.settled (s.acked u q [])) ∧ s.changesOnly [.dict, .gnss, .zheoc, .sessions] u ∧
      u.reg Obj.snapshotWakeTime = v ∧
      u.gnss.snapshot.wakeDue = (if v ≠ 0 ∧ v < s.time64 + 1000000 then some (s.now + ticksMs 1) else none))

/-! ## Positioning (spec/05) -/

/-- Parts of R157, R158, R160, R161, R163 to R166. Each epoch is taken once: its entries are the observables of the channels at it; on a
base that may emit corrections an epoch of a whole second also gives fragments of the correction stream. A write of ObsHostOutput is
taken, and 0x01 resumes the copy. A survey that has lasted SurveyInTime with its limit met gives the fixed position, the mean of its
positions; after three times as long without it restarts; otherwise it goes on. A position farther than 10 m from the reference counts
as bad, and the third in a row withholds corrections; a near one counts as good, and the third resumes them. A write of BaseEcefX, Y or
Z resumes them. An RTCM epoch that is due waits whole at UART0, what is left of an older one discarded and counted; one that is not due
changes nothing. A TCP client is taken at RtcmTcpPort while fewer than four are served. Of the model are the points of log 22, 61. -/
def Obligations.ReferenceStation : Prop :=
  (∀ (s : State) (r : Int), s.hasRole .rover = true → s.mode.current ≠ .snapshot → s.reg Obj.obsHostOutput ≠ 1 → s.obs.epoch ≠ some s.epochNow →
    ∃ t, exec (.observableEpoch r) s = .next (s.settled t) ∧ s.changesOnly [.obs, .gnss, .roundabout, .dict] t ∧
      t.obs = { s.obs with
        epoch := some s.epochNow, tick := countOf s.clk s.epochNow, residual := r
        entries := s.gnss.channels.filterMap (fun x => s.observe s.epochNow (countOf s.clk s.epochNow) x.1 x.2) }) ∧
  (∀ (s : State) (r : Int), s.correctionsAllowed = true → s.mode.current ≠ .snapshot → s.reg Obj.obsHostOutput ≠ 1 → s.obs.epoch ≠ some s.epochNow →
    s.epochNow % 1000000000 = 0 → s.downPhy ≠ 3 → s.fleet.managerLost = false →
    ∃ t c, exec (.observableEpoch r) s = .next (s.settled t) ∧ s.changesOnly [.obs, .gnss, .radio] t ∧ t.obs.epoch = some s.epochNow ∧
      t.radio.corrections = s.radio.corrections ++ c ∧ c ≠ [] ∧ (∀ f ∈ c, f.type = 1 ∧ f.dst = 0xFF) ∧ t.radio.station = some s.baseEcef) ∧
  (∀ (s : State) (r : Int), s.obs.epoch = some s.epochNow → exec (.observableEpoch r) s = .next (s.settled s)) ∧
  (∀ (s : State) (q : Sess) (v : Int), s.takesWrite q Obj.obsHostOutput v →
    ∃ u, exec (.obsHostOutputWrite q v) s = .next (s.settled (s.acked u q [])) ∧ s.changesOnly [.dict, .obs, .zheoc, .sessions] u ∧
      u.reg Obj.obsHostOutput = v ∧ (v = 1 → u.obs.copy.stopped = false)) ∧
  (∀ (s : State) (l : List (Int × Int × Int)), s.isBase = true → s.baseRef.surveying = true →
    s.baseRef.surveyFrom + ticksS (s.regN Obj.surveyInTime) ≤ s.now → meanWithin l (s.reg Obj.surveyInLimit) = true →
    ∃ t, exec (.surveyInComplete l) s = .next (s.settled t) ∧ s.changesOnly [.baseRef, .dict, .store, .milestone, .draws] t ∧
      t.baseRef = { s.baseRef with inForce := true, surveying := false } ∧ t.baseEcef = meanPoint l ∧ t.reg Obj.basePositionMode = 0) ∧
  (∀ (s : State) (l : List (Int × Int × Int)), s.baseRef.surveying = false ∨ s.now < s.baseRef.surveyFrom + ticksS (s.regN Obj.surveyInTime) ∨
    meanWithin l (s.reg Obj.surveyInLimit) = false → exec (.surveyInComplete l) s = .next (s.settled s)) ∧
  (∀ s : State, s.isBase = true → s.baseRef.surveying = true → s.baseRef.surveyFrom + 3 * ticksS (s.regN Obj.surveyInTime) ≤ s.now →
    exec .surveyInTimeout s = .next (s.settled { s with baseRef := { s.baseRef with surveyFrom := s.now, restarted := true } })) ∧
  (∀ s : State, s.baseRef.surveying = false ∨ s.now < s.baseRef.surveyFrom + 3 * ticksS (s.regN Obj.surveyInTime) →
    exec .surveyInTimeout s = .next (s.settled s)) ∧
  (∀ (s : State) (x y z : Int), s.isBase = true → s.baseRef.inForce = true → s.farFromReference (x, y, z) = true →
    exec (.basePositionCheck x y z) s = .next (s.settled { s with baseRef := { s.baseRef with
      bad := min 3 (s.baseRef.bad + 1), good := 0, mismatch := s.baseRef.mismatch || decide (3 ≤ s.baseRef.bad + 1) } })) ∧
  (∀ (s : State) (x y z : Int), s.isBase = true → s.baseRef.inForce = true → s.farFromReference (x, y, z) = false →
    exec (.basePositionCheck x y z) s = .next (s.settled { s with baseRef := { s.baseRef with
      good := min 3 (s.baseRef.good + 1), bad := 0, mismatch := s.baseRef.mismatch && !decide (3 ≤ s.baseRef.good + 1) } })) ∧
  (∀ (s : State) (q : Sess) (a : Fin 3) (v : Int), s.takesWrite q (ecefObj a) v → s.shadowHolds (.storedNum (regKey (ecefObj a) 0) v) = true →
    ∃ u, exec (.baseEcefWrite q a v) s = .next (s.settled (s.acked u q [])) ∧
      s.changesOnly [.baseRef, .dict, .store, .milestone, .draws, .zheoc, .sessions] u ∧ u.reg (ecefObj a) = v ∧ u.baseRef.mismatch = false) ∧
  (∀ (s : State) (n : Nat) (e : Int), s.correctionsAllowed = true → s.rtcmDue = some e → s.regN Obj.rtcmPorts = 1 → s.boot.bootSel ≠ 2 →
    ∃ t, exec (.rtcmEpoch n) s = .next (s.settled t) ∧ s.changesOnly [.baseRef, .dict] t ∧ Tab.get [] t.baseRef.unsent 0 = s.rtcmMessages e ∧
      t.baseRef.rtcmEpoch = some e ∧
      t.reg Obj.rtcmDiscardedUart0 = (if ((Tab.get [] s.baseRef.unsent 0).drop (s.rtcmSent 0 n)).isEmpty then s.reg Obj.rtcmDiscardedUart0
        else (s.reg Obj.rtcmDiscardedUart0 + 1) % 2 ^ 32)) ∧
  (∀ (s : State) (n : Nat), s.correctionsAllowed = false ∨ s.rtcmDue = none → exec (.rtcmEpoch n) s = .next (s.settled s)) ∧
  (∀ s : State, s.heeds → s.isBase = true → bit (s.regN Obj.rtcmPorts) 2 = true → s.baseRef.tcpClients < 4 →
    exec (.rtcmTcpConnect (s.regN Obj.rtcmTcpPort)) s = .next (s.settled { s with baseRef := { s.baseRef with tcpClients := s.baseRef.tcpClients + 1 } })) ∧
  (∀ (s : State) (n : Nat), n ≠ s.regN Obj.rtcmTcpPort ∨ bit (s.regN Obj.rtcmPorts) 2 = false ∨ 4 ≤ s.baseRef.tcpClients →
    exec (.rtcmTcpConnect n) s = .next (s.settled s))

/-- Parts of R167 to R169, R172, R477 to R480. When the retry wait of the NTRIP client is over it connects with its request, or waits twice
as long, up to 60 s; before that nothing changes. A connection lost is retried after the wait. A GGA sentence goes out every 10 s. Of
the messages, 1230 says whether its biases are aligned, the last MSM of a GPS epoch completes its base half where NTRIP is in use, and
one with more to come, or not accepted, changes nothing. In the matching store the first operand of a key makes an entry, with its
holding time; the last one makes the task ready or puts it in service and removes the entry; an entry at its holding time is discarded
and counted, and not before. Of the model are the points of log 16, 121. -/
def Obligations.CorrectionsAndMatching : Prop :=
  (∀ s : State, s.ntripWanted = true → s.nav.ntripConnected = false → s.due s.nav.ntripDue = true →
    exec (.ntripRetry true) s = .next (s.settled { s with nav := { s.nav with
      ntripConnected := true, ntripRequest := s.ntripGet, ntripDue := none, ntripWait := 5, ggaDue := some (s.now + ticksS 10) } })) ∧
  (∀ s : State, s.ntripWanted = true → s.nav.ntripConnected = false → s.due s.nav.ntripDue = true →
    exec (.ntripRetry false) s = .next (s.settled { s with nav := { s.nav with
      ntripDue := some (s.now + ticksS s.nav.ntripWait), ntripWait := min 60 (2 * s.nav.ntripWait) } })) ∧
  (∀ (s : State) (b : Bool), s.ntripWanted = false ∨ s.due s.nav.ntripDue = false → exec (.ntripRetry b) s = .next (s.settled s)) ∧
  (∀ s : State, s.hasRole .rover = true → s.nav.ntripConnected = true →
    exec .ntripConnectionLost s = .next (s.settled { s with nav := { s.nav with
      ntripConnected := false, aligned1230 := false, ggaDue := none, ntripDue := some (s.now + ticksS s.nav.ntripWait)
      ntripWait := min 60 (2 * s.nav.ntripWait) } })) ∧
  (∀ s : State, s.nav.ntripConnected = true → s.due s.nav.ggaDue = true →
    exec .ntripGga s = .next (s.settled { s with nav := { s.nav with
      ggaSent := s.nav.ggaSent + 1, ggaDue := some (s.now + ticksS 10)
      gga := Config.ggaSentence (s.lastPosition.getD (0, 0, 0)) s.time64 (s.regN Obj.solutionState) s.nav.appliedNsat } })) ∧
  (∀ s : State, s.nav.ntripConnected = false ∨ s.due s.nav.ggaDue = false → exec .ntripGga s = .next (s.settled s)) ∧
  (∀ (s : State) (a m : Bool) (e : Int), s.heeds → s.hasRole .rover = true → s.nav.ntripConnected = true →
    exec (.ntripMessageRx 1230 a m e) s = .next (s.settled { s with nav := { s.nav with aligned1230 := a } })) ∧
  (∀ (s : State) (n : Nat) (a : Bool) (e : Int), s.heeds → s.hasRole .rover = true → s.nav.ntripConnected = true → s.sourceNtrip = true → 1074 ≤ n → n ≤ 1077 →
    exec (.ntripMessageRx n a false e) s = .next (s.settled (s.rtkHalf e 1 n))) ∧
  (∀ (s : State) (n : Nat) (a m : Bool) (e : Int), ntripAccepts n = false ∨ (n ≠ 1230 ∧ m = true) → exec (.ntripMessageRx n a m e) s = .next (s.settled s)) ∧
  (∀ (s : State) (f e slot v need hold : Nat), s.running = true → s.matchEntry (f % 2 ^ 12) (e % 2 ^ 16) = none → s.roundabout.store.length < 4096 →
    2 ≤ need → s.roundabout.held = [] →
    ∃ (t : State) (x : MatchEntry), exec (.matchOperand f e slot v need hold) s = .next (s.settled t) ∧ s.changesOnly [.roundabout, .dict] t ∧
      t.roundabout = { s.roundabout with store := s.roundabout.store ++ [x] } ∧ x.flow = f % 2 ^ 12 ∧ x.epoch = e % 2 ^ 16 ∧ x.need = min need 4 ∧
      x.slots = [(slot % 4, some v)] ∧ x.expires = s.now + s.holdTime (f % 2 ^ 12) hold ∧ t.reg Obj.matchStoreUsed = (s.roundabout.store.length + 1 : Nat)) ∧
  (∀ (s : State) (f e slot v need hold a b : Nat) (x : MatchEntry), s.running = true → s.matchEntry (f % 2 ^ 12) (e % 2 ^ 16) = some x →
    x.need = 2 → x.slots = [(a, some b)] → a ≠ slot % 4 → s.roundabout.held = [] → s.roundabout.contexts < 512 →
    ∃ t, exec (.matchOperand f e slot v need hold) s = .next (s.settled t) ∧ s.changesOnly [.roundabout, .dict] t ∧
      t.roundabout.store = dropEntry s.roundabout.store (f % 2 ^ 12) (e % 2 ^ 16) ∧ t.itemWaits (f % 2 ^ 12) (e % 2 ^ 16) = true) ∧
  (∀ (s : State) (f e : Nat) (x : MatchEntry), s.matchEntry (f % 2 ^ 12) (e % 2 ^ 16) = some x → x.expires ≤ s.now → s.roundabout.held = [] →
    ∃ t, exec (.matchExpiry f e) s = .next (s.settled t) ∧ s.changesOnly [.roundabout, .dict] t ∧
      t.roundabout = { s.roundabout with store := dropEntry s.roundabout.store x.flow x.epoch } ∧
      t.reg Obj.matchExpired = (s.reg Obj.matchExpired + 1) % 2 ^ 32) ∧
  (∀ (s : State) (f e : Nat) (x : MatchEntry), s.matchEntry (f % 2 ^ 12) (e % 2 ^ 16) = some x → s.now < x.expires →
    exec (.matchExpiry f e) s = .next (s.settled s))

/-- Parts of R167, R169 to R171, R174 to R181. On a rover an extrapolated solution, or a matched one whose task is ready, is delivered with
the state that the rules of R171 give it, SINGLE where its corrections are too old; after a change of source it is not FIXED. A matched
one whose task is not ready changes nothing. Kept ambiguities end at their instant. A heading solution that passes is FIXED and
delivered, and any other leaves the heading float; the hold ends after HeadingHoldTime. At a sample instant IMU_SYNC goes out and the
read is due; a complete frame with good status and new axes is a sample, and the third cut short in a row is a fault. At a pose instant
one record is published with the next sequence number, and a second one of the same instant is not. Of the model are the points of log
4, 120, 121. -/
def Obligations.SolutionsAndPose : Prop :=
  (∀ (s : State) (x : RtkSolution), s.hasRole .rover = true → s.mode.current ≠ .snapshot → x.matched = false ∨ s.rtkReady x.epoch = true →
    s.sourceNtrip = s.nav.ntripInUse →
    ∃ t, exec (.rtkSolution x) s = .next (s.settled t) ∧ s.changesOnly [.nav, .dict, .roundabout] t ∧ t.nav.matchedState = s.solutionCode x ∧
      t.reg Obj.solutionState = s.solutionCode x ∧ t.nav.delivered.length = s.nav.delivered.length + 1 ∧
      (s.ageHolds x = false → t.nav.matchedState = 1)) ∧
  (∀ (s : State) (x : RtkSolution), s.hasRole .rover = true → s.mode.current ≠ .snapshot → x.matched = false ∨ s.rtkReady x.epoch = true →
    s.sourceNtrip ≠ s.nav.ntripInUse →
    ∃ t, exec (.rtkSolution x) s = .next (s.settled t) ∧ s.changesOnly [.nav, .dict, .roundabout] t ∧ t.nav.matchedState ≠ 4 ∧
      t.nav.ntripInUse = s.sourceNtrip ∧ t.nav.delivered.length = s.nav.delivered.length + 1) ∧
  (∀ (s : State) (x : RtkSolution), x.matched = true → s.rtkReady x.epoch = false → exec (.rtkSolution x) s = .next (s.settled s)) ∧
  (∀ s : State, s.due s.nav.holdDue = true →
    exec .ambiguityHoldExpiry s = .next (s.settled { s with nav := { s.nav with ambiguities := false, holdDue := none } })) ∧
  (∀ s : State, s.due s.nav.holdDue = false → exec .ambiguityHoldExpiry s = .next (s.settled s)) ∧
  (∀ (s : State) (x : HeadingSolution), s.hasRole .rover = true → s.mode.current ≠ .snapshot → s.headingPasses x = true → s.lengthHolds x = true →
    ∃ t, exec (.headingSolution x) s = .next (s.settled t) ∧ s.changesOnly [.nav] t ∧ t.nav.headingState = 4 ∧
      t.nav.headingFixedAt = some s.now ∧ t.nav.heldHeading = s.baselineHeading x ∧ t.nav.heldPitch = s.baselineTilt x ∧
      t.nav.delivered.length = s.nav.delivered.length + 1) ∧
  (∀ (s : State) (x : HeadingSolution), s.hasRole .rover = true → s.mode.current ≠ .snapshot → s.headingPasses x = false ∨ s.lengthHolds x = false →
    exec (.headingSolution x) s = .next (s.settled { s with nav := { s.nav with headingState := 3 } })) ∧
  (∀ (s : State) (f : Nat), s.nav.headingFixedAt = some f → f + ticksS (s.regN Obj.headingHoldTime) ≤ s.now →
    exec .headingHoldExpiry s = .next (s.settled { s with nav := { s.nav with headingState := 0, headingFixedAt := none } })) ∧
  (∀ (s : State) (f : Nat), s.nav.headingFixedAt = some f → s.now < f + ticksS (s.regN Obj.headingHoldTime) →
    exec .headingHoldExpiry s = .next (s.settled s)) ∧
  (∀ (s : State) (e : Nat), s.hasRole .rover = true → s.imuFitted = true → s.edgeNow s.imuInstant = some e → s.nav.imuAt ≠ some e →
    exec .imuSyncSample s = .next (s.settled { s with nav := { s.nav with
      imuSync := s.nav.imuSync + 1, imuEdge := some s.imuInstant, imuAt := some e, imuReadDue := some (e + ticksUs (s.regN Obj.imuReadDelay)) } })) ∧
  (∀ s : State, s.edgeNow s.imuInstant = none → exec .imuSyncSample s = .next (s.settled s)) ∧
  (∀ (s : State) (f : List Byte), s.hasRole .rover = true → s.imuFitted = true → s.due s.nav.imuReadDue = true →
    fieldU s.imuFrame 5 1 ≤ f.length → imuStatusOk s.imuFrame f = true → s.nav.imuFault = false →
    (List.range 6).map (imuAxis s.imuFrame f) ≠ s.nav.imuAxes →
    exec (.imuFrameRead f) s = .next (s.settled { s with nav := { s.nav with
      imuReadDue := none, imuTransfer := s.imuRead, imuCutRun := 0, imuFailRun := 0, imuAxes := (List.range 6).map (imuAxis s.imuFrame f), imuSameRun := 1,
      imuSamples := s.nav.imuSamples ++ [(s.nav.imuEdge.getD 0 - s.reg Obj.imuGroupDelay * 1000,
        s.imuBody (imuScaled s.imuFrame ((List.range 6).map (imuAxis s.imuFrame f))))] } })) ∧
  (∀ (s : State) (f : List Byte), s.hasRole .rover = true → s.imuFitted = true → s.due s.nav.imuReadDue = true →
    f.length < fieldU s.imuFrame 5 1 → 2 ≤ s.nav.imuCutRun →
    ∃ t, exec (.imuFrameRead f) s = .next (s.settled t) ∧ s.changesOnly [.nav] t ∧ t.nav.imuFault = true ∧ t.nav.imuSamples = []) ∧
  (∀ (s : State) (f : List Byte), s.due s.nav.imuReadDue = false → exec (.imuFrameRead f) s = .next (s.settled s)) ∧
  (∀ (s : State) (e : PoseEstimate), s.hasRole .rover = true → s.mode.current ≠ .snapshot → s.nav.pose.map (·.time) ≠ some s.poseInstantNow →
    ∃ t p, exec (.poseInstant e) s = .next (s.settled t) ∧ s.changesOnly [.nav, .dict] t ∧ t.nav.pose = some p ∧ p.time = s.poseInstantNow ∧
      p.seq = (s.nav.seq + 1) % 2 ^ 32 ∧ t.nav.seq = p.seq ∧ t.nav.delivered = [] ∧ t.nav.imuSamples = [] ∧
      (s.nav.anchor = none → p.est.velN = e.velN ∧ p.est.velE = e.velE ∧ p.est.velU = e.velU)) ∧
  (∀ (s : State) (e : PoseEstimate), s.nav.pose.map (·.time) = some s.poseInstantNow → exec (.poseInstant e) s = .next (s.settled s))

/-! ## Boulevard (spec/06) -/

/-- Parts of R185, R188, R190 to R192, R200, R216 to R219. A program starts at its frame start, where its group runs or is ordered to start:
its frame is staged with its loops. At any other instant, in a relay, or with its frame open it does not start. When its output phase
has come, with the count inside the window, the frame of an implement group commits its loop, and that of a tracking group its staged
channel; beyond the window the frame is abandoned and counted as an overrun, and the third in a row suspends an implement group. Before
the output phase nothing happens. The scrub of the memories, outside every window and 10 s after the last, counts the words corrected,
and suspends a tracking group in whose memory a word cannot be. Of the model are the points of log 126. -/
def Obligations.LoopFrames : Prop :=
  (∀ (s : State) (p : BlvProgram) (n w : Nat), s.blv.programs.find? (fun p => decide (p.number = n)) = some p →
    s.operating = true → s.mode.role ≠ some .relay → s.blv.frames.any (fun f => decide (f.program = n)) = false → s.frameStarts p = true →
    (s.group p.group).order = none → (s.group p.group).state = .running →
    ∃ t f, exec (.programFrame n w) s = .next (s.settled t) ∧ s.changesOnly [.blv] t ∧ t.blv.frames = s.blv.frames ++ [f] ∧
      f.program = n ∧ f.wait = w ∧ f.start = frameStart p s.time64 ∧ (8 ≤ p.group → f.staged.map (·.loop) = p.loops.map (·.loop)) ∧
      t.blv.loops = s.blv.loops ∧ t.blv.groups = s.blv.groups) ∧
  (∀ (s : State) (p : BlvProgram) (n w : Nat), s.blv.programs.find? (fun p => decide (p.number = n)) = some p →
    s.operating = true → s.mode.role ≠ some .relay → s.blv.frames.any (fun f => decide (f.program = n)) = false → s.frameStarts p = true →
    (s.group p.group).order = some .start →
    ∃ t, exec (.programFrame n w) s = .next (s.settled t) ∧ s.changesOnly [.blv, .dict] t ∧ (t.group p.group).state = .starting ∧
      (t.group p.group).order = none ∧ t.blv.frames.length = s.blv.frames.length + 1) ∧
  (∀ (s : State) (p : BlvProgram) (n w : Nat), s.blv.programs.find? (fun p => decide (p.number = n)) = some p →
    s.mode.role = some .relay ∨ s.blv.frames.any (fun f => decide (f.program = n)) = true ∨ s.frameStarts p = false →
    exec (.programFrame n w) s = .next (s.settled s)) ∧
  (∀ (s : State) (p : BlvProgram) (n c : Nat) (f : Frame) (x : Staged), s.blv.programs.find? (fun p => decide (p.number = n)) = some p →
    s.blv.frames.find? (fun f => decide (f.program = n)) = some f → s.phaseReached p f = true → programCount p + f.wait + 4 * c ≤ p.phase → f.staged = [x] →
    8 ≤ p.group → (s.group p.group).state = .running →
    ∃ t, exec (.outputPhase n c false) s = .next (s.settled t) ∧ s.changesOnly [.blv, .dict] t ∧
      t.loop x.loop = { x.value with saturations := (s.loop x.loop).saturations + (if x.saturated then 1 else 0) } ∧
      (t.group p.group).overruns = 0 ∧ (t.group p.group).state = .running ∧
      t.blv.frames = s.blv.frames.filter (fun f => decide (f.program ≠ n)) ∧ t.regAt Obj.output x.loop = x.value.out) ∧
  (∀ (s : State) (p : BlvProgram) (n k : Nat) (f : Frame) (c : Channel), s.blv.programs.find? (fun p => decide (p.number = n)) = some p →
    s.blv.frames.find? (fun f => decide (f.program = n)) = some f → s.phaseReached p f = true → programCount p + f.wait ≤ p.phase → f.staged = [] →
    p.group < 8 → s.gnss.staged = [(k, c)] → k / 64 = p.group → (s.chan k).en = true →
    ∃ t, exec (.outputPhase n 0 false) s = .next (s.settled t) ∧ s.changesOnly [.blv, .gnss, .dict] t ∧ t.chan k = (s.chan k).commit c ∧ t.gnss.staged = []) ∧
  (∀ (s : State) (p : BlvProgram) (n c : Nat) (f : Frame), s.blv.programs.find? (fun p => decide (p.number = n)) = some p →
    s.blv.frames.find? (fun f => decide (f.program = n)) = some f → s.phaseReached p f = true → p.phase < programCount p + f.wait + 4 * c →
    8 ≤ p.group → (s.group p.group).overruns < 2 →
    ∃ t, exec (.outputPhase n c false) s = .next (s.settled t) ∧ s.changesOnly [.blv, .dict] t ∧ t.blv.loops = s.blv.loops ∧
      (t.group p.group).overruns = (s.group p.group).overruns + 1 ∧ (t.group p.group).state = (s.group p.group).state ∧
      t.regAt Obj.overrunCount p.group = (s.regAt Obj.overrunCount p.group + 1) % 2 ^ 32) ∧
  (∀ (s : State) (p : BlvProgram) (n c : Nat) (f : Frame), s.blv.programs.find? (fun p => decide (p.number = n)) = some p →
    s.blv.frames.find? (fun f => decide (f.program = n)) = some f → s.phaseReached p f = true → p.phase < programCount p + f.wait + 4 * c →
    8 ≤ p.group → 2 ≤ (s.group p.group).overruns →
    ∃ t, exec (.outputPhase n c false) s = .next (s.settled t) ∧ s.changesOnly [.blv, .kerb, .dict] t ∧ (t.group p.group).state = .suspended ∧
      (t.group p.group).cause = 1) ∧
  (∀ (s : State) (p : BlvProgram) (n c : Nat) (f : Frame), s.blv.programs.find? (fun p => decide (p.number = n)) = some p →
    s.blv.frames.find? (fun f => decide (f.program = n)) = some f → s.phaseReached p f = false →
    exec (.outputPhase n c false) s = .next (s.settled s)) ∧
  (∀ (s : State) (n : Nat), s.running = true → s.mode.role ≠ some .relay → s.blv.frames = [] → (∀ x, s.blv.scrubbedAt = some x → x + ticksS 10 ≤ s.now) →
    exec (.blvScrub n []) s = .next (s.settled ({ s with blv := { s.blv with scrubbedAt := some s.now } }.addRegAt Obj.correctedReads 0 n))) ∧
  (∀ (s : State) (n g : Nat), s.running = true → s.mode.role ≠ some .relay → s.blv.frames = [] → (∀ x, s.blv.scrubbedAt = some x → x + ticksS 10 ≤ s.now) →
    g < 8 →
    ∃ t, exec (.blvScrub n [g]) s = .next (s.settled t) ∧ s.changesOnly [.blv, .dict, .gnss] t ∧ (t.group g).state = .suspended ∧
      (t.group g).cause = 2 ∧ t.gnss.suspended.contains g = true) ∧
  (∀ (s : State) (n x : Nat) (l : List Nat), s.blv.scrubbedAt = some x → s.now < x + ticksS 10 → exec (.blvScrub n l) s = .next (s.settled s))

/-- Parts of R202, R204 to R206, R219 to R221. BankCopy copies bank A over bank B while A is active, and is refused while a swap waits. A
write of CoefInactive to an entry of the integrator partition writes that entry of the inactive bank alone. In ROVER a swap request is
accepted where the groups of the loops that change do not run, for a boundary of 100 ms at least 100 us ahead, and is refused with 0x02
otherwise. At the boundary the banks exchange and the result is 0x00; before it nothing changes. On a rover GroupEnable orders the start
of a disabled implement group, or the stop of a running one; tracking groups are refused with 0x04; GroupResume orders a suspended group
to resume. Of the model are the points of log 122. -/
def Obligations.BanksAndGroups : Prop :=
  (∀ (s : State) (q : Sess) (v : Int), s.takesWrite q Obj.bankCopy v → s.swapWaits = false → s.blv.activeB = false →
    ∃ u, exec (.bankCopy q v) s = .next (s.settled (s.acked u q [])) ∧ s.changesOnly [.blv, .zheoc, .sessions] u ∧
      u.blv = { s.blv with bankB := s.blv.bankA }) ∧
  (∀ (s : State) (q : Sess) (v : Int), s.takesWrite q Obj.bankCopy v → s.swapWaits = true →
    exec (.bankCopy q v) s = .next (s.settled (s.nacked (s.begun q Obj.bankCopy (encodeValue Obj.bankCopy v)) q abortAccess))) ∧
  (∀ (s : State) (q : Sess) (v : Int), s.takesWrite q Obj.coefInactive v → s.swapWaits = false →
    bit (s.coefInactive (s.instanceOf q Obj.coefInactive)) 37 = true →
    ∃ u, exec (.coefInactiveWrite q v) s = .next (s.settled (s.acked u q [])) ∧ s.changesOnly [.blv, .zheoc, .sessions] u ∧
      u.coefInactive (s.instanceOf q Obj.coefInactive) = bits v.toNat 0 37 + 2 ^ 37 ∧ (∀ i, u.coefActive i = s.coefActive i) ∧
      (∀ i, i ≠ s.instanceOf q Obj.coefInactive → u.coefInactive i = s.coefInactive i)) ∧
  (∀ (s : State) (q : Sess) (v : Int), s.takesWrite q Obj.bankSwapRequest v → s.swapWaits = false → s.mode.current = .rover → s.swapAllowed = true →
    ∃ u x, exec (.bankSwapRequest q v) s = .next (s.settled (s.acked u q [])) ∧ s.changesOnly [.blv, .dict, .zheoc, .sessions] u ∧
      u.blv.swapAt = some x ∧ x % 100000000 = 0 ∧ s.time64 + 100000 ≤ x ∧ x < s.time64 + 100100000 ∧ u.reg Obj.bankSwapResult = 1) ∧
  (∀ (s : State) (q : Sess) (v : Int), s.takesWrite q Obj.bankSwapRequest v → s.swapWaits = false → s.mode.current = .rover → s.swapAllowed = false →
    ∃ u, exec (.bankSwapRequest q v) s = .next (s.settled (s.acked u q [])) ∧ s.changesOnly [.dict, .zheoc, .sessions] u ∧ u.reg Obj.bankSwapResult = 2) ∧
  (∀ (s : State) (x : Int), s.blv.swapAt = some x → x ≤ s.time64 →
    ∃ t, exec .bankSwap s = .next (s.settled t) ∧ s.changesOnly [.blv, .dict] t ∧ t.blv.activeB = (!s.blv.activeB) ∧ t.blv.swapAt = none ∧
      (∀ i, t.coefActive i = s.coefInactive i) ∧ t.reg Obj.bankSwapResult = 0 ∧ t.reg Obj.activeBank = (if s.blv.activeB then 0 else 1)) ∧
  (∀ (s : State) (x : Int), s.blv.swapAt = some x → s.time64 < x → exec .bankSwap s = .next (s.settled s)) ∧
  (∀ (s : State) (q : Sess), s.takesWrite q Obj.groupEnable 1 → 8 ≤ s.groupOf q → s.mode.role = some .rover →
    s.shadowHolds (.storedNum (regKey Obj.groupEnable (s.groupOf q)) 1) = true → s.groupLoaded (s.groupOf q) = true →
    (s.group (s.groupOf q)).state = .disabled →
    ∃ u, exec (.groupEnable q) s = .next (s.settled (s.acked u q [])) ∧
      s.changesOnly [.blv, .dict, .store, .milestone, .draws, .zheoc, .sessions] u ∧ (u.group (s.groupOf q)).order = some .start ∧
      u.regAt Obj.groupCommandResult (s.groupOf q) = 0) ∧
  (∀ (s : State) (q : Sess), s.takesWrite q Obj.groupEnable 0 → 8 ≤ s.groupOf q → s.mode.role = some .rover →
    s.shadowHolds (.storedNum (regKey Obj.groupEnable (s.groupOf q)) 0) = true → s.groupLoaded (s.groupOf q) = true →
    (s.group (s.groupOf q)).state = .running →
    ∃ u, exec (.groupDisable q) s = .next (s.settled (s.acked u q [])) ∧
      s.changesOnly [.blv, .dict, .store, .milestone, .draws, .zheoc, .sessions] u ∧ (u.group (s.groupOf q)).order = some .stop ∧
      u.regAt Obj.groupCommandResult (s.groupOf q) = 0) ∧
  (∀ (s : State) (q : Sess) (v : Int), s.takesWrite q Obj.groupEnable v → v = 0 ∨ v = 1 → s.groupOf q < 8 →
    ∃ u, exec (if v = 1 then .groupEnable q else .groupDisable q) s = .next (s.settled (s.acked u q [])) ∧ s.changesOnly [.dict, .zheoc, .sessions] u ∧
      u.regAt Obj.groupCommandResult (s.groupOf q) = 4) ∧
  (∀ (s : State) (q : Sess) (v : Int), s.takesWrite q Obj.groupResume v → s.groupLoaded (s.groupOf q) = true → s.mode.role = some .rover →
    (s.group (s.groupOf q)).state = .suspended →
    ∃ u, exec (.groupResume q v) s = .next (s.settled (s.acked u q [])) ∧ s.changesOnly [.blv, .dict, .zheoc, .sessions] u ∧
      (u.group (s.groupOf q)).order = some .resume ∧ (u.group (s.groupOf q)).overruns = 0 ∧ u.regAt Obj.groupCommandResult (s.groupOf q) = 0)

/-! ## Sections (spec/07) -/

/-- Parts of R231, R233, R240 to R242, R252, R253, R255. Without a task and without a pose an evaluation plans OFF at the earliest slot for
every section commanded ON that is not in fault, and clears the plan of the others. A plan whose slot has come, or is the next one, is
issued for the next slot: it goes to the queue of CK_IO, and an OFF section turns ARMING, an ON one CLOSING. When the delay of a switch
has ended, ARMING turns ON, and CLOSING turns OFF with its applied interval; before that nothing changes. SectionMode 0x01 and
MasterEnable 0 plan OFF at the earliest slot for the section, or for every one, that is commanded ON; their other values are only taken.
Of the model are the points of log 94, 98. -/
def Obligations.SectionsSwitch : Prop :=
  (∀ s : State, s.hasRole .rover = true → s.fleet.task = none → s.kerb.pose = none →
    ∃ t, exec (.kerbEvaluation false) s = .next (s.settled t) ∧ s.changesOnly [.kerb, .dict] t ∧ t.kerb.poseInvalid = true ∧
      t.kerb.chain = s.kerb.chain ∧ (∀ i, s.busySections.contains i = true → (s.sec i).state ≠ .fault →
        t.sec i = { s.sec i with
          plan := if (s.sec i).commanded then some (false, earliestSlot (s.time64 / 1000000 * 1000000 + 400000)) else none }) ∧
      (∀ i, (s.sec i).state = .fault → t.sec i = s.sec i)) ∧
  (∀ (s : State) (i k : Nat), s.hasRole .rover = true → s.kerb.chain.fault = false → s.busySections = [i] → (s.sec i).plan = some (true, k) →
    k ≤ s.slotNow + 1 → (s.sec i).state = .off →
    ∃ t, exec .slotIssue s = .next (s.settled t) ∧ s.changesOnly [.kerb] t ∧
      t.sec i = { s.sec i with plan := none, issued := some (true, s.slotNow + 1), state := .arming } ∧ (∀ j, j ≠ i → t.sec j = s.sec j) ∧
      t.kerb.chain = { s.kerb.chain with queue := (pushSwitch (s.slotNow + 1) i true s.kerb.chain.queue).take 64 }) ∧
  (∀ (s : State) (i k : Nat), s.hasRole .rover = true → s.kerb.chain.fault = false → s.busySections = [i] → (s.sec i).plan = some (false, k) →
    k ≤ s.slotNow + 1 → (s.sec i).state = .on →
    ∃ t, exec .slotIssue s = .next (s.settled t) ∧ s.changesOnly [.kerb] t ∧
      t.sec i = { s.sec i with plan := none, issued := some (false, s.slotNow + 1), state := .closing } ∧ (∀ j, j ≠ i → t.sec j = s.sec j) ∧
      t.kerb.chain = { s.kerb.chain with queue := (pushSwitch (s.slotNow + 1) i false s.kerb.chain.queue).take 64 }) ∧
  (∀ s : State, s.kerb.chain.fault = true ∨ s.busySections = [] → exec .slotIssue s = .next (s.settled s)) ∧
  (∀ (s : State) (i : Nat) (d : Int), (s.sec i).due = some d → d ≤ s.time64 → (s.sec i).state = .arming →
    exec (.sectionDelayElapsed i) s = .next (s.settled (s.setSec i { s.sec i with state := .on, due := none }))) ∧
  (∀ (s : State) (i : Nat) (d a e : Int), (s.sec i).due = some d → d ≤ s.time64 → (s.sec i).state = .closing → (s.sec i).from_ = some a →
    (s.sec i).till = some e → a < min e d →
    ∃ t, exec (.sectionDelayElapsed i) s = .next (s.settled t) ∧ s.changesOnly [.kerb] t ∧ (t.sec i).state = .off ∧ (t.sec i).from_ = none ∧
      t.kerb.spans = s.kerb.spans ++ [{ sec := i, start := a, stop := min e d }]) ∧
  (∀ (s : State) (i : Nat), (∀ d, (s.sec i).due = some d → s.time64 < d) → exec (.sectionDelayElapsed i) s = .next (s.settled s)) ∧
  (∀ (s : State) (q : Sess), s.takesWrite q Obj.sectionMode 1 → (s.sec (s.sectionOf q)).commanded = true →
    ∃ u, exec (.sectionModeWrite q 1) s = .next (s.settled (s.acked u q [])) ∧ s.changesOnly [.kerb, .dict, .zheoc, .sessions] u ∧
      u.regAt Obj.sectionMode (s.sectionOf q) = 1 ∧ (u.sec (s.sectionOf q)).plan = some (false, earliestSlot s.time64)) ∧
  (∀ (s : State) (q : Sess) (v : Int), s.takesWrite q Obj.sectionMode v → v ≠ 1 →
    ∃ u, exec (.sectionModeWrite q v) s = .next (s.settled (s.acked u q [])) ∧ s.changesOnly [.dict, .zheoc, .sessions] u ∧
      u.regAt Obj.sectionMode (s.sectionOf q) = v) ∧
  (∀ (s : State) (q : Sess), s.takesWrite q Obj.masterEnable 0 →
    ∃ u, exec (.masterEnableWrite q 0) s = .next (s.settled (s.acked u q [])) ∧ s.changesOnly [.kerb, .dict, .zheoc, .sessions] u ∧
      u.reg Obj.masterEnable = 0 ∧ (∀ i, s.busySections.contains i = true →
        (u.sec i).plan = if (s.sec i).commanded then some (false, earliestSlot s.time64) else none)) ∧
  (∀ (s : State) (q : Sess), s.takesWrite q Obj.masterEnable 1 →
    ∃ u, exec (.masterEnableWrite q 1) s = .next (s.settled (s.acked u q [])) ∧ s.changesOnly [.dict, .zheoc, .sessions] u ∧
      u.reg Obj.masterEnable = 1)

/-- Parts of R226, R227, R246 to R250. A slot of the chain, taken once, shifts the image out and counts a capture; SEC_OE_N is enabled in
ROVER at the capture of an all-OFF image after the first capture. A readback that differs from what was shifted is a fault: SEC_OE_N is
disabled, the count rises, every enabled section is in fault. ChainFaultClear of 1 ends the fault and turns the sections in fault OFF;
it is refused otherwise. A chain object that fits is taken, with the latency of R246, only while no section is on or switching, and all
but the model restart the chain. A record of a section is taken only while that section is OFF, and aborts otherwise. Of the model are
the points of log 97, 99. -/
def Obligations.SectionChain : Prop :=
  (∀ (s : State) (r : Nat), s.chainMode = true → s.regN Obj.chainLength ≠ 0 → s.kerb.chain.doneSlot ≠ some s.slotNow → s.kerb.chain.running = true →
    s.kerb.chain.fault = false → s.kerb.chain.queue = [] → s.reg Obj.chainReadback ≠ 1 ∨ r % 2 ^ s.regN Obj.chainLength = s.kerb.chain.shifted → s.kerb.chain.oe = true →
    ∃ t, exec (.slotBoundary r) s = .next (s.settled t) ∧ s.changesOnly [.kerb, .dict] t ∧ t.kerb = { s.kerb with chain :=
      { s.kerb.chain with allOff := decide (s.kerb.chain.image = s.offImage), captures := s.kerb.chain.captures + 1, doneSlot := some s.slotNow
                          shifted := s.kerb.chain.image % 2 ^ s.regN Obj.chainLength, shiftedOff := decide (s.kerb.chain.image = s.offImage) } }) ∧
  (∀ (s : State) (r : Nat), s.chainMode = true → s.mode.current = .rover → s.regN Obj.chainLength ≠ 0 → s.kerb.chain.doneSlot ≠ some s.slotNow → s.kerb.chain.running = true →
    s.kerb.chain.fault = false → s.kerb.chain.queue = [] → s.reg Obj.chainReadback ≠ 1 → s.kerb.chain.oe = false →
    s.kerb.chain.image = s.offImage → 0 < s.kerb.chain.captures →
    ∃ t, exec (.slotBoundary r) s = .next (s.settled t) ∧ s.changesOnly [.kerb, .dict] t ∧ t.kerb.chain.oe = true ∧
      t.kerb.chain.oeSlot = s.slotNow) ∧
  (∀ (s : State) (r : Nat), s.chainMode = true → s.regN Obj.chainLength ≠ 0 → s.kerb.chain.doneSlot ≠ some s.slotNow → s.kerb.chain.running = true →
    s.kerb.chain.fault = false → s.reg Obj.chainReadback = 1 → 0 < s.kerb.chain.captures → r % 2 ^ s.regN Obj.chainLength ≠ s.kerb.chain.shifted →
    ∃ t, exec (.slotBoundary r) s = .next (s.settled t) ∧ s.changesOnly [.kerb, .dict] t ∧ t.kerb.chain.fault = true ∧
      t.kerb.chain.oe = false ∧ t.reg Obj.chainFaultCount = (s.reg Obj.chainFaultCount + 1) % 2 ^ 32 ∧
      (∀ i < 1024, s.secEnabled i = true → (t.sec i).state = .fault)) ∧
  (∀ (s : State) (r : Nat), s.chainMode = false ∨ s.regN Obj.chainLength = 0 ∨ s.kerb.chain.doneSlot = some s.slotNow →
    exec (.slotBoundary r) s = .next (s.settled s)) ∧
  (∀ (s : State) (q : Sess), s.takesWrite q Obj.chainFaultClear 1 → s.kerb.chain.fault = true →
    ∃ u, exec (.chainFaultClear q 1) s = .next (s.settled (s.acked u q [])) ∧ s.changesOnly [.kerb, .zheoc, .sessions] u ∧
      u.kerb.chain = { s.kerb.chain with fault := false } ∧ (∀ i, (s.sec i).state = .fault → (u.sec i).state = .off) ∧
      (∀ i, (s.sec i).state ≠ .fault → u.sec i = s.sec i)) ∧
  (∀ (s : State) (q : Sess) (v : Int), s.takesWrite q Obj.chainFaultClear v → v ≠ 1 ∨ s.kerb.chain.fault = false →
    exec (.chainFaultClear q v) s =
      .next (s.settled (s.nacked (s.begun q Obj.chainFaultClear (encodeValue Obj.chainFaultClear v)) q abortAccess))) ∧
  (∀ (s : State) (q : Sess) (w : ChainObject) (v : Int), s.takesWrite q (chainObj w) v → s.chainFits w v = true → s.sectionsQuiet = true →
    s.shadowHolds (.storedNum (regKey (chainObj w) 0) v) = true →
    ∃ u, exec (.chainConfigWrite q w v) s = .next (s.settled (s.acked u q [])) ∧
      s.changesOnly [.kerb, .dict, .store, .milestone, .draws, .zheoc, .sessions] u ∧ u.reg (chainObj w) = v ∧
      u.reg Obj.chainLatency = (5 + (2 * u.regN Obj.chainLength + 1) * u.regN Obj.chainDivider : Nat) ∧
      (w ≠ .model → u.kerb.chain.oe = false ∧ u.kerb.chain.captures = 0 ∧ u.kerb.chain.queue = []) ∧ (w = .model → u.kerb = s.kerb)) ∧
  (∀ (s : State) (q : Sess) (w : ChainObject) (v : Int), s.takesWrite q (chainObj w) v → s.chainFits w v = true → s.sectionsQuiet = false →
    exec (.chainConfigWrite q w v) s = .next (s.settled (s.nacked (s.begun q (chainObj w) (encodeValue (chainObj w) v)) q abortAccess))) ∧
  (∀ (s : State) (q : Sess) (w : SectionField) (v : Int), s.takesWrite q (sectionObj w) v → (s.sec (s.sectionOf q)).state = .off →
    (s.setRegAt (sectionObj w) (s.sectionOf q) v).sectionRecordOk (s.sectionOf q) = true →
    s.shadowHolds (.storedNum (regKey (sectionObj w) (s.sectionOf q)) v) = true →
    ∃ u, exec (.sectionRecordWrite q w v) s = .next (s.settled (s.acked u q [])) ∧
      s.changesOnly [.kerb, .dict, .store, .milestone, .draws, .zheoc, .sessions] u ∧ u.regAt (sectionObj w) (s.sectionOf q) = v ∧
      (∀ i, u.sec i = s.sec i)) ∧
  (∀ (s : State) (q : Sess) (w : SectionField) (v : Int), s.takesWrite q (sectionObj w) v → (s.sec (s.sectionOf q)).state ≠ .off →
    exec (.sectionRecordWrite q w v) s = .next (s.settled (s.nacked (s.begun q (sectionObj w) (encodeValue (sectionObj w) v)) q abortAccess)))

/-! ## Fields, tracks, tasks and claims (spec/09) -/

/-- Parts of R289 to R291, R294, R295, R302. On the manager a field record that passes the checks and gets its map is loaded with result 0;
one that fails a check, or gets no map, changes no field and shows the check's code, or 0x05. FieldUnload removes a field with its
tracks and tasks and leaves the maps; it aborts while a task of the field is in work. A track block in which all holds is loaded whole;
one with a wrong CRC, or with a track that is not FREE, is refused with 0x03, or 0x01. A task record in which all holds is loaded. A
worker takes a copied task record. While no lease is due, TaskCommand cancels, revokes or hands over a task with its reserved tracks,
and answers 0x01 without a task. An offer goes to a capable connected machine and lapses at its time, not before. Of the model are the
points of log 37, 49, 51. -/
def Obligations.FieldsAndTasks : Prop :=
  (∀ (s : State) (q : Sess) (b : List Byte), s.takesBytes q Obj.fieldLoad b → s.isWorker = false → s.fieldCheck b = 0 →
    (s.createMap (parseField b)).2.isSome = true →
    ∃ u n, exec (.fieldLoad q b) s = .next (s.settled (s.acked u q [])) ∧ s.changesOnly [.fleet, .cover, .gate, .dict, .zheoc, .sessions] u ∧
      Tab.get none u.fleet.fields n = some (parseField b) ∧ u.reg Obj.fieldLoadResult = 0) ∧
  (∀ (s : State) (q : Sess) (b : List Byte), s.takesBytes q Obj.fieldLoad b → s.isWorker = false → s.fieldCheck b = 0 →
    (s.createMap (parseField b)).2 = none →
    ∃ u, exec (.fieldLoad q b) s = .next (s.settled (s.acked u q [])) ∧ s.changesOnly [.cover, .dict, .zheoc, .sessions] u ∧ u.reg Obj.fieldLoadResult = 5) ∧
  (∀ (s : State) (q : Sess) (b : List Byte), s.takesBytes q Obj.fieldLoad b → s.isWorker = false → s.fieldCheck b ≠ 0 →
    ∃ u, exec (.fieldLoad q b) s = .next (s.settled (s.acked u q [])) ∧ s.changesOnly [.dict, .zheoc, .sessions] u ∧
      u.reg Obj.fieldLoadResult = s.fieldCheck b) ∧
  (∀ (s : State) (q : Sess) (v : Int) (f : FieldRec), s.takesWrite q Obj.fieldUnload v → s.isWorker = false →
    Tab.get none s.fleet.fields (s.instanceOf q Obj.fieldUnload) = some f →
    s.fleet.tasks.any (fun t => decide (t.field = f.id) && taskInWork t) = false →
    ∃ u, exec (.fieldUnload q v) s = .next (s.settled (s.acked u q [])) ∧ s.changesOnly [.fleet, .gate, .zheoc, .sessions] u ∧
      u.fieldLoaded f.id = false ∧ (∀ t ∈ u.fleet.tasks, t.field ≠ f.id) ∧ (∀ n < 65536, u.track f.id n = none) ∧
      (∀ t ∈ s.fleet.tasks, t.field ≠ f.id → t ∈ u.fleet.tasks)) ∧
  (∀ (s : State) (q : Sess) (v : Int) (f : FieldRec), s.takesWrite q Obj.fieldUnload v → s.isWorker = false →
    Tab.get none s.fleet.fields (s.instanceOf q Obj.fieldUnload) = some f →
    s.fleet.tasks.any (fun t => decide (t.field = f.id) && taskInWork t) = true →
    exec (.fieldUnload q v) s = .next (s.settled (s.nacked (s.begun q Obj.fieldUnload (encodeValue Obj.fieldUnload v)) q abortAccess))) ∧
  (∀ (s : State) (q : Sess) (b : List Byte) (l : List Track), s.takesBytes q Obj.trackLoad b → s.isWorker = false → crc32Ok b = true →
    s.fieldLoaded (fieldU b 0 2) = true → 1 ≤ fieldU b 4 2 → fieldU b 4 2 ≤ 4096 → fieldU b 2 2 + fieldU b 4 2 ≤ 65536 →
    parseTracks (fieldU b 4 2) ((b.drop 8).take (b.length - 12)) = some l →
    (∀ k < fieldU b 4 2, ∀ x, s.track (fieldU b 0 2) (fieldU b 2 2 + k) = some x → x.state = .free) →
    s.poolUsed (fieldU b 0 2) ((List.range (fieldU b 4 2)).map (fun k => fieldU b 2 2 + k)) + (l.map (fun t => t.verts.length)).foldl (· + ·) 0 ≤ 8388608 →
    ∃ u, exec (.trackLoad q b) s = .next (s.settled (s.acked u q [])) ∧ s.changesOnly [.fleet, .gate, .dict, .zheoc, .sessions] u ∧
      u.reg Obj.trackLoadResult = 0 ∧ u.fleet.tasks = s.fleet.tasks ∧
      (∀ k < fieldU b 4 2, u.track (fieldU b 0 2) (fieldU b 2 2 + k) = l[k]?)) ∧
  (∀ (s : State) (q : Sess) (b : List Byte), s.takesBytes q Obj.trackLoad b → s.isWorker = false → crc32Ok b = false →
    ∃ u, exec (.trackLoad q b) s = .next (s.settled (s.acked u q [])) ∧ s.changesOnly [.dict, .zheoc, .sessions] u ∧
      u.reg Obj.trackLoadResult = 3) ∧
  (∀ (s : State) (q : Sess) (b : List Byte) (l : List Track) (k : Nat) (x : Track), s.takesBytes q Obj.trackLoad b → s.isWorker = false → crc32Ok b = true →
    s.fieldLoaded (fieldU b 0 2) = true → k < fieldU b 4 2 → fieldU b 4 2 ≤ 4096 → fieldU b 2 2 + fieldU b 4 2 ≤ 65536 →
    parseTracks (fieldU b 4 2) ((b.drop 8).take (b.length - 12)) = some l → s.track (fieldU b 0 2) (fieldU b 2 2 + k) = some x → x.state ≠ .free →
    ∃ u, exec (.trackLoad q b) s = .next (s.settled (s.acked u q [])) ∧ s.changesOnly [.dict, .zheoc, .sessions] u ∧ u.reg Obj.trackLoadResult = 1) ∧
  (∀ (s : State) (q : Sess) (b : List Byte), s.takesBytes q Obj.taskLoad b → s.isWorker = false → crc32Ok b = true →
    b.length = 32 + 4 * fieldU b 7 1 → fieldU b 7 1 ≠ 0 → fieldU b 7 1 ≤ 16 → fieldU b 0 4 ≠ 0 → fieldU b 0 4 ≠ 0xFFFFFFFF → fieldU b 10 2 = 0 →
    s.fieldLoaded (fieldU b 4 2) = true → s.taskOf (fieldU b 0 4) = none → s.fleet.tasks.length < 16384 →
    (∀ k ∈ rangeTracks (parseTask b).ranges, s.inTask (fieldU b 4 2) k = false ∧
      ∃ x, s.track (fieldU b 4 2) k = some x ∧ x.work = true ∧ x.state = .free) →
    ∃ u, exec (.taskLoad q b) s = .next (s.settled (s.acked u q [])) ∧ s.changesOnly [.fleet, .gate, .dict, .zheoc, .sessions] u ∧
      u.reg Obj.taskLoadResult = 0 ∧ u.fleet.tasks = s.fleet.tasks ++ [parseTask b]) ∧
  (∀ (s : State) (h : LinkHead) (b : List Byte), s.heeds → (s.acceptLink h).2 = true → s.isWorker = true →
    ∃ t, exec (.fleetRecordCopyRx h Obj.taskLoad.addr b) s = .next (s.settled t) ∧ s.changesOnly [.fleet, .gate, .zheoc] t ∧
      t.fleet.tasks = s.fleet.tasks.filter (fun t => decide (t.id ≠ fieldU b 0 4)) ++ [parseTask b]) ∧
  (∀ (s : State) (h : LinkHead) (a : Nat) (b : List Byte), (s.acceptLink h).2 = false → exec (.fleetRecordCopyRx h a b) s = .next (s.settled s)) ∧
  (∀ (s : State) (q : Sess) (t : FleetTask), s.takesWrite q Obj.taskCommand 1 → s.isWorker = false → (∀ x ∈ s.fleet.tasks, ∀ e, x.leaseEnd = some e → s.now < e) →
    s.taskOf (s.instanceOf q Obj.taskCommand) = some t → t.state ≠ .done → t.state ≠ .cancelled →
    ∃ u, exec (.taskCancel q) s = .next (s.settled (s.acked u q [])) ∧ s.changesOnly [.fleet, .gate, .radio, .dict, .zheoc, .sessions] u ∧
      u.reg Obj.taskCommandResult = 0 ∧ (∀ y ∈ u.fleet.tasks, y.id = t.id → y.state = .cancelled ∧ y.holder = none) ∧
      (∀ n ∈ rangeTracks t.ranges, ∀ x, s.track t.field n = some x → x.state = .reserved →
        u.track t.field n = some { x with state := .free, holder := 0xFFFF })) ∧
  (∀ (s : State) (q : Sess) (t : FleetTask), s.takesWrite q Obj.taskCommand 2 → s.isWorker = false → (∀ x ∈ s.fleet.tasks, ∀ e, x.leaseEnd = some e → s.now < e) →
    s.taskOf (s.instanceOf q Obj.taskCommand) = some t → taskInWork t = true →
    ∃ u, exec (.taskRevoke q) s = .next (s.settled (s.acked u q [])) ∧ s.changesOnly [.fleet, .gate, .radio, .dict, .zheoc, .sessions] u ∧
      u.reg Obj.taskCommandResult = 0 ∧ (∀ y ∈ u.fleet.tasks, y.id = t.id → y.state = .suspended ∧ y.holder = none) ∧
      (∀ n ∈ rangeTracks t.ranges, ∀ x, s.track t.field n = some x → x.state = .reserved →
        u.track t.field n = some { x with state := .free, holder := 0xFFFF })) ∧
  (∀ (s : State) (q : Sess) (t : FleetTask) (f : FieldRec), s.takesWrite q Obj.taskCommand 3 → s.isWorker = false → s.mode.current ≠ .halt →
    (∀ x ∈ s.fleet.tasks, ∀ e, x.leaseEnd = some e → s.now < e) →
    s.activationCommitted = false → s.taskOf (s.instanceOf q Obj.taskCommand) = some t → t.state = .claimed ∨ t.state = .active →
    s.fieldOf t.field = some f → s.connectedAt (s.regN Obj.taskHandOverTarget) f.serving = true →
    s.hasCaps (s.regN Obj.taskHandOverTarget) t.caps = true →
    ∃ u, exec (.taskHandOver q) s = .next (s.settled (s.acked u q [])) ∧ s.changesOnly [.fleet, .gate, .radio, .dict, .zheoc, .sessions] u ∧
      u.reg Obj.taskCommandResult = 0 ∧
      (∀ y ∈ u.fleet.tasks, y.id = t.id → y.holder = some (s.regN Obj.taskHandOverTarget) ∧
        y.leaseEnd = some (s.now + ticksS (s.regN Obj.leaseTime))) ∧
      (∀ n ∈ rangeTracks t.ranges, ∀ x, s.track t.field n = some x → x.state = .reserved →
        u.track t.field n = some { x with holder := s.regN Obj.taskHandOverTarget })) ∧
  (∀ (s : State) (q : Sess), s.takesWrite q Obj.taskCommand 3 → s.isWorker = false → s.taskOf (s.instanceOf q Obj.taskCommand) = none →
    (∀ x ∈ s.fleet.tasks, ∀ e, x.leaseEnd = some e → s.now < e) →
    ∃ u, exec (.taskHandOver q) s = .next (s.settled (s.acked u q [])) ∧ s.changesOnly [.dict, .zheoc, .sessions] u ∧
      u.reg Obj.taskCommandResult = 1) ∧
  (∀ (s : State) (id m : Nat) (t : FleetTask) (f : FieldRec), s.isBase = true → s.isManager = true → s.activationCommitted = false →
    s.taskOf id = some t → s.fieldOf t.field = some f → t.state = .unassigned ∨ t.state = .suspended → s.connectedAt m f.serving = true →
    s.hasCaps m t.caps = true →
    ∃ u, exec (.taskOffer id m) s = .next (s.settled u) ∧ s.changesOnly [.fleet, .gate, .radio] u ∧
      (∀ y ∈ u.fleet.tasks, y.id = id → y.state = .offered ∧ y.holder = some m ∧ y.offerDue = some (s.now + ticksS 10))) ∧
  (∀ (s : State) (id : Nat) (t : FleetTask), s.taskOf id = some t → t.state = .offered → s.due t.offerDue = true →
    exec (.offerLapse id) s = .next (s.settled { s with fleet := { s.fleet with tasks := s.fleet.tasks.map (fun y =>
      if y.id = id then { y with state := y.prior, holder := none, offerDue := none } else y) } })) ∧
  (∀ (s : State) (id : Nat) (t : FleetTask), s.taskOf id = some t → t.state ≠ .offered ∨ s.due t.offerDue = false → exec (.offerLapse id) s = .next (s.settled s))

/-- Parts of R52, R296 to R301, R310, R331. A claim that arrives joins the manager's queue at its place; a worker forwards it, or refuses it
with 0x04 in HALT or while the manager is lost. While no lease is due the claim at the head is refused and counted, or granted with the
tracks that the judgement gives and a new lease. A lease that has ended frees the tracks and suspends the task; before that nothing
changes. A track-done record of the holder marks the track DONE, one of a machine that holds no task with it is counted; a task-release
record frees the tracks. On a rover ClaimRequest, TaskRelease and TrackDone queue their records. A heartbeat goes out every 10 ms with
the halt state and the reports since the last. A base not heard for BaseLinkTimeout is unlinked; a worker whose manager is lost stops
beaconing. The link is restored by what is heard of a base. A worker keeps what it is told of the reservations of its machines. Of the
model are the points of log 27, 36, 106. -/
def Obligations.ClaimsAndLinks : Prop :=
  (∀ (s u : State) (x : Uplink) (m : Nat) (d : List Byte), s.heeds → s.uplink 2 x = (u, some (m, d)) → u.isBase = true → u.isWorker = false →
    exec (.claimRx x) s = .next (s.settled (u.updFleet (fun f => { f with claims := insertClaim (u.parseClaim m d) f.claims }))) ∧
    (u.parseClaim m d).machine = m ∧ (u.parseClaim m d).task = fieldU d 0 4) ∧
  (∀ (s u : State) (x : Uplink) (m : Nat) (d : List Byte), s.heeds → s.uplink 2 x = (u, some (m, d)) → u.isBase = true → u.isWorker = true →
    u.fleet.managerLost = false → u.mode.current ≠ .halt →
    ∃ t, exec (.claimRx x) s = .next (s.settled t) ∧ u.changesOnly [.fleet, .gate] t ∧ t.fleet.linkOut = u.fleet.linkOut ++ [(0, .claim m d)] ∧
      t.fleet.claims = u.fleet.claims) ∧
  (∀ (s u : State) (x : Uplink) (m : Nat) (d : List Byte), s.heeds → s.uplink 2 x = (u, some (m, d)) → u.isBase = true → u.isWorker = true →
    u.fleet.managerLost = true ∨ u.mode.current = .halt → m / 128 = u.ownIndex →
    exec (.claimRx x) s = .next (s.settled (u.updRadio (fun r => { r with
      down := r.down ++ [(m % 128, { code := 0x82, data := leBytes 4 (fieldU d 0 4) ++ [4] })] })))) ∧
  (∀ (s : State) (c : Claim) (l : List Claim), s.isBase = true → s.isManager = true → s.fleet.claims = c :: l → (s.judgeClaim c).1 ≠ 0 →
    c.machine / 128 = s.ownIndex → (∀ x ∈ s.fleet.tasks, ∀ e, x.leaseEnd = some e → s.now < e) →
    ∃ t, exec .claimDecision s = .next (s.settled t) ∧ s.changesOnly [.fleet, .radio, .dict] t ∧ t.fleet = { s.fleet with claims := l } ∧
      t.reg Obj.claimsRefused = (s.reg Obj.claimsRefused + 1) % 2 ^ 32 ∧
      t.radio.down = s.radio.down ++ [(c.machine % 128, { code := 0x82, data := leBytes 4 c.task ++ leBytes 1 (s.judgeClaim c).1 })]) ∧
  (∀ (s : State) (c : Claim) (l : List Claim) (k : FleetTask), s.isBase = true → s.isManager = true → s.fleet.claims = c :: l →
    (s.judgeClaim c).1 = 0 → s.taskOf c.task = some k → (∀ x ∈ s.fleet.tasks, ∀ e, x.leaseEnd = some e → s.now < e) →
    ∃ t, exec .claimDecision s = .next (s.settled t) ∧ s.changesOnly [.fleet, .gate, .radio, .dict] t ∧ t.fleet.claims = l ∧
      t.reg Obj.claimsGranted = (s.reg Obj.claimsGranted + 1) % 2 ^ 32 ∧
      (∀ n ∈ (s.judgeClaim c).2, ∀ x, s.track k.field n = some x →
        t.track k.field n = some { x with state := .reserved, holder := c.machine }) ∧
      (∀ y ∈ t.fleet.tasks, y.id = k.id → y.leaseEnd = some (s.now + ticksS (s.regN Obj.leaseTime)) ∧ y.state ≠ .offered)) ∧
  (∀ s : State, s.fleet.claims = [] ∨ s.isManager = false → exec .claimDecision s = .next (s.settled s)) ∧
  (∀ s : State, (∀ x ∈ s.fleet.tasks, ∀ e, x.leaseEnd = some e → s.now < e) → exec .leaseExpiry s = .next (s.settled s)) ∧
  (∀ (s : State) (k : FleetTask) (e : Nat), s.isBase = true → s.isManager = true → s.fleet.tasks = [k] → k.leaseEnd = some e → e ≤ s.now →
    ∃ t, exec .leaseExpiry s = .next (s.settled t) ∧ s.changesOnly [.fleet, .gate, .dict] t ∧
      t.fleet.tasks = [{ k with state := .suspended, holder := none, leaseEnd := none }] ∧
      t.reg Obj.leasesExpired = (s.reg Obj.leasesExpired + 1) % 2 ^ 32 ∧
      (∀ n ∈ rangeTracks k.ranges, ∀ x, s.track k.field n = some x → x.state = .reserved →
        t.track k.field n = some { x with state := .free, holder := 0xFFFF })) ∧
  (∀ (s u : State) (x : Uplink) (m : Nat) (d : List Byte) (k : FleetTask) (y : Track), s.heeds → s.uplink 4 x = (u, some (m, d)) →
    u.isBase = true → u.isWorker = false → u.cover.log = [] → u.taskOfTrack m (fieldU d 0 2) = some k →
    u.track k.field (fieldU d 0 2) = some y → y.state = .reserved → y.holder = m →
    ∃ t, exec (.trackDoneRx x) s = .next (s.settled t) ∧ u.changesOnly [.fleet, .gate, .dict] t ∧
      t.track k.field (fieldU d 0 2) = some { y with state := .done, holder := 0xFFFF } ∧
      (∀ f n, trackKey f n ≠ trackKey k.field (fieldU d 0 2) → t.track f n = u.track f n)) ∧
  (∀ (s u : State) (x : Uplink) (m : Nat) (d : List Byte), s.heeds → s.uplink 4 x = (u, some (m, d)) → u.isBase = true → u.isWorker = false →
    u.cover.log = [] → u.taskOfTrack m (fieldU d 0 2) = none → exec (.trackDoneRx x) s = .next (s.settled (u.incr Obj.claimsRefused))) ∧
  (∀ (s u : State) (x : Uplink) (m : Nat) (d : List Byte) (k : FleetTask), s.heeds → s.uplink 5 x = (u, some (m, d)) →
    u.isBase = true → u.isWorker = false → u.cover.log = [] → u.taskOf (fieldU d 0 4) = some k → k.holder = some m →
    ∃ t, exec (.taskReleaseRx x) s = .next (s.settled t) ∧ u.changesOnly [.fleet, .gate, .dict] t ∧
      (∀ y ∈ t.fleet.tasks, y.id = fieldU d 0 4 → y.holder = none ∧ (y.state = .suspended ∨ y.state = .done)) ∧
      (∀ n ∈ rangeTracks k.ranges, ∀ y, u.track k.field n = some y → y.state = .reserved →
        t.track k.field n = some { y with state := .free, holder := 0xFFFF })) ∧
  (∀ (s : State) (q : Sess) (b : List Byte), s.takesBytes q Obj.claimRequest b → 5 ≤ b.length → b.length = 5 + 2 * fieldU b 4 1 →
    fieldU b 4 1 ≤ 64 →
    ∃ (u : State) (x : Waiting), exec (.claimRequest q b) s = .next (s.settled (s.acked u q [])) ∧ s.changesOnly [.fleet, .radio, .zheoc, .sessions] u ∧
      u.fleet = { s.fleet with claim := b } ∧ u.radio.up = s.radio.up ++ [x] ∧ x.item = { code := 2, data := b }) ∧
  (∀ (s : State) (q : Sess) (v : Int) (k : RoverTask), s.takesWrite q Obj.taskRelease v → s.fleet.task = some k →
    ∃ (u : State) (x : Waiting), exec (.taskRelease q v) s = .next (s.settled (s.acked u q [])) ∧ s.changesOnly [.fleet, .radio, .kerb, .dict, .zheoc, .sessions] u ∧
      u.fleet = { s.fleet with task := none } ∧ u.reg Obj.taskCurrent = 0 ∧ u.radio.up = s.radio.up ++ [x] ∧
      x.item = { code := 5, data := leBytes 4 k.id }) ∧
  (∀ (s : State) (q : Sess) (v : Int) (k : RoverTask), s.takesWrite q Obj.trackDone v → s.fleet.task = some k →
    k.tracks.any (fun x => decide (x.1 = v.toNat)) = true →
    ∃ (u : State) (x : Waiting), exec (.trackDone q v) s = .next (s.settled (s.acked u q [])) ∧ s.changesOnly [.fleet, .radio, .zheoc, .sessions] u ∧
      u.fleet = { s.fleet with task := some { k with tracks := k.tracks.filter (fun x => decide (x.1 ≠ v.toNat)) } } ∧
      u.radio.up = s.radio.up ++ [x] ∧ x.item = { code := 4, data := leBytes 2 v.toNat }) ∧
  (∀ s : State, s.isBase = true → s.fleet.heartbeatDue ≤ s.now →
    ∃ t, exec .baseLinkHeartbeat s = .next (s.settled t) ∧ s.changesOnly [.fleet, .gate] t ∧ t.fleet.heartbeatDue = s.now + ticksMs 10 ∧
      t.fleet.linkOut = s.fleet.linkOut ++ s.heartbeatPeers.map (fun b => (b, LinkMsg.heartbeat (decide (s.mode.current = .halt)) s.fleet.reports)) ∧
      t.fleet.reports = []) ∧
  (∀ s : State, s.isBase = false ∨ s.now < s.fleet.heartbeatDue → exec .baseLinkHeartbeat s = .next (s.settled s)) ∧
  (∀ (s : State) (b h : Nat), s.isBase = true → bit s.fleet.linked b = true → Tab.get none s.fleet.heard b = some h →
    h + ticksMs (s.regN Obj.baseLinkTimeout) ≤ s.now →
    ∃ t, exec (.baseLinkTimeout b) s = .next (s.settled t) ∧ s.changesOnly [.fleet, .radio, .dict] t ∧ t.fleet.linked = s.fleet.linked - 2 ^ b ∧
      t.reg Obj.baseLinks = t.fleet.linked ∧ (s.isWorker = true → b = 0 → t.fleet.managerLost = true ∧ t.radio.beaconStopped = true) ∧
      (s.isWorker = false → t.radio = s.radio)) ∧
  (∀ (s : State) (b : Nat), s.isBase = false ∨ s.baseSilent b = false → exec (.baseLinkTimeout b) s = .next (s.settled s)) ∧
  (∀ (s : State) (h : LinkHead) (b : Nat) (v : Bool) (l : List Nat), s.heeds → (s.acceptLink h).2 = true → s.isBase = true → b < 16 → b ≠ s.ownIndex →
    ∃ t, exec (.baseLinkRestored h b v l) s = .next (s.settled t) ∧ s.changesOnly [.fleet, .radio, .gate, .dict, .zheoc] t ∧
      Tab.get none t.fleet.heard b = some s.now ∧ bit t.fleet.linked b = true ∧ bit t.fleet.halted b = v ∧
      (s.isWorker = true → b = 0 → s.fleet.managerLost = true → t.fleet.managerLost = false ∧ t.radio.beaconStopped = false ∧ t.fleet.linkHeld = [])) ∧
  (∀ (s : State) (h : LinkHead) (n : Nat), s.heeds → (s.acceptLink h).2 = true → s.isBase = true → s.isWorker = true →
    ∃ t, exec (.reservationReportRx h n true) s = .next (s.settled t) ∧ s.changesOnly [.fleet, .gate, .zheoc] t ∧
      t.fleet.reserved = s.fleet.reserved.filter (fun x => decide (x ≠ n)) ++ [n]) ∧
  (∀ (s : State) (h : LinkHead) (n : Nat), s.heeds → (s.acceptLink h).2 = true → s.isBase = true → s.isWorker = true →
    ∃ t, exec (.reservationReportRx h n false) s = .next (s.settled t) ∧ s.changesOnly [.fleet, .gate, .zheoc, .radio] t ∧
      t.fleet.reserved = s.fleet.reserved.filter (fun x => decide (x ≠ n)) ∧
      ((Tab.get SlotConn.free s.radio.slots n).state = .held → Tab.get SlotConn.free t.radio.slots n = SlotConn.free))

/-! ## Coverage map (spec/08) -/

/-- Parts of R265, R266, R269 to R271, R273, R278, R558. On a rover with a task and a pose a run that begins opens with a start record, one
that ends closes with a record that ends it; each takes the next SEQ and becomes pending. A boundary alone is noted; without a boundary,
a run or a section that applies nothing changes. The manager accepts a segment of its own machine in SEQ order: log, map sequence
number, acknowledgement. One ahead of that order, or of another slot, or that comes when the log is full or the NAND faulty, changes
nothing, and so does a duplicate there. A worker forwards a segment and acknowledges it with the manager. The next logged segment is
painted into its map, or counted as rejected where there is none; a worker rejects a painted segment of the manager in the same way, and
takes only the next number. Of the model are the points of log 100, 101, 105. -/
def Obligations.Segments : Prop :=
  (∀ (s : State) (k : RoverTask) (p : Pose), s.hasRole .rover = true → s.fleet.task = some k → s.kerb.pose = some p → s.cache.runs = [] →
    s.runsNow s.time64 = [] → s.segmentBoundary s.time64 = true →
    exec .segmentClose s = .next (s.settled { s with cache := { s.cache with lastClose := s.time64 } })) ∧
  (∀ s : State, s.fleet.task = none ∨ s.kerb.pose = none ∨ (s.cache.runs = [] ∧ s.runsNow s.time64 = [] ∧ s.segmentBoundary s.time64 = false) →
    exec .segmentClose s = .next (s.settled s)) ∧
  (∀ (s : State) (k : RoverTask) (p : Pose) (n a b : Nat), s.hasRole .rover = true → s.fleet.task = some k → s.kerb.pose = some p →
    s.cache.runs = [] → s.runsNow s.time64 = [(n, a, b)] →
    ∃ (t : State) (r : RoverRun) (g : Segment), exec .segmentClose s = .next (s.settled t) ∧ s.changesOnly [.cache, .kerb, .dict, .store, .milestone, .draws] t ∧
      t.cache.runs = [r] ∧ r.run = s.cache.nextRun ∧ r.product = n ∧ r.first = a ∧ r.last = b ∧ t.cache.pending = s.cache.pending ++ [g] ∧
      g.runStart = true ∧ g.run = s.cache.nextRun ∧ g.map = k.field.id ∧ g.seq = s.regN Obj.nextSeq ∧
      t.reg Obj.nextSeq = ((s.regN Obj.nextSeq + 1) % 65536 : Nat)) ∧
  (∀ (s : State) (k : RoverTask) (p : Pose) (r : RoverRun), s.hasRole .rover = true → s.fleet.task = some k → s.kerb.pose = some p →
    s.cache.runs = [r] → s.runsNow s.time64 = [] →
    ∃ (t : State) (g : Segment), exec .segmentClose s = .next (s.settled t) ∧ s.changesOnly [.cache, .kerb, .dict, .store, .milestone, .draws] t ∧
      t.cache.runs = [] ∧ t.cache.pending = s.cache.pending ++ [g] ∧ g.runStart = false ∧ g.runEnd = true ∧ g.run = r.run ∧
      g.product = r.product ∧ g.seq = s.regN Obj.nextSeq ∧ t.kerb.mask.length = s.kerb.mask.length + 1) ∧
  (∀ (s u : State) (x : Uplink) (m : Nat) (d : List Byte) (g : Segment), s.heeds → s.uplink 1 x = (u, some (m, d)) → u.isBase = true →
    u.isWorker = false → parseSegment d = some g → g.slot = m % 128 → (Tab.get none u.cover.expected m).getD g.seq = g.seq → u.logFull = false →
    u.store.nandFault = false → u.fleet.managerLost = false → m / 128 = 0 →
    ∃ t, exec (.segmentRx x) s = .next (s.settled t) ∧ u.changesOnly [.cover, .fleet, .dict, .store, .milestone, .draws] t ∧
      Tab.get none t.cover.expected m = some ((g.seq + 1) % 65536) ∧ Tab.get none t.cover.acc m = some g.seq ∧
      t.reg Obj.mapSeqAccepted = ((u.regN Obj.mapSeqAccepted + 1) % 2 ^ 32 : Nat) ∧
      t.cover.log = u.cover.log ++ [{ mseq := (u.regN Obj.mapSeqAccepted + 1) % 2 ^ 32, machine := m, seg := g }]) ∧
  (∀ (s u : State) (x : Uplink) (m : Nat) (d : List Byte) (g : Segment), s.heeds → s.uplink 1 x = (u, some (m, d)) → u.isBase = true →
    parseSegment d = some g → 0 < signedDiff 16 g.seq ((Tab.get none u.cover.expected m).getD g.seq) ∨ g.slot ≠ m % 128 ∨
      (g.seq = (Tab.get none u.cover.expected m).getD g.seq ∧ (u.logFull = true ∨ u.store.nandFault = true ∨ u.fleet.managerLost = true)) →
    exec (.segmentRx x) s = .next (s.settled u)) ∧
  (∀ (s u : State) (x : Uplink) (m : Nat) (d : List Byte) (g : Segment), s.heeds → s.uplink 1 x = (u, some (m, d)) → u.isBase = true →
    u.isWorker = false → m / 128 = 0 → parseSegment d = some g → signedDiff 16 g.seq ((Tab.get none u.cover.expected m).getD g.seq) < 0 →
    exec (.segmentRx x) s = .next (s.settled u)) ∧
  (∀ (s u : State) (x : Uplink) (m : Nat) (d : List Byte), s.heeds → s.uplink 1 x = (u, some (m, d)) → parseSegment d = none →
    exec (.segmentRx x) s = .next (s.settled u)) ∧
  (∀ (s u : State) (x : Uplink) (m : Nat) (d : List Byte) (g : Segment), s.heeds → s.uplink 1 x = (u, some (m, d)) → u.isBase = true →
    u.isWorker = true → parseSegment d = some g → g.slot = m % 128 → (Tab.get none u.cover.expected m).getD g.seq = g.seq → u.logFull = false →
    u.store.nandFault = false → u.fleet.managerLost = false →
    ∃ t, exec (.segmentRx x) s = .next (s.settled t) ∧ u.changesOnly [.cover, .fleet, .gate] t ∧
      t.cover.forwarded = u.cover.forwarded ++ [g] ∧ t.fleet.linkOut = u.fleet.linkOut ++ [(0, LinkMsg.segment g.slot d)] ∧ t.cover.acc = u.cover.acc) ∧
  (∀ (s : State) (h : LinkHead) (n q : Nat), s.heeds → (s.acceptLink h).2 = true → s.isWorker = true →
    ∃ t, exec (.managerSegmentAckRx h n q) s = .next (s.settled t) ∧ (s.acceptLink h).1.changesOnly [.cover] t ∧
      Tab.get none t.cover.acc (s.ownIndex * 128 + n) = some q ∧
      t.cover.forwarded = s.cover.forwarded.filter (fun g => !(decide (g.slot = n) && decide (signedDiff 16 g.seq q ≤ 0)))) ∧
  (∀ (s : State) (h : LinkHead) (n q : Nat), (s.acceptLink h).2 = false → exec (.managerSegmentAckRx h n q) s = .next (s.settled s)) ∧
  (∀ (s : State) (g : LoggedSegment), s.isBase = true → s.cover.restoring = false → s.nextToPaint = some g → s.mapSlot g.seg.map = none →
    ∃ t, exec .segmentPaint s = .next (s.settled t) ∧ s.changesOnly [.cover, .fleet, .gate, .dict] t ∧ t.cover.maps = s.cover.maps ∧ t.cover.log = s.cover.log ∧
      t.cover.rejected = true ∧ t.reg Obj.segmentsRejected = (s.reg Obj.segmentsRejected + 1) % 2 ^ 32 ∧ t.reg Obj.mapSeqPainted = g.mseq ∧
      Tab.get none t.cover.painted g.machine = some g.seg.seq) ∧
  (∀ (s : State) (g : LoggedSegment) (n : Nat) (m : CoverMap) (r : OpenRun), s.isBase = true → s.cover.restoring = false →
    s.nextToPaint = some g → s.mapSlot g.seg.map = some n → Tab.get none s.cover.maps n = some m → g.seg.product < m.layers →
    openRun s.cover.runs g.machine g.seg.run = some r → g.seg.runStart = false → s.cover.check = none →
    ∃ t, exec .segmentPaint s = .next (s.settled t) ∧ s.changesOnly [.cover, .fleet, .gate, .dict] t ∧ t.reg Obj.mapSeqPainted = g.mseq ∧
      Tab.get none t.cover.painted g.machine = some g.seg.seq ∧
      Tab.get none t.cover.maps n = some { m.paint g.seg.product (regionOf r.left r.right g.seg.left g.seg.right) (beforeRegion r.left r.right r.before) with
        ownSeq := Tab.put none m.ownSeq g.machine (some g.seg.seq) }) ∧
  (∀ s : State, s.isBase = false ∨ s.cover.restoring = true ∨ s.nextToPaint = none → exec .segmentPaint s = .next (s.settled s)) ∧
  (∀ (s : State) (h : LinkHead) (n k : Nat) (d : List Byte) (g : Segment), s.heeds → (s.acceptLink h).2 = true → s.isBase = true →
    s.isWorker = true → parseSegment d = some g → n = (s.regN Obj.mapSeqPainted + 1) % 2 ^ 32 → s.mapSlot g.map = none →
    ∃ t, exec (.paintedSegmentRx h n k d) s = .next (s.settled t) ∧ (s.acceptLink h).1.changesOnly [.cover, .dict] t ∧
      t.reg Obj.mapSeqPainted = n ∧ t.reg Obj.segmentsRejected = (s.reg Obj.segmentsRejected + 1) % 2 ^ 32) ∧
  (∀ (s : State) (h : LinkHead) (n k : Nat) (d : List Byte), s.heeds → (s.acceptLink h).2 = true → s.isBase = true → s.isWorker = true →
    n ≠ (s.regN Obj.mapSeqPainted + 1) % 2 ^ 32 →
    exec (.paintedSegmentRx h n k d) s = .next (s.settled (s.acceptLink h).1))

/-- Parts of R263, R274, R275, R280 to R282, R549, R558. A rover keeps the tiles within 1.5 times CacheRadius and forgets none that it has
requested. A base queues a requested tile that its map has. A waiting tile goes to its rover with the SEQ of its newest painted segment,
or once as broadcast where two rovers wait for it. With NAND, a checkpoint that is due fixes the mark, the maps and the runs; its
completion keeps the segments after the mark in the log; without NAND, before it is due or while one runs it does not start. The restore
ends with the tiles that came back older counted. MapDelete frees a map that no task refers to, and aborts otherwise. A tile is marked
damaged, once, on a base, and dropped on a rover; its rebuild clears the mark. Of the model are the points of log 28, 103, 104. -/
def Obligations.TilesAndCheckpoints : Prop :=
  (∀ (s : State) (k : RoverTask) (p : Pose), s.hasRole .rover = true → s.fleet.task = some k → s.kerb.pose = some p →
    ∃ t, exec .tileCacheUpdate s = .next (s.settled t) ∧ s.changesOnly [.cache, .radio, .dict] t ∧
      t.cache.tiles = s.cache.tiles.filter (fun e => decide (4 * tileDist2 (cellMm k.field.cell) e.1 (toMm (planeOf k.field p.est)) ≤
        9 * (s.reg Obj.cacheRadius * 1000) * (s.reg Obj.cacheRadius * 1000))) ∧
      t.reg Obj.cacheTiles = t.cache.tiles.length ∧ (∀ x ∈ s.cache.requested, x ∈ t.cache.requested)) ∧
  (∀ (s u : State) (x : Uplink) (m n : Nat) (d : List Byte) (c : CoverMap), s.heeds → s.uplink 3 x = (u, some (m, d)) → u.isBase = true →
    u.mapSlot (fieldU d 0 2) = some n → Tab.get none u.cover.maps n = some c → fieldU d 2 1 = 1 →
    (Tab.get none c.tiles (tileKey (fieldI d 3 2) (fieldI d 5 2))).isSome = true →
    exec (.tileRequestRx x) s = .next (s.settled (u.queueTile (m % 128) n (tileKey (fieldI d 3 2) (fieldI d 5 2))))) ∧
  (∀ (s : State) (a n k v : Nat) (m : CoverMap) (t : Tile), s.isBase = true → s.cover.restoring = false → s.cover.sends = [(a, n, k)] →
    Tab.get none s.cover.maps n = some m → Tab.get none m.tiles k = some t → m.damaged.contains k = false →
    Tab.get none m.ownSeq (s.ownIndex * 128 + a) = some v →
    exec (.tileSend a) s = .next (s.settled { s with cover := { s.cover with
      sends := [], sent := s.cover.sent ++ [(a, transferRecord m k t v)] } })) ∧
  (∀ (s : State) (a b n k : Nat) (m : CoverMap) (t : Tile), s.isBase = true → s.cover.restoring = false → s.cover.sends = [(a, n, k), (b, n, k)] → a ≠ b →
    Tab.get none s.cover.maps n = some m → Tab.get none m.tiles k = some t → m.damaged.contains k = false →
    ∃ u, ∃ v < 65536, exec (.tileSend a) s = .next (s.settled u) ∧ s.changesOnly [.cover, .draws] u ∧
      u.cover.sent = s.cover.sent ++ [(0xFF, transferRecord m k t v)] ∧ u.cover.sends = []) ∧
  (∀ (s : State) (a : Nat), s.isBase = false ∨ s.cover.sends = [] → exec (.tileSend a) s = .next (s.settled s)) ∧
  (∀ s : State, s.isBase = true → s.cover.check = none → s.cover.restoring = false → s.store.nandPresent = true →
    s.cover.checkpointAt + ticksS (s.regN Obj.checkpointInterval) ≤ s.now ∨ 16384 ≤ s.cover.log.length →
    ∃ t c, exec .checkpointStart s = .next (s.settled t) ∧ s.changesOnly [.cover] t ∧ t.cover.check = some c ∧
      c.mark = s.regN Obj.mapSeqPainted ∧ c.maps = s.cover.maps ∧ c.runs = s.cover.runs ∧ t.cover.checkpointAt = s.now ∧
      t.cover.log = s.cover.log) ∧
  (∀ s : State, s.isBase = false ∨ s.cover.check.isSome = true ∨ s.store.nandPresent = false ∨
    (s.now < s.cover.checkpointAt + ticksS (s.regN Obj.checkpointInterval) ∧ s.cover.log.length < 16384) →
    exec .checkpointStart s = .next (s.settled s)) ∧
  (∀ (s : State) (c : Checkpoint), s.cover.check = some c →
    ∃ t, exec .checkpointComplete s = .next (s.settled t) ∧ s.changesOnly [.cover, .dict, .store, .milestone, .draws] t ∧
      t.cover.check = none ∧ t.cover.saved = some { mark := c.mark, maps := c.maps, runs := c.runs } ∧ t.reg Obj.checkpointMark = c.mark ∧
      t.cover.log = s.cover.log.filter (fun g => decide (0 < signedDiff 32 g.mseq c.mark)) ∧ t.cover.maps = s.cover.maps) ∧
  (∀ s : State, s.cover.check = none → exec .checkpointComplete s = .next (s.settled s)) ∧
  (∀ (s : State) (l : List (Nat × Nat)), s.cover.restoring = false → exec (.mapRestoreComplete l) s = .next (s.settled s)) ∧
  (∀ s : State, s.cover.restoring = true → s.cover.log = [] →
    exec (.mapRestoreComplete []) s = .next (s.settled { s with cover := { s.cover with restoring := false } })) ∧
  (∀ (s : State) (n k : Nat) (m : CoverMap), s.cover.restoring = true → s.cover.log = [] → Tab.get none s.cover.maps n = some m →
    ∃ t, exec (.mapRestoreComplete [(n, k)]) s = .next (s.settled t) ∧ s.changesOnly [.cover, .milestone, .draws] t ∧
      t.cover.restoring = false ∧ Tab.get none t.cover.maps n = some { m with restoredOld := (m.restoredOld + k) % 2 ^ 32 }) ∧
  (∀ (s : State) (q : Sess) (v : Int) (m : CoverMap), s.takesWrite q Obj.mapDelete v →
    Tab.get none s.cover.maps (s.instanceOf q Obj.mapDelete) = some m → s.fleet.tasks.any (fun t => decide (t.field = m.id)) = false →
    ∃ u, exec (.mapDelete q v) s = .next (s.settled (s.acked u q [])) ∧ s.changesOnly [.cover, .zheoc, .sessions] u ∧
      Tab.get none u.cover.maps (s.instanceOf q Obj.mapDelete) = none ∧
      (∀ n, n ≠ s.instanceOf q Obj.mapDelete → Tab.get none u.cover.maps n = Tab.get none s.cover.maps n)) ∧
  (∀ (s : State) (q : Sess) (v : Int) (m : CoverMap), s.takesWrite q Obj.mapDelete v →
    Tab.get none s.cover.maps (s.instanceOf q Obj.mapDelete) = some m → s.fleet.tasks.any (fun t => decide (t.field = m.id)) = true →
    exec (.mapDelete q v) s = .next (s.settled (s.nacked (s.begun q Obj.mapDelete (encodeValue Obj.mapDelete v)) q abortAccess))) ∧
  (∀ (s : State) (n k : Nat) (m : CoverMap), s.isBase = true → Tab.get none s.cover.maps n = some m → (Tab.get none m.tiles k).isSome = true →
    m.damaged.contains k = false →
    ∃ t, exec (.tileDamaged n k) s = .next (s.settled t) ∧ s.changesOnly [.cover] t ∧
      Tab.get none t.cover.maps n = some { m with damaged := m.damaged ++ [k] }) ∧
  (∀ (s : State) (n k : Nat) (m : CoverMap), s.isBase = true → Tab.get none s.cover.maps n = some m → (Tab.get none m.tiles k) = none ∨ m.damaged.contains k = true →
    ∃ t, exec (.tileDamaged n k) s = .next (s.settled t) ∧ s.changesOnly [.cover] t ∧ Tab.get none t.cover.maps n = some m) ∧
  (∀ (s : State) (n k : Nat), s.isBase = false →
    ∃ t, exec (.tileDamaged n k) s = .next (s.settled t) ∧ s.changesOnly [.cache, .dict] t ∧ Tab.get none t.cache.tiles k = none ∧
      t.cache.requested = s.cache.requested.filter (fun j => decide (j ≠ k))) ∧
  (∀ (s : State) (n k : Nat) (m : CoverMap), s.isBase = true → Tab.get none s.cover.maps n = some m →
    ∃ t, exec (.tileRebuildComplete n k) s = .next (s.settled t) ∧ s.changesOnly [.cover] t ∧
      Tab.get none t.cover.maps n = some { m with damaged := m.damaged.filter (fun j => decide (j ≠ k)) })

/-! ## The dictionary and its sessions (spec/17) -/

/-- Parts of R510 to R512, R524, R525. A read of AccessChallenge makes the bytes read the session's only challenge. A response under the key
of level integrator or service grants that level; over the radio service is never granted. A wrong response, or one without a challenge,
aborts and uses the challenge up; the third failure without a challenge locks the session for 60 s, and while locked it refuses
responses. AccessDrop and SessionTimeout end the granted level, the end of the lock-out clears it, and before their time nothing
changes. A connection to DictTcpPort on an enabled port whose link is up opens the first free TCP session; a fifth one, or one to
another port, opens none; a close frees the session. Of the model are the points of log 54, 136. -/
def Obligations.Sessions : Prop :=
  (∀ (s : State) (q : Sess) (r : List Byte), s.takesRead q Obj.accessChallenge → r.length = 16 →
    ∃ u, exec (.accessChallenge q r) s = .next (s.settled (s.acked u q r)) ∧ s.changesOnly [.zheoc, .sessions] u ∧
      (u.session q).challenge = some r) ∧
  (∀ (s : State) (q : Sess) (d c k : List Byte) (l : AccessLevel), s.takesBytes q Obj.accessResponse d → s.lockedOut q = false →
    (s.session q).challenge = some c → s.accessKey q l = some k → (l = .integrator ∧ fieldU d 0 1 = 1) ∨ (l = .service ∧ fieldU d 0 1 = 2) →
    d.drop 1 = slice (Config.hmacSha256 k (c ++ d.take 1)) 0 16 → (∀ o, q = .radio o → l ≠ .service) →
    ∃ u, exec (.accessResponse q d) s = .next (s.settled (s.acked u q [])) ∧ s.changesOnly [.zheoc, .sessions] u ∧ u.level q = l ∧
      (u.session q).challenge = none ∧ (u.session q).failures = 0) ∧
  (∀ (s : State) (q : Sess) (d : List Byte), s.takesBytes q Obj.accessResponse d → s.lockedOut q = false → (s.session q).failures < 2 →
    (s.session q).challenge = none ∨ (fieldU d 0 1 ≠ 1 ∧ fieldU d 0 1 ≠ 2) ∨ (∃ c, (s.session q).challenge = some c ∧ ∀ (l : AccessLevel) (k : List Byte),
      s.accessKey q l = some k → d.drop 1 ≠ slice (Config.hmacSha256 k (c ++ d.take 1)) 0 16) ∨ (∃ o, q = .radio o ∧ fieldU d 0 1 = 2) →
    ∃ u, exec (.accessResponse q d) s = .next (s.settled (s.nacked u q abortAccess)) ∧ s.changesOnly [.zheoc, .sessions] u ∧
      (u.session q).challenge = none ∧ (u.session q).failures = (s.session q).failures + 1 ∧ (u.session q).granted = (s.session q).granted) ∧
  (∀ (s : State) (q : Sess) (d : List Byte), s.takesBytes q Obj.accessResponse d → s.lockedOut q = false → (s.session q).failures = 2 →
    (s.session q).challenge = none →
    ∃ u, exec (.accessResponse q d) s = .next (s.settled (s.nacked u q abortAccess)) ∧ s.changesOnly [.zheoc, .sessions, .milestone, .store, .draws] u ∧
      (u.session q).failures = 0 ∧ (u.session q).lockedUntil = s.after (ticksS 60) ∧ (u.session q).granted = (s.session q).granted) ∧
  (∀ (s : State) (q : Sess) (d : List Byte), s.takesBytes q Obj.accessResponse d → s.lockedOut q = true →
    exec (.accessResponse q d) s = .next (s.settled (s.nacked (s.begun q Obj.accessResponse d) q abortAccess))) ∧
  (∀ (s : State) (q : Sess), s.takesWrite q Obj.accessDrop 1 →
    ∃ u, exec (.accessDrop q 1) s = .next (s.settled (s.acked u q [])) ∧ s.changesOnly [.zheoc, .sessions] u ∧ (u.session q).granted = none ∧
      (u.session q).cursors = (s.session q).cursors) ∧
  (∀ (s : State) (q : Sess) (t : Nat), s.running = true → (s.session q).lockedUntil = some t → t ≤ s.now →
    exec (.accessLockoutEnd q) s = .next (s.settled (s.updSession q (fun x => { x with lockedUntil := none })))) ∧
  (∀ (s : State) (q : Sess) (t : Nat), (s.session q).lockedUntil = some t → s.now < t → exec (.accessLockoutEnd q) s = .next (s.settled s)) ∧
  (∀ (s : State) (q : Sess), s.running = true → s.sessionOpen q = true →
    exec (.sessionTimeout q) s = .next (s.settled (if (s.session q).lastRequest + ticksS (s.regN Obj.sessionTimeout) ≤ s.now
      then s.updSession q (fun x => { x with granted := none }) else s))) ∧
  (∀ (s : State) (p tcp : Nat) (n : Fin 4), s.heeds → s.operating = true → (tcp : Int) = s.bootReg Obj.dictTcpPort → p < 2 → bit (s.regN Obj.dictTcpEnable) p = true →
    (s.port p).linkUp = true → (s.session (.tcp n)).open_ = false → (∀ m : Fin 4, m < n → (s.session (.tcp m)).open_ = true) →
    exec (.tcpConnect p tcp) s = .next (s.settled (s.noteInput.updSession (.tcp n) (fun _ => { Session.closed with open_ := true, lastRequest := s.now })))) ∧
  (∀ (s : State) (p tcp : Nat), s.heeds → (∀ m : Fin 4, (s.session (.tcp m)).open_ = true) ∨ (tcp : Int) ≠ s.bootReg Obj.dictTcpPort →
    exec (.tcpConnect p tcp) s = .next (s.settled s.noteInput)) ∧
  (∀ (s : State) (n : Fin 4), s.heeds → s.remotes = [] →
    exec (.tcpClose n) s = .next (s.settled (s.noteInput.updSession (.tcp n) (fun _ => Session.closed))))

/-- Parts of R501, R508, R513 to R515, R517, R524, R528, R529. Over a transport a request joins the session's waiting ones in order, and
over the mailbox makes it busy; a session with no room, or too much data, takes none. The oldest request not 200 ms old is applied and
answered: a read with the value read, a write of one of the session objects with that object changed, and one that its object refuses,
whose length is wrong, that continues no snapshot or no partial write, with an abort code; the next segment of a snapshot comes out, and
a first segment is kept. A request for another base goes to a linked base from the manager, and is unavailable elsewhere; one for an
object of a rover is sent to the slot under the cursor, and is unavailable where that is not connected. A cancelled request is answered
with some code unapplied, one 200 ms old as busy. A rover takes one tunnel request at a time. The answer to a request sent out returns
to its requester, and after RemoteTimeout an abort does, and is counted. Of the model are the points of log 15, 45, 54, 56. -/
def Obligations.Requests : Prop :=
  (∀ (s : State) (q : Sess) (tag base addr offset : Nat) (data : List Byte) (more : Bool), q ≠ .host → s.reaches q = true →
    s.outstanding q < sessionRoom q → data.length ≤ sessionData q →
    let r : Request := { op := 1, tag := tag, addr := addr, more := false, base := base, offset := 0, data := [], since := s.now }
    let put (r : Request) : State := s.updSession q (fun x => { x with waiting := x.waiting ++ [r] })
    exec (.dictRead q tag base addr) s = .next (s.settled (put r)) ∧
    exec (.dictWrite q tag base addr data) s = .next (s.settled (put { r with op := 2, data := data })) ∧
    exec (.dictReadSegment q tag base addr offset) s = .next (s.settled (put { r with op := 3, offset := offset })) ∧
    exec (.dictWriteSegment q tag base addr offset data more) s =
      .next (s.settled (put { r with op := 4, offset := offset, data := data, more := more }))) ∧
  (∀ (s : State) (q : Sess) (tag base addr : Nat) (data : List Byte), q ≠ .host →
    s.reaches q = false ∨ sessionRoom q ≤ s.outstanding q ∨ sessionData q < data.length → exec (.dictWrite q tag base addr data) s = .next (s.settled s)) ∧
  (∀ (s : State) (tag base addr offset : Nat) (data : List Byte) (more : Bool), s.hostReady = true → s.zheoc.deposed = false →
    s.mbox.state ≠ .busy → tag < 65536 → addr < 2 ^ 24 → offset < 2 ^ 32 → data.length ≤ 224 →
    let r : Request := { op := 1, tag := tag, addr := addr, more := false, base := 255, offset := 0, data := [], since := s.now }
    ∀ c ∈ [(Instr.dictRead .host tag base addr, r), (.dictWrite .host tag base addr data, { r with op := 2, data := data }),
      (.dictReadSegment .host tag base addr offset, { r with op := 3, offset := offset }),
      (.dictWriteSegment .host tag base addr offset data more, { r with op := 4, offset := offset, data := data, more := more })],
    ∃ t, exec c.1 s = .next (s.settled t) ∧ s.changesOnly [.mbox, .sessions] t ∧ t.mbox.state = .busy ∧ (t.session .host).waiting = [c.2]) ∧
  (∀ (s : State) (q : Sess) (r : Request) (o : ObjDesc) (b : List Byte) (u : State), s.serves q r o → r.op = 1 → o.ty ≠ .domain →
    o.addr ≠ Obj.evtNext.addr ∧ o.addr ≠ Obj.vinEventNext.addr ∧ o.addr ≠ Obj.clockOffset.addr ∧ o.addr ≠ Obj.accessChallenge.addr →
    s.refuses q o false = none → (s.taken q r).readValue q o = some (b, u) →
    exec (.dictRequestApply q) s = .next (s.settled (u.answer q r.tag 0 b false))) ∧
  (∀ (s : State) (q : Sess) (o : ObjDesc), o ∈ [Obj.sessionTimeout, Obj.remoteTimeout, Obj.dictTcpPort, Obj.dictBusyAborts, Obj.remoteTimeouts] →
    s.readValue q o = some (encodeValue o (s.reg o), s)) ∧
  (∀ (s : State) (q : Sess) (r : Request) (o : ObjDesc) (v : Int), o ∈ [Obj.sessionTimeout, Obj.remoteTimeout, Obj.dictTcpPort, Obj.dictTcpEnable] →
    s.serves q r o → r.op = 2 → r.data = encodeValue o v → s.valueOk o 0 v = true → s.objCheck q o true = none →
    s.shadowHolds (.storedNum (regKey o 0) v) = true →
    ∃ u, exec (.dictRequestApply q) s = .next (s.settled (u.answer q r.tag 0 [] false)) ∧
      s.changesOnly [.dict, .store, .milestone, .draws, .zheoc, .sessions] u ∧ u.reg o = v) ∧
  (∀ (s : State) (q : Sess) (r : Request) (o : ObjDesc) (a : Abort), s.serves q r o → r.op = 1 ∨ r.op = 2 →
    s.refuses q o (decide (r.op = 2)) = some a →
    exec (.dictRequestApply q) s = .next (s.settled ((s.taken q r).answer q r.tag a [] false))) ∧
  (∀ (s : State) (q : Sess) (r : Request) (o : ObjDesc), s.serves q r o → r.op = 2 → s.objCheck q o true = none → s.mode.testRoot = false →
    typeIsNumber o.ty = true → r.data.length ≠ o.size →
    exec (.dictRequestApply q) s = .next (s.settled ((s.taken q r).answer q r.tag abortLength [] false))) ∧
  (∀ (s : State) (q : Sess) (r : Request) (o : ObjDesc), s.serves q r o → r.op = 3 → o.ty = .domain → s.refuses q o false = none → r.offset ≠ 0 →
    (s.session q).snapshot = none →
    exec (.dictRequestApply q) s = .next (s.settled ((s.taken q r).answer q r.tag abortSegment [] false))) ∧
  (∀ (s : State) (q : Sess) (r : Request) (o : ObjDesc) (b : List Byte), s.serves q r o → r.op = 3 → o.ty = .domain →
    o.addr ≠ Obj.snapshotData.addr → s.refuses q o false = none → r.offset ≠ 0 → (s.session q).snapshot = some (o.addr, b) →
    exec (.dictRequestApply q) s = .next (s.settled ((s.taken q r).answer q r.tag 0 ((b.drop r.offset).take (sessionData q))
      (decide (r.offset + sessionData q < b.length))))) ∧
  (∀ (s : State) (q : Sess) (r : Request) (o : ObjDesc), s.serves q r o → r.op = 4 → r.offset ≠ 0 → s.refuses q o true = none →
    (∀ b, (s.session q).partialWrite = some (o.addr, b) → b.length ≠ r.offset) →
    exec (.dictRequestApply q) s = .next (s.settled (((s.taken q r).updSession q (fun x => { x with partialWrite := none })).answer q r.tag
      abortSegment [] false))) ∧
  (∀ (s : State) (q : Sess) (r : Request) (o : ObjDesc), s.serves q r o → r.op = 4 → r.offset = 0 → r.more = true → s.refuses q o true = none →
    r.data.length ≤ min 262144 o.size →
    exec (.dictRequestApply q) s = .next (s.settled (((s.taken q r).updSession q (fun x => { x with partialWrite := some (o.addr, r.data) })).answer q
      r.tag 0 [] false))) ∧
  (∀ (s : State) (q : Sess) (r : Request), s.begins q r → r.base ≠ 255 → s.isManager = false →
    exec (.dictRequestApply q) s = .next (s.settled ((s.taken q r).answer q r.tag abortUnavailable [] false))) ∧
  (∀ (s : State) (q : Sess) (r : Request) (o : ObjDesc), s.begins q r → r.base = 255 → s.mode.current ≠ .boot → objOf r.addr = some o →
    s.isBase = true → remoteCapable o = true → r.op = 1 ∨ r.op = 2 → s.refuses q o (decide (r.op = 2)) = none →
    (s.slot ((Tab.get 0 (s.session q).cursors o.windowOf).toNat / 1024)).state ≠ .connected →
    exec (.dictRequestApply q) s = .next (s.settled ((s.taken q r).answer q r.tag abortUnavailable [] false))) ∧
  (∀ (s : State) (q : Sess) (r : Request) (o : ObjDesc) (n : Nat), s.begins q r → r.base = 255 → s.mode.current ≠ .boot → objOf r.addr = some o →
    s.isBase = true → remoteCapable o = true → r.op = 1 ∨ r.op = 2 → s.refuses q o (decide (r.op = 2)) = none → s.remotes = [] →
    (Tab.get 0 (s.session q).cursors o.windowOf).toNat / 1024 = n → (s.slot n).state = .connected →
    ∃ t, exec (.dictRequestApply q) s = .next (s.settled t) ∧ s.changesOnly [.remotes, .radio, .sessions, .zheoc] t ∧
      t.remotes = [{ slot := n, from_ := q, req := r, section_ := (Tab.get 0 (s.session q).cursors o.windowOf).toNat % 1024
                     due := s.after (ticksMs (s.regN Obj.remoteTimeout)) }] ∧
      t.radio = { s.radio with tunnels := s.radio.tunnels ++ [(n, r.bytes)] } ∧ (t.session q).serving = some r) ∧
  (∀ (s : State) (q : Sess) (r : Request), s.begins q r → 1 ≤ r.base → r.base ≤ 15 → s.isManager = true → bit s.fleet.linked r.base = true →
    s.mode.current ≠ .boot →
    ∃ t, exec (.dictRequestApply q) s = .next (s.settled t) ∧ s.changesOnly [.remotes, .fleet, .gate, .sessions, .zheoc] t ∧
      t.remotes = s.remotes ++ [{ slot := 1000 + r.base, from_ := q, req := r, section_ := 0, due := none }] ∧ (t.session q).serving = some r ∧
      t.fleet.linkOut = s.fleet.linkOut ++ [(r.base, LinkMsg.dictRequest (s.level q) ({ r with base := 255 } : Request).bytes)]) ∧
  (∀ (s : State) (q : Sess) (r : Request) (l : List Request), q ≠ .host → s.reaches q = true → s.remotes = [] → (s.session q).serving = none →
    (s.session q).waiting = r :: l →
    ∃ t a, exec (.dictCancel q) s = .next (s.settled t) ∧ s.changesOnly [.sessions, .dict, .milestone, .draws] t ∧
      (t.session q).waiting = l ∧ (t.session q).serving = none ∧ (t.session q).reply.map (·.abort) = some a) ∧
  (∀ s : State, s.hostReady = true → s.mbox.state = .busy → s.remotes = [] →
    ∃ t, exec (.dictCancel .host) s = .next (s.settled t) ∧ s.changesOnly [.mbox, .sessions, .host, .draws] t ∧ t.mbox.state = .done ∧
      t.mbox.cancelled = true ∧ t.mbox.respTag = s.mbox.tag ∧ (t.session .host).waiting = [] ∧ (t.session .host).serving = none) ∧
  (∀ (s : State) (q : Sess) (r : Request) (l : List Request), s.reaches q = true → (s.session q).waiting = r :: l → (s.session q).serving = none →
    r.since + ticksMs 200 ≤ s.now →
    ∃ t, exec (.dictBusyTimeout q) s = .next (s.settled t) ∧ s.changesOnly [.mbox, .sessions, .host, .dict, .milestone] t ∧
      (t.session q).waiting = l ∧ t.reg Obj.dictBusyAborts = (s.reg Obj.dictBusyAborts + 1) % 2 ^ 32 ∧
      (q = .host → t.mbox.abort = abortBusy ∧ t.mbox.state = .done) ∧ (q ≠ .host → (t.session q).reply.map (·.abort) = some abortBusy)) ∧
  (∀ (s : State) (q : Sess) (r : Request) (l : List Request), (s.session q).waiting = r :: l → s.now < r.since + ticksMs 200 →
    exec (.dictBusyTimeout q) s = .next (s.settled s)) ∧
  (∀ (s u : State) (o : AccessLevel) (n : Nat) (x : List (List Byte)) (f : AirFrame) (b : List Byte), s.heeds → s.farSide = true →
    s.receiveRecord [0xC] x = (u, some (f, b)) → messageOk b = true → u.reaches (.radio o) = true → u.outstanding (.radio o) = 0 →
    u.reg Obj.tunnelEnable ≠ 0 →
    ∃ t, exec (.tunnelRequestRx o n x) s = .next (s.settled t) ∧ u.changesOnly [.sessions] t ∧
      (t.session (.radio o)).waiting = [parseRequest b u.now] ∧ t.cursor (.radio o) Obj.sectionCursor = n % 1024) ∧
  (∀ (s u : State) (o : AccessLevel) (n : Nat) (x : List (List Byte)) (f : AirFrame) (b : List Byte), s.heeds → s.farSide = true →
    s.receiveRecord [0xC] x = (u, some (f, b)) → messageOk b = true → u.reaches (.radio o) = true → u.outstanding (.radio o) = 0 →
    u.reg Obj.tunnelEnable = 0 →
    exec (.tunnelRequestRx o n x) s = .next (s.settled (u.answerFor (.radio o) (parseRequest b u.now) abortAccess [] false))) ∧
  (∀ (s u : State) (x : List (List Byte)) (f : AirFrame) (b : List Byte) (r : RemoteRequest), s.heeds → s.isBase = true →
    s.receiveRecord [0xC] x = (u, some (f, b)) → (u.slot f.src).state = .connected → u.remotes = [r] → r.slot = f.src → messageOk b = true →
    fieldU b 1 1 = r.req.op + 0x80 → fieldU b 2 2 = r.req.tag →
    exec (.tunnelResponseRx x) s = .next (s.settled (({ u with remotes := [] } : State).answerFor r.from_ r.req (fieldU b 20 4) (b.drop 24)
      (bit (fieldU b 7 1) 0)))) ∧
  (∀ (s : State) (h : LinkHead) (b : List Byte) (r : RemoteRequest), s.heeds → (s.acceptLink h).2 = true → s.isManager = true →
    s.operating = true → s.remotes = [r] → r.slot = 1000 + h.peer → messageOk b = true → fieldU b 1 1 = r.req.op + 0x80 → fieldU b 2 2 = r.req.tag →
    exec (.baseLinkDictResponseRx h b) s = .next (s.settled (({ (s.acceptLink h).1 with remotes := [] } : State).answerFor r.from_ r.req
      (fieldU b 20 4) (b.drop 24) (bit (fieldU b 7 1) 0)))) ∧
  (∀ (s : State) (r : RemoteRequest) (d : Nat), s.running = true → s.remotes = [r] → r.due = some d → d ≤ s.now →
    ∃ u, exec (.remoteTimeout r.slot) s = .next (s.settled ((u.answerFor r.from_ r.req abortTimeout [] false).incr Obj.remoteTimeouts)) ∧
      s.changesOnly [.remotes, .radio] u ∧ u.remotes = []) ∧
  (∀ (s : State) (r : RemoteRequest) (d : Nat), s.remotes = [r] → r.due = some d → s.now < d →
    exec (.remoteTimeout r.slot) s = .next (s.settled s))

/-! ## Ethernet ports (spec/13) -/

/-- Parts of R408 to R410, R412 to R416, R418, R419. A powered port's link follows what its PHY reports, half duplex held down; no answer
sets the fault. A good frame that fits enters the buffer; another one is discarded and counted. The queued frame of a free port starts
with its wire time where its gate span holds it, waits where it does not, and is discarded and counted where no span holds it; frames
for a port that is down are held, and a silent port or one in SNAPSHOT sends none. PAUSE is obeyed and counted as PauseMode says, only
counted on the base link, and ends; another frame is an ordinary one. PAUSE goes out above 75 % and, with time 0, below 50 %, and is
repeated after half its time above 50 %. EthEnable 0 sets DISABLING, which completes after the frame in flight; 1 takes it back or
powers the port. The lowest matching wake filter is shown, and wakes the module from SNAPSHOT. A sound gate list waits for the start
that R419 gives, a bad one shows its code, and a waiting list starts at its instant. Before their instants these events change nothing.
Of the model are the points of log 91, 92, 93. -/
def Obligations.EthernetPorts : Prop :=
  (∀ (s : State) (p v : Nat) (u f : Bool), s.operating = true → p < 2 → (s.port p).powered = true →
    exec (.ethLinkChange p false u f v) s = .next (s.settled (s.setPort p { s.port p with mdioFault := true })) ∧
    (∃ t, exec (.ethLinkChange p true u f v) s = .next (s.settled t) ∧ s.changesOnly [.net, .baseRef] t ∧ (t.port p).linkUp = (u && f) ∧
      (t.port p).duplexRefused = (u && !f) ∧ (t.port p).mdioFault = false ∧ (u = true → f = true → (t.port p).speed = min v 2) ∧
      (∀ n, n ≠ p → t.port n = s.port n) ∧ (p ≠ 0 ∨ (u && f) = true → t.baseRef = s.baseRef))) ∧
  (∀ (s : State) (p v : Nat) (a u f : Bool), s.operating = false ∨ 2 ≤ p ∨ (s.port p).powered = false →
    exec (.ethLinkChange p a u f v) s = .next (s.settled s)) ∧
  (∀ (s : State) (p n : Nat) (b : List Byte), s.portReceives p = true → crc32Ok b = true → b.length ≤ 1522 →
    (s.port p).rxFill - n + b.length ≤ 131072 →
    ∃ t, exec (.ethFrameRx p b n) s = .next (s.settled t) ∧ s.changesOnly [.net] t ∧
      t.port p = { s.port p with rxFill := (s.port p).rxFill - n + b.length } ∧ (∀ k, k ≠ p → t.port k = s.port k)) ∧
  (∀ (s : State) (p n : Nat) (b : List Byte), s.portReceives p = true → crc32Ok b = false ∨ 1522 < b.length →
    ∃ t, exec (.ethFrameRx p b n) s = .next (s.settled t) ∧ s.changesOnly [.net, .dict] t ∧
      t.port p = { s.port p with rxFill := (s.port p).rxFill - n } ∧ t.regAt Obj.rxDropped p = (s.regAt Obj.rxDropped p + 1) % 2 ^ 32) ∧
  (∀ (s : State) (p n : Nat) (b : List Byte), s.portReceives p = true → crc32Ok b = true → b.length ≤ 1522 →
    131072 < (s.port p).rxFill - n + b.length →
    ∃ t, exec (.ethFrameRx p b n) s = .next (s.settled t) ∧ s.changesOnly [.net, .dict] t ∧
      t.port p = { s.port p with rxFill := (s.port p).rxFill - n, rxOverflow := true } ∧
      t.regAt Obj.rxDropped p = (s.regAt Obj.rxDropped p + 1) % 2 ^ 32) ∧
  (∀ (s : State) (p n : Nat) (b : List Byte), s.portReceives p = false → exec (.ethFrameRx p b n) s = .next (s.settled s)) ∧
  (∀ (s : State) (p q : Nat) (f : TxFrame) (l : List TxFrame), s.portFree p = true → s.mode.current ≠ .snapshot → s.silent = false →
    s.baseLinkOn p = false → q < 8 → (s.port p).queues = [(q, f :: l)] → (s.port p).held = [] →
    (s.gated p = false ∨ (fitsGate (wireNs (s.port p).speed f.len) ((s.port p).gates.longest q) = true ∧
      s.gateOpen p q ≠ some 0 ∧ fitsGate (wireNs (s.port p).speed f.len) (s.gateOpen p q) = true)) →
    ∃ t x, exec (.ethFrameTx p []) s = .next (s.settled t) ∧ s.changesOnly [.net] t ∧ t.port p = x ∧ x.wire = some (q, f) ∧
      x.busyUntil = s.now + 2 * wireNs (s.port p).speed f.len ∧ (∀ k, x.queue k = if k = q then l else []) ∧ x.rxFill = (s.port p).rxFill ∧
      (∀ k, k ≠ p → t.port k = s.port k)) ∧
  (∀ (s : State) (p q n : Nat) (f : TxFrame) (l : List TxFrame), s.portFree p = true → s.mode.current ≠ .snapshot → s.silent = false →
    s.baseLinkOn p = false → q < 8 → (s.port p).queues = [(q, f :: l)] → (s.port p).held = [] → s.gated p = true →
    fitsGate (wireNs (s.port p).speed f.len) ((s.port p).gates.longest q) = true →
    s.gateOpen p q = some n → n ≤ wireNs (s.port p).speed f.len →
    ∃ t, exec (.ethFrameTx p []) s = .next (s.settled t) ∧ s.changesOnly [.net] t ∧ ∀ k, t.port k = s.port k) ∧
  (∀ (s : State) (p q : Nat) (f : TxFrame) (l : List TxFrame), s.operating = true → p < 2 → (s.port p).linkUp = true → (s.port p).disabling = false →
    s.portFree p = false → s.mode.current ≠ .snapshot → s.silent = false → s.baseLinkOn p = false → q < 8 → (s.port p).queues = [(q, f :: l)] →
    (s.port p).held = [] → s.gated p = true → fitsGate (wireNs (s.port p).speed f.len) ((s.port p).gates.longest q) = false →
    ∃ t, exec (.ethFrameTx p []) s = .next (s.settled t) ∧ s.changesOnly [.net, .dict] t ∧ (∀ k, (t.port p).queue k = if k = q then l else []) ∧
      t.regAt Obj.gateOversize p = (s.regAt Obj.gateOversize p + 1) % 2 ^ 32) ∧
  (∀ (s : State) (p : Nat) (l : List (Bool × Nat)), s.operating = true → p < 2 → (s.port p).linkUp = false → s.mode.current ≠ .snapshot → s.silent = false →
    exec (.ethFrameTx p l) s = .next (s.settled (s.setPort p { s.port p with held := (s.port p).held ++ l.filter (fun f => decide (f.2 ≤ 1522)) }))) ∧
  (∀ (s : State) (p : Nat) (l : List (Bool × Nat)), s.operating = false ∨ 2 ≤ p ∨ s.mode.current = .snapshot ∨ s.silent = true →
    exec (.ethFrameTx p l) s = .next (s.settled s)) ∧
  (∀ (s : State) (p v : Nat) (b : List Byte), s.portReceives p = true → s.mode.current ≠ .snapshot → s.pauseTime p b = some v → s.baseLinkOn p = false →
    bit (s.regNAt Obj.pauseMode p) 0 = true → (s.port p).pausedUntil = none →
    ∃ t, exec (.pauseRx p b) s = .next (s.settled t) ∧ s.changesOnly [.net, .dict] t ∧
      t.regAt Obj.pauseReceived p = (s.regAt Obj.pauseReceived p + 1) % 2 ^ 32 ∧ t.port p = { s.port p with
        pausedUntil := if v = 0 then none else some (max s.now (s.port p).busyUntil + v * 512 * byteNs (s.port p).speed / 4) }) ∧
  (∀ (s : State) (p v : Nat) (b : List Byte), s.portReceives p = true → s.mode.current ≠ .snapshot → s.pauseTime p b = some v → s.baseLinkOn p = true →
    exec (.pauseRx p b) s = .next (s.settled (s.incrAt Obj.pauseReceived p))) ∧
  (∀ (s : State) (p v : Nat) (b : List Byte), s.pauseTime p b = some v → s.baseLinkOn p = false → bit (s.regNAt Obj.pauseMode p) 0 = false →
    exec (.pauseRx p b) s = .next (s.settled s)) ∧
  (∀ (s : State) (p : Nat) (b : List Byte), s.mode.current ≠ .snapshot → s.pauseTime p b = none → exec (.pauseRx p b) s = exec (.ethFrameRx p b 0) s) ∧
  (∀ (s : State) (p : Nat) (b : List Byte), s.portReceives p = false ∨ s.mode.current = .snapshot → exec (.pauseRx p b) s = .next (s.settled s)) ∧
  (∀ (s : State) (p t : Nat), (s.port p).pausedUntil = some t → t ≤ s.now →
    exec (.pauseEnd p) s = .next (s.settled (s.setPort p { s.port p with pausedUntil := none }))) ∧
  (∀ (s : State) (p : Nat), s.due (s.port p).pausedUntil = false → exec (.pauseEnd p) s = .next (s.settled s)) ∧
  (∀ (s : State) (p n : Nat), s.mayPause p = true → (s.port p).pauseSent = false → 98304 < (s.port p).rxFill - n →
    ∃ t, exec (.pauseTx p n) s = .next (s.settled t) ∧ s.changesOnly [.net] t ∧ t.port p = { s.port p with
      rxFill := (s.port p).rxFill - n, pauseSent := decide (s.regNAt Obj.pauseQuanta p ≠ 0), pauseOut := some (s.regNAt Obj.pauseQuanta p)
      repeatDue := some (s.now + s.halfPause p), busyUntil := max s.now (s.port p).busyUntil + 2 * wireNs (s.port p).speed 64 }) ∧
  (∀ (s : State) (p n : Nat), s.mayPause p = true → (s.port p).pauseSent = true → (s.port p).rxFill - n < 65536 →
    ∃ t, exec (.pauseTx p n) s = .next (s.settled t) ∧ s.changesOnly [.net] t ∧ t.port p = { s.port p with
      rxFill := (s.port p).rxFill - n, pauseSent := false, pauseOut := some 0, repeatDue := none
      busyUntil := max s.now (s.port p).busyUntil + 2 * wireNs (s.port p).speed 64 }) ∧
  (∀ (s : State) (p n : Nat), s.mayPause p = true →
    ((s.port p).pauseSent = false → (s.port p).rxFill - n ≤ 98304) → ((s.port p).pauseSent = true → 65536 ≤ (s.port p).rxFill - n) →
    exec (.pauseTx p n) s = .next (s.settled (s.setPort p { s.port p with rxFill := (s.port p).rxFill - n }))) ∧
  (∀ (s : State) (p t : Nat), s.mayPause p = true → (s.port p).pauseSent = true → (s.port p).repeatDue = some t → t ≤ s.now →
    65536 < (s.port p).rxFill →
    exec (.pauseRepeat p) s = .next (s.settled (s.setPort p { s.port p with
      pauseSent := decide (s.regNAt Obj.pauseQuanta p ≠ 0), pauseOut := some (s.regNAt Obj.pauseQuanta p), repeatDue := some (s.now + s.halfPause p)
      busyUntil := max s.now (s.port p).busyUntil + 2 * wireNs (s.port p).speed 64 }))) ∧
  (∀ (s : State) (p n : Nat), s.mayPause p = false ∨ (s.port p).pauseSent = false ∨ s.due (s.port p).repeatDue = false ∨ (s.port p).rxFill ≤ 65536 →
    exec (.pauseRepeat p) s = .next (s.settled s) ∧ (s.mayPause p = false → exec (.pauseTx p n) s = .next (s.settled s))) ∧
  (∀ (s : State) (q : Sess), s.takesWrite q Obj.ethEnable 0 →
    ∃ u, exec (.ethDisable q) s = .next (s.settled (s.acked u q [])) ∧
      s.changesOnly [.net, .dict, .zheoc, .sessions] u ∧
      u.regAt Obj.ethEnable (s.instanceOf q Obj.ethEnable) = 0 ∧
      u.port (s.instanceOf q Obj.ethEnable) = { s.port (s.instanceOf q Obj.ethEnable) with
        disabling := (s.port (s.instanceOf q Obj.ethEnable)).disabling || (s.port (s.instanceOf q Obj.ethEnable)).powered }) ∧
  (∀ (s : State) (q : Sess) (p : Nat), s.takesWrite q Obj.ethEnable 1 → s.instanceOf q Obj.ethEnable = p → s.ethInterface p ≠ 0 →
    ∃ u, exec (.ethEnable q) s = .next (s.settled (s.acked u q [])) ∧ s.changesOnly [.net, .dict, .zheoc, .sessions] u ∧
      u.regAt Obj.ethEnable p = 1 ∧ u.port p = if (s.port p).disabling then { s.port p with disabling := false } else { s.port p with powered := true }) ∧
  (∀ (s : State) (p : Nat), (s.port p).disabling = true → (s.port p).busyUntil ≤ s.now →
    ∃ t, exec (.ethDisableComplete p) s = .next (s.settled t) ∧ s.changesOnly [.net, .baseRef] t ∧ t.port p = { s.port p with
      disabling := false, powered := false, linkUp := false, queues := [], pausedUntil := none, pauseSent := false, repeatDue := none }) ∧
  (∀ (s : State) (p : Nat), (s.port p).disabling = false ∨ s.now < (s.port p).busyUntil → exec (.ethDisableComplete p) s = .next (s.settled s)) ∧
  (∀ (s : State) (p n : Nat) (b : List Byte), s.portReceives p = true → n < 16 → s.filterMatches p b n = true →
    (∀ k < n, s.filterMatches p b k = false) → s.mode.current ≠ .snapshot →
    exec (.wakeMatch p b) s = .next (s.settled ((s.setReg Obj.wakeLast n).setPort p { s.port p with wakeMatch := true }))) ∧
  (∀ (s : State) (p n : Nat) (b : List Byte), s.portReceives p = true → n < 16 → s.filterMatches p b n = true → s.mode.current = .snapshot →
    ∃ t, exec (.wakeMatch p b) s = .next (s.settled t) ∧ s.changesOnly [.net, .dict, .mode, .gnss, .host, .blv, .kerb, .tram] t ∧
      t.mode.current = .rover ∧ (t.port p).wakeMatch = true) ∧
  (∀ (s : State) (p : Nat) (b : List Byte), s.portReceives p = false ∨ (∀ n < 16, s.filterMatches p b n = false) →
    exec (.wakeMatch p b) s = .next (s.settled s)) ∧
  (∀ (s : State) (q : Sess) (p : Nat), s.takesWrite q Obj.gateCommit 1 → s.instanceOf q Obj.gateCommit = p → s.gateCode p = 0 →
    ∃ u b, exec (.gateCommit q 1) s = .next (s.settled (s.acked u q [])) ∧ s.changesOnly [.net, .dict, .zheoc, .sessions] u ∧
      (u.port p).waiting = some (s.gateDraft p, b) ∧ (u.port p).gates = (s.port p).gates ∧ s.time64 + 1000000 ≤ b ∧
      (∃ n : Nat, b = (s.gateDraft p).base + n * (s.gateDraft p).cycle)) ∧
  (∀ (s : State) (q : Sess) (p : Nat), s.takesWrite q Obj.gateCommit 1 → s.instanceOf q Obj.gateCommit = p → s.gateCode p ≠ 0 →
    ∃ u, exec (.gateCommit q 1) s = .next (s.settled (s.acked u q [])) ∧ s.changesOnly [.dict, .zheoc, .sessions] u ∧
      u.regAt Obj.gateResult p = s.gateCode p) ∧
  (∀ (s : State) (p : Nat) (l : GateList) (b : Int), (s.port p).waiting = some (l, b) → b ≤ s.time64 →
    ∃ t, exec (.gateListStart p) s = .next (s.settled t) ∧ s.changesOnly [.net, .dict] t ∧
      t.port p = { s.port p with gates := l, waiting := none } ∧ t.regAt Obj.gateResult p = 1) ∧
  (∀ (s : State) (p : Nat), (∀ l b, (s.port p).waiting = some (l, b) → s.time64 < b) → exec (.gateListStart p) s = .next (s.settled s))

/-- Parts of R421 to R423. On a port where PTP runs a message of the port's state and profile goes at its interval with the time, class,
domain and priority of the clock and its destination; before it is due, or in another state, nothing goes. An announcement sets the
port's state for 3 s. A Sync that a slave receives gives one more offset; 16 in a row below 1 µs qualify the source, and 16 above 10 µs
lose a qualified one. Three intervals without an announcement make the port a master, and lose its source. Of the model are the points
of log 40. -/
def Obligations.PtpPorts : Prop :=
  (∀ (s : State) (p : Nat) (k : PtpKind), s.ptpRuns p = true → s.silent = false → ptpSends (s.reg Obj.ptpProfile) (s.ptpPort p).state k = true →
    Tab.get 0 (s.ptpPort p).due (ptpKindCode k) ≤ s.now →
    ∃ t m, exec (.ptpMessageTx p k) s = .next (s.settled t) ∧ s.changesOnly [.net] t ∧ t.net.ptpSent = some m ∧ m.port = p ∧ m.kind = k ∧
      m.time = (s.ptpStamp p true s.now + 2 * 946684800000000000) / 2 ∧ m.domain = s.regN Obj.ptpDomain ∧ m.priority = s.regN Obj.ptpPriority1 ∧
      m.clockClass = (match s.clk.state with | .gnss => 6 | .holdover => 7 | _ => 248) ∧ m.dest = (s.ptpDest k).1 ∧ m.udp = (s.ptpDest k).2 ∧
      Tab.get 0 (t.ptpPort p).due (ptpKindCode k) = s.now + (if s.reg Obj.ptpProfile = 1 ∧ k = .sync then ticksMs 125 else ticksS 1)) ∧
  (∀ (s : State) (p : Nat) (k : PtpKind), s.ptpRuns p = false ∨ s.silent = true ∨ s.now < Tab.get 0 (s.ptpPort p).due (ptpKindCode k) ∨
    ptpSends (s.reg Obj.ptpProfile) (s.ptpPort p).state k = false → exec (.ptpMessageTx p k) s = .next (s.settled s)) ∧
  (∀ (s : State) (p n : Nat), s.ptpRuns p = true → (s.ptpPort p).qualified = false →
    exec (.ptpMessageRx p (.announce n)) s = .next (s.settled (s.setPtp p { s.ptpPort p with
      state := n, announceDue := some (s.now + ticksS 3), offsets := if n = 9 then (s.ptpPort p).offsets else []
      syncs := if n = 9 then (s.ptpPort p).syncs else [] }))) ∧
  (∀ (s : State) (p : Nat) (o x : Int) (k : Nat), s.ptpRuns p = true → (s.ptpPort p).state = 9 → (s.ptpPort p).offsets.length < 15 →
    x = (s.ptpStamp p false k - (2 * o - 2 * 946684800000000000) - (s.ptpPort p).delay) / 2 →
    ∃ t, exec (.ptpMessageRx p (.sync o k)) s = .next (s.settled t) ∧ s.changesOnly [.net, .dict] t ∧
      (t.ptpPort p).offsets = (s.ptpPort p).offsets ++ [x] ∧ (t.ptpPort p).state = 9 ∧ (t.ptpPort p).qualified = (s.ptpPort p).qualified ∧
      t.reg Obj.ptpOffset = clampInt (-2147483648) 2147483647 x) ∧
  (∀ (s : State) (p : Nat) (o x : Int) (k : Nat), s.ptpRuns p = true → (s.ptpPort p).state = 9 → (s.ptpPort p).offsets.length = 15 →
    x = (s.ptpStamp p false k - (2 * o - 2 * 946684800000000000) - (s.ptpPort p).delay) / 2 → (∀ y ∈ (s.ptpPort p).offsets ++ [x], y.natAbs < 1000) →
    ∃ t, exec (.ptpMessageRx p (.sync o k)) s = .next (s.settled t) ∧ s.changesOnly [.net, .dict, .clk] t ∧ (t.ptpPort p).qualified = true ∧
      (t.ptpPort p).offsets = (s.ptpPort p).offsets ++ [x]) ∧
  (∀ (s : State) (p : Nat) (o x : Int) (k : Nat), s.ptpRuns p = true → (s.ptpPort p).state = 9 → (s.ptpPort p).offsets.length = 15 →
    x = (s.ptpStamp p false k - (2 * o - 2 * 946684800000000000) - (s.ptpPort p).delay) / 2 →
    (s.ptpPort p).qualified = true → (∀ y ∈ (s.ptpPort p).offsets ++ [x], 10000 < y.natAbs) →
    ∃ t, exec (.ptpMessageRx p (.sync o k)) s = .next (s.settled t) ∧ s.changesOnly [.net, .dict, .clk] t ∧ (t.ptpPort p).qualified = false) ∧
  (∀ (s : State) (p : Nat) (m : PtpMessage), s.ptpRuns p = false ∨ m = .other → exec (.ptpMessageRx p m) s = .next (s.settled s)) ∧
  (∀ (s : State) (p t : Nat), s.ptpRuns p = true → (s.ptpPort p).announceDue = some t → t ≤ s.now → (s.ptpPort p).qualified = false →
    exec (.ptpAnnounceTimeout p) s = .next (s.settled (s.setPtp p { s.ptpPort p with announceDue := none, state := 6, offsets := [], syncs := [] }))) ∧
  (∀ (s : State) (p t : Nat), s.ptpRuns p = true → (s.ptpPort p).announceDue = some t → t ≤ s.now → (s.ptpPort p).qualified = true →
    ∃ u, exec (.ptpAnnounceTimeout p) s = .next (s.settled u) ∧ s.changesOnly [.net, .clk] u ∧ (u.ptpPort p).qualified = false ∧ (u.ptpPort p).state = 6) ∧
  (∀ (s : State) (p : Nat), s.ptpRuns p = false ∨ s.due (s.ptpPort p).announceDue = false → exec (.ptpAnnounceTimeout p) s = .next (s.settled s))

/-! ## CAN (spec/13) -/

/-- Parts of R425 to R428, R519, R526. Error passive and bus-off set a controller's state and count; bus-off recovers by itself or after
CanRecover. CAN0 of a node that has started sends an EMCY for error passive, for the end of a recovery and for a lost frame; CAN1 loses
its address with bus-off. A frame that the controller takes enters the FIFO of 128 or is lost and counted; a consumed node's heartbeat
is noted. An SDO request becomes a request of the CAN0 session, one at a time. An RPDO that cannot be applied in time is dropped and
counted, a synchronous one waits for the next SYNC, another one is written at once without an answer. A TPDO goes with the values of
that instant, after its inhibit time; a SYNC is counted and applies what waits. The heartbeat goes at its period; a consumed node's is
missed after its time. The NMT commands set the state of a node that has started; the two resets take the communication objects in force
since BOOT and change nothing else of the node's dictionary. In the other cases named these events change nothing. Of the model are the
points of log 38, 42, 60. -/
def Obligations.CanControllers : Prop :=
  (∀ (s : State) (n v : Nat), s.canRuns n = true → (s.canCtl n).err ≠ 2 → ∃ t, exec (.canErrorPassive n v) s = .next (s.settled t) ∧ s.changesOnly [.net, .dict] t ∧
    t.canCtl n = { s.canCtl n with err := 1, tec := min 255 v } ∧ (∀ k, k ≠ n → t.canCtl k = s.canCtl k) ∧
    (n = 0 → s.net.open_.nmt ≠ .off → t.net.open_.emcy = some 0x8120 ∧ t.reg Obj.errorField1 = 0x8120 ∧ t.reg Obj.errorField2 = s.reg Obj.errorField1) ∧
    (n = 1 ∨ s.net.open_.nmt = .off → t.net.open_ = s.net.open_ ∧ t.dict = s.dict)) ∧
  (∀ (s : State) (n v : Nat), s.canRuns n = false ∨ (s.canCtl n).err = 2 → exec (.canErrorPassive n v) s = .next (s.settled s)) ∧
  (∀ (s : State) (n : Nat), s.canRuns n = false → exec (.canBusOff n) s = .next (s.settled s)) ∧
  (∀ (s : State) (n : Nat), s.canRuns n = true → ∃ t, exec (.canBusOff n) s = .next (s.settled t) ∧ s.changesOnly [.net, .dict] t ∧
    t.canCtl n = { s.canCtl n with err := 2, tec := 255, recovering := decide (s.regAt Obj.canBusOffRecovery n = 0) } ∧
    t.net.open_ = s.net.open_ ∧ (n = 0 → t.net.iso = s.net.iso ∧ t.dict = s.dict) ∧
    (n = 1 → t.reg Obj.isobusAddress = 255 ∧ t.net.iso = { s.net.iso with reclaim := true })) ∧
  (∀ (s : State) (q : Sess) (n : Nat), s.takesWrite q Obj.canRecover 1 → s.instanceOf q Obj.canRecover = n → (s.canCtl n).err = 2 →
    ∃ u, exec (.canRecover q 1) s = .next (s.settled (s.acked u q [])) ∧ s.changesOnly [.net, .zheoc, .sessions] u ∧
      u.canCtl n = { s.canCtl n with recovering := true } ∧ u.net.open_ = s.net.open_ ∧ u.net.iso = s.net.iso) ∧
  (∀ (s : State) (n : Nat), s.canRuns n = true → (s.canCtl n).recovering = true →
    ∃ t, exec (.canRecoveryComplete n) s = .next (s.settled t) ∧ s.changesOnly [.net, .dict] t ∧
      t.canCtl n = { s.canCtl n with recovering := false, err := 0, tec := 0 } ∧
      (n = 0 → s.net.open_.nmt ≠ .off → t.net.open_.emcy = some 0x8140 ∧ t.reg Obj.errorField1 = 0x8140) ∧ (n = 1 → t.dict = s.dict)) ∧
  (∀ (s : State) (n : Nat), s.canRuns n = false ∨ (s.canCtl n).recovering = false → exec (.canRecoveryComplete n) s = .next (s.settled s)) ∧
  (∀ (s : State) (n k : Nat) (f : CanFrame), s.canRuns n = true → (s.canCtl n).err ≠ 2 → s.canTakes n f = true → ((s.canCtl n).fifo.drop k).length < 128 →
    ∃ t, exec (.canFrameRx n f k) s = .next (s.settled t) ∧ s.changesOnly [.net] t ∧
      t.canCtl n = { s.canCtl n with fifo := (s.canCtl n).fifo.drop k ++ [f] } ∧ (n = 1 → t.net.open_ = s.net.open_) ∧
      (n = 0 → f.ext = false → f.id = 0x700 + bits (s.regN Obj.consumerHeartbeat1) 16 7 → bits (s.regN Obj.consumerHeartbeat1) 16 7 ≠ 0 →
        Tab.get none t.net.open_.seen 0 = some s.now ∧ t.net.open_.lost.contains 0 = false)) ∧
  (∀ (s : State) (n k : Nat) (f : CanFrame), s.canRuns n = false ∨ (s.canCtl n).err = 2 ∨ s.canTakes n f = false →
    exec (.canFrameRx n f k) s = .next (s.settled s)) ∧
  (∀ (s : State) (n k : Nat) (f : CanFrame), s.canRuns n = true → (s.canCtl n).err ≠ 2 → s.canTakes n f = true → 128 ≤ ((s.canCtl n).fifo.drop k).length →
    ∃ t, exec (.canFrameRx n f k) s = .next (s.settled t) ∧ s.changesOnly [.net, .dict] t ∧
      t.canCtl n = { s.canCtl n with fifo := (s.canCtl n).fifo.drop k, overrun := true } ∧
      t.regAt Obj.canRxOverrun n = (s.regAt Obj.canRxOverrun n + 1) % 2 ^ 32 ∧ (n = 0 → s.net.open_.nmt ≠ .off → t.net.open_.emcy = some 0x8110)) ∧
  (∀ (s : State) (w : Option (List Byte)) (a : Nat), (s.canCtl 0).err ≠ 2 → s.reaches .can0 = true → s.outstanding .can0 = 0 →
    (w.getD []).length ≤ 2 ^ 32 →
    exec (.sdoRequest w a) s = .next (s.settled (s.updSession .can0 (fun x => { x with waiting := x.waiting ++
      [{ op := if w.isSome then 2 else 1, tag := 0, addr := a, more := false, base := 255, offset := 0, data := w.getD [], since := s.now }] })))) ∧
  (∀ (s : State) (w : Option (List Byte)) (a : Nat), (s.canCtl 0).err = 2 ∨ s.reaches .can0 = false ∨ 0 < s.outstanding .can0 → exec (.sdoRequest w a) s = .next (s.settled s)) ∧
  (∀ (s : State) (n : Nat) (d : List Byte), s.zheoc.deposed = false → s.pdoRuns true n = true → pdoLength (s.pdoEntries true n) ≤ d.length →
    exec (.rpdoRx n d true) s = .next (s.settled (s.noteInput.incr Obj.pdoDropped)) ∧
    (s.pdoType true n ≤ 240 → exec (.rpdoRx n d false) s = .next (s.settled (s.noteInput.updOpen (fun x => { x with
      rpdoWait := Tab.put [] x.rpdoWait n d }))))) ∧
  (∀ (s : State) (n : Nat) (d : List Byte) (b : Bool), s.zheoc.deposed = false → s.noteInput.pdoRuns true n = false →
    exec (.rpdoRx n d b) s = .next (s.settled s.noteInput)) ∧
  (∀ (s : State) (n : Nat) (v : Byte), s.zheoc.deposed = false → s.pdoRuns true n = true → 240 < s.pdoType true n →
    s.pdoEntries true n = [Obj.meterView] → s.reaches .can0 = true → s.refuses .can0 Obj.meterView true = none → v.toNat ≤ 1 →
    ∃ t, exec (.rpdoRx n [v] false) s = .next (s.settled t) ∧ s.changesOnly [.dict, .zheoc, .sessions, .milestone] t ∧
      t.reg Obj.meterView = v.toNat ∧ (t.session .can0).serving = (s.session .can0).serving ∧ (t.session .can0).reply = (s.session .can0).reply) ∧
  (∀ (s : State) (n : Nat) (o : ObjDesc) (b : List Byte), s.pdoRuns false n = true → Tab.get 0 s.net.open_.inhibit n ≤ s.now →
    240 < s.pdoType false n ∨ s.pdoType false n ≤ Tab.get 0 s.net.open_.syncs n → s.pdoEntries false n = [o] →
    s.readValue .can0 o = some (b, s) → b.length = o.size →
    exec (.tpdoTx n) s = .next (s.settled (s.updOpen (fun x => { x with
      tpdo := Tab.put [] x.tpdo n b, syncs := Tab.put 0 x.syncs n 0
      inhibit := Tab.put 0 x.inhibit n (s.now + ticksUs (100 * s.regN (pdoCommObj false n 3)))
      timer := Tab.put 0 x.timer n (s.now + ticksMs (s.regN (pdoCommObj false n 5))) })))) ∧
  (∀ (s : State) (n : Nat), s.pdoRuns false n = false ∨ s.now < Tab.get 0 s.net.open_.inhibit n ∨
    (s.pdoType false n ≤ 240 ∧ Tab.get 0 s.net.open_.syncs n < s.pdoType false n) → exec (.tpdoTx n) s = .next (s.settled s)) ∧
  (∀ s : State, s.operating = false ∨ s.net.open_.nmt ≠ .operational ∨ (s.canCtl 0).err = 2 → exec .syncRx s = .next (s.settled s)) ∧
  (∀ s : State, s.operating = true → s.net.open_.nmt = .operational → (s.canCtl 0).err ≠ 2 → s.net.open_.rpdoWait = [] →
    ∃ t, exec .syncRx s = .next (s.settled t) ∧ s.changesOnly [.net] t ∧
      (∀ n < 16, Tab.get 0 t.net.open_.syncs n = min 255 (Tab.get 0 s.net.open_.syncs n + 1)) ∧ t.net.open_.tpdo = s.net.open_.tpdo) ∧
  (∀ (s : State) (n : Nat) (v : Byte), s.operating = true → s.net.open_.nmt = .operational → (s.canCtl 0).err ≠ 2 →
    s.net.open_.rpdoWait = [(n, [v])] → s.pdoEntries true n = [Obj.meterView] → s.reaches .can0 = true →
    s.refuses .can0 Obj.meterView true = none → v.toNat ≤ 1 →
    ∃ t, exec .syncRx s = .next (s.settled t) ∧ s.changesOnly [.net, .dict, .sessions, .milestone] t ∧ t.reg Obj.meterView = v.toNat ∧
      t.net.open_.rpdoWait = []) ∧
  (∀ s : State, s.net.open_.nmt ≠ .off → s.regN Obj.producerHeartbeat ≠ 0 → s.net.open_.beatDue ≤ s.now → (s.canCtl 0).err ≠ 2 →
    exec .canopenHeartbeatTx s = .next (s.settled (s.updOpen (fun x => { x with
      beat := some (match x.nmt with | .off => 0 | .stopped => 4 | .operational => 5 | .preOperational => 127)
      beatDue := s.now + ticksMs (s.regN Obj.producerHeartbeat) })))) ∧
  (∀ s : State, s.net.open_.nmt = .off ∨ s.regN Obj.producerHeartbeat = 0 ∨ s.now < s.net.open_.beatDue ∨ (s.canCtl 0).err = 2 →
    exec .canopenHeartbeatTx s = .next (s.settled s)) ∧
  (∀ (s : State) (k : Nat), Tab.get none s.net.open_.seen k = none ∨ bits (s.regN (consumerObj k)) 0 16 = 0 →
    exec (.heartbeatConsumerTimeout k) s = .next (s.settled s)) ∧
  (∀ (s : State) (k t : Nat), k < 4 → Tab.get none s.net.open_.seen k = some t → bits (s.regN (consumerObj k)) 0 16 ≠ 0 →
    t + ticksMs (bits (s.regN (consumerObj k)) 0 16) ≤ s.now →
    exec (.heartbeatConsumerTimeout k) s = .next (s.settled (s.updOpen (fun x => { x with
      seen := Tab.put none x.seen k none, lost := x.lost.filter (fun j => decide (j ≠ k)) ++ [k] })))) ∧
  (∀ s : State, s.net.open_.nmt ≠ .off →
    exec .nmtStart s = .next (s.settled (s.updOpen (fun x => { x with nmt := .operational }))) ∧
    exec .nmtStop s = .next (s.settled (s.updOpen (fun x => { x with nmt := .stopped }))) ∧
    exec .nmtPreOperational s = .next (s.settled (s.updOpen (fun x => { x with nmt := .preOperational })))) ∧
  (∀ s : State, s.net.open_.nmt ≠ .off →
    ∃ t, exec .nmtResetNode s = .next (s.settled t) ∧ exec .nmtResetCommunication s = .next (s.settled t) ∧ s.changesOnly [.net, .dict] t ∧
      t.net.open_.nmt = .preOperational ∧ t.net.open_.beat = some 0 ∧
      t.reg Obj.producerHeartbeat = s.bootReg Obj.producerHeartbeat ∧ t.reg Obj.predefinedErrors = 0 ∧
      t.regAt Obj.sectionMode 0 = s.regAt Obj.sectionMode 0 ∧ t.net.can = s.net.can ∧ t.net.iso = s.net.iso) ∧
  (∀ s : State, s.net.open_.nmt = .off →
    exec .nmtStart s = .next (s.settled s) ∧ exec .nmtStop s = .next (s.settled s) ∧ exec .nmtPreOperational s = .next (s.settled s) ∧
    exec .nmtResetNode s = .next (s.settled s) ∧ exec .nmtResetCommunication s = .next (s.settled s))

/-- Parts of R429 to R431. The claim gives the preferred address or, with a self-configurable NAME, one of 128 to 247, else none; after
bus-off 250 ms pass. A TC status restarts the 6 s and connects a client with an address; 6 s without one disconnect it. A setpoint of 16
sections forces OFF every one whose value is not 1 and leaves the others; a setpoint rate writes ProductRate, × 0.01 or × 10,000, where
its range holds the value and it can be stored. The work state and the actual rate go every 1 s, the work state on a change too, and the
device description when a section record changed. A position message of an enabled kind goes at its rate with the newest pose. Without a
connection, or with the control not enabled, these do nothing. Of the model are the points of log 41, 43. -/
def Obligations.IsobusClient : Prop :=
  (∀ (s : State) (n : Nat), s.isoRuns = true → n = s.regN Obj.isobusPreferredAddress ∨ (bit (s.regN Obj.isobusName) 63 = true ∧ 128 ≤ n ∧ n ≤ 247) →
    ∃ t, exec (.addressClaim (some n)) s = .next (s.settled t) ∧ s.changesOnly [.net, .dict] t ∧ t.reg Obj.isobusAddress = n ∧
      t.net.iso = { s.net.iso with reclaim := false, waitUntil := if s.net.iso.reclaim then s.now + ticksMs 250 else s.net.iso.waitUntil }) ∧
  (∀ (s : State) (a : Option Nat), s.isoRuns = true →
    (∀ n, a = some n → n ≠ s.regN Obj.isobusPreferredAddress ∧ (bit (s.regN Obj.isobusName) 63 = false ∨ n < 128 ∨ 247 < n)) →
    ∃ t, exec (.addressClaim a) s = .next (s.settled t) ∧ s.changesOnly [.net, .dict] t ∧ t.reg Obj.isobusAddress = 254) ∧
  (∀ (s : State) (a : Option Nat), s.isoRuns = false → exec (.addressClaim a) s = .next (s.settled s) ∧ exec .tcStatusRx s = .next (s.settled s) ∧
    exec .tcStatusTimeout s = .next (s.settled s)) ∧
  (∀ s : State, s.isoRuns = true →
    exec .tcStatusRx s = .next (s.settled (s.updIso (fun x => { x with
      heard := s.now, connected := x.connected || decide (s.regN Obj.isobusAddress ≤ 253) })))) ∧
  (∀ s : State, s.isoRuns = true → s.net.iso.connected = true → s.net.iso.heard + ticksS 6 ≤ s.now →
    ∃ t, exec .tcStatusTimeout s = .next (s.settled t) ∧ s.changesOnly [.net, .kerb] t ∧
      t.net = { s.net with iso := { s.net.iso with connected := false, setpoints := [] } } ∧
      (s.reg Obj.isobusSectionControl ≠ 1 → t.kerb = s.kerb)) ∧
  (∀ s : State, s.isoRuns = true → s.now < s.net.iso.heard + ticksS 6 → exec .tcStatusTimeout s = .next (s.settled s)) ∧
  (∀ (s : State) (d v : Nat), s.isoRuns = true → s.net.iso.connected = true → 290 ≤ d → d ≤ 305 → s.reg Obj.isobusSectionControl = 1 →
    ∃ t, exec (.sectionSetpointRx d v) s = .next (s.settled t) ∧ s.changesOnly [.net, .kerb] t ∧
      (∀ k < 16, Tab.get 0 t.net.iso.setpoints (16 * (d - 290) + k) = bits v (2 * k) 2) ∧
      (∀ i, i < 16 * (d - 290) ∨ 16 * (d - 290) + 16 ≤ i → Tab.get 0 t.net.iso.setpoints i = Tab.get 0 s.net.iso.setpoints i ∧ t.sec i = s.sec i) ∧
      (∀ k < 16, bits v (2 * k) 2 = 1 → t.sec (16 * (d - 290) + k) = s.sec (16 * (d - 290) + k)) ∧
      (∀ k < 16, bits v (2 * k) 2 ≠ 1 → (s.sec (16 * (d - 290) + k)).commanded = true →
        (t.sec (16 * (d - 290) + k)).plan = some (false, earliestSlot s.time64))) ∧
  (∀ (s : State) (d v : Nat), s.reg Obj.isobusSectionControl ≠ 1 ∨ s.net.iso.connected = false ∨ d < 290 ∨ 305 < d → exec (.sectionSetpointRx d v) s = .next (s.settled s)) ∧
  (∀ (s : State) (p v : Nat), s.isoRuns = true → s.net.iso.connected = true → s.reg Obj.isobusRateControl = 1 → p < 4 →
    ∀ d x, (d = 1 ∨ d = 6) ∧ x = (v * 65536 / 100 : Nat) ∨ d = 11 ∧ x = (v * 10000 * 65536 : Nat) →
      (s.valueOk (productRateObj p) 0 x = true → s.shadowHolds (.storedNum (regKey (productRateObj p) 0) x) = true →
        ∃ t, exec (.rateSetpointRx d p v) s = .next (s.settled t) ∧ s.changesOnly [.dict, .store, .milestone, .draws] t ∧ t.reg (productRateObj p) = x ∧
          ∀ o ≠ productRateObj p, o ∈ [Obj.productRate0, Obj.productRate1, Obj.productRate2, Obj.productRate3] → t.reg o = s.reg o) ∧
      (s.valueOk (productRateObj p) 0 x = false ∨ s.shadowHolds (.storedNum (regKey (productRateObj p) 0) x) = false →
        exec (.rateSetpointRx d p v) s = .next (s.settled s))) ∧
  (∀ (s : State) (d p v : Nat), s.reg Obj.isobusRateControl ≠ 1 ∨ s.net.iso.connected = false ∨ 4 ≤ p → exec (.rateSetpointRx d p v) s = .next (s.settled s)) ∧
  (∀ s : State, s.isoSends = true → s.net.iso.connected = true → s.net.iso.workDue ≤ s.now →
    ∃ t, exec .workStateTx s = .next (s.settled t) ∧ s.changesOnly [.net] t ∧ t.net.iso.workDue = s.now + ticksS 1 ∧
      t.net.iso.work.length = 16 ∧ (∀ i < 256, bits (t.net.iso.work.getD (i / 16) 0) (2 * (i % 16)) 2 =
        if s.secEnabled i = false then 3 else if (s.sec i).state = .fault then 2 else if s.applies s.time64 i then 1 else 0)) ∧
  (∀ s : State, s.isoSends = true → s.net.iso.connected = true → s.net.iso.rateDue ≤ s.now →
    ∃ t, exec .actualRateTx s = .next (s.settled t) ∧ s.changesOnly [.net] t ∧ t.net.iso.rateDue = s.now + ticksS 1 ∧
      (∀ p < 4, s.kerb.pose = none ∨ s.openWidth p = 0 → Tab.get 0 t.net.iso.rates p = 0)) ∧
  (∀ (s : State) (p : Nat) (g : BlvProgram) (d : LoopDesc) (x : Pose), s.isoSends = true → s.net.iso.connected = true → s.net.iso.rateDue ≤ s.now →
    p < 4 → s.blv.programs = [g] → g.loops = [d] → d.product = some p → d.port = .published → s.kerb.pose = some x →
    s.poseValid x s.time64 = true →
    ∃ t, exec .actualRateTx s = .next (s.settled t) ∧ s.changesOnly [.net] t ∧
      Tab.get 0 t.net.iso.rates p = if s.openWidth p = 0 ∨ forwardSpeed x = 0 then 0
        else (s.loop d.loop).out * 100000000000 / (60 * (s.openWidth p : Int) * forwardSpeed x)) ∧
  (∀ s : State, s.net.iso.connected = false → exec .workStateTx s = .next (s.settled s) ∧ exec .actualRateTx s = .next (s.settled s) ∧
    exec .ddUpload s = .next (s.settled s)) ∧
  (∀ s : State, s.isoSends = true → s.net.iso.connected = true → s.net.iso.ddDue = true →
    exec .ddUpload s = .next (s.settled (s.updIso (fun x => { x with
      ddDue := false, ddSections := s.enabledSections.filter (fun i => decide (i < 256)) })))) ∧
  (∀ (s : State) (n : Nat), s.nav.pose = none ∨ s.isoSends = false ∨ bit (s.regN Obj.isobusPositionOutput) n = false ∨
    s.now < Tab.get 0 s.net.iso.posDue n → exec (.positionPgnTx n) s = .next (s.settled s)) ∧
  (∀ (s : State) (n : Nat) (p : Pose), s.nav.pose = some p → s.isoSends = true → n < 4 → bit (s.regN Obj.isobusPositionOutput) n = true →
    Tab.get 0 s.net.iso.posDue n ≤ s.now →
    exec (.positionPgnTx n) s = .next (s.settled (s.updIso (fun x => { x with
      posDue := Tab.put 0 x.posDue n (s.now + if n = 2 then ticksS 1 else ticksMs 100), posSent := some (n, p) }))))

/-! ## Quantities (spec/14) -/

/-- Parts of R433 to R438, R442 to R446, R448 to R451. An edge accepted before the open interval ends, stamped in whole cycles of CK_IO: a
pulse of an input in mode 1 or 2 moves its accumulator by one, leaves the residual of its credit, notes its direction and OVERSPEED, and
credits a section at once or a product in its tick; another edge there only sets the levels, one of an input that is Off only those of
its lands; in quadrature both lands at once are an error and one land counts by which leads. An edge at or past the interval's end
begins the next one. One that Debounce has not passed does nothing. A tick that has ended credits the product, and its one applied
section or Unassigned. Once in a millisecond the rates are formed: 0 and timed out without stamps, else by the last two of one
direction. An interval that has ended is recorded and the next begins with the settings in force from then; the first begins at T0. A
write of a setting stores it; MeterSnapshot copies the bank and MeterClear zeroes it. A VIN sample, at most one in 100 µs, begins a sag
or swell, goes on with it, or ends it with one record and one count, and changes nothing but the monitor and the Milestone; a read takes
the oldest record. Where there is nothing to do these events do nothing. Of the model are the points of log 44, 71, 72, 75, 76. -/
def Obligations.Meter : Prop :=
  (∀ (s : State) (i : Fin 32) (m n : Nat) (b f : Bool), n = m / 20 * 20 → s.counting = true → n + ticksUs (10 * s.inputSet Obj.debounce i) ≤ s.now →
    (∀ v, s.meter.interval = some v → n < v.start + v.length) → (s.input i).a = false →
    (s.inputSet Obj.inputMode i = 1 ∧ f = true) ∨ (s.inputSet Obj.inputMode i = 2 ∧ f = (b == decide (s.inputSet Obj.dirPolarity i = 1))) →
    let k := s.inputSet Obj.kFactor i
    let e : Int := (s.input i).residual + (if s.inputSet Obj.accumMode i = 0 ∧ f = false then -65536000000 else 65536000000)
    ∃ t, exec (.pulseEdge i m true b) s = .next (s.settled t) ∧ s.changesOnly [.meter, .dict] t ∧ (t.input i).a = true ∧ (t.input i).b = b ∧
      (t.input i).residual = (e % k).toNat ∧ (t.input i).lastForward = some f ∧ (t.input i).lastRise = some n ∧
      (t.input i).overspeed = ((s.input i).overspeed || (match (s.input i).lastRise with | none => false | some r => decide (n - r < ticksUs 50))) ∧
      (∀ j, Tab.get 0 t.meter.bank.fwd j = if j = i.val ∧ f = true then (Tab.get 0 s.meter.bank.fwd j + 1) % 2 ^ 56 else Tab.get 0 s.meter.bank.fwd j) ∧
      (∀ j, Tab.get 0 t.meter.bank.rev j = if j = i.val ∧ f = false then (Tab.get 0 s.meter.bank.rev j + 1) % 2 ^ 56 else Tab.get 0 s.meter.bank.rev j) ∧
      t.regAt Obj.directionChanges i = (if (s.input i).lastForward = some (!f) then (s.regAt Obj.directionChanges i + 1) % 2 ^ 32
        else s.regAt Obj.directionChanges i) ∧
      (∀ c, (s.bindingOf i).1 = 2 → (s.bindingOf i).2 = c →
        Tab.get 0 t.meter.bank.section_ c = ((Tab.get 0 s.meter.bank.section_ c + e / k) % 2 ^ 56).toNat ∧ t.meter.credits = s.meter.credits) ∧
      (∀ c, (s.bindingOf i).1 = 1 → (s.bindingOf i).2 = c → t.meter.bank.section_ = s.meter.bank.section_ ∧
        t.meter.credits = s.meter.credits ++ [{ tick := timeOf s.clk n / 1000000, product := c, qty := e / k }]) ∧
      ((s.bindingOf i).1 = 0 → t.meter.bank.section_ = s.meter.bank.section_ ∧ t.meter.bank.product = s.meter.bank.product ∧
        t.meter.credits = s.meter.credits)) ∧
  (∀ (s : State) (i : Fin 32) (m n : Nat) (a b : Bool), n = m / 20 * 20 → s.counting = true ∧ s.meter.interval = none ∧ (a = false ∨ (s.input i).a = true) ∨
      s.counting = false ∧ s.running = true →
    n + ticksUs (10 * s.inputSet Obj.debounce i) ≤ s.now → s.inputSet Obj.inputMode i = 1 ∨ s.inputSet Obj.inputMode i = 2 →
    exec (.pulseEdge i m a b) s = .next (s.settled (s.updInput i (fun x => { x with landA := a, landB := b, a := a, b := b })))) ∧
  (∀ (s : State) (i : Fin 32) (m : Nat) (a b : Bool), s.counting = true ∨ s.running = true →
    m / 20 * 20 + ticksUs (10 * s.inputSet Obj.debounce i) ≤ s.now → s.inputSet Obj.inputMode i = 0 →
    exec (.pulseEdge i m a b) s = .next (s.settled (s.updInput i (fun x => { x with landA := a, landB := b })))) ∧
  (∀ (s : State) (i : Fin 32) (m : Nat) (a b : Bool), s.counting = true → m / 20 * 20 + ticksUs (10 * s.inputSet Obj.debounce i) ≤ s.now →
    s.meter.interval = none → s.inputSet Obj.inputMode i = 3 → a ≠ (s.input i).a → b ≠ (s.input i).b →
    ∃ t, exec (.pulseEdge i m a b) s = .next (s.settled t) ∧ s.changesOnly [.meter] t ∧ (t.input i).a = a ∧ (t.input i).b = b ∧
      (t.input i).quadError = true ∧ t.meter.quadError = true ∧ t.meter.bank = s.meter.bank) ∧
  (∀ (s : State) (i : Fin 32) (m : Nat) (a : Bool), s.counting = true → m / 20 * 20 + ticksUs (10 * s.inputSet Obj.debounce i) ≤ s.now →
    s.meter.interval = none → s.inputSet Obj.inputMode i = 3 → a ≠ (s.input i).a → s.inputSet Obj.dirPolarity i = 0 →
    ∃ t, exec (.pulseEdge i m a (s.input i).b) s = .next (s.settled t) ∧ s.changesOnly [.meter, .dict] t ∧
      (if a ≠ (s.input i).b then Tab.get 0 t.meter.bank.fwd i = (Tab.get 0 s.meter.bank.fwd i + 1) % 2 ^ 56 ∧ t.meter.bank.rev = s.meter.bank.rev
        else Tab.get 0 t.meter.bank.rev i = (Tab.get 0 s.meter.bank.rev i + 1) % 2 ^ 56 ∧ t.meter.bank.fwd = s.meter.bank.fwd)) ∧
  (∀ (s : State) (i : Fin 32) (m : Nat) (b : Bool), s.counting = true → m / 20 * 20 + ticksUs (10 * s.inputSet Obj.debounce i) ≤ s.now →
    s.meter.interval = none → s.inputSet Obj.inputMode i = 3 → b ≠ (s.input i).b → s.inputSet Obj.dirPolarity i = 0 →
    ∃ t, exec (.pulseEdge i m (s.input i).a b) s = .next (s.settled t) ∧ s.changesOnly [.meter, .dict] t ∧
      (if b = (s.input i).a then Tab.get 0 t.meter.bank.fwd i = (Tab.get 0 s.meter.bank.fwd i + 1) % 2 ^ 56 ∧ t.meter.bank.rev = s.meter.bank.rev
        else Tab.get 0 t.meter.bank.rev i = (Tab.get 0 s.meter.bank.rev i + 1) % 2 ^ 56 ∧ t.meter.bank.fwd = s.meter.bank.fwd)) ∧
  (∀ (s : State) (i : Fin 32) (m : Nat) (a b : Bool) (v : MeterInterval), s.counting = true → m / 20 * 20 + ticksUs (10 * s.inputSet Obj.debounce i) ≤ s.now →
    s.inputSet Obj.inputMode i ≠ 0 → s.meter.interval = some v → v.start + v.length ≤ m / 20 * 20 → s.reg Obj.intervalHostOutput ≠ 1 →
    ∃ t w, exec (.pulseEdge i m a b) s = .next (s.settled t) ∧ s.changesOnly [.meter, .kerb, .dict, .store, .draws] t ∧ t.meter.interval = some w ∧
      w.start = v.start + v.length ∧ w.base = s.meter.bank ∧ t.meter.last = intervalRecord v s.meter.seq v.length false s.meter.cleared) ∧
  (∀ (s : State) (i : Fin 32) (m : Nat) (a b : Bool), s.now < m / 20 * 20 + ticksUs (10 * s.inputSet Obj.debounce i) ∨ s.running = false ∧ s.counting = false →
    exec (.pulseEdge i m a b) s = .next (s.settled s)) ∧
  (∀ (s : State) (p : Nat) (v q : Int), s.counting = true → v < s.time64 / 1000000 → s.meter.credits = [{ tick := v, product := p, qty := q }] →
    (∀ i < 1024, s.regNAt Obj.sectionProduct i = p → s.appliedAt (v * 1000000) i = false) →
    ∃ t, exec .creditTick s = .next (s.settled t) ∧ s.changesOnly [.meter] t ∧ t.meter.credits = [] ∧
      Tab.get 0 t.meter.bank.product p = ((Tab.get 0 s.meter.bank.product p + q) % 2 ^ 56).toNat ∧
      Tab.get 0 t.meter.bank.unassigned p = ((Tab.get 0 s.meter.bank.unassigned p + q) % 2 ^ 56).toNat ∧ t.meter.bank.section_ = s.meter.bank.section_) ∧
  (∀ (s : State) (p i : Nat) (v q : Int), s.counting = true → v < s.time64 / 1000000 → s.meter.credits = [{ tick := v, product := p, qty := q }] →
    i < 1024 → s.regNAt Obj.sectionProduct i = p → s.appliedAt (v * 1000000) i = true →
    (∀ j < 1024, j ≠ i → s.regNAt Obj.sectionProduct j = p → s.appliedAt (v * 1000000) j = false) →
    ∃ t, exec .creditTick s = .next (s.settled t) ∧ s.changesOnly [.meter] t ∧ t.meter.credits = [] ∧
      Tab.get 0 t.meter.bank.product p = ((Tab.get 0 s.meter.bank.product p + q) % 2 ^ 56).toNat ∧
      Tab.get 0 t.meter.bank.section_ i = ((Tab.get 0 s.meter.bank.section_ i + q) % 2 ^ 56).toNat ∧ t.meter.bank.unassigned = s.meter.bank.unassigned) ∧
  (∀ s : State, s.counting = true → (∀ c ∈ s.meter.credits, s.time64 / 1000000 ≤ c.tick) →
    exec .creditTick s = .next (s.settled s)) ∧
  (∀ s : State, s.counting = false → exec .creditTick s = .next (s.settled s) ∧ exec .intervalEnd s = .next (s.settled s)) ∧
  (∀ s : State, s.counting = false ∨ s.meter.ratedAt = some s.milli → exec .rateUpdate s = .next (s.settled s)) ∧
  (∀ s : State, s.counting = true → s.meter.ratedAt ≠ some s.milli → ∃ t, exec .rateUpdate s = .next (s.settled t) ∧ s.changesOnly [.meter, .dict, .draws] t ∧
    t.meter.bank = s.meter.bank ∧ t.meter.ratedAt = some (s.now / ticksMs 1) ∧
    (∀ i < 32, (s.input i).stamps = [] → t.regAt Obj.inputRate i = 0 ∧ (t.input i).rateTimeout = true) ∧
    (∀ i < 32, ∀ x y : PulseStamp, (s.input i).stamps = [x, y] → x.stamp < y.stamp → y.stamp < s.now →
      s.now ≤ y.stamp + ticksMs (s.regNAt Obj.rateTimeout i) → s.now - ticksMs (s.regNAt Obj.rateWindow i) ≤ y.stamp → x.forward = y.forward →
      let r := 60 * y.worth * 65536 * 65536 * 2000000000 / ((s.inputSet Obj.kFactor i : Int) * (y.stamp - x.stamp : Nat));
      -(2 ^ 31) ≤ r → r < 2 ^ 31 → t.regAt Obj.inputRate i = r ∧ (t.input i).rateTimeout = false)) ∧
  (∀ (s : State) (v : MeterInterval), s.counting = true → s.meter.interval = some v → v.start + v.length ≤ s.now → s.reg Obj.intervalHostOutput ≠ 1 →
    ∃ t w, exec .intervalEnd s = .next (s.settled t) ∧ s.changesOnly [.meter, .kerb, .dict, .store, .draws] t ∧ t.meter.interval = some w ∧
      w.start = v.start + v.length ∧ w.base = s.meter.bank ∧ t.meter.bank = s.meter.bank ∧ t.meter.seq = (s.meter.seq + 1) % 2 ^ 32 ∧
      t.meter.last = intervalRecord v s.meter.seq v.length false s.meter.cleared ∧ t.meter.cleared = false ∧
      (∀ i < 32, t.inputSet Obj.kFactor i = s.regNAt Obj.kFactor i)) ∧
  (∀ (s : State) (v : MeterInterval), s.meter.interval = some v → s.now < v.start + v.length → exec .intervalEnd s = .next (s.settled s)) ∧
  (∀ (s : State) (n : Nat), s.counting = true → s.meter.interval = none → s.meter.firstAt = some n → n ≤ s.now →
    ∃ t v, exec .intervalEnd s = .next (s.settled t) ∧ s.changesOnly [.meter] t ∧ t.meter.interval = some v ∧ v.start = n ∧ v.base = s.meter.bank) ∧
  (∀ (s : State) (q : Sess) (f : MeterField) (v : Int), s.takesWrite q (meterObject f) v →
    s.shadowHolds (.storedNum (regKey (meterObject f) (s.instanceOf q (meterObject f))) v) = true →
    ∃ u, exec (.meterConfigWrite q f v) s = .next (s.settled (s.acked u q [])) ∧
      s.changesOnly [.dict, .store, .milestone, .draws, .zheoc, .sessions] u ∧ u.regAt (meterObject f) (s.instanceOf q (meterObject f)) = v) ∧
  (∀ (s : State) (q : Sess), s.takesWrite q Obj.meterSnapshot 1 →
    ∃ u, exec (.meterSnapshot q 1) s = .next (s.settled (s.acked u q [])) ∧ s.changesOnly [.meter, .dict, .zheoc, .sessions] u ∧
      u.meter = { s.meter with snapshot := s.meter.bank } ∧ u.reg Obj.snapshotTime = s.time64) ∧
  (∀ (s : State) (q : Sess), s.takesWrite q Obj.meterClear 195 →
    ∃ u, exec (.meterClear q 195) s = .next (s.settled (s.acked u q [])) ∧ s.changesOnly [.meter, .milestone, .store, .draws, .zheoc, .sessions] u ∧
      u.meter = { s.meter with bank := MeterBank.zero, cleared := true }) ∧
  (∀ (s : State) (v : Nat), ∃ t, exec (.vinSample v) s = .next (s.settled t) ∧ s.changesOnly [.meter, .dict, .milestone] t ∧ t.meter.bank = s.meter.bank) ∧
  (∀ (s : State) (v : Nat), s.hasRole .rover = false ∨ s.now < s.meter.vin.due → exec (.vinSample v) s = .next (s.settled s)) ∧
  (∀ (s : State) (v : Nat), s.hasRole .rover = true → s.meter.vin.due ≤ s.now → s.meter.vin.open_ = none →
    s.vinBelow v (100 - s.reg Obj.sagPercent) = false → s.vinAbove v (100 + s.reg Obj.swellPercent) = false →
    exec (.vinSample v) s = .next (s.settled (s.updVin (fun x => { x with due := s.now + ticksUs 100 })))) ∧
  (∀ (s : State) (v : Nat), s.hasRole .rover = true → s.meter.vin.due ≤ s.now → s.meter.vin.open_ = none →
    s.vinBelow v (100 - s.reg Obj.sagPercent) = true →
    exec (.vinSample v) s = .next (s.settled (s.updVin (fun x => { x with due := s.now + ticksUs 100, open_ := some {
      swell := false, time := s.time64, samples := 1, interruption := s.vinBelow v 10, extreme := v } })))) ∧
  (∀ (s : State) (v : Nat), s.hasRole .rover = true → s.meter.vin.due ≤ s.now → s.meter.vin.open_ = none →
    s.vinBelow v (100 - s.reg Obj.sagPercent) = false → s.vinAbove v (100 + s.reg Obj.swellPercent) = true →
    exec (.vinSample v) s = .next (s.settled (s.updVin (fun x => { x with due := s.now + ticksUs 100, open_ := some {
      swell := true, time := s.time64, samples := 1, interruption := false, extreme := v } })))) ∧
  (∀ (s : State) (v : Nat) (x : VinExcursion), s.hasRole .rover = true → s.meter.vin.due ≤ s.now → s.meter.vin.open_ = some x → x.swell = false →
    s.vinBelow v (102 - s.reg Obj.sagPercent) = true →
    exec (.vinSample v) s = .next (s.settled (s.updVin (fun y => { y with due := s.now + ticksUs 100, open_ := some { x with
      samples := x.samples + 1, interruption := x.interruption || s.vinBelow v 10, extreme := min x.extreme v } })))) ∧
  (∀ (s : State) (v : Nat) (x : VinExcursion), s.hasRole .rover = true → s.meter.vin.due ≤ s.now → s.meter.vin.open_ = some x → x.swell = false →
    s.vinBelow v (102 - s.reg Obj.sagPercent) = false → s.vinBelow v (100 - s.reg Obj.sagPercent) = false →
    s.vinAbove v (100 + s.reg Obj.swellPercent) = false → s.meter.vin.queue.length < 32 →
    ∃ t, exec (.vinSample v) s = .next (s.settled t) ∧ s.changesOnly [.meter, .milestone] t ∧ t.meter.vin.open_ = none ∧
      t.meter.vin.queue = s.meter.vin.queue ++ [vinRecord x ((s.meter.vin.seq + 1) % 2 ^ 32)] ∧ t.meter.vin.seq = (s.meter.vin.seq + 1) % 2 ^ 32 ∧
      t.meter.vin.sags = (s.meter.vin.sags + (if x.interruption then 0 else 1)) % 2 ^ 32 ∧
      t.meter.vin.interruptions = (s.meter.vin.interruptions + (if x.interruption then 1 else 0)) % 2 ^ 32) ∧
  (∀ (s : State) (v : Nat) (x : VinExcursion), s.hasRole .rover = true → s.meter.vin.due ≤ s.now → s.meter.vin.open_ = some x → x.swell = true →
    s.vinAbove v (98 + s.reg Obj.swellPercent) = true →
    exec (.vinSample v) s = .next (s.settled (s.updVin (fun y => { y with due := s.now + ticksUs 100, open_ := some { x with
      samples := x.samples + 1, extreme := max x.extreme v } })))) ∧
  (∀ (s : State) (v : Nat) (x : VinExcursion), s.hasRole .rover = true → s.meter.vin.due ≤ s.now → s.meter.vin.open_ = some x → x.swell = true →
    s.vinAbove v (98 + s.reg Obj.swellPercent) = false → s.vinBelow v (100 - s.reg Obj.sagPercent) = false →
    s.vinAbove v (100 + s.reg Obj.swellPercent) = false → 32 ≤ s.meter.vin.queue.length →
    ∃ t, exec (.vinSample v) s = .next (s.settled t) ∧ s.changesOnly [.meter, .dict, .milestone] t ∧ t.meter.vin.open_ = none ∧
      t.meter.vin.queue = s.meter.vin.queue ∧ t.meter.eventLost = true ∧ t.meter.vin.swells = (s.meter.vin.swells + 1) % 2 ^ 32) ∧
  (∀ (s : State) (q : Sess) (r : List Byte) (l : List (List Byte)), s.takesRead q Obj.vinEventNext → s.meter.vin.queue = r :: l →
    ∃ u, exec (.vinEventNext q) s = .next (s.settled (s.acked u q r)) ∧ s.changesOnly [.meter, .sessions] u ∧
      u.meter.vin = { s.meter.vin with queue := l }) ∧
  (∀ (s : State) (q : Sess), s.takesRead q Obj.vinEventNext → s.meter.vin.queue = [] →
    exec (.vinEventNext q) s = .next (s.settled (s.nacked (s.asked q Obj.vinEventNext) q abortUnavailable)))

/-! ## Motion (spec/15) -/

/-- Parts of R453, R454, R457 to R462, R467 to R476. AxisEnable 1 starts ENABLING, takes a disable back or is refused; AxisEnable 0 starts
DISABLING with what is left as a plain goal, of a group member with its group; the two delays end in IDLE or HELD, and DISABLED.
AxisMode is written while DISABLED, of a group member only as Position; MoveTarget and VelocityTarget set the goal now or at StartTime,
or are refused with the code of state, source, mode or limits; AxisStop keeps what is left, AxisResume takes it up or answers 0x06,
PositionPreset acts at rest. Acceleration waits for its judgement, MaxVelocity is checked against the pulse width. The active level of a
fault input that one axis names stops it with no further pulse, in FAULT, a group with it; the other level clears FAULT_ACTIVE. An edge
of a STEP_IN adds its steps to the backlog of the axes that follow it; 4 τ without one start a new interval. A profile tick, once in 50
µs, leaves an axis at rest where it is, ends a stop in HELD, and moves one at its velocity. In the other cases named these change
nothing. Of the model are the points of log 32, 33, 127. -/
def Obligations.Axes : Prop :=
  (∀ (s : State) (q : Sess), s.takesWrite q Obj.axisEnable 1 → s.tramHeld = false → (s.axis (s.axisOf q)).state = .disabled ∨ (s.axis (s.axisOf q)).state = .fault →
    s.regAt Obj.axisMode (s.axisOf q) ≠ 0 → (s.axis (s.axisOf q)).faultActive = false →
    ∃ u, exec (.axisEnable q) s = .next (s.settled (s.acked u q [])) ∧ s.changesOnly [.tram, .dict, .zheoc, .sessions] u ∧
      u.tram = (s.setAxis (s.axisOf q) { s.axis (s.axisOf q) with
        state := .enabling, vel := 0, onDue := s.after (ticksMs (s.regNAt Obj.aenOnDelay (s.axisOf q))), offDue := none }).tram ∧
      u.regAt Obj.axisEnable (s.axisOf q) = 1 ∧ u.regAt Obj.axisCommandResult (s.axisOf q) = 0) ∧
  (∀ (s : State) (q : Sess), s.takesWrite q Obj.axisEnable 1 → s.tramHeld = true ∨ ((s.axis (s.axisOf q)).state = .disabled ∧
      (s.regAt Obj.axisMode (s.axisOf q) = 0 ∨ (s.axis (s.axisOf q)).faultActive = true)) →
    ∃ u, exec (.axisEnable q) s = .next (s.settled (s.acked u q [])) ∧ s.changesOnly [.dict, .zheoc, .sessions] u ∧
      u.regAt Obj.axisCommandResult (s.axisOf q) = 1) ∧
  (∀ (s : State) (q : Sess), s.takesWrite q Obj.axisEnable 1 → s.tramHeld = false → (s.axis (s.axisOf q)).state = .disabling →
    ∃ u, exec (.axisEnable q) s = .next (s.settled (s.acked u q [])) ∧ s.changesOnly [.tram, .dict, .zheoc, .sessions] u ∧
      u.tram = (s.setAxis (s.axisOf q) { s.axis (s.axisOf q) with
        state := if (s.axis (s.axisOf q)).prior = .stopping ∧ (s.axis (s.axisOf q)).vel = 0 then .held else (s.axis (s.axisOf q)).prior
        offDue := none }).tram ∧
      u.regAt Obj.axisEnable (s.axisOf q) = 1 ∧ u.regAt Obj.axisCommandResult (s.axisOf q) = 0) ∧
  (∀ (s : State) (q : Sess), s.takesWrite q Obj.axisEnable 1 → s.tramHeld = false →
    (s.axis (s.axisOf q)).state ∉ [AxisState.disabled, .fault, .disabling] →
    ∃ u, exec (.axisEnable q) s = .next (s.settled (s.acked u q [])) ∧ s.changesOnly [.dict, .zheoc, .sessions] u ∧
      u.regAt Obj.axisEnable (s.axisOf q) = 1 ∧ u.regAt Obj.axisCommandResult (s.axisOf q) = 0) ∧
  (∀ (s : State) (q : Sess), s.takesWrite q Obj.axisEnable 0 → (s.axis (s.axisOf q)).state ∈ [AxisState.disabled, .fault, .disabling] →
    ∃ u, exec (.axisDisable q) s = .next (s.settled (s.acked u q [])) ∧ s.changesOnly [.dict, .zheoc, .sessions] u ∧
      u.regAt Obj.axisEnable (s.axisOf q) = 0 ∧ u.regAt Obj.axisCommandResult (s.axisOf q) = 0) ∧
  (∀ (s : State) (q : Sess) (g : Nat) (m : GroupMove), s.takesWrite q Obj.axisEnable 0 → (s.axis (s.axisOf q)).state = .moving →
    (s.axis (s.axisOf q)).goal = some (.group g) → s.groupMove g = some m → m.running = true → m.waits = false →
    ∃ u, exec (.axisDisable q) s = .next (s.settled (s.acked u q [])) ∧ s.changesOnly [.tram, .dict, .zheoc, .sessions] u ∧
      (u.axis (s.axisOf q)).state = .disabling ∧ (u.axis (s.axisOf q)).prior = .stopping ∧ u.groupMove g = some { m with stopping := some m.acc } ∧
      (∀ x ∈ m.members, x.1 ≠ s.axisOf q → (s.axis x.1).state = .moving → (u.axis x.1).state = .stopping) ∧
      u.regAt Obj.axisEnable (s.axisOf q) = 0) ∧
  (∀ (s : State) (q : Sess), s.takesWrite q Obj.axisEnable 0 → (s.axis (s.axisOf q)).state ∉ [AxisState.disabled, .fault, .disabling] →
    (∀ g, (s.axis (s.axisOf q)).goal ≠ some (.group g)) →
    ∃ u, exec (.axisDisable q) s = .next (s.settled (s.acked u q [])) ∧ s.changesOnly [.tram, .dict, .zheoc, .sessions] u ∧
      (u.axis (s.axisOf q)).state = .disabling ∧ (u.axis (s.axisOf q)).prior = (s.axis (s.axisOf q)).state ∧
      (u.axis (s.axisOf q)).goal = s.plainGoal (s.axis (s.axisOf q)).goal ∧ (u.axis (s.axisOf q)).vel = (s.axis (s.axisOf q)).vel ∧
      (u.axis (s.axisOf q)).offDue = (if (s.axis (s.axisOf q)).vel = 0 then s.after (ticksMs (s.regNAt Obj.aenOffDelay (s.axisOf q))) else none) ∧
      (u.axis (s.axisOf q)).next = none ∧
      (∀ k, k ≠ s.axisOf q → u.axis k = s.axis k) ∧ u.regAt Obj.axisEnable (s.axisOf q) = 0) ∧
  (∀ (s : State) (n : Nat), s.tramOn = true → n < 16 → (s.axis n).state = .enabling → s.due (s.axis n).onDue = true →
    exec (.aenOnDelayElapsed n) s = .next (s.settled (s.setAxis n { s.axis n with
      state := if s.resumable n then .held else .idle, onDue := none }))) ∧
  (∀ (s : State) (n : Nat), s.tramOn = true → n < 16 → (s.axis n).state = .disabling → (s.axis n).vel = 0 → s.due (s.axis n).offDue = true →
    exec (.aenOffDelayElapsed n) s = .next (s.settled (s.setAxis n { s.axis n with state := .disabled, offDue := none }))) ∧
  (∀ (s : State) (n : Nat), s.tramOn = false ∨ (s.axis n).state ≠ .enabling ∨ s.due (s.axis n).onDue = false →
    exec (.aenOnDelayElapsed n) s = .next (s.settled s)) ∧
  (∀ (s : State) (n : Nat), s.tramOn = false ∨ (s.axis n).state ≠ .disabling ∨ (s.axis n).vel ≠ 0 ∨ s.due (s.axis n).offDue = false →
    exec (.aenOffDelayElapsed n) s = .next (s.settled s)) ∧
  (∀ (s : State) (q : Sess) (v : Int), s.takesWrite q Obj.axisMode v → (s.axis (s.axisOf q)).state = .disabled → s.groupOfAxis (s.axisOf q) ≠ none → v ≠ 1 →
    exec (.axisModeWrite q v) s = .next (s.settled (s.nacked (s.begun q Obj.axisMode (encodeValue Obj.axisMode v)) q abortRange))) ∧
  (∀ (s : State) (q : Sess) (v : Int), s.takesWrite q Obj.axisMode v → (s.axis (s.axisOf q)).state = .disabled →
    s.groupOfAxis (s.axisOf q) = none ∨ v = 1 → s.shadowHolds (.storedNum (regKey Obj.axisMode (s.axisOf q)) v) = true →
    ∃ u, exec (.axisModeWrite q v) s = .next (s.settled (s.acked u q [])) ∧ s.changesOnly [.dict, .store, .milestone, .draws, .zheoc, .sessions] u ∧
      u.regAt Obj.axisMode (s.axisOf q) = v) ∧
  (∀ (s : State) (q : Sess) (v : Int), s.takesWrite q Obj.axisMode v → (s.axis (s.axisOf q)).state ≠ .disabled →
    exec (.axisModeWrite q v) s = .next (s.settled (s.nacked (s.begun q Obj.axisMode (encodeValue Obj.axisMode v)) q abortAccess))) ∧
  (∀ (s : State) (q : Sess) (v : Int), s.takesWrite q Obj.moveTarget v → s.motionCode (s.axisOf q) 1 = 0 → s.withinLimits (s.axisOf q) v = true →
    ∃ u, exec (.moveTarget q v) s = .next (s.settled (s.acked u q [])) ∧ s.changesOnly [.tram, .dict, .zheoc, .sessions] u ∧
      u.tram = (s.setAxis (s.axisOf q) (if s.regAt Obj.startTime (s.axisOf q) = 0 then { s.axis (s.axisOf q) with
        goal := some (.move v), state := .moving, next := none, acc := s.regNAt Obj.acceleration (s.axisOf q), accWritten := false, deferred := false }
        else { s.axis (s.axisOf q) with next := some (.move v, s.regAt Obj.startTime (s.axisOf q)) })).tram ∧
      u.regAt Obj.startTime (s.axisOf q) = 0 ∧ u.regAt Obj.axisCommandResult (s.axisOf q) = 0) ∧
  (∀ (s : State) (q : Sess) (v : Int), s.takesWrite q Obj.moveTarget v → s.motionCode (s.axisOf q) 1 ≠ 0 ∨ s.withinLimits (s.axisOf q) v = false →
    ∃ u, exec (.moveTarget q v) s = .next (s.settled (s.acked u q [])) ∧ s.changesOnly [.dict, .zheoc, .sessions] u ∧
      u.regAt Obj.axisCommandResult (s.axisOf q) = if s.motionAllowed (s.axisOf q) = false then 1
        else if s.regAt Obj.commandSource (s.axisOf q) = 1 then 5 else if s.regAt Obj.axisMode (s.axisOf q) ≠ 1 then 2 else 3) ∧
  (∀ (s : State) (q : Sess) (v : Int), s.takesWrite q Obj.velocityTarget v → s.motionCode (s.axisOf q) 2 = 0 →
    ∃ u, exec (.velocityTarget q v) s = .next (s.settled (s.acked u q [])) ∧ s.changesOnly [.tram, .dict, .zheoc, .sessions] u ∧
      u.tram = (s.setAxis (s.axisOf q) { s.axis (s.axisOf q) with
        goal := some (.velocity v), state := .moving, next := none, acc := s.regNAt Obj.acceleration (s.axisOf q), accWritten := false
        deferred := false }).tram ∧
      u.regAt Obj.velocityTarget (s.axisOf q) = v ∧ u.regAt Obj.axisCommandResult (s.axisOf q) = 0) ∧
  (∀ (s : State) (q : Sess) (v : Int), s.takesWrite q Obj.velocityTarget v → s.motionCode (s.axisOf q) 2 ≠ 0 →
    ∃ u, exec (.velocityTarget q v) s = .next (s.settled (s.acked u q [])) ∧ s.changesOnly [.dict, .zheoc, .sessions] u ∧
      u.regAt Obj.axisCommandResult (s.axisOf q) = s.motionCode (s.axisOf q) 2) ∧
  (∀ (s : State) (q : Sess), s.takesWrite q Obj.axisStop 1 → s.groupOfAxis (s.axisOf q) = none → (s.axis (s.axisOf q)).state = .moving →
    ∃ u, exec (.axisStop q 1) s = .next (s.settled (s.acked u q [])) ∧ s.changesOnly [.tram, .dict, .zheoc, .sessions] u ∧
      u.axis (s.axisOf q) = { s.axis (s.axisOf q) with
        next := none, state := .stopping, decel := (s.axis (s.axisOf q)).acc, goal := s.plainGoal (s.axis (s.axisOf q)).goal } ∧
      (∀ k, k ≠ s.axisOf q → u.axis k = s.axis k) ∧ u.regAt Obj.axisCommandResult (s.axisOf q) = 0) ∧
  (∀ (s : State) (q : Sess), s.takesWrite q Obj.axisStop 1 →
    s.groupOfAxis (s.axisOf q) ≠ none ∨ (s.axis (s.axisOf q)).state = .disabled ∨ (s.axis (s.axisOf q)).state = .fault →
    ∃ u, exec (.axisStop q 1) s = .next (s.settled (s.acked u q [])) ∧ s.changesOnly [.dict, .zheoc, .sessions] u ∧
      u.regAt Obj.axisCommandResult (s.axisOf q) = 1) ∧
  (∀ (s : State) (q : Sess), s.takesWrite q Obj.axisStop 1 → s.groupOfAxis (s.axisOf q) = none →
    (s.axis (s.axisOf q)).state ∉ [AxisState.disabled, .fault, .moving] →
    ∃ u, exec (.axisStop q 1) s = .next (s.settled (s.acked u q [])) ∧ s.changesOnly [.tram, .dict, .zheoc, .sessions] u ∧
      u.tram = (s.setAxis (s.axisOf q) { s.axis (s.axisOf q) with next := none }).tram ∧ u.regAt Obj.axisCommandResult (s.axisOf q) = 0) ∧
  (∀ (s : State) (q : Sess), s.takesWrite q Obj.axisResume 1 →
    s.tramHeld = true ∨ s.groupOfAxis (s.axisOf q) ≠ none ∨ (s.axis (s.axisOf q)).state ∉ [AxisState.held, .idle] →
    ∃ u, exec (.axisResume q 1) s = .next (s.settled (s.acked u q [])) ∧ s.changesOnly [.dict, .zheoc, .sessions] u ∧
      u.regAt Obj.axisCommandResult (s.axisOf q) = 1) ∧
  (∀ (s : State) (q : Sess) (v : Int), s.takesWrite q Obj.positionPreset v → (s.axis (s.axisOf q)).atRest = false →
    ∃ u, exec (.positionPreset q v) s = .next (s.settled (s.acked u q [])) ∧ s.changesOnly [.dict, .zheoc, .sessions] u ∧
      u.regAt Obj.axisCommandResult (s.axisOf q) = 1) ∧
  (∀ (s : State) (q : Sess) (g : AxisGoal), s.takesWrite q Obj.axisResume 1 → s.tramHeld = false → s.groupOfAxis (s.axisOf q) = none →
    (s.axis (s.axisOf q)).state = .held → (s.axis (s.axisOf q)).goal = some g → s.resumable (s.axisOf q) = true →
    ∃ u, exec (.axisResume q 1) s = .next (s.settled (s.acked u q [])) ∧ s.changesOnly [.tram, .dict, .zheoc, .sessions] u ∧
      (u.axis (s.axisOf q)).state = .moving ∧ (u.axis (s.axisOf q)).goal = some g ∧ (u.axis (s.axisOf q)).count = (s.axis (s.axisOf q)).count ∧
      u.regAt Obj.axisCommandResult (s.axisOf q) = 0) ∧
  (∀ (s : State) (q : Sess), s.takesWrite q Obj.axisResume 1 → s.tramHeld = false → s.groupOfAxis (s.axisOf q) = none →
    (s.axis (s.axisOf q)).state = .held ∨ (s.axis (s.axisOf q)).state = .idle → s.resumable (s.axisOf q) = false →
    ∃ u, exec (.axisResume q 1) s = .next (s.settled (s.acked u q [])) ∧ s.changesOnly [.dict, .zheoc, .sessions] u ∧
      u.regAt Obj.axisCommandResult (s.axisOf q) = 6) ∧
  (∀ (s : State) (q : Sess) (v : Int), s.takesWrite q Obj.positionPreset v → (s.axis (s.axisOf q)).atRest = true →
    ∃ u, exec (.positionPreset q v) s = .next (s.settled (s.acked u q [])) ∧ s.changesOnly [.tram, .dict, .zheoc, .sessions] u ∧
      u.tram = (s.setAxis (s.axisOf q) { s.axis (s.axisOf q) with pos := v * 1000000000, count := v, restored := false, uncertain := false }).tram ∧
      u.regAt Obj.axisCommandResult (s.axisOf q) = 0) ∧
  (∀ (s : State) (q : Sess) (v : Int), s.takesWrite q Obj.acceleration v →
    s.shadowHolds (.storedNum (regKey Obj.acceleration (s.axisOf q)) v) = true →
    ∃ u, exec (.accelerationWrite q v) s = .next (s.settled (s.acked u q [])) ∧
      s.changesOnly [.tram, .dict, .store, .milestone, .draws, .zheoc, .sessions] u ∧ u.regAt Obj.acceleration (s.axisOf q) = v ∧
      u.tram = (s.setAxis (s.axisOf q) { s.axis (s.axisOf q) with accWritten := true }).tram) ∧
  (∀ (s : State) (q : Sess) (v : Int), s.takesWrite q Obj.maxVelocity v → v * 2 * s.regAt Obj.stepWidth (s.axisOf q) ≤ 100000000 →
    s.shadowHolds (.storedNum (regKey Obj.maxVelocity (s.axisOf q)) v) = true →
    ∃ u, exec (.maxVelocityWrite q v) s = .next (s.settled (s.acked u q [])) ∧ s.changesOnly [.dict, .store, .milestone, .draws, .zheoc, .sessions] u ∧
      u.regAt Obj.maxVelocity (s.axisOf q) = v) ∧
  (∀ (s : State) (q : Sess) (v : Int), s.takesWrite q Obj.maxVelocity v → 100000000 < v * 2 * s.regAt Obj.stepWidth (s.axisOf q) →
    exec (.maxVelocityWrite q v) s = .next (s.settled (s.nacked (s.begun q Obj.maxVelocity (encodeValue Obj.maxVelocity v)) q abortRange))) ∧
  (∀ (s : State) (n k : Nat) (h : Bool), s.tramOn = true → k < 64 → s.faultAxes k = [n] → s.faultLevel n h = true → (s.axis n).state ≠ .disabled →
    (∀ g, (s.axis n).goal ≠ some (.group g)) →
    ∃ t, exec (.axisFault k h) s = .next (s.settled t) ∧ s.changesOnly [.tram] t ∧ (t.axis n).state = .fault ∧ (t.axis n).faultActive = true ∧
      (t.axis n).vel = 0 ∧ (t.axis n).goal = s.plainGoal (s.axis n).goal ∧ (t.axis n).count = (s.axis n).emitted s.now ∧ (t.axis n).next = none ∧
      (∀ i, i ≠ n → t.axis i = s.axis i) ∧ t.tram.groups = s.tram.groups) ∧
  (∀ (s : State) (n k : Nat) (h : Bool), s.tramOn = true → k < 64 → s.faultAxes k = [n] → s.faultLevel n h = true → (s.axis n).state = .disabled →
    ∃ t, exec (.axisFault k h) s = .next (s.settled t) ∧ s.changesOnly [.tram] t ∧ (t.axis n).state = .disabled ∧ (t.axis n).faultActive = true ∧
      (∀ i, i ≠ n → t.axis i = s.axis i)) ∧
  (∀ (s : State) (n k g : Nat) (h : Bool) (m : GroupMove), s.tramOn = true → k < 64 → s.faultAxes k = [n] → s.faultLevel n h = true →
    (s.axis n).state ≠ .disabled → (s.axis n).goal = some (.group g) → s.groupMove g = some m →
    ∃ t, exec (.axisFault k h) s = .next (s.settled t) ∧ s.changesOnly [.tram] t ∧ (t.axis n).state = .fault ∧
      t.groupMove g = some { m with v := 0, running := false } ∧
      (∀ x ∈ m.members, x.1 ≠ n → (t.axis x.1).vel = 0 ∧ ((s.axis x.1).runs = true → (t.axis x.1).state = .held))) ∧
  (∀ (s : State) (k : Nat) (h : Bool), s.tramOn = false ∨ (∀ n < 16, s.regAt Obj.faultInput n ≠ k) ∨ (∀ n < 16, s.faultLevel n h = false) →
    exec (.axisFault k h) s = .next (s.settled s)) ∧
  (∀ (s : State) (n k : Nat) (h : Bool), s.tramOn = true → k < 64 → s.faultAxes k = [n] → s.faultLevel n h = false →
    exec (.faultInputDeassert k h) s = .next (s.settled (s.setAxis n { s.axis n with faultActive := false }))) ∧
  (∀ (s : State) (k : Nat) (h : Bool), s.tramOn = false ∨ (∀ n < 16, s.regAt Obj.faultInput n ≠ k) ∨ (∀ n < 16, s.faultLevel n h = true) →
    exec (.faultInputDeassert k h) s = .next (s.settled s)) ∧
  (∀ (s : State) (i c : Nat), s.tramOn = true → s.tramHeld = false → c + 400 ≤ s.now →
    ∃ t, exec (.stepInEdge i c) s = .next (s.settled t) ∧ s.changesOnly [.tram] t ∧
      (∀ n < 16, s.regAt Obj.axisMode n ≠ 4 ∨ s.regNAt Obj.followInput n ≠ i ∨ s.followBlocked n = true ∨
        (s.axis n).state ∉ [AxisState.idle, .moving, .held] → t.axis n = s.axis n) ∧
      (∀ n < 16, s.regAt Obj.axisMode n = 4 → s.regNAt Obj.followInput n = i → s.followBlocked n = false →
        (s.axis n).state ∈ [AxisState.idle, .moving, .held] →
        t.axis n = { s.axis n with
          backlog := if s.regAt Obj.followDirection n = 1 then (s.axis n).backlog - s.regAt Obj.followMultiplier n
            else (s.axis n).backlog + s.regAt Obj.followMultiplier n
          tau := (match (s.axis n).lastEdge with | some e => c - e | none => (s.axis n).tau), lastEdge := some c, goal := some .follow
          state := if (s.axis n).state = .idle then .moving else (s.axis n).state })) ∧
  (∀ (s : State) (i c : Nat), s.tramOn = false ∨ s.tramHeld = true ∨ s.now < c + 400 → exec (.stepInEdge i c) s = .next (s.settled s)) ∧
  (∀ (s : State) (n : Nat), (s.axis n).tau = 0 ∨ (∀ e, (s.axis n).lastEdge = some e → s.now < e + 4 * (s.axis n).tau) →
    exec (.followTimeout n) s = .next (s.settled s)) ∧
  (∀ (s : State) (n e : Nat), s.tramOn = true → n < 16 → (s.axis n).lastEdge = some e → (s.axis n).tau ≠ 0 → e + 4 * (s.axis n).tau ≤ s.now →
    exec (.followTimeout n) s = .next (s.settled (s.setAxis n { s.axis n with lastEdge := none }))) ∧
  (∀ s : State, s.tramOn = true → s.tram.groups = [] → s.tram.tickAt ≠ some (s.time64 / 50000 * 50000) → ∃ t, exec .profileTick s = .next (s.settled t) ∧ s.changesOnly [.tram] t ∧
    (∀ n < 16, s.regAt Obj.commandSource n = 0 → (s.axis n).next = none → (s.axis n).accWritten = false → (s.axis n).atRest = true →
      (∀ g, (s.axis n).goal ≠ some (.group g)) →
      (t.axis n).count = (s.axis n).count ∧ (t.axis n).state = (s.axis n).state ∧ (t.axis n).goal = (s.axis n).goal) ∧
    (∀ n < 16, s.regAt Obj.commandSource n = 0 → (s.axis n).next = none → (s.axis n).accWritten = false →
      (s.axis n).state = .stopping → (s.axis n).vel.natAbs < 50000 → 1 ≤ (s.axis n).decel → (s.axis n).goal = none →
      (t.axis n).state = .held ∧ (t.axis n).vel = 0) ∧
    (∀ n < 16, ∀ v : Int, s.regAt Obj.commandSource n = 0 → (s.axis n).next = none → (s.axis n).accWritten = false → (s.axis n).state = .moving →
      (s.axis n).goal = some (.velocity v) → 0 < v → v ≤ (s.axisRate n : Int) * 1000 → (s.axis n).vel = v * 1000000 → 1 ≤ (s.axis n).acc →
      (s.axis n).pos + v * 50 + stopDist (v * 1000000) (s.axis n).acc < s.regAt Obj.limitMax n * 1000000000 →
      (t.axis n).pos = (s.axis n).pos + v * 50 ∧ (t.axis n).vel = v * 1000000 ∧ (t.axis n).count = ((s.axis n).pos + v * 50) / 1000000000)) ∧
  (∀ s : State, s.tramOn = false ∨ s.tram.tickAt = some (s.time64 / 50000 * 50000) → exec .profileTick s = .next (s.settled s))

/-- Parts of R462 to R467. SegmentStart checks the chain whole and starts it from IDLE, now or at StartTime, or answers the code of what
fails; an entry is written while no chain holds it and its time is a multiple of 50 µs. GroupMembers takes at most 8 DISABLED axes in
Position mode of no other group. GroupTarget of two axes at rest sets the path, along the member with the longer way, and starts both
now, or when the later of their start times comes; it is refused in another state or beyond a limit. GroupStop stops every member along
the path, or calls off a move that waits; GroupAxisResume goes on where it stopped. Of the model are the points of log 32, 33. -/
def Obligations.AxisGroups : Prop :=
  (∀ (s : State) (q : Sess) (v : Int), s.takesWrite q Obj.segmentStart v → (s.axis (s.axisOf q)).state = .idle → s.motionCode (s.axisOf q) 3 = 0 →
    s.chainOk (s.axisOf q) v.toNat = true → s.regAt Obj.startTime (s.axisOf q) ≠ 0 →
    ∃ u, exec (.segmentStart q v) s = .next (s.settled (s.acked u q [])) ∧ s.changesOnly [.tram, .dict, .zheoc, .sessions] u ∧
      u.axis (s.axisOf q) = { s.axis (s.axisOf q) with
        next := some (.chain (s.axis (s.axisOf q)).count v.toNat 0 0 0, s.regAt Obj.startTime (s.axisOf q)) } ∧
      (∀ k, k ≠ s.axisOf q → u.axis k = s.axis k) ∧ u.regAt Obj.axisCommandResult (s.axisOf q) = 0) ∧
  (∀ (s : State) (q : Sess) (v : Int), s.takesWrite q Obj.segmentStart v → (s.axis (s.axisOf q)).state = .idle → s.motionCode (s.axisOf q) 3 = 0 →
    s.chainOk (s.axisOf q) v.toNat = true → s.regAt Obj.startTime (s.axisOf q) = 0 →
    ∃ u, exec (.segmentStart q v) s = .next (s.settled (s.acked u q [])) ∧ s.changesOnly [.tram, .dict, .zheoc, .sessions] u ∧
      (u.axis (s.axisOf q)).state = .moving ∧ (u.axis (s.axisOf q)).goal = some (.chain (s.axis (s.axisOf q)).count v.toNat 0 0 0) ∧
      (∀ k, k ≠ s.axisOf q → u.axis k = s.axis k) ∧ u.regAt Obj.axisCommandResult (s.axisOf q) = 0) ∧
  (∀ (s : State) (q : Sess) (v : Int), s.takesWrite q Obj.segmentStart v →
    (s.axis (s.axisOf q)).state ≠ .idle ∨ s.motionCode (s.axisOf q) 3 ≠ 0 ∨ s.chainOk (s.axisOf q) v.toNat = false →
    ∃ u, exec (.segmentStart q v) s = .next (s.settled (s.acked u q [])) ∧ s.changesOnly [.dict, .zheoc, .sessions] u ∧
      u.regAt Obj.axisCommandResult (s.axisOf q) = if (s.axis (s.axisOf q)).state ≠ .idle then 1
        else if s.motionCode (s.axisOf q) 3 ≠ 0 then s.motionCode (s.axisOf q) 3 else 4) ∧
  (∀ (s : State) (q : Sess) (d : List Byte), s.takesBytes q Obj.segmentEntry d →
    (∀ n < 16, (s.heldBy n).contains (s.instanceOf q Obj.segmentEntry) = false) → 50 ≤ fieldU d 0 4 → fieldU d 0 4 % 50 = 0 → fieldU d 14 2 ≤ 1 →
    ∃ u, exec (.segmentEntryWrite q d) s = .next (s.settled (s.acked u q [])) ∧ s.changesOnly [.octets, .zheoc, .sessions] u ∧
      u.octAt Obj.segmentEntry (s.instanceOf q Obj.segmentEntry) = d) ∧
  (∀ (s : State) (q : Sess) (d : List Byte), s.takesBytes q Obj.segmentEntry d →
    (∀ n < 16, (s.heldBy n).contains (s.instanceOf q Obj.segmentEntry) = false) → fieldU d 0 4 < 50 ∨ fieldU d 0 4 % 50 ≠ 0 ∨ 1 < fieldU d 14 2 →
    exec (.segmentEntryWrite q d) s = .next (s.settled (s.nacked (s.begun q Obj.segmentEntry d) q abortRange))) ∧
  (∀ (s : State) (q : Sess) (d : List Byte) (n : Nat), s.takesBytes q Obj.segmentEntry d → n < 16 →
    (s.heldBy n).contains (s.instanceOf q Obj.segmentEntry) = true →
    exec (.segmentEntryWrite q d) s = .next (s.settled (s.nacked (s.begun q Obj.segmentEntry d) q abortAccess))) ∧
  (∀ (s : State) (q : Sess) (v : Int), s.takesWrite q Obj.groupMembers v → (maskAxes v.toNat).length ≤ 8 →
    (∀ n ∈ maskAxes v.toNat, s.regAt Obj.axisMode n = 1 ∧ s.regAt Obj.commandSource n = 0 ∧
      ∀ h, s.groupOfAxis n = some h → h = s.instanceOf q Obj.groupMembers % 8) →
    (∀ n ∈ maskAxes v.toNat ++ maskAxes (s.regNAt Obj.groupMembers (s.instanceOf q Obj.groupMembers % 8)), (s.axis n).state = .disabled) →
    s.shadowHolds (.storedNum (regKey Obj.groupMembers (s.instanceOf q Obj.groupMembers % 8)) v) = true →
    ∃ u, exec (.groupMembersWrite q v) s = .next (s.settled (s.acked u q [])) ∧
      s.changesOnly [.tram, .dict, .store, .milestone, .draws, .zheoc, .sessions] u ∧
      u.regAt Obj.groupMembers (s.instanceOf q Obj.groupMembers % 8) = v ∧ u.groupMove (s.instanceOf q Obj.groupMembers % 8) = none ∧
      u.tram.axes = s.tram.axes) ∧
  (∀ (s : State) (q : Sess) (v : Int) (n : Nat), s.takesWrite q Obj.groupMembers v → n ∈ maskAxes v.toNat →
    s.regAt Obj.axisMode n ≠ 1 ∨ s.regAt Obj.commandSource n ≠ 0 ∨ (s.axis n).state ≠ .disabled ∨
      (∃ g, s.groupOfAxis n = some g ∧ g ≠ s.instanceOf q Obj.groupMembers % 8) →
    exec (.groupMembersWrite q v) s = .next (s.settled (s.nacked (s.begun q Obj.groupMembers (encodeValue Obj.groupMembers v)) q abortRange))) ∧
  (∀ (s : State) (q : Sess) (d : List Byte) (a b : Nat), s.takesBytes q Obj.groupTarget d → maskAxes (s.regNAt Obj.groupMembers (s.tramGroupOf q)) = [a, b] →
    d.length = 16 → s.tramHeld = false → (s.axis a).state ∈ [AxisState.idle, .held] → (s.axis b).state ∈ [AxisState.idle, .held] →
    s.withinLimits a (fieldI d 0 8) = true → s.withinLimits b (fieldI d 8 8) = true → 0 ≤ s.regAt Obj.startTime a → 0 ≤ s.regAt Obj.startTime b → (fieldI d 8 8 - (s.axis b).count).natAbs < (fieldI d 0 8 - (s.axis a).count).natAbs →
    ∃ u m, exec (.groupTarget q d) s = .next (s.settled (s.acked u q [])) ∧ s.changesOnly [.tram, .dict, .zheoc, .sessions] u ∧
      u.groupMove (s.tramGroupOf q) = some m ∧ m.members = [(a, (s.axis a).count, fieldI d 0 8 - (s.axis a).count),
        (b, (s.axis b).count, fieldI d 8 8 - (s.axis b).count)] ∧ m.length = (fieldI d 0 8 - (s.axis a).count).natAbs ∧ m.s = 0 ∧ m.v = 0 ∧
      m.start = max (s.regAt Obj.startTime a) (s.regAt Obj.startTime b) ∧ m.running = decide (m.start = 0) ∧
      (∀ n ∈ [a, b], if m.start = 0 then (u.axis n).state = .moving ∧ (u.axis n).goal = some (.group (s.tramGroupOf q))
        else (u.axis n).state = (s.axis n).state) ∧
      (∀ n, n ≠ a → n ≠ b → u.axis n = s.axis n) ∧ u.regAt Obj.groupResult (s.tramGroupOf q) = 0) ∧
  (∀ (s : State) (q : Sess) (d : List Byte) (l : List Nat), s.takesBytes q Obj.groupTarget d → maskAxes (s.regNAt Obj.groupMembers (s.tramGroupOf q)) = l →
    d.length = 8 * l.length → l ≠ [] → s.tramHeld = true ∨ (∃ n ∈ l, (s.axis n).state ∉ [AxisState.idle, .held]) →
    ∃ u, exec (.groupTarget q d) s = .next (s.settled (s.acked u q [])) ∧ s.changesOnly [.dict, .zheoc, .sessions] u ∧
      u.regAt Obj.groupResult (s.tramGroupOf q) = 1) ∧
  (∀ (s : State) (q : Sess) (d : List Byte) (n : Nat), s.takesBytes q Obj.groupTarget d → maskAxes (s.regNAt Obj.groupMembers (s.tramGroupOf q)) = [n] →
    d.length = 8 → s.tramHeld = false → (s.axis n).state ∈ [AxisState.idle, .held] → s.withinLimits n (fieldI d 0 8) = false →
    ∃ u, exec (.groupTarget q d) s = .next (s.settled (s.acked u q [])) ∧ s.changesOnly [.dict, .zheoc, .sessions] u ∧
      u.regAt Obj.groupResult (s.tramGroupOf q) = 3) ∧
  (∀ (s : State) (q : Sess) (m : GroupMove), s.takesWrite q Obj.groupStop 1 → s.groupMove (s.tramGroupOf q) = some m → m.waits = true →
    ∃ u, exec (.groupStop q 1) s = .next (s.settled (s.acked u q [])) ∧ s.changesOnly [.tram, .dict, .zheoc, .sessions] u ∧
      u.groupMove (s.tramGroupOf q) = none ∧ u.tram.axes = s.tram.axes ∧ u.regAt Obj.groupResult (s.tramGroupOf q) = 0) ∧
  (∀ (s : State) (q : Sess) (m : GroupMove), s.takesWrite q Obj.groupStop 1 → s.groupMove (s.tramGroupOf q) = some m → m.waits = false → m.running = true →
    ∃ u, exec (.groupStop q 1) s = .next (s.settled (s.acked u q [])) ∧ s.changesOnly [.tram, .dict, .zheoc, .sessions] u ∧
      u.groupMove (s.tramGroupOf q) = some { m with stopping := some m.acc } ∧
      (∀ n, (∀ x ∈ m.members, x.1 ≠ n) → u.axis n = s.axis n) ∧
      (∀ x ∈ m.members, (s.axis x.1).state = .moving → (u.axis x.1).state = .stopping) ∧ u.regAt Obj.groupResult (s.tramGroupOf q) = 0) ∧
  (∀ (s : State) (q : Sess) (m : GroupMove), s.takesWrite q Obj.groupAxisResume 1 → s.groupMove (s.tramGroupOf q) = some m → s.tramHeld = true ∨ m.waits = true →
    ∃ u, exec (.groupAxisResume q 1) s = .next (s.settled (s.acked u q [])) ∧ s.changesOnly [.dict, .zheoc, .sessions] u ∧
      u.regAt Obj.groupResult (s.tramGroupOf q) = 1) ∧
  (∀ (s : State) (q : Sess) (m : GroupMove), s.takesWrite q Obj.groupAxisResume 1 → s.groupMove (s.tramGroupOf q) = some m → s.tramHeld = false →
    m.waits = false → (∀ x ∈ m.members, (s.axis x.1).state = .held) →
    ∃ u p, exec (.groupAxisResume q 1) s = .next (s.settled (s.acked u q [])) ∧ s.changesOnly [.tram, .dict, .zheoc, .sessions] u ∧
      u.groupMove (s.tramGroupOf q) = some p ∧ p.stopping = none ∧ p.running = true ∧ p.s = m.s ∧ p.members = m.members ∧
      (∀ x ∈ m.members, (u.axis x.1).state = .moving) ∧ u.regAt Obj.groupResult (s.tramGroupOf q) = 0) ∧
  (∀ (s : State) (q : Sess), s.takesWrite q Obj.groupAxisResume 1 → s.groupMove (s.tramGroupOf q) = none →
    ∃ u, exec (.groupAxisResume q 1) s = .next (s.settled (s.acked u q [])) ∧ s.changesOnly [.dict, .zheoc, .sessions] u ∧
      u.regAt Obj.groupResult (s.tramGroupOf q) = 6)

/-! ## Host port and Alley queues (spec/16) -/

/-- Parts of R20, R485, R487 to R490, R494 to R502. A READ returns COUNT registers with their CRC; a WRITE of one word acts once the host's
CRC has passed: it clears flags of IRQ_STATUS but those set in the same cycle, sets IRQ_ENABLE, a half of QUEUE_IRQ_MASK or MBOX_ARG, or
starts or cancels the mailbox's request, ignored while one is busy. A bad header or a wrong queue changes nothing but XFER_ERR and its
count. A POP takes one END-MARK packet with its status, stalls on a dry queue, and where HCS_N cuts it sends no status. A PUSH or
PUSH_END appends its words where they fit, waits where they do not, and with a bad CRC appends nothing; a LENGTH-SLOT packet gets its
length, and one longer than its queue is aborted. HCS_N high ends a stalled transaction. An open LENGTH-SLOT packet without free space
is aborted. While the port does not answer nothing happens. Of the model are the points of log 46, 47, 132, 133. -/
def Obligations.HostPort : Prop :=
  (∀ (s : State) (h : List Byte) (a n : Nat), s.hostReady = true → parseHeader h = { ok := true, cmd := 3, addr := a, count := n } →
    let d := (List.range n).map (fun i => BitVec.ofNat 32 (s.hostReg (a + (if (dataQueue a).isSome then 0 else 4) * i)))
    exec (.hostRead h) s = .next (s.settled (s.updHost (fun p => { p with out := d, outStatus := none, outCrc := some (crc16 (wordBytes d)) })))) ∧
  (∀ (s : State) (h : List Byte) (d : List Word32) (f : BitVec 16) (x : Option Nat), s.hostReady = false →
    exec (.hostRead h) s = .next (s.settled s) ∧ exec (.hostWrite h d f) s = .next (s.settled s) ∧ exec (.pop h x) s = .next (s.settled s) ∧
    (s.zheoc.deposed = false → s.noteInput.hostReady = false → exec (.push h d f) s = .next (s.settled s.noteInput) ∧
      exec (.pushEnd h d f) s = .next (s.settled s.noteInput))) ∧
  (∀ (s : State) (h : List Byte) (d : List Word32) (f : BitVec 16), s.zheoc.deposed = true →
    exec (.push h d f) s = .next (s.settled s) ∧ exec (.pushEnd h d f) s = .next (s.settled s)) ∧
  (∀ s : State, s.hostReg 0x0010 = s.host.irqStatus.toNat ∧ s.hostReg 0x0014 = s.host.irqEnable.toNat ∧ s.hostReg 0x001C = s.host.xferErrs ∧
    s.hostReg 0x0110 % 4 = (match s.mbox.state with | .idle => 0 | .busy => 1 | .done => 2) ∧ s.hostReg 0x0008 % 16 = modeCode s.mode.current % 16 ∧
    (∀ q < 64, s.hostReg (0x1004 + 0x40 * q) = min (s.queue q).words.length 0xFFFFF + min (s.queue q).packets 4095 * 2 ^ 20)) ∧
  (∀ (s : State) (h : List Byte), s.hostReady = true → (parseHeader h).ok = false →
    ∃ t, (∀ c ∈ [Instr.hostRead h, .hostWrite h [] 0], exec c s = .next (s.settled t)) ∧ s.changesOnly [.host] t ∧ t.host.out = [] ∧
      t.host.outCrc = none ∧ t.host.irqStatus = s.host.irqStatus ||| 128#9 ∧ t.host.xferErrs = (s.host.xferErrs + 1) % 2 ^ 32) ∧
  (∀ (s : State) (h : List Byte) (w : Word32) (a : Nat), s.hostReady = true → parseHeader h = { ok := true, cmd := 2, addr := a, count := 1 } →
    let f := crc16 (wordBytes [w])
    (a = 0x0010 → ∃ t, exec (.hostWrite h [w] f) s = .next (s.settled t) ∧ s.changesOnly [.host] t ∧
      t.host.irqStatus = s.host.irqStatus &&& ~~~(w.truncate 9 &&& ~~~s.freshIrq)) ∧
    (a = 0x0014 → ∃ t, exec (.hostWrite h [w] f) s = .next (s.settled t) ∧ s.changesOnly [.host] t ∧ t.host.irqEnable = w.truncate 9 ∧
      t.host.irqStatus = s.host.irqStatus) ∧
    (a = 0x0020 → ∃ t, exec (.hostWrite h [w] f) s = .next (s.settled t) ∧ s.changesOnly [.host] t ∧
      (∀ i < 32, t.host.queueMask.getLsbD i = w.getLsbD i) ∧ (∀ i, 32 ≤ i → t.host.queueMask.getLsbD i = s.host.queueMask.getLsbD i)) ∧
    (a = 0x0024 → ∃ t, exec (.hostWrite h [w] f) s = .next (s.settled t) ∧ s.changesOnly [.host] t ∧
      (∀ i < 32, t.host.queueMask.getLsbD (i + 32) = w.getLsbD i) ∧ (∀ i < 32, t.host.queueMask.getLsbD i = s.host.queueMask.getLsbD i)) ∧
    (a = 0x0104 → ∃ t, exec (.hostWrite h [w] f) s = .next (s.settled t) ∧ s.changesOnly [.host, .mbox] t ∧ t.mbox = { s.mbox with arg := w }) ∧
    (a = 0x0100 → w.toNat % 256 ≠ 5 → s.mbox.state ≠ .busy → ∃ t, exec (.hostWrite h [w] f) s = .next (s.settled t) ∧
      s.changesOnly [.host, .mbox, .sessions] t ∧ t.mbox.state = .busy ∧ t.mbox.cmd = w ∧
      (t.session .host).waiting.map (fun r => (r.op, r.tag, r.addr)) =
        [(w.toNat % 256, s.mbox.tag, w.toNat / 2 ^ 16 * 256 + w.toNat / 256 % 256)]) ∧
    (a = 0x0100 → w.toNat % 256 ≠ 5 → s.mbox.state = .busy → ∃ t, exec (.hostWrite h [w] f) s = .next (s.settled t) ∧
      s.changesOnly [.host, .mbox] t ∧ t.mbox = { s.mbox with ignored := true }) ∧
    (a = 0x0100 → w.toNat % 256 = 5 → s.mbox.state = .busy → ∃ t, exec (.hostWrite h [w] f) s = .next (s.settled t) ∧
      s.changesOnly [.host, .mbox, .sessions, .remotes, .draws] t ∧ t.mbox.state = .done ∧ t.mbox.cancelled = true ∧ t.mbox.respTag = s.mbox.tag ∧
      (t.session .host).waiting = [] ∧ (t.session .host).serving = none ∧ t.host.irqStatus = s.host.irqStatus ||| 1#9) ∧
    (∀ g, g ≠ f → ∃ t, exec (.hostWrite h [w] g) s = .next (s.settled t) ∧ s.changesOnly [.host] t ∧
      t.host.irqStatus = s.host.irqStatus ||| 128#9 ∧ t.host.irqEnable = s.host.irqEnable ∧ t.host.queueMask = s.host.queueMask)) ∧
  (∀ (s : State) (h : List Byte) (q n : Nat) (w : QueueWord) (l : List QueueWord), s.hostReady = true →
    parseHeader h = { ok := true, cmd := 0x0B, addr := 0x1000 + 0x40 * q, count := n + 1 } → q < 64 → (s.queue q).open_ = true →
    (s.queue q).toDevice = false → (s.queue q).lengthSlot = false → (s.queue q).words = w :: l → w.e = true → w.p = false →
    w.parity = parityOf w.data → (s.queue q).lastAborted = false →
    s.gnss.navCopy.backlog = [] → s.obs.copy.backlog = [] → s.baseRef.copy.backlog = [] → s.clk.evtCopy.backlog = [] → s.meter.copy.backlog = [] →
    ∃ t, exec (.pop h none) s = .next (s.settled t) ∧ s.changesOnly [.host, .queues] t ∧ (t.queue q).words = l ∧
      (∀ k, k ≠ q → t.queue k = s.queue k) ∧ t.host.out = w.data :: List.replicate n 0 ∧ t.host.stall = none ∧
      t.host.outStatus.map (fun x => (x.toNat % 512, x.getLsbD 9, x.getLsbD 10, x.getLsbD 11)) = some (1, true, false, false) ∧
      t.host.irqStatus = s.host.irqStatus) ∧
  (∀ (s : State) (h : List Byte) (q n : Nat), s.hostReady = true →
    parseHeader h = { ok := true, cmd := 0x0B, addr := 0x1000 + 0x40 * q, count := n + 1 } → q < 64 → (s.queue q).open_ = true →
    (s.queue q).toDevice = false → (s.queue q).words = [] →
    s.gnss.navCopy.backlog = [] → s.obs.copy.backlog = [] → s.baseRef.copy.backlog = [] → s.clk.evtCopy.backlog = [] → s.meter.copy.backlog = [] →
    ∃ t, exec (.pop h none) s = .next (s.settled t) ∧ s.changesOnly [.host, .queues] t ∧ (∀ k, t.queue k = s.queue k) ∧
      t.host.stall = some (.pop q (n + 1) [])) ∧
  (∀ (s : State) (h : List Byte) (q n : Nat) (w : QueueWord) (l : List QueueWord), s.hostReady = true →
    parseHeader h = { ok := true, cmd := 0x0B, addr := 0x1000 + 0x40 * q, count := n + 1 } → q < 64 → (s.queue q).open_ = true →
    (s.queue q).toDevice = false → (s.queue q).lengthSlot = false → (s.queue q).words = w :: l → w.p = false → w.parity = parityOf w.data →
    s.gnss.navCopy.backlog = [] → s.obs.copy.backlog = [] → s.baseRef.copy.backlog = [] → s.clk.evtCopy.backlog = [] → s.meter.copy.backlog = [] →
    ∃ t, exec (.pop h (some 1)) s = .next (s.settled t) ∧ s.changesOnly [.host, .queues] t ∧ (t.queue q).words = l ∧
      (∀ k, k ≠ q → t.queue k = s.queue k) ∧ t.host.out = [w.data] ∧ t.host.outStatus = none ∧ t.host.outCrc = none ∧ t.host.stall = none) ∧
  (∀ (s : State) (h : List Byte) (q : Nat) (x : Option Nat), s.hostReady = true → (parseHeader h).addr = 0x1000 + 0x40 * q → q < 64 →
    (parseHeader h).ok = false ∨ (s.queue q).open_ = false ∨ (s.queue q).toDevice = true →
    ∃ t, exec (.pop h x) s = .next (s.settled t) ∧ s.changesOnly [.host] t ∧ t.host.irqStatus = s.host.irqStatus ||| 128#9 ∧
      t.host.xferErrs = (s.host.xferErrs + 1) % 2 ^ 32) ∧
  (∀ (s : State) (h : List Byte) (q c : Nat) (d : List Word32) (w : Word32), s.zheoc.deposed = false → s.hostReady = true →
    c = 0x0A ∨ c = 0x0E → parseHeader h = { ok := true, cmd := c, addr := 0x1000 + 0x40 * q, count := d.length + 1 } → q < 64 →
    (s.queue q).open_ = true → (s.queue q).toDevice = true → (s.queue q).lengthSlot = false → d.length + 1 ≤ (s.queue q).free →
    let f := crc16 (wordBytes (d ++ [w]))
    (c = 0x0A → ∃ t, exec (.push h (d ++ [w]) f) s = .next (s.settled t) ∧ s.changesOnly [.host, .queues, .zheoc] t ∧
      t.queue q = { s.queue q with words := (s.queue q).words ++ (d ++ [w]).map (fun x => queueWord x false false) } ∧
      (∀ k, k ≠ q → t.queue k = s.queue k) ∧ t.host.irqStatus = s.host.irqStatus) ∧
    (c = 0x0E → ∃ t, exec (.pushEnd h (d ++ [w]) f) s = .next (s.settled t) ∧ s.changesOnly [.host, .queues, .zheoc] t ∧
      t.queue q = { s.queue q with words := (s.queue q).words ++ d.map (fun x => queueWord x false false) ++ [queueWord w true false] } ∧
      (∀ k, k ≠ q → t.queue k = s.queue k) ∧
      t.host.irqStatus = if s.host.queueMask.getLsbD q then s.host.irqStatus ||| 8#9 else s.host.irqStatus)) ∧
  (∀ (s : State) (h : List Byte) (q c : Nat) (d : List Word32) (g : BitVec 16), s.zheoc.deposed = false → s.hostReady = true →
    parseHeader h = { ok := true, cmd := c, addr := 0x1000 + 0x40 * q, count := d.length } → q < 64 → (s.queue q).open_ = true →
    (s.queue q).toDevice = true → (s.queue q).takes d.length = true → g ≠ crc16 (wordBytes d) →
    (c = 0x0A → ∃ t, exec (.push h d g) s = .next (s.settled t) ∧ s.changesOnly [.host, .zheoc] t ∧ t.host.irqStatus = s.host.irqStatus ||| 128#9) ∧
    (c = 0x0E → ∃ t, exec (.pushEnd h d g) s = .next (s.settled t) ∧ s.changesOnly [.host, .zheoc] t ∧
      t.host.irqStatus = s.host.irqStatus ||| 128#9)) ∧
  (∀ (s : State) (h : List Byte) (q c : Nat) (d : List Word32), s.zheoc.deposed = false → s.hostReady = true →
    parseHeader h = { ok := true, cmd := c, addr := 0x1000 + 0x40 * q, count := d.length } → q < 64 → (s.queue q).open_ = true →
    (s.queue q).toDevice = true → (s.queue q).takes d.length = false →
    (c = 0x0A → ∃ t, exec (.push h d (crc16 (wordBytes d))) s = .next (s.settled t) ∧ s.changesOnly [.host, .zheoc] t ∧
      t.host.stall = some (.push q d true false)) ∧
    (c = 0x0E → ∃ t, exec (.pushEnd h d (crc16 (wordBytes d))) s = .next (s.settled t) ∧ s.changesOnly [.host, .zheoc] t ∧
      t.host.stall = some (.push q d true true))) ∧
  (∀ (s : State) (h : List Byte) (q : Nat) (d : List Word32), s.zheoc.deposed = false → s.hostReady = true →
    parseHeader h = { ok := true, cmd := 0x0E, addr := 0x1000 + 0x40 * q, count := d.length } → q < 64 → (s.queue q).open_ = true →
    (s.queue q).toDevice = true → (s.queue q).lengthSlot = true → (s.queue q).discarding = false → (s.queue q).openPacket = none →
    (d.length + 1 ≤ (s.queue q).free → ∃ t, exec (.pushEnd h d (crc16 (wordBytes d))) s = .next (s.settled t) ∧ s.changesOnly [.host, .queues, .zheoc] t ∧
      (t.queue q).words = (s.queue q).words ++ queueWord (BitVec.ofNat 32 d.length) false false :: d.map (fun x => queueWord x false false) ∧
      (∀ k, k ≠ q → t.queue k = s.queue k)) ∧
    ((s.queue q).capacity < d.length + 1 → ∃ t, exec (.pushEnd h d (crc16 (wordBytes d))) s = .next (s.settled t) ∧ s.changesOnly [.host, .queues, .zheoc] t ∧
      (t.queue q).words = (s.queue q).words ++ [queueWord 0xFFFFFFFF false false] ∧ (t.queue q).aborts = ((s.queue q).aborts + 1) % 2 ^ 32 ∧
      (t.queue q).discarding = false ∧ (∀ k, k ≠ q → t.queue k = s.queue k))) ∧
  (∀ (s : State) (b : Bool), s.running = true → s.host.stall = none →
    ∃ t, exec (.hcsNRise b) s = .next (s.settled t) ∧ s.changesOnly [.host] t ∧
      t.host.irqStatus = if b then s.host.irqStatus ||| 128#9 else s.host.irqStatus) ∧
  (∀ (s : State) (b : Bool) (q : Nat) (d : List Word32) (c e : Bool), s.running = true → s.host.stall = some (.push q d c e) →
    ∃ t, exec (.hcsNRise b) s = .next (s.settled t) ∧ s.changesOnly [.host] t ∧ t.host.stall = none ∧
      t.host.irqStatus = s.host.irqStatus ||| 128#9) ∧
  (∀ (s : State) (b : Bool) (q n : Nat), s.running = true → s.host.stall = some (.pop q n []) →
    ∃ t, exec (.hcsNRise b) s = .next (s.settled t) ∧ s.changesOnly [.host] t ∧ t.host.stall = none ∧ t.host.outStatus = none ∧ t.host.out = []) ∧
  (∀ (s : State) (b : Bool) (c r : BitVec 9), s.running = false →
    exec (.hcsNRise b) s = .next (s.settled s) ∧ exec (.irqStatusWrite c r) s = .next (s.settled s)) ∧
  (∀ (s : State) (c r : BitVec 9), s.running = true → ∃ t, exec (.irqStatusWrite c r) s = .next (s.settled t) ∧ s.changesOnly [.host] t ∧
    t.host.irqStatus = (s.host.irqStatus &&& ~~~(c &&& ~~~s.freshIrq)) ||| r ∧ t.host.irqEnable = s.host.irqEnable) ∧
  (∀ (s : State) (n : Nat), s.running = false ∨ (s.queue n).lengthSlot = false ∨ (s.queue n).openPacket = none ∨ 0 < (s.queue n).free →
    exec (.queuePacketAbort n) s = .next (s.settled s)) ∧
  (∀ (s : State) (n : Nat) (p : List QueueWord), s.running = true → (s.queue n).lengthSlot = true → (s.queue n).openPacket = some p →
    (s.queue n).free = 0 → s.host.stall = none →
    ∃ t, exec (.queuePacketAbort n) s = .next (s.settled t) ∧ s.changesOnly [.queues, .host] t ∧
      t.queue n = { s.queue n with openPacket := none, words := (s.queue n).words ++ [queueWord 0xFFFFFFFF false false], discarding := true
                                   aborts := ((s.queue n).aborts + 1) % 2 ^ 32 } ∧
      t.host.irqStatus = if s.host.queueMask.getLsbD n then s.host.irqStatus ||| 8#9 else s.host.irqStatus)

/-! ## Record store and Milestone (spec/18) -/

/-- Parts of R520, R522, R536 to R540, R545, R547, R548. A journal entry that is due takes the next sequence number and makes the older of
its kind dead; live entries of other kinds stay or spill. A commit writes every acknowledged stored write as a new generation into the
copy that is not the newest and answers who waits. "save" is answered once nothing of its area waits, "load" takes the area's entries
out, another signature is refused. The scrubs of MRAM, once in 24 h of operation, and of NAND, once in a week, count and note what they
find and repair or lose key copies. The oldest block that needs refresh moves to the free one of the lowest count; the least erased with
data moves once a minute where it lies 2,000 behind; a block that failed or needs more than 36 corrections is retired for a spare. A
write of AsAppliedExported frees records and closes a gap with its marker. What is not due or not permitted changes nothing. Of the
model are the points of log 12, 128, 129, 130. -/
def Obligations.RecordStore : Prop :=
  (∀ (s : State) (k : Nat) (d : JData), s.operating = true → journalPeriod k = 0 ∨ s.periodDue k (journalPeriod k) = true →
    (k = 1 ∧ s.mode.role = some .rover ∧ d = .meter s.meterSave) ∨ (k = 2 ∧ d = .halt s.mode.haltFlag.isSome (s.mode.haltFlag.getD s.mode.haltCause)) ∨
      (k = 3 ∧ s.mode.role = some .rover ∧ d = .tram s.tramSave) ∨ (k = 7 ∧ d = .radio s.radioSave) ∨ (k = 8 ∧ d = .clock s.clockSave) ∨
      (k = 9 ∧ d = .milestone { seq := s.store.seq, bank := s.milestone.visible.merge s.milestone.pendingBank, since := s.milestone.since,
                                opSeconds := s.milestone.opSeconds + s.now / 2000000000, cycles := s.milestone.cycles }) →
    ∃ t, exec (.journalWrite k) s = .next (s.settled t) ∧ s.changesOnly [.store, .milestone, .draws, .dict, .periods] t ∧
      t.store.seq = s.store.seq + 1 ∧
      t.store.journal.getLast? = some { seq := s.store.seq, time := s.stampTime, tickHi := s.now / 2 ^ 32, live := true, data := d } ∧
      (∀ e ∈ t.store.journal, e.data.kind = k → e.live = true → e.seq = s.store.seq) ∧
      (∀ e ∈ s.store.journal, e.live = true → e.data.kind ≠ k → e ∈ t.store.journal ∨ e ∈ t.store.spill) ∧
      (∀ e ∈ s.store.spill, e ∈ t.store.spill) ∧ journalBytes t.store.journal ≤ 983040 ∧
      (t.store.spill = s.store.spill ∨ t.store.spilled = true)) ∧
  (∀ (s : State) (v : MeterInterval), s.operating = true → s.meter.interval = some v →
    ∃ t r, exec (.journalWrite 6) s = .next (s.settled t) ∧ s.changesOnly [.store, .milestone, .draws, .dict] t ∧
      t.store.journal.getLast? = some { seq := s.store.seq, time := s.stampTime, tickHi := s.now / 2 ^ 32, live := true, data := .tail r } ∧
      r.start = v.startTime ∧ r.end_ = s.time64 ∧ r.cut = true ∧ r.task = s.regN Obj.taskCurrent) ∧
  (∀ (s : State) (k : Nat), s.operating = false ∨ (journalPeriod k ≠ 0 ∧ s.periodDue k (journalPeriod k) = false) ∨
    (k ∈ [1, 3] ∧ s.mode.role ≠ some .rover) ∨ (k = 6 ∧ s.meter.interval = none) → exec (.journalWrite k) s = .next (s.settled s)) ∧
  (∀ s : State, s.running = false ∨ s.unarmedBoot = true ∨ s.storePending = [] → exec .storeCommit s = .next (s.settled s)) ∧
  (∀ s : State, s.running = true → s.unarmedBoot = false → s.storePending ≠ [] → (∀ c, s.store.copy0 = some c ∨ s.store.copy1 = some c → c.gen < s.store.seq) →
    (∀ e ∈ s.store.journal ++ s.store.spill, e.seq < s.store.seq) →
    ∃ t, exec .storeCommit s = .next (s.settled t) ∧ s.changesOnly [.store, .sessions, .mbox, .host, .dict, .milestone, .draws] t ∧
      t.store.seq = s.store.seq + 1 ∧ t.storePending = [] ∧ t.newestCopy = { s.storedSet with gen := s.store.seq } ∧
      t.storedSet = t.newestCopy ∧ (t.store.copy0 = s.store.copy0 ∨ t.store.copy1 = s.store.copy1) ∧
      (∀ c, s.store.copy0 = some c ∨ s.store.copy1 = some c → (∀ x, s.store.copy0 = some x ∨ s.store.copy1 = some x → x = c ∨ x.gen < c.gen) →
        t.store.copy0 = some c ∨ t.store.copy1 = some c) ∧
      (∀ q, (t.session q).saveWait = none) ∧
      ((s.session .host).saveWait ≠ none → t.mbox.state = .done ∧ t.mbox.abort = 0)) ∧
  (∀ (s : State) (q : Sess) (a v : Nat), 1 ≤ a → a ≤ 3 → s.takesWrite q (storeObject false a) v →
    let b := s.begun q (storeObject false a) (leBytes 4 v)
    (v = 0x65766173 → s.areaPending a = false → exec (.storeParameters q a v) s = .next (s.settled (s.acked b q []))) ∧
    (v = 0x65766173 → s.areaPending a = true → ∃ t, exec (.storeParameters q a v) s = .next (s.settled t) ∧
      s.changesOnly [.sessions, .mbox, .zheoc] t ∧ t.session q = { b.session q with saveWait := some (s.ownTag q, a) } ∧
      (q = .host → t.mbox = { s.mbox with state := .busy })) ∧
    (v ≠ 0x65766173 → exec (.storeParameters q a v) s = .next (s.settled (s.nacked b q abortBusy)))) ∧
  (∀ (s : State) (q : Sess) (a v : Nat), 1 ≤ a → a ≤ 3 → s.takesWrite q (storeObject true a) v →
    (∀ c, s.store.copy0 = some c ∨ s.store.copy1 = some c → c.gen < s.store.seq) → (∀ e ∈ s.store.journal ++ s.store.spill, e.seq < s.store.seq) →
    (v = 0x64616F6C → ∃ u, exec (.restoreDefaultParameters q a v) s = .next (s.settled (s.acked u q [])) ∧
      s.changesOnly [.store, .sessions, .zheoc, .mbox, .host, .dict, .milestone, .draws] u ∧ u.storePending = [] ∧
      ((∀ p, (s.session p).saveWait = none) → u.dict = s.dict) ∧
      u.storedSet = { gen := s.store.seq
                      nums := s.storedSet.nums.filter (fun e => !inArea a (e.1 / 2 ^ 32))
                      octets := s.storedSet.octets.filter (fun e => !inArea a (e.1 / 2 ^ 32)) }) ∧
    (v ≠ 0x64616F6C → exec (.restoreDefaultParameters q a v) s =
      .next (s.settled (s.nacked (s.begun q (storeObject true a) (leBytes 4 v)) q abortBusy)))) ∧
  (∀ (s : State) (c n : Nat) (l : List (Nat × Nat)), s.operating = false ∨ s.scrubDue 0 86400 = false →
    exec (.mramScrub c n l) s = .next (s.settled s)) ∧
  (∀ (s : State) (c n : Nat) (l : List (Nat × Nat)), s.operating = true → s.scrubDue 0 86400 = true →
    ∃ t, exec (.mramScrub c n l) s = .next (s.settled t) ∧ s.changesOnly [.dict, .store, .milestone, .draws, .gate] t ∧
      t.reg Obj.mramCorrected = (s.reg Obj.mramCorrected + c) % 2 ^ 32 ∧ t.reg Obj.mramUncorrectable = (s.reg Obj.mramUncorrectable + n) % 2 ^ 32 ∧
      t.store = { s.store with
        mramBad := s.store.mramBad || decide (0 < n), scrubs := Tab.put 0 s.store.scrubs 0 (s.opSeconds / 86400) } ∧
      (∀ k < 32, s.sealedSlot k = false → (∀ x ∈ l, x.1 ≠ k) → (s.keyRecord k).isSome = true →
        (∀ a b, s.keyCopy k 0 = some a → s.keyCopy k 1 = some b → a.gen = b.gen → a = b) →
        t.keyRecord k = s.keyRecord k ∧ t.keyCopy k 0 = s.keyRecord k ∧ t.keyCopy k 1 = s.keyRecord k) ∧
      (∀ k < 32, s.sealedSlot k = false → (k, 0) ∈ l → (k, 1) ∈ l → t.keyRecord k = none ∧ k ∈ t.gate.badSlots)) ∧
  (∀ (s : State) (l : List (Nat × Nat)), s.operating = false ∨ s.store.nandPresent = false ∨ s.scrubDue 1 604800 = false →
    exec (.nandScrub l) s = .next (s.settled s)) ∧
  (∀ (s : State) (l : List (Nat × Nat)), s.operating = true → s.store.nandPresent = true → s.scrubDue 1 604800 = true →
    ∃ t, exec (.nandScrub l) s = .next (s.settled t) ∧ s.changesOnly [.store] t ∧
      (∀ n b, s.block n = some b → t.block n = some { b with corrections :=
        if b.holdsData then ((l.reverse.find? (fun x => decide (x.1 = n))).map (·.2)).getD b.corrections else b.corrections }) ∧
      t.store.scrubs = Tab.put 0 s.store.scrubs 1 (s.opSeconds / 604800) ∧
      (t.store.refreshBehind = true ↔ s.clk.valid = true ∧ ∃ e ∈ t.refreshList, e.2.writtenDay + s.regN Obj.nandRefreshInterval < s.today)) ∧
  (∀ (s : State) (n m : Nat) (a b : NandBlock), s.operating = true → s.block n = some a → s.block m = some b → n ≠ m → s.lowestFree a.partition m = true →
    a.holdsData = true → a.retired = false → (∀ e ∈ s.refreshList, a.writtenDay ≤ e.2.writtenDay) →
    24 < a.corrections ∨ (s.clk.valid = true ∧ a.writtenDay + s.regN Obj.nandRefreshInterval < s.today) →
    ∃ t, exec (.nandRefresh n m) s = .next (s.settled t) ∧ s.changesOnly [.store] t ∧
      t.block m = some { b with holdsData := true, corrections := 0, writtenDay := s.today } ∧
      t.block n = some { a with holdsData := false, corrections := 0, erases := a.erases + 1 } ∧ (∀ k, k ≠ n → k ≠ m → t.block k = s.block k)) ∧
  (∀ (s : State) (n m : Nat) (a : NandBlock), s.block n = some a → a.holdsData = false ∨ a.retired = true ∨ (a.corrections ≤ 24 ∧ s.clk.valid = false) ∨
    s.lowestFree a.partition m = false → exec (.nandRefresh n m) s = .next (s.settled s)) ∧
  (∀ (s : State) (n m : Nat) (a b : NandBlock), s.operating = true → s.block n = some a → s.block m = some b → n ≠ m → s.lowestFree a.partition m = true →
    a.holdsData = true → a.retired = false → a.erases + 2000 ≤ s.eraseMaxOf a.partition → s.store.lastWearMove + 120000000000 ≤ s.now →
    (∀ k x, (k, some x) ∈ s.store.blocks → x.holdsData = true → x.retired = false → x.partition = a.partition → a.erases ≤ x.erases) →
    ∃ t, exec (.wearLevelMove n m) s = .next (s.settled t) ∧ s.changesOnly [.store] t ∧ t.store.lastWearMove = s.now ∧
      t.block m = some { b with holdsData := true, corrections := 0, writtenDay := s.today } ∧
      t.block n = some { a with holdsData := false, corrections := 0, erases := a.erases + 1 } ∧ (∀ k, k ≠ n → k ≠ m → t.block k = s.block k)) ∧
  (∀ (s : State) (n m : Nat), s.now < s.store.lastWearMove + 120000000000 → exec (.wearLevelMove n m) s = .next (s.settled s)) ∧
  (∀ (s : State) (n m : Nat) (a : NandBlock) (f : Bool), s.block n = some a →
    s.running = false ∨ a.retired = true ∨ (f = false ∧ a.corrections ≤ 36) ∨ s.lowestFree 4 m = false →
    exec (.nandBlockRetire n m f) s = .next (s.settled s)) ∧
  (∀ (s : State) (n m : Nat) (a b : NandBlock) (f : Bool), s.running = true → s.block n = some a → s.block m = some b → n ≠ m → a.retired = false →
    f = true ∨ 36 < a.corrections → s.lowestFree 4 m = true →
    ∃ t, exec (.nandBlockRetire n m f) s = .next (s.settled t) ∧ s.changesOnly [.store, .milestone, .draws] t ∧
      t.block n = some { a with retired := true, holdsData := false } ∧
      t.block m = some { b with partition := a.partition, holdsData := a.holdsData, writtenDay := s.today } ∧
      (∀ k, k ≠ n → k ≠ m → t.block k = s.block k) ∧
      (s.bank.count 0x8C + 1 < 2 ^ 32 → t.bank.count 0x8C = s.bank.count 0x8C + 1) ∧
      (t.store.sparesLow = true ↔ t.sparesLeft * 1000 < s.store.nandCount * 5)) ∧
  (∀ (s : State) (q : Sess) (v : Int), s.takesWrite q Obj.asAppliedExported v → s.shadowHolds (.storedNum (regKey Obj.asAppliedExported 0) v) = true →
    ∃ u, exec (.asAppliedExportedWrite q v) s = .next (s.settled (s.acked u q [])) ∧ s.changesOnly [.dict, .store, .milestone, .draws, .zheoc, .sessions] u ∧
      u.reg Obj.asAppliedExported = v ∧ (s.store.gapFrom = none → u.store.ring = s.store.ring) ∧
      (∀ g i, s.store.gapFrom = some g → s.meter.interval = some i → s.store.nandPresent = true →
        ((ringRoom s.store.ringCapacity v.toNat 2048 s.store.ring).map AsApplied.nandBytes).foldl (· + ·) 2048 ≤ s.store.ringCapacity →
        u.store.gapFrom = none ∧ u.store.recordsFull = false ∧
        u.store.ring.getLast?.map (fun r => (r.gap, r.full, r.start, r.end_, r.rseq, r.sections)) =
          some (true, true, g, i.startTime, s.regN Obj.asAppliedNewest + 1, [])))

/-- Parts of R551 to R554, R556. A sample of a load, of the die temperature or of VSNS, once in its period, adds one to its bin and moves
the extremes of the bank in use with their stamps. Once in 6 h of operation the shadow goes to the home copy that is not the newest. A
freeze sends what is new to the pending bank for 60 s at most; its end, written or timed, merges it. An entry counts in the bank in use.
A clear, at level Service with its one value, empties both banks. What is not due changes nothing. Of the model are the points of log
14, 86. -/
def Obligations.MilestoneRecorder : Prop :=
  (∀ (s : State) (n l : Nat), s.running = false ∨ 3 < n ∨ s.periodDue (0x10 + n) (if n < 2 then ticksS 1 else ticksS 60) = false →
    exec (.milestoneSample n l) s = .next (s.settled s)) ∧
  (∀ (s : State) (n l bin : Nat) (v : Int), s.running = true → s.periodDue (0x10 + n) (if n < 2 then ticksS 1 else ticksS 60) = true →
    (n = 0 ∧ v = min l 1000 ∧ bin = min 15 (min l 1000 * 10 / 625)) ∨ (n = 1 ∧ bin = min 15 (min l 1000 * 10 / 625)) ∨
      (n = 2 ∧ v = s.reg Obj.dieTemperature ∧ bin = (max 0 (min 15 ((v + 40000) / 10000))).toNat) ∨
      (n = 3 ∧ v = s.power.vsns ∧ bin = (max 0 (min 15 (v / 2500))).toNat) →
    ∃ t, exec (.milestoneSample n l) s = .next (s.settled t) ∧ s.changesOnly [.milestone, .dict, .periods] t ∧ (2 ≤ n → t.dict = s.dict) ∧
      (n = 0 → t.reg Obj.coreLoad = min l 1000) ∧ (n = 1 → t.reg Obj.rtLoad = min l 1000) ∧
      (∀ k, Tab.get 0 t.bank.hist k = if k = 16 * n + bin then min (Tab.get 0 s.bank.hist k + 1) 0xFFFFFFFF else Tab.get 0 s.bank.hist k) ∧
      (∀ e, e = (if n = 0 then 0x44 else if n = 2 then 0x40 else 0x41) → n ≠ 1 →
        ∃ x, Tab.get none t.bank.ext e = some x ∧ x.min ≤ v ∧ v ≤ x.max ∧
          (∀ y, Tab.get none s.bank.ext e = some y → x.min = min y.min v ∧ x.max = max y.max v ∧ (y.min ≤ v → x.minAt = y.minAt) ∧
            (v < y.min → x.minAt = s.stamp) ∧ (v ≤ y.max → x.maxAt = y.maxAt) ∧ (y.max < v → x.maxAt = s.stamp)))) ∧
  (∀ s : State, s.operating = false ∨ s.opSeconds / 21600 = 0 ∨
    (∃ h, (s.milestone.home0 = some h ∨ s.milestone.home1 = some h) ∧ s.opSeconds / 21600 ≤ h.opSeconds / 21600) →
    exec .milestoneHomeWrite s = .next (s.settled s)) ∧
  (∀ s : State, s.operating = true → s.opSeconds / 21600 ≠ 0 →
    (∀ h, s.milestone.home0 = some h ∨ s.milestone.home1 = some h → h.opSeconds / 21600 < s.opSeconds / 21600) →
    let h : MilestoneHome := { seq := s.store.seq, bank := s.milestone.visible.merge s.milestone.pendingBank, since := s.milestone.since,
                               opSeconds := s.milestone.opSeconds + s.now / 2000000000, cycles := s.milestone.cycles }
    ∃ t, exec .milestoneHomeWrite s = .next (s.settled t) ∧ s.changesOnly [.store, .milestone] t ∧ t.store = { s.store with seq := s.store.seq + 1 } ∧
      (∀ a b, s.milestone.home0 = some a → s.milestone.home1 = some b → a.seq ≠ b.seq →
        t.milestone = if b.seq < a.seq then { s.milestone with home1 := some h } else { s.milestone with home0 := some h }) ∧
      (s.milestone.home0 = none → t.milestone = { s.milestone with home0 := some h })) ∧
  (∀ (s : State) (q : Sess), s.takesWrite q Obj.milestoneFreeze 1 → s.milestone.frozen = false →
    ∃ u, exec (.milestoneFreeze q) s = .next (s.settled (s.acked u q [])) ∧ s.changesOnly [.milestone, .dict, .zheoc, .sessions] u ∧
      u.milestone = { s.milestone with frozen := true, freezeDue := some (s.now + 120000000000) } ∧ u.reg Obj.milestoneFreeze = 1) ∧
  (∀ (s : State) (q : Sess), s.takesWrite q Obj.milestoneFreeze 0 → s.milestone.frozen = true →
    ∃ u, exec (.milestoneUnfreeze q) s = .next (s.settled (s.acked u q [])) ∧ s.changesOnly [.milestone, .dict, .zheoc, .sessions] u ∧
      u.milestone = { s.milestone with visible := s.milestone.visible.merge s.milestone.pendingBank, pendingBank := MilestoneBank.empty, frozen := false
                                       freezeDue := none }) ∧
  (∀ (s : State) (q : Sess), s.takesWrite q Obj.milestoneFreeze 1 → s.milestone.frozen = true →
    ∃ u, exec (.milestoneFreeze q) s = .next (s.settled (s.acked u q [])) ∧ s.changesOnly [.dict, .zheoc, .sessions] u ∧ u.reg Obj.milestoneFreeze = 1) ∧
  (∀ (s : State) (q : Sess), s.takesWrite q Obj.milestoneFreeze 0 → s.milestone.frozen = false →
    ∃ u, exec (.milestoneUnfreeze q) s = .next (s.settled (s.acked u q [])) ∧ s.changesOnly [.dict, .zheoc, .sessions] u ∧ u.reg Obj.milestoneFreeze = 0) ∧
  (∀ s : State, s.milestone.frozen = false ∨ s.due s.milestone.freezeDue = false → exec .milestoneFreezeExpiry s = .next (s.settled s)) ∧
  (∀ s : State, s.milestone.frozen = true → s.due s.milestone.freezeDue = true →
    ∃ t, exec .milestoneFreezeExpiry s = .next (s.settled t) ∧ s.changesOnly [.milestone] t ∧ t.milestone.expired = true ∧
      t.milestone.frozen = false ∧ t.milestone.visible = s.milestone.visible.merge s.milestone.pendingBank ∧
      t.milestone.pendingBank = MilestoneBank.empty) ∧
  (∀ (s : State) (c k : Nat) (f : Bool), s.milestone.frozen = f → s.bank.count c + 1 < 2 ^ 32 →
    let t := s.milestoneEntry c
    t.bank.count c = s.bank.count c + 1 ∧ (k ≠ c → t.bank.count k = s.bank.count k) ∧
      (f = true → t.milestone.visible = s.milestone.visible) ∧ (f = false → t.milestone.pendingBank = s.milestone.pendingBank)) ∧
  Obj.milestoneClear.lvl = .service ∧ Obj.milestoneClear.addr = 0xA00006 ∧
  (∀ (s : State) (q : Sess), s.takesWrite q Obj.milestoneClear 0x4D →
    ∃ u, exec (.milestoneClear q 0x4D) s = .next (s.settled (s.acked u q [])) ∧ s.changesOnly [.milestone, .zheoc, .sessions] u ∧
      u.milestone = { s.milestone with visible := MilestoneBank.empty, pendingBank := MilestoneBank.empty, since := s.stamp }) ∧
  (∀ (s : State) (q : Sess) (v : Int), s.ready q → s.objCheck q Obj.milestoneClear true = none → v ≠ 0x4D →
    exec (.milestoneClear q v) s = .next (s.settled (s.nacked (s.begun q Obj.milestoneClear (encodeValue Obj.milestoneClear v)) q abortRange)))

/-! ## Tollgate: keys, images, activation (spec/19) -/

/-- Parts of R562, R563, R564, R565, R566, R570. A secret written to KeyImportSecret is unwrapped under the transport key of the device key
and PUB_E and stored in both copies of slot 4 to 7 with the next GEN. Slot 3 is replaced where the given GEN is the slot's and the
signature passes (all zeros into an empty slot); a PUB of zeros empties it. KeyErase empties slot 4 to 7. KeyImportResult tells the
outcome: 4 in SERVICE or without identity keys, 5 for a session of radio, then 1, 2 or 3, and a refused import changes no key. With the
test root all three are aborted. A session key in use is loaded to the front of the registers, 56 of which are for session keys, and a
load that misses is counted; a blob that fails ends the connection of its slot. A command for a slot without a session key does nothing.
Of the model are the points of log 83, 131. -/
def Obligations.Keys : Prop :=
  (∀ (s : State) (q : Sess) (data : List Byte), s.takesBytes q Obj.keyImportSecret data → s.mode.testRoot = false →
    let slot := fieldU data 0 1
    let transport := Config.hmacSha256 (Config.ecdh ((s.keyOf 1).getD []) (slice data 4 64)) (s.deviceId ++ leBytes 1 slot)
    let key := Config.aesUnwrap transport (slice data 68 40)
    let c : Nat := if s.mode.current = .service ∨ s.identityBad = true then 4 else if importTransport q = false then 5
      else if slot < 4 ∨ 7 < slot then 1 else if key = none then 2 else 0
    ∃ u, exec (.keyImportSecret q data) s = .next (s.settled (s.acked u q [])) ∧ s.changesOnly [.gate, .dict, .zheoc, .sessions] u ∧
      u.reg Obj.keyImportResult = c ∧ (c ≠ 0 → u.gate = s.gate) ∧
      (c = 0 → ∀ k, key = some k → slot ∉ u.gate.badSlots ∧
        (∀ n < 2, u.keyCopy slot n = some { kind := 3, state := 1, gen := (s.slotGen slot + 1) % 2 ^ 32, key := k, factory := false }) ∧
        (∀ j n, j ≠ slot → n < 2 → u.keyCopy j n = s.keyCopy j n))) ∧
  (∀ (s : State) (q : Sess) (data : List Byte), s.takesBytes q Obj.keyImportPublic data → s.mode.testRoot = false →
    let pub := slice data 8 64
    let sig := slice data 72 64
    let signed := if s.emptySlot 3 then decide (sig = List.replicate 64 0)
      else Config.ecdsaVerify ((s.keyOf 3).getD []) (Config.sha256 (pub ++ leBytes 4 (s.slotGen 3))) sig
    let c : Nat := if s.mode.current = .service then 4 else if importTransport q = false then 5 else if fieldU data 0 1 ≠ 3 then 1
      else if fieldU data 4 4 ≠ s.slotGen 3 ∨ signed = false then 3 else 0
    ∃ u, exec (.keyImportPublic q data) s = .next (s.settled (s.acked u q [])) ∧ s.changesOnly [.gate, .dict, .zheoc, .sessions] u ∧
      u.reg Obj.keyImportResult = c ∧ (c ≠ 0 → u.gate = s.gate) ∧
      (c = 0 → u.slotGen 3 = (s.slotGen 3 + 1) % 2 ^ 32 ∧ u.keyCopy 3 0 = u.keyCopy 3 1 ∧ 3 ∉ u.gate.badSlots ∧
        (∀ j n, j ≠ 3 → n < 2 → u.keyCopy j n = s.keyCopy j n) ∧
        (if pub = List.replicate 64 0 then u.emptySlot 3 = true else u.emptySlot 3 = false ∧ (u.keyRecord 3).map (·.key) = some pub))) ∧
  (∀ (s : State) (q : Sess) (n : Nat), s.takesWrite q Obj.keyErase n → s.mode.testRoot = false →
    let c : Nat := if s.mode.current = .service then 4 else if importTransport q = false then 5 else 0
    4 ≤ n ∧ n ≤ 7 ∧ ∃ u, exec (.keyErase q n) s = .next (s.settled (s.acked u q [])) ∧ s.changesOnly [.gate, .dict, .zheoc, .sessions] u ∧
      u.reg Obj.keyImportResult = c ∧ (c ≠ 0 → u.gate = s.gate) ∧
      (c = 0 → u.emptySlot n = true ∧ u.slotGen n = (s.slotGen n + 1) % 2 ^ 32 ∧ n ∉ u.gate.badSlots ∧
        (∀ j k, j ≠ n → k < 2 → u.keyCopy j k = s.keyCopy j k))) ∧
  (∀ (s : State) (q : Sess) (data : List Byte) (n : Nat), s.mode.testRoot = true →
    (s.takesBytes q Obj.keyImportSecret data → exec (.keyImportSecret q data) s = .next (s.settled (s.nacked (s.begun q Obj.keyImportSecret data) q abortAccess))) ∧
    (s.takesBytes q Obj.keyImportPublic data → exec (.keyImportPublic q data) s = .next (s.settled (s.nacked (s.begun q Obj.keyImportPublic data) q abortAccess))) ∧
    (s.takesWrite q Obj.keyErase n → exec (.keyErase q n) s = .next (s.settled (s.nacked (s.begun q Obj.keyErase (encodeValue Obj.keyErase n)) q abortAccess)))) ∧
  (∀ (s : State) (n : Nat) (ok : Bool), s.operating = true → s.sessionKeyed n → n ∈ s.gate.registers →
    exec (.keyRegisterLoad n ok) s = .next (s.settled (s.updGate (fun g => { g with registers := n :: g.registers.filter (fun x => decide (x ≠ n)) })))) ∧
  (∀ (s : State) (n : Nat), s.operating = true → s.sessionKeyed n → n ∉ s.gate.registers →
    ∃ t, exec (.keyRegisterLoad n true) s = .next (s.settled t) ∧ s.changesOnly [.gate, .dict] t ∧
      t.gate = { s.gate with registers := (n :: s.gate.registers).take 56 } ∧ t.reg Obj.keyRegisterLoads = (s.reg Obj.keyRegisterLoads + 1) % 2 ^ 32) ∧
  (∀ (s : State) (n : Nat), s.operating = true → s.sessionKeyed n → n ∉ s.gate.registers → s.isBase = true →
    ∃ t, exec (.keyRegisterLoad n false) s = .next (s.settled t) ∧ s.changesOnly [.radio, .dict] t ∧ (t.slot n).state = .closing ∧
      t.reg Obj.keyRegisterLoads = (s.reg Obj.keyRegisterLoads + 1) % 2 ^ 32 ∧
      t.radio.terminates = s.radio.terminates ++ (if (s.slot n).state = .connected then [n] else [])) ∧
  (∀ (s : State) (n : Nat), s.operating = true → s.sessionKeyed n → n ∉ s.gate.registers → s.isBase = false →
    ∃ t, exec (.keyRegisterLoad n false) s = .next (s.settled t) ∧ s.changesOnly [.radio, .dict] t ∧
      t.reg Obj.keyRegisterLoads = (s.reg Obj.keyRegisterLoads + 1) % 2 ^ 32 ∧
      t.radio = if s.radio.conn = .connected then { s.radio with conn := .closing } else s.radio) ∧
  (∀ (s : State) (n : Nat) (ok : Bool), s.operating = false ∨ ¬s.sessionKeyed n → exec (.keyRegisterLoad n ok) s = .next (s.settled s))

/-- Parts of R573, R576, R577. UpdateBegin empties the inactive slot and sets it receiving; UpdateData appends and counts UpdateReceived, a
block past the size is refused with 0x0B; UpdateVerify tells the result of R573, or 0x02 where bytes are missing, and sets the slot
verified or invalid. Without the NAND each tells 0x0C. UpdateBegin is aborted in SERVICE, with the test root, in trial and while an
activation stands; UpdateData and UpdateVerify in SERVICE, with the test root and where nothing is received. An image that passes with a
role has the magic, the layout, the length, a signature that verifies, a security version not below the minimum, the role's bit, and
sections that hash as listed. A trial image is confirmed after 300 s of an operating mode other than SERVICE, and reverted where BOOT
lasts 120 s. Of the model are the points of log 69, 84. -/
def Obligations.ImageUpdate : Prop :=
  (∀ (s : State) (q : Sess) (n : Nat), s.takesWrite q Obj.updateBegin n → s.mode.testRoot = false → s.mode.current ≠ .service → s.activating = false →
    s.gate.anchor.trial = false →
    ∃ u, exec (.updateBegin q n) s = .next (s.settled (s.acked u q [])) ∧ s.changesOnly [.gate, .dict, .zheoc, .sessions] u ∧ u.gate.anchor = s.gate.anchor ∧
      (s.store.nandPresent = true → u.image s.inactiveSlot = { ImageSlot.empty with state := .receiving, total := n } ∧
        u.reg Obj.updateReceived = 0 ∧ u.reg Obj.updateResult = 1 ∧ ∀ k, k ≠ s.inactiveSlot → u.image k = s.image k) ∧
      (s.store.nandPresent = false → u.gate = s.gate ∧ u.reg Obj.updateResult = 0x0C)) ∧
  (∀ (s : State) (q : Sess) (v : Int), s.takesWrite q Obj.updateBegin v →
    s.activating = true ∨ s.gate.anchor.trial = true ∨ s.mode.current = .service ∨ s.mode.testRoot = true →
    exec (.updateBegin q v) s = .next (s.settled (s.nacked (s.begun q Obj.updateBegin (encodeValue Obj.updateBegin v)) q abortAccess))) ∧
  (∀ (s : State) (q : Sess) (data : List Byte), s.takesBytes q Obj.updateData data → s.mode.testRoot = false → s.mode.current ≠ .service →
    (s.image s.inactiveSlot).state = .receiving → data ≠ [] →
    let x := s.image s.inactiveSlot
    ∃ u, exec (.updateData q data) s = .next (s.settled (s.acked u q [])) ∧ s.changesOnly [.gate, .dict, .store, .zheoc, .sessions] u ∧
      (s.store.nandPresent = true → x.bytes.length + data.length ≤ x.total → u.image s.inactiveSlot = { x with bytes := x.bytes ++ data } ∧
        u.reg Obj.updateReceived = ((x.bytes.length + data.length : Nat) : Int) ∧ ∀ k, k ≠ s.inactiveSlot → u.image k = s.image k) ∧
      (s.store.nandPresent = true → x.total < x.bytes.length + data.length → u.gate = s.gate ∧ u.store = s.store ∧ u.reg Obj.updateResult = 0x0B) ∧
      (s.store.nandPresent = false → u.gate = s.gate ∧ u.store = s.store ∧ u.reg Obj.updateResult = 0x0C)) ∧
  (∀ (s : State) (q : Sess), s.takesWrite q Obj.updateVerify 1 → s.mode.testRoot = false → s.mode.current ≠ .service →
    (s.image s.inactiveSlot).state = .receiving →
    let x := s.image s.inactiveSlot
    let r := s.checkImage x.bytes none
    ∃ u, exec (.updateVerify q 1) s = .next (s.settled (s.acked u q [])) ∧ s.changesOnly [.gate, .dict, .zheoc, .sessions] u ∧
      u.gate.anchor = s.gate.anchor ∧
      (s.store.nandPresent = true → x.bytes.length = x.total → u.reg Obj.updateResult = r.1 ∧
        (r.1 = 0 → (u.image s.inactiveSlot).state = .verified ∧ (u.image s.inactiveSlot).info = r.2) ∧
        (r.1 ≠ 0 → (u.image s.inactiveSlot).state = .invalid)) ∧
      (s.store.nandPresent = true → x.bytes.length ≠ x.total → u.reg Obj.updateResult = 2 ∧ (u.image s.inactiveSlot).state = .invalid) ∧
      (s.store.nandPresent = false → u.gate = s.gate ∧ u.reg Obj.updateResult = 0x0C)) ∧
  (∀ (s : State) (q : Sess) (data : List Byte), (s.image s.inactiveSlot).state ≠ .receiving ∨ s.mode.current = .service ∨ s.mode.testRoot = true →
    (s.takesBytes q Obj.updateData data → exec (.updateData q data) s = .next (s.settled (s.nacked (s.begun q Obj.updateData data) q abortAccess))) ∧
    (s.takesWrite q Obj.updateVerify 1 →
      exec (.updateVerify q 1) s = .next (s.settled (s.nacked (s.begun q Obj.updateVerify (encodeValue Obj.updateVerify 1)) q abortAccess)))) ∧
  (∀ (s : State) (b : List Byte) (role : Role), (s.checkImage b (some role)).1 = 0 →
    let n := fieldU b 6 2
    fieldU b 0 4 = 0x49594B44 ∧ fieldU b 4 2 = 1 ∧ fieldU b 16 4 = b.length ∧ b.length ≤ 512 * 2 ^ 20 ∧
    Config.ecdsaVerify ((s.keyOf 0).getD []) (Config.sha256 (b.take (32 + 48 * n))) (slice b (32 + 48 * n) 64) = true ∧
    s.gate.anchor.minSecurity ≤ fieldU b 12 2 ∧ bit (fieldU b 14 1) (roleBit role) = true ∧ bit (fieldU b 15 1) 0 = s.mode.testRoot ∧
    (∀ x ∈ sectionTable b 32 n, 1 ≤ x.type ∧ x.type ≤ 7 ∧ Config.sha256 (slice b x.offset x.length) = x.hash)) ∧
  (∀ (s : State) (n : Nat) (r : ImageInfo), s.operating = true → s.mode.current ≠ .service → s.gate.anchor.trial = true → s.gate.trialFrom = some n →
    s.gate.running = some r → n + 600000000000 ≤ s.now →
    ∃ t, exec .trialConfirm s = .next (s.settled t) ∧ s.changesOnly [.gate, .dict] t ∧ t.reg Obj.activationState = 5 ∧
      t.gate = { s.gate with trialFrom := none, anchor := { s.gate.anchor with
        trial := false, minSecurity := max s.gate.anchor.minSecurity r.security, outcome := 5 } }) ∧
  (∀ s : State, s.operating = false ∨ s.mode.current = .service ∨ s.gate.anchor.trial = false ∨ s.gate.trialFrom = none ∨ s.gate.running = none ∨
    (∃ n, s.gate.trialFrom = some n ∧ s.now < n + 600000000000) → exec .trialConfirm s = .next (s.settled s)) ∧
  (∀ s : State, s.gate.anchor.trial = true → s.mode.current = .boot → 240000000000 ≤ s.now → s.bank.count 0x90 + 1 < 2 ^ 32 →
    ∃ t, exec .trialTimeout s = .next (s.settled t) ∧ s.changesOnly [.gate, .milestone, .draws] t ∧ t.bank.count 0x90 = s.bank.count 0x90 + 1 ∧
      t.gate.anchor = { s.gate.anchor with active := some (if s.gate.anchor.active = some 0 then 1 else 0), trial := false, outcome := 6 }) ∧
  (∀ s : State, s.gate.anchor.trial = false ∨ s.mode.current ≠ .boot ∨ s.now < 240000000000 → exec .trialTimeout s = .next (s.settled s))

/-- Parts of R579, R581, R583. ActivationCommand 0x01 schedules this module's own activation, 0x02 on the manager offers one to every base
on the link, and 0x03 on the manager cancels it: told in ActivationState and ActivationResult, with 0x01 for a time not permitted and
0x02 where no verified image has the digest. In SERVICE, with the test root, while one stands, or from a module that does not manage
they are aborted. At T − 10 s the manager commits where each connected rover and linked base answered ready, no reservation is held and
it is not in HALT, else it cancels with 3; at T − 2 s it cancels with 4 where an answer 0x05 is missing. Parts of R580, R581, R582,
R583. A rover that hears an offer holds it and answers 0x01 where no verified image has the digest, else 0x02 in a task, 0x03 in HALT,
or 0x00; an offer that stands is not taken again. The commit sets the anchor committed and the rover answers 0x05; the cancel takes the
commit back with its reason. A base records the answer of a rover's slot, and the manager that of a base. At T a module that committed
marks the inactive slot active in trial and begins its orderly save and reset: not in HALT (result 7), and not a rover with a task where
the activation is its own (result 9). Of the model are the points of log 85. -/
def Obligations.FleetActivation : Prop :=
  (∀ (s : State) (q : Sess), s.takesWrite q Obj.activationCommand 1 → s.updateRefused = false → s.activating = false →
    let time := s.reg Obj.activationTime
    let digest := s.oct Obj.activationDigest
    let c : Nat := if time % 1000000000 ≠ 0 ∨ time - s.time64 < 10000000000 ∨ (s.isBase = true ∧ s.onInterval time = false) then 1
      else if s.verifiedWith digest = false then 2 else 0
    ∃ u, exec (.activationLocal q) s = .next (s.settled (s.acked u q [])) ∧ s.changesOnly [.gate, .dict, .zheoc, .sessions] u ∧
      (c ≠ 0 → u.gate = s.gate ∧ u.reg Obj.activationResult = c) ∧
      (c = 0 → u.gate.anchor = { s.gate.anchor with committed := true } ∧ u.reg Obj.activationState = 2 ∧
        u.gate.activation.map (fun a => (a.time, a.digest, a.fleet, a.committed, a.cancelled)) = some (time, digest, false, true, none))) ∧
  (∀ (s : State) (q : Sess), s.takesWrite q Obj.activationCommand 2 → s.updateRefused = false → s.activating = false → s.isManager = true → s.isBase = true →
    let time := s.reg Obj.activationTime
    let digest := s.oct Obj.activationDigest
    let c : Nat := if s.onInterval time = false ∨ time - s.time64 < 60000000000 ∨ 604800000000000 < time - s.time64 then 1
      else if s.verifiedWith digest = false then 2 else 0
    ∃ u, exec (.activationFleet q) s = .next (s.settled (s.acked u q [])) ∧ s.changesOnly [.gate, .dict, .octets, .fleet, .draws, .zheoc, .sessions] u ∧
      (c ≠ 0 → u.gate = s.gate ∧ u.fleet = s.fleet ∧ u.reg Obj.activationResult = c) ∧
      (c = 0 → u.reg Obj.activationState = 1 ∧ ∃ a, u.gate.activation = some a ∧ (a.id : Int) = u.reg Obj.activationId ∧ a.time = time ∧ a.digest = digest ∧
        a.fleet = true ∧ a.committed = false ∧ a.cancelled = none ∧ a.answers = [] ∧
        ∀ b ∈ s.linkedBases, ∃ m ∈ u.fleet.linkOut, m.1 = b ∧ m.2 = .activation (leBytes 1 0x86 ++ (leBytes 4 a.id ++ leInt 8 time ++ leBytes 4 a.version ++ digest)))) ∧
  (∀ (s : State) (q : Sess), s.takesWrite q Obj.activationCommand 3 → s.updateRefused = false → s.activating = true → s.isManager = true → s.isBase = true →
    ∃ u a, exec (.activationCancel q) s = .next (s.settled (s.acked u q [])) ∧ s.changesOnly [.gate, .dict, .fleet, .zheoc, .sessions] u ∧
      s.gate.activation = some a ∧ u.gate.activation = some { a with cancelled := some 6 } ∧ u.reg Obj.activationState = 3 ∧ u.reg Obj.activationResult = 6 ∧
      u.gate.anchor.committed = false) ∧
  (∀ (s : State) (q : Sess), let aborted (v : Int) := s.settled (s.nacked (s.begun q Obj.activationCommand (encodeValue Obj.activationCommand v)) q abortAccess)
    (s.takesWrite q Obj.activationCommand 1 → s.updateRefused = true ∨ s.activating = true → exec (.activationLocal q) s = .next (aborted 1)) ∧
    (s.takesWrite q Obj.activationCommand 2 → s.updateRefused = true ∨ s.activating = true ∨ s.isManager = false ∨ s.isBase = false →
      exec (.activationFleet q) s = .next (aborted 2)) ∧
    (s.takesWrite q Obj.activationCommand 3 → s.updateRefused = true ∨ s.activating = false ∨ s.isManager = false ∨ s.isBase = false →
      exec (.activationCancel q) s = .next (aborted 3))) ∧
  (∀ (s : State) (a : Activation), s.gate.activation = some a → a.fleet = true → a.committed = false → a.cancelled = none → s.isManager = true → s.isBase = true →
    a.time - 10000000000 ≤ s.time64 →
    let ready := (∀ b ∈ s.linkedBases, Tab.get none a.answers (1000 + b) = some 0) ∧ (∀ n ∈ s.connectedSlots, Tab.get none a.answers n = some 0) ∧
      s.reg Obj.reservationsHeld = 0 ∧ s.mode.current ≠ .halt
    ∃ t, exec .activationCommitPoint s = .next (s.settled t) ∧ s.changesOnly [.gate, .dict, .fleet] t ∧
      (ready → t.gate.activation = some { a with committed := true } ∧ t.gate.anchor.committed = true ∧ t.reg Obj.activationState = 2) ∧
      (¬ready → t.gate.activation = some { a with cancelled := some 3 } ∧ t.gate.anchor.committed = false ∧ t.reg Obj.activationState = 3 ∧
        t.reg Obj.activationResult = 3)) ∧
  (∀ (s : State) (a : Activation), s.gate.activation = some a → a.fleet = true → a.committed = true → a.cancelled = none → s.isManager = true → s.isBase = true →
    a.time - 2000000000 ≤ s.time64 → s.allAnswered a 5 = false →
    ∃ t, exec .activationAnswerDeadline s = .next (s.settled t) ∧ s.changesOnly [.gate, .dict, .fleet] t ∧
      t.gate.activation = some { a with cancelled := some 4 } ∧ t.reg Obj.activationState = 3 ∧ t.reg Obj.activationResult = 4) ∧
  (∀ (s : State) (a : Activation), s.gate.activation = some a →
    (a.fleet = false ∨ a.committed = true ∨ a.cancelled.isSome = true ∨ s.isManager = false ∨ s.time64 < a.time - 10000000000 →
      exec .activationCommitPoint s = .next (s.settled s)) ∧
    (a.fleet = false ∨ a.committed = false ∨ a.cancelled.isSome = true ∨ s.isManager = false ∨ s.time64 < a.time - 2000000000 ∨ s.allAnswered a 5 = true →
      exec .activationAnswerDeadline s = .next (s.settled s))) ∧
  (∀ s : State, s.gate.activation = none →
    exec .activationCommitPoint s = .next (s.settled s) ∧ exec .activationAnswerDeadline s = .next (s.settled s) ∧ exec .activationTime s = .next (s.settled s)) ∧
  (∀ (s u : State) (x : Uplink) (d : List Byte), s.heeds → s.activationRx 0x86 x = (u, some d) → u.gate.activation = none → u.operating = true →
    u.mode.role = some .rover →
    let a : Activation := { id := fieldU d 0 4, time := fieldI d 4 8, version := fieldU d 12 4, digest := slice d 16 32, fleet := true, committed := false
                            answers := [], answered := none, cancelled := none }
    let c := if u.verifiedWith a.digest = false ∨ (u.zheoc.acting = true ∧ u.zheoc.pair = .inStep ∧ Config.standbyVerified a.digest = false) then 1 else if u.fleet.task.isSome then 2 else if u.mode.current = .halt then 3 else 0
    ∃ t, exec (.activationOfferRx x) s = .next (s.settled t) ∧ u.changesOnly [.gate, .dict, .radio] t ∧
      t.gate.activation = some { a with answered := some c } ∧ t.reg Obj.activationState = 1 ∧ t.reg Obj.activationId = a.id ∧
      t.radio.up.getLast?.map (·.item) = some { code := 6, data := leBytes 4 a.id ++ leBytes 1 c }) ∧
  (∀ (s u : State) (x : Uplink) (d : List Byte) (a : Activation), s.heeds → s.activationRx 0x87 x = (u, some d) → u.gate.activation = some a →
    a.id = fieldU d 0 4 → a.fleet = true → a.cancelled = none → u.operating = true → u.mode.role = some .rover → a.answered ≠ some 5 →
    ∃ t, exec (.activationCommitRx x) s = .next (s.settled t) ∧ u.changesOnly [.gate, .dict, .radio] t ∧ t.reg Obj.activationState = 2 ∧
      t.gate.anchor = { u.gate.anchor with committed := true } ∧
      t.gate.activation = some { a with committed := true, time := fieldI d 4 8, answered := some 5 } ∧
      t.radio.up.getLast?.map (·.item) = some { code := 6, data := leBytes 4 a.id ++ [5] }) ∧
  (∀ (s u : State) (x : Uplink) (d : List Byte) (a : Activation), s.heeds → s.activationRx 0x88 x = (u, some d) → u.gate.activation = some a →
    a.id = fieldU d 0 4 → a.fleet = true → a.cancelled = none → u.isManager = false →
    ∃ t, exec (.activationCancelRx x) s = .next (s.settled t) ∧ u.changesOnly [.gate, .dict] t ∧ t.reg Obj.activationState = 3 ∧
      t.reg Obj.activationResult = fieldU d 4 1 ∧ t.gate.activation = some { a with cancelled := some (fieldU d 4 1) } ∧ t.gate.anchor.committed = false) ∧
  (∀ (s u : State) (x : Uplink) (d : Option (List Byte)), s.heeds →
    (s.activationRx 0x86 x = (u, d) → d = none ∨ u.activating = true → exec (.activationOfferRx x) s = .next (s.settled u)) ∧
    (s.activationRx 0x87 x = (u, d) → d = none ∨ u.gate.activation = none ∨
      (∃ a, u.gate.activation = some a ∧ (a.id ≠ fieldU (d.getD []) 0 4 ∨ a.fleet = false ∨ a.cancelled.isSome = true)) →
      exec (.activationCommitRx x) s = .next (s.settled u)) ∧
    (s.activationRx 0x88 x = (u, d) → d = none ∨ u.gate.activation = none ∨
      (∃ a, u.gate.activation = some a ∧ (a.id ≠ fieldU (d.getD []) 0 4 ∨ a.fleet = false ∨ a.cancelled.isSome = true)) →
      exec (.activationCancelRx x) s = .next (s.settled u))) ∧
  (∀ (s : State) (h : LinkHead) (b : Nat) (d : List Byte) (a : Activation), s.heeds → s.isBase = true → s.isManager = true →
    ((s.acceptLink h).2 = true → s.gate.activation = some a → a.id = fieldU d 0 4 → a.fleet = true → b < 16 →
      ∃ t, exec (.activationAnswerRx (.link h b d)) s = .next (s.settled t) ∧ s.changesOnly [.gate, .octets, .fleet, .zheoc] t ∧
        t.gate.activation = some { a with answers := Tab.put none a.answers (1000 + b) (some (fieldU d 4 1)) }) ∧
    ((s.acceptLink h).2 = false → exec (.activationAnswerRx (.link h b d)) s = .next (s.settled s))) ∧
  (∀ (s u : State) (l : List (List Byte)) (m : Nat) (d : List Byte) (a : Activation), s.heeds → s.isBase = true → s.uplink 6 (.radio l) = (u, some (m, d)) →
    u.gate.activation = some a → a.id = fieldU d 0 4 → a.fleet = true →
    ∃ t, exec (.activationAnswerRx (.radio l)) s = .next (s.settled t) ∧ u.changesOnly [.gate, .octets, .fleet] t ∧
      t.gate.activation.map (·.answers) = some (Tab.put none a.answers (m % 128) (some (fieldU d 4 1)))) ∧
  (∀ (s u : State) (x : Uplink) (l : List (List Byte)), s.heeds →
    (s.isBase = false → exec (.activationAnswerRx x) s = .next (s.settled s)) ∧
    (s.isBase = true → s.uplink 6 (.radio l) = (u, none) → exec (.activationAnswerRx (.radio l)) s = .next (s.settled u))) ∧
  (∀ (s : State) (a : Activation), s.gate.activation = some a → a.committed = true → a.cancelled = none → s.operating = true → a.time ≤ s.time64 →
    ∃ t, exec .activationTime s = .next (s.settled t) ∧ s.changesOnly [.gate, .dict, .power, .store] t ∧ t.gate.activation = none ∧
      t.gate.anchor.committed = false ∧
      (s.mode.current = .halt → t.reg Obj.activationResult = 7 ∧ t.gate.anchor.trial = s.gate.anchor.trial ∧ t.power = s.power) ∧
      (s.mode.current ≠ .halt → a.fleet = false → s.mode.role = some .rover → s.fleet.task.isSome = true →
        t.reg Obj.activationResult = 9 ∧ t.gate.anchor.active = s.gate.anchor.active ∧ t.power = s.power) ∧
      (s.mode.current ≠ .halt → s.mode.current ≠ .holdup → a.fleet = true ∨ s.fleet.task = none → s.verifiedWith a.digest = true → s.power.saving = none →
        t.gate.anchor = { s.gate.anchor with active := some s.inactiveSlot, trial := true, committed := false, outcome := 4 } ∧
        t.reg Obj.activationState = 4 ∧ t.power.saving = some (.orderly .resetRequest))) ∧
  (∀ (s : State) (a : Activation), s.gate.activation = some a →
    (s.time64 < a.time ∨ s.operating = false → exec .activationTime s = .next (s.settled s)) ∧
    (a.time ≤ s.time64 → s.operating = true → a.cancelled.isSome = true ∨ a.committed = false → exec .activationTime s =
      .next (s.settled (s.updGate (fun g => { g with activation := none, anchor := { g.anchor with committed := false } })))))

/-! ## The pair of redundant bases (spec/20) -/

/-- Parts of R588 to R591, R594 to R596. The link that trains has both lanes and sends its hello; a lane dropped leaves it degraded, the
last one down and out of step, and a lane rejoins after 100 ms. Unacknowledged frames go again after 20 us or a CRC failure, counted; an
acknowledgement drops what it covers. Frames with a bad CRC or out of order, and all while the link is down, do nothing. A heartbeat
frame renews LINK_SEEN and the partner's state, a STANDBY unit in TRANSFER or in step takes over its halt state (log 186). A hello with
the keys and the image enters TRANSFER, a wrong key is KEY_MISMATCH. A part of the state laid over the fleet's, TransferProgress, and
the copy's end. A mirrored write takes effect in its frame and not on this unit's own objects. A mirrored input that waits 1 ms for its
acknowledgement, or a digest that differs, is out of step; 100 equal digests after the copy are in step. The acting unit sends its
digest once in each frame. A heartbeat goes out every 200 us while its emitter may, and a pulse counts in the partner's phase alone. Of
the model are the points of log 48, 64. -/
def Obligations.PairLink : Prop :=
  (∀ s : State,
    (s.inPair = true → s.linkUp = false → ∃ t, exec .linkTrained s = .next (s.settled t) ∧ s.changesOnly [.zheoc] t ∧ t.pairStatus % 4 = 1 ∧
      (s.zheoc.unacked.length < 256 → s.zheoc.held = [] → t.zheoc.txSeq = (s.zheoc.txSeq + 1) % 2 ^ 32 ∧
        t.zheoc.unacked = s.zheoc.unacked ++ [{ seq := s.zheoc.txSeq, type := 2, first := s.now, at_ := s.now }])) ∧
    (s.inPair = false ∨ s.linkUp = true → exec .linkTrained s = .next (s.settled s))) ∧
  (∀ (s : State) (n : Nat), n < 2 → let other := if n = 0 then s.zheoc.lane1 else s.zheoc.lane0
    (s.inPair = true → other = true → ∃ t, exec (.laneDrop n) s = .next (s.settled t) ∧ s.changesOnly [.zheoc] t ∧ t.pairStatus % 4 = 3 ∧
      t.zheoc.pair = s.zheoc.pair ∧ (if n = 0 then t.zheoc.lane0 else t.zheoc.lane1) = false ∧ Tab.get 0 t.zheoc.dropAt n = s.now) ∧
    (s.inPair = true → other = false → ∃ t, exec (.laneDrop n) s = .next (s.settled t) ∧ s.changesOnly [.zheoc] t ∧ t.pairStatus % 4 = 0 ∧
      t.zheoc.pair = if s.zheoc.pair = .inStep ∨ s.zheoc.pair = .transfer then .outOfStep else s.zheoc.pair) ∧
    (s.inPair = true → other = true → Tab.get 0 s.zheoc.dropAt n + 200000000 ≤ s.now → ∃ t, exec (.laneRejoin n) s = .next (s.settled t) ∧
      s.changesOnly [.zheoc] t ∧ t.pairStatus % 4 = 1) ∧
    (s.inPair = false → exec (.laneDrop n) s = .next (s.settled s)) ∧
    (s.inPair = false ∨ s.linkUp = false ∨ s.now < Tab.get 0 s.zheoc.dropAt n + 200000000 → exec (.laneRejoin n) s = .next (s.settled s))) ∧
  (∀ (s : State) (c : Bool) (f : ZlSent) (l : List ZlSent), s.zheoc.unacked = f :: l →
    (s.inPair = true → s.linkUp = true → c = true ∨ f.at_ + 40000 ≤ s.now →
      ∃ t, exec (.zlRetransmitTimeout c) s = .next (s.settled t) ∧ s.changesOnly [.zheoc, .dict] t ∧
        t.reg Obj.linkRetransmits = (s.reg Obj.linkRetransmits + 1) % 2 ^ 32 ∧ t.zheoc.unacked.map (·.seq) = s.zheoc.unacked.map (·.seq) ∧
        ∀ x ∈ t.zheoc.unacked, x.at_ = s.now) ∧
    (s.inPair = false ∨ s.linkUp = false ∨ (c = false ∧ s.now < f.at_ + 40000) → exec (.zlRetransmitTimeout c) s = .next (s.settled s))) ∧
  (∀ (s : State) (c : Bool), s.zheoc.unacked = [] → exec (.zlRetransmitTimeout c) s = .next (s.settled s)) ∧
  (∀ (s : State) (f : ZlFrame), s.inPair = false ∨ s.linkUp = false ∨ f.crcOk = false ∨ (f.payload.counted = true ∧ f.seq ≠ s.zheoc.rxSeq) →
    exec (.zlFrameRx f) s = .next (s.settled s)) ∧
  (∀ (s : State) (n : Nat) (b : Beat), s.inPair = true → s.linkUp = true → s.zheoc.acting = true → s.mode.current ≠ .standby → b.mode = .standby →
    s.zheoc.pair = .transfer →
    ∃ t, exec (.zlFrameRx { crcOk := true, seq := n, payload := .heartbeat b }) s = .next (s.settled t) ∧ s.changesOnly [.zheoc, .dict, .octets] t ∧
      t.zheoc.linkSeen = some s.now ∧ t.zheoc.partner = some b ∧ t.zheoc.rxSeq = s.zheoc.rxSeq ∧ t.oct Obj.partnerDeviceId = b.device ∧
      t.zheoc.pair = if b.pair = .noPartner then .linking else b.pair) ∧
  (∀ (s : State) (n : Nat) (b : Beat), s.inPair = true → s.linkUp = true → s.zheoc.acting = false → s.mode.current = .standby →
    ∃ t, exec (.zlFrameRx { crcOk := true, seq := n, payload := .heartbeat b }) s = .next (s.settled t) ∧
      s.changesOnly [.zheoc, .dict, .octets, .mode, .store, .milestone, .draws] t ∧ t.zheoc.linkSeen = some s.now ∧ t.zheoc.partner = some b ∧
      t.zheoc.pair = (if s.zheoc.pair = .noPartner then .linking else if s.zheoc.pair = .inStep ∧ b.pair = .outOfStep then .outOfStep else s.zheoc.pair) ∧
      t.mode.haltFlag = if (t.zheoc.pair = .transfer ∨ t.zheoc.pair = .inStep) ∧ b.mode = .halt then some (s.mode.haltFlag.getD .failover)
        else if (t.zheoc.pair = .transfer ∨ t.zheoc.pair = .inStep) ∧ b.mode = .base then none else s.mode.haltFlag) ∧
  (∀ (s : State) (n k : Nat), s.inPair = true → s.linkUp = true → s.zheoc.held = [] →
    ∃ t, exec (.zlFrameRx { crcOk := true, seq := n, payload := .ack k }) s = .next (s.settled t) ∧ s.changesOnly [.zheoc] t ∧
      t.zheoc = { s.zheoc with unacked := s.zheoc.unacked.filter (fun f => decide (0 < signedDiff 32 f.seq k)) }) ∧
  (∀ (s : State) (h : Hello), s.inPair = true → s.linkUp = true → s.mode.current = .standby → s.zheoc.pair = .linking → s.zheoc.imageMismatch = false →
    s.zheoc.keyMismatch = false → s.gate.running.map (·.digest) = some h.image →
    let f : ZlFrame := { crcOk := true, seq := s.zheoc.rxSeq, payload := .hello h }
    let good := h.code = Config.hmacSha256 ((s.keyOf 7).getD []) (h.device ++ s.deviceId) ∧
      h.slot6 = Config.hmacSha256 ((s.keyOf 7).getD []) (Config.sha256 ((s.keyOf 6).getD []))
    ∃ t, exec (.zlFrameRx f) s = .next (s.settled t) ∧ s.changesOnly [.zheoc, .octets] t ∧ t.zheoc.rxSeq = (s.zheoc.rxSeq + 1) % 2 ^ 32 ∧
      t.zheoc.acked = some s.zheoc.rxSeq ∧ (good → t.zheoc.pair = .transfer ∧ t.zheoc.keyMismatch = false) ∧
      (¬good → t.zheoc.pair = .linking ∧ t.zheoc.keyMismatch = true)) ∧
  (∀ (s : State) (x : FleetState) (n : Nat), s.inPair = true → s.linkUp = true → s.mode.current = .standby → s.zheoc.pair = .transfer →
    ∃ t, exec (.zlFrameRx { crcOk := true, seq := s.zheoc.rxSeq, payload := .state (.fleet x) n }) s = .next (s.settled t) ∧
      s.changesOnly [.zheoc, .fleet, .dict] t ∧ t.fleet = x ∧ t.reg Obj.transferProgress = (min n 100 : Nat)) ∧
  (∀ s : State,
    (s.mode.current = .standby → s.zheoc.pair = .transfer → ∃ t, exec .transferComplete s = .next (s.settled t) ∧ s.changesOnly [.zheoc, .dict] t ∧
      t.zheoc = { s.zheoc with copied := true, equalRun := 0 } ∧ t.reg Obj.transferProgress = 100) ∧
    (s.mode.current ≠ .standby ∨ s.zheoc.pair ≠ .transfer → exec .transferComplete s = .next (s.settled s))) ∧
  (∀ (s : State) (q n k : Nat) (v : Int) (o : ObjDesc), s.inPair = true → s.linkUp = true → s.mode.current = .standby → s.zheoc.waiting = [] →
    s.zheoc.rxSeq = q → objOfKey k = some o →
    let z : ZheocState := { s.zheoc with rxSeq := (q + 1) % 2 ^ 32, acked := some q, inputs := s.zheoc.inputs ++ [q] }
    (n ≤ s.frameNumber → ownPair k = false →
      ∃ t, exec (.mirroredInputRx q n (.num k v)) s = .next (s.settled t) ∧
        s.changesOnly ([.zheoc, .dict] ++ if o.acc = .rws then [.store, .milestone, .draws] else []) t ∧ t.regAt o (k % 2 ^ 32) = v ∧ t.zheoc = z) ∧
    (s.frameNumber < n → ∃ t, exec (.mirroredInputRx q n (.num k v)) s = .next (s.settled t) ∧ s.changesOnly [.zheoc] t ∧
      t.zheoc = { z with waiting := [(n, .num k v)] }) ∧
    (n ≤ s.frameNumber → ownPair k = true → ∃ t, exec (.mirroredInputRx q n (.num k v)) s = .next (s.settled t) ∧ s.changesOnly [.zheoc] t ∧ t.zheoc = z)) ∧
  (∀ (s : State) (q n : Nat) (x : MirrorInput),
    (s.inPair = false ∨ s.linkUp = false ∨ s.zheoc.rxSeq ≠ q → exec (.mirroredInputRx q n x) s = .next (s.settled s)) ∧
    (s.inPair = true → s.linkUp = true → s.zheoc.rxSeq = q → s.mode.current ≠ .standby → exec (.mirroredInputRx q n x) s =
      .next (s.settled (s.updZheoc (fun z => { z with rxSeq := (q + 1) % 2 ^ 32, acked := some q }))))) ∧
  (∀ s : State,
    let late := (∃ f ∈ s.zheoc.unacked, f.type = 5 ∧ f.first + 2000000 ≤ s.now) ∨ (∃ e ∈ s.zheoc.held, e.1 = 5 ∧ e.2 + 2000000 ≤ s.now)
    (s.zheoc.acting = true → s.zheoc.pair = .inStep → late →
      ∃ t, exec .mirrorTimeout s = .next (s.settled t) ∧ s.changesOnly [.zheoc] t ∧ t.zheoc.pair = .outOfStep ∧ t.zheoc.acting = true) ∧
    (s.zheoc.acting = false ∨ s.zheoc.pair ≠ .inStep ∨ ¬late → exec .mirrorTimeout s = .next (s.settled s))) ∧
  (∀ s : State, s.inPair = true → s.operating = true → s.linkUp = true → s.zheoc.frameAt ≠ some s.frameNumber → s.zheoc.acting = true →
    ∃ t, exec .frameDigest s = .next (s.settled t) ∧ s.changesOnly [.zheoc] t ∧ t.zheoc.inputs = [] ∧ t.zheoc.frameAt = some s.frameNumber ∧
      t.zheoc.digest = some (s.ownDigest s.radio.fseq, s.radio.fseq)) ∧
  (∀ (s : State) (d : BitVec 32) (n : Nat), s.inPair = true → s.operating = true → s.linkUp = true → s.zheoc.frameAt ≠ some s.frameNumber →
    s.zheoc.acting = false → s.mode.current = .standby → s.zheoc.waiting = [] → s.zheoc.digest = some (d, n) →
    (s.zheoc.pair = .inStep → ∃ t, exec .frameDigest s = .next (s.settled t) ∧ s.changesOnly [.zheoc, .radio, .dict] t ∧ t.radio.fseq = n ∧
      (d = s.ownDigest n → t.zheoc.pair = .inStep ∧ t.dict = s.dict) ∧
      (d ≠ s.ownDigest n → t.zheoc.pair = .outOfStep ∧ t.reg Obj.digestMismatches = (s.reg Obj.digestMismatches + 1) % 2 ^ 32)) ∧
    (s.zheoc.pair = .transfer → s.zheoc.copied = true → d = s.ownDigest n →
      ∃ t, exec .frameDigest s = .next (s.settled t) ∧ s.changesOnly [.zheoc, .radio] t ∧ t.zheoc.equalRun = s.zheoc.equalRun + 1 ∧
        t.zheoc.pair = if 99 ≤ s.zheoc.equalRun then .inStep else .transfer)) ∧
  (∀ s : State, s.inPair = true → s.operating = true → s.linkUp = true → s.zheoc.frameAt ≠ some s.frameNumber → s.zheoc.acting = false →
    s.mode.current = .standby → s.zheoc.waiting = [] → s.zheoc.pair = .outOfStep →
    ∃ t, exec .frameDigest s = .next (s.settled t) ∧ s.changesOnly [.zheoc, .dict] t ∧ t.zheoc.pair = .transfer ∧
      t.zheoc.copied = false ∧ t.reg Obj.transferProgress = 0) ∧
  (∀ s : State, s.inPair = false ∨ s.operating = false ∨ s.linkUp = false ∨ s.zheoc.frameAt = some s.frameNumber →
    exec .frameDigest s = .next (s.settled s)) ∧
  (∀ (s : State) (f : Bool), s.inPair = true → s.operating = true → s.zheoc.beatAt + 400000 ≤ s.now →
    let b : Beat := { device := s.deviceId, mode := s.mode.current, pair := s.zheoc.pair, frame := s.frameNumber, epoch := s.gate.linkEpoch }
    let acts := (s.mode.current = .base ∨ s.mode.current = .halt) ∧ s.zheoc.acting = true ∧ s.zheoc.deposed = false
    (acts → f = true → exec (.heartbeatTx f) s =
      .next (s.settled (s.updZheoc (fun z => { z with token := s.now, stopped := false, beat := some b, beatAt := s.now })))) ∧
    (acts → f = false → s.zheoc.stopped = false → s.now < s.zheoc.token + 1000000 → exec (.heartbeatTx f) s =
      .next (s.settled (s.updZheoc (fun z => { z with beat := some b, beatAt := s.now })))) ∧
    (s.mode.current = .base ∨ s.mode.current = .halt → f = false → s.zheoc.token + 1000000 ≤ s.now ∨ s.zheoc.stopped = true ∨ s.zheoc.deposed = true ∨
      s.zheoc.acting = false → exec (.heartbeatTx f) s = .next (s.settled s)) ∧
    (s.mode.current = .standby → ∃ t, exec (.heartbeatTx f) s = .next (s.settled t) ∧ s.changesOnly [.zheoc] t ∧ t.zheoc.beat = some b ∧
      t.zheoc.beatAt = s.now)) ∧
  (∀ (s : State) (f : Bool), s.inPair = false ∨ s.operating = false ∨ s.now < s.zheoc.beatAt + 400000 → exec (.heartbeatTx f) s = .next (s.settled s)) ∧
  (∀ s : State,
    let p := (s.time64 - if s.zheoc.acting then 100000 else 0) % 200000
    (s.inPair = true → p ≤ 20000 ∨ 180000 ≤ p → ∃ t, exec .hbPulseRx s = .next (s.settled t) ∧ s.changesOnly [.zheoc, .dict] t ∧
      t.zheoc = { s.zheoc with pulseSeen := some s.now }) ∧
    (s.inPair = false ∨ (20000 < p ∧ p < 180000) → exec .hbPulseRx s = .next (s.settled s)))

/-- Parts of R591 to R593, R598, R599, R601. The health token stops the heartbeat after 0.5 ms, 3 ms without one depose an acting unit in
step, and 5.5 ms fence it: its lands Hi-Z, its transceivers off, its orderly save and reset. Both paths lost for 3 ms, a STANDBY unit in
step takes over, in BASE or, where the partner halted or a stop input is held, in HALT, unless a reset or hold-up waits (log 142);
HALT_OUT stays Hi-Z until 5.6 ms after the last heartbeat, then it leaves Hi-Z high (R73). Elsewhere there is then no partner. BOOT
chooses the mode after 20 ms of listening, or 30 ms where nothing was found. Two acting units: DUAL_ACTIVE, and the higher DEV_ID
resets. At the boundary of a role switch the acting unit goes to STANDBY, holding HALT_OUT low for 1 us more, and its partner to BASE.
Of the model are the points of log 65. -/
def Obligations.Failover : Prop :=
  (∀ s : State,
    (s.inPair = true → s.zheoc.acting = true → s.zheoc.token + 1000000 ≤ s.now →
      exec .healthTokenExpiry s = .next (s.settled (s.updZheoc (fun z => { z with stopped := true })))) ∧
    (s.inPair = false ∨ s.zheoc.acting = false ∨ s.now < s.zheoc.token + 1000000 → exec .healthTokenExpiry s = .next (s.settled s)) ∧
    (s.inPair = true → s.zheoc.acting = true → s.zheoc.pair = .inStep → s.zheoc.beatAt + 6000000 ≤ s.now →
      exec .depose s = .next (s.settled (s.updZheoc (fun z => { z with deposed := true })))) ∧
    (s.inPair = false ∨ s.zheoc.acting = false ∨ s.zheoc.pair ≠ .inStep ∨ s.now < s.zheoc.beatAt + 6000000 → exec .depose s = .next (s.settled s))) ∧
  (∀ s : State, s.zheoc.deposed = true → s.zheoc.fenced = false → s.zheoc.beatAt + 11000000 ≤ s.now → s.power.saving = none → s.mode.current ≠ .holdup →
    s.bank.count 0x92 + 1 < 2 ^ 32 →
    ∃ t, exec .fence s = .next (s.settled t) ∧ s.changesOnly [.zheoc, .clk, .radio, .milestone, .draws, .power, .store] t ∧
      t.zheoc = { s.zheoc with fenced := true } ∧ t.radio = { s.radio with on := false, txA := [], txB := [] } ∧
      t.power.saving = some (SaveKind.orderly .resetRequest) ∧ t.bank.count 0x92 = s.bank.count 0x92 + 1 ∧
      (s.mode.current = .base ∨ s.mode.current = .halt → s.mode.clockFail = none →
        (s.settled t).outputs.haltOutA = .hiZ ∧ (s.settled t).outputs.haltOutB = .hiZ ∧ (s.settled t).outputs.ppsOut = .hiZ ∧
        (s.settled t).outputs.radio = .hiZ ∧ (s.settled t).outputs.paEnA = .hiZ ∧ (s.settled t).outputs.paEnB = .hiZ)) ∧
  (∀ s : State, s.zheoc.deposed = false ∨ s.zheoc.fenced = true ∨ s.now < s.zheoc.beatAt + 11000000 → exec .fence s = .next (s.settled s)) ∧
  (∀ (s : State) (b : Beat), s.inPair = true → s.operating = true → s.linkLost = true → s.landLost = true → s.mode.current = .standby → s.zheoc.pair = .inStep →
    s.zheoc.partner = some b → s.zheoc.fenced = false → s.mode.clockFail = none → s.bank.count 0x91 + 1 < 2 ^ 32 → s.resetWaits = false →
    let th := max (s.zheoc.linkSeen.getD 0) (s.zheoc.pulseSeen.getD 0)
    ∃ t, exec .heartbeatLoss s = .next (s.settled t) ∧ t.reg Obj.failovers = (s.reg Obj.failovers + 1) % 2 ^ 32 ∧ t.zheoc.acting = true ∧
      t.zheoc.haltOutFrom = some (th + 11200000) ∧ t.bank.count 0x91 = s.bank.count 0x91 + 1 ∧
      (s.settled t).outputs.haltOutA = .hiZ ∧ (s.settled t).outputs.haltOutB = .hiZ ∧
      (s.crier.levelA = false → s.crier.levelB = false →
        t.radio.fseq = (s.radio.fseq + 256) % 65536 ∧
        (b.mode ≠ .halt → t.mode.current = .base ∧ t.gate.linkEpoch = (b.epoch + 1) % 2 ^ 32 ∧ t.fleet.linkSeq = s.heartbeatPeers.length ∧
          s.changesOnly [.mode, .host, .zheoc, .gate, .fleet, .radio, .gnss, .dict, .milestone, .draws] t) ∧
        (b.mode = .halt → t.mode.current = .halt ∧ t.mode.haltCause = .failover)) ∧
      (s.crier.levelA = true ∨ s.crier.levelB = true → t.mode.current = .halt ∧ t.mode.haltCause = .stopInput)) ∧
  (∀ s : State, s.inPair = true → s.operating = true → s.linkLost = true → s.landLost = true →
    (s.mode.current = .standby → s.zheoc.pair = .inStep → s.resetWaits = true →
      ∃ t, exec .heartbeatLoss s = .next (s.settled t) ∧ s.changesOnly [.dict] t) ∧
    (s.zheoc.pair ≠ .inStep ∨ s.mode.current ≠ .standby →
      ∃ t, exec .heartbeatLoss s = .next (s.settled t) ∧ s.changesOnly [.zheoc, .dict] t ∧ t.zheoc.pair = .noPartner ∧ t.zheoc.acting = s.zheoc.acting)) ∧
  (∀ s : State, s.inPair = false ∨ s.operating = false ∨ s.linkLost = false ∨ s.landLost = false → exec .heartbeatLoss s = .next (s.settled s)) ∧
  (∀ s : State, (s.linkLost = true ↔ s.zheoc.linkSeen.getD 0 + 6000000 ≤ s.now) ∧ (s.landLost = true ↔ s.zheoc.pulseSeen.getD 0 + 6000000 ≤ s.now) ∧
    (s.inPair = true → s.operating = true → s.pairStatus.testBit 2 = s.linkLost ∧ s.pairStatus.testBit 3 = s.landLost)) ∧
  (∀ (s : State) (n : Nat), s.zheoc.haltOutFrom = some n → s.mode.clockFail = none →
    (n ≤ s.now → ∃ t, exec .haltOutTakeover s = .next (s.settled t) ∧ s.changesOnly [.zheoc] t ∧ t.zheoc = { s.zheoc with haltOutFrom := none } ∧
      (s.zheoc.fenced = false → s.mode.current = .base → (s.settled t).outputs.haltOutA = (if s.outputs.haltOutA = .hiZ then .high else .low) ∧
        (s.settled t).outputs.haltOutB = (if s.outputs.haltOutB = .hiZ then .high else .low)) ∧
      (s.zheoc.fenced = false → s.mode.current = .halt → (s.settled t).outputs.haltOutA = .high ∧ (s.settled t).outputs.haltOutB = .high)) ∧
    (s.now < n → exec .haltOutTakeover s = .next (s.settled s))) ∧
  (∀ s : State, s.zheoc.haltOutFrom = none → exec .haltOutTakeover s = .next (s.settled s)) ∧
  (∀ (s : State) (low higher : Bool),
    let ends := s.gate.releasedAt + if s.partnerFound then 40000000 else 60000000
    (s.inPair = true → s.mode.current = .boot → s.zheoc.choice = none → ends ≤ s.now →
      ∃ t, exec (.partnerArbitration low higher) s = .next (s.settled t) ∧ s.changesOnly [.zheoc] t ∧
        (∀ b, s.zheoc.partner = some b → t.zheoc.choice =
          some (if b.mode = .base ∨ b.mode = .halt ∨ beNat b.device < beNat s.deviceId then .standby else .base)) ∧
        (∀ h, s.zheoc.partner = none → s.zheoc.hello = some h →
          t.zheoc.choice = some (if beNat h.device < beNat s.deviceId then .standby else .base)) ∧
        (s.zheoc.partner = none → s.zheoc.hello = none → t.zheoc.choice =
          some (if s.pulseFound = true ∨ (low = true ∧ higher = true) then .standby else .base))) ∧
    (s.inPair = false ∨ s.mode.current ≠ .boot ∨ s.zheoc.choice.isSome = true ∨ s.now < ends →
      exec (.partnerArbitration low higher) s = .next (s.settled s))) ∧
  (∀ (s : State) (pulse higher : Bool),
    let sees := pulse = true ∨ (∃ b, s.zheoc.partner = some b ∧ b.mode = .base ∧ s.linkLost = false)
    (s.inPair = true → s.zheoc.acting = true → s.mode.current = .base → s.power.saving = none → sees →
      ∃ t, exec (.dualActiveDetect pulse higher) s = .next (s.settled t) ∧ s.changesOnly [.zheoc, .milestone, .draws, .power, .store] t ∧
        t.zheoc = { s.zheoc with dualActive := true } ∧
        (if (match s.zheoc.partner with | none => higher | some b => decide (beNat b.device < beNat s.deviceId)) then
          t.power.saving = some (SaveKind.orderly .resetRequest) else t.power = s.power ∧ t.milestone = s.milestone)) ∧
    (s.inPair = false ∨ s.zheoc.acting = false ∨ s.mode.current ≠ .base ∨ ¬sees → exec (.dualActiveDetect pulse higher) s = .next (s.settled s))) ∧
  (∀ (s : State) (n : Int), s.zheoc.switchAt = some n → n ≤ s.time64 → s.mode.clockFail = none →
    (s.mode.current = .base → s.zheoc.acting = true → s.mode.transition = some .standby →
      ∃ t, exec .roleSwitch s = .next (s.settled t) ∧ s.changesOnly [.mode, .host, .zheoc, .radio] t ∧ t.mode.current = .standby ∧ t.mode.prev = .base ∧
        t.zheoc.acting = false ∧ t.radio.on = false ∧ t.zheoc.haltOutUntil = some (s.now + 2000) ∧
        (s.outputs.haltOutA = .low → (s.settled t).outputs.haltOutA = .low)) ∧
    (∀ b, s.mode.current = .standby → s.zheoc.pair = .inStep → s.zheoc.partner = some b → s.zheoc.fenced = false → s.zheoc.haltOutFrom = none →
      ∃ t, exec .roleSwitch s = .next (s.settled t) ∧ s.changesOnly [.mode, .host, .zheoc, .gate, .fleet, .radio, .gnss] t ∧ t.mode.current = .base ∧
        t.mode.prev = .standby ∧ t.zheoc.acting = true ∧ t.radio.fseq = (s.radio.fseq + 256) % 65536 ∧ t.gate.linkEpoch = (b.epoch + 1) % 2 ^ 32 ∧
        (s.settled t).outputs.haltOutA = if s.outputs.haltOutA = .hiZ then .high else .low)) ∧
  (∀ s : State, s.zheoc.switchAt = none ∨ (∃ n, s.zheoc.switchAt = some n ∧ s.time64 < n) → exec .roleSwitch s = .next (s.settled s))

/-! ## The block: its queue, its tick, its reset, its lands -/

/-- The next command that the block takes is the one at the front of its queue, with the rest of the queue left. -/
def Obligations.StepRunsFront : Prop :=
  ∀ (s : State) (c : Instr) (l : List Instr), step { s with pending := c :: l } = exec c { s with pending := l }

/-- No command changes the queue of those that wait, and after each the lands are those that the state gives with what they were before
(R71, R73, R499). -/
def Obligations.QueueKept : Prop :=
  ∀ (c : Instr) (s t : State), exec c s = .next t → t.pending = s.pending ∧ ∃ o : Outputs, t.outputs = ({ t with outputs := o } : State).outputsNow

/-- Parts of R36 and R379, with the model's tick on an empty queue (log 8). Idle steps outside RESET advance C by 8 each modulo 2^64; beside
the clock they change at most the charge of VHOLD, the work of the cores, a Milestone entry and the lands. In RESET C stands. After a
PLL lost lock the next idle step enters RESET by clock failure, every land Hi-Z and C at 0. -/
def Obligations.IdleTicks : Prop :=
  (∀ s : State, s.pending = [] → step s = .next s.idle) ∧
  (∀ (s : State) (n : Nat), s.mode.current ≠ .reset → s.mode.clockFail = none →
    let t := (List.replicate n ()).foldl (fun x _ => x.idle) s
    t.clk.c = s.clk.c + BitVec.ofNat 64 (8 * n) ∧ s.changesOnly [.clk, .power, .roundabout, .milestone, .draws, .outputs] t) ∧
  (∀ s : State, s.mode.current = .reset → s.mode.clockFail = none → s.changesOnly [.power] s.idle) ∧
  (∀ (s : State) (d : ClockDomain), s.mode.clockFail = some d → s.idle.mode.current = .reset ∧ s.idle.power.endedBy = .clockFailure d ∧ s.idle.clk.c = 0 ∧
    s.idle.outputs = Outputs.allHiZ ∧ s.idle.pending = s.pending)

/-- What every step leaves at the lands (parts of R36, R71, R499, R592, R598): whatever the command, the next state's outputs are those that
its mode, its fence and its enabled interrupt flags allow. Of the model are the points of log 62. -/
def Obligations.LandsHoldKept : Prop :=
  ∀ s t : State, s.landsHold → step s = .next t → t.landsHold

/-- R47, R71, R379, R499, R504: right after reset the module is in RESET with every output Hi-Z, C at 0, IRQ_STATUS, IRQ_ENABLE and HOST_CFG
at 0, and every object at its default. Of the model are the points of log 1, 3. -/
def Obligations.ResetState : Prop :=
  State.reset.landsHold ∧ State.reset.mode.current = .reset ∧ State.reset.outputs = Outputs.allHiZ ∧ State.reset.clk.c = 0 ∧
  State.reset.pending = [] ∧ State.reset.hostReg 0x0010 = 0 ∧ State.reset.hostReg 0x0014 = 0 ∧
  State.reset.hostReg 0x0018 = 0 ∧ (∀ (o : ObjDesc) (i : Nat), State.reset.regAt o i = o.dflt)

/-- R23: signed difference orders n-bit values: later where (a − b) mod 2^n read as two's complement is positive, equal where it is 0,
earlier where it is negative, and earlier at exactly 2^(n − 1). -/
def Obligations.SignedOrder : Prop :=
  (∀ n a b : Nat, 0 < n → signedDiff n a b = (BitVec.ofInt n ((a : Int) - b)).toInt) ∧
  (∀ n a b : Nat, 0 < n → (0 < signedDiff n a b ↔ 0 < (BitVec.ofInt n ((a : Int) - b)).toInt) ∧ (signedDiff n a b = 0 ↔ a % 2 ^ n = b % 2 ^ n) ∧
    (signedDiff n a b < 0 ↔ (BitVec.ofInt n ((a : Int) - b)).toInt < 0)) ∧
  (∀ n b : Nat, signedDiff (n + 1) (b + 2 ^ n) b < 0)
end

