-- ==== Sys2Proof/Laws/State.lean ====
section
/-!
SUPPORT. Laws/State.lean: what every part of the state is after each of the small updates.
-/
namespace Sys2Proof.Machine

/-! updates of power -/

@[simp] theorem State.updPower_mode (s : State) (f : PowerState → PowerState) : (s.updPower f).mode = s.mode := rfl
@[simp] theorem State.updPower_boot (s : State) (f : PowerState → PowerState) : (s.updPower f).boot = s.boot := rfl
@[simp] theorem State.updPower_outputs (s : State) (f : PowerState → PowerState) : (s.updPower f).outputs = s.outputs := rfl
@[simp] theorem State.updPower_power (s : State) (f : PowerState → PowerState) : (s.updPower f).power = f s.power := rfl
@[simp] theorem State.updPower_clk (s : State) (f : PowerState → PowerState) : (s.updPower f).clk = s.clk := rfl
@[simp] theorem State.updPower_roundabout (s : State) (f : PowerState → PowerState) : (s.updPower f).roundabout = s.roundabout := rfl
@[simp] theorem State.updPower_queues (s : State) (f : PowerState → PowerState) : (s.updPower f).queues = s.queues := rfl
@[simp] theorem State.updPower_host (s : State) (f : PowerState → PowerState) : (s.updPower f).host = s.host := rfl
@[simp] theorem State.updPower_mbox (s : State) (f : PowerState → PowerState) : (s.updPower f).mbox = s.mbox := rfl
@[simp] theorem State.updPower_sessions (s : State) (f : PowerState → PowerState) : (s.updPower f).sessions = s.sessions := rfl
@[simp] theorem State.updPower_remotes (s : State) (f : PowerState → PowerState) : (s.updPower f).remotes = s.remotes := rfl
@[simp] theorem State.updPower_gnss (s : State) (f : PowerState → PowerState) : (s.updPower f).gnss = s.gnss := rfl
@[simp] theorem State.updPower_obs (s : State) (f : PowerState → PowerState) : (s.updPower f).obs = s.obs := rfl
@[simp] theorem State.updPower_baseRef (s : State) (f : PowerState → PowerState) : (s.updPower f).baseRef = s.baseRef := rfl
@[simp] theorem State.updPower_nav (s : State) (f : PowerState → PowerState) : (s.updPower f).nav = s.nav := rfl
@[simp] theorem State.updPower_blv (s : State) (f : PowerState → PowerState) : (s.updPower f).blv = s.blv := rfl
@[simp] theorem State.updPower_kerb (s : State) (f : PowerState → PowerState) : (s.updPower f).kerb = s.kerb := rfl
@[simp] theorem State.updPower_cover (s : State) (f : PowerState → PowerState) : (s.updPower f).cover = s.cover := rfl
@[simp] theorem State.updPower_cache (s : State) (f : PowerState → PowerState) : (s.updPower f).cache = s.cache := rfl
@[simp] theorem State.updPower_fleet (s : State) (f : PowerState → PowerState) : (s.updPower f).fleet = s.fleet := rfl
@[simp] theorem State.updPower_radio (s : State) (f : PowerState → PowerState) : (s.updPower f).radio = s.radio := rfl
@[simp] theorem State.updPower_crier (s : State) (f : PowerState → PowerState) : (s.updPower f).crier = s.crier := rfl
@[simp] theorem State.updPower_gate (s : State) (f : PowerState → PowerState) : (s.updPower f).gate = s.gate := rfl
@[simp] theorem State.updPower_tram (s : State) (f : PowerState → PowerState) : (s.updPower f).tram = s.tram := rfl
@[simp] theorem State.updPower_net (s : State) (f : PowerState → PowerState) : (s.updPower f).net = s.net := rfl
@[simp] theorem State.updPower_meter (s : State) (f : PowerState → PowerState) : (s.updPower f).meter = s.meter := rfl
@[simp] theorem State.updPower_zheoc (s : State) (f : PowerState → PowerState) : (s.updPower f).zheoc = s.zheoc := rfl
@[simp] theorem State.updPower_store (s : State) (f : PowerState → PowerState) : (s.updPower f).store = s.store := rfl
@[simp] theorem State.updPower_milestone (s : State) (f : PowerState → PowerState) : (s.updPower f).milestone = s.milestone := rfl
@[simp] theorem State.updPower_dict (s : State) (f : PowerState → PowerState) : (s.updPower f).dict = s.dict := rfl
@[simp] theorem State.updPower_bootDict (s : State) (f : PowerState → PowerState) : (s.updPower f).bootDict = s.bootDict := rfl
@[simp] theorem State.updPower_octets (s : State) (f : PowerState → PowerState) : (s.updPower f).octets = s.octets := rfl
@[simp] theorem State.updPower_periods (s : State) (f : PowerState → PowerState) : (s.updPower f).periods = s.periods := rfl
@[simp] theorem State.updPower_draws (s : State) (f : PowerState → PowerState) : (s.updPower f).draws = s.draws := rfl
@[simp] theorem State.updPower_pending (s : State) (f : PowerState → PowerState) : (s.updPower f).pending = s.pending := rfl

/-! updates of boot -/

@[simp] theorem State.updBoot_mode (s : State) (f : BootState → BootState) : (s.updBoot f).mode = s.mode := rfl
@[simp] theorem State.updBoot_boot (s : State) (f : BootState → BootState) : (s.updBoot f).boot = f s.boot := rfl
@[simp] theorem State.updBoot_outputs (s : State) (f : BootState → BootState) : (s.updBoot f).outputs = s.outputs := rfl
@[simp] theorem State.updBoot_power (s : State) (f : BootState → BootState) : (s.updBoot f).power = s.power := rfl
@[simp] theorem State.updBoot_clk (s : State) (f : BootState → BootState) : (s.updBoot f).clk = s.clk := rfl
@[simp] theorem State.updBoot_roundabout (s : State) (f : BootState → BootState) : (s.updBoot f).roundabout = s.roundabout := rfl
@[simp] theorem State.updBoot_queues (s : State) (f : BootState → BootState) : (s.updBoot f).queues = s.queues := rfl
@[simp] theorem State.updBoot_host (s : State) (f : BootState → BootState) : (s.updBoot f).host = s.host := rfl
@[simp] theorem State.updBoot_mbox (s : State) (f : BootState → BootState) : (s.updBoot f).mbox = s.mbox := rfl
@[simp] theorem State.updBoot_sessions (s : State) (f : BootState → BootState) : (s.updBoot f).sessions = s.sessions := rfl
@[simp] theorem State.updBoot_remotes (s : State) (f : BootState → BootState) : (s.updBoot f).remotes = s.remotes := rfl
@[simp] theorem State.updBoot_gnss (s : State) (f : BootState → BootState) : (s.updBoot f).gnss = s.gnss := rfl
@[simp] theorem State.updBoot_obs (s : State) (f : BootState → BootState) : (s.updBoot f).obs = s.obs := rfl
@[simp] theorem State.updBoot_baseRef (s : State) (f : BootState → BootState) : (s.updBoot f).baseRef = s.baseRef := rfl
@[simp] theorem State.updBoot_nav (s : State) (f : BootState → BootState) : (s.updBoot f).nav = s.nav := rfl
@[simp] theorem State.updBoot_blv (s : State) (f : BootState → BootState) : (s.updBoot f).blv = s.blv := rfl
@[simp] theorem State.updBoot_kerb (s : State) (f : BootState → BootState) : (s.updBoot f).kerb = s.kerb := rfl
@[simp] theorem State.updBoot_cover (s : State) (f : BootState → BootState) : (s.updBoot f).cover = s.cover := rfl
@[simp] theorem State.updBoot_cache (s : State) (f : BootState → BootState) : (s.updBoot f).cache = s.cache := rfl
@[simp] theorem State.updBoot_fleet (s : State) (f : BootState → BootState) : (s.updBoot f).fleet = s.fleet := rfl
@[simp] theorem State.updBoot_radio (s : State) (f : BootState → BootState) : (s.updBoot f).radio = s.radio := rfl
@[simp] theorem State.updBoot_crier (s : State) (f : BootState → BootState) : (s.updBoot f).crier = s.crier := rfl
@[simp] theorem State.updBoot_gate (s : State) (f : BootState → BootState) : (s.updBoot f).gate = s.gate := rfl
@[simp] theorem State.updBoot_tram (s : State) (f : BootState → BootState) : (s.updBoot f).tram = s.tram := rfl
@[simp] theorem State.updBoot_net (s : State) (f : BootState → BootState) : (s.updBoot f).net = s.net := rfl
@[simp] theorem State.updBoot_meter (s : State) (f : BootState → BootState) : (s.updBoot f).meter = s.meter := rfl
@[simp] theorem State.updBoot_zheoc (s : State) (f : BootState → BootState) : (s.updBoot f).zheoc = s.zheoc := rfl
@[simp] theorem State.updBoot_store (s : State) (f : BootState → BootState) : (s.updBoot f).store = s.store := rfl
@[simp] theorem State.updBoot_milestone (s : State) (f : BootState → BootState) : (s.updBoot f).milestone = s.milestone := rfl
@[simp] theorem State.updBoot_dict (s : State) (f : BootState → BootState) : (s.updBoot f).dict = s.dict := rfl
@[simp] theorem State.updBoot_bootDict (s : State) (f : BootState → BootState) : (s.updBoot f).bootDict = s.bootDict := rfl
@[simp] theorem State.updBoot_octets (s : State) (f : BootState → BootState) : (s.updBoot f).octets = s.octets := rfl
@[simp] theorem State.updBoot_periods (s : State) (f : BootState → BootState) : (s.updBoot f).periods = s.periods := rfl
@[simp] theorem State.updBoot_draws (s : State) (f : BootState → BootState) : (s.updBoot f).draws = s.draws := rfl
@[simp] theorem State.updBoot_pending (s : State) (f : BootState → BootState) : (s.updBoot f).pending = s.pending := rfl

/-! updates of blv -/

@[simp] theorem State.updBlv_mode (s : State) (f : BlvState → BlvState) : (s.updBlv f).mode = s.mode := rfl
@[simp] theorem State.updBlv_boot (s : State) (f : BlvState → BlvState) : (s.updBlv f).boot = s.boot := rfl
@[simp] theorem State.updBlv_outputs (s : State) (f : BlvState → BlvState) : (s.updBlv f).outputs = s.outputs := rfl
@[simp] theorem State.updBlv_power (s : State) (f : BlvState → BlvState) : (s.updBlv f).power = s.power := rfl
@[simp] theorem State.updBlv_clk (s : State) (f : BlvState → BlvState) : (s.updBlv f).clk = s.clk := rfl
@[simp] theorem State.updBlv_roundabout (s : State) (f : BlvState → BlvState) : (s.updBlv f).roundabout = s.roundabout := rfl
@[simp] theorem State.updBlv_queues (s : State) (f : BlvState → BlvState) : (s.updBlv f).queues = s.queues := rfl
@[simp] theorem State.updBlv_host (s : State) (f : BlvState → BlvState) : (s.updBlv f).host = s.host := rfl
@[simp] theorem State.updBlv_mbox (s : State) (f : BlvState → BlvState) : (s.updBlv f).mbox = s.mbox := rfl
@[simp] theorem State.updBlv_sessions (s : State) (f : BlvState → BlvState) : (s.updBlv f).sessions = s.sessions := rfl
@[simp] theorem State.updBlv_remotes (s : State) (f : BlvState → BlvState) : (s.updBlv f).remotes = s.remotes := rfl
@[simp] theorem State.updBlv_gnss (s : State) (f : BlvState → BlvState) : (s.updBlv f).gnss = s.gnss := rfl
@[simp] theorem State.updBlv_obs (s : State) (f : BlvState → BlvState) : (s.updBlv f).obs = s.obs := rfl
@[simp] theorem State.updBlv_baseRef (s : State) (f : BlvState → BlvState) : (s.updBlv f).baseRef = s.baseRef := rfl
@[simp] theorem State.updBlv_nav (s : State) (f : BlvState → BlvState) : (s.updBlv f).nav = s.nav := rfl
@[simp] theorem State.updBlv_blv (s : State) (f : BlvState → BlvState) : (s.updBlv f).blv = f s.blv := rfl
@[simp] theorem State.updBlv_kerb (s : State) (f : BlvState → BlvState) : (s.updBlv f).kerb = s.kerb := rfl
@[simp] theorem State.updBlv_cover (s : State) (f : BlvState → BlvState) : (s.updBlv f).cover = s.cover := rfl
@[simp] theorem State.updBlv_cache (s : State) (f : BlvState → BlvState) : (s.updBlv f).cache = s.cache := rfl
@[simp] theorem State.updBlv_fleet (s : State) (f : BlvState → BlvState) : (s.updBlv f).fleet = s.fleet := rfl
@[simp] theorem State.updBlv_radio (s : State) (f : BlvState → BlvState) : (s.updBlv f).radio = s.radio := rfl
@[simp] theorem State.updBlv_crier (s : State) (f : BlvState → BlvState) : (s.updBlv f).crier = s.crier := rfl
@[simp] theorem State.updBlv_gate (s : State) (f : BlvState → BlvState) : (s.updBlv f).gate = s.gate := rfl
@[simp] theorem State.updBlv_tram (s : State) (f : BlvState → BlvState) : (s.updBlv f).tram = s.tram := rfl
@[simp] theorem State.updBlv_net (s : State) (f : BlvState → BlvState) : (s.updBlv f).net = s.net := rfl
@[simp] theorem State.updBlv_meter (s : State) (f : BlvState → BlvState) : (s.updBlv f).meter = s.meter := rfl
@[simp] theorem State.updBlv_zheoc (s : State) (f : BlvState → BlvState) : (s.updBlv f).zheoc = s.zheoc := rfl
@[simp] theorem State.updBlv_store (s : State) (f : BlvState → BlvState) : (s.updBlv f).store = s.store := rfl
@[simp] theorem State.updBlv_milestone (s : State) (f : BlvState → BlvState) : (s.updBlv f).milestone = s.milestone := rfl
@[simp] theorem State.updBlv_dict (s : State) (f : BlvState → BlvState) : (s.updBlv f).dict = s.dict := rfl
@[simp] theorem State.updBlv_bootDict (s : State) (f : BlvState → BlvState) : (s.updBlv f).bootDict = s.bootDict := rfl
@[simp] theorem State.updBlv_octets (s : State) (f : BlvState → BlvState) : (s.updBlv f).octets = s.octets := rfl
@[simp] theorem State.updBlv_periods (s : State) (f : BlvState → BlvState) : (s.updBlv f).periods = s.periods := rfl
@[simp] theorem State.updBlv_draws (s : State) (f : BlvState → BlvState) : (s.updBlv f).draws = s.draws := rfl
@[simp] theorem State.updBlv_pending (s : State) (f : BlvState → BlvState) : (s.updBlv f).pending = s.pending := rfl

/-! updates of net -/

@[simp] theorem State.updNet_mode (s : State) (f : NetState → NetState) : (s.updNet f).mode = s.mode := rfl
@[simp] theorem State.updNet_boot (s : State) (f : NetState → NetState) : (s.updNet f).boot = s.boot := rfl
@[simp] theorem State.updNet_outputs (s : State) (f : NetState → NetState) : (s.updNet f).outputs = s.outputs := rfl
@[simp] theorem State.updNet_power (s : State) (f : NetState → NetState) : (s.updNet f).power = s.power := rfl
@[simp] theorem State.updNet_clk (s : State) (f : NetState → NetState) : (s.updNet f).clk = s.clk := rfl
@[simp] theorem State.updNet_roundabout (s : State) (f : NetState → NetState) : (s.updNet f).roundabout = s.roundabout := rfl
@[simp] theorem State.updNet_queues (s : State) (f : NetState → NetState) : (s.updNet f).queues = s.queues := rfl
@[simp] theorem State.updNet_host (s : State) (f : NetState → NetState) : (s.updNet f).host = s.host := rfl
@[simp] theorem State.updNet_mbox (s : State) (f : NetState → NetState) : (s.updNet f).mbox = s.mbox := rfl
@[simp] theorem State.updNet_sessions (s : State) (f : NetState → NetState) : (s.updNet f).sessions = s.sessions := rfl
@[simp] theorem State.updNet_remotes (s : State) (f : NetState → NetState) : (s.updNet f).remotes = s.remotes := rfl
@[simp] theorem State.updNet_gnss (s : State) (f : NetState → NetState) : (s.updNet f).gnss = s.gnss := rfl
@[simp] theorem State.updNet_obs (s : State) (f : NetState → NetState) : (s.updNet f).obs = s.obs := rfl
@[simp] theorem State.updNet_baseRef (s : State) (f : NetState → NetState) : (s.updNet f).baseRef = s.baseRef := rfl
@[simp] theorem State.updNet_nav (s : State) (f : NetState → NetState) : (s.updNet f).nav = s.nav := rfl
@[simp] theorem State.updNet_blv (s : State) (f : NetState → NetState) : (s.updNet f).blv = s.blv := rfl
@[simp] theorem State.updNet_kerb (s : State) (f : NetState → NetState) : (s.updNet f).kerb = s.kerb := rfl
@[simp] theorem State.updNet_cover (s : State) (f : NetState → NetState) : (s.updNet f).cover = s.cover := rfl
@[simp] theorem State.updNet_cache (s : State) (f : NetState → NetState) : (s.updNet f).cache = s.cache := rfl
@[simp] theorem State.updNet_fleet (s : State) (f : NetState → NetState) : (s.updNet f).fleet = s.fleet := rfl
@[simp] theorem State.updNet_radio (s : State) (f : NetState → NetState) : (s.updNet f).radio = s.radio := rfl
@[simp] theorem State.updNet_crier (s : State) (f : NetState → NetState) : (s.updNet f).crier = s.crier := rfl
@[simp] theorem State.updNet_gate (s : State) (f : NetState → NetState) : (s.updNet f).gate = s.gate := rfl
@[simp] theorem State.updNet_tram (s : State) (f : NetState → NetState) : (s.updNet f).tram = s.tram := rfl
@[simp] theorem State.updNet_net (s : State) (f : NetState → NetState) : (s.updNet f).net = f s.net := rfl
@[simp] theorem State.updNet_meter (s : State) (f : NetState → NetState) : (s.updNet f).meter = s.meter := rfl
@[simp] theorem State.updNet_zheoc (s : State) (f : NetState → NetState) : (s.updNet f).zheoc = s.zheoc := rfl
@[simp] theorem State.updNet_store (s : State) (f : NetState → NetState) : (s.updNet f).store = s.store := rfl
@[simp] theorem State.updNet_milestone (s : State) (f : NetState → NetState) : (s.updNet f).milestone = s.milestone := rfl
@[simp] theorem State.updNet_dict (s : State) (f : NetState → NetState) : (s.updNet f).dict = s.dict := rfl
@[simp] theorem State.updNet_bootDict (s : State) (f : NetState → NetState) : (s.updNet f).bootDict = s.bootDict := rfl
@[simp] theorem State.updNet_octets (s : State) (f : NetState → NetState) : (s.updNet f).octets = s.octets := rfl
@[simp] theorem State.updNet_periods (s : State) (f : NetState → NetState) : (s.updNet f).periods = s.periods := rfl
@[simp] theorem State.updNet_draws (s : State) (f : NetState → NetState) : (s.updNet f).draws = s.draws := rfl
@[simp] theorem State.updNet_pending (s : State) (f : NetState → NetState) : (s.updNet f).pending = s.pending := rfl

/-! updates of cover -/

@[simp] theorem State.updCover_mode (s : State) (f : CoverState → CoverState) : (s.updCover f).mode = s.mode := rfl
@[simp] theorem State.updCover_boot (s : State) (f : CoverState → CoverState) : (s.updCover f).boot = s.boot := rfl
@[simp] theorem State.updCover_outputs (s : State) (f : CoverState → CoverState) : (s.updCover f).outputs = s.outputs := rfl
@[simp] theorem State.updCover_power (s : State) (f : CoverState → CoverState) : (s.updCover f).power = s.power := rfl
@[simp] theorem State.updCover_clk (s : State) (f : CoverState → CoverState) : (s.updCover f).clk = s.clk := rfl
@[simp] theorem State.updCover_roundabout (s : State) (f : CoverState → CoverState) : (s.updCover f).roundabout = s.roundabout := rfl
@[simp] theorem State.updCover_queues (s : State) (f : CoverState → CoverState) : (s.updCover f).queues = s.queues := rfl
@[simp] theorem State.updCover_host (s : State) (f : CoverState → CoverState) : (s.updCover f).host = s.host := rfl
@[simp] theorem State.updCover_mbox (s : State) (f : CoverState → CoverState) : (s.updCover f).mbox = s.mbox := rfl
@[simp] theorem State.updCover_sessions (s : State) (f : CoverState → CoverState) : (s.updCover f).sessions = s.sessions := rfl
@[simp] theorem State.updCover_remotes (s : State) (f : CoverState → CoverState) : (s.updCover f).remotes = s.remotes := rfl
@[simp] theorem State.updCover_gnss (s : State) (f : CoverState → CoverState) : (s.updCover f).gnss = s.gnss := rfl
@[simp] theorem State.updCover_obs (s : State) (f : CoverState → CoverState) : (s.updCover f).obs = s.obs := rfl
@[simp] theorem State.updCover_baseRef (s : State) (f : CoverState → CoverState) : (s.updCover f).baseRef = s.baseRef := rfl
@[simp] theorem State.updCover_nav (s : State) (f : CoverState → CoverState) : (s.updCover f).nav = s.nav := rfl
@[simp] theorem State.updCover_blv (s : State) (f : CoverState → CoverState) : (s.updCover f).blv = s.blv := rfl
@[simp] theorem State.updCover_kerb (s : State) (f : CoverState → CoverState) : (s.updCover f).kerb = s.kerb := rfl
@[simp] theorem State.updCover_cover (s : State) (f : CoverState → CoverState) : (s.updCover f).cover = f s.cover := rfl
@[simp] theorem State.updCover_cache (s : State) (f : CoverState → CoverState) : (s.updCover f).cache = s.cache := rfl
@[simp] theorem State.updCover_fleet (s : State) (f : CoverState → CoverState) : (s.updCover f).fleet = s.fleet := rfl
@[simp] theorem State.updCover_radio (s : State) (f : CoverState → CoverState) : (s.updCover f).radio = s.radio := rfl
@[simp] theorem State.updCover_crier (s : State) (f : CoverState → CoverState) : (s.updCover f).crier = s.crier := rfl
@[simp] theorem State.updCover_gate (s : State) (f : CoverState → CoverState) : (s.updCover f).gate = s.gate := rfl
@[simp] theorem State.updCover_tram (s : State) (f : CoverState → CoverState) : (s.updCover f).tram = s.tram := rfl
@[simp] theorem State.updCover_net (s : State) (f : CoverState → CoverState) : (s.updCover f).net = s.net := rfl
@[simp] theorem State.updCover_meter (s : State) (f : CoverState → CoverState) : (s.updCover f).meter = s.meter := rfl
@[simp] theorem State.updCover_zheoc (s : State) (f : CoverState → CoverState) : (s.updCover f).zheoc = s.zheoc := rfl
@[simp] theorem State.updCover_store (s : State) (f : CoverState → CoverState) : (s.updCover f).store = s.store := rfl
@[simp] theorem State.updCover_milestone (s : State) (f : CoverState → CoverState) : (s.updCover f).milestone = s.milestone := rfl
@[simp] theorem State.updCover_dict (s : State) (f : CoverState → CoverState) : (s.updCover f).dict = s.dict := rfl
@[simp] theorem State.updCover_bootDict (s : State) (f : CoverState → CoverState) : (s.updCover f).bootDict = s.bootDict := rfl
@[simp] theorem State.updCover_octets (s : State) (f : CoverState → CoverState) : (s.updCover f).octets = s.octets := rfl
@[simp] theorem State.updCover_periods (s : State) (f : CoverState → CoverState) : (s.updCover f).periods = s.periods := rfl
@[simp] theorem State.updCover_draws (s : State) (f : CoverState → CoverState) : (s.updCover f).draws = s.draws := rfl
@[simp] theorem State.updCover_pending (s : State) (f : CoverState → CoverState) : (s.updCover f).pending = s.pending := rfl

/-! updates of cache -/

@[simp] theorem State.updCache_mode (s : State) (f : CacheState → CacheState) : (s.updCache f).mode = s.mode := rfl
@[simp] theorem State.updCache_boot (s : State) (f : CacheState → CacheState) : (s.updCache f).boot = s.boot := rfl
@[simp] theorem State.updCache_outputs (s : State) (f : CacheState → CacheState) : (s.updCache f).outputs = s.outputs := rfl
@[simp] theorem State.updCache_power (s : State) (f : CacheState → CacheState) : (s.updCache f).power = s.power := rfl
@[simp] theorem State.updCache_clk (s : State) (f : CacheState → CacheState) : (s.updCache f).clk = s.clk := rfl
@[simp] theorem State.updCache_roundabout (s : State) (f : CacheState → CacheState) : (s.updCache f).roundabout = s.roundabout := rfl
@[simp] theorem State.updCache_queues (s : State) (f : CacheState → CacheState) : (s.updCache f).queues = s.queues := rfl
@[simp] theorem State.updCache_host (s : State) (f : CacheState → CacheState) : (s.updCache f).host = s.host := rfl
@[simp] theorem State.updCache_mbox (s : State) (f : CacheState → CacheState) : (s.updCache f).mbox = s.mbox := rfl
@[simp] theorem State.updCache_sessions (s : State) (f : CacheState → CacheState) : (s.updCache f).sessions = s.sessions := rfl
@[simp] theorem State.updCache_remotes (s : State) (f : CacheState → CacheState) : (s.updCache f).remotes = s.remotes := rfl
@[simp] theorem State.updCache_gnss (s : State) (f : CacheState → CacheState) : (s.updCache f).gnss = s.gnss := rfl
@[simp] theorem State.updCache_obs (s : State) (f : CacheState → CacheState) : (s.updCache f).obs = s.obs := rfl
@[simp] theorem State.updCache_baseRef (s : State) (f : CacheState → CacheState) : (s.updCache f).baseRef = s.baseRef := rfl
@[simp] theorem State.updCache_nav (s : State) (f : CacheState → CacheState) : (s.updCache f).nav = s.nav := rfl
@[simp] theorem State.updCache_blv (s : State) (f : CacheState → CacheState) : (s.updCache f).blv = s.blv := rfl
@[simp] theorem State.updCache_kerb (s : State) (f : CacheState → CacheState) : (s.updCache f).kerb = s.kerb := rfl
@[simp] theorem State.updCache_cover (s : State) (f : CacheState → CacheState) : (s.updCache f).cover = s.cover := rfl
@[simp] theorem State.updCache_cache (s : State) (f : CacheState → CacheState) : (s.updCache f).cache = f s.cache := rfl
@[simp] theorem State.updCache_fleet (s : State) (f : CacheState → CacheState) : (s.updCache f).fleet = s.fleet := rfl
@[simp] theorem State.updCache_radio (s : State) (f : CacheState → CacheState) : (s.updCache f).radio = s.radio := rfl
@[simp] theorem State.updCache_crier (s : State) (f : CacheState → CacheState) : (s.updCache f).crier = s.crier := rfl
@[simp] theorem State.updCache_gate (s : State) (f : CacheState → CacheState) : (s.updCache f).gate = s.gate := rfl
@[simp] theorem State.updCache_tram (s : State) (f : CacheState → CacheState) : (s.updCache f).tram = s.tram := rfl
@[simp] theorem State.updCache_net (s : State) (f : CacheState → CacheState) : (s.updCache f).net = s.net := rfl
@[simp] theorem State.updCache_meter (s : State) (f : CacheState → CacheState) : (s.updCache f).meter = s.meter := rfl
@[simp] theorem State.updCache_zheoc (s : State) (f : CacheState → CacheState) : (s.updCache f).zheoc = s.zheoc := rfl
@[simp] theorem State.updCache_store (s : State) (f : CacheState → CacheState) : (s.updCache f).store = s.store := rfl
@[simp] theorem State.updCache_milestone (s : State) (f : CacheState → CacheState) : (s.updCache f).milestone = s.milestone := rfl
@[simp] theorem State.updCache_dict (s : State) (f : CacheState → CacheState) : (s.updCache f).dict = s.dict := rfl
@[simp] theorem State.updCache_bootDict (s : State) (f : CacheState → CacheState) : (s.updCache f).bootDict = s.bootDict := rfl
@[simp] theorem State.updCache_octets (s : State) (f : CacheState → CacheState) : (s.updCache f).octets = s.octets := rfl
@[simp] theorem State.updCache_periods (s : State) (f : CacheState → CacheState) : (s.updCache f).periods = s.periods := rfl
@[simp] theorem State.updCache_draws (s : State) (f : CacheState → CacheState) : (s.updCache f).draws = s.draws := rfl
@[simp] theorem State.updCache_pending (s : State) (f : CacheState → CacheState) : (s.updCache f).pending = s.pending := rfl

/-! updates of crier -/

@[simp] theorem State.updCrier_mode (s : State) (f : CrierState → CrierState) : (s.updCrier f).mode = s.mode := rfl
@[simp] theorem State.updCrier_boot (s : State) (f : CrierState → CrierState) : (s.updCrier f).boot = s.boot := rfl
@[simp] theorem State.updCrier_outputs (s : State) (f : CrierState → CrierState) : (s.updCrier f).outputs = s.outputs := rfl
@[simp] theorem State.updCrier_power (s : State) (f : CrierState → CrierState) : (s.updCrier f).power = s.power := rfl
@[simp] theorem State.updCrier_clk (s : State) (f : CrierState → CrierState) : (s.updCrier f).clk = s.clk := rfl
@[simp] theorem State.updCrier_roundabout (s : State) (f : CrierState → CrierState) : (s.updCrier f).roundabout = s.roundabout := rfl
@[simp] theorem State.updCrier_queues (s : State) (f : CrierState → CrierState) : (s.updCrier f).queues = s.queues := rfl
@[simp] theorem State.updCrier_host (s : State) (f : CrierState → CrierState) : (s.updCrier f).host = s.host := rfl
@[simp] theorem State.updCrier_mbox (s : State) (f : CrierState → CrierState) : (s.updCrier f).mbox = s.mbox := rfl
@[simp] theorem State.updCrier_sessions (s : State) (f : CrierState → CrierState) : (s.updCrier f).sessions = s.sessions := rfl
@[simp] theorem State.updCrier_remotes (s : State) (f : CrierState → CrierState) : (s.updCrier f).remotes = s.remotes := rfl
@[simp] theorem State.updCrier_gnss (s : State) (f : CrierState → CrierState) : (s.updCrier f).gnss = s.gnss := rfl
@[simp] theorem State.updCrier_obs (s : State) (f : CrierState → CrierState) : (s.updCrier f).obs = s.obs := rfl
@[simp] theorem State.updCrier_baseRef (s : State) (f : CrierState → CrierState) : (s.updCrier f).baseRef = s.baseRef := rfl
@[simp] theorem State.updCrier_nav (s : State) (f : CrierState → CrierState) : (s.updCrier f).nav = s.nav := rfl
@[simp] theorem State.updCrier_blv (s : State) (f : CrierState → CrierState) : (s.updCrier f).blv = s.blv := rfl
@[simp] theorem State.updCrier_kerb (s : State) (f : CrierState → CrierState) : (s.updCrier f).kerb = s.kerb := rfl
@[simp] theorem State.updCrier_cover (s : State) (f : CrierState → CrierState) : (s.updCrier f).cover = s.cover := rfl
@[simp] theorem State.updCrier_cache (s : State) (f : CrierState → CrierState) : (s.updCrier f).cache = s.cache := rfl
@[simp] theorem State.updCrier_fleet (s : State) (f : CrierState → CrierState) : (s.updCrier f).fleet = s.fleet := rfl
@[simp] theorem State.updCrier_radio (s : State) (f : CrierState → CrierState) : (s.updCrier f).radio = s.radio := rfl
@[simp] theorem State.updCrier_crier (s : State) (f : CrierState → CrierState) : (s.updCrier f).crier = f s.crier := rfl
@[simp] theorem State.updCrier_gate (s : State) (f : CrierState → CrierState) : (s.updCrier f).gate = s.gate := rfl
@[simp] theorem State.updCrier_tram (s : State) (f : CrierState → CrierState) : (s.updCrier f).tram = s.tram := rfl
@[simp] theorem State.updCrier_net (s : State) (f : CrierState → CrierState) : (s.updCrier f).net = s.net := rfl
@[simp] theorem State.updCrier_meter (s : State) (f : CrierState → CrierState) : (s.updCrier f).meter = s.meter := rfl
@[simp] theorem State.updCrier_zheoc (s : State) (f : CrierState → CrierState) : (s.updCrier f).zheoc = s.zheoc := rfl
@[simp] theorem State.updCrier_store (s : State) (f : CrierState → CrierState) : (s.updCrier f).store = s.store := rfl
@[simp] theorem State.updCrier_milestone (s : State) (f : CrierState → CrierState) : (s.updCrier f).milestone = s.milestone := rfl
@[simp] theorem State.updCrier_dict (s : State) (f : CrierState → CrierState) : (s.updCrier f).dict = s.dict := rfl
@[simp] theorem State.updCrier_bootDict (s : State) (f : CrierState → CrierState) : (s.updCrier f).bootDict = s.bootDict := rfl
@[simp] theorem State.updCrier_octets (s : State) (f : CrierState → CrierState) : (s.updCrier f).octets = s.octets := rfl
@[simp] theorem State.updCrier_periods (s : State) (f : CrierState → CrierState) : (s.updCrier f).periods = s.periods := rfl
@[simp] theorem State.updCrier_draws (s : State) (f : CrierState → CrierState) : (s.updCrier f).draws = s.draws := rfl
@[simp] theorem State.updCrier_pending (s : State) (f : CrierState → CrierState) : (s.updCrier f).pending = s.pending := rfl

/-! updates of fleet -/

@[simp] theorem State.updFleet_mode (s : State) (f : FleetState → FleetState) : (s.updFleet f).mode = s.mode := rfl
@[simp] theorem State.updFleet_boot (s : State) (f : FleetState → FleetState) : (s.updFleet f).boot = s.boot := rfl
@[simp] theorem State.updFleet_outputs (s : State) (f : FleetState → FleetState) : (s.updFleet f).outputs = s.outputs := rfl
@[simp] theorem State.updFleet_power (s : State) (f : FleetState → FleetState) : (s.updFleet f).power = s.power := rfl
@[simp] theorem State.updFleet_clk (s : State) (f : FleetState → FleetState) : (s.updFleet f).clk = s.clk := rfl
@[simp] theorem State.updFleet_roundabout (s : State) (f : FleetState → FleetState) : (s.updFleet f).roundabout = s.roundabout := rfl
@[simp] theorem State.updFleet_queues (s : State) (f : FleetState → FleetState) : (s.updFleet f).queues = s.queues := rfl
@[simp] theorem State.updFleet_host (s : State) (f : FleetState → FleetState) : (s.updFleet f).host = s.host := rfl
@[simp] theorem State.updFleet_mbox (s : State) (f : FleetState → FleetState) : (s.updFleet f).mbox = s.mbox := rfl
@[simp] theorem State.updFleet_sessions (s : State) (f : FleetState → FleetState) : (s.updFleet f).sessions = s.sessions := rfl
@[simp] theorem State.updFleet_remotes (s : State) (f : FleetState → FleetState) : (s.updFleet f).remotes = s.remotes := rfl
@[simp] theorem State.updFleet_gnss (s : State) (f : FleetState → FleetState) : (s.updFleet f).gnss = s.gnss := rfl
@[simp] theorem State.updFleet_obs (s : State) (f : FleetState → FleetState) : (s.updFleet f).obs = s.obs := rfl
@[simp] theorem State.updFleet_baseRef (s : State) (f : FleetState → FleetState) : (s.updFleet f).baseRef = s.baseRef := rfl
@[simp] theorem State.updFleet_nav (s : State) (f : FleetState → FleetState) : (s.updFleet f).nav = s.nav := rfl
@[simp] theorem State.updFleet_blv (s : State) (f : FleetState → FleetState) : (s.updFleet f).blv = s.blv := rfl
@[simp] theorem State.updFleet_kerb (s : State) (f : FleetState → FleetState) : (s.updFleet f).kerb = s.kerb := rfl
@[simp] theorem State.updFleet_cover (s : State) (f : FleetState → FleetState) : (s.updFleet f).cover = s.cover := rfl
@[simp] theorem State.updFleet_cache (s : State) (f : FleetState → FleetState) : (s.updFleet f).cache = s.cache := rfl
@[simp] theorem State.updFleet_fleet (s : State) (f : FleetState → FleetState) : (s.updFleet f).fleet = f s.fleet := rfl
@[simp] theorem State.updFleet_radio (s : State) (f : FleetState → FleetState) : (s.updFleet f).radio = s.radio := rfl
@[simp] theorem State.updFleet_crier (s : State) (f : FleetState → FleetState) : (s.updFleet f).crier = s.crier := rfl
@[simp] theorem State.updFleet_gate (s : State) (f : FleetState → FleetState) : (s.updFleet f).gate = s.gate := rfl
@[simp] theorem State.updFleet_tram (s : State) (f : FleetState → FleetState) : (s.updFleet f).tram = s.tram := rfl
@[simp] theorem State.updFleet_net (s : State) (f : FleetState → FleetState) : (s.updFleet f).net = s.net := rfl
@[simp] theorem State.updFleet_meter (s : State) (f : FleetState → FleetState) : (s.updFleet f).meter = s.meter := rfl
@[simp] theorem State.updFleet_zheoc (s : State) (f : FleetState → FleetState) : (s.updFleet f).zheoc = s.zheoc := rfl
@[simp] theorem State.updFleet_store (s : State) (f : FleetState → FleetState) : (s.updFleet f).store = s.store := rfl
@[simp] theorem State.updFleet_milestone (s : State) (f : FleetState → FleetState) : (s.updFleet f).milestone = s.milestone := rfl
@[simp] theorem State.updFleet_dict (s : State) (f : FleetState → FleetState) : (s.updFleet f).dict = s.dict := rfl
@[simp] theorem State.updFleet_bootDict (s : State) (f : FleetState → FleetState) : (s.updFleet f).bootDict = s.bootDict := rfl
@[simp] theorem State.updFleet_octets (s : State) (f : FleetState → FleetState) : (s.updFleet f).octets = s.octets := rfl
@[simp] theorem State.updFleet_periods (s : State) (f : FleetState → FleetState) : (s.updFleet f).periods = s.periods := rfl
@[simp] theorem State.updFleet_draws (s : State) (f : FleetState → FleetState) : (s.updFleet f).draws = s.draws := rfl
@[simp] theorem State.updFleet_pending (s : State) (f : FleetState → FleetState) : (s.updFleet f).pending = s.pending := rfl

/-! updates of host -/

@[simp] theorem State.updHost_mode (s : State) (f : HostPort → HostPort) : (s.updHost f).mode = s.mode := rfl
@[simp] theorem State.updHost_boot (s : State) (f : HostPort → HostPort) : (s.updHost f).boot = s.boot := rfl
@[simp] theorem State.updHost_outputs (s : State) (f : HostPort → HostPort) : (s.updHost f).outputs = s.outputs := rfl
@[simp] theorem State.updHost_power (s : State) (f : HostPort → HostPort) : (s.updHost f).power = s.power := rfl
@[simp] theorem State.updHost_clk (s : State) (f : HostPort → HostPort) : (s.updHost f).clk = s.clk := rfl
@[simp] theorem State.updHost_roundabout (s : State) (f : HostPort → HostPort) : (s.updHost f).roundabout = s.roundabout := rfl
@[simp] theorem State.updHost_queues (s : State) (f : HostPort → HostPort) : (s.updHost f).queues = s.queues := rfl
@[simp] theorem State.updHost_host (s : State) (f : HostPort → HostPort) : (s.updHost f).host = f s.host := rfl
@[simp] theorem State.updHost_mbox (s : State) (f : HostPort → HostPort) : (s.updHost f).mbox = s.mbox := rfl
@[simp] theorem State.updHost_sessions (s : State) (f : HostPort → HostPort) : (s.updHost f).sessions = s.sessions := rfl
@[simp] theorem State.updHost_remotes (s : State) (f : HostPort → HostPort) : (s.updHost f).remotes = s.remotes := rfl
@[simp] theorem State.updHost_gnss (s : State) (f : HostPort → HostPort) : (s.updHost f).gnss = s.gnss := rfl
@[simp] theorem State.updHost_obs (s : State) (f : HostPort → HostPort) : (s.updHost f).obs = s.obs := rfl
@[simp] theorem State.updHost_baseRef (s : State) (f : HostPort → HostPort) : (s.updHost f).baseRef = s.baseRef := rfl
@[simp] theorem State.updHost_nav (s : State) (f : HostPort → HostPort) : (s.updHost f).nav = s.nav := rfl
@[simp] theorem State.updHost_blv (s : State) (f : HostPort → HostPort) : (s.updHost f).blv = s.blv := rfl
@[simp] theorem State.updHost_kerb (s : State) (f : HostPort → HostPort) : (s.updHost f).kerb = s.kerb := rfl
@[simp] theorem State.updHost_cover (s : State) (f : HostPort → HostPort) : (s.updHost f).cover = s.cover := rfl
@[simp] theorem State.updHost_cache (s : State) (f : HostPort → HostPort) : (s.updHost f).cache = s.cache := rfl
@[simp] theorem State.updHost_fleet (s : State) (f : HostPort → HostPort) : (s.updHost f).fleet = s.fleet := rfl
@[simp] theorem State.updHost_radio (s : State) (f : HostPort → HostPort) : (s.updHost f).radio = s.radio := rfl
@[simp] theorem State.updHost_crier (s : State) (f : HostPort → HostPort) : (s.updHost f).crier = s.crier := rfl
@[simp] theorem State.updHost_gate (s : State) (f : HostPort → HostPort) : (s.updHost f).gate = s.gate := rfl
@[simp] theorem State.updHost_tram (s : State) (f : HostPort → HostPort) : (s.updHost f).tram = s.tram := rfl
@[simp] theorem State.updHost_net (s : State) (f : HostPort → HostPort) : (s.updHost f).net = s.net := rfl
@[simp] theorem State.updHost_meter (s : State) (f : HostPort → HostPort) : (s.updHost f).meter = s.meter := rfl
@[simp] theorem State.updHost_zheoc (s : State) (f : HostPort → HostPort) : (s.updHost f).zheoc = s.zheoc := rfl
@[simp] theorem State.updHost_store (s : State) (f : HostPort → HostPort) : (s.updHost f).store = s.store := rfl
@[simp] theorem State.updHost_milestone (s : State) (f : HostPort → HostPort) : (s.updHost f).milestone = s.milestone := rfl
@[simp] theorem State.updHost_dict (s : State) (f : HostPort → HostPort) : (s.updHost f).dict = s.dict := rfl
@[simp] theorem State.updHost_bootDict (s : State) (f : HostPort → HostPort) : (s.updHost f).bootDict = s.bootDict := rfl
@[simp] theorem State.updHost_octets (s : State) (f : HostPort → HostPort) : (s.updHost f).octets = s.octets := rfl
@[simp] theorem State.updHost_periods (s : State) (f : HostPort → HostPort) : (s.updHost f).periods = s.periods := rfl
@[simp] theorem State.updHost_draws (s : State) (f : HostPort → HostPort) : (s.updHost f).draws = s.draws := rfl
@[simp] theorem State.updHost_pending (s : State) (f : HostPort → HostPort) : (s.updHost f).pending = s.pending := rfl

/-! updates of mbox -/

@[simp] theorem State.updMbox_mode (s : State) (f : Mailbox → Mailbox) : (s.updMbox f).mode = s.mode := rfl
@[simp] theorem State.updMbox_boot (s : State) (f : Mailbox → Mailbox) : (s.updMbox f).boot = s.boot := rfl
@[simp] theorem State.updMbox_outputs (s : State) (f : Mailbox → Mailbox) : (s.updMbox f).outputs = s.outputs := rfl
@[simp] theorem State.updMbox_power (s : State) (f : Mailbox → Mailbox) : (s.updMbox f).power = s.power := rfl
@[simp] theorem State.updMbox_clk (s : State) (f : Mailbox → Mailbox) : (s.updMbox f).clk = s.clk := rfl
@[simp] theorem State.updMbox_roundabout (s : State) (f : Mailbox → Mailbox) : (s.updMbox f).roundabout = s.roundabout := rfl
@[simp] theorem State.updMbox_queues (s : State) (f : Mailbox → Mailbox) : (s.updMbox f).queues = s.queues := rfl
@[simp] theorem State.updMbox_host (s : State) (f : Mailbox → Mailbox) : (s.updMbox f).host = s.host := rfl
@[simp] theorem State.updMbox_mbox (s : State) (f : Mailbox → Mailbox) : (s.updMbox f).mbox = f s.mbox := rfl
@[simp] theorem State.updMbox_sessions (s : State) (f : Mailbox → Mailbox) : (s.updMbox f).sessions = s.sessions := rfl
@[simp] theorem State.updMbox_remotes (s : State) (f : Mailbox → Mailbox) : (s.updMbox f).remotes = s.remotes := rfl
@[simp] theorem State.updMbox_gnss (s : State) (f : Mailbox → Mailbox) : (s.updMbox f).gnss = s.gnss := rfl
@[simp] theorem State.updMbox_obs (s : State) (f : Mailbox → Mailbox) : (s.updMbox f).obs = s.obs := rfl
@[simp] theorem State.updMbox_baseRef (s : State) (f : Mailbox → Mailbox) : (s.updMbox f).baseRef = s.baseRef := rfl
@[simp] theorem State.updMbox_nav (s : State) (f : Mailbox → Mailbox) : (s.updMbox f).nav = s.nav := rfl
@[simp] theorem State.updMbox_blv (s : State) (f : Mailbox → Mailbox) : (s.updMbox f).blv = s.blv := rfl
@[simp] theorem State.updMbox_kerb (s : State) (f : Mailbox → Mailbox) : (s.updMbox f).kerb = s.kerb := rfl
@[simp] theorem State.updMbox_cover (s : State) (f : Mailbox → Mailbox) : (s.updMbox f).cover = s.cover := rfl
@[simp] theorem State.updMbox_cache (s : State) (f : Mailbox → Mailbox) : (s.updMbox f).cache = s.cache := rfl
@[simp] theorem State.updMbox_fleet (s : State) (f : Mailbox → Mailbox) : (s.updMbox f).fleet = s.fleet := rfl
@[simp] theorem State.updMbox_radio (s : State) (f : Mailbox → Mailbox) : (s.updMbox f).radio = s.radio := rfl
@[simp] theorem State.updMbox_crier (s : State) (f : Mailbox → Mailbox) : (s.updMbox f).crier = s.crier := rfl
@[simp] theorem State.updMbox_gate (s : State) (f : Mailbox → Mailbox) : (s.updMbox f).gate = s.gate := rfl
@[simp] theorem State.updMbox_tram (s : State) (f : Mailbox → Mailbox) : (s.updMbox f).tram = s.tram := rfl
@[simp] theorem State.updMbox_net (s : State) (f : Mailbox → Mailbox) : (s.updMbox f).net = s.net := rfl
@[simp] theorem State.updMbox_meter (s : State) (f : Mailbox → Mailbox) : (s.updMbox f).meter = s.meter := rfl
@[simp] theorem State.updMbox_zheoc (s : State) (f : Mailbox → Mailbox) : (s.updMbox f).zheoc = s.zheoc := rfl
@[simp] theorem State.updMbox_store (s : State) (f : Mailbox → Mailbox) : (s.updMbox f).store = s.store := rfl
@[simp] theorem State.updMbox_milestone (s : State) (f : Mailbox → Mailbox) : (s.updMbox f).milestone = s.milestone := rfl
@[simp] theorem State.updMbox_dict (s : State) (f : Mailbox → Mailbox) : (s.updMbox f).dict = s.dict := rfl
@[simp] theorem State.updMbox_bootDict (s : State) (f : Mailbox → Mailbox) : (s.updMbox f).bootDict = s.bootDict := rfl
@[simp] theorem State.updMbox_octets (s : State) (f : Mailbox → Mailbox) : (s.updMbox f).octets = s.octets := rfl
@[simp] theorem State.updMbox_periods (s : State) (f : Mailbox → Mailbox) : (s.updMbox f).periods = s.periods := rfl
@[simp] theorem State.updMbox_draws (s : State) (f : Mailbox → Mailbox) : (s.updMbox f).draws = s.draws := rfl
@[simp] theorem State.updMbox_pending (s : State) (f : Mailbox → Mailbox) : (s.updMbox f).pending = s.pending := rfl

/-! updates of kerb -/

@[simp] theorem State.updKerb_mode (s : State) (f : KerbState → KerbState) : (s.updKerb f).mode = s.mode := rfl
@[simp] theorem State.updKerb_boot (s : State) (f : KerbState → KerbState) : (s.updKerb f).boot = s.boot := rfl
@[simp] theorem State.updKerb_outputs (s : State) (f : KerbState → KerbState) : (s.updKerb f).outputs = s.outputs := rfl
@[simp] theorem State.updKerb_power (s : State) (f : KerbState → KerbState) : (s.updKerb f).power = s.power := rfl
@[simp] theorem State.updKerb_clk (s : State) (f : KerbState → KerbState) : (s.updKerb f).clk = s.clk := rfl
@[simp] theorem State.updKerb_roundabout (s : State) (f : KerbState → KerbState) : (s.updKerb f).roundabout = s.roundabout := rfl
@[simp] theorem State.updKerb_queues (s : State) (f : KerbState → KerbState) : (s.updKerb f).queues = s.queues := rfl
@[simp] theorem State.updKerb_host (s : State) (f : KerbState → KerbState) : (s.updKerb f).host = s.host := rfl
@[simp] theorem State.updKerb_mbox (s : State) (f : KerbState → KerbState) : (s.updKerb f).mbox = s.mbox := rfl
@[simp] theorem State.updKerb_sessions (s : State) (f : KerbState → KerbState) : (s.updKerb f).sessions = s.sessions := rfl
@[simp] theorem State.updKerb_remotes (s : State) (f : KerbState → KerbState) : (s.updKerb f).remotes = s.remotes := rfl
@[simp] theorem State.updKerb_gnss (s : State) (f : KerbState → KerbState) : (s.updKerb f).gnss = s.gnss := rfl
@[simp] theorem State.updKerb_obs (s : State) (f : KerbState → KerbState) : (s.updKerb f).obs = s.obs := rfl
@[simp] theorem State.updKerb_baseRef (s : State) (f : KerbState → KerbState) : (s.updKerb f).baseRef = s.baseRef := rfl
@[simp] theorem State.updKerb_nav (s : State) (f : KerbState → KerbState) : (s.updKerb f).nav = s.nav := rfl
@[simp] theorem State.updKerb_blv (s : State) (f : KerbState → KerbState) : (s.updKerb f).blv = s.blv := rfl
@[simp] theorem State.updKerb_kerb (s : State) (f : KerbState → KerbState) : (s.updKerb f).kerb = f s.kerb := rfl
@[simp] theorem State.updKerb_cover (s : State) (f : KerbState → KerbState) : (s.updKerb f).cover = s.cover := rfl
@[simp] theorem State.updKerb_cache (s : State) (f : KerbState → KerbState) : (s.updKerb f).cache = s.cache := rfl
@[simp] theorem State.updKerb_fleet (s : State) (f : KerbState → KerbState) : (s.updKerb f).fleet = s.fleet := rfl
@[simp] theorem State.updKerb_radio (s : State) (f : KerbState → KerbState) : (s.updKerb f).radio = s.radio := rfl
@[simp] theorem State.updKerb_crier (s : State) (f : KerbState → KerbState) : (s.updKerb f).crier = s.crier := rfl
@[simp] theorem State.updKerb_gate (s : State) (f : KerbState → KerbState) : (s.updKerb f).gate = s.gate := rfl
@[simp] theorem State.updKerb_tram (s : State) (f : KerbState → KerbState) : (s.updKerb f).tram = s.tram := rfl
@[simp] theorem State.updKerb_net (s : State) (f : KerbState → KerbState) : (s.updKerb f).net = s.net := rfl
@[simp] theorem State.updKerb_meter (s : State) (f : KerbState → KerbState) : (s.updKerb f).meter = s.meter := rfl
@[simp] theorem State.updKerb_zheoc (s : State) (f : KerbState → KerbState) : (s.updKerb f).zheoc = s.zheoc := rfl
@[simp] theorem State.updKerb_store (s : State) (f : KerbState → KerbState) : (s.updKerb f).store = s.store := rfl
@[simp] theorem State.updKerb_milestone (s : State) (f : KerbState → KerbState) : (s.updKerb f).milestone = s.milestone := rfl
@[simp] theorem State.updKerb_dict (s : State) (f : KerbState → KerbState) : (s.updKerb f).dict = s.dict := rfl
@[simp] theorem State.updKerb_bootDict (s : State) (f : KerbState → KerbState) : (s.updKerb f).bootDict = s.bootDict := rfl
@[simp] theorem State.updKerb_octets (s : State) (f : KerbState → KerbState) : (s.updKerb f).octets = s.octets := rfl
@[simp] theorem State.updKerb_periods (s : State) (f : KerbState → KerbState) : (s.updKerb f).periods = s.periods := rfl
@[simp] theorem State.updKerb_draws (s : State) (f : KerbState → KerbState) : (s.updKerb f).draws = s.draws := rfl
@[simp] theorem State.updKerb_pending (s : State) (f : KerbState → KerbState) : (s.updKerb f).pending = s.pending := rfl

/-! updates of gate -/

@[simp] theorem State.updGate_mode (s : State) (f : GateState → GateState) : (s.updGate f).mode = s.mode := rfl
@[simp] theorem State.updGate_boot (s : State) (f : GateState → GateState) : (s.updGate f).boot = s.boot := rfl
@[simp] theorem State.updGate_outputs (s : State) (f : GateState → GateState) : (s.updGate f).outputs = s.outputs := rfl
@[simp] theorem State.updGate_power (s : State) (f : GateState → GateState) : (s.updGate f).power = s.power := rfl
@[simp] theorem State.updGate_clk (s : State) (f : GateState → GateState) : (s.updGate f).clk = s.clk := rfl
@[simp] theorem State.updGate_roundabout (s : State) (f : GateState → GateState) : (s.updGate f).roundabout = s.roundabout := rfl
@[simp] theorem State.updGate_queues (s : State) (f : GateState → GateState) : (s.updGate f).queues = s.queues := rfl
@[simp] theorem State.updGate_host (s : State) (f : GateState → GateState) : (s.updGate f).host = s.host := rfl
@[simp] theorem State.updGate_mbox (s : State) (f : GateState → GateState) : (s.updGate f).mbox = s.mbox := rfl
@[simp] theorem State.updGate_sessions (s : State) (f : GateState → GateState) : (s.updGate f).sessions = s.sessions := rfl
@[simp] theorem State.updGate_remotes (s : State) (f : GateState → GateState) : (s.updGate f).remotes = s.remotes := rfl
@[simp] theorem State.updGate_gnss (s : State) (f : GateState → GateState) : (s.updGate f).gnss = s.gnss := rfl
@[simp] theorem State.updGate_obs (s : State) (f : GateState → GateState) : (s.updGate f).obs = s.obs := rfl
@[simp] theorem State.updGate_baseRef (s : State) (f : GateState → GateState) : (s.updGate f).baseRef = s.baseRef := rfl
@[simp] theorem State.updGate_nav (s : State) (f : GateState → GateState) : (s.updGate f).nav = s.nav := rfl
@[simp] theorem State.updGate_blv (s : State) (f : GateState → GateState) : (s.updGate f).blv = s.blv := rfl
@[simp] theorem State.updGate_kerb (s : State) (f : GateState → GateState) : (s.updGate f).kerb = s.kerb := rfl
@[simp] theorem State.updGate_cover (s : State) (f : GateState → GateState) : (s.updGate f).cover = s.cover := rfl
@[simp] theorem State.updGate_cache (s : State) (f : GateState → GateState) : (s.updGate f).cache = s.cache := rfl
@[simp] theorem State.updGate_fleet (s : State) (f : GateState → GateState) : (s.updGate f).fleet = s.fleet := rfl
@[simp] theorem State.updGate_radio (s : State) (f : GateState → GateState) : (s.updGate f).radio = s.radio := rfl
@[simp] theorem State.updGate_crier (s : State) (f : GateState → GateState) : (s.updGate f).crier = s.crier := rfl
@[simp] theorem State.updGate_gate (s : State) (f : GateState → GateState) : (s.updGate f).gate = f s.gate := rfl
@[simp] theorem State.updGate_tram (s : State) (f : GateState → GateState) : (s.updGate f).tram = s.tram := rfl
@[simp] theorem State.updGate_net (s : State) (f : GateState → GateState) : (s.updGate f).net = s.net := rfl
@[simp] theorem State.updGate_meter (s : State) (f : GateState → GateState) : (s.updGate f).meter = s.meter := rfl
@[simp] theorem State.updGate_zheoc (s : State) (f : GateState → GateState) : (s.updGate f).zheoc = s.zheoc := rfl
@[simp] theorem State.updGate_store (s : State) (f : GateState → GateState) : (s.updGate f).store = s.store := rfl
@[simp] theorem State.updGate_milestone (s : State) (f : GateState → GateState) : (s.updGate f).milestone = s.milestone := rfl
@[simp] theorem State.updGate_dict (s : State) (f : GateState → GateState) : (s.updGate f).dict = s.dict := rfl
@[simp] theorem State.updGate_bootDict (s : State) (f : GateState → GateState) : (s.updGate f).bootDict = s.bootDict := rfl
@[simp] theorem State.updGate_octets (s : State) (f : GateState → GateState) : (s.updGate f).octets = s.octets := rfl
@[simp] theorem State.updGate_periods (s : State) (f : GateState → GateState) : (s.updGate f).periods = s.periods := rfl
@[simp] theorem State.updGate_draws (s : State) (f : GateState → GateState) : (s.updGate f).draws = s.draws := rfl
@[simp] theorem State.updGate_pending (s : State) (f : GateState → GateState) : (s.updGate f).pending = s.pending := rfl

/-! updates of meter -/

@[simp] theorem State.updMeter_mode (s : State) (f : MeterState → MeterState) : (s.updMeter f).mode = s.mode := rfl
@[simp] theorem State.updMeter_boot (s : State) (f : MeterState → MeterState) : (s.updMeter f).boot = s.boot := rfl
@[simp] theorem State.updMeter_outputs (s : State) (f : MeterState → MeterState) : (s.updMeter f).outputs = s.outputs := rfl
@[simp] theorem State.updMeter_power (s : State) (f : MeterState → MeterState) : (s.updMeter f).power = s.power := rfl
@[simp] theorem State.updMeter_clk (s : State) (f : MeterState → MeterState) : (s.updMeter f).clk = s.clk := rfl
@[simp] theorem State.updMeter_roundabout (s : State) (f : MeterState → MeterState) : (s.updMeter f).roundabout = s.roundabout := rfl
@[simp] theorem State.updMeter_queues (s : State) (f : MeterState → MeterState) : (s.updMeter f).queues = s.queues := rfl
@[simp] theorem State.updMeter_host (s : State) (f : MeterState → MeterState) : (s.updMeter f).host = s.host := rfl
@[simp] theorem State.updMeter_mbox (s : State) (f : MeterState → MeterState) : (s.updMeter f).mbox = s.mbox := rfl
@[simp] theorem State.updMeter_sessions (s : State) (f : MeterState → MeterState) : (s.updMeter f).sessions = s.sessions := rfl
@[simp] theorem State.updMeter_remotes (s : State) (f : MeterState → MeterState) : (s.updMeter f).remotes = s.remotes := rfl
@[simp] theorem State.updMeter_gnss (s : State) (f : MeterState → MeterState) : (s.updMeter f).gnss = s.gnss := rfl
@[simp] theorem State.updMeter_obs (s : State) (f : MeterState → MeterState) : (s.updMeter f).obs = s.obs := rfl
@[simp] theorem State.updMeter_baseRef (s : State) (f : MeterState → MeterState) : (s.updMeter f).baseRef = s.baseRef := rfl
@[simp] theorem State.updMeter_nav (s : State) (f : MeterState → MeterState) : (s.updMeter f).nav = s.nav := rfl
@[simp] theorem State.updMeter_blv (s : State) (f : MeterState → MeterState) : (s.updMeter f).blv = s.blv := rfl
@[simp] theorem State.updMeter_kerb (s : State) (f : MeterState → MeterState) : (s.updMeter f).kerb = s.kerb := rfl
@[simp] theorem State.updMeter_cover (s : State) (f : MeterState → MeterState) : (s.updMeter f).cover = s.cover := rfl
@[simp] theorem State.updMeter_cache (s : State) (f : MeterState → MeterState) : (s.updMeter f).cache = s.cache := rfl
@[simp] theorem State.updMeter_fleet (s : State) (f : MeterState → MeterState) : (s.updMeter f).fleet = s.fleet := rfl
@[simp] theorem State.updMeter_radio (s : State) (f : MeterState → MeterState) : (s.updMeter f).radio = s.radio := rfl
@[simp] theorem State.updMeter_crier (s : State) (f : MeterState → MeterState) : (s.updMeter f).crier = s.crier := rfl
@[simp] theorem State.updMeter_gate (s : State) (f : MeterState → MeterState) : (s.updMeter f).gate = s.gate := rfl
@[simp] theorem State.updMeter_tram (s : State) (f : MeterState → MeterState) : (s.updMeter f).tram = s.tram := rfl
@[simp] theorem State.updMeter_net (s : State) (f : MeterState → MeterState) : (s.updMeter f).net = s.net := rfl
@[simp] theorem State.updMeter_meter (s : State) (f : MeterState → MeterState) : (s.updMeter f).meter = f s.meter := rfl
@[simp] theorem State.updMeter_zheoc (s : State) (f : MeterState → MeterState) : (s.updMeter f).zheoc = s.zheoc := rfl
@[simp] theorem State.updMeter_store (s : State) (f : MeterState → MeterState) : (s.updMeter f).store = s.store := rfl
@[simp] theorem State.updMeter_milestone (s : State) (f : MeterState → MeterState) : (s.updMeter f).milestone = s.milestone := rfl
@[simp] theorem State.updMeter_dict (s : State) (f : MeterState → MeterState) : (s.updMeter f).dict = s.dict := rfl
@[simp] theorem State.updMeter_bootDict (s : State) (f : MeterState → MeterState) : (s.updMeter f).bootDict = s.bootDict := rfl
@[simp] theorem State.updMeter_octets (s : State) (f : MeterState → MeterState) : (s.updMeter f).octets = s.octets := rfl
@[simp] theorem State.updMeter_periods (s : State) (f : MeterState → MeterState) : (s.updMeter f).periods = s.periods := rfl
@[simp] theorem State.updMeter_draws (s : State) (f : MeterState → MeterState) : (s.updMeter f).draws = s.draws := rfl
@[simp] theorem State.updMeter_pending (s : State) (f : MeterState → MeterState) : (s.updMeter f).pending = s.pending := rfl

/-! updates of zheoc -/

@[simp] theorem State.updZheoc_mode (s : State) (f : ZheocState → ZheocState) : (s.updZheoc f).mode = s.mode := rfl
@[simp] theorem State.updZheoc_boot (s : State) (f : ZheocState → ZheocState) : (s.updZheoc f).boot = s.boot := rfl
@[simp] theorem State.updZheoc_outputs (s : State) (f : ZheocState → ZheocState) : (s.updZheoc f).outputs = s.outputs := rfl
@[simp] theorem State.updZheoc_power (s : State) (f : ZheocState → ZheocState) : (s.updZheoc f).power = s.power := rfl
@[simp] theorem State.updZheoc_clk (s : State) (f : ZheocState → ZheocState) : (s.updZheoc f).clk = s.clk := rfl
@[simp] theorem State.updZheoc_roundabout (s : State) (f : ZheocState → ZheocState) : (s.updZheoc f).roundabout = s.roundabout := rfl
@[simp] theorem State.updZheoc_queues (s : State) (f : ZheocState → ZheocState) : (s.updZheoc f).queues = s.queues := rfl
@[simp] theorem State.updZheoc_host (s : State) (f : ZheocState → ZheocState) : (s.updZheoc f).host = s.host := rfl
@[simp] theorem State.updZheoc_mbox (s : State) (f : ZheocState → ZheocState) : (s.updZheoc f).mbox = s.mbox := rfl
@[simp] theorem State.updZheoc_sessions (s : State) (f : ZheocState → ZheocState) : (s.updZheoc f).sessions = s.sessions := rfl
@[simp] theorem State.updZheoc_remotes (s : State) (f : ZheocState → ZheocState) : (s.updZheoc f).remotes = s.remotes := rfl
@[simp] theorem State.updZheoc_gnss (s : State) (f : ZheocState → ZheocState) : (s.updZheoc f).gnss = s.gnss := rfl
@[simp] theorem State.updZheoc_obs (s : State) (f : ZheocState → ZheocState) : (s.updZheoc f).obs = s.obs := rfl
@[simp] theorem State.updZheoc_baseRef (s : State) (f : ZheocState → ZheocState) : (s.updZheoc f).baseRef = s.baseRef := rfl
@[simp] theorem State.updZheoc_nav (s : State) (f : ZheocState → ZheocState) : (s.updZheoc f).nav = s.nav := rfl
@[simp] theorem State.updZheoc_blv (s : State) (f : ZheocState → ZheocState) : (s.updZheoc f).blv = s.blv := rfl
@[simp] theorem State.updZheoc_kerb (s : State) (f : ZheocState → ZheocState) : (s.updZheoc f).kerb = s.kerb := rfl
@[simp] theorem State.updZheoc_cover (s : State) (f : ZheocState → ZheocState) : (s.updZheoc f).cover = s.cover := rfl
@[simp] theorem State.updZheoc_cache (s : State) (f : ZheocState → ZheocState) : (s.updZheoc f).cache = s.cache := rfl
@[simp] theorem State.updZheoc_fleet (s : State) (f : ZheocState → ZheocState) : (s.updZheoc f).fleet = s.fleet := rfl
@[simp] theorem State.updZheoc_radio (s : State) (f : ZheocState → ZheocState) : (s.updZheoc f).radio = s.radio := rfl
@[simp] theorem State.updZheoc_crier (s : State) (f : ZheocState → ZheocState) : (s.updZheoc f).crier = s.crier := rfl
@[simp] theorem State.updZheoc_gate (s : State) (f : ZheocState → ZheocState) : (s.updZheoc f).gate = s.gate := rfl
@[simp] theorem State.updZheoc_tram (s : State) (f : ZheocState → ZheocState) : (s.updZheoc f).tram = s.tram := rfl
@[simp] theorem State.updZheoc_net (s : State) (f : ZheocState → ZheocState) : (s.updZheoc f).net = s.net := rfl
@[simp] theorem State.updZheoc_meter (s : State) (f : ZheocState → ZheocState) : (s.updZheoc f).meter = s.meter := rfl
@[simp] theorem State.updZheoc_zheoc (s : State) (f : ZheocState → ZheocState) : (s.updZheoc f).zheoc = f s.zheoc := rfl
@[simp] theorem State.updZheoc_store (s : State) (f : ZheocState → ZheocState) : (s.updZheoc f).store = s.store := rfl
@[simp] theorem State.updZheoc_milestone (s : State) (f : ZheocState → ZheocState) : (s.updZheoc f).milestone = s.milestone := rfl
@[simp] theorem State.updZheoc_dict (s : State) (f : ZheocState → ZheocState) : (s.updZheoc f).dict = s.dict := rfl
@[simp] theorem State.updZheoc_bootDict (s : State) (f : ZheocState → ZheocState) : (s.updZheoc f).bootDict = s.bootDict := rfl
@[simp] theorem State.updZheoc_octets (s : State) (f : ZheocState → ZheocState) : (s.updZheoc f).octets = s.octets := rfl
@[simp] theorem State.updZheoc_periods (s : State) (f : ZheocState → ZheocState) : (s.updZheoc f).periods = s.periods := rfl
@[simp] theorem State.updZheoc_draws (s : State) (f : ZheocState → ZheocState) : (s.updZheoc f).draws = s.draws := rfl
@[simp] theorem State.updZheoc_pending (s : State) (f : ZheocState → ZheocState) : (s.updZheoc f).pending = s.pending := rfl

/-! updates of baseRef -/

@[simp] theorem State.updRef_mode (s : State) (f : BaseRefState → BaseRefState) : (s.updRef f).mode = s.mode := rfl
@[simp] theorem State.updRef_boot (s : State) (f : BaseRefState → BaseRefState) : (s.updRef f).boot = s.boot := rfl
@[simp] theorem State.updRef_outputs (s : State) (f : BaseRefState → BaseRefState) : (s.updRef f).outputs = s.outputs := rfl
@[simp] theorem State.updRef_power (s : State) (f : BaseRefState → BaseRefState) : (s.updRef f).power = s.power := rfl
@[simp] theorem State.updRef_clk (s : State) (f : BaseRefState → BaseRefState) : (s.updRef f).clk = s.clk := rfl
@[simp] theorem State.updRef_roundabout (s : State) (f : BaseRefState → BaseRefState) : (s.updRef f).roundabout = s.roundabout := rfl
@[simp] theorem State.updRef_queues (s : State) (f : BaseRefState → BaseRefState) : (s.updRef f).queues = s.queues := rfl
@[simp] theorem State.updRef_host (s : State) (f : BaseRefState → BaseRefState) : (s.updRef f).host = s.host := rfl
@[simp] theorem State.updRef_mbox (s : State) (f : BaseRefState → BaseRefState) : (s.updRef f).mbox = s.mbox := rfl
@[simp] theorem State.updRef_sessions (s : State) (f : BaseRefState → BaseRefState) : (s.updRef f).sessions = s.sessions := rfl
@[simp] theorem State.updRef_remotes (s : State) (f : BaseRefState → BaseRefState) : (s.updRef f).remotes = s.remotes := rfl
@[simp] theorem State.updRef_gnss (s : State) (f : BaseRefState → BaseRefState) : (s.updRef f).gnss = s.gnss := rfl
@[simp] theorem State.updRef_obs (s : State) (f : BaseRefState → BaseRefState) : (s.updRef f).obs = s.obs := rfl
@[simp] theorem State.updRef_baseRef (s : State) (f : BaseRefState → BaseRefState) : (s.updRef f).baseRef = f s.baseRef := rfl
@[simp] theorem State.updRef_nav (s : State) (f : BaseRefState → BaseRefState) : (s.updRef f).nav = s.nav := rfl
@[simp] theorem State.updRef_blv (s : State) (f : BaseRefState → BaseRefState) : (s.updRef f).blv = s.blv := rfl
@[simp] theorem State.updRef_kerb (s : State) (f : BaseRefState → BaseRefState) : (s.updRef f).kerb = s.kerb := rfl
@[simp] theorem State.updRef_cover (s : State) (f : BaseRefState → BaseRefState) : (s.updRef f).cover = s.cover := rfl
@[simp] theorem State.updRef_cache (s : State) (f : BaseRefState → BaseRefState) : (s.updRef f).cache = s.cache := rfl
@[simp] theorem State.updRef_fleet (s : State) (f : BaseRefState → BaseRefState) : (s.updRef f).fleet = s.fleet := rfl
@[simp] theorem State.updRef_radio (s : State) (f : BaseRefState → BaseRefState) : (s.updRef f).radio = s.radio := rfl
@[simp] theorem State.updRef_crier (s : State) (f : BaseRefState → BaseRefState) : (s.updRef f).crier = s.crier := rfl
@[simp] theorem State.updRef_gate (s : State) (f : BaseRefState → BaseRefState) : (s.updRef f).gate = s.gate := rfl
@[simp] theorem State.updRef_tram (s : State) (f : BaseRefState → BaseRefState) : (s.updRef f).tram = s.tram := rfl
@[simp] theorem State.updRef_net (s : State) (f : BaseRefState → BaseRefState) : (s.updRef f).net = s.net := rfl
@[simp] theorem State.updRef_meter (s : State) (f : BaseRefState → BaseRefState) : (s.updRef f).meter = s.meter := rfl
@[simp] theorem State.updRef_zheoc (s : State) (f : BaseRefState → BaseRefState) : (s.updRef f).zheoc = s.zheoc := rfl
@[simp] theorem State.updRef_store (s : State) (f : BaseRefState → BaseRefState) : (s.updRef f).store = s.store := rfl
@[simp] theorem State.updRef_milestone (s : State) (f : BaseRefState → BaseRefState) : (s.updRef f).milestone = s.milestone := rfl
@[simp] theorem State.updRef_dict (s : State) (f : BaseRefState → BaseRefState) : (s.updRef f).dict = s.dict := rfl
@[simp] theorem State.updRef_bootDict (s : State) (f : BaseRefState → BaseRefState) : (s.updRef f).bootDict = s.bootDict := rfl
@[simp] theorem State.updRef_octets (s : State) (f : BaseRefState → BaseRefState) : (s.updRef f).octets = s.octets := rfl
@[simp] theorem State.updRef_periods (s : State) (f : BaseRefState → BaseRefState) : (s.updRef f).periods = s.periods := rfl
@[simp] theorem State.updRef_draws (s : State) (f : BaseRefState → BaseRefState) : (s.updRef f).draws = s.draws := rfl
@[simp] theorem State.updRef_pending (s : State) (f : BaseRefState → BaseRefState) : (s.updRef f).pending = s.pending := rfl

/-! updates of nav -/

@[simp] theorem State.updNav_mode (s : State) (f : PoseState → PoseState) : (s.updNav f).mode = s.mode := rfl
@[simp] theorem State.updNav_boot (s : State) (f : PoseState → PoseState) : (s.updNav f).boot = s.boot := rfl
@[simp] theorem State.updNav_outputs (s : State) (f : PoseState → PoseState) : (s.updNav f).outputs = s.outputs := rfl
@[simp] theorem State.updNav_power (s : State) (f : PoseState → PoseState) : (s.updNav f).power = s.power := rfl
@[simp] theorem State.updNav_clk (s : State) (f : PoseState → PoseState) : (s.updNav f).clk = s.clk := rfl
@[simp] theorem State.updNav_roundabout (s : State) (f : PoseState → PoseState) : (s.updNav f).roundabout = s.roundabout := rfl
@[simp] theorem State.updNav_queues (s : State) (f : PoseState → PoseState) : (s.updNav f).queues = s.queues := rfl
@[simp] theorem State.updNav_host (s : State) (f : PoseState → PoseState) : (s.updNav f).host = s.host := rfl
@[simp] theorem State.updNav_mbox (s : State) (f : PoseState → PoseState) : (s.updNav f).mbox = s.mbox := rfl
@[simp] theorem State.updNav_sessions (s : State) (f : PoseState → PoseState) : (s.updNav f).sessions = s.sessions := rfl
@[simp] theorem State.updNav_remotes (s : State) (f : PoseState → PoseState) : (s.updNav f).remotes = s.remotes := rfl
@[simp] theorem State.updNav_gnss (s : State) (f : PoseState → PoseState) : (s.updNav f).gnss = s.gnss := rfl
@[simp] theorem State.updNav_obs (s : State) (f : PoseState → PoseState) : (s.updNav f).obs = s.obs := rfl
@[simp] theorem State.updNav_baseRef (s : State) (f : PoseState → PoseState) : (s.updNav f).baseRef = s.baseRef := rfl
@[simp] theorem State.updNav_nav (s : State) (f : PoseState → PoseState) : (s.updNav f).nav = f s.nav := rfl
@[simp] theorem State.updNav_blv (s : State) (f : PoseState → PoseState) : (s.updNav f).blv = s.blv := rfl
@[simp] theorem State.updNav_kerb (s : State) (f : PoseState → PoseState) : (s.updNav f).kerb = s.kerb := rfl
@[simp] theorem State.updNav_cover (s : State) (f : PoseState → PoseState) : (s.updNav f).cover = s.cover := rfl
@[simp] theorem State.updNav_cache (s : State) (f : PoseState → PoseState) : (s.updNav f).cache = s.cache := rfl
@[simp] theorem State.updNav_fleet (s : State) (f : PoseState → PoseState) : (s.updNav f).fleet = s.fleet := rfl
@[simp] theorem State.updNav_radio (s : State) (f : PoseState → PoseState) : (s.updNav f).radio = s.radio := rfl
@[simp] theorem State.updNav_crier (s : State) (f : PoseState → PoseState) : (s.updNav f).crier = s.crier := rfl
@[simp] theorem State.updNav_gate (s : State) (f : PoseState → PoseState) : (s.updNav f).gate = s.gate := rfl
@[simp] theorem State.updNav_tram (s : State) (f : PoseState → PoseState) : (s.updNav f).tram = s.tram := rfl
@[simp] theorem State.updNav_net (s : State) (f : PoseState → PoseState) : (s.updNav f).net = s.net := rfl
@[simp] theorem State.updNav_meter (s : State) (f : PoseState → PoseState) : (s.updNav f).meter = s.meter := rfl
@[simp] theorem State.updNav_zheoc (s : State) (f : PoseState → PoseState) : (s.updNav f).zheoc = s.zheoc := rfl
@[simp] theorem State.updNav_store (s : State) (f : PoseState → PoseState) : (s.updNav f).store = s.store := rfl
@[simp] theorem State.updNav_milestone (s : State) (f : PoseState → PoseState) : (s.updNav f).milestone = s.milestone := rfl
@[simp] theorem State.updNav_dict (s : State) (f : PoseState → PoseState) : (s.updNav f).dict = s.dict := rfl
@[simp] theorem State.updNav_bootDict (s : State) (f : PoseState → PoseState) : (s.updNav f).bootDict = s.bootDict := rfl
@[simp] theorem State.updNav_octets (s : State) (f : PoseState → PoseState) : (s.updNav f).octets = s.octets := rfl
@[simp] theorem State.updNav_periods (s : State) (f : PoseState → PoseState) : (s.updNav f).periods = s.periods := rfl
@[simp] theorem State.updNav_draws (s : State) (f : PoseState → PoseState) : (s.updNav f).draws = s.draws := rfl
@[simp] theorem State.updNav_pending (s : State) (f : PoseState → PoseState) : (s.updNav f).pending = s.pending := rfl

/-! updates of radio -/

@[simp] theorem State.updRadio_mode (s : State) (f : RadioState → RadioState) : (s.updRadio f).mode = s.mode := rfl
@[simp] theorem State.updRadio_boot (s : State) (f : RadioState → RadioState) : (s.updRadio f).boot = s.boot := rfl
@[simp] theorem State.updRadio_outputs (s : State) (f : RadioState → RadioState) : (s.updRadio f).outputs = s.outputs := rfl
@[simp] theorem State.updRadio_power (s : State) (f : RadioState → RadioState) : (s.updRadio f).power = s.power := rfl
@[simp] theorem State.updRadio_clk (s : State) (f : RadioState → RadioState) : (s.updRadio f).clk = s.clk := rfl
@[simp] theorem State.updRadio_roundabout (s : State) (f : RadioState → RadioState) : (s.updRadio f).roundabout = s.roundabout := rfl
@[simp] theorem State.updRadio_queues (s : State) (f : RadioState → RadioState) : (s.updRadio f).queues = s.queues := rfl
@[simp] theorem State.updRadio_host (s : State) (f : RadioState → RadioState) : (s.updRadio f).host = s.host := rfl
@[simp] theorem State.updRadio_mbox (s : State) (f : RadioState → RadioState) : (s.updRadio f).mbox = s.mbox := rfl
@[simp] theorem State.updRadio_sessions (s : State) (f : RadioState → RadioState) : (s.updRadio f).sessions = s.sessions := rfl
@[simp] theorem State.updRadio_remotes (s : State) (f : RadioState → RadioState) : (s.updRadio f).remotes = s.remotes := rfl
@[simp] theorem State.updRadio_gnss (s : State) (f : RadioState → RadioState) : (s.updRadio f).gnss = s.gnss := rfl
@[simp] theorem State.updRadio_obs (s : State) (f : RadioState → RadioState) : (s.updRadio f).obs = s.obs := rfl
@[simp] theorem State.updRadio_baseRef (s : State) (f : RadioState → RadioState) : (s.updRadio f).baseRef = s.baseRef := rfl
@[simp] theorem State.updRadio_nav (s : State) (f : RadioState → RadioState) : (s.updRadio f).nav = s.nav := rfl
@[simp] theorem State.updRadio_blv (s : State) (f : RadioState → RadioState) : (s.updRadio f).blv = s.blv := rfl
@[simp] theorem State.updRadio_kerb (s : State) (f : RadioState → RadioState) : (s.updRadio f).kerb = s.kerb := rfl
@[simp] theorem State.updRadio_cover (s : State) (f : RadioState → RadioState) : (s.updRadio f).cover = s.cover := rfl
@[simp] theorem State.updRadio_cache (s : State) (f : RadioState → RadioState) : (s.updRadio f).cache = s.cache := rfl
@[simp] theorem State.updRadio_fleet (s : State) (f : RadioState → RadioState) : (s.updRadio f).fleet = s.fleet := rfl
@[simp] theorem State.updRadio_radio (s : State) (f : RadioState → RadioState) : (s.updRadio f).radio = f s.radio := rfl
@[simp] theorem State.updRadio_crier (s : State) (f : RadioState → RadioState) : (s.updRadio f).crier = s.crier := rfl
@[simp] theorem State.updRadio_gate (s : State) (f : RadioState → RadioState) : (s.updRadio f).gate = s.gate := rfl
@[simp] theorem State.updRadio_tram (s : State) (f : RadioState → RadioState) : (s.updRadio f).tram = s.tram := rfl
@[simp] theorem State.updRadio_net (s : State) (f : RadioState → RadioState) : (s.updRadio f).net = s.net := rfl
@[simp] theorem State.updRadio_meter (s : State) (f : RadioState → RadioState) : (s.updRadio f).meter = s.meter := rfl
@[simp] theorem State.updRadio_zheoc (s : State) (f : RadioState → RadioState) : (s.updRadio f).zheoc = s.zheoc := rfl
@[simp] theorem State.updRadio_store (s : State) (f : RadioState → RadioState) : (s.updRadio f).store = s.store := rfl
@[simp] theorem State.updRadio_milestone (s : State) (f : RadioState → RadioState) : (s.updRadio f).milestone = s.milestone := rfl
@[simp] theorem State.updRadio_dict (s : State) (f : RadioState → RadioState) : (s.updRadio f).dict = s.dict := rfl
@[simp] theorem State.updRadio_bootDict (s : State) (f : RadioState → RadioState) : (s.updRadio f).bootDict = s.bootDict := rfl
@[simp] theorem State.updRadio_octets (s : State) (f : RadioState → RadioState) : (s.updRadio f).octets = s.octets := rfl
@[simp] theorem State.updRadio_periods (s : State) (f : RadioState → RadioState) : (s.updRadio f).periods = s.periods := rfl
@[simp] theorem State.updRadio_draws (s : State) (f : RadioState → RadioState) : (s.updRadio f).draws = s.draws := rfl
@[simp] theorem State.updRadio_pending (s : State) (f : RadioState → RadioState) : (s.updRadio f).pending = s.pending := rfl

/-! updates of store -/

@[simp] theorem State.updStore_mode (s : State) (f : StoreState → StoreState) : (s.updStore f).mode = s.mode := rfl
@[simp] theorem State.updStore_boot (s : State) (f : StoreState → StoreState) : (s.updStore f).boot = s.boot := rfl
@[simp] theorem State.updStore_outputs (s : State) (f : StoreState → StoreState) : (s.updStore f).outputs = s.outputs := rfl
@[simp] theorem State.updStore_power (s : State) (f : StoreState → StoreState) : (s.updStore f).power = s.power := rfl
@[simp] theorem State.updStore_clk (s : State) (f : StoreState → StoreState) : (s.updStore f).clk = s.clk := rfl
@[simp] theorem State.updStore_roundabout (s : State) (f : StoreState → StoreState) : (s.updStore f).roundabout = s.roundabout := rfl
@[simp] theorem State.updStore_queues (s : State) (f : StoreState → StoreState) : (s.updStore f).queues = s.queues := rfl
@[simp] theorem State.updStore_host (s : State) (f : StoreState → StoreState) : (s.updStore f).host = s.host := rfl
@[simp] theorem State.updStore_mbox (s : State) (f : StoreState → StoreState) : (s.updStore f).mbox = s.mbox := rfl
@[simp] theorem State.updStore_sessions (s : State) (f : StoreState → StoreState) : (s.updStore f).sessions = s.sessions := rfl
@[simp] theorem State.updStore_remotes (s : State) (f : StoreState → StoreState) : (s.updStore f).remotes = s.remotes := rfl
@[simp] theorem State.updStore_gnss (s : State) (f : StoreState → StoreState) : (s.updStore f).gnss = s.gnss := rfl
@[simp] theorem State.updStore_obs (s : State) (f : StoreState → StoreState) : (s.updStore f).obs = s.obs := rfl
@[simp] theorem State.updStore_baseRef (s : State) (f : StoreState → StoreState) : (s.updStore f).baseRef = s.baseRef := rfl
@[simp] theorem State.updStore_nav (s : State) (f : StoreState → StoreState) : (s.updStore f).nav = s.nav := rfl
@[simp] theorem State.updStore_blv (s : State) (f : StoreState → StoreState) : (s.updStore f).blv = s.blv := rfl
@[simp] theorem State.updStore_kerb (s : State) (f : StoreState → StoreState) : (s.updStore f).kerb = s.kerb := rfl
@[simp] theorem State.updStore_cover (s : State) (f : StoreState → StoreState) : (s.updStore f).cover = s.cover := rfl
@[simp] theorem State.updStore_cache (s : State) (f : StoreState → StoreState) : (s.updStore f).cache = s.cache := rfl
@[simp] theorem State.updStore_fleet (s : State) (f : StoreState → StoreState) : (s.updStore f).fleet = s.fleet := rfl
@[simp] theorem State.updStore_radio (s : State) (f : StoreState → StoreState) : (s.updStore f).radio = s.radio := rfl
@[simp] theorem State.updStore_crier (s : State) (f : StoreState → StoreState) : (s.updStore f).crier = s.crier := rfl
@[simp] theorem State.updStore_gate (s : State) (f : StoreState → StoreState) : (s.updStore f).gate = s.gate := rfl
@[simp] theorem State.updStore_tram (s : State) (f : StoreState → StoreState) : (s.updStore f).tram = s.tram := rfl
@[simp] theorem State.updStore_net (s : State) (f : StoreState → StoreState) : (s.updStore f).net = s.net := rfl
@[simp] theorem State.updStore_meter (s : State) (f : StoreState → StoreState) : (s.updStore f).meter = s.meter := rfl
@[simp] theorem State.updStore_zheoc (s : State) (f : StoreState → StoreState) : (s.updStore f).zheoc = s.zheoc := rfl
@[simp] theorem State.updStore_store (s : State) (f : StoreState → StoreState) : (s.updStore f).store = f s.store := rfl
@[simp] theorem State.updStore_milestone (s : State) (f : StoreState → StoreState) : (s.updStore f).milestone = s.milestone := rfl
@[simp] theorem State.updStore_dict (s : State) (f : StoreState → StoreState) : (s.updStore f).dict = s.dict := rfl
@[simp] theorem State.updStore_bootDict (s : State) (f : StoreState → StoreState) : (s.updStore f).bootDict = s.bootDict := rfl
@[simp] theorem State.updStore_octets (s : State) (f : StoreState → StoreState) : (s.updStore f).octets = s.octets := rfl
@[simp] theorem State.updStore_periods (s : State) (f : StoreState → StoreState) : (s.updStore f).periods = s.periods := rfl
@[simp] theorem State.updStore_draws (s : State) (f : StoreState → StoreState) : (s.updStore f).draws = s.draws := rfl
@[simp] theorem State.updStore_pending (s : State) (f : StoreState → StoreState) : (s.updStore f).pending = s.pending := rfl

/-! updates of tram -/

@[simp] theorem State.updTram_mode (s : State) (f : TramState → TramState) : (s.updTram f).mode = s.mode := rfl
@[simp] theorem State.updTram_boot (s : State) (f : TramState → TramState) : (s.updTram f).boot = s.boot := rfl
@[simp] theorem State.updTram_outputs (s : State) (f : TramState → TramState) : (s.updTram f).outputs = s.outputs := rfl
@[simp] theorem State.updTram_power (s : State) (f : TramState → TramState) : (s.updTram f).power = s.power := rfl
@[simp] theorem State.updTram_clk (s : State) (f : TramState → TramState) : (s.updTram f).clk = s.clk := rfl
@[simp] theorem State.updTram_roundabout (s : State) (f : TramState → TramState) : (s.updTram f).roundabout = s.roundabout := rfl
@[simp] theorem State.updTram_queues (s : State) (f : TramState → TramState) : (s.updTram f).queues = s.queues := rfl
@[simp] theorem State.updTram_host (s : State) (f : TramState → TramState) : (s.updTram f).host = s.host := rfl
@[simp] theorem State.updTram_mbox (s : State) (f : TramState → TramState) : (s.updTram f).mbox = s.mbox := rfl
@[simp] theorem State.updTram_sessions (s : State) (f : TramState → TramState) : (s.updTram f).sessions = s.sessions := rfl
@[simp] theorem State.updTram_remotes (s : State) (f : TramState → TramState) : (s.updTram f).remotes = s.remotes := rfl
@[simp] theorem State.updTram_gnss (s : State) (f : TramState → TramState) : (s.updTram f).gnss = s.gnss := rfl
@[simp] theorem State.updTram_obs (s : State) (f : TramState → TramState) : (s.updTram f).obs = s.obs := rfl
@[simp] theorem State.updTram_baseRef (s : State) (f : TramState → TramState) : (s.updTram f).baseRef = s.baseRef := rfl
@[simp] theorem State.updTram_nav (s : State) (f : TramState → TramState) : (s.updTram f).nav = s.nav := rfl
@[simp] theorem State.updTram_blv (s : State) (f : TramState → TramState) : (s.updTram f).blv = s.blv := rfl
@[simp] theorem State.updTram_kerb (s : State) (f : TramState → TramState) : (s.updTram f).kerb = s.kerb := rfl
@[simp] theorem State.updTram_cover (s : State) (f : TramState → TramState) : (s.updTram f).cover = s.cover := rfl
@[simp] theorem State.updTram_cache (s : State) (f : TramState → TramState) : (s.updTram f).cache = s.cache := rfl
@[simp] theorem State.updTram_fleet (s : State) (f : TramState → TramState) : (s.updTram f).fleet = s.fleet := rfl
@[simp] theorem State.updTram_radio (s : State) (f : TramState → TramState) : (s.updTram f).radio = s.radio := rfl
@[simp] theorem State.updTram_crier (s : State) (f : TramState → TramState) : (s.updTram f).crier = s.crier := rfl
@[simp] theorem State.updTram_gate (s : State) (f : TramState → TramState) : (s.updTram f).gate = s.gate := rfl
@[simp] theorem State.updTram_tram (s : State) (f : TramState → TramState) : (s.updTram f).tram = f s.tram := rfl
@[simp] theorem State.updTram_net (s : State) (f : TramState → TramState) : (s.updTram f).net = s.net := rfl
@[simp] theorem State.updTram_meter (s : State) (f : TramState → TramState) : (s.updTram f).meter = s.meter := rfl
@[simp] theorem State.updTram_zheoc (s : State) (f : TramState → TramState) : (s.updTram f).zheoc = s.zheoc := rfl
@[simp] theorem State.updTram_store (s : State) (f : TramState → TramState) : (s.updTram f).store = s.store := rfl
@[simp] theorem State.updTram_milestone (s : State) (f : TramState → TramState) : (s.updTram f).milestone = s.milestone := rfl
@[simp] theorem State.updTram_dict (s : State) (f : TramState → TramState) : (s.updTram f).dict = s.dict := rfl
@[simp] theorem State.updTram_bootDict (s : State) (f : TramState → TramState) : (s.updTram f).bootDict = s.bootDict := rfl
@[simp] theorem State.updTram_octets (s : State) (f : TramState → TramState) : (s.updTram f).octets = s.octets := rfl
@[simp] theorem State.updTram_periods (s : State) (f : TramState → TramState) : (s.updTram f).periods = s.periods := rfl
@[simp] theorem State.updTram_draws (s : State) (f : TramState → TramState) : (s.updTram f).draws = s.draws := rfl
@[simp] theorem State.updTram_pending (s : State) (f : TramState → TramState) : (s.updTram f).pending = s.pending := rfl

/-! setRegAt -/

@[simp] theorem State.setRegAt_mode (s : State) (o : ObjDesc) (i : Nat) (v : Int) : (s.setRegAt o i v).mode = s.mode := rfl
@[simp] theorem State.setRegAt_boot (s : State) (o : ObjDesc) (i : Nat) (v : Int) : (s.setRegAt o i v).boot = s.boot := rfl
@[simp] theorem State.setRegAt_outputs (s : State) (o : ObjDesc) (i : Nat) (v : Int) : (s.setRegAt o i v).outputs = s.outputs := rfl
@[simp] theorem State.setRegAt_power (s : State) (o : ObjDesc) (i : Nat) (v : Int) : (s.setRegAt o i v).power = s.power := rfl
@[simp] theorem State.setRegAt_clk (s : State) (o : ObjDesc) (i : Nat) (v : Int) : (s.setRegAt o i v).clk = s.clk := rfl
@[simp] theorem State.setRegAt_roundabout (s : State) (o : ObjDesc) (i : Nat) (v : Int) : (s.setRegAt o i v).roundabout = s.roundabout := rfl
@[simp] theorem State.setRegAt_queues (s : State) (o : ObjDesc) (i : Nat) (v : Int) : (s.setRegAt o i v).queues = s.queues := rfl
@[simp] theorem State.setRegAt_host (s : State) (o : ObjDesc) (i : Nat) (v : Int) : (s.setRegAt o i v).host = s.host := rfl
@[simp] theorem State.setRegAt_mbox (s : State) (o : ObjDesc) (i : Nat) (v : Int) : (s.setRegAt o i v).mbox = s.mbox := rfl
@[simp] theorem State.setRegAt_sessions (s : State) (o : ObjDesc) (i : Nat) (v : Int) : (s.setRegAt o i v).sessions = s.sessions := rfl
@[simp] theorem State.setRegAt_remotes (s : State) (o : ObjDesc) (i : Nat) (v : Int) : (s.setRegAt o i v).remotes = s.remotes := rfl
@[simp] theorem State.setRegAt_gnss (s : State) (o : ObjDesc) (i : Nat) (v : Int) : (s.setRegAt o i v).gnss = s.gnss := rfl
@[simp] theorem State.setRegAt_obs (s : State) (o : ObjDesc) (i : Nat) (v : Int) : (s.setRegAt o i v).obs = s.obs := rfl
@[simp] theorem State.setRegAt_baseRef (s : State) (o : ObjDesc) (i : Nat) (v : Int) : (s.setRegAt o i v).baseRef = s.baseRef := rfl
@[simp] theorem State.setRegAt_nav (s : State) (o : ObjDesc) (i : Nat) (v : Int) : (s.setRegAt o i v).nav = s.nav := rfl
@[simp] theorem State.setRegAt_blv (s : State) (o : ObjDesc) (i : Nat) (v : Int) : (s.setRegAt o i v).blv = s.blv := rfl
@[simp] theorem State.setRegAt_kerb (s : State) (o : ObjDesc) (i : Nat) (v : Int) : (s.setRegAt o i v).kerb = s.kerb := rfl
@[simp] theorem State.setRegAt_cover (s : State) (o : ObjDesc) (i : Nat) (v : Int) : (s.setRegAt o i v).cover = s.cover := rfl
@[simp] theorem State.setRegAt_cache (s : State) (o : ObjDesc) (i : Nat) (v : Int) : (s.setRegAt o i v).cache = s.cache := rfl
@[simp] theorem State.setRegAt_fleet (s : State) (o : ObjDesc) (i : Nat) (v : Int) : (s.setRegAt o i v).fleet = s.fleet := rfl
@[simp] theorem State.setRegAt_radio (s : State) (o : ObjDesc) (i : Nat) (v : Int) : (s.setRegAt o i v).radio = s.radio := rfl
@[simp] theorem State.setRegAt_crier (s : State) (o : ObjDesc) (i : Nat) (v : Int) : (s.setRegAt o i v).crier = s.crier := rfl
@[simp] theorem State.setRegAt_gate (s : State) (o : ObjDesc) (i : Nat) (v : Int) : (s.setRegAt o i v).gate = s.gate := rfl
@[simp] theorem State.setRegAt_tram (s : State) (o : ObjDesc) (i : Nat) (v : Int) : (s.setRegAt o i v).tram = s.tram := rfl
@[simp] theorem State.setRegAt_net (s : State) (o : ObjDesc) (i : Nat) (v : Int) : (s.setRegAt o i v).net = s.net := rfl
@[simp] theorem State.setRegAt_meter (s : State) (o : ObjDesc) (i : Nat) (v : Int) : (s.setRegAt o i v).meter = s.meter := rfl
@[simp] theorem State.setRegAt_zheoc (s : State) (o : ObjDesc) (i : Nat) (v : Int) : (s.setRegAt o i v).zheoc = s.zheoc := rfl
@[simp] theorem State.setRegAt_store (s : State) (o : ObjDesc) (i : Nat) (v : Int) : (s.setRegAt o i v).store = s.store := rfl
@[simp] theorem State.setRegAt_milestone (s : State) (o : ObjDesc) (i : Nat) (v : Int) : (s.setRegAt o i v).milestone = s.milestone := rfl
@[simp] theorem State.setRegAt_dict (s : State) (o : ObjDesc) (i : Nat) (v : Int) : (s.setRegAt o i v).dict = Tab.put o.dflt s.dict (regKey o i) v := rfl
@[simp] theorem State.setRegAt_bootDict (s : State) (o : ObjDesc) (i : Nat) (v : Int) : (s.setRegAt o i v).bootDict = s.bootDict := rfl
@[simp] theorem State.setRegAt_octets (s : State) (o : ObjDesc) (i : Nat) (v : Int) : (s.setRegAt o i v).octets = s.octets := rfl
@[simp] theorem State.setRegAt_periods (s : State) (o : ObjDesc) (i : Nat) (v : Int) : (s.setRegAt o i v).periods = s.periods := rfl
@[simp] theorem State.setRegAt_draws (s : State) (o : ObjDesc) (i : Nat) (v : Int) : (s.setRegAt o i v).draws = s.draws := rfl
@[simp] theorem State.setRegAt_pending (s : State) (o : ObjDesc) (i : Nat) (v : Int) : (s.setRegAt o i v).pending = s.pending := rfl

/-! setReg -/

@[simp] theorem State.setReg_mode (s : State) (o : ObjDesc) (v : Int) : (s.setReg o v).mode = s.mode := rfl
@[simp] theorem State.setReg_boot (s : State) (o : ObjDesc) (v : Int) : (s.setReg o v).boot = s.boot := rfl
@[simp] theorem State.setReg_outputs (s : State) (o : ObjDesc) (v : Int) : (s.setReg o v).outputs = s.outputs := rfl
@[simp] theorem State.setReg_power (s : State) (o : ObjDesc) (v : Int) : (s.setReg o v).power = s.power := rfl
@[simp] theorem State.setReg_clk (s : State) (o : ObjDesc) (v : Int) : (s.setReg o v).clk = s.clk := rfl
@[simp] theorem State.setReg_roundabout (s : State) (o : ObjDesc) (v : Int) : (s.setReg o v).roundabout = s.roundabout := rfl
@[simp] theorem State.setReg_queues (s : State) (o : ObjDesc) (v : Int) : (s.setReg o v).queues = s.queues := rfl
@[simp] theorem State.setReg_host (s : State) (o : ObjDesc) (v : Int) : (s.setReg o v).host = s.host := rfl
@[simp] theorem State.setReg_mbox (s : State) (o : ObjDesc) (v : Int) : (s.setReg o v).mbox = s.mbox := rfl
@[simp] theorem State.setReg_sessions (s : State) (o : ObjDesc) (v : Int) : (s.setReg o v).sessions = s.sessions := rfl
@[simp] theorem State.setReg_remotes (s : State) (o : ObjDesc) (v : Int) : (s.setReg o v).remotes = s.remotes := rfl
@[simp] theorem State.setReg_gnss (s : State) (o : ObjDesc) (v : Int) : (s.setReg o v).gnss = s.gnss := rfl
@[simp] theorem State.setReg_obs (s : State) (o : ObjDesc) (v : Int) : (s.setReg o v).obs = s.obs := rfl
@[simp] theorem State.setReg_baseRef (s : State) (o : ObjDesc) (v : Int) : (s.setReg o v).baseRef = s.baseRef := rfl
@[simp] theorem State.setReg_nav (s : State) (o : ObjDesc) (v : Int) : (s.setReg o v).nav = s.nav := rfl
@[simp] theorem State.setReg_blv (s : State) (o : ObjDesc) (v : Int) : (s.setReg o v).blv = s.blv := rfl
@[simp] theorem State.setReg_kerb (s : State) (o : ObjDesc) (v : Int) : (s.setReg o v).kerb = s.kerb := rfl
@[simp] theorem State.setReg_cover (s : State) (o : ObjDesc) (v : Int) : (s.setReg o v).cover = s.cover := rfl
@[simp] theorem State.setReg_cache (s : State) (o : ObjDesc) (v : Int) : (s.setReg o v).cache = s.cache := rfl
@[simp] theorem State.setReg_fleet (s : State) (o : ObjDesc) (v : Int) : (s.setReg o v).fleet = s.fleet := rfl
@[simp] theorem State.setReg_radio (s : State) (o : ObjDesc) (v : Int) : (s.setReg o v).radio = s.radio := rfl
@[simp] theorem State.setReg_crier (s : State) (o : ObjDesc) (v : Int) : (s.setReg o v).crier = s.crier := rfl
@[simp] theorem State.setReg_gate (s : State) (o : ObjDesc) (v : Int) : (s.setReg o v).gate = s.gate := rfl
@[simp] theorem State.setReg_tram (s : State) (o : ObjDesc) (v : Int) : (s.setReg o v).tram = s.tram := rfl
@[simp] theorem State.setReg_net (s : State) (o : ObjDesc) (v : Int) : (s.setReg o v).net = s.net := rfl
@[simp] theorem State.setReg_meter (s : State) (o : ObjDesc) (v : Int) : (s.setReg o v).meter = s.meter := rfl
@[simp] theorem State.setReg_zheoc (s : State) (o : ObjDesc) (v : Int) : (s.setReg o v).zheoc = s.zheoc := rfl
@[simp] theorem State.setReg_store (s : State) (o : ObjDesc) (v : Int) : (s.setReg o v).store = s.store := rfl
@[simp] theorem State.setReg_milestone (s : State) (o : ObjDesc) (v : Int) : (s.setReg o v).milestone = s.milestone := rfl
@[simp] theorem State.setReg_dict (s : State) (o : ObjDesc) (v : Int) : (s.setReg o v).dict = Tab.put o.dflt s.dict (regKey o 0) v := rfl
@[simp] theorem State.setReg_bootDict (s : State) (o : ObjDesc) (v : Int) : (s.setReg o v).bootDict = s.bootDict := rfl
@[simp] theorem State.setReg_octets (s : State) (o : ObjDesc) (v : Int) : (s.setReg o v).octets = s.octets := rfl
@[simp] theorem State.setReg_periods (s : State) (o : ObjDesc) (v : Int) : (s.setReg o v).periods = s.periods := rfl
@[simp] theorem State.setReg_draws (s : State) (o : ObjDesc) (v : Int) : (s.setReg o v).draws = s.draws := rfl
@[simp] theorem State.setReg_pending (s : State) (o : ObjDesc) (v : Int) : (s.setReg o v).pending = s.pending := rfl

/-! addRegAt -/

@[simp] theorem State.addRegAt_mode (s : State) (o : ObjDesc) (i n : Nat) : (s.addRegAt o i n).mode = s.mode := rfl
@[simp] theorem State.addRegAt_boot (s : State) (o : ObjDesc) (i n : Nat) : (s.addRegAt o i n).boot = s.boot := rfl
@[simp] theorem State.addRegAt_outputs (s : State) (o : ObjDesc) (i n : Nat) : (s.addRegAt o i n).outputs = s.outputs := rfl
@[simp] theorem State.addRegAt_power (s : State) (o : ObjDesc) (i n : Nat) : (s.addRegAt o i n).power = s.power := rfl
@[simp] theorem State.addRegAt_clk (s : State) (o : ObjDesc) (i n : Nat) : (s.addRegAt o i n).clk = s.clk := rfl
@[simp] theorem State.addRegAt_roundabout (s : State) (o : ObjDesc) (i n : Nat) : (s.addRegAt o i n).roundabout = s.roundabout := rfl
@[simp] theorem State.addRegAt_queues (s : State) (o : ObjDesc) (i n : Nat) : (s.addRegAt o i n).queues = s.queues := rfl
@[simp] theorem State.addRegAt_host (s : State) (o : ObjDesc) (i n : Nat) : (s.addRegAt o i n).host = s.host := rfl
@[simp] theorem State.addRegAt_mbox (s : State) (o : ObjDesc) (i n : Nat) : (s.addRegAt o i n).mbox = s.mbox := rfl
@[simp] theorem State.addRegAt_sessions (s : State) (o : ObjDesc) (i n : Nat) : (s.addRegAt o i n).sessions = s.sessions := rfl
@[simp] theorem State.addRegAt_remotes (s : State) (o : ObjDesc) (i n : Nat) : (s.addRegAt o i n).remotes = s.remotes := rfl
@[simp] theorem State.addRegAt_gnss (s : State) (o : ObjDesc) (i n : Nat) : (s.addRegAt o i n).gnss = s.gnss := rfl
@[simp] theorem State.addRegAt_obs (s : State) (o : ObjDesc) (i n : Nat) : (s.addRegAt o i n).obs = s.obs := rfl
@[simp] theorem State.addRegAt_baseRef (s : State) (o : ObjDesc) (i n : Nat) : (s.addRegAt o i n).baseRef = s.baseRef := rfl
@[simp] theorem State.addRegAt_nav (s : State) (o : ObjDesc) (i n : Nat) : (s.addRegAt o i n).nav = s.nav := rfl
@[simp] theorem State.addRegAt_blv (s : State) (o : ObjDesc) (i n : Nat) : (s.addRegAt o i n).blv = s.blv := rfl
@[simp] theorem State.addRegAt_kerb (s : State) (o : ObjDesc) (i n : Nat) : (s.addRegAt o i n).kerb = s.kerb := rfl
@[simp] theorem State.addRegAt_cover (s : State) (o : ObjDesc) (i n : Nat) : (s.addRegAt o i n).cover = s.cover := rfl
@[simp] theorem State.addRegAt_cache (s : State) (o : ObjDesc) (i n : Nat) : (s.addRegAt o i n).cache = s.cache := rfl
@[simp] theorem State.addRegAt_fleet (s : State) (o : ObjDesc) (i n : Nat) : (s.addRegAt o i n).fleet = s.fleet := rfl
@[simp] theorem State.addRegAt_radio (s : State) (o : ObjDesc) (i n : Nat) : (s.addRegAt o i n).radio = s.radio := rfl
@[simp] theorem State.addRegAt_crier (s : State) (o : ObjDesc) (i n : Nat) : (s.addRegAt o i n).crier = s.crier := rfl
@[simp] theorem State.addRegAt_gate (s : State) (o : ObjDesc) (i n : Nat) : (s.addRegAt o i n).gate = s.gate := rfl
@[simp] theorem State.addRegAt_tram (s : State) (o : ObjDesc) (i n : Nat) : (s.addRegAt o i n).tram = s.tram := rfl
@[simp] theorem State.addRegAt_net (s : State) (o : ObjDesc) (i n : Nat) : (s.addRegAt o i n).net = s.net := rfl
@[simp] theorem State.addRegAt_meter (s : State) (o : ObjDesc) (i n : Nat) : (s.addRegAt o i n).meter = s.meter := rfl
@[simp] theorem State.addRegAt_zheoc (s : State) (o : ObjDesc) (i n : Nat) : (s.addRegAt o i n).zheoc = s.zheoc := rfl
@[simp] theorem State.addRegAt_store (s : State) (o : ObjDesc) (i n : Nat) : (s.addRegAt o i n).store = s.store := rfl
@[simp] theorem State.addRegAt_milestone (s : State) (o : ObjDesc) (i n : Nat) : (s.addRegAt o i n).milestone = s.milestone := rfl
@[simp] theorem State.addRegAt_bootDict (s : State) (o : ObjDesc) (i n : Nat) : (s.addRegAt o i n).bootDict = s.bootDict := rfl
@[simp] theorem State.addRegAt_octets (s : State) (o : ObjDesc) (i n : Nat) : (s.addRegAt o i n).octets = s.octets := rfl
@[simp] theorem State.addRegAt_periods (s : State) (o : ObjDesc) (i n : Nat) : (s.addRegAt o i n).periods = s.periods := rfl
@[simp] theorem State.addRegAt_draws (s : State) (o : ObjDesc) (i n : Nat) : (s.addRegAt o i n).draws = s.draws := rfl
@[simp] theorem State.addRegAt_pending (s : State) (o : ObjDesc) (i n : Nat) : (s.addRegAt o i n).pending = s.pending := rfl

/-! incr -/

@[simp] theorem State.incr_mode (s : State) (o : ObjDesc) : (s.incr o).mode = s.mode := rfl
@[simp] theorem State.incr_boot (s : State) (o : ObjDesc) : (s.incr o).boot = s.boot := rfl
@[simp] theorem State.incr_outputs (s : State) (o : ObjDesc) : (s.incr o).outputs = s.outputs := rfl
@[simp] theorem State.incr_power (s : State) (o : ObjDesc) : (s.incr o).power = s.power := rfl
@[simp] theorem State.incr_clk (s : State) (o : ObjDesc) : (s.incr o).clk = s.clk := rfl
@[simp] theorem State.incr_roundabout (s : State) (o : ObjDesc) : (s.incr o).roundabout = s.roundabout := rfl
@[simp] theorem State.incr_queues (s : State) (o : ObjDesc) : (s.incr o).queues = s.queues := rfl
@[simp] theorem State.incr_host (s : State) (o : ObjDesc) : (s.incr o).host = s.host := rfl
@[simp] theorem State.incr_mbox (s : State) (o : ObjDesc) : (s.incr o).mbox = s.mbox := rfl
@[simp] theorem State.incr_sessions (s : State) (o : ObjDesc) : (s.incr o).sessions = s.sessions := rfl
@[simp] theorem State.incr_remotes (s : State) (o : ObjDesc) : (s.incr o).remotes = s.remotes := rfl
@[simp] theorem State.incr_gnss (s : State) (o : ObjDesc) : (s.incr o).gnss = s.gnss := rfl
@[simp] theorem State.incr_obs (s : State) (o : ObjDesc) : (s.incr o).obs = s.obs := rfl
@[simp] theorem State.incr_baseRef (s : State) (o : ObjDesc) : (s.incr o).baseRef = s.baseRef := rfl
@[simp] theorem State.incr_nav (s : State) (o : ObjDesc) : (s.incr o).nav = s.nav := rfl
@[simp] theorem State.incr_blv (s : State) (o : ObjDesc) : (s.incr o).blv = s.blv := rfl
@[simp] theorem State.incr_kerb (s : State) (o : ObjDesc) : (s.incr o).kerb = s.kerb := rfl
@[simp] theorem State.incr_cover (s : State) (o : ObjDesc) : (s.incr o).cover = s.cover := rfl
@[simp] theorem State.incr_cache (s : State) (o : ObjDesc) : (s.incr o).cache = s.cache := rfl
@[simp] theorem State.incr_fleet (s : State) (o : ObjDesc) : (s.incr o).fleet = s.fleet := rfl
@[simp] theorem State.incr_radio (s : State) (o : ObjDesc) : (s.incr o).radio = s.radio := rfl
@[simp] theorem State.incr_crier (s : State) (o : ObjDesc) : (s.incr o).crier = s.crier := rfl
@[simp] theorem State.incr_gate (s : State) (o : ObjDesc) : (s.incr o).gate = s.gate := rfl
@[simp] theorem State.incr_tram (s : State) (o : ObjDesc) : (s.incr o).tram = s.tram := rfl
@[simp] theorem State.incr_net (s : State) (o : ObjDesc) : (s.incr o).net = s.net := rfl
@[simp] theorem State.incr_meter (s : State) (o : ObjDesc) : (s.incr o).meter = s.meter := rfl
@[simp] theorem State.incr_zheoc (s : State) (o : ObjDesc) : (s.incr o).zheoc = s.zheoc := rfl
@[simp] theorem State.incr_store (s : State) (o : ObjDesc) : (s.incr o).store = s.store := rfl
@[simp] theorem State.incr_milestone (s : State) (o : ObjDesc) : (s.incr o).milestone = s.milestone := rfl
@[simp] theorem State.incr_bootDict (s : State) (o : ObjDesc) : (s.incr o).bootDict = s.bootDict := rfl
@[simp] theorem State.incr_octets (s : State) (o : ObjDesc) : (s.incr o).octets = s.octets := rfl
@[simp] theorem State.incr_periods (s : State) (o : ObjDesc) : (s.incr o).periods = s.periods := rfl
@[simp] theorem State.incr_draws (s : State) (o : ObjDesc) : (s.incr o).draws = s.draws := rfl
@[simp] theorem State.incr_pending (s : State) (o : ObjDesc) : (s.incr o).pending = s.pending := rfl

/-! incrAt -/

@[simp] theorem State.incrAt_mode (s : State) (o : ObjDesc) (i : Nat) : (s.incrAt o i).mode = s.mode := rfl
@[simp] theorem State.incrAt_boot (s : State) (o : ObjDesc) (i : Nat) : (s.incrAt o i).boot = s.boot := rfl
@[simp] theorem State.incrAt_outputs (s : State) (o : ObjDesc) (i : Nat) : (s.incrAt o i).outputs = s.outputs := rfl
@[simp] theorem State.incrAt_power (s : State) (o : ObjDesc) (i : Nat) : (s.incrAt o i).power = s.power := rfl
@[simp] theorem State.incrAt_clk (s : State) (o : ObjDesc) (i : Nat) : (s.incrAt o i).clk = s.clk := rfl
@[simp] theorem State.incrAt_roundabout (s : State) (o : ObjDesc) (i : Nat) : (s.incrAt o i).roundabout = s.roundabout := rfl
@[simp] theorem State.incrAt_queues (s : State) (o : ObjDesc) (i : Nat) : (s.incrAt o i).queues = s.queues := rfl
@[simp] theorem State.incrAt_host (s : State) (o : ObjDesc) (i : Nat) : (s.incrAt o i).host = s.host := rfl
@[simp] theorem State.incrAt_mbox (s : State) (o : ObjDesc) (i : Nat) : (s.incrAt o i).mbox = s.mbox := rfl
@[simp] theorem State.incrAt_sessions (s : State) (o : ObjDesc) (i : Nat) : (s.incrAt o i).sessions = s.sessions := rfl
@[simp] theorem State.incrAt_remotes (s : State) (o : ObjDesc) (i : Nat) : (s.incrAt o i).remotes = s.remotes := rfl
@[simp] theorem State.incrAt_gnss (s : State) (o : ObjDesc) (i : Nat) : (s.incrAt o i).gnss = s.gnss := rfl
@[simp] theorem State.incrAt_obs (s : State) (o : ObjDesc) (i : Nat) : (s.incrAt o i).obs = s.obs := rfl
@[simp] theorem State.incrAt_baseRef (s : State) (o : ObjDesc) (i : Nat) : (s.incrAt o i).baseRef = s.baseRef := rfl
@[simp] theorem State.incrAt_nav (s : State) (o : ObjDesc) (i : Nat) : (s.incrAt o i).nav = s.nav := rfl
@[simp] theorem State.incrAt_blv (s : State) (o : ObjDesc) (i : Nat) : (s.incrAt o i).blv = s.blv := rfl
@[simp] theorem State.incrAt_kerb (s : State) (o : ObjDesc) (i : Nat) : (s.incrAt o i).kerb = s.kerb := rfl
@[simp] theorem State.incrAt_cover (s : State) (o : ObjDesc) (i : Nat) : (s.incrAt o i).cover = s.cover := rfl
@[simp] theorem State.incrAt_cache (s : State) (o : ObjDesc) (i : Nat) : (s.incrAt o i).cache = s.cache := rfl
@[simp] theorem State.incrAt_fleet (s : State) (o : ObjDesc) (i : Nat) : (s.incrAt o i).fleet = s.fleet := rfl
@[simp] theorem State.incrAt_radio (s : State) (o : ObjDesc) (i : Nat) : (s.incrAt o i).radio = s.radio := rfl
@[simp] theorem State.incrAt_crier (s : State) (o : ObjDesc) (i : Nat) : (s.incrAt o i).crier = s.crier := rfl
@[simp] theorem State.incrAt_gate (s : State) (o : ObjDesc) (i : Nat) : (s.incrAt o i).gate = s.gate := rfl
@[simp] theorem State.incrAt_tram (s : State) (o : ObjDesc) (i : Nat) : (s.incrAt o i).tram = s.tram := rfl
@[simp] theorem State.incrAt_net (s : State) (o : ObjDesc) (i : Nat) : (s.incrAt o i).net = s.net := rfl
@[simp] theorem State.incrAt_meter (s : State) (o : ObjDesc) (i : Nat) : (s.incrAt o i).meter = s.meter := rfl
@[simp] theorem State.incrAt_zheoc (s : State) (o : ObjDesc) (i : Nat) : (s.incrAt o i).zheoc = s.zheoc := rfl
@[simp] theorem State.incrAt_store (s : State) (o : ObjDesc) (i : Nat) : (s.incrAt o i).store = s.store := rfl
@[simp] theorem State.incrAt_milestone (s : State) (o : ObjDesc) (i : Nat) : (s.incrAt o i).milestone = s.milestone := rfl
@[simp] theorem State.incrAt_bootDict (s : State) (o : ObjDesc) (i : Nat) : (s.incrAt o i).bootDict = s.bootDict := rfl
@[simp] theorem State.incrAt_octets (s : State) (o : ObjDesc) (i : Nat) : (s.incrAt o i).octets = s.octets := rfl
@[simp] theorem State.incrAt_periods (s : State) (o : ObjDesc) (i : Nat) : (s.incrAt o i).periods = s.periods := rfl
@[simp] theorem State.incrAt_draws (s : State) (o : ObjDesc) (i : Nat) : (s.incrAt o i).draws = s.draws := rfl
@[simp] theorem State.incrAt_pending (s : State) (o : ObjDesc) (i : Nat) : (s.incrAt o i).pending = s.pending := rfl

/-! setOctAt -/

@[simp] theorem State.setOctAt_mode (s : State) (o : ObjDesc) (i : Nat) (v : List Byte) : (s.setOctAt o i v).mode = s.mode := rfl
@[simp] theorem State.setOctAt_boot (s : State) (o : ObjDesc) (i : Nat) (v : List Byte) : (s.setOctAt o i v).boot = s.boot := rfl
@[simp] theorem State.setOctAt_outputs (s : State) (o : ObjDesc) (i : Nat) (v : List Byte) : (s.setOctAt o i v).outputs = s.outputs := rfl
@[simp] theorem State.setOctAt_power (s : State) (o : ObjDesc) (i : Nat) (v : List Byte) : (s.setOctAt o i v).power = s.power := rfl
@[simp] theorem State.setOctAt_clk (s : State) (o : ObjDesc) (i : Nat) (v : List Byte) : (s.setOctAt o i v).clk = s.clk := rfl
@[simp] theorem State.setOctAt_roundabout (s : State) (o : ObjDesc) (i : Nat) (v : List Byte) : (s.setOctAt o i v).roundabout = s.roundabout := rfl
@[simp] theorem State.setOctAt_queues (s : State) (o : ObjDesc) (i : Nat) (v : List Byte) : (s.setOctAt o i v).queues = s.queues := rfl
@[simp] theorem State.setOctAt_host (s : State) (o : ObjDesc) (i : Nat) (v : List Byte) : (s.setOctAt o i v).host = s.host := rfl
@[simp] theorem State.setOctAt_mbox (s : State) (o : ObjDesc) (i : Nat) (v : List Byte) : (s.setOctAt o i v).mbox = s.mbox := rfl
@[simp] theorem State.setOctAt_sessions (s : State) (o : ObjDesc) (i : Nat) (v : List Byte) : (s.setOctAt o i v).sessions = s.sessions := rfl
@[simp] theorem State.setOctAt_remotes (s : State) (o : ObjDesc) (i : Nat) (v : List Byte) : (s.setOctAt o i v).remotes = s.remotes := rfl
@[simp] theorem State.setOctAt_gnss (s : State) (o : ObjDesc) (i : Nat) (v : List Byte) : (s.setOctAt o i v).gnss = s.gnss := rfl
@[simp] theorem State.setOctAt_obs (s : State) (o : ObjDesc) (i : Nat) (v : List Byte) : (s.setOctAt o i v).obs = s.obs := rfl
@[simp] theorem State.setOctAt_baseRef (s : State) (o : ObjDesc) (i : Nat) (v : List Byte) : (s.setOctAt o i v).baseRef = s.baseRef := rfl
@[simp] theorem State.setOctAt_nav (s : State) (o : ObjDesc) (i : Nat) (v : List Byte) : (s.setOctAt o i v).nav = s.nav := rfl
@[simp] theorem State.setOctAt_blv (s : State) (o : ObjDesc) (i : Nat) (v : List Byte) : (s.setOctAt o i v).blv = s.blv := rfl
@[simp] theorem State.setOctAt_kerb (s : State) (o : ObjDesc) (i : Nat) (v : List Byte) : (s.setOctAt o i v).kerb = s.kerb := rfl
@[simp] theorem State.setOctAt_cover (s : State) (o : ObjDesc) (i : Nat) (v : List Byte) : (s.setOctAt o i v).cover = s.cover := rfl
@[simp] theorem State.setOctAt_cache (s : State) (o : ObjDesc) (i : Nat) (v : List Byte) : (s.setOctAt o i v).cache = s.cache := rfl
@[simp] theorem State.setOctAt_fleet (s : State) (o : ObjDesc) (i : Nat) (v : List Byte) : (s.setOctAt o i v).fleet = s.fleet := rfl
@[simp] theorem State.setOctAt_radio (s : State) (o : ObjDesc) (i : Nat) (v : List Byte) : (s.setOctAt o i v).radio = s.radio := rfl
@[simp] theorem State.setOctAt_crier (s : State) (o : ObjDesc) (i : Nat) (v : List Byte) : (s.setOctAt o i v).crier = s.crier := rfl
@[simp] theorem State.setOctAt_gate (s : State) (o : ObjDesc) (i : Nat) (v : List Byte) : (s.setOctAt o i v).gate = s.gate := rfl
@[simp] theorem State.setOctAt_tram (s : State) (o : ObjDesc) (i : Nat) (v : List Byte) : (s.setOctAt o i v).tram = s.tram := rfl
@[simp] theorem State.setOctAt_net (s : State) (o : ObjDesc) (i : Nat) (v : List Byte) : (s.setOctAt o i v).net = s.net := rfl
@[simp] theorem State.setOctAt_meter (s : State) (o : ObjDesc) (i : Nat) (v : List Byte) : (s.setOctAt o i v).meter = s.meter := rfl
@[simp] theorem State.setOctAt_zheoc (s : State) (o : ObjDesc) (i : Nat) (v : List Byte) : (s.setOctAt o i v).zheoc = s.zheoc := rfl
@[simp] theorem State.setOctAt_store (s : State) (o : ObjDesc) (i : Nat) (v : List Byte) : (s.setOctAt o i v).store = s.store := rfl
@[simp] theorem State.setOctAt_milestone (s : State) (o : ObjDesc) (i : Nat) (v : List Byte) : (s.setOctAt o i v).milestone = s.milestone := rfl
@[simp] theorem State.setOctAt_dict (s : State) (o : ObjDesc) (i : Nat) (v : List Byte) : (s.setOctAt o i v).dict = s.dict := rfl
@[simp] theorem State.setOctAt_bootDict (s : State) (o : ObjDesc) (i : Nat) (v : List Byte) : (s.setOctAt o i v).bootDict = s.bootDict := rfl
@[simp] theorem State.setOctAt_octets (s : State) (o : ObjDesc) (i : Nat) (v : List Byte) : (s.setOctAt o i v).octets = Tab.put (octetDefault o) s.octets (regKey o i) v := rfl
@[simp] theorem State.setOctAt_periods (s : State) (o : ObjDesc) (i : Nat) (v : List Byte) : (s.setOctAt o i v).periods = s.periods := rfl
@[simp] theorem State.setOctAt_draws (s : State) (o : ObjDesc) (i : Nat) (v : List Byte) : (s.setOctAt o i v).draws = s.draws := rfl
@[simp] theorem State.setOctAt_pending (s : State) (o : ObjDesc) (i : Nat) (v : List Byte) : (s.setOctAt o i v).pending = s.pending := rfl

/-! setOct -/

@[simp] theorem State.setOct_mode (s : State) (o : ObjDesc) (v : List Byte) : (s.setOct o v).mode = s.mode := rfl
@[simp] theorem State.setOct_boot (s : State) (o : ObjDesc) (v : List Byte) : (s.setOct o v).boot = s.boot := rfl
@[simp] theorem State.setOct_outputs (s : State) (o : ObjDesc) (v : List Byte) : (s.setOct o v).outputs = s.outputs := rfl
@[simp] theorem State.setOct_power (s : State) (o : ObjDesc) (v : List Byte) : (s.setOct o v).power = s.power := rfl
@[simp] theorem State.setOct_clk (s : State) (o : ObjDesc) (v : List Byte) : (s.setOct o v).clk = s.clk := rfl
@[simp] theorem State.setOct_roundabout (s : State) (o : ObjDesc) (v : List Byte) : (s.setOct o v).roundabout = s.roundabout := rfl
@[simp] theorem State.setOct_queues (s : State) (o : ObjDesc) (v : List Byte) : (s.setOct o v).queues = s.queues := rfl
@[simp] theorem State.setOct_host (s : State) (o : ObjDesc) (v : List Byte) : (s.setOct o v).host = s.host := rfl
@[simp] theorem State.setOct_mbox (s : State) (o : ObjDesc) (v : List Byte) : (s.setOct o v).mbox = s.mbox := rfl
@[simp] theorem State.setOct_sessions (s : State) (o : ObjDesc) (v : List Byte) : (s.setOct o v).sessions = s.sessions := rfl
@[simp] theorem State.setOct_remotes (s : State) (o : ObjDesc) (v : List Byte) : (s.setOct o v).remotes = s.remotes := rfl
@[simp] theorem State.setOct_gnss (s : State) (o : ObjDesc) (v : List Byte) : (s.setOct o v).gnss = s.gnss := rfl
@[simp] theorem State.setOct_obs (s : State) (o : ObjDesc) (v : List Byte) : (s.setOct o v).obs = s.obs := rfl
@[simp] theorem State.setOct_baseRef (s : State) (o : ObjDesc) (v : List Byte) : (s.setOct o v).baseRef = s.baseRef := rfl
@[simp] theorem State.setOct_nav (s : State) (o : ObjDesc) (v : List Byte) : (s.setOct o v).nav = s.nav := rfl
@[simp] theorem State.setOct_blv (s : State) (o : ObjDesc) (v : List Byte) : (s.setOct o v).blv = s.blv := rfl
@[simp] theorem State.setOct_kerb (s : State) (o : ObjDesc) (v : List Byte) : (s.setOct o v).kerb = s.kerb := rfl
@[simp] theorem State.setOct_cover (s : State) (o : ObjDesc) (v : List Byte) : (s.setOct o v).cover = s.cover := rfl
@[simp] theorem State.setOct_cache (s : State) (o : ObjDesc) (v : List Byte) : (s.setOct o v).cache = s.cache := rfl
@[simp] theorem State.setOct_fleet (s : State) (o : ObjDesc) (v : List Byte) : (s.setOct o v).fleet = s.fleet := rfl
@[simp] theorem State.setOct_radio (s : State) (o : ObjDesc) (v : List Byte) : (s.setOct o v).radio = s.radio := rfl
@[simp] theorem State.setOct_crier (s : State) (o : ObjDesc) (v : List Byte) : (s.setOct o v).crier = s.crier := rfl
@[simp] theorem State.setOct_gate (s : State) (o : ObjDesc) (v : List Byte) : (s.setOct o v).gate = s.gate := rfl
@[simp] theorem State.setOct_tram (s : State) (o : ObjDesc) (v : List Byte) : (s.setOct o v).tram = s.tram := rfl
@[simp] theorem State.setOct_net (s : State) (o : ObjDesc) (v : List Byte) : (s.setOct o v).net = s.net := rfl
@[simp] theorem State.setOct_meter (s : State) (o : ObjDesc) (v : List Byte) : (s.setOct o v).meter = s.meter := rfl
@[simp] theorem State.setOct_zheoc (s : State) (o : ObjDesc) (v : List Byte) : (s.setOct o v).zheoc = s.zheoc := rfl
@[simp] theorem State.setOct_store (s : State) (o : ObjDesc) (v : List Byte) : (s.setOct o v).store = s.store := rfl
@[simp] theorem State.setOct_milestone (s : State) (o : ObjDesc) (v : List Byte) : (s.setOct o v).milestone = s.milestone := rfl
@[simp] theorem State.setOct_dict (s : State) (o : ObjDesc) (v : List Byte) : (s.setOct o v).dict = s.dict := rfl
@[simp] theorem State.setOct_bootDict (s : State) (o : ObjDesc) (v : List Byte) : (s.setOct o v).bootDict = s.bootDict := rfl
@[simp] theorem State.setOct_octets (s : State) (o : ObjDesc) (v : List Byte) : (s.setOct o v).octets = Tab.put (octetDefault o) s.octets (regKey o 0) v := rfl
@[simp] theorem State.setOct_periods (s : State) (o : ObjDesc) (v : List Byte) : (s.setOct o v).periods = s.periods := rfl
@[simp] theorem State.setOct_draws (s : State) (o : ObjDesc) (v : List Byte) : (s.setOct o v).draws = s.draws := rfl
@[simp] theorem State.setOct_pending (s : State) (o : ObjDesc) (v : List Byte) : (s.setOct o v).pending = s.pending := rfl

/-! updSession -/

@[simp] theorem State.updSession_mode (s : State) (q : Sess) (f : Session → Session) : (s.updSession q f).mode = s.mode := rfl
@[simp] theorem State.updSession_boot (s : State) (q : Sess) (f : Session → Session) : (s.updSession q f).boot = s.boot := rfl
@[simp] theorem State.updSession_outputs (s : State) (q : Sess) (f : Session → Session) : (s.updSession q f).outputs = s.outputs := rfl
@[simp] theorem State.updSession_power (s : State) (q : Sess) (f : Session → Session) : (s.updSession q f).power = s.power := rfl
@[simp] theorem State.updSession_clk (s : State) (q : Sess) (f : Session → Session) : (s.updSession q f).clk = s.clk := rfl
@[simp] theorem State.updSession_roundabout (s : State) (q : Sess) (f : Session → Session) : (s.updSession q f).roundabout = s.roundabout := rfl
@[simp] theorem State.updSession_queues (s : State) (q : Sess) (f : Session → Session) : (s.updSession q f).queues = s.queues := rfl
@[simp] theorem State.updSession_host (s : State) (q : Sess) (f : Session → Session) : (s.updSession q f).host = s.host := rfl
@[simp] theorem State.updSession_mbox (s : State) (q : Sess) (f : Session → Session) : (s.updSession q f).mbox = s.mbox := rfl
@[simp] theorem State.updSession_sessions (s : State) (q : Sess) (f : Session → Session) : (s.updSession q f).sessions = Tab.update Session.closed s.sessions (sessKey q) f := rfl
@[simp] theorem State.updSession_remotes (s : State) (q : Sess) (f : Session → Session) : (s.updSession q f).remotes = s.remotes := rfl
@[simp] theorem State.updSession_gnss (s : State) (q : Sess) (f : Session → Session) : (s.updSession q f).gnss = s.gnss := rfl
@[simp] theorem State.updSession_obs (s : State) (q : Sess) (f : Session → Session) : (s.updSession q f).obs = s.obs := rfl
@[simp] theorem State.updSession_baseRef (s : State) (q : Sess) (f : Session → Session) : (s.updSession q f).baseRef = s.baseRef := rfl
@[simp] theorem State.updSession_nav (s : State) (q : Sess) (f : Session → Session) : (s.updSession q f).nav = s.nav := rfl
@[simp] theorem State.updSession_blv (s : State) (q : Sess) (f : Session → Session) : (s.updSession q f).blv = s.blv := rfl
@[simp] theorem State.updSession_kerb (s : State) (q : Sess) (f : Session → Session) : (s.updSession q f).kerb = s.kerb := rfl
@[simp] theorem State.updSession_cover (s : State) (q : Sess) (f : Session → Session) : (s.updSession q f).cover = s.cover := rfl
@[simp] theorem State.updSession_cache (s : State) (q : Sess) (f : Session → Session) : (s.updSession q f).cache = s.cache := rfl
@[simp] theorem State.updSession_fleet (s : State) (q : Sess) (f : Session → Session) : (s.updSession q f).fleet = s.fleet := rfl
@[simp] theorem State.updSession_radio (s : State) (q : Sess) (f : Session → Session) : (s.updSession q f).radio = s.radio := rfl
@[simp] theorem State.updSession_crier (s : State) (q : Sess) (f : Session → Session) : (s.updSession q f).crier = s.crier := rfl
@[simp] theorem State.updSession_gate (s : State) (q : Sess) (f : Session → Session) : (s.updSession q f).gate = s.gate := rfl
@[simp] theorem State.updSession_tram (s : State) (q : Sess) (f : Session → Session) : (s.updSession q f).tram = s.tram := rfl
@[simp] theorem State.updSession_net (s : State) (q : Sess) (f : Session → Session) : (s.updSession q f).net = s.net := rfl
@[simp] theorem State.updSession_meter (s : State) (q : Sess) (f : Session → Session) : (s.updSession q f).meter = s.meter := rfl
@[simp] theorem State.updSession_zheoc (s : State) (q : Sess) (f : Session → Session) : (s.updSession q f).zheoc = s.zheoc := rfl
@[simp] theorem State.updSession_store (s : State) (q : Sess) (f : Session → Session) : (s.updSession q f).store = s.store := rfl
@[simp] theorem State.updSession_milestone (s : State) (q : Sess) (f : Session → Session) : (s.updSession q f).milestone = s.milestone := rfl
@[simp] theorem State.updSession_dict (s : State) (q : Sess) (f : Session → Session) : (s.updSession q f).dict = s.dict := rfl
@[simp] theorem State.updSession_bootDict (s : State) (q : Sess) (f : Session → Session) : (s.updSession q f).bootDict = s.bootDict := rfl
@[simp] theorem State.updSession_octets (s : State) (q : Sess) (f : Session → Session) : (s.updSession q f).octets = s.octets := rfl
@[simp] theorem State.updSession_periods (s : State) (q : Sess) (f : Session → Session) : (s.updSession q f).periods = s.periods := rfl
@[simp] theorem State.updSession_draws (s : State) (q : Sess) (f : Session → Session) : (s.updSession q f).draws = s.draws := rfl
@[simp] theorem State.updSession_pending (s : State) (q : Sess) (f : Session → Session) : (s.updSession q f).pending = s.pending := rfl

/-! raiseIrq -/

@[simp] theorem State.raiseIrq_mode (s : State) (n : Nat) : (s.raiseIrq n).mode = s.mode := rfl
@[simp] theorem State.raiseIrq_boot (s : State) (n : Nat) : (s.raiseIrq n).boot = s.boot := rfl
@[simp] theorem State.raiseIrq_outputs (s : State) (n : Nat) : (s.raiseIrq n).outputs = s.outputs := rfl
@[simp] theorem State.raiseIrq_power (s : State) (n : Nat) : (s.raiseIrq n).power = s.power := rfl
@[simp] theorem State.raiseIrq_clk (s : State) (n : Nat) : (s.raiseIrq n).clk = s.clk := rfl
@[simp] theorem State.raiseIrq_roundabout (s : State) (n : Nat) : (s.raiseIrq n).roundabout = s.roundabout := rfl
@[simp] theorem State.raiseIrq_queues (s : State) (n : Nat) : (s.raiseIrq n).queues = s.queues := rfl
@[simp] theorem State.raiseIrq_mbox (s : State) (n : Nat) : (s.raiseIrq n).mbox = s.mbox := rfl
@[simp] theorem State.raiseIrq_sessions (s : State) (n : Nat) : (s.raiseIrq n).sessions = s.sessions := rfl
@[simp] theorem State.raiseIrq_remotes (s : State) (n : Nat) : (s.raiseIrq n).remotes = s.remotes := rfl
@[simp] theorem State.raiseIrq_gnss (s : State) (n : Nat) : (s.raiseIrq n).gnss = s.gnss := rfl
@[simp] theorem State.raiseIrq_obs (s : State) (n : Nat) : (s.raiseIrq n).obs = s.obs := rfl
@[simp] theorem State.raiseIrq_baseRef (s : State) (n : Nat) : (s.raiseIrq n).baseRef = s.baseRef := rfl
@[simp] theorem State.raiseIrq_nav (s : State) (n : Nat) : (s.raiseIrq n).nav = s.nav := rfl
@[simp] theorem State.raiseIrq_blv (s : State) (n : Nat) : (s.raiseIrq n).blv = s.blv := rfl
@[simp] theorem State.raiseIrq_kerb (s : State) (n : Nat) : (s.raiseIrq n).kerb = s.kerb := rfl
@[simp] theorem State.raiseIrq_cover (s : State) (n : Nat) : (s.raiseIrq n).cover = s.cover := rfl
@[simp] theorem State.raiseIrq_cache (s : State) (n : Nat) : (s.raiseIrq n).cache = s.cache := rfl
@[simp] theorem State.raiseIrq_fleet (s : State) (n : Nat) : (s.raiseIrq n).fleet = s.fleet := rfl
@[simp] theorem State.raiseIrq_radio (s : State) (n : Nat) : (s.raiseIrq n).radio = s.radio := rfl
@[simp] theorem State.raiseIrq_crier (s : State) (n : Nat) : (s.raiseIrq n).crier = s.crier := rfl
@[simp] theorem State.raiseIrq_gate (s : State) (n : Nat) : (s.raiseIrq n).gate = s.gate := rfl
@[simp] theorem State.raiseIrq_tram (s : State) (n : Nat) : (s.raiseIrq n).tram = s.tram := rfl
@[simp] theorem State.raiseIrq_net (s : State) (n : Nat) : (s.raiseIrq n).net = s.net := rfl
@[simp] theorem State.raiseIrq_meter (s : State) (n : Nat) : (s.raiseIrq n).meter = s.meter := rfl
@[simp] theorem State.raiseIrq_zheoc (s : State) (n : Nat) : (s.raiseIrq n).zheoc = s.zheoc := rfl
@[simp] theorem State.raiseIrq_store (s : State) (n : Nat) : (s.raiseIrq n).store = s.store := rfl
@[simp] theorem State.raiseIrq_milestone (s : State) (n : Nat) : (s.raiseIrq n).milestone = s.milestone := rfl
@[simp] theorem State.raiseIrq_dict (s : State) (n : Nat) : (s.raiseIrq n).dict = s.dict := rfl
@[simp] theorem State.raiseIrq_bootDict (s : State) (n : Nat) : (s.raiseIrq n).bootDict = s.bootDict := rfl
@[simp] theorem State.raiseIrq_octets (s : State) (n : Nat) : (s.raiseIrq n).octets = s.octets := rfl
@[simp] theorem State.raiseIrq_periods (s : State) (n : Nat) : (s.raiseIrq n).periods = s.periods := rfl
@[simp] theorem State.raiseIrq_draws (s : State) (n : Nat) : (s.raiseIrq n).draws = s.draws := rfl
@[simp] theorem State.raiseIrq_pending (s : State) (n : Nat) : (s.raiseIrq n).pending = s.pending := rfl

/-! setQueue -/

@[simp] theorem State.setQueue_mode (s : State) (n : Nat) (q : QueueState) : (s.setQueue n q).mode = s.mode := rfl
@[simp] theorem State.setQueue_boot (s : State) (n : Nat) (q : QueueState) : (s.setQueue n q).boot = s.boot := rfl
@[simp] theorem State.setQueue_outputs (s : State) (n : Nat) (q : QueueState) : (s.setQueue n q).outputs = s.outputs := rfl
@[simp] theorem State.setQueue_power (s : State) (n : Nat) (q : QueueState) : (s.setQueue n q).power = s.power := rfl
@[simp] theorem State.setQueue_clk (s : State) (n : Nat) (q : QueueState) : (s.setQueue n q).clk = s.clk := rfl
@[simp] theorem State.setQueue_roundabout (s : State) (n : Nat) (q : QueueState) : (s.setQueue n q).roundabout = s.roundabout := rfl
@[simp] theorem State.setQueue_queues (s : State) (n : Nat) (q : QueueState) : (s.setQueue n q).queues = Tab.put QueueState.closed s.queues n q := rfl
@[simp] theorem State.setQueue_host (s : State) (n : Nat) (q : QueueState) : (s.setQueue n q).host = s.host := rfl
@[simp] theorem State.setQueue_mbox (s : State) (n : Nat) (q : QueueState) : (s.setQueue n q).mbox = s.mbox := rfl
@[simp] theorem State.setQueue_sessions (s : State) (n : Nat) (q : QueueState) : (s.setQueue n q).sessions = s.sessions := rfl
@[simp] theorem State.setQueue_remotes (s : State) (n : Nat) (q : QueueState) : (s.setQueue n q).remotes = s.remotes := rfl
@[simp] theorem State.setQueue_gnss (s : State) (n : Nat) (q : QueueState) : (s.setQueue n q).gnss = s.gnss := rfl
@[simp] theorem State.setQueue_obs (s : State) (n : Nat) (q : QueueState) : (s.setQueue n q).obs = s.obs := rfl
@[simp] theorem State.setQueue_baseRef (s : State) (n : Nat) (q : QueueState) : (s.setQueue n q).baseRef = s.baseRef := rfl
@[simp] theorem State.setQueue_nav (s : State) (n : Nat) (q : QueueState) : (s.setQueue n q).nav = s.nav := rfl
@[simp] theorem State.setQueue_blv (s : State) (n : Nat) (q : QueueState) : (s.setQueue n q).blv = s.blv := rfl
@[simp] theorem State.setQueue_kerb (s : State) (n : Nat) (q : QueueState) : (s.setQueue n q).kerb = s.kerb := rfl
@[simp] theorem State.setQueue_cover (s : State) (n : Nat) (q : QueueState) : (s.setQueue n q).cover = s.cover := rfl
@[simp] theorem State.setQueue_cache (s : State) (n : Nat) (q : QueueState) : (s.setQueue n q).cache = s.cache := rfl
@[simp] theorem State.setQueue_fleet (s : State) (n : Nat) (q : QueueState) : (s.setQueue n q).fleet = s.fleet := rfl
@[simp] theorem State.setQueue_radio (s : State) (n : Nat) (q : QueueState) : (s.setQueue n q).radio = s.radio := rfl
@[simp] theorem State.setQueue_crier (s : State) (n : Nat) (q : QueueState) : (s.setQueue n q).crier = s.crier := rfl
@[simp] theorem State.setQueue_gate (s : State) (n : Nat) (q : QueueState) : (s.setQueue n q).gate = s.gate := rfl
@[simp] theorem State.setQueue_tram (s : State) (n : Nat) (q : QueueState) : (s.setQueue n q).tram = s.tram := rfl
@[simp] theorem State.setQueue_net (s : State) (n : Nat) (q : QueueState) : (s.setQueue n q).net = s.net := rfl
@[simp] theorem State.setQueue_meter (s : State) (n : Nat) (q : QueueState) : (s.setQueue n q).meter = s.meter := rfl
@[simp] theorem State.setQueue_zheoc (s : State) (n : Nat) (q : QueueState) : (s.setQueue n q).zheoc = s.zheoc := rfl
@[simp] theorem State.setQueue_store (s : State) (n : Nat) (q : QueueState) : (s.setQueue n q).store = s.store := rfl
@[simp] theorem State.setQueue_milestone (s : State) (n : Nat) (q : QueueState) : (s.setQueue n q).milestone = s.milestone := rfl
@[simp] theorem State.setQueue_dict (s : State) (n : Nat) (q : QueueState) : (s.setQueue n q).dict = s.dict := rfl
@[simp] theorem State.setQueue_bootDict (s : State) (n : Nat) (q : QueueState) : (s.setQueue n q).bootDict = s.bootDict := rfl
@[simp] theorem State.setQueue_octets (s : State) (n : Nat) (q : QueueState) : (s.setQueue n q).octets = s.octets := rfl
@[simp] theorem State.setQueue_periods (s : State) (n : Nat) (q : QueueState) : (s.setQueue n q).periods = s.periods := rfl
@[simp] theorem State.setQueue_draws (s : State) (n : Nat) (q : QueueState) : (s.setQueue n q).draws = s.draws := rfl
@[simp] theorem State.setQueue_pending (s : State) (n : Nat) (q : QueueState) : (s.setQueue n q).pending = s.pending := rfl

/-! setChan -/

@[simp] theorem State.setChan_mode (s : State) (n : Nat) (c : Channel) : (s.setChan n c).mode = s.mode := rfl
@[simp] theorem State.setChan_boot (s : State) (n : Nat) (c : Channel) : (s.setChan n c).boot = s.boot := rfl
@[simp] theorem State.setChan_outputs (s : State) (n : Nat) (c : Channel) : (s.setChan n c).outputs = s.outputs := rfl
@[simp] theorem State.setChan_power (s : State) (n : Nat) (c : Channel) : (s.setChan n c).power = s.power := rfl
@[simp] theorem State.setChan_clk (s : State) (n : Nat) (c : Channel) : (s.setChan n c).clk = s.clk := rfl
@[simp] theorem State.setChan_roundabout (s : State) (n : Nat) (c : Channel) : (s.setChan n c).roundabout = s.roundabout := rfl
@[simp] theorem State.setChan_queues (s : State) (n : Nat) (c : Channel) : (s.setChan n c).queues = s.queues := rfl
@[simp] theorem State.setChan_host (s : State) (n : Nat) (c : Channel) : (s.setChan n c).host = s.host := rfl
@[simp] theorem State.setChan_mbox (s : State) (n : Nat) (c : Channel) : (s.setChan n c).mbox = s.mbox := rfl
@[simp] theorem State.setChan_sessions (s : State) (n : Nat) (c : Channel) : (s.setChan n c).sessions = s.sessions := rfl
@[simp] theorem State.setChan_remotes (s : State) (n : Nat) (c : Channel) : (s.setChan n c).remotes = s.remotes := rfl
@[simp] theorem State.setChan_obs (s : State) (n : Nat) (c : Channel) : (s.setChan n c).obs = s.obs := rfl
@[simp] theorem State.setChan_baseRef (s : State) (n : Nat) (c : Channel) : (s.setChan n c).baseRef = s.baseRef := rfl
@[simp] theorem State.setChan_nav (s : State) (n : Nat) (c : Channel) : (s.setChan n c).nav = s.nav := rfl
@[simp] theorem State.setChan_blv (s : State) (n : Nat) (c : Channel) : (s.setChan n c).blv = s.blv := rfl
@[simp] theorem State.setChan_kerb (s : State) (n : Nat) (c : Channel) : (s.setChan n c).kerb = s.kerb := rfl
@[simp] theorem State.setChan_cover (s : State) (n : Nat) (c : Channel) : (s.setChan n c).cover = s.cover := rfl
@[simp] theorem State.setChan_cache (s : State) (n : Nat) (c : Channel) : (s.setChan n c).cache = s.cache := rfl
@[simp] theorem State.setChan_fleet (s : State) (n : Nat) (c : Channel) : (s.setChan n c).fleet = s.fleet := rfl
@[simp] theorem State.setChan_radio (s : State) (n : Nat) (c : Channel) : (s.setChan n c).radio = s.radio := rfl
@[simp] theorem State.setChan_crier (s : State) (n : Nat) (c : Channel) : (s.setChan n c).crier = s.crier := rfl
@[simp] theorem State.setChan_gate (s : State) (n : Nat) (c : Channel) : (s.setChan n c).gate = s.gate := rfl
@[simp] theorem State.setChan_tram (s : State) (n : Nat) (c : Channel) : (s.setChan n c).tram = s.tram := rfl
@[simp] theorem State.setChan_net (s : State) (n : Nat) (c : Channel) : (s.setChan n c).net = s.net := rfl
@[simp] theorem State.setChan_meter (s : State) (n : Nat) (c : Channel) : (s.setChan n c).meter = s.meter := rfl
@[simp] theorem State.setChan_zheoc (s : State) (n : Nat) (c : Channel) : (s.setChan n c).zheoc = s.zheoc := rfl
@[simp] theorem State.setChan_store (s : State) (n : Nat) (c : Channel) : (s.setChan n c).store = s.store := rfl
@[simp] theorem State.setChan_milestone (s : State) (n : Nat) (c : Channel) : (s.setChan n c).milestone = s.milestone := rfl
@[simp] theorem State.setChan_dict (s : State) (n : Nat) (c : Channel) : (s.setChan n c).dict = s.dict := rfl
@[simp] theorem State.setChan_bootDict (s : State) (n : Nat) (c : Channel) : (s.setChan n c).bootDict = s.bootDict := rfl
@[simp] theorem State.setChan_octets (s : State) (n : Nat) (c : Channel) : (s.setChan n c).octets = s.octets := rfl
@[simp] theorem State.setChan_periods (s : State) (n : Nat) (c : Channel) : (s.setChan n c).periods = s.periods := rfl
@[simp] theorem State.setChan_draws (s : State) (n : Nat) (c : Channel) : (s.setChan n c).draws = s.draws := rfl
@[simp] theorem State.setChan_pending (s : State) (n : Nat) (c : Channel) : (s.setChan n c).pending = s.pending := rfl

/-! updSnapshot -/

@[simp] theorem State.updSnapshot_mode (s : State) (f : SnapshotState → SnapshotState) : (s.updSnapshot f).mode = s.mode := rfl
@[simp] theorem State.updSnapshot_boot (s : State) (f : SnapshotState → SnapshotState) : (s.updSnapshot f).boot = s.boot := rfl
@[simp] theorem State.updSnapshot_outputs (s : State) (f : SnapshotState → SnapshotState) : (s.updSnapshot f).outputs = s.outputs := rfl
@[simp] theorem State.updSnapshot_power (s : State) (f : SnapshotState → SnapshotState) : (s.updSnapshot f).power = s.power := rfl
@[simp] theorem State.updSnapshot_clk (s : State) (f : SnapshotState → SnapshotState) : (s.updSnapshot f).clk = s.clk := rfl
@[simp] theorem State.updSnapshot_roundabout (s : State) (f : SnapshotState → SnapshotState) : (s.updSnapshot f).roundabout = s.roundabout := rfl
@[simp] theorem State.updSnapshot_queues (s : State) (f : SnapshotState → SnapshotState) : (s.updSnapshot f).queues = s.queues := rfl
@[simp] theorem State.updSnapshot_host (s : State) (f : SnapshotState → SnapshotState) : (s.updSnapshot f).host = s.host := rfl
@[simp] theorem State.updSnapshot_mbox (s : State) (f : SnapshotState → SnapshotState) : (s.updSnapshot f).mbox = s.mbox := rfl
@[simp] theorem State.updSnapshot_sessions (s : State) (f : SnapshotState → SnapshotState) : (s.updSnapshot f).sessions = s.sessions := rfl
@[simp] theorem State.updSnapshot_remotes (s : State) (f : SnapshotState → SnapshotState) : (s.updSnapshot f).remotes = s.remotes := rfl
@[simp] theorem State.updSnapshot_obs (s : State) (f : SnapshotState → SnapshotState) : (s.updSnapshot f).obs = s.obs := rfl
@[simp] theorem State.updSnapshot_baseRef (s : State) (f : SnapshotState → SnapshotState) : (s.updSnapshot f).baseRef = s.baseRef := rfl
@[simp] theorem State.updSnapshot_nav (s : State) (f : SnapshotState → SnapshotState) : (s.updSnapshot f).nav = s.nav := rfl
@[simp] theorem State.updSnapshot_blv (s : State) (f : SnapshotState → SnapshotState) : (s.updSnapshot f).blv = s.blv := rfl
@[simp] theorem State.updSnapshot_kerb (s : State) (f : SnapshotState → SnapshotState) : (s.updSnapshot f).kerb = s.kerb := rfl
@[simp] theorem State.updSnapshot_cover (s : State) (f : SnapshotState → SnapshotState) : (s.updSnapshot f).cover = s.cover := rfl
@[simp] theorem State.updSnapshot_cache (s : State) (f : SnapshotState → SnapshotState) : (s.updSnapshot f).cache = s.cache := rfl
@[simp] theorem State.updSnapshot_fleet (s : State) (f : SnapshotState → SnapshotState) : (s.updSnapshot f).fleet = s.fleet := rfl
@[simp] theorem State.updSnapshot_radio (s : State) (f : SnapshotState → SnapshotState) : (s.updSnapshot f).radio = s.radio := rfl
@[simp] theorem State.updSnapshot_crier (s : State) (f : SnapshotState → SnapshotState) : (s.updSnapshot f).crier = s.crier := rfl
@[simp] theorem State.updSnapshot_gate (s : State) (f : SnapshotState → SnapshotState) : (s.updSnapshot f).gate = s.gate := rfl
@[simp] theorem State.updSnapshot_tram (s : State) (f : SnapshotState → SnapshotState) : (s.updSnapshot f).tram = s.tram := rfl
@[simp] theorem State.updSnapshot_net (s : State) (f : SnapshotState → SnapshotState) : (s.updSnapshot f).net = s.net := rfl
@[simp] theorem State.updSnapshot_meter (s : State) (f : SnapshotState → SnapshotState) : (s.updSnapshot f).meter = s.meter := rfl
@[simp] theorem State.updSnapshot_zheoc (s : State) (f : SnapshotState → SnapshotState) : (s.updSnapshot f).zheoc = s.zheoc := rfl
@[simp] theorem State.updSnapshot_store (s : State) (f : SnapshotState → SnapshotState) : (s.updSnapshot f).store = s.store := rfl
@[simp] theorem State.updSnapshot_milestone (s : State) (f : SnapshotState → SnapshotState) : (s.updSnapshot f).milestone = s.milestone := rfl
@[simp] theorem State.updSnapshot_dict (s : State) (f : SnapshotState → SnapshotState) : (s.updSnapshot f).dict = s.dict := rfl
@[simp] theorem State.updSnapshot_bootDict (s : State) (f : SnapshotState → SnapshotState) : (s.updSnapshot f).bootDict = s.bootDict := rfl
@[simp] theorem State.updSnapshot_octets (s : State) (f : SnapshotState → SnapshotState) : (s.updSnapshot f).octets = s.octets := rfl
@[simp] theorem State.updSnapshot_periods (s : State) (f : SnapshotState → SnapshotState) : (s.updSnapshot f).periods = s.periods := rfl
@[simp] theorem State.updSnapshot_draws (s : State) (f : SnapshotState → SnapshotState) : (s.updSnapshot f).draws = s.draws := rfl
@[simp] theorem State.updSnapshot_pending (s : State) (f : SnapshotState → SnapshotState) : (s.updSnapshot f).pending = s.pending := rfl

/-! setSlot -/

@[simp] theorem State.setSlot_mode (s : State) (n : Nat) (c : SlotConn) : (s.setSlot n c).mode = s.mode := rfl
@[simp] theorem State.setSlot_boot (s : State) (n : Nat) (c : SlotConn) : (s.setSlot n c).boot = s.boot := rfl
@[simp] theorem State.setSlot_outputs (s : State) (n : Nat) (c : SlotConn) : (s.setSlot n c).outputs = s.outputs := rfl
@[simp] theorem State.setSlot_power (s : State) (n : Nat) (c : SlotConn) : (s.setSlot n c).power = s.power := rfl
@[simp] theorem State.setSlot_clk (s : State) (n : Nat) (c : SlotConn) : (s.setSlot n c).clk = s.clk := rfl
@[simp] theorem State.setSlot_roundabout (s : State) (n : Nat) (c : SlotConn) : (s.setSlot n c).roundabout = s.roundabout := rfl
@[simp] theorem State.setSlot_queues (s : State) (n : Nat) (c : SlotConn) : (s.setSlot n c).queues = s.queues := rfl
@[simp] theorem State.setSlot_host (s : State) (n : Nat) (c : SlotConn) : (s.setSlot n c).host = s.host := rfl
@[simp] theorem State.setSlot_mbox (s : State) (n : Nat) (c : SlotConn) : (s.setSlot n c).mbox = s.mbox := rfl
@[simp] theorem State.setSlot_sessions (s : State) (n : Nat) (c : SlotConn) : (s.setSlot n c).sessions = s.sessions := rfl
@[simp] theorem State.setSlot_remotes (s : State) (n : Nat) (c : SlotConn) : (s.setSlot n c).remotes = s.remotes := rfl
@[simp] theorem State.setSlot_gnss (s : State) (n : Nat) (c : SlotConn) : (s.setSlot n c).gnss = s.gnss := rfl
@[simp] theorem State.setSlot_obs (s : State) (n : Nat) (c : SlotConn) : (s.setSlot n c).obs = s.obs := rfl
@[simp] theorem State.setSlot_baseRef (s : State) (n : Nat) (c : SlotConn) : (s.setSlot n c).baseRef = s.baseRef := rfl
@[simp] theorem State.setSlot_nav (s : State) (n : Nat) (c : SlotConn) : (s.setSlot n c).nav = s.nav := rfl
@[simp] theorem State.setSlot_blv (s : State) (n : Nat) (c : SlotConn) : (s.setSlot n c).blv = s.blv := rfl
@[simp] theorem State.setSlot_kerb (s : State) (n : Nat) (c : SlotConn) : (s.setSlot n c).kerb = s.kerb := rfl
@[simp] theorem State.setSlot_cover (s : State) (n : Nat) (c : SlotConn) : (s.setSlot n c).cover = s.cover := rfl
@[simp] theorem State.setSlot_cache (s : State) (n : Nat) (c : SlotConn) : (s.setSlot n c).cache = s.cache := rfl
@[simp] theorem State.setSlot_fleet (s : State) (n : Nat) (c : SlotConn) : (s.setSlot n c).fleet = s.fleet := rfl
@[simp] theorem State.setSlot_crier (s : State) (n : Nat) (c : SlotConn) : (s.setSlot n c).crier = s.crier := rfl
@[simp] theorem State.setSlot_gate (s : State) (n : Nat) (c : SlotConn) : (s.setSlot n c).gate = s.gate := rfl
@[simp] theorem State.setSlot_tram (s : State) (n : Nat) (c : SlotConn) : (s.setSlot n c).tram = s.tram := rfl
@[simp] theorem State.setSlot_net (s : State) (n : Nat) (c : SlotConn) : (s.setSlot n c).net = s.net := rfl
@[simp] theorem State.setSlot_meter (s : State) (n : Nat) (c : SlotConn) : (s.setSlot n c).meter = s.meter := rfl
@[simp] theorem State.setSlot_zheoc (s : State) (n : Nat) (c : SlotConn) : (s.setSlot n c).zheoc = s.zheoc := rfl
@[simp] theorem State.setSlot_store (s : State) (n : Nat) (c : SlotConn) : (s.setSlot n c).store = s.store := rfl
@[simp] theorem State.setSlot_milestone (s : State) (n : Nat) (c : SlotConn) : (s.setSlot n c).milestone = s.milestone := rfl
@[simp] theorem State.setSlot_dict (s : State) (n : Nat) (c : SlotConn) : (s.setSlot n c).dict = s.dict := rfl
@[simp] theorem State.setSlot_bootDict (s : State) (n : Nat) (c : SlotConn) : (s.setSlot n c).bootDict = s.bootDict := rfl
@[simp] theorem State.setSlot_octets (s : State) (n : Nat) (c : SlotConn) : (s.setSlot n c).octets = s.octets := rfl
@[simp] theorem State.setSlot_periods (s : State) (n : Nat) (c : SlotConn) : (s.setSlot n c).periods = s.periods := rfl
@[simp] theorem State.setSlot_draws (s : State) (n : Nat) (c : SlotConn) : (s.setSlot n c).draws = s.draws := rfl
@[simp] theorem State.setSlot_pending (s : State) (n : Nat) (c : SlotConn) : (s.setSlot n c).pending = s.pending := rfl

/-! setAxis -/

@[simp] theorem State.setAxis_mode (s : State) (n : Nat) (a : Axis) : (s.setAxis n a).mode = s.mode := rfl
@[simp] theorem State.setAxis_boot (s : State) (n : Nat) (a : Axis) : (s.setAxis n a).boot = s.boot := rfl
@[simp] theorem State.setAxis_outputs (s : State) (n : Nat) (a : Axis) : (s.setAxis n a).outputs = s.outputs := rfl
@[simp] theorem State.setAxis_power (s : State) (n : Nat) (a : Axis) : (s.setAxis n a).power = s.power := rfl
@[simp] theorem State.setAxis_clk (s : State) (n : Nat) (a : Axis) : (s.setAxis n a).clk = s.clk := rfl
@[simp] theorem State.setAxis_roundabout (s : State) (n : Nat) (a : Axis) : (s.setAxis n a).roundabout = s.roundabout := rfl
@[simp] theorem State.setAxis_queues (s : State) (n : Nat) (a : Axis) : (s.setAxis n a).queues = s.queues := rfl
@[simp] theorem State.setAxis_host (s : State) (n : Nat) (a : Axis) : (s.setAxis n a).host = s.host := rfl
@[simp] theorem State.setAxis_mbox (s : State) (n : Nat) (a : Axis) : (s.setAxis n a).mbox = s.mbox := rfl
@[simp] theorem State.setAxis_sessions (s : State) (n : Nat) (a : Axis) : (s.setAxis n a).sessions = s.sessions := rfl
@[simp] theorem State.setAxis_remotes (s : State) (n : Nat) (a : Axis) : (s.setAxis n a).remotes = s.remotes := rfl
@[simp] theorem State.setAxis_gnss (s : State) (n : Nat) (a : Axis) : (s.setAxis n a).gnss = s.gnss := rfl
@[simp] theorem State.setAxis_obs (s : State) (n : Nat) (a : Axis) : (s.setAxis n a).obs = s.obs := rfl
@[simp] theorem State.setAxis_baseRef (s : State) (n : Nat) (a : Axis) : (s.setAxis n a).baseRef = s.baseRef := rfl
@[simp] theorem State.setAxis_nav (s : State) (n : Nat) (a : Axis) : (s.setAxis n a).nav = s.nav := rfl
@[simp] theorem State.setAxis_blv (s : State) (n : Nat) (a : Axis) : (s.setAxis n a).blv = s.blv := rfl
@[simp] theorem State.setAxis_kerb (s : State) (n : Nat) (a : Axis) : (s.setAxis n a).kerb = s.kerb := rfl
@[simp] theorem State.setAxis_cover (s : State) (n : Nat) (a : Axis) : (s.setAxis n a).cover = s.cover := rfl
@[simp] theorem State.setAxis_cache (s : State) (n : Nat) (a : Axis) : (s.setAxis n a).cache = s.cache := rfl
@[simp] theorem State.setAxis_fleet (s : State) (n : Nat) (a : Axis) : (s.setAxis n a).fleet = s.fleet := rfl
@[simp] theorem State.setAxis_radio (s : State) (n : Nat) (a : Axis) : (s.setAxis n a).radio = s.radio := rfl
@[simp] theorem State.setAxis_crier (s : State) (n : Nat) (a : Axis) : (s.setAxis n a).crier = s.crier := rfl
@[simp] theorem State.setAxis_gate (s : State) (n : Nat) (a : Axis) : (s.setAxis n a).gate = s.gate := rfl
@[simp] theorem State.setAxis_net (s : State) (n : Nat) (a : Axis) : (s.setAxis n a).net = s.net := rfl
@[simp] theorem State.setAxis_meter (s : State) (n : Nat) (a : Axis) : (s.setAxis n a).meter = s.meter := rfl
@[simp] theorem State.setAxis_zheoc (s : State) (n : Nat) (a : Axis) : (s.setAxis n a).zheoc = s.zheoc := rfl
@[simp] theorem State.setAxis_store (s : State) (n : Nat) (a : Axis) : (s.setAxis n a).store = s.store := rfl
@[simp] theorem State.setAxis_milestone (s : State) (n : Nat) (a : Axis) : (s.setAxis n a).milestone = s.milestone := rfl
@[simp] theorem State.setAxis_dict (s : State) (n : Nat) (a : Axis) : (s.setAxis n a).dict = s.dict := rfl
@[simp] theorem State.setAxis_bootDict (s : State) (n : Nat) (a : Axis) : (s.setAxis n a).bootDict = s.bootDict := rfl
@[simp] theorem State.setAxis_octets (s : State) (n : Nat) (a : Axis) : (s.setAxis n a).octets = s.octets := rfl
@[simp] theorem State.setAxis_periods (s : State) (n : Nat) (a : Axis) : (s.setAxis n a).periods = s.periods := rfl
@[simp] theorem State.setAxis_draws (s : State) (n : Nat) (a : Axis) : (s.setAxis n a).draws = s.draws := rfl
@[simp] theorem State.setAxis_pending (s : State) (n : Nat) (a : Axis) : (s.setAxis n a).pending = s.pending := rfl

/-! setSec -/

@[simp] theorem State.setSec_mode (s : State) (i : Nat) (x : Section) : (s.setSec i x).mode = s.mode := rfl
@[simp] theorem State.setSec_boot (s : State) (i : Nat) (x : Section) : (s.setSec i x).boot = s.boot := rfl
@[simp] theorem State.setSec_outputs (s : State) (i : Nat) (x : Section) : (s.setSec i x).outputs = s.outputs := rfl
@[simp] theorem State.setSec_power (s : State) (i : Nat) (x : Section) : (s.setSec i x).power = s.power := rfl
@[simp] theorem State.setSec_clk (s : State) (i : Nat) (x : Section) : (s.setSec i x).clk = s.clk := rfl
@[simp] theorem State.setSec_roundabout (s : State) (i : Nat) (x : Section) : (s.setSec i x).roundabout = s.roundabout := rfl
@[simp] theorem State.setSec_queues (s : State) (i : Nat) (x : Section) : (s.setSec i x).queues = s.queues := rfl
@[simp] theorem State.setSec_host (s : State) (i : Nat) (x : Section) : (s.setSec i x).host = s.host := rfl
@[simp] theorem State.setSec_mbox (s : State) (i : Nat) (x : Section) : (s.setSec i x).mbox = s.mbox := rfl
@[simp] theorem State.setSec_sessions (s : State) (i : Nat) (x : Section) : (s.setSec i x).sessions = s.sessions := rfl
@[simp] theorem State.setSec_remotes (s : State) (i : Nat) (x : Section) : (s.setSec i x).remotes = s.remotes := rfl
@[simp] theorem State.setSec_gnss (s : State) (i : Nat) (x : Section) : (s.setSec i x).gnss = s.gnss := rfl
@[simp] theorem State.setSec_obs (s : State) (i : Nat) (x : Section) : (s.setSec i x).obs = s.obs := rfl
@[simp] theorem State.setSec_baseRef (s : State) (i : Nat) (x : Section) : (s.setSec i x).baseRef = s.baseRef := rfl
@[simp] theorem State.setSec_nav (s : State) (i : Nat) (x : Section) : (s.setSec i x).nav = s.nav := rfl
@[simp] theorem State.setSec_blv (s : State) (i : Nat) (x : Section) : (s.setSec i x).blv = s.blv := rfl
@[simp] theorem State.setSec_cover (s : State) (i : Nat) (x : Section) : (s.setSec i x).cover = s.cover := rfl
@[simp] theorem State.setSec_cache (s : State) (i : Nat) (x : Section) : (s.setSec i x).cache = s.cache := rfl
@[simp] theorem State.setSec_fleet (s : State) (i : Nat) (x : Section) : (s.setSec i x).fleet = s.fleet := rfl
@[simp] theorem State.setSec_radio (s : State) (i : Nat) (x : Section) : (s.setSec i x).radio = s.radio := rfl
@[simp] theorem State.setSec_crier (s : State) (i : Nat) (x : Section) : (s.setSec i x).crier = s.crier := rfl
@[simp] theorem State.setSec_gate (s : State) (i : Nat) (x : Section) : (s.setSec i x).gate = s.gate := rfl
@[simp] theorem State.setSec_tram (s : State) (i : Nat) (x : Section) : (s.setSec i x).tram = s.tram := rfl
@[simp] theorem State.setSec_net (s : State) (i : Nat) (x : Section) : (s.setSec i x).net = s.net := rfl
@[simp] theorem State.setSec_meter (s : State) (i : Nat) (x : Section) : (s.setSec i x).meter = s.meter := rfl
@[simp] theorem State.setSec_zheoc (s : State) (i : Nat) (x : Section) : (s.setSec i x).zheoc = s.zheoc := rfl
@[simp] theorem State.setSec_store (s : State) (i : Nat) (x : Section) : (s.setSec i x).store = s.store := rfl
@[simp] theorem State.setSec_milestone (s : State) (i : Nat) (x : Section) : (s.setSec i x).milestone = s.milestone := rfl
@[simp] theorem State.setSec_dict (s : State) (i : Nat) (x : Section) : (s.setSec i x).dict = s.dict := rfl
@[simp] theorem State.setSec_bootDict (s : State) (i : Nat) (x : Section) : (s.setSec i x).bootDict = s.bootDict := rfl
@[simp] theorem State.setSec_octets (s : State) (i : Nat) (x : Section) : (s.setSec i x).octets = s.octets := rfl
@[simp] theorem State.setSec_periods (s : State) (i : Nat) (x : Section) : (s.setSec i x).periods = s.periods := rfl
@[simp] theorem State.setSec_draws (s : State) (i : Nat) (x : Section) : (s.setSec i x).draws = s.draws := rfl
@[simp] theorem State.setSec_pending (s : State) (i : Nat) (x : Section) : (s.setSec i x).pending = s.pending := rfl

/-! setPort -/

@[simp] theorem State.setPort_mode (s : State) (p : Nat) (x : EthPort) : (s.setPort p x).mode = s.mode := rfl
@[simp] theorem State.setPort_boot (s : State) (p : Nat) (x : EthPort) : (s.setPort p x).boot = s.boot := rfl
@[simp] theorem State.setPort_outputs (s : State) (p : Nat) (x : EthPort) : (s.setPort p x).outputs = s.outputs := rfl
@[simp] theorem State.setPort_power (s : State) (p : Nat) (x : EthPort) : (s.setPort p x).power = s.power := rfl
@[simp] theorem State.setPort_clk (s : State) (p : Nat) (x : EthPort) : (s.setPort p x).clk = s.clk := rfl
@[simp] theorem State.setPort_roundabout (s : State) (p : Nat) (x : EthPort) : (s.setPort p x).roundabout = s.roundabout := rfl
@[simp] theorem State.setPort_queues (s : State) (p : Nat) (x : EthPort) : (s.setPort p x).queues = s.queues := rfl
@[simp] theorem State.setPort_host (s : State) (p : Nat) (x : EthPort) : (s.setPort p x).host = s.host := rfl
@[simp] theorem State.setPort_mbox (s : State) (p : Nat) (x : EthPort) : (s.setPort p x).mbox = s.mbox := rfl
@[simp] theorem State.setPort_sessions (s : State) (p : Nat) (x : EthPort) : (s.setPort p x).sessions = s.sessions := rfl
@[simp] theorem State.setPort_remotes (s : State) (p : Nat) (x : EthPort) : (s.setPort p x).remotes = s.remotes := rfl
@[simp] theorem State.setPort_gnss (s : State) (p : Nat) (x : EthPort) : (s.setPort p x).gnss = s.gnss := rfl
@[simp] theorem State.setPort_obs (s : State) (p : Nat) (x : EthPort) : (s.setPort p x).obs = s.obs := rfl
@[simp] theorem State.setPort_baseRef (s : State) (p : Nat) (x : EthPort) : (s.setPort p x).baseRef = s.baseRef := rfl
@[simp] theorem State.setPort_nav (s : State) (p : Nat) (x : EthPort) : (s.setPort p x).nav = s.nav := rfl
@[simp] theorem State.setPort_blv (s : State) (p : Nat) (x : EthPort) : (s.setPort p x).blv = s.blv := rfl
@[simp] theorem State.setPort_kerb (s : State) (p : Nat) (x : EthPort) : (s.setPort p x).kerb = s.kerb := rfl
@[simp] theorem State.setPort_cover (s : State) (p : Nat) (x : EthPort) : (s.setPort p x).cover = s.cover := rfl
@[simp] theorem State.setPort_cache (s : State) (p : Nat) (x : EthPort) : (s.setPort p x).cache = s.cache := rfl
@[simp] theorem State.setPort_fleet (s : State) (p : Nat) (x : EthPort) : (s.setPort p x).fleet = s.fleet := rfl
@[simp] theorem State.setPort_radio (s : State) (p : Nat) (x : EthPort) : (s.setPort p x).radio = s.radio := rfl
@[simp] theorem State.setPort_crier (s : State) (p : Nat) (x : EthPort) : (s.setPort p x).crier = s.crier := rfl
@[simp] theorem State.setPort_gate (s : State) (p : Nat) (x : EthPort) : (s.setPort p x).gate = s.gate := rfl
@[simp] theorem State.setPort_tram (s : State) (p : Nat) (x : EthPort) : (s.setPort p x).tram = s.tram := rfl
@[simp] theorem State.setPort_meter (s : State) (p : Nat) (x : EthPort) : (s.setPort p x).meter = s.meter := rfl
@[simp] theorem State.setPort_zheoc (s : State) (p : Nat) (x : EthPort) : (s.setPort p x).zheoc = s.zheoc := rfl
@[simp] theorem State.setPort_store (s : State) (p : Nat) (x : EthPort) : (s.setPort p x).store = s.store := rfl
@[simp] theorem State.setPort_milestone (s : State) (p : Nat) (x : EthPort) : (s.setPort p x).milestone = s.milestone := rfl
@[simp] theorem State.setPort_dict (s : State) (p : Nat) (x : EthPort) : (s.setPort p x).dict = s.dict := rfl
@[simp] theorem State.setPort_bootDict (s : State) (p : Nat) (x : EthPort) : (s.setPort p x).bootDict = s.bootDict := rfl
@[simp] theorem State.setPort_octets (s : State) (p : Nat) (x : EthPort) : (s.setPort p x).octets = s.octets := rfl
@[simp] theorem State.setPort_periods (s : State) (p : Nat) (x : EthPort) : (s.setPort p x).periods = s.periods := rfl
@[simp] theorem State.setPort_draws (s : State) (p : Nat) (x : EthPort) : (s.setPort p x).draws = s.draws := rfl
@[simp] theorem State.setPort_pending (s : State) (p : Nat) (x : EthPort) : (s.setPort p x).pending = s.pending := rfl

/-! setPtp -/

@[simp] theorem State.setPtp_mode (s : State) (p : Nat) (x : PtpPort) : (s.setPtp p x).mode = s.mode := rfl
@[simp] theorem State.setPtp_boot (s : State) (p : Nat) (x : PtpPort) : (s.setPtp p x).boot = s.boot := rfl
@[simp] theorem State.setPtp_outputs (s : State) (p : Nat) (x : PtpPort) : (s.setPtp p x).outputs = s.outputs := rfl
@[simp] theorem State.setPtp_power (s : State) (p : Nat) (x : PtpPort) : (s.setPtp p x).power = s.power := rfl
@[simp] theorem State.setPtp_clk (s : State) (p : Nat) (x : PtpPort) : (s.setPtp p x).clk = s.clk := rfl
@[simp] theorem State.setPtp_roundabout (s : State) (p : Nat) (x : PtpPort) : (s.setPtp p x).roundabout = s.roundabout := rfl
@[simp] theorem State.setPtp_queues (s : State) (p : Nat) (x : PtpPort) : (s.setPtp p x).queues = s.queues := rfl
@[simp] theorem State.setPtp_host (s : State) (p : Nat) (x : PtpPort) : (s.setPtp p x).host = s.host := rfl
@[simp] theorem State.setPtp_mbox (s : State) (p : Nat) (x : PtpPort) : (s.setPtp p x).mbox = s.mbox := rfl
@[simp] theorem State.setPtp_sessions (s : State) (p : Nat) (x : PtpPort) : (s.setPtp p x).sessions = s.sessions := rfl
@[simp] theorem State.setPtp_remotes (s : State) (p : Nat) (x : PtpPort) : (s.setPtp p x).remotes = s.remotes := rfl
@[simp] theorem State.setPtp_gnss (s : State) (p : Nat) (x : PtpPort) : (s.setPtp p x).gnss = s.gnss := rfl
@[simp] theorem State.setPtp_obs (s : State) (p : Nat) (x : PtpPort) : (s.setPtp p x).obs = s.obs := rfl
@[simp] theorem State.setPtp_baseRef (s : State) (p : Nat) (x : PtpPort) : (s.setPtp p x).baseRef = s.baseRef := rfl
@[simp] theorem State.setPtp_nav (s : State) (p : Nat) (x : PtpPort) : (s.setPtp p x).nav = s.nav := rfl
@[simp] theorem State.setPtp_blv (s : State) (p : Nat) (x : PtpPort) : (s.setPtp p x).blv = s.blv := rfl
@[simp] theorem State.setPtp_kerb (s : State) (p : Nat) (x : PtpPort) : (s.setPtp p x).kerb = s.kerb := rfl
@[simp] theorem State.setPtp_cover (s : State) (p : Nat) (x : PtpPort) : (s.setPtp p x).cover = s.cover := rfl
@[simp] theorem State.setPtp_cache (s : State) (p : Nat) (x : PtpPort) : (s.setPtp p x).cache = s.cache := rfl
@[simp] theorem State.setPtp_fleet (s : State) (p : Nat) (x : PtpPort) : (s.setPtp p x).fleet = s.fleet := rfl
@[simp] theorem State.setPtp_radio (s : State) (p : Nat) (x : PtpPort) : (s.setPtp p x).radio = s.radio := rfl
@[simp] theorem State.setPtp_crier (s : State) (p : Nat) (x : PtpPort) : (s.setPtp p x).crier = s.crier := rfl
@[simp] theorem State.setPtp_gate (s : State) (p : Nat) (x : PtpPort) : (s.setPtp p x).gate = s.gate := rfl
@[simp] theorem State.setPtp_tram (s : State) (p : Nat) (x : PtpPort) : (s.setPtp p x).tram = s.tram := rfl
@[simp] theorem State.setPtp_meter (s : State) (p : Nat) (x : PtpPort) : (s.setPtp p x).meter = s.meter := rfl
@[simp] theorem State.setPtp_zheoc (s : State) (p : Nat) (x : PtpPort) : (s.setPtp p x).zheoc = s.zheoc := rfl
@[simp] theorem State.setPtp_store (s : State) (p : Nat) (x : PtpPort) : (s.setPtp p x).store = s.store := rfl
@[simp] theorem State.setPtp_milestone (s : State) (p : Nat) (x : PtpPort) : (s.setPtp p x).milestone = s.milestone := rfl
@[simp] theorem State.setPtp_dict (s : State) (p : Nat) (x : PtpPort) : (s.setPtp p x).dict = s.dict := rfl
@[simp] theorem State.setPtp_bootDict (s : State) (p : Nat) (x : PtpPort) : (s.setPtp p x).bootDict = s.bootDict := rfl
@[simp] theorem State.setPtp_octets (s : State) (p : Nat) (x : PtpPort) : (s.setPtp p x).octets = s.octets := rfl
@[simp] theorem State.setPtp_periods (s : State) (p : Nat) (x : PtpPort) : (s.setPtp p x).periods = s.periods := rfl
@[simp] theorem State.setPtp_draws (s : State) (p : Nat) (x : PtpPort) : (s.setPtp p x).draws = s.draws := rfl
@[simp] theorem State.setPtp_pending (s : State) (p : Nat) (x : PtpPort) : (s.setPtp p x).pending = s.pending := rfl

/-! setCan -/

@[simp] theorem State.setCan_mode (s : State) (n : Nat) (c : CanCtl) : (s.setCan n c).mode = s.mode := rfl
@[simp] theorem State.setCan_boot (s : State) (n : Nat) (c : CanCtl) : (s.setCan n c).boot = s.boot := rfl
@[simp] theorem State.setCan_outputs (s : State) (n : Nat) (c : CanCtl) : (s.setCan n c).outputs = s.outputs := rfl
@[simp] theorem State.setCan_power (s : State) (n : Nat) (c : CanCtl) : (s.setCan n c).power = s.power := rfl
@[simp] theorem State.setCan_clk (s : State) (n : Nat) (c : CanCtl) : (s.setCan n c).clk = s.clk := rfl
@[simp] theorem State.setCan_roundabout (s : State) (n : Nat) (c : CanCtl) : (s.setCan n c).roundabout = s.roundabout := rfl
@[simp] theorem State.setCan_queues (s : State) (n : Nat) (c : CanCtl) : (s.setCan n c).queues = s.queues := rfl
@[simp] theorem State.setCan_host (s : State) (n : Nat) (c : CanCtl) : (s.setCan n c).host = s.host := rfl
@[simp] theorem State.setCan_mbox (s : State) (n : Nat) (c : CanCtl) : (s.setCan n c).mbox = s.mbox := rfl
@[simp] theorem State.setCan_sessions (s : State) (n : Nat) (c : CanCtl) : (s.setCan n c).sessions = s.sessions := rfl
@[simp] theorem State.setCan_remotes (s : State) (n : Nat) (c : CanCtl) : (s.setCan n c).remotes = s.remotes := rfl
@[simp] theorem State.setCan_gnss (s : State) (n : Nat) (c : CanCtl) : (s.setCan n c).gnss = s.gnss := rfl
@[simp] theorem State.setCan_obs (s : State) (n : Nat) (c : CanCtl) : (s.setCan n c).obs = s.obs := rfl
@[simp] theorem State.setCan_baseRef (s : State) (n : Nat) (c : CanCtl) : (s.setCan n c).baseRef = s.baseRef := rfl
@[simp] theorem State.setCan_nav (s : State) (n : Nat) (c : CanCtl) : (s.setCan n c).nav = s.nav := rfl
@[simp] theorem State.setCan_blv (s : State) (n : Nat) (c : CanCtl) : (s.setCan n c).blv = s.blv := rfl
@[simp] theorem State.setCan_kerb (s : State) (n : Nat) (c : CanCtl) : (s.setCan n c).kerb = s.kerb := rfl
@[simp] theorem State.setCan_cover (s : State) (n : Nat) (c : CanCtl) : (s.setCan n c).cover = s.cover := rfl
@[simp] theorem State.setCan_cache (s : State) (n : Nat) (c : CanCtl) : (s.setCan n c).cache = s.cache := rfl
@[simp] theorem State.setCan_fleet (s : State) (n : Nat) (c : CanCtl) : (s.setCan n c).fleet = s.fleet := rfl
@[simp] theorem State.setCan_radio (s : State) (n : Nat) (c : CanCtl) : (s.setCan n c).radio = s.radio := rfl
@[simp] theorem State.setCan_crier (s : State) (n : Nat) (c : CanCtl) : (s.setCan n c).crier = s.crier := rfl
@[simp] theorem State.setCan_gate (s : State) (n : Nat) (c : CanCtl) : (s.setCan n c).gate = s.gate := rfl
@[simp] theorem State.setCan_tram (s : State) (n : Nat) (c : CanCtl) : (s.setCan n c).tram = s.tram := rfl
@[simp] theorem State.setCan_meter (s : State) (n : Nat) (c : CanCtl) : (s.setCan n c).meter = s.meter := rfl
@[simp] theorem State.setCan_zheoc (s : State) (n : Nat) (c : CanCtl) : (s.setCan n c).zheoc = s.zheoc := rfl
@[simp] theorem State.setCan_store (s : State) (n : Nat) (c : CanCtl) : (s.setCan n c).store = s.store := rfl
@[simp] theorem State.setCan_milestone (s : State) (n : Nat) (c : CanCtl) : (s.setCan n c).milestone = s.milestone := rfl
@[simp] theorem State.setCan_dict (s : State) (n : Nat) (c : CanCtl) : (s.setCan n c).dict = s.dict := rfl
@[simp] theorem State.setCan_bootDict (s : State) (n : Nat) (c : CanCtl) : (s.setCan n c).bootDict = s.bootDict := rfl
@[simp] theorem State.setCan_octets (s : State) (n : Nat) (c : CanCtl) : (s.setCan n c).octets = s.octets := rfl
@[simp] theorem State.setCan_periods (s : State) (n : Nat) (c : CanCtl) : (s.setCan n c).periods = s.periods := rfl
@[simp] theorem State.setCan_draws (s : State) (n : Nat) (c : CanCtl) : (s.setCan n c).draws = s.draws := rfl
@[simp] theorem State.setCan_pending (s : State) (n : Nat) (c : CanCtl) : (s.setCan n c).pending = s.pending := rfl

/-! updOpen -/

@[simp] theorem State.updOpen_mode (s : State) (f : CanOpen → CanOpen) : (s.updOpen f).mode = s.mode := rfl
@[simp] theorem State.updOpen_boot (s : State) (f : CanOpen → CanOpen) : (s.updOpen f).boot = s.boot := rfl
@[simp] theorem State.updOpen_outputs (s : State) (f : CanOpen → CanOpen) : (s.updOpen f).outputs = s.outputs := rfl
@[simp] theorem State.updOpen_power (s : State) (f : CanOpen → CanOpen) : (s.updOpen f).power = s.power := rfl
@[simp] theorem State.updOpen_clk (s : State) (f : CanOpen → CanOpen) : (s.updOpen f).clk = s.clk := rfl
@[simp] theorem State.updOpen_roundabout (s : State) (f : CanOpen → CanOpen) : (s.updOpen f).roundabout = s.roundabout := rfl
@[simp] theorem State.updOpen_queues (s : State) (f : CanOpen → CanOpen) : (s.updOpen f).queues = s.queues := rfl
@[simp] theorem State.updOpen_host (s : State) (f : CanOpen → CanOpen) : (s.updOpen f).host = s.host := rfl
@[simp] theorem State.updOpen_mbox (s : State) (f : CanOpen → CanOpen) : (s.updOpen f).mbox = s.mbox := rfl
@[simp] theorem State.updOpen_sessions (s : State) (f : CanOpen → CanOpen) : (s.updOpen f).sessions = s.sessions := rfl
@[simp] theorem State.updOpen_remotes (s : State) (f : CanOpen → CanOpen) : (s.updOpen f).remotes = s.remotes := rfl
@[simp] theorem State.updOpen_gnss (s : State) (f : CanOpen → CanOpen) : (s.updOpen f).gnss = s.gnss := rfl
@[simp] theorem State.updOpen_obs (s : State) (f : CanOpen → CanOpen) : (s.updOpen f).obs = s.obs := rfl
@[simp] theorem State.updOpen_baseRef (s : State) (f : CanOpen → CanOpen) : (s.updOpen f).baseRef = s.baseRef := rfl
@[simp] theorem State.updOpen_nav (s : State) (f : CanOpen → CanOpen) : (s.updOpen f).nav = s.nav := rfl
@[simp] theorem State.updOpen_blv (s : State) (f : CanOpen → CanOpen) : (s.updOpen f).blv = s.blv := rfl
@[simp] theorem State.updOpen_kerb (s : State) (f : CanOpen → CanOpen) : (s.updOpen f).kerb = s.kerb := rfl
@[simp] theorem State.updOpen_cover (s : State) (f : CanOpen → CanOpen) : (s.updOpen f).cover = s.cover := rfl
@[simp] theorem State.updOpen_cache (s : State) (f : CanOpen → CanOpen) : (s.updOpen f).cache = s.cache := rfl
@[simp] theorem State.updOpen_fleet (s : State) (f : CanOpen → CanOpen) : (s.updOpen f).fleet = s.fleet := rfl
@[simp] theorem State.updOpen_radio (s : State) (f : CanOpen → CanOpen) : (s.updOpen f).radio = s.radio := rfl
@[simp] theorem State.updOpen_crier (s : State) (f : CanOpen → CanOpen) : (s.updOpen f).crier = s.crier := rfl
@[simp] theorem State.updOpen_gate (s : State) (f : CanOpen → CanOpen) : (s.updOpen f).gate = s.gate := rfl
@[simp] theorem State.updOpen_tram (s : State) (f : CanOpen → CanOpen) : (s.updOpen f).tram = s.tram := rfl
@[simp] theorem State.updOpen_meter (s : State) (f : CanOpen → CanOpen) : (s.updOpen f).meter = s.meter := rfl
@[simp] theorem State.updOpen_zheoc (s : State) (f : CanOpen → CanOpen) : (s.updOpen f).zheoc = s.zheoc := rfl
@[simp] theorem State.updOpen_store (s : State) (f : CanOpen → CanOpen) : (s.updOpen f).store = s.store := rfl
@[simp] theorem State.updOpen_milestone (s : State) (f : CanOpen → CanOpen) : (s.updOpen f).milestone = s.milestone := rfl
@[simp] theorem State.updOpen_dict (s : State) (f : CanOpen → CanOpen) : (s.updOpen f).dict = s.dict := rfl
@[simp] theorem State.updOpen_bootDict (s : State) (f : CanOpen → CanOpen) : (s.updOpen f).bootDict = s.bootDict := rfl
@[simp] theorem State.updOpen_octets (s : State) (f : CanOpen → CanOpen) : (s.updOpen f).octets = s.octets := rfl
@[simp] theorem State.updOpen_periods (s : State) (f : CanOpen → CanOpen) : (s.updOpen f).periods = s.periods := rfl
@[simp] theorem State.updOpen_draws (s : State) (f : CanOpen → CanOpen) : (s.updOpen f).draws = s.draws := rfl
@[simp] theorem State.updOpen_pending (s : State) (f : CanOpen → CanOpen) : (s.updOpen f).pending = s.pending := rfl

/-! updIso -/

@[simp] theorem State.updIso_mode (s : State) (f : Isobus → Isobus) : (s.updIso f).mode = s.mode := rfl
@[simp] theorem State.updIso_boot (s : State) (f : Isobus → Isobus) : (s.updIso f).boot = s.boot := rfl
@[simp] theorem State.updIso_outputs (s : State) (f : Isobus → Isobus) : (s.updIso f).outputs = s.outputs := rfl
@[simp] theorem State.updIso_power (s : State) (f : Isobus → Isobus) : (s.updIso f).power = s.power := rfl
@[simp] theorem State.updIso_clk (s : State) (f : Isobus → Isobus) : (s.updIso f).clk = s.clk := rfl
@[simp] theorem State.updIso_roundabout (s : State) (f : Isobus → Isobus) : (s.updIso f).roundabout = s.roundabout := rfl
@[simp] theorem State.updIso_queues (s : State) (f : Isobus → Isobus) : (s.updIso f).queues = s.queues := rfl
@[simp] theorem State.updIso_host (s : State) (f : Isobus → Isobus) : (s.updIso f).host = s.host := rfl
@[simp] theorem State.updIso_mbox (s : State) (f : Isobus → Isobus) : (s.updIso f).mbox = s.mbox := rfl
@[simp] theorem State.updIso_sessions (s : State) (f : Isobus → Isobus) : (s.updIso f).sessions = s.sessions := rfl
@[simp] theorem State.updIso_remotes (s : State) (f : Isobus → Isobus) : (s.updIso f).remotes = s.remotes := rfl
@[simp] theorem State.updIso_gnss (s : State) (f : Isobus → Isobus) : (s.updIso f).gnss = s.gnss := rfl
@[simp] theorem State.updIso_obs (s : State) (f : Isobus → Isobus) : (s.updIso f).obs = s.obs := rfl
@[simp] theorem State.updIso_baseRef (s : State) (f : Isobus → Isobus) : (s.updIso f).baseRef = s.baseRef := rfl
@[simp] theorem State.updIso_nav (s : State) (f : Isobus → Isobus) : (s.updIso f).nav = s.nav := rfl
@[simp] theorem State.updIso_blv (s : State) (f : Isobus → Isobus) : (s.updIso f).blv = s.blv := rfl
@[simp] theorem State.updIso_kerb (s : State) (f : Isobus → Isobus) : (s.updIso f).kerb = s.kerb := rfl
@[simp] theorem State.updIso_cover (s : State) (f : Isobus → Isobus) : (s.updIso f).cover = s.cover := rfl
@[simp] theorem State.updIso_cache (s : State) (f : Isobus → Isobus) : (s.updIso f).cache = s.cache := rfl
@[simp] theorem State.updIso_fleet (s : State) (f : Isobus → Isobus) : (s.updIso f).fleet = s.fleet := rfl
@[simp] theorem State.updIso_radio (s : State) (f : Isobus → Isobus) : (s.updIso f).radio = s.radio := rfl
@[simp] theorem State.updIso_crier (s : State) (f : Isobus → Isobus) : (s.updIso f).crier = s.crier := rfl
@[simp] theorem State.updIso_gate (s : State) (f : Isobus → Isobus) : (s.updIso f).gate = s.gate := rfl
@[simp] theorem State.updIso_tram (s : State) (f : Isobus → Isobus) : (s.updIso f).tram = s.tram := rfl
@[simp] theorem State.updIso_meter (s : State) (f : Isobus → Isobus) : (s.updIso f).meter = s.meter := rfl
@[simp] theorem State.updIso_zheoc (s : State) (f : Isobus → Isobus) : (s.updIso f).zheoc = s.zheoc := rfl
@[simp] theorem State.updIso_store (s : State) (f : Isobus → Isobus) : (s.updIso f).store = s.store := rfl
@[simp] theorem State.updIso_milestone (s : State) (f : Isobus → Isobus) : (s.updIso f).milestone = s.milestone := rfl
@[simp] theorem State.updIso_dict (s : State) (f : Isobus → Isobus) : (s.updIso f).dict = s.dict := rfl
@[simp] theorem State.updIso_bootDict (s : State) (f : Isobus → Isobus) : (s.updIso f).bootDict = s.bootDict := rfl
@[simp] theorem State.updIso_octets (s : State) (f : Isobus → Isobus) : (s.updIso f).octets = s.octets := rfl
@[simp] theorem State.updIso_periods (s : State) (f : Isobus → Isobus) : (s.updIso f).periods = s.periods := rfl
@[simp] theorem State.updIso_draws (s : State) (f : Isobus → Isobus) : (s.updIso f).draws = s.draws := rfl
@[simp] theorem State.updIso_pending (s : State) (f : Isobus → Isobus) : (s.updIso f).pending = s.pending := rfl

/-! setPair -/

@[simp] theorem State.setPair_mode (s : State) (p : PairState) : (s.setPair p).mode = s.mode := rfl
@[simp] theorem State.setPair_boot (s : State) (p : PairState) : (s.setPair p).boot = s.boot := rfl
@[simp] theorem State.setPair_outputs (s : State) (p : PairState) : (s.setPair p).outputs = s.outputs := rfl
@[simp] theorem State.setPair_power (s : State) (p : PairState) : (s.setPair p).power = s.power := rfl
@[simp] theorem State.setPair_clk (s : State) (p : PairState) : (s.setPair p).clk = s.clk := rfl
@[simp] theorem State.setPair_roundabout (s : State) (p : PairState) : (s.setPair p).roundabout = s.roundabout := rfl
@[simp] theorem State.setPair_queues (s : State) (p : PairState) : (s.setPair p).queues = s.queues := rfl
@[simp] theorem State.setPair_host (s : State) (p : PairState) : (s.setPair p).host = s.host := rfl
@[simp] theorem State.setPair_mbox (s : State) (p : PairState) : (s.setPair p).mbox = s.mbox := rfl
@[simp] theorem State.setPair_sessions (s : State) (p : PairState) : (s.setPair p).sessions = s.sessions := rfl
@[simp] theorem State.setPair_remotes (s : State) (p : PairState) : (s.setPair p).remotes = s.remotes := rfl
@[simp] theorem State.setPair_gnss (s : State) (p : PairState) : (s.setPair p).gnss = s.gnss := rfl
@[simp] theorem State.setPair_obs (s : State) (p : PairState) : (s.setPair p).obs = s.obs := rfl
@[simp] theorem State.setPair_baseRef (s : State) (p : PairState) : (s.setPair p).baseRef = s.baseRef := rfl
@[simp] theorem State.setPair_nav (s : State) (p : PairState) : (s.setPair p).nav = s.nav := rfl
@[simp] theorem State.setPair_blv (s : State) (p : PairState) : (s.setPair p).blv = s.blv := rfl
@[simp] theorem State.setPair_kerb (s : State) (p : PairState) : (s.setPair p).kerb = s.kerb := rfl
@[simp] theorem State.setPair_cover (s : State) (p : PairState) : (s.setPair p).cover = s.cover := rfl
@[simp] theorem State.setPair_cache (s : State) (p : PairState) : (s.setPair p).cache = s.cache := rfl
@[simp] theorem State.setPair_fleet (s : State) (p : PairState) : (s.setPair p).fleet = s.fleet := rfl
@[simp] theorem State.setPair_radio (s : State) (p : PairState) : (s.setPair p).radio = s.radio := rfl
@[simp] theorem State.setPair_crier (s : State) (p : PairState) : (s.setPair p).crier = s.crier := rfl
@[simp] theorem State.setPair_gate (s : State) (p : PairState) : (s.setPair p).gate = s.gate := rfl
@[simp] theorem State.setPair_tram (s : State) (p : PairState) : (s.setPair p).tram = s.tram := rfl
@[simp] theorem State.setPair_net (s : State) (p : PairState) : (s.setPair p).net = s.net := rfl
@[simp] theorem State.setPair_meter (s : State) (p : PairState) : (s.setPair p).meter = s.meter := rfl
@[simp] theorem State.setPair_store (s : State) (p : PairState) : (s.setPair p).store = s.store := rfl
@[simp] theorem State.setPair_milestone (s : State) (p : PairState) : (s.setPair p).milestone = s.milestone := rfl
@[simp] theorem State.setPair_dict (s : State) (p : PairState) : (s.setPair p).dict = s.dict := rfl
@[simp] theorem State.setPair_bootDict (s : State) (p : PairState) : (s.setPair p).bootDict = s.bootDict := rfl
@[simp] theorem State.setPair_octets (s : State) (p : PairState) : (s.setPair p).octets = s.octets := rfl
@[simp] theorem State.setPair_periods (s : State) (p : PairState) : (s.setPair p).periods = s.periods := rfl
@[simp] theorem State.setPair_draws (s : State) (p : PairState) : (s.setPair p).draws = s.draws := rfl
@[simp] theorem State.setPair_pending (s : State) (p : PairState) : (s.setPair p).pending = s.pending := rfl

/-! setImage -/

@[simp] theorem State.setImage_mode (s : State) (n : Nat) (x : ImageSlot) : (s.setImage n x).mode = s.mode := rfl
@[simp] theorem State.setImage_boot (s : State) (n : Nat) (x : ImageSlot) : (s.setImage n x).boot = s.boot := rfl
@[simp] theorem State.setImage_outputs (s : State) (n : Nat) (x : ImageSlot) : (s.setImage n x).outputs = s.outputs := rfl
@[simp] theorem State.setImage_power (s : State) (n : Nat) (x : ImageSlot) : (s.setImage n x).power = s.power := rfl
@[simp] theorem State.setImage_clk (s : State) (n : Nat) (x : ImageSlot) : (s.setImage n x).clk = s.clk := rfl
@[simp] theorem State.setImage_roundabout (s : State) (n : Nat) (x : ImageSlot) : (s.setImage n x).roundabout = s.roundabout := rfl
@[simp] theorem State.setImage_queues (s : State) (n : Nat) (x : ImageSlot) : (s.setImage n x).queues = s.queues := rfl
@[simp] theorem State.setImage_host (s : State) (n : Nat) (x : ImageSlot) : (s.setImage n x).host = s.host := rfl
@[simp] theorem State.setImage_mbox (s : State) (n : Nat) (x : ImageSlot) : (s.setImage n x).mbox = s.mbox := rfl
@[simp] theorem State.setImage_sessions (s : State) (n : Nat) (x : ImageSlot) : (s.setImage n x).sessions = s.sessions := rfl
@[simp] theorem State.setImage_remotes (s : State) (n : Nat) (x : ImageSlot) : (s.setImage n x).remotes = s.remotes := rfl
@[simp] theorem State.setImage_gnss (s : State) (n : Nat) (x : ImageSlot) : (s.setImage n x).gnss = s.gnss := rfl
@[simp] theorem State.setImage_obs (s : State) (n : Nat) (x : ImageSlot) : (s.setImage n x).obs = s.obs := rfl
@[simp] theorem State.setImage_baseRef (s : State) (n : Nat) (x : ImageSlot) : (s.setImage n x).baseRef = s.baseRef := rfl
@[simp] theorem State.setImage_nav (s : State) (n : Nat) (x : ImageSlot) : (s.setImage n x).nav = s.nav := rfl
@[simp] theorem State.setImage_blv (s : State) (n : Nat) (x : ImageSlot) : (s.setImage n x).blv = s.blv := rfl
@[simp] theorem State.setImage_kerb (s : State) (n : Nat) (x : ImageSlot) : (s.setImage n x).kerb = s.kerb := rfl
@[simp] theorem State.setImage_cover (s : State) (n : Nat) (x : ImageSlot) : (s.setImage n x).cover = s.cover := rfl
@[simp] theorem State.setImage_cache (s : State) (n : Nat) (x : ImageSlot) : (s.setImage n x).cache = s.cache := rfl
@[simp] theorem State.setImage_fleet (s : State) (n : Nat) (x : ImageSlot) : (s.setImage n x).fleet = s.fleet := rfl
@[simp] theorem State.setImage_radio (s : State) (n : Nat) (x : ImageSlot) : (s.setImage n x).radio = s.radio := rfl
@[simp] theorem State.setImage_crier (s : State) (n : Nat) (x : ImageSlot) : (s.setImage n x).crier = s.crier := rfl
@[simp] theorem State.setImage_tram (s : State) (n : Nat) (x : ImageSlot) : (s.setImage n x).tram = s.tram := rfl
@[simp] theorem State.setImage_net (s : State) (n : Nat) (x : ImageSlot) : (s.setImage n x).net = s.net := rfl
@[simp] theorem State.setImage_meter (s : State) (n : Nat) (x : ImageSlot) : (s.setImage n x).meter = s.meter := rfl
@[simp] theorem State.setImage_zheoc (s : State) (n : Nat) (x : ImageSlot) : (s.setImage n x).zheoc = s.zheoc := rfl
@[simp] theorem State.setImage_store (s : State) (n : Nat) (x : ImageSlot) : (s.setImage n x).store = s.store := rfl
@[simp] theorem State.setImage_milestone (s : State) (n : Nat) (x : ImageSlot) : (s.setImage n x).milestone = s.milestone := rfl
@[simp] theorem State.setImage_dict (s : State) (n : Nat) (x : ImageSlot) : (s.setImage n x).dict = s.dict := rfl
@[simp] theorem State.setImage_bootDict (s : State) (n : Nat) (x : ImageSlot) : (s.setImage n x).bootDict = s.bootDict := rfl
@[simp] theorem State.setImage_octets (s : State) (n : Nat) (x : ImageSlot) : (s.setImage n x).octets = s.octets := rfl
@[simp] theorem State.setImage_periods (s : State) (n : Nat) (x : ImageSlot) : (s.setImage n x).periods = s.periods := rfl
@[simp] theorem State.setImage_draws (s : State) (n : Nat) (x : ImageSlot) : (s.setImage n x).draws = s.draws := rfl
@[simp] theorem State.setImage_pending (s : State) (n : Nat) (x : ImageSlot) : (s.setImage n x).pending = s.pending := rfl

/-! updActivation -/

@[simp] theorem State.updActivation_mode (s : State) (f : Activation → Activation) : (s.updActivation f).mode = s.mode := rfl
@[simp] theorem State.updActivation_boot (s : State) (f : Activation → Activation) : (s.updActivation f).boot = s.boot := rfl
@[simp] theorem State.updActivation_outputs (s : State) (f : Activation → Activation) : (s.updActivation f).outputs = s.outputs := rfl
@[simp] theorem State.updActivation_power (s : State) (f : Activation → Activation) : (s.updActivation f).power = s.power := rfl
@[simp] theorem State.updActivation_clk (s : State) (f : Activation → Activation) : (s.updActivation f).clk = s.clk := rfl
@[simp] theorem State.updActivation_roundabout (s : State) (f : Activation → Activation) : (s.updActivation f).roundabout = s.roundabout := rfl
@[simp] theorem State.updActivation_queues (s : State) (f : Activation → Activation) : (s.updActivation f).queues = s.queues := rfl
@[simp] theorem State.updActivation_host (s : State) (f : Activation → Activation) : (s.updActivation f).host = s.host := rfl
@[simp] theorem State.updActivation_mbox (s : State) (f : Activation → Activation) : (s.updActivation f).mbox = s.mbox := rfl
@[simp] theorem State.updActivation_sessions (s : State) (f : Activation → Activation) : (s.updActivation f).sessions = s.sessions := rfl
@[simp] theorem State.updActivation_remotes (s : State) (f : Activation → Activation) : (s.updActivation f).remotes = s.remotes := rfl
@[simp] theorem State.updActivation_gnss (s : State) (f : Activation → Activation) : (s.updActivation f).gnss = s.gnss := rfl
@[simp] theorem State.updActivation_obs (s : State) (f : Activation → Activation) : (s.updActivation f).obs = s.obs := rfl
@[simp] theorem State.updActivation_baseRef (s : State) (f : Activation → Activation) : (s.updActivation f).baseRef = s.baseRef := rfl
@[simp] theorem State.updActivation_nav (s : State) (f : Activation → Activation) : (s.updActivation f).nav = s.nav := rfl
@[simp] theorem State.updActivation_blv (s : State) (f : Activation → Activation) : (s.updActivation f).blv = s.blv := rfl
@[simp] theorem State.updActivation_kerb (s : State) (f : Activation → Activation) : (s.updActivation f).kerb = s.kerb := rfl
@[simp] theorem State.updActivation_cover (s : State) (f : Activation → Activation) : (s.updActivation f).cover = s.cover := rfl
@[simp] theorem State.updActivation_cache (s : State) (f : Activation → Activation) : (s.updActivation f).cache = s.cache := rfl
@[simp] theorem State.updActivation_fleet (s : State) (f : Activation → Activation) : (s.updActivation f).fleet = s.fleet := rfl
@[simp] theorem State.updActivation_radio (s : State) (f : Activation → Activation) : (s.updActivation f).radio = s.radio := rfl
@[simp] theorem State.updActivation_crier (s : State) (f : Activation → Activation) : (s.updActivation f).crier = s.crier := rfl
@[simp] theorem State.updActivation_tram (s : State) (f : Activation → Activation) : (s.updActivation f).tram = s.tram := rfl
@[simp] theorem State.updActivation_net (s : State) (f : Activation → Activation) : (s.updActivation f).net = s.net := rfl
@[simp] theorem State.updActivation_meter (s : State) (f : Activation → Activation) : (s.updActivation f).meter = s.meter := rfl
@[simp] theorem State.updActivation_zheoc (s : State) (f : Activation → Activation) : (s.updActivation f).zheoc = s.zheoc := rfl
@[simp] theorem State.updActivation_store (s : State) (f : Activation → Activation) : (s.updActivation f).store = s.store := rfl
@[simp] theorem State.updActivation_milestone (s : State) (f : Activation → Activation) : (s.updActivation f).milestone = s.milestone := rfl
@[simp] theorem State.updActivation_dict (s : State) (f : Activation → Activation) : (s.updActivation f).dict = s.dict := rfl
@[simp] theorem State.updActivation_bootDict (s : State) (f : Activation → Activation) : (s.updActivation f).bootDict = s.bootDict := rfl
@[simp] theorem State.updActivation_octets (s : State) (f : Activation → Activation) : (s.updActivation f).octets = s.octets := rfl
@[simp] theorem State.updActivation_periods (s : State) (f : Activation → Activation) : (s.updActivation f).periods = s.periods := rfl
@[simp] theorem State.updActivation_draws (s : State) (f : Activation → Activation) : (s.updActivation f).draws = s.draws := rfl
@[simp] theorem State.updActivation_pending (s : State) (f : Activation → Activation) : (s.updActivation f).pending = s.pending := rfl

/-! updBankM -/

@[simp] theorem State.updBankM_mode (s : State) (f : MeterBank → MeterBank) : (s.updBankM f).mode = s.mode := rfl
@[simp] theorem State.updBankM_boot (s : State) (f : MeterBank → MeterBank) : (s.updBankM f).boot = s.boot := rfl
@[simp] theorem State.updBankM_outputs (s : State) (f : MeterBank → MeterBank) : (s.updBankM f).outputs = s.outputs := rfl
@[simp] theorem State.updBankM_power (s : State) (f : MeterBank → MeterBank) : (s.updBankM f).power = s.power := rfl
@[simp] theorem State.updBankM_clk (s : State) (f : MeterBank → MeterBank) : (s.updBankM f).clk = s.clk := rfl
@[simp] theorem State.updBankM_roundabout (s : State) (f : MeterBank → MeterBank) : (s.updBankM f).roundabout = s.roundabout := rfl
@[simp] theorem State.updBankM_queues (s : State) (f : MeterBank → MeterBank) : (s.updBankM f).queues = s.queues := rfl
@[simp] theorem State.updBankM_host (s : State) (f : MeterBank → MeterBank) : (s.updBankM f).host = s.host := rfl
@[simp] theorem State.updBankM_mbox (s : State) (f : MeterBank → MeterBank) : (s.updBankM f).mbox = s.mbox := rfl
@[simp] theorem State.updBankM_sessions (s : State) (f : MeterBank → MeterBank) : (s.updBankM f).sessions = s.sessions := rfl
@[simp] theorem State.updBankM_remotes (s : State) (f : MeterBank → MeterBank) : (s.updBankM f).remotes = s.remotes := rfl
@[simp] theorem State.updBankM_gnss (s : State) (f : MeterBank → MeterBank) : (s.updBankM f).gnss = s.gnss := rfl
@[simp] theorem State.updBankM_obs (s : State) (f : MeterBank → MeterBank) : (s.updBankM f).obs = s.obs := rfl
@[simp] theorem State.updBankM_baseRef (s : State) (f : MeterBank → MeterBank) : (s.updBankM f).baseRef = s.baseRef := rfl
@[simp] theorem State.updBankM_nav (s : State) (f : MeterBank → MeterBank) : (s.updBankM f).nav = s.nav := rfl
@[simp] theorem State.updBankM_blv (s : State) (f : MeterBank → MeterBank) : (s.updBankM f).blv = s.blv := rfl
@[simp] theorem State.updBankM_kerb (s : State) (f : MeterBank → MeterBank) : (s.updBankM f).kerb = s.kerb := rfl
@[simp] theorem State.updBankM_cover (s : State) (f : MeterBank → MeterBank) : (s.updBankM f).cover = s.cover := rfl
@[simp] theorem State.updBankM_cache (s : State) (f : MeterBank → MeterBank) : (s.updBankM f).cache = s.cache := rfl
@[simp] theorem State.updBankM_fleet (s : State) (f : MeterBank → MeterBank) : (s.updBankM f).fleet = s.fleet := rfl
@[simp] theorem State.updBankM_radio (s : State) (f : MeterBank → MeterBank) : (s.updBankM f).radio = s.radio := rfl
@[simp] theorem State.updBankM_crier (s : State) (f : MeterBank → MeterBank) : (s.updBankM f).crier = s.crier := rfl
@[simp] theorem State.updBankM_gate (s : State) (f : MeterBank → MeterBank) : (s.updBankM f).gate = s.gate := rfl
@[simp] theorem State.updBankM_tram (s : State) (f : MeterBank → MeterBank) : (s.updBankM f).tram = s.tram := rfl
@[simp] theorem State.updBankM_net (s : State) (f : MeterBank → MeterBank) : (s.updBankM f).net = s.net := rfl
@[simp] theorem State.updBankM_zheoc (s : State) (f : MeterBank → MeterBank) : (s.updBankM f).zheoc = s.zheoc := rfl
@[simp] theorem State.updBankM_store (s : State) (f : MeterBank → MeterBank) : (s.updBankM f).store = s.store := rfl
@[simp] theorem State.updBankM_milestone (s : State) (f : MeterBank → MeterBank) : (s.updBankM f).milestone = s.milestone := rfl
@[simp] theorem State.updBankM_dict (s : State) (f : MeterBank → MeterBank) : (s.updBankM f).dict = s.dict := rfl
@[simp] theorem State.updBankM_bootDict (s : State) (f : MeterBank → MeterBank) : (s.updBankM f).bootDict = s.bootDict := rfl
@[simp] theorem State.updBankM_octets (s : State) (f : MeterBank → MeterBank) : (s.updBankM f).octets = s.octets := rfl
@[simp] theorem State.updBankM_periods (s : State) (f : MeterBank → MeterBank) : (s.updBankM f).periods = s.periods := rfl
@[simp] theorem State.updBankM_draws (s : State) (f : MeterBank → MeterBank) : (s.updBankM f).draws = s.draws := rfl
@[simp] theorem State.updBankM_pending (s : State) (f : MeterBank → MeterBank) : (s.updBankM f).pending = s.pending := rfl

/-! updInput -/

@[simp] theorem State.updInput_mode (s : State) (i : Nat) (f : PulseInput → PulseInput) : (s.updInput i f).mode = s.mode := rfl
@[simp] theorem State.updInput_boot (s : State) (i : Nat) (f : PulseInput → PulseInput) : (s.updInput i f).boot = s.boot := rfl
@[simp] theorem State.updInput_outputs (s : State) (i : Nat) (f : PulseInput → PulseInput) : (s.updInput i f).outputs = s.outputs := rfl
@[simp] theorem State.updInput_power (s : State) (i : Nat) (f : PulseInput → PulseInput) : (s.updInput i f).power = s.power := rfl
@[simp] theorem State.updInput_clk (s : State) (i : Nat) (f : PulseInput → PulseInput) : (s.updInput i f).clk = s.clk := rfl
@[simp] theorem State.updInput_roundabout (s : State) (i : Nat) (f : PulseInput → PulseInput) : (s.updInput i f).roundabout = s.roundabout := rfl
@[simp] theorem State.updInput_queues (s : State) (i : Nat) (f : PulseInput → PulseInput) : (s.updInput i f).queues = s.queues := rfl
@[simp] theorem State.updInput_host (s : State) (i : Nat) (f : PulseInput → PulseInput) : (s.updInput i f).host = s.host := rfl
@[simp] theorem State.updInput_mbox (s : State) (i : Nat) (f : PulseInput → PulseInput) : (s.updInput i f).mbox = s.mbox := rfl
@[simp] theorem State.updInput_sessions (s : State) (i : Nat) (f : PulseInput → PulseInput) : (s.updInput i f).sessions = s.sessions := rfl
@[simp] theorem State.updInput_remotes (s : State) (i : Nat) (f : PulseInput → PulseInput) : (s.updInput i f).remotes = s.remotes := rfl
@[simp] theorem State.updInput_gnss (s : State) (i : Nat) (f : PulseInput → PulseInput) : (s.updInput i f).gnss = s.gnss := rfl
@[simp] theorem State.updInput_obs (s : State) (i : Nat) (f : PulseInput → PulseInput) : (s.updInput i f).obs = s.obs := rfl
@[simp] theorem State.updInput_baseRef (s : State) (i : Nat) (f : PulseInput → PulseInput) : (s.updInput i f).baseRef = s.baseRef := rfl
@[simp] theorem State.updInput_nav (s : State) (i : Nat) (f : PulseInput → PulseInput) : (s.updInput i f).nav = s.nav := rfl
@[simp] theorem State.updInput_blv (s : State) (i : Nat) (f : PulseInput → PulseInput) : (s.updInput i f).blv = s.blv := rfl
@[simp] theorem State.updInput_kerb (s : State) (i : Nat) (f : PulseInput → PulseInput) : (s.updInput i f).kerb = s.kerb := rfl
@[simp] theorem State.updInput_cover (s : State) (i : Nat) (f : PulseInput → PulseInput) : (s.updInput i f).cover = s.cover := rfl
@[simp] theorem State.updInput_cache (s : State) (i : Nat) (f : PulseInput → PulseInput) : (s.updInput i f).cache = s.cache := rfl
@[simp] theorem State.updInput_fleet (s : State) (i : Nat) (f : PulseInput → PulseInput) : (s.updInput i f).fleet = s.fleet := rfl
@[simp] theorem State.updInput_radio (s : State) (i : Nat) (f : PulseInput → PulseInput) : (s.updInput i f).radio = s.radio := rfl
@[simp] theorem State.updInput_crier (s : State) (i : Nat) (f : PulseInput → PulseInput) : (s.updInput i f).crier = s.crier := rfl
@[simp] theorem State.updInput_gate (s : State) (i : Nat) (f : PulseInput → PulseInput) : (s.updInput i f).gate = s.gate := rfl
@[simp] theorem State.updInput_tram (s : State) (i : Nat) (f : PulseInput → PulseInput) : (s.updInput i f).tram = s.tram := rfl
@[simp] theorem State.updInput_net (s : State) (i : Nat) (f : PulseInput → PulseInput) : (s.updInput i f).net = s.net := rfl
@[simp] theorem State.updInput_zheoc (s : State) (i : Nat) (f : PulseInput → PulseInput) : (s.updInput i f).zheoc = s.zheoc := rfl
@[simp] theorem State.updInput_store (s : State) (i : Nat) (f : PulseInput → PulseInput) : (s.updInput i f).store = s.store := rfl
@[simp] theorem State.updInput_milestone (s : State) (i : Nat) (f : PulseInput → PulseInput) : (s.updInput i f).milestone = s.milestone := rfl
@[simp] theorem State.updInput_dict (s : State) (i : Nat) (f : PulseInput → PulseInput) : (s.updInput i f).dict = s.dict := rfl
@[simp] theorem State.updInput_bootDict (s : State) (i : Nat) (f : PulseInput → PulseInput) : (s.updInput i f).bootDict = s.bootDict := rfl
@[simp] theorem State.updInput_octets (s : State) (i : Nat) (f : PulseInput → PulseInput) : (s.updInput i f).octets = s.octets := rfl
@[simp] theorem State.updInput_periods (s : State) (i : Nat) (f : PulseInput → PulseInput) : (s.updInput i f).periods = s.periods := rfl
@[simp] theorem State.updInput_draws (s : State) (i : Nat) (f : PulseInput → PulseInput) : (s.updInput i f).draws = s.draws := rfl
@[simp] theorem State.updInput_pending (s : State) (i : Nat) (f : PulseInput → PulseInput) : (s.updInput i f).pending = s.pending := rfl

/-! updVin -/

@[simp] theorem State.updVin_mode (s : State) (f : VinMonitor → VinMonitor) : (s.updVin f).mode = s.mode := rfl
@[simp] theorem State.updVin_boot (s : State) (f : VinMonitor → VinMonitor) : (s.updVin f).boot = s.boot := rfl
@[simp] theorem State.updVin_outputs (s : State) (f : VinMonitor → VinMonitor) : (s.updVin f).outputs = s.outputs := rfl
@[simp] theorem State.updVin_power (s : State) (f : VinMonitor → VinMonitor) : (s.updVin f).power = s.power := rfl
@[simp] theorem State.updVin_clk (s : State) (f : VinMonitor → VinMonitor) : (s.updVin f).clk = s.clk := rfl
@[simp] theorem State.updVin_roundabout (s : State) (f : VinMonitor → VinMonitor) : (s.updVin f).roundabout = s.roundabout := rfl
@[simp] theorem State.updVin_queues (s : State) (f : VinMonitor → VinMonitor) : (s.updVin f).queues = s.queues := rfl
@[simp] theorem State.updVin_host (s : State) (f : VinMonitor → VinMonitor) : (s.updVin f).host = s.host := rfl
@[simp] theorem State.updVin_mbox (s : State) (f : VinMonitor → VinMonitor) : (s.updVin f).mbox = s.mbox := rfl
@[simp] theorem State.updVin_sessions (s : State) (f : VinMonitor → VinMonitor) : (s.updVin f).sessions = s.sessions := rfl
@[simp] theorem State.updVin_remotes (s : State) (f : VinMonitor → VinMonitor) : (s.updVin f).remotes = s.remotes := rfl
@[simp] theorem State.updVin_gnss (s : State) (f : VinMonitor → VinMonitor) : (s.updVin f).gnss = s.gnss := rfl
@[simp] theorem State.updVin_obs (s : State) (f : VinMonitor → VinMonitor) : (s.updVin f).obs = s.obs := rfl
@[simp] theorem State.updVin_baseRef (s : State) (f : VinMonitor → VinMonitor) : (s.updVin f).baseRef = s.baseRef := rfl
@[simp] theorem State.updVin_nav (s : State) (f : VinMonitor → VinMonitor) : (s.updVin f).nav = s.nav := rfl
@[simp] theorem State.updVin_blv (s : State) (f : VinMonitor → VinMonitor) : (s.updVin f).blv = s.blv := rfl
@[simp] theorem State.updVin_kerb (s : State) (f : VinMonitor → VinMonitor) : (s.updVin f).kerb = s.kerb := rfl
@[simp] theorem State.updVin_cover (s : State) (f : VinMonitor → VinMonitor) : (s.updVin f).cover = s.cover := rfl
@[simp] theorem State.updVin_cache (s : State) (f : VinMonitor → VinMonitor) : (s.updVin f).cache = s.cache := rfl
@[simp] theorem State.updVin_fleet (s : State) (f : VinMonitor → VinMonitor) : (s.updVin f).fleet = s.fleet := rfl
@[simp] theorem State.updVin_radio (s : State) (f : VinMonitor → VinMonitor) : (s.updVin f).radio = s.radio := rfl
@[simp] theorem State.updVin_crier (s : State) (f : VinMonitor → VinMonitor) : (s.updVin f).crier = s.crier := rfl
@[simp] theorem State.updVin_gate (s : State) (f : VinMonitor → VinMonitor) : (s.updVin f).gate = s.gate := rfl
@[simp] theorem State.updVin_tram (s : State) (f : VinMonitor → VinMonitor) : (s.updVin f).tram = s.tram := rfl
@[simp] theorem State.updVin_net (s : State) (f : VinMonitor → VinMonitor) : (s.updVin f).net = s.net := rfl
@[simp] theorem State.updVin_zheoc (s : State) (f : VinMonitor → VinMonitor) : (s.updVin f).zheoc = s.zheoc := rfl
@[simp] theorem State.updVin_store (s : State) (f : VinMonitor → VinMonitor) : (s.updVin f).store = s.store := rfl
@[simp] theorem State.updVin_milestone (s : State) (f : VinMonitor → VinMonitor) : (s.updVin f).milestone = s.milestone := rfl
@[simp] theorem State.updVin_dict (s : State) (f : VinMonitor → VinMonitor) : (s.updVin f).dict = s.dict := rfl
@[simp] theorem State.updVin_bootDict (s : State) (f : VinMonitor → VinMonitor) : (s.updVin f).bootDict = s.bootDict := rfl
@[simp] theorem State.updVin_octets (s : State) (f : VinMonitor → VinMonitor) : (s.updVin f).octets = s.octets := rfl
@[simp] theorem State.updVin_periods (s : State) (f : VinMonitor → VinMonitor) : (s.updVin f).periods = s.periods := rfl
@[simp] theorem State.updVin_draws (s : State) (f : VinMonitor → VinMonitor) : (s.updVin f).draws = s.draws := rfl
@[simp] theorem State.updVin_pending (s : State) (f : VinMonitor → VinMonitor) : (s.updVin f).pending = s.pending := rfl

/-! updChain -/

@[simp] theorem State.updChain_mode (s : State) (f : Chain → Chain) : (s.updChain f).mode = s.mode := rfl
@[simp] theorem State.updChain_boot (s : State) (f : Chain → Chain) : (s.updChain f).boot = s.boot := rfl
@[simp] theorem State.updChain_outputs (s : State) (f : Chain → Chain) : (s.updChain f).outputs = s.outputs := rfl
@[simp] theorem State.updChain_power (s : State) (f : Chain → Chain) : (s.updChain f).power = s.power := rfl
@[simp] theorem State.updChain_clk (s : State) (f : Chain → Chain) : (s.updChain f).clk = s.clk := rfl
@[simp] theorem State.updChain_roundabout (s : State) (f : Chain → Chain) : (s.updChain f).roundabout = s.roundabout := rfl
@[simp] theorem State.updChain_queues (s : State) (f : Chain → Chain) : (s.updChain f).queues = s.queues := rfl
@[simp] theorem State.updChain_host (s : State) (f : Chain → Chain) : (s.updChain f).host = s.host := rfl
@[simp] theorem State.updChain_mbox (s : State) (f : Chain → Chain) : (s.updChain f).mbox = s.mbox := rfl
@[simp] theorem State.updChain_sessions (s : State) (f : Chain → Chain) : (s.updChain f).sessions = s.sessions := rfl
@[simp] theorem State.updChain_remotes (s : State) (f : Chain → Chain) : (s.updChain f).remotes = s.remotes := rfl
@[simp] theorem State.updChain_gnss (s : State) (f : Chain → Chain) : (s.updChain f).gnss = s.gnss := rfl
@[simp] theorem State.updChain_obs (s : State) (f : Chain → Chain) : (s.updChain f).obs = s.obs := rfl
@[simp] theorem State.updChain_baseRef (s : State) (f : Chain → Chain) : (s.updChain f).baseRef = s.baseRef := rfl
@[simp] theorem State.updChain_nav (s : State) (f : Chain → Chain) : (s.updChain f).nav = s.nav := rfl
@[simp] theorem State.updChain_blv (s : State) (f : Chain → Chain) : (s.updChain f).blv = s.blv := rfl
@[simp] theorem State.updChain_cover (s : State) (f : Chain → Chain) : (s.updChain f).cover = s.cover := rfl
@[simp] theorem State.updChain_cache (s : State) (f : Chain → Chain) : (s.updChain f).cache = s.cache := rfl
@[simp] theorem State.updChain_fleet (s : State) (f : Chain → Chain) : (s.updChain f).fleet = s.fleet := rfl
@[simp] theorem State.updChain_radio (s : State) (f : Chain → Chain) : (s.updChain f).radio = s.radio := rfl
@[simp] theorem State.updChain_crier (s : State) (f : Chain → Chain) : (s.updChain f).crier = s.crier := rfl
@[simp] theorem State.updChain_gate (s : State) (f : Chain → Chain) : (s.updChain f).gate = s.gate := rfl
@[simp] theorem State.updChain_tram (s : State) (f : Chain → Chain) : (s.updChain f).tram = s.tram := rfl
@[simp] theorem State.updChain_net (s : State) (f : Chain → Chain) : (s.updChain f).net = s.net := rfl
@[simp] theorem State.updChain_meter (s : State) (f : Chain → Chain) : (s.updChain f).meter = s.meter := rfl
@[simp] theorem State.updChain_zheoc (s : State) (f : Chain → Chain) : (s.updChain f).zheoc = s.zheoc := rfl
@[simp] theorem State.updChain_store (s : State) (f : Chain → Chain) : (s.updChain f).store = s.store := rfl
@[simp] theorem State.updChain_milestone (s : State) (f : Chain → Chain) : (s.updChain f).milestone = s.milestone := rfl
@[simp] theorem State.updChain_dict (s : State) (f : Chain → Chain) : (s.updChain f).dict = s.dict := rfl
@[simp] theorem State.updChain_bootDict (s : State) (f : Chain → Chain) : (s.updChain f).bootDict = s.bootDict := rfl
@[simp] theorem State.updChain_octets (s : State) (f : Chain → Chain) : (s.updChain f).octets = s.octets := rfl
@[simp] theorem State.updChain_periods (s : State) (f : Chain → Chain) : (s.updChain f).periods = s.periods := rfl
@[simp] theorem State.updChain_draws (s : State) (f : Chain → Chain) : (s.updChain f).draws = s.draws := rfl
@[simp] theorem State.updChain_pending (s : State) (f : Chain → Chain) : (s.updChain f).pending = s.pending := rfl

/-! setBlock -/

@[simp] theorem State.setBlock_mode (s : State) (n : Nat) (b : NandBlock) : (s.setBlock n b).mode = s.mode := rfl
@[simp] theorem State.setBlock_boot (s : State) (n : Nat) (b : NandBlock) : (s.setBlock n b).boot = s.boot := rfl
@[simp] theorem State.setBlock_outputs (s : State) (n : Nat) (b : NandBlock) : (s.setBlock n b).outputs = s.outputs := rfl
@[simp] theorem State.setBlock_power (s : State) (n : Nat) (b : NandBlock) : (s.setBlock n b).power = s.power := rfl
@[simp] theorem State.setBlock_clk (s : State) (n : Nat) (b : NandBlock) : (s.setBlock n b).clk = s.clk := rfl
@[simp] theorem State.setBlock_roundabout (s : State) (n : Nat) (b : NandBlock) : (s.setBlock n b).roundabout = s.roundabout := rfl
@[simp] theorem State.setBlock_queues (s : State) (n : Nat) (b : NandBlock) : (s.setBlock n b).queues = s.queues := rfl
@[simp] theorem State.setBlock_host (s : State) (n : Nat) (b : NandBlock) : (s.setBlock n b).host = s.host := rfl
@[simp] theorem State.setBlock_mbox (s : State) (n : Nat) (b : NandBlock) : (s.setBlock n b).mbox = s.mbox := rfl
@[simp] theorem State.setBlock_sessions (s : State) (n : Nat) (b : NandBlock) : (s.setBlock n b).sessions = s.sessions := rfl
@[simp] theorem State.setBlock_remotes (s : State) (n : Nat) (b : NandBlock) : (s.setBlock n b).remotes = s.remotes := rfl
@[simp] theorem State.setBlock_gnss (s : State) (n : Nat) (b : NandBlock) : (s.setBlock n b).gnss = s.gnss := rfl
@[simp] theorem State.setBlock_obs (s : State) (n : Nat) (b : NandBlock) : (s.setBlock n b).obs = s.obs := rfl
@[simp] theorem State.setBlock_baseRef (s : State) (n : Nat) (b : NandBlock) : (s.setBlock n b).baseRef = s.baseRef := rfl
@[simp] theorem State.setBlock_nav (s : State) (n : Nat) (b : NandBlock) : (s.setBlock n b).nav = s.nav := rfl
@[simp] theorem State.setBlock_blv (s : State) (n : Nat) (b : NandBlock) : (s.setBlock n b).blv = s.blv := rfl
@[simp] theorem State.setBlock_kerb (s : State) (n : Nat) (b : NandBlock) : (s.setBlock n b).kerb = s.kerb := rfl
@[simp] theorem State.setBlock_cover (s : State) (n : Nat) (b : NandBlock) : (s.setBlock n b).cover = s.cover := rfl
@[simp] theorem State.setBlock_cache (s : State) (n : Nat) (b : NandBlock) : (s.setBlock n b).cache = s.cache := rfl
@[simp] theorem State.setBlock_fleet (s : State) (n : Nat) (b : NandBlock) : (s.setBlock n b).fleet = s.fleet := rfl
@[simp] theorem State.setBlock_radio (s : State) (n : Nat) (b : NandBlock) : (s.setBlock n b).radio = s.radio := rfl
@[simp] theorem State.setBlock_crier (s : State) (n : Nat) (b : NandBlock) : (s.setBlock n b).crier = s.crier := rfl
@[simp] theorem State.setBlock_gate (s : State) (n : Nat) (b : NandBlock) : (s.setBlock n b).gate = s.gate := rfl
@[simp] theorem State.setBlock_tram (s : State) (n : Nat) (b : NandBlock) : (s.setBlock n b).tram = s.tram := rfl
@[simp] theorem State.setBlock_net (s : State) (n : Nat) (b : NandBlock) : (s.setBlock n b).net = s.net := rfl
@[simp] theorem State.setBlock_meter (s : State) (n : Nat) (b : NandBlock) : (s.setBlock n b).meter = s.meter := rfl
@[simp] theorem State.setBlock_zheoc (s : State) (n : Nat) (b : NandBlock) : (s.setBlock n b).zheoc = s.zheoc := rfl
@[simp] theorem State.setBlock_milestone (s : State) (n : Nat) (b : NandBlock) : (s.setBlock n b).milestone = s.milestone := rfl
@[simp] theorem State.setBlock_dict (s : State) (n : Nat) (b : NandBlock) : (s.setBlock n b).dict = s.dict := rfl
@[simp] theorem State.setBlock_bootDict (s : State) (n : Nat) (b : NandBlock) : (s.setBlock n b).bootDict = s.bootDict := rfl
@[simp] theorem State.setBlock_octets (s : State) (n : Nat) (b : NandBlock) : (s.setBlock n b).octets = s.octets := rfl
@[simp] theorem State.setBlock_periods (s : State) (n : Nat) (b : NandBlock) : (s.setBlock n b).periods = s.periods := rfl
@[simp] theorem State.setBlock_draws (s : State) (n : Nat) (b : NandBlock) : (s.setBlock n b).draws = s.draws := rfl
@[simp] theorem State.setBlock_pending (s : State) (n : Nat) (b : NandBlock) : (s.setBlock n b).pending = s.pending := rfl

end Sys2Proof.Machine
end

