-- ==== Sys2Proof/Laws/Frame.lean ====
section
/-!
SUPPORT. Laws/Frame.lean: what the shared operations leave alone: rules for changesOnly, and one lemma per operation.
-/
namespace Sys2Proof.Machine

/-! ### Rules -/

theorem changesOnly_refl (ps : List Part) (s : State) : State.changesOnly ps s s := by
  intro p _; cases p <;> rfl

theorem agree_trans {s t u : State} {p : Part} (h : s.agree t p) (g : t.agree u p) : s.agree u p := by
  cases p <;> exact Eq.trans h g

/-- Every part of a list is one of another. -/
def partsIn (ps qs : List Part) : Bool := ps.all (fun p => qs.contains p)

theorem partsIn_mem {ps qs : List Part} (h : partsIn ps qs = true) {p : Part} (hp : qs.contains p = false) : ps.contains p = false := by
  cases hc : ps.contains p with
  | false => rfl
  | true =>
    have hm := List.all_eq_true.mp h p (List.contains_iff_mem.mp hc)
    simp only [hp] at hm
    exact absurd hm (by decide)

theorem changesOnly_mono {ps qs : List Part} {s t : State} (h : State.changesOnly ps s t) (hs : partsIn ps qs = true) :
    State.changesOnly qs s t := fun p hp => h p (partsIn_mem hs hp)

/-- One change after another: what either changes. -/
theorem State.changesOnly.seq {ps qs : List Part} {s t u : State} (h : State.changesOnly ps s t) (g : State.changesOnly qs t u) :
    State.changesOnly (ps ++ qs) s u := by
  intro p hp
  have e : (ps.contains p || qs.contains p) = false := by rw [← hp, List.contains_eq_any_beq, List.contains_eq_any_beq, List.contains_eq_any_beq, List.any_append]
  obtain ⟨a, b⟩ := Bool.or_eq_false_iff.mp e
  exact agree_trans (h p a) (g p b)

/-- What changes only some parts changes only more of them. -/
theorem State.changesOnly.within {ps qs : List Part} {s t : State} (h : State.changesOnly ps s t) (hs : partsIn ps qs = true) :
    State.changesOnly qs s t := changesOnly_mono h hs

theorem changesOnly_ite {ps : List Part} {s t u : State} {c : Prop} [Decidable c] (h : State.changesOnly ps s t) (g : State.changesOnly ps s u) :
    State.changesOnly ps s (if c then t else u) := by
  split
  · exact h
  · exact g

theorem changesOnly_foldl {α : Type} {ps : List Part} {f : State → α → State} (h : ∀ s x, State.changesOnly ps s (f s x)) (l : List α) (s : State) :
    State.changesOnly ps s (l.foldl f s) := by
  induction l generalizing s with
  | nil => exact changesOnly_refl ps s
  | cons x t ih =>
    intro p hp
    exact agree_trans (h s x p hp) (ih (f s x) p hp)

/-! ### One part -/

theorem only_mode (s : State) (x : ModeState) : State.changesOnly [.mode] s { s with mode := x } := fun p hp => by
  cases p <;> first | rfl | exact Bool.noConfusion hp

theorem only_boot (s : State) (x : BootState) : State.changesOnly [.boot] s { s with boot := x } := fun p hp => by
  cases p <;> first | rfl | exact Bool.noConfusion hp

theorem only_outputs (s : State) (x : Outputs) : State.changesOnly [.outputs] s { s with outputs := x } := fun p hp => by
  cases p <;> first | rfl | exact Bool.noConfusion hp

theorem only_power (s : State) (x : PowerState) : State.changesOnly [.power] s { s with power := x } := fun p hp => by
  cases p <;> first | rfl | exact Bool.noConfusion hp

theorem only_clk (s : State) (x : ClockState) : State.changesOnly [.clk] s { s with clk := x } := fun p hp => by
  cases p <;> first | rfl | exact Bool.noConfusion hp

theorem only_roundabout (s : State) (x : RoundaboutState) : State.changesOnly [.roundabout] s { s with roundabout := x } := fun p hp => by
  cases p <;> first | rfl | exact Bool.noConfusion hp

theorem only_queues (s : State) (x : (Tab QueueState)) : State.changesOnly [.queues] s { s with queues := x } := fun p hp => by
  cases p <;> first | rfl | exact Bool.noConfusion hp

theorem only_host (s : State) (x : HostPort) : State.changesOnly [.host] s { s with host := x } := fun p hp => by
  cases p <;> first | rfl | exact Bool.noConfusion hp

theorem only_mbox (s : State) (x : Mailbox) : State.changesOnly [.mbox] s { s with mbox := x } := fun p hp => by
  cases p <;> first | rfl | exact Bool.noConfusion hp

theorem only_sessions (s : State) (x : (Tab Session)) : State.changesOnly [.sessions] s { s with sessions := x } := fun p hp => by
  cases p <;> first | rfl | exact Bool.noConfusion hp

theorem only_remotes (s : State) (x : (List RemoteRequest)) : State.changesOnly [.remotes] s { s with remotes := x } := fun p hp => by
  cases p <;> first | rfl | exact Bool.noConfusion hp

theorem only_gnss (s : State) (x : GnssState) : State.changesOnly [.gnss] s { s with gnss := x } := fun p hp => by
  cases p <;> first | rfl | exact Bool.noConfusion hp

theorem only_obs (s : State) (x : ObsState) : State.changesOnly [.obs] s { s with obs := x } := fun p hp => by
  cases p <;> first | rfl | exact Bool.noConfusion hp

theorem only_baseRef (s : State) (x : BaseRefState) : State.changesOnly [.baseRef] s { s with baseRef := x } := fun p hp => by
  cases p <;> first | rfl | exact Bool.noConfusion hp

theorem only_nav (s : State) (x : PoseState) : State.changesOnly [.nav] s { s with nav := x } := fun p hp => by
  cases p <;> first | rfl | exact Bool.noConfusion hp

theorem only_blv (s : State) (x : BlvState) : State.changesOnly [.blv] s { s with blv := x } := fun p hp => by
  cases p <;> first | rfl | exact Bool.noConfusion hp

theorem only_kerb (s : State) (x : KerbState) : State.changesOnly [.kerb] s { s with kerb := x } := fun p hp => by
  cases p <;> first | rfl | exact Bool.noConfusion hp

theorem only_cover (s : State) (x : CoverState) : State.changesOnly [.cover] s { s with cover := x } := fun p hp => by
  cases p <;> first | rfl | exact Bool.noConfusion hp

theorem only_cache (s : State) (x : CacheState) : State.changesOnly [.cache] s { s with cache := x } := fun p hp => by
  cases p <;> first | rfl | exact Bool.noConfusion hp

theorem only_fleet (s : State) (x : FleetState) : State.changesOnly [.fleet] s { s with fleet := x } := fun p hp => by
  cases p <;> first | rfl | exact Bool.noConfusion hp

theorem only_radio (s : State) (x : RadioState) : State.changesOnly [.radio] s { s with radio := x } := fun p hp => by
  cases p <;> first | rfl | exact Bool.noConfusion hp

theorem only_crier (s : State) (x : CrierState) : State.changesOnly [.crier] s { s with crier := x } := fun p hp => by
  cases p <;> first | rfl | exact Bool.noConfusion hp

theorem only_gate (s : State) (x : GateState) : State.changesOnly [.gate] s { s with gate := x } := fun p hp => by
  cases p <;> first | rfl | exact Bool.noConfusion hp

theorem only_tram (s : State) (x : TramState) : State.changesOnly [.tram] s { s with tram := x } := fun p hp => by
  cases p <;> first | rfl | exact Bool.noConfusion hp

theorem only_net (s : State) (x : NetState) : State.changesOnly [.net] s { s with net := x } := fun p hp => by
  cases p <;> first | rfl | exact Bool.noConfusion hp

theorem only_meter (s : State) (x : MeterState) : State.changesOnly [.meter] s { s with meter := x } := fun p hp => by
  cases p <;> first | rfl | exact Bool.noConfusion hp

theorem only_zheoc (s : State) (x : ZheocState) : State.changesOnly [.zheoc] s { s with zheoc := x } := fun p hp => by
  cases p <;> first | rfl | exact Bool.noConfusion hp

theorem only_store (s : State) (x : StoreState) : State.changesOnly [.store] s { s with store := x } := fun p hp => by
  cases p <;> first | rfl | exact Bool.noConfusion hp

theorem only_milestone (s : State) (x : MilestoneState) : State.changesOnly [.milestone] s { s with milestone := x } := fun p hp => by
  cases p <;> first | rfl | exact Bool.noConfusion hp

theorem only_dict (s : State) (x : (Tab Int)) : State.changesOnly [.dict] s { s with dict := x } := fun p hp => by
  cases p <;> first | rfl | exact Bool.noConfusion hp

theorem only_bootDict (s : State) (x : (Tab Int)) : State.changesOnly [.bootDict] s { s with bootDict := x } := fun p hp => by
  cases p <;> first | rfl | exact Bool.noConfusion hp

theorem only_octets (s : State) (x : (Tab (List Byte))) : State.changesOnly [.octets] s { s with octets := x } := fun p hp => by
  cases p <;> first | rfl | exact Bool.noConfusion hp

theorem only_periods (s : State) (x : (Tab Nat)) : State.changesOnly [.periods] s { s with periods := x } := fun p hp => by
  cases p <;> first | rfl | exact Bool.noConfusion hp

theorem only_draws (s : State) (x : Nat) : State.changesOnly [.draws] s { s with draws := x } := fun p hp => by
  cases p <;> first | rfl | exact Bool.noConfusion hp

theorem only_pending (s : State) (x : (List Instr)) : State.changesOnly [.pending] s { s with pending := x } := fun p hp => by
  cases p <;> first | rfl | exact Bool.noConfusion hp

/-! ### The small updates -/

theorem State.updPower_frame (s : State) (f : PowerState → PowerState) : State.changesOnly [.power] s (s.updPower f) := only_power s _

theorem State.updBoot_frame (s : State) (f : BootState → BootState) : State.changesOnly [.boot] s (s.updBoot f) := only_boot s _

theorem State.updBlv_frame (s : State) (f : BlvState → BlvState) : State.changesOnly [.blv] s (s.updBlv f) := only_blv s _

theorem State.updNet_frame (s : State) (f : NetState → NetState) : State.changesOnly [.net] s (s.updNet f) := only_net s _

theorem State.updCover_frame (s : State) (f : CoverState → CoverState) : State.changesOnly [.cover] s (s.updCover f) := only_cover s _

theorem State.updCache_frame (s : State) (f : CacheState → CacheState) : State.changesOnly [.cache] s (s.updCache f) := only_cache s _

theorem State.updCrier_frame (s : State) (f : CrierState → CrierState) : State.changesOnly [.crier] s (s.updCrier f) := only_crier s _

theorem State.updFleet_frame (s : State) (f : FleetState → FleetState) : State.changesOnly [.fleet] s (s.updFleet f) := only_fleet s _

theorem State.updHost_frame (s : State) (f : HostPort → HostPort) : State.changesOnly [.host] s (s.updHost f) := only_host s _

theorem State.updMbox_frame (s : State) (f : Mailbox → Mailbox) : State.changesOnly [.mbox] s (s.updMbox f) := only_mbox s _

theorem State.updKerb_frame (s : State) (f : KerbState → KerbState) : State.changesOnly [.kerb] s (s.updKerb f) := only_kerb s _

theorem State.updGate_frame (s : State) (f : GateState → GateState) : State.changesOnly [.gate] s (s.updGate f) := only_gate s _

theorem State.updMeter_frame (s : State) (f : MeterState → MeterState) : State.changesOnly [.meter] s (s.updMeter f) := only_meter s _

theorem State.updZheoc_frame (s : State) (f : ZheocState → ZheocState) : State.changesOnly [.zheoc] s (s.updZheoc f) := only_zheoc s _

theorem State.updRef_frame (s : State) (f : BaseRefState → BaseRefState) : State.changesOnly [.baseRef] s (s.updRef f) := only_baseRef s _

theorem State.updNav_frame (s : State) (f : PoseState → PoseState) : State.changesOnly [.nav] s (s.updNav f) := only_nav s _

theorem State.updRadio_frame (s : State) (f : RadioState → RadioState) : State.changesOnly [.radio] s (s.updRadio f) := only_radio s _

theorem State.updStore_frame (s : State) (f : StoreState → StoreState) : State.changesOnly [.store] s (s.updStore f) := only_store s _

theorem State.updTram_frame (s : State) (f : TramState → TramState) : State.changesOnly [.tram] s (s.updTram f) := only_tram s _

theorem State.setRegAt_frame (s : State) (o : ObjDesc) (i : Nat) (v : Int) : State.changesOnly [.dict] s (s.setRegAt o i v) := only_dict s _

theorem State.setReg_frame (s : State) (o : ObjDesc) (v : Int) : State.changesOnly [.dict] s (s.setReg o v) := only_dict s _

theorem State.addRegAt_frame (s : State) (o : ObjDesc) (i n : Nat) : State.changesOnly [.dict] s (s.addRegAt o i n) := only_dict s _

theorem State.incr_frame (s : State) (o : ObjDesc) : State.changesOnly [.dict] s (s.incr o) := only_dict s _

theorem State.incrAt_frame (s : State) (o : ObjDesc) (i : Nat) : State.changesOnly [.dict] s (s.incrAt o i) := only_dict s _

theorem State.setOctAt_frame (s : State) (o : ObjDesc) (i : Nat) (v : List Byte) : State.changesOnly [.octets] s (s.setOctAt o i v) := only_octets s _

theorem State.setOct_frame (s : State) (o : ObjDesc) (v : List Byte) : State.changesOnly [.octets] s (s.setOct o v) := only_octets s _

theorem State.updSession_frame (s : State) (q : Sess) (f : Session → Session) : State.changesOnly [.sessions] s (s.updSession q f) := only_sessions s _

theorem State.raiseIrq_frame (s : State) (n : Nat) : State.changesOnly [.host] s (s.raiseIrq n) := only_host s _

theorem State.setQueue_frame (s : State) (n : Nat) (q : QueueState) : State.changesOnly [.queues] s (s.setQueue n q) := only_queues s _

theorem State.setChan_frame (s : State) (n : Nat) (c : Channel) : State.changesOnly [.gnss] s (s.setChan n c) := only_gnss s _

theorem State.updSnapshot_frame (s : State) (f : SnapshotState → SnapshotState) : State.changesOnly [.gnss] s (s.updSnapshot f) := only_gnss s _

theorem State.setSlot_frame (s : State) (n : Nat) (c : SlotConn) : State.changesOnly [.radio] s (s.setSlot n c) := only_radio s _

theorem State.setAxis_frame (s : State) (n : Nat) (a : Axis) : State.changesOnly [.tram] s (s.setAxis n a) := only_tram s _

theorem State.setSec_frame (s : State) (i : Nat) (x : Section) : State.changesOnly [.kerb] s (s.setSec i x) := only_kerb s _

theorem State.setPort_frame (s : State) (p : Nat) (x : EthPort) : State.changesOnly [.net] s (s.setPort p x) := only_net s _

theorem State.setPtp_frame (s : State) (p : Nat) (x : PtpPort) : State.changesOnly [.net] s (s.setPtp p x) := only_net s _

theorem State.setCan_frame (s : State) (n : Nat) (c : CanCtl) : State.changesOnly [.net] s (s.setCan n c) := only_net s _

theorem State.updOpen_frame (s : State) (f : CanOpen → CanOpen) : State.changesOnly [.net] s (s.updOpen f) := only_net s _

theorem State.updIso_frame (s : State) (f : Isobus → Isobus) : State.changesOnly [.net] s (s.updIso f) := only_net s _

theorem State.setPair_frame (s : State) (p : PairState) : State.changesOnly [.zheoc] s (s.setPair p) := only_zheoc s _

theorem State.setImage_frame (s : State) (n : Nat) (x : ImageSlot) : State.changesOnly [.gate] s (s.setImage n x) := only_gate s _

theorem State.updActivation_frame (s : State) (f : Activation → Activation) : State.changesOnly [.gate] s (s.updActivation f) := only_gate s _

theorem State.updBankM_frame (s : State) (f : MeterBank → MeterBank) : State.changesOnly [.meter] s (s.updBankM f) := only_meter s _

theorem State.updInput_frame (s : State) (i : Nat) (f : PulseInput → PulseInput) : State.changesOnly [.meter] s (s.updInput i f) := only_meter s _

theorem State.updVin_frame (s : State) (f : VinMonitor → VinMonitor) : State.changesOnly [.meter] s (s.updVin f) := only_meter s _

theorem State.updChain_frame (s : State) (f : Chain → Chain) : State.changesOnly [.kerb] s (s.updChain f) := only_kerb s _

theorem State.setBlock_frame (s : State) (n : Nat) (b : NandBlock) : State.changesOnly [.store] s (s.setBlock n b) := only_store s _

theorem State.drawBits_frame (s : State) (n : Nat) : State.changesOnly [.draws] s (s.drawBits n).2 := only_draws s _

end Sys2Proof.Machine
end

