-- ==== Sys2Proof/Laws/Shared.lean ====
section
/-!
SUPPORT. Laws/Shared.lean: what the shared operations change at most, part by part.
-/
namespace Sys2Proof.Machine

theorem State.raiseReg_frame (s : State) (o : ObjDesc) (v : Int) : State.changesOnly [.dict] s (s.raiseReg o v) :=
  changesOnly_ite (s.setReg_frame o _) (changesOnly_refl _ _)

@[simp] theorem State.raiseReg_mode (s : State) (o : ObjDesc) (v : Int) : (s.raiseReg o v).mode = s.mode := (State.raiseReg_frame s o v .mode rfl).symm
@[simp] theorem State.raiseReg_boot (s : State) (o : ObjDesc) (v : Int) : (s.raiseReg o v).boot = s.boot := (State.raiseReg_frame s o v .boot rfl).symm
@[simp] theorem State.raiseReg_outputs (s : State) (o : ObjDesc) (v : Int) : (s.raiseReg o v).outputs = s.outputs := (State.raiseReg_frame s o v .outputs rfl).symm
@[simp] theorem State.raiseReg_power (s : State) (o : ObjDesc) (v : Int) : (s.raiseReg o v).power = s.power := (State.raiseReg_frame s o v .power rfl).symm
@[simp] theorem State.raiseReg_clk (s : State) (o : ObjDesc) (v : Int) : (s.raiseReg o v).clk = s.clk := (State.raiseReg_frame s o v .clk rfl).symm
@[simp] theorem State.raiseReg_roundabout (s : State) (o : ObjDesc) (v : Int) : (s.raiseReg o v).roundabout = s.roundabout := (State.raiseReg_frame s o v .roundabout rfl).symm
@[simp] theorem State.raiseReg_queues (s : State) (o : ObjDesc) (v : Int) : (s.raiseReg o v).queues = s.queues := (State.raiseReg_frame s o v .queues rfl).symm
@[simp] theorem State.raiseReg_host (s : State) (o : ObjDesc) (v : Int) : (s.raiseReg o v).host = s.host := (State.raiseReg_frame s o v .host rfl).symm
@[simp] theorem State.raiseReg_mbox (s : State) (o : ObjDesc) (v : Int) : (s.raiseReg o v).mbox = s.mbox := (State.raiseReg_frame s o v .mbox rfl).symm
@[simp] theorem State.raiseReg_sessions (s : State) (o : ObjDesc) (v : Int) : (s.raiseReg o v).sessions = s.sessions := (State.raiseReg_frame s o v .sessions rfl).symm
@[simp] theorem State.raiseReg_remotes (s : State) (o : ObjDesc) (v : Int) : (s.raiseReg o v).remotes = s.remotes := (State.raiseReg_frame s o v .remotes rfl).symm
@[simp] theorem State.raiseReg_gnss (s : State) (o : ObjDesc) (v : Int) : (s.raiseReg o v).gnss = s.gnss := (State.raiseReg_frame s o v .gnss rfl).symm
@[simp] theorem State.raiseReg_obs (s : State) (o : ObjDesc) (v : Int) : (s.raiseReg o v).obs = s.obs := (State.raiseReg_frame s o v .obs rfl).symm
@[simp] theorem State.raiseReg_baseRef (s : State) (o : ObjDesc) (v : Int) : (s.raiseReg o v).baseRef = s.baseRef := (State.raiseReg_frame s o v .baseRef rfl).symm
@[simp] theorem State.raiseReg_nav (s : State) (o : ObjDesc) (v : Int) : (s.raiseReg o v).nav = s.nav := (State.raiseReg_frame s o v .nav rfl).symm
@[simp] theorem State.raiseReg_blv (s : State) (o : ObjDesc) (v : Int) : (s.raiseReg o v).blv = s.blv := (State.raiseReg_frame s o v .blv rfl).symm
@[simp] theorem State.raiseReg_kerb (s : State) (o : ObjDesc) (v : Int) : (s.raiseReg o v).kerb = s.kerb := (State.raiseReg_frame s o v .kerb rfl).symm
@[simp] theorem State.raiseReg_cover (s : State) (o : ObjDesc) (v : Int) : (s.raiseReg o v).cover = s.cover := (State.raiseReg_frame s o v .cover rfl).symm
@[simp] theorem State.raiseReg_cache (s : State) (o : ObjDesc) (v : Int) : (s.raiseReg o v).cache = s.cache := (State.raiseReg_frame s o v .cache rfl).symm
@[simp] theorem State.raiseReg_fleet (s : State) (o : ObjDesc) (v : Int) : (s.raiseReg o v).fleet = s.fleet := (State.raiseReg_frame s o v .fleet rfl).symm
@[simp] theorem State.raiseReg_radio (s : State) (o : ObjDesc) (v : Int) : (s.raiseReg o v).radio = s.radio := (State.raiseReg_frame s o v .radio rfl).symm
@[simp] theorem State.raiseReg_crier (s : State) (o : ObjDesc) (v : Int) : (s.raiseReg o v).crier = s.crier := (State.raiseReg_frame s o v .crier rfl).symm
@[simp] theorem State.raiseReg_gate (s : State) (o : ObjDesc) (v : Int) : (s.raiseReg o v).gate = s.gate := (State.raiseReg_frame s o v .gate rfl).symm
@[simp] theorem State.raiseReg_tram (s : State) (o : ObjDesc) (v : Int) : (s.raiseReg o v).tram = s.tram := (State.raiseReg_frame s o v .tram rfl).symm
@[simp] theorem State.raiseReg_net (s : State) (o : ObjDesc) (v : Int) : (s.raiseReg o v).net = s.net := (State.raiseReg_frame s o v .net rfl).symm
@[simp] theorem State.raiseReg_meter (s : State) (o : ObjDesc) (v : Int) : (s.raiseReg o v).meter = s.meter := (State.raiseReg_frame s o v .meter rfl).symm
@[simp] theorem State.raiseReg_zheoc (s : State) (o : ObjDesc) (v : Int) : (s.raiseReg o v).zheoc = s.zheoc := (State.raiseReg_frame s o v .zheoc rfl).symm
@[simp] theorem State.raiseReg_store (s : State) (o : ObjDesc) (v : Int) : (s.raiseReg o v).store = s.store := (State.raiseReg_frame s o v .store rfl).symm
@[simp] theorem State.raiseReg_milestone (s : State) (o : ObjDesc) (v : Int) : (s.raiseReg o v).milestone = s.milestone := (State.raiseReg_frame s o v .milestone rfl).symm
@[simp] theorem State.raiseReg_bootDict (s : State) (o : ObjDesc) (v : Int) : (s.raiseReg o v).bootDict = s.bootDict := (State.raiseReg_frame s o v .bootDict rfl).symm
@[simp] theorem State.raiseReg_octets (s : State) (o : ObjDesc) (v : Int) : (s.raiseReg o v).octets = s.octets := (State.raiseReg_frame s o v .octets rfl).symm
@[simp] theorem State.raiseReg_periods (s : State) (o : ObjDesc) (v : Int) : (s.raiseReg o v).periods = s.periods := (State.raiseReg_frame s o v .periods rfl).symm
@[simp] theorem State.raiseReg_draws (s : State) (o : ObjDesc) (v : Int) : (s.raiseReg o v).draws = s.draws := (State.raiseReg_frame s o v .draws rfl).symm
@[simp] theorem State.raiseReg_pending (s : State) (o : ObjDesc) (v : Int) : (s.raiseReg o v).pending = s.pending := (State.raiseReg_frame s o v .pending rfl).symm

theorem State.updBank_frame (s : State) (f : MilestoneBank → MilestoneBank) : State.changesOnly [.milestone] s (s.updBank f) :=
  changesOnly_ite (only_milestone s _) (only_milestone s _)

@[simp] theorem State.updBank_mode (s : State) (f : MilestoneBank → MilestoneBank) : (s.updBank f).mode = s.mode := (State.updBank_frame s f .mode rfl).symm
@[simp] theorem State.updBank_boot (s : State) (f : MilestoneBank → MilestoneBank) : (s.updBank f).boot = s.boot := (State.updBank_frame s f .boot rfl).symm
@[simp] theorem State.updBank_outputs (s : State) (f : MilestoneBank → MilestoneBank) : (s.updBank f).outputs = s.outputs := (State.updBank_frame s f .outputs rfl).symm
@[simp] theorem State.updBank_power (s : State) (f : MilestoneBank → MilestoneBank) : (s.updBank f).power = s.power := (State.updBank_frame s f .power rfl).symm
@[simp] theorem State.updBank_clk (s : State) (f : MilestoneBank → MilestoneBank) : (s.updBank f).clk = s.clk := (State.updBank_frame s f .clk rfl).symm
@[simp] theorem State.updBank_roundabout (s : State) (f : MilestoneBank → MilestoneBank) : (s.updBank f).roundabout = s.roundabout := (State.updBank_frame s f .roundabout rfl).symm
@[simp] theorem State.updBank_queues (s : State) (f : MilestoneBank → MilestoneBank) : (s.updBank f).queues = s.queues := (State.updBank_frame s f .queues rfl).symm
@[simp] theorem State.updBank_host (s : State) (f : MilestoneBank → MilestoneBank) : (s.updBank f).host = s.host := (State.updBank_frame s f .host rfl).symm
@[simp] theorem State.updBank_mbox (s : State) (f : MilestoneBank → MilestoneBank) : (s.updBank f).mbox = s.mbox := (State.updBank_frame s f .mbox rfl).symm
@[simp] theorem State.updBank_sessions (s : State) (f : MilestoneBank → MilestoneBank) : (s.updBank f).sessions = s.sessions := (State.updBank_frame s f .sessions rfl).symm
@[simp] theorem State.updBank_remotes (s : State) (f : MilestoneBank → MilestoneBank) : (s.updBank f).remotes = s.remotes := (State.updBank_frame s f .remotes rfl).symm
@[simp] theorem State.updBank_gnss (s : State) (f : MilestoneBank → MilestoneBank) : (s.updBank f).gnss = s.gnss := (State.updBank_frame s f .gnss rfl).symm
@[simp] theorem State.updBank_obs (s : State) (f : MilestoneBank → MilestoneBank) : (s.updBank f).obs = s.obs := (State.updBank_frame s f .obs rfl).symm
@[simp] theorem State.updBank_baseRef (s : State) (f : MilestoneBank → MilestoneBank) : (s.updBank f).baseRef = s.baseRef := (State.updBank_frame s f .baseRef rfl).symm
@[simp] theorem State.updBank_nav (s : State) (f : MilestoneBank → MilestoneBank) : (s.updBank f).nav = s.nav := (State.updBank_frame s f .nav rfl).symm
@[simp] theorem State.updBank_blv (s : State) (f : MilestoneBank → MilestoneBank) : (s.updBank f).blv = s.blv := (State.updBank_frame s f .blv rfl).symm
@[simp] theorem State.updBank_kerb (s : State) (f : MilestoneBank → MilestoneBank) : (s.updBank f).kerb = s.kerb := (State.updBank_frame s f .kerb rfl).symm
@[simp] theorem State.updBank_cover (s : State) (f : MilestoneBank → MilestoneBank) : (s.updBank f).cover = s.cover := (State.updBank_frame s f .cover rfl).symm
@[simp] theorem State.updBank_cache (s : State) (f : MilestoneBank → MilestoneBank) : (s.updBank f).cache = s.cache := (State.updBank_frame s f .cache rfl).symm
@[simp] theorem State.updBank_fleet (s : State) (f : MilestoneBank → MilestoneBank) : (s.updBank f).fleet = s.fleet := (State.updBank_frame s f .fleet rfl).symm
@[simp] theorem State.updBank_radio (s : State) (f : MilestoneBank → MilestoneBank) : (s.updBank f).radio = s.radio := (State.updBank_frame s f .radio rfl).symm
@[simp] theorem State.updBank_crier (s : State) (f : MilestoneBank → MilestoneBank) : (s.updBank f).crier = s.crier := (State.updBank_frame s f .crier rfl).symm
@[simp] theorem State.updBank_gate (s : State) (f : MilestoneBank → MilestoneBank) : (s.updBank f).gate = s.gate := (State.updBank_frame s f .gate rfl).symm
@[simp] theorem State.updBank_tram (s : State) (f : MilestoneBank → MilestoneBank) : (s.updBank f).tram = s.tram := (State.updBank_frame s f .tram rfl).symm
@[simp] theorem State.updBank_net (s : State) (f : MilestoneBank → MilestoneBank) : (s.updBank f).net = s.net := (State.updBank_frame s f .net rfl).symm
@[simp] theorem State.updBank_meter (s : State) (f : MilestoneBank → MilestoneBank) : (s.updBank f).meter = s.meter := (State.updBank_frame s f .meter rfl).symm
@[simp] theorem State.updBank_zheoc (s : State) (f : MilestoneBank → MilestoneBank) : (s.updBank f).zheoc = s.zheoc := (State.updBank_frame s f .zheoc rfl).symm
@[simp] theorem State.updBank_store (s : State) (f : MilestoneBank → MilestoneBank) : (s.updBank f).store = s.store := (State.updBank_frame s f .store rfl).symm
@[simp] theorem State.updBank_dict (s : State) (f : MilestoneBank → MilestoneBank) : (s.updBank f).dict = s.dict := (State.updBank_frame s f .dict rfl).symm
@[simp] theorem State.updBank_bootDict (s : State) (f : MilestoneBank → MilestoneBank) : (s.updBank f).bootDict = s.bootDict := (State.updBank_frame s f .bootDict rfl).symm
@[simp] theorem State.updBank_octets (s : State) (f : MilestoneBank → MilestoneBank) : (s.updBank f).octets = s.octets := (State.updBank_frame s f .octets rfl).symm
@[simp] theorem State.updBank_periods (s : State) (f : MilestoneBank → MilestoneBank) : (s.updBank f).periods = s.periods := (State.updBank_frame s f .periods rfl).symm
@[simp] theorem State.updBank_draws (s : State) (f : MilestoneBank → MilestoneBank) : (s.updBank f).draws = s.draws := (State.updBank_frame s f .draws rfl).symm
@[simp] theorem State.updBank_pending (s : State) (f : MilestoneBank → MilestoneBank) : (s.updBank f).pending = s.pending := (State.updBank_frame s f .pending rfl).symm

theorem State.milestoneSample_frame (s : State) (item bin : Nat) : State.changesOnly [.milestone] s (s.milestoneSample item bin) :=
  s.updBank_frame _

@[simp] theorem State.milestoneSample_mode (s : State) (item bin : Nat) : (s.milestoneSample item bin).mode = s.mode := (State.milestoneSample_frame s item bin .mode rfl).symm
@[simp] theorem State.milestoneSample_boot (s : State) (item bin : Nat) : (s.milestoneSample item bin).boot = s.boot := (State.milestoneSample_frame s item bin .boot rfl).symm
@[simp] theorem State.milestoneSample_outputs (s : State) (item bin : Nat) : (s.milestoneSample item bin).outputs = s.outputs := (State.milestoneSample_frame s item bin .outputs rfl).symm
@[simp] theorem State.milestoneSample_power (s : State) (item bin : Nat) : (s.milestoneSample item bin).power = s.power := (State.milestoneSample_frame s item bin .power rfl).symm
@[simp] theorem State.milestoneSample_clk (s : State) (item bin : Nat) : (s.milestoneSample item bin).clk = s.clk := (State.milestoneSample_frame s item bin .clk rfl).symm
@[simp] theorem State.milestoneSample_roundabout (s : State) (item bin : Nat) : (s.milestoneSample item bin).roundabout = s.roundabout := (State.milestoneSample_frame s item bin .roundabout rfl).symm
@[simp] theorem State.milestoneSample_queues (s : State) (item bin : Nat) : (s.milestoneSample item bin).queues = s.queues := (State.milestoneSample_frame s item bin .queues rfl).symm
@[simp] theorem State.milestoneSample_host (s : State) (item bin : Nat) : (s.milestoneSample item bin).host = s.host := (State.milestoneSample_frame s item bin .host rfl).symm
@[simp] theorem State.milestoneSample_mbox (s : State) (item bin : Nat) : (s.milestoneSample item bin).mbox = s.mbox := (State.milestoneSample_frame s item bin .mbox rfl).symm
@[simp] theorem State.milestoneSample_sessions (s : State) (item bin : Nat) : (s.milestoneSample item bin).sessions = s.sessions := (State.milestoneSample_frame s item bin .sessions rfl).symm
@[simp] theorem State.milestoneSample_remotes (s : State) (item bin : Nat) : (s.milestoneSample item bin).remotes = s.remotes := (State.milestoneSample_frame s item bin .remotes rfl).symm
@[simp] theorem State.milestoneSample_gnss (s : State) (item bin : Nat) : (s.milestoneSample item bin).gnss = s.gnss := (State.milestoneSample_frame s item bin .gnss rfl).symm
@[simp] theorem State.milestoneSample_obs (s : State) (item bin : Nat) : (s.milestoneSample item bin).obs = s.obs := (State.milestoneSample_frame s item bin .obs rfl).symm
@[simp] theorem State.milestoneSample_baseRef (s : State) (item bin : Nat) : (s.milestoneSample item bin).baseRef = s.baseRef := (State.milestoneSample_frame s item bin .baseRef rfl).symm
@[simp] theorem State.milestoneSample_nav (s : State) (item bin : Nat) : (s.milestoneSample item bin).nav = s.nav := (State.milestoneSample_frame s item bin .nav rfl).symm
@[simp] theorem State.milestoneSample_blv (s : State) (item bin : Nat) : (s.milestoneSample item bin).blv = s.blv := (State.milestoneSample_frame s item bin .blv rfl).symm
@[simp] theorem State.milestoneSample_kerb (s : State) (item bin : Nat) : (s.milestoneSample item bin).kerb = s.kerb := (State.milestoneSample_frame s item bin .kerb rfl).symm
@[simp] theorem State.milestoneSample_cover (s : State) (item bin : Nat) : (s.milestoneSample item bin).cover = s.cover := (State.milestoneSample_frame s item bin .cover rfl).symm
@[simp] theorem State.milestoneSample_cache (s : State) (item bin : Nat) : (s.milestoneSample item bin).cache = s.cache := (State.milestoneSample_frame s item bin .cache rfl).symm
@[simp] theorem State.milestoneSample_fleet (s : State) (item bin : Nat) : (s.milestoneSample item bin).fleet = s.fleet := (State.milestoneSample_frame s item bin .fleet rfl).symm
@[simp] theorem State.milestoneSample_radio (s : State) (item bin : Nat) : (s.milestoneSample item bin).radio = s.radio := (State.milestoneSample_frame s item bin .radio rfl).symm
@[simp] theorem State.milestoneSample_crier (s : State) (item bin : Nat) : (s.milestoneSample item bin).crier = s.crier := (State.milestoneSample_frame s item bin .crier rfl).symm
@[simp] theorem State.milestoneSample_gate (s : State) (item bin : Nat) : (s.milestoneSample item bin).gate = s.gate := (State.milestoneSample_frame s item bin .gate rfl).symm
@[simp] theorem State.milestoneSample_tram (s : State) (item bin : Nat) : (s.milestoneSample item bin).tram = s.tram := (State.milestoneSample_frame s item bin .tram rfl).symm
@[simp] theorem State.milestoneSample_net (s : State) (item bin : Nat) : (s.milestoneSample item bin).net = s.net := (State.milestoneSample_frame s item bin .net rfl).symm
@[simp] theorem State.milestoneSample_meter (s : State) (item bin : Nat) : (s.milestoneSample item bin).meter = s.meter := (State.milestoneSample_frame s item bin .meter rfl).symm
@[simp] theorem State.milestoneSample_zheoc (s : State) (item bin : Nat) : (s.milestoneSample item bin).zheoc = s.zheoc := (State.milestoneSample_frame s item bin .zheoc rfl).symm
@[simp] theorem State.milestoneSample_store (s : State) (item bin : Nat) : (s.milestoneSample item bin).store = s.store := (State.milestoneSample_frame s item bin .store rfl).symm
@[simp] theorem State.milestoneSample_dict (s : State) (item bin : Nat) : (s.milestoneSample item bin).dict = s.dict := (State.milestoneSample_frame s item bin .dict rfl).symm
@[simp] theorem State.milestoneSample_bootDict (s : State) (item bin : Nat) : (s.milestoneSample item bin).bootDict = s.bootDict := (State.milestoneSample_frame s item bin .bootDict rfl).symm
@[simp] theorem State.milestoneSample_octets (s : State) (item bin : Nat) : (s.milestoneSample item bin).octets = s.octets := (State.milestoneSample_frame s item bin .octets rfl).symm
@[simp] theorem State.milestoneSample_periods (s : State) (item bin : Nat) : (s.milestoneSample item bin).periods = s.periods := (State.milestoneSample_frame s item bin .periods rfl).symm
@[simp] theorem State.milestoneSample_draws (s : State) (item bin : Nat) : (s.milestoneSample item bin).draws = s.draws := (State.milestoneSample_frame s item bin .draws rfl).symm
@[simp] theorem State.milestoneSample_pending (s : State) (item bin : Nat) : (s.milestoneSample item bin).pending = s.pending := (State.milestoneSample_frame s item bin .pending rfl).symm

theorem State.milestoneExtreme_frame (s : State) (item : Nat) (v : Int) : State.changesOnly [.milestone] s (s.milestoneExtreme item v) :=
  s.updBank_frame _

@[simp] theorem State.milestoneExtreme_mode (s : State) (item : Nat) (v : Int) : (s.milestoneExtreme item v).mode = s.mode := (State.milestoneExtreme_frame s item v .mode rfl).symm
@[simp] theorem State.milestoneExtreme_boot (s : State) (item : Nat) (v : Int) : (s.milestoneExtreme item v).boot = s.boot := (State.milestoneExtreme_frame s item v .boot rfl).symm
@[simp] theorem State.milestoneExtreme_outputs (s : State) (item : Nat) (v : Int) : (s.milestoneExtreme item v).outputs = s.outputs := (State.milestoneExtreme_frame s item v .outputs rfl).symm
@[simp] theorem State.milestoneExtreme_power (s : State) (item : Nat) (v : Int) : (s.milestoneExtreme item v).power = s.power := (State.milestoneExtreme_frame s item v .power rfl).symm
@[simp] theorem State.milestoneExtreme_clk (s : State) (item : Nat) (v : Int) : (s.milestoneExtreme item v).clk = s.clk := (State.milestoneExtreme_frame s item v .clk rfl).symm
@[simp] theorem State.milestoneExtreme_roundabout (s : State) (item : Nat) (v : Int) : (s.milestoneExtreme item v).roundabout = s.roundabout := (State.milestoneExtreme_frame s item v .roundabout rfl).symm
@[simp] theorem State.milestoneExtreme_queues (s : State) (item : Nat) (v : Int) : (s.milestoneExtreme item v).queues = s.queues := (State.milestoneExtreme_frame s item v .queues rfl).symm
@[simp] theorem State.milestoneExtreme_host (s : State) (item : Nat) (v : Int) : (s.milestoneExtreme item v).host = s.host := (State.milestoneExtreme_frame s item v .host rfl).symm
@[simp] theorem State.milestoneExtreme_mbox (s : State) (item : Nat) (v : Int) : (s.milestoneExtreme item v).mbox = s.mbox := (State.milestoneExtreme_frame s item v .mbox rfl).symm
@[simp] theorem State.milestoneExtreme_sessions (s : State) (item : Nat) (v : Int) : (s.milestoneExtreme item v).sessions = s.sessions := (State.milestoneExtreme_frame s item v .sessions rfl).symm
@[simp] theorem State.milestoneExtreme_remotes (s : State) (item : Nat) (v : Int) : (s.milestoneExtreme item v).remotes = s.remotes := (State.milestoneExtreme_frame s item v .remotes rfl).symm
@[simp] theorem State.milestoneExtreme_gnss (s : State) (item : Nat) (v : Int) : (s.milestoneExtreme item v).gnss = s.gnss := (State.milestoneExtreme_frame s item v .gnss rfl).symm
@[simp] theorem State.milestoneExtreme_obs (s : State) (item : Nat) (v : Int) : (s.milestoneExtreme item v).obs = s.obs := (State.milestoneExtreme_frame s item v .obs rfl).symm
@[simp] theorem State.milestoneExtreme_baseRef (s : State) (item : Nat) (v : Int) : (s.milestoneExtreme item v).baseRef = s.baseRef := (State.milestoneExtreme_frame s item v .baseRef rfl).symm
@[simp] theorem State.milestoneExtreme_nav (s : State) (item : Nat) (v : Int) : (s.milestoneExtreme item v).nav = s.nav := (State.milestoneExtreme_frame s item v .nav rfl).symm
@[simp] theorem State.milestoneExtreme_blv (s : State) (item : Nat) (v : Int) : (s.milestoneExtreme item v).blv = s.blv := (State.milestoneExtreme_frame s item v .blv rfl).symm
@[simp] theorem State.milestoneExtreme_kerb (s : State) (item : Nat) (v : Int) : (s.milestoneExtreme item v).kerb = s.kerb := (State.milestoneExtreme_frame s item v .kerb rfl).symm
@[simp] theorem State.milestoneExtreme_cover (s : State) (item : Nat) (v : Int) : (s.milestoneExtreme item v).cover = s.cover := (State.milestoneExtreme_frame s item v .cover rfl).symm
@[simp] theorem State.milestoneExtreme_cache (s : State) (item : Nat) (v : Int) : (s.milestoneExtreme item v).cache = s.cache := (State.milestoneExtreme_frame s item v .cache rfl).symm
@[simp] theorem State.milestoneExtreme_fleet (s : State) (item : Nat) (v : Int) : (s.milestoneExtreme item v).fleet = s.fleet := (State.milestoneExtreme_frame s item v .fleet rfl).symm
@[simp] theorem State.milestoneExtreme_radio (s : State) (item : Nat) (v : Int) : (s.milestoneExtreme item v).radio = s.radio := (State.milestoneExtreme_frame s item v .radio rfl).symm
@[simp] theorem State.milestoneExtreme_crier (s : State) (item : Nat) (v : Int) : (s.milestoneExtreme item v).crier = s.crier := (State.milestoneExtreme_frame s item v .crier rfl).symm
@[simp] theorem State.milestoneExtreme_gate (s : State) (item : Nat) (v : Int) : (s.milestoneExtreme item v).gate = s.gate := (State.milestoneExtreme_frame s item v .gate rfl).symm
@[simp] theorem State.milestoneExtreme_tram (s : State) (item : Nat) (v : Int) : (s.milestoneExtreme item v).tram = s.tram := (State.milestoneExtreme_frame s item v .tram rfl).symm
@[simp] theorem State.milestoneExtreme_net (s : State) (item : Nat) (v : Int) : (s.milestoneExtreme item v).net = s.net := (State.milestoneExtreme_frame s item v .net rfl).symm
@[simp] theorem State.milestoneExtreme_meter (s : State) (item : Nat) (v : Int) : (s.milestoneExtreme item v).meter = s.meter := (State.milestoneExtreme_frame s item v .meter rfl).symm
@[simp] theorem State.milestoneExtreme_zheoc (s : State) (item : Nat) (v : Int) : (s.milestoneExtreme item v).zheoc = s.zheoc := (State.milestoneExtreme_frame s item v .zheoc rfl).symm
@[simp] theorem State.milestoneExtreme_store (s : State) (item : Nat) (v : Int) : (s.milestoneExtreme item v).store = s.store := (State.milestoneExtreme_frame s item v .store rfl).symm
@[simp] theorem State.milestoneExtreme_dict (s : State) (item : Nat) (v : Int) : (s.milestoneExtreme item v).dict = s.dict := (State.milestoneExtreme_frame s item v .dict rfl).symm
@[simp] theorem State.milestoneExtreme_bootDict (s : State) (item : Nat) (v : Int) : (s.milestoneExtreme item v).bootDict = s.bootDict := (State.milestoneExtreme_frame s item v .bootDict rfl).symm
@[simp] theorem State.milestoneExtreme_octets (s : State) (item : Nat) (v : Int) : (s.milestoneExtreme item v).octets = s.octets := (State.milestoneExtreme_frame s item v .octets rfl).symm
@[simp] theorem State.milestoneExtreme_periods (s : State) (item : Nat) (v : Int) : (s.milestoneExtreme item v).periods = s.periods := (State.milestoneExtreme_frame s item v .periods rfl).symm
@[simp] theorem State.milestoneExtreme_draws (s : State) (item : Nat) (v : Int) : (s.milestoneExtreme item v).draws = s.draws := (State.milestoneExtreme_frame s item v .draws rfl).symm
@[simp] theorem State.milestoneExtreme_pending (s : State) (item : Nat) (v : Int) : (s.milestoneExtreme item v).pending = s.pending := (State.milestoneExtreme_frame s item v .pending rfl).symm

theorem State.milestoneEntry_frame (s : State) (cls : Nat) : State.changesOnly [.milestone, .draws] s (s.milestoneEntry cls) := by
  unfold State.milestoneEntry
  exact changesOnly_ite ((s.updBank_frame _).within (by decide)) (((only_draws s _).seq (State.updBank_frame _ _)).within (by decide))

@[simp] theorem State.milestoneEntry_mode (s : State) (cls : Nat) : (s.milestoneEntry cls).mode = s.mode := (State.milestoneEntry_frame s cls .mode rfl).symm
@[simp] theorem State.milestoneEntry_boot (s : State) (cls : Nat) : (s.milestoneEntry cls).boot = s.boot := (State.milestoneEntry_frame s cls .boot rfl).symm
@[simp] theorem State.milestoneEntry_outputs (s : State) (cls : Nat) : (s.milestoneEntry cls).outputs = s.outputs := (State.milestoneEntry_frame s cls .outputs rfl).symm
@[simp] theorem State.milestoneEntry_power (s : State) (cls : Nat) : (s.milestoneEntry cls).power = s.power := (State.milestoneEntry_frame s cls .power rfl).symm
@[simp] theorem State.milestoneEntry_clk (s : State) (cls : Nat) : (s.milestoneEntry cls).clk = s.clk := (State.milestoneEntry_frame s cls .clk rfl).symm
@[simp] theorem State.milestoneEntry_roundabout (s : State) (cls : Nat) : (s.milestoneEntry cls).roundabout = s.roundabout := (State.milestoneEntry_frame s cls .roundabout rfl).symm
@[simp] theorem State.milestoneEntry_queues (s : State) (cls : Nat) : (s.milestoneEntry cls).queues = s.queues := (State.milestoneEntry_frame s cls .queues rfl).symm
@[simp] theorem State.milestoneEntry_host (s : State) (cls : Nat) : (s.milestoneEntry cls).host = s.host := (State.milestoneEntry_frame s cls .host rfl).symm
@[simp] theorem State.milestoneEntry_mbox (s : State) (cls : Nat) : (s.milestoneEntry cls).mbox = s.mbox := (State.milestoneEntry_frame s cls .mbox rfl).symm
@[simp] theorem State.milestoneEntry_sessions (s : State) (cls : Nat) : (s.milestoneEntry cls).sessions = s.sessions := (State.milestoneEntry_frame s cls .sessions rfl).symm
@[simp] theorem State.milestoneEntry_remotes (s : State) (cls : Nat) : (s.milestoneEntry cls).remotes = s.remotes := (State.milestoneEntry_frame s cls .remotes rfl).symm
@[simp] theorem State.milestoneEntry_gnss (s : State) (cls : Nat) : (s.milestoneEntry cls).gnss = s.gnss := (State.milestoneEntry_frame s cls .gnss rfl).symm
@[simp] theorem State.milestoneEntry_obs (s : State) (cls : Nat) : (s.milestoneEntry cls).obs = s.obs := (State.milestoneEntry_frame s cls .obs rfl).symm
@[simp] theorem State.milestoneEntry_baseRef (s : State) (cls : Nat) : (s.milestoneEntry cls).baseRef = s.baseRef := (State.milestoneEntry_frame s cls .baseRef rfl).symm
@[simp] theorem State.milestoneEntry_nav (s : State) (cls : Nat) : (s.milestoneEntry cls).nav = s.nav := (State.milestoneEntry_frame s cls .nav rfl).symm
@[simp] theorem State.milestoneEntry_blv (s : State) (cls : Nat) : (s.milestoneEntry cls).blv = s.blv := (State.milestoneEntry_frame s cls .blv rfl).symm
@[simp] theorem State.milestoneEntry_kerb (s : State) (cls : Nat) : (s.milestoneEntry cls).kerb = s.kerb := (State.milestoneEntry_frame s cls .kerb rfl).symm
@[simp] theorem State.milestoneEntry_cover (s : State) (cls : Nat) : (s.milestoneEntry cls).cover = s.cover := (State.milestoneEntry_frame s cls .cover rfl).symm
@[simp] theorem State.milestoneEntry_cache (s : State) (cls : Nat) : (s.milestoneEntry cls).cache = s.cache := (State.milestoneEntry_frame s cls .cache rfl).symm
@[simp] theorem State.milestoneEntry_fleet (s : State) (cls : Nat) : (s.milestoneEntry cls).fleet = s.fleet := (State.milestoneEntry_frame s cls .fleet rfl).symm
@[simp] theorem State.milestoneEntry_radio (s : State) (cls : Nat) : (s.milestoneEntry cls).radio = s.radio := (State.milestoneEntry_frame s cls .radio rfl).symm
@[simp] theorem State.milestoneEntry_crier (s : State) (cls : Nat) : (s.milestoneEntry cls).crier = s.crier := (State.milestoneEntry_frame s cls .crier rfl).symm
@[simp] theorem State.milestoneEntry_gate (s : State) (cls : Nat) : (s.milestoneEntry cls).gate = s.gate := (State.milestoneEntry_frame s cls .gate rfl).symm
@[simp] theorem State.milestoneEntry_tram (s : State) (cls : Nat) : (s.milestoneEntry cls).tram = s.tram := (State.milestoneEntry_frame s cls .tram rfl).symm
@[simp] theorem State.milestoneEntry_net (s : State) (cls : Nat) : (s.milestoneEntry cls).net = s.net := (State.milestoneEntry_frame s cls .net rfl).symm
@[simp] theorem State.milestoneEntry_meter (s : State) (cls : Nat) : (s.milestoneEntry cls).meter = s.meter := (State.milestoneEntry_frame s cls .meter rfl).symm
@[simp] theorem State.milestoneEntry_zheoc (s : State) (cls : Nat) : (s.milestoneEntry cls).zheoc = s.zheoc := (State.milestoneEntry_frame s cls .zheoc rfl).symm
@[simp] theorem State.milestoneEntry_store (s : State) (cls : Nat) : (s.milestoneEntry cls).store = s.store := (State.milestoneEntry_frame s cls .store rfl).symm
@[simp] theorem State.milestoneEntry_dict (s : State) (cls : Nat) : (s.milestoneEntry cls).dict = s.dict := (State.milestoneEntry_frame s cls .dict rfl).symm
@[simp] theorem State.milestoneEntry_bootDict (s : State) (cls : Nat) : (s.milestoneEntry cls).bootDict = s.bootDict := (State.milestoneEntry_frame s cls .bootDict rfl).symm
@[simp] theorem State.milestoneEntry_octets (s : State) (cls : Nat) : (s.milestoneEntry cls).octets = s.octets := (State.milestoneEntry_frame s cls .octets rfl).symm
@[simp] theorem State.milestoneEntry_periods (s : State) (cls : Nat) : (s.milestoneEntry cls).periods = s.periods := (State.milestoneEntry_frame s cls .periods rfl).symm
@[simp] theorem State.milestoneEntry_pending (s : State) (cls : Nat) : (s.milestoneEntry cls).pending = s.pending := (State.milestoneEntry_frame s cls .pending rfl).symm

theorem State.eraseOldest_frame (s : State) (p : Nat) : State.changesOnly [.store] s (s.eraseOldest p) := by
  unfold State.eraseOldest
  split
  · exact changesOnly_refl _ s
  · exact s.setBlock_frame _ _

@[simp] theorem State.eraseOldest_mode (s : State) (p : Nat) : (s.eraseOldest p).mode = s.mode := (State.eraseOldest_frame s p .mode rfl).symm
@[simp] theorem State.eraseOldest_boot (s : State) (p : Nat) : (s.eraseOldest p).boot = s.boot := (State.eraseOldest_frame s p .boot rfl).symm
@[simp] theorem State.eraseOldest_outputs (s : State) (p : Nat) : (s.eraseOldest p).outputs = s.outputs := (State.eraseOldest_frame s p .outputs rfl).symm
@[simp] theorem State.eraseOldest_power (s : State) (p : Nat) : (s.eraseOldest p).power = s.power := (State.eraseOldest_frame s p .power rfl).symm
@[simp] theorem State.eraseOldest_clk (s : State) (p : Nat) : (s.eraseOldest p).clk = s.clk := (State.eraseOldest_frame s p .clk rfl).symm
@[simp] theorem State.eraseOldest_roundabout (s : State) (p : Nat) : (s.eraseOldest p).roundabout = s.roundabout := (State.eraseOldest_frame s p .roundabout rfl).symm
@[simp] theorem State.eraseOldest_queues (s : State) (p : Nat) : (s.eraseOldest p).queues = s.queues := (State.eraseOldest_frame s p .queues rfl).symm
@[simp] theorem State.eraseOldest_host (s : State) (p : Nat) : (s.eraseOldest p).host = s.host := (State.eraseOldest_frame s p .host rfl).symm
@[simp] theorem State.eraseOldest_mbox (s : State) (p : Nat) : (s.eraseOldest p).mbox = s.mbox := (State.eraseOldest_frame s p .mbox rfl).symm
@[simp] theorem State.eraseOldest_sessions (s : State) (p : Nat) : (s.eraseOldest p).sessions = s.sessions := (State.eraseOldest_frame s p .sessions rfl).symm
@[simp] theorem State.eraseOldest_remotes (s : State) (p : Nat) : (s.eraseOldest p).remotes = s.remotes := (State.eraseOldest_frame s p .remotes rfl).symm
@[simp] theorem State.eraseOldest_gnss (s : State) (p : Nat) : (s.eraseOldest p).gnss = s.gnss := (State.eraseOldest_frame s p .gnss rfl).symm
@[simp] theorem State.eraseOldest_obs (s : State) (p : Nat) : (s.eraseOldest p).obs = s.obs := (State.eraseOldest_frame s p .obs rfl).symm
@[simp] theorem State.eraseOldest_baseRef (s : State) (p : Nat) : (s.eraseOldest p).baseRef = s.baseRef := (State.eraseOldest_frame s p .baseRef rfl).symm
@[simp] theorem State.eraseOldest_nav (s : State) (p : Nat) : (s.eraseOldest p).nav = s.nav := (State.eraseOldest_frame s p .nav rfl).symm
@[simp] theorem State.eraseOldest_blv (s : State) (p : Nat) : (s.eraseOldest p).blv = s.blv := (State.eraseOldest_frame s p .blv rfl).symm
@[simp] theorem State.eraseOldest_kerb (s : State) (p : Nat) : (s.eraseOldest p).kerb = s.kerb := (State.eraseOldest_frame s p .kerb rfl).symm
@[simp] theorem State.eraseOldest_cover (s : State) (p : Nat) : (s.eraseOldest p).cover = s.cover := (State.eraseOldest_frame s p .cover rfl).symm
@[simp] theorem State.eraseOldest_cache (s : State) (p : Nat) : (s.eraseOldest p).cache = s.cache := (State.eraseOldest_frame s p .cache rfl).symm
@[simp] theorem State.eraseOldest_fleet (s : State) (p : Nat) : (s.eraseOldest p).fleet = s.fleet := (State.eraseOldest_frame s p .fleet rfl).symm
@[simp] theorem State.eraseOldest_radio (s : State) (p : Nat) : (s.eraseOldest p).radio = s.radio := (State.eraseOldest_frame s p .radio rfl).symm
@[simp] theorem State.eraseOldest_crier (s : State) (p : Nat) : (s.eraseOldest p).crier = s.crier := (State.eraseOldest_frame s p .crier rfl).symm
@[simp] theorem State.eraseOldest_gate (s : State) (p : Nat) : (s.eraseOldest p).gate = s.gate := (State.eraseOldest_frame s p .gate rfl).symm
@[simp] theorem State.eraseOldest_tram (s : State) (p : Nat) : (s.eraseOldest p).tram = s.tram := (State.eraseOldest_frame s p .tram rfl).symm
@[simp] theorem State.eraseOldest_net (s : State) (p : Nat) : (s.eraseOldest p).net = s.net := (State.eraseOldest_frame s p .net rfl).symm
@[simp] theorem State.eraseOldest_meter (s : State) (p : Nat) : (s.eraseOldest p).meter = s.meter := (State.eraseOldest_frame s p .meter rfl).symm
@[simp] theorem State.eraseOldest_zheoc (s : State) (p : Nat) : (s.eraseOldest p).zheoc = s.zheoc := (State.eraseOldest_frame s p .zheoc rfl).symm
@[simp] theorem State.eraseOldest_milestone (s : State) (p : Nat) : (s.eraseOldest p).milestone = s.milestone := (State.eraseOldest_frame s p .milestone rfl).symm
@[simp] theorem State.eraseOldest_dict (s : State) (p : Nat) : (s.eraseOldest p).dict = s.dict := (State.eraseOldest_frame s p .dict rfl).symm
@[simp] theorem State.eraseOldest_bootDict (s : State) (p : Nat) : (s.eraseOldest p).bootDict = s.bootDict := (State.eraseOldest_frame s p .bootDict rfl).symm
@[simp] theorem State.eraseOldest_octets (s : State) (p : Nat) : (s.eraseOldest p).octets = s.octets := (State.eraseOldest_frame s p .octets rfl).symm
@[simp] theorem State.eraseOldest_periods (s : State) (p : Nat) : (s.eraseOldest p).periods = s.periods := (State.eraseOldest_frame s p .periods rfl).symm
@[simp] theorem State.eraseOldest_draws (s : State) (p : Nat) : (s.eraseOldest p).draws = s.draws := (State.eraseOldest_frame s p .draws rfl).symm
@[simp] theorem State.eraseOldest_pending (s : State) (p : Nat) : (s.eraseOldest p).pending = s.pending := (State.eraseOldest_frame s p .pending rfl).symm

theorem State.takeBlock_frame (s : State) (p : Nat) : State.changesOnly [.store] s (s.takeBlock p) := by
  unfold State.takeBlock
  split
  · exact changesOnly_refl _ _
  · split
    · exact changesOnly_refl _ _
    · exact State.setBlock_frame _ _ _

@[simp] theorem State.takeBlock_mode (s : State) (p : Nat) : (s.takeBlock p).mode = s.mode := (State.takeBlock_frame s p .mode rfl).symm
@[simp] theorem State.takeBlock_boot (s : State) (p : Nat) : (s.takeBlock p).boot = s.boot := (State.takeBlock_frame s p .boot rfl).symm
@[simp] theorem State.takeBlock_outputs (s : State) (p : Nat) : (s.takeBlock p).outputs = s.outputs := (State.takeBlock_frame s p .outputs rfl).symm
@[simp] theorem State.takeBlock_power (s : State) (p : Nat) : (s.takeBlock p).power = s.power := (State.takeBlock_frame s p .power rfl).symm
@[simp] theorem State.takeBlock_clk (s : State) (p : Nat) : (s.takeBlock p).clk = s.clk := (State.takeBlock_frame s p .clk rfl).symm
@[simp] theorem State.takeBlock_roundabout (s : State) (p : Nat) : (s.takeBlock p).roundabout = s.roundabout := (State.takeBlock_frame s p .roundabout rfl).symm
@[simp] theorem State.takeBlock_queues (s : State) (p : Nat) : (s.takeBlock p).queues = s.queues := (State.takeBlock_frame s p .queues rfl).symm
@[simp] theorem State.takeBlock_host (s : State) (p : Nat) : (s.takeBlock p).host = s.host := (State.takeBlock_frame s p .host rfl).symm
@[simp] theorem State.takeBlock_mbox (s : State) (p : Nat) : (s.takeBlock p).mbox = s.mbox := (State.takeBlock_frame s p .mbox rfl).symm
@[simp] theorem State.takeBlock_sessions (s : State) (p : Nat) : (s.takeBlock p).sessions = s.sessions := (State.takeBlock_frame s p .sessions rfl).symm
@[simp] theorem State.takeBlock_remotes (s : State) (p : Nat) : (s.takeBlock p).remotes = s.remotes := (State.takeBlock_frame s p .remotes rfl).symm
@[simp] theorem State.takeBlock_gnss (s : State) (p : Nat) : (s.takeBlock p).gnss = s.gnss := (State.takeBlock_frame s p .gnss rfl).symm
@[simp] theorem State.takeBlock_obs (s : State) (p : Nat) : (s.takeBlock p).obs = s.obs := (State.takeBlock_frame s p .obs rfl).symm
@[simp] theorem State.takeBlock_baseRef (s : State) (p : Nat) : (s.takeBlock p).baseRef = s.baseRef := (State.takeBlock_frame s p .baseRef rfl).symm
@[simp] theorem State.takeBlock_nav (s : State) (p : Nat) : (s.takeBlock p).nav = s.nav := (State.takeBlock_frame s p .nav rfl).symm
@[simp] theorem State.takeBlock_blv (s : State) (p : Nat) : (s.takeBlock p).blv = s.blv := (State.takeBlock_frame s p .blv rfl).symm
@[simp] theorem State.takeBlock_kerb (s : State) (p : Nat) : (s.takeBlock p).kerb = s.kerb := (State.takeBlock_frame s p .kerb rfl).symm
@[simp] theorem State.takeBlock_cover (s : State) (p : Nat) : (s.takeBlock p).cover = s.cover := (State.takeBlock_frame s p .cover rfl).symm
@[simp] theorem State.takeBlock_cache (s : State) (p : Nat) : (s.takeBlock p).cache = s.cache := (State.takeBlock_frame s p .cache rfl).symm
@[simp] theorem State.takeBlock_fleet (s : State) (p : Nat) : (s.takeBlock p).fleet = s.fleet := (State.takeBlock_frame s p .fleet rfl).symm
@[simp] theorem State.takeBlock_radio (s : State) (p : Nat) : (s.takeBlock p).radio = s.radio := (State.takeBlock_frame s p .radio rfl).symm
@[simp] theorem State.takeBlock_crier (s : State) (p : Nat) : (s.takeBlock p).crier = s.crier := (State.takeBlock_frame s p .crier rfl).symm
@[simp] theorem State.takeBlock_gate (s : State) (p : Nat) : (s.takeBlock p).gate = s.gate := (State.takeBlock_frame s p .gate rfl).symm
@[simp] theorem State.takeBlock_tram (s : State) (p : Nat) : (s.takeBlock p).tram = s.tram := (State.takeBlock_frame s p .tram rfl).symm
@[simp] theorem State.takeBlock_net (s : State) (p : Nat) : (s.takeBlock p).net = s.net := (State.takeBlock_frame s p .net rfl).symm
@[simp] theorem State.takeBlock_meter (s : State) (p : Nat) : (s.takeBlock p).meter = s.meter := (State.takeBlock_frame s p .meter rfl).symm
@[simp] theorem State.takeBlock_zheoc (s : State) (p : Nat) : (s.takeBlock p).zheoc = s.zheoc := (State.takeBlock_frame s p .zheoc rfl).symm
@[simp] theorem State.takeBlock_milestone (s : State) (p : Nat) : (s.takeBlock p).milestone = s.milestone := (State.takeBlock_frame s p .milestone rfl).symm
@[simp] theorem State.takeBlock_dict (s : State) (p : Nat) : (s.takeBlock p).dict = s.dict := (State.takeBlock_frame s p .dict rfl).symm
@[simp] theorem State.takeBlock_bootDict (s : State) (p : Nat) : (s.takeBlock p).bootDict = s.bootDict := (State.takeBlock_frame s p .bootDict rfl).symm
@[simp] theorem State.takeBlock_octets (s : State) (p : Nat) : (s.takeBlock p).octets = s.octets := (State.takeBlock_frame s p .octets rfl).symm
@[simp] theorem State.takeBlock_periods (s : State) (p : Nat) : (s.takeBlock p).periods = s.periods := (State.takeBlock_frame s p .periods rfl).symm
@[simp] theorem State.takeBlock_draws (s : State) (p : Nat) : (s.takeBlock p).draws = s.draws := (State.takeBlock_frame s p .draws rfl).symm
@[simp] theorem State.takeBlock_pending (s : State) (p : Nat) : (s.takeBlock p).pending = s.pending := (State.takeBlock_frame s p .pending rfl).symm

theorem State.openBlock_frame (s : State) (p : Nat) : State.changesOnly [.store] s (s.openBlock p) :=
  ((changesOnly_ite (s.eraseOldest_frame p) (changesOnly_refl _ s)).seq (State.takeBlock_frame _ p)).within (by decide)

@[simp] theorem State.openBlock_mode (s : State) (p : Nat) : (s.openBlock p).mode = s.mode := (State.openBlock_frame s p .mode rfl).symm
@[simp] theorem State.openBlock_boot (s : State) (p : Nat) : (s.openBlock p).boot = s.boot := (State.openBlock_frame s p .boot rfl).symm
@[simp] theorem State.openBlock_outputs (s : State) (p : Nat) : (s.openBlock p).outputs = s.outputs := (State.openBlock_frame s p .outputs rfl).symm
@[simp] theorem State.openBlock_power (s : State) (p : Nat) : (s.openBlock p).power = s.power := (State.openBlock_frame s p .power rfl).symm
@[simp] theorem State.openBlock_clk (s : State) (p : Nat) : (s.openBlock p).clk = s.clk := (State.openBlock_frame s p .clk rfl).symm
@[simp] theorem State.openBlock_roundabout (s : State) (p : Nat) : (s.openBlock p).roundabout = s.roundabout := (State.openBlock_frame s p .roundabout rfl).symm
@[simp] theorem State.openBlock_queues (s : State) (p : Nat) : (s.openBlock p).queues = s.queues := (State.openBlock_frame s p .queues rfl).symm
@[simp] theorem State.openBlock_host (s : State) (p : Nat) : (s.openBlock p).host = s.host := (State.openBlock_frame s p .host rfl).symm
@[simp] theorem State.openBlock_mbox (s : State) (p : Nat) : (s.openBlock p).mbox = s.mbox := (State.openBlock_frame s p .mbox rfl).symm
@[simp] theorem State.openBlock_sessions (s : State) (p : Nat) : (s.openBlock p).sessions = s.sessions := (State.openBlock_frame s p .sessions rfl).symm
@[simp] theorem State.openBlock_remotes (s : State) (p : Nat) : (s.openBlock p).remotes = s.remotes := (State.openBlock_frame s p .remotes rfl).symm
@[simp] theorem State.openBlock_gnss (s : State) (p : Nat) : (s.openBlock p).gnss = s.gnss := (State.openBlock_frame s p .gnss rfl).symm
@[simp] theorem State.openBlock_obs (s : State) (p : Nat) : (s.openBlock p).obs = s.obs := (State.openBlock_frame s p .obs rfl).symm
@[simp] theorem State.openBlock_baseRef (s : State) (p : Nat) : (s.openBlock p).baseRef = s.baseRef := (State.openBlock_frame s p .baseRef rfl).symm
@[simp] theorem State.openBlock_nav (s : State) (p : Nat) : (s.openBlock p).nav = s.nav := (State.openBlock_frame s p .nav rfl).symm
@[simp] theorem State.openBlock_blv (s : State) (p : Nat) : (s.openBlock p).blv = s.blv := (State.openBlock_frame s p .blv rfl).symm
@[simp] theorem State.openBlock_kerb (s : State) (p : Nat) : (s.openBlock p).kerb = s.kerb := (State.openBlock_frame s p .kerb rfl).symm
@[simp] theorem State.openBlock_cover (s : State) (p : Nat) : (s.openBlock p).cover = s.cover := (State.openBlock_frame s p .cover rfl).symm
@[simp] theorem State.openBlock_cache (s : State) (p : Nat) : (s.openBlock p).cache = s.cache := (State.openBlock_frame s p .cache rfl).symm
@[simp] theorem State.openBlock_fleet (s : State) (p : Nat) : (s.openBlock p).fleet = s.fleet := (State.openBlock_frame s p .fleet rfl).symm
@[simp] theorem State.openBlock_radio (s : State) (p : Nat) : (s.openBlock p).radio = s.radio := (State.openBlock_frame s p .radio rfl).symm
@[simp] theorem State.openBlock_crier (s : State) (p : Nat) : (s.openBlock p).crier = s.crier := (State.openBlock_frame s p .crier rfl).symm
@[simp] theorem State.openBlock_gate (s : State) (p : Nat) : (s.openBlock p).gate = s.gate := (State.openBlock_frame s p .gate rfl).symm
@[simp] theorem State.openBlock_tram (s : State) (p : Nat) : (s.openBlock p).tram = s.tram := (State.openBlock_frame s p .tram rfl).symm
@[simp] theorem State.openBlock_net (s : State) (p : Nat) : (s.openBlock p).net = s.net := (State.openBlock_frame s p .net rfl).symm
@[simp] theorem State.openBlock_meter (s : State) (p : Nat) : (s.openBlock p).meter = s.meter := (State.openBlock_frame s p .meter rfl).symm
@[simp] theorem State.openBlock_zheoc (s : State) (p : Nat) : (s.openBlock p).zheoc = s.zheoc := (State.openBlock_frame s p .zheoc rfl).symm
@[simp] theorem State.openBlock_milestone (s : State) (p : Nat) : (s.openBlock p).milestone = s.milestone := (State.openBlock_frame s p .milestone rfl).symm
@[simp] theorem State.openBlock_dict (s : State) (p : Nat) : (s.openBlock p).dict = s.dict := (State.openBlock_frame s p .dict rfl).symm
@[simp] theorem State.openBlock_bootDict (s : State) (p : Nat) : (s.openBlock p).bootDict = s.bootDict := (State.openBlock_frame s p .bootDict rfl).symm
@[simp] theorem State.openBlock_octets (s : State) (p : Nat) : (s.openBlock p).octets = s.octets := (State.openBlock_frame s p .octets rfl).symm
@[simp] theorem State.openBlock_periods (s : State) (p : Nat) : (s.openBlock p).periods = s.periods := (State.openBlock_frame s p .periods rfl).symm
@[simp] theorem State.openBlock_draws (s : State) (p : Nat) : (s.openBlock p).draws = s.draws := (State.openBlock_frame s p .draws rfl).symm
@[simp] theorem State.openBlock_pending (s : State) (p : Nat) : (s.openBlock p).pending = s.pending := (State.openBlock_frame s p .pending rfl).symm

theorem State.nandWrite_frame (s : State) (p n live : Nat) : State.changesOnly [.store] s (s.nandWrite p n live) := by
  unfold State.nandWrite
  refine changesOnly_ite (changesOnly_refl _ s) ?_
  have go : ∀ (f : State → State), (∀ t, State.changesOnly [.store] t (f t)) → ∀ k t, State.changesOnly [.store] t (repeatState k f t) := by
    intro f hf k
    induction k with
    | zero => exact fun t => changesOnly_refl _ t
    | succ k ih => exact fun t => ((hf t).seq (ih _)).within (by decide)
  exact (((go _ (fun t => t.openBlock_frame p) _ s).seq (go _ (fun t => t.eraseOldest_frame p) _ _)).seq (State.updStore_frame _ _)).within (by decide)

@[simp] theorem State.nandWrite_mode (s : State) (p n live : Nat) : (s.nandWrite p n live).mode = s.mode := (State.nandWrite_frame s p n live .mode rfl).symm
@[simp] theorem State.nandWrite_boot (s : State) (p n live : Nat) : (s.nandWrite p n live).boot = s.boot := (State.nandWrite_frame s p n live .boot rfl).symm
@[simp] theorem State.nandWrite_outputs (s : State) (p n live : Nat) : (s.nandWrite p n live).outputs = s.outputs := (State.nandWrite_frame s p n live .outputs rfl).symm
@[simp] theorem State.nandWrite_power (s : State) (p n live : Nat) : (s.nandWrite p n live).power = s.power := (State.nandWrite_frame s p n live .power rfl).symm
@[simp] theorem State.nandWrite_clk (s : State) (p n live : Nat) : (s.nandWrite p n live).clk = s.clk := (State.nandWrite_frame s p n live .clk rfl).symm
@[simp] theorem State.nandWrite_roundabout (s : State) (p n live : Nat) : (s.nandWrite p n live).roundabout = s.roundabout := (State.nandWrite_frame s p n live .roundabout rfl).symm
@[simp] theorem State.nandWrite_queues (s : State) (p n live : Nat) : (s.nandWrite p n live).queues = s.queues := (State.nandWrite_frame s p n live .queues rfl).symm
@[simp] theorem State.nandWrite_host (s : State) (p n live : Nat) : (s.nandWrite p n live).host = s.host := (State.nandWrite_frame s p n live .host rfl).symm
@[simp] theorem State.nandWrite_mbox (s : State) (p n live : Nat) : (s.nandWrite p n live).mbox = s.mbox := (State.nandWrite_frame s p n live .mbox rfl).symm
@[simp] theorem State.nandWrite_sessions (s : State) (p n live : Nat) : (s.nandWrite p n live).sessions = s.sessions := (State.nandWrite_frame s p n live .sessions rfl).symm
@[simp] theorem State.nandWrite_remotes (s : State) (p n live : Nat) : (s.nandWrite p n live).remotes = s.remotes := (State.nandWrite_frame s p n live .remotes rfl).symm
@[simp] theorem State.nandWrite_gnss (s : State) (p n live : Nat) : (s.nandWrite p n live).gnss = s.gnss := (State.nandWrite_frame s p n live .gnss rfl).symm
@[simp] theorem State.nandWrite_obs (s : State) (p n live : Nat) : (s.nandWrite p n live).obs = s.obs := (State.nandWrite_frame s p n live .obs rfl).symm
@[simp] theorem State.nandWrite_baseRef (s : State) (p n live : Nat) : (s.nandWrite p n live).baseRef = s.baseRef := (State.nandWrite_frame s p n live .baseRef rfl).symm
@[simp] theorem State.nandWrite_nav (s : State) (p n live : Nat) : (s.nandWrite p n live).nav = s.nav := (State.nandWrite_frame s p n live .nav rfl).symm
@[simp] theorem State.nandWrite_blv (s : State) (p n live : Nat) : (s.nandWrite p n live).blv = s.blv := (State.nandWrite_frame s p n live .blv rfl).symm
@[simp] theorem State.nandWrite_kerb (s : State) (p n live : Nat) : (s.nandWrite p n live).kerb = s.kerb := (State.nandWrite_frame s p n live .kerb rfl).symm
@[simp] theorem State.nandWrite_cover (s : State) (p n live : Nat) : (s.nandWrite p n live).cover = s.cover := (State.nandWrite_frame s p n live .cover rfl).symm
@[simp] theorem State.nandWrite_cache (s : State) (p n live : Nat) : (s.nandWrite p n live).cache = s.cache := (State.nandWrite_frame s p n live .cache rfl).symm
@[simp] theorem State.nandWrite_fleet (s : State) (p n live : Nat) : (s.nandWrite p n live).fleet = s.fleet := (State.nandWrite_frame s p n live .fleet rfl).symm
@[simp] theorem State.nandWrite_radio (s : State) (p n live : Nat) : (s.nandWrite p n live).radio = s.radio := (State.nandWrite_frame s p n live .radio rfl).symm
@[simp] theorem State.nandWrite_crier (s : State) (p n live : Nat) : (s.nandWrite p n live).crier = s.crier := (State.nandWrite_frame s p n live .crier rfl).symm
@[simp] theorem State.nandWrite_gate (s : State) (p n live : Nat) : (s.nandWrite p n live).gate = s.gate := (State.nandWrite_frame s p n live .gate rfl).symm
@[simp] theorem State.nandWrite_tram (s : State) (p n live : Nat) : (s.nandWrite p n live).tram = s.tram := (State.nandWrite_frame s p n live .tram rfl).symm
@[simp] theorem State.nandWrite_net (s : State) (p n live : Nat) : (s.nandWrite p n live).net = s.net := (State.nandWrite_frame s p n live .net rfl).symm
@[simp] theorem State.nandWrite_meter (s : State) (p n live : Nat) : (s.nandWrite p n live).meter = s.meter := (State.nandWrite_frame s p n live .meter rfl).symm
@[simp] theorem State.nandWrite_zheoc (s : State) (p n live : Nat) : (s.nandWrite p n live).zheoc = s.zheoc := (State.nandWrite_frame s p n live .zheoc rfl).symm
@[simp] theorem State.nandWrite_milestone (s : State) (p n live : Nat) : (s.nandWrite p n live).milestone = s.milestone := (State.nandWrite_frame s p n live .milestone rfl).symm
@[simp] theorem State.nandWrite_dict (s : State) (p n live : Nat) : (s.nandWrite p n live).dict = s.dict := (State.nandWrite_frame s p n live .dict rfl).symm
@[simp] theorem State.nandWrite_bootDict (s : State) (p n live : Nat) : (s.nandWrite p n live).bootDict = s.bootDict := (State.nandWrite_frame s p n live .bootDict rfl).symm
@[simp] theorem State.nandWrite_octets (s : State) (p n live : Nat) : (s.nandWrite p n live).octets = s.octets := (State.nandWrite_frame s p n live .octets rfl).symm
@[simp] theorem State.nandWrite_periods (s : State) (p n live : Nat) : (s.nandWrite p n live).periods = s.periods := (State.nandWrite_frame s p n live .periods rfl).symm
@[simp] theorem State.nandWrite_draws (s : State) (p n live : Nat) : (s.nandWrite p n live).draws = s.draws := (State.nandWrite_frame s p n live .draws rfl).symm
@[simp] theorem State.nandWrite_pending (s : State) (p n live : Nat) : (s.nandWrite p n live).pending = s.pending := (State.nandWrite_frame s p n live .pending rfl).symm

theorem State.noteSpill_frame (s : State) (sp : List JEntry) : State.changesOnly [.store, .dict, .milestone, .draws] s (s.noteSpill sp) := by
  refine ((s.addRegAt_frame Obj.journalSpilled 0 sp.length).seq (qs := [.store, .milestone, .draws]) ?_).within (by decide)
  exact changesOnly_ite (changesOnly_refl _ _) ((State.nandWrite_frame _ _ _ _).seq (State.milestoneEntry_frame _ _))

@[simp] theorem State.noteSpill_mode (s : State) (sp : List JEntry) : (s.noteSpill sp).mode = s.mode := (State.noteSpill_frame s sp .mode rfl).symm
@[simp] theorem State.noteSpill_boot (s : State) (sp : List JEntry) : (s.noteSpill sp).boot = s.boot := (State.noteSpill_frame s sp .boot rfl).symm
@[simp] theorem State.noteSpill_outputs (s : State) (sp : List JEntry) : (s.noteSpill sp).outputs = s.outputs := (State.noteSpill_frame s sp .outputs rfl).symm
@[simp] theorem State.noteSpill_power (s : State) (sp : List JEntry) : (s.noteSpill sp).power = s.power := (State.noteSpill_frame s sp .power rfl).symm
@[simp] theorem State.noteSpill_clk (s : State) (sp : List JEntry) : (s.noteSpill sp).clk = s.clk := (State.noteSpill_frame s sp .clk rfl).symm
@[simp] theorem State.noteSpill_roundabout (s : State) (sp : List JEntry) : (s.noteSpill sp).roundabout = s.roundabout := (State.noteSpill_frame s sp .roundabout rfl).symm
@[simp] theorem State.noteSpill_queues (s : State) (sp : List JEntry) : (s.noteSpill sp).queues = s.queues := (State.noteSpill_frame s sp .queues rfl).symm
@[simp] theorem State.noteSpill_host (s : State) (sp : List JEntry) : (s.noteSpill sp).host = s.host := (State.noteSpill_frame s sp .host rfl).symm
@[simp] theorem State.noteSpill_mbox (s : State) (sp : List JEntry) : (s.noteSpill sp).mbox = s.mbox := (State.noteSpill_frame s sp .mbox rfl).symm
@[simp] theorem State.noteSpill_sessions (s : State) (sp : List JEntry) : (s.noteSpill sp).sessions = s.sessions := (State.noteSpill_frame s sp .sessions rfl).symm
@[simp] theorem State.noteSpill_remotes (s : State) (sp : List JEntry) : (s.noteSpill sp).remotes = s.remotes := (State.noteSpill_frame s sp .remotes rfl).symm
@[simp] theorem State.noteSpill_gnss (s : State) (sp : List JEntry) : (s.noteSpill sp).gnss = s.gnss := (State.noteSpill_frame s sp .gnss rfl).symm
@[simp] theorem State.noteSpill_obs (s : State) (sp : List JEntry) : (s.noteSpill sp).obs = s.obs := (State.noteSpill_frame s sp .obs rfl).symm
@[simp] theorem State.noteSpill_baseRef (s : State) (sp : List JEntry) : (s.noteSpill sp).baseRef = s.baseRef := (State.noteSpill_frame s sp .baseRef rfl).symm
@[simp] theorem State.noteSpill_nav (s : State) (sp : List JEntry) : (s.noteSpill sp).nav = s.nav := (State.noteSpill_frame s sp .nav rfl).symm
@[simp] theorem State.noteSpill_blv (s : State) (sp : List JEntry) : (s.noteSpill sp).blv = s.blv := (State.noteSpill_frame s sp .blv rfl).symm
@[simp] theorem State.noteSpill_kerb (s : State) (sp : List JEntry) : (s.noteSpill sp).kerb = s.kerb := (State.noteSpill_frame s sp .kerb rfl).symm
@[simp] theorem State.noteSpill_cover (s : State) (sp : List JEntry) : (s.noteSpill sp).cover = s.cover := (State.noteSpill_frame s sp .cover rfl).symm
@[simp] theorem State.noteSpill_cache (s : State) (sp : List JEntry) : (s.noteSpill sp).cache = s.cache := (State.noteSpill_frame s sp .cache rfl).symm
@[simp] theorem State.noteSpill_fleet (s : State) (sp : List JEntry) : (s.noteSpill sp).fleet = s.fleet := (State.noteSpill_frame s sp .fleet rfl).symm
@[simp] theorem State.noteSpill_radio (s : State) (sp : List JEntry) : (s.noteSpill sp).radio = s.radio := (State.noteSpill_frame s sp .radio rfl).symm
@[simp] theorem State.noteSpill_crier (s : State) (sp : List JEntry) : (s.noteSpill sp).crier = s.crier := (State.noteSpill_frame s sp .crier rfl).symm
@[simp] theorem State.noteSpill_gate (s : State) (sp : List JEntry) : (s.noteSpill sp).gate = s.gate := (State.noteSpill_frame s sp .gate rfl).symm
@[simp] theorem State.noteSpill_tram (s : State) (sp : List JEntry) : (s.noteSpill sp).tram = s.tram := (State.noteSpill_frame s sp .tram rfl).symm
@[simp] theorem State.noteSpill_net (s : State) (sp : List JEntry) : (s.noteSpill sp).net = s.net := (State.noteSpill_frame s sp .net rfl).symm
@[simp] theorem State.noteSpill_meter (s : State) (sp : List JEntry) : (s.noteSpill sp).meter = s.meter := (State.noteSpill_frame s sp .meter rfl).symm
@[simp] theorem State.noteSpill_zheoc (s : State) (sp : List JEntry) : (s.noteSpill sp).zheoc = s.zheoc := (State.noteSpill_frame s sp .zheoc rfl).symm
@[simp] theorem State.noteSpill_bootDict (s : State) (sp : List JEntry) : (s.noteSpill sp).bootDict = s.bootDict := (State.noteSpill_frame s sp .bootDict rfl).symm
@[simp] theorem State.noteSpill_octets (s : State) (sp : List JEntry) : (s.noteSpill sp).octets = s.octets := (State.noteSpill_frame s sp .octets rfl).symm
@[simp] theorem State.noteSpill_periods (s : State) (sp : List JEntry) : (s.noteSpill sp).periods = s.periods := (State.noteSpill_frame s sp .periods rfl).symm
@[simp] theorem State.noteSpill_pending (s : State) (sp : List JEntry) : (s.noteSpill sp).pending = s.pending := (State.noteSpill_frame s sp .pending rfl).symm

theorem State.journal_frame (s : State) (d : JData) : State.changesOnly [.store, .dict, .milestone, .draws] s (s.journal d) :=
  changesOnly_ite (changesOnly_refl _ s) (((only_store s _).seq (State.noteSpill_frame _ _)).within (by decide))

@[simp] theorem State.journal_mode (s : State) (d : JData) : (s.journal d).mode = s.mode := (State.journal_frame s d .mode rfl).symm
@[simp] theorem State.journal_boot (s : State) (d : JData) : (s.journal d).boot = s.boot := (State.journal_frame s d .boot rfl).symm
@[simp] theorem State.journal_outputs (s : State) (d : JData) : (s.journal d).outputs = s.outputs := (State.journal_frame s d .outputs rfl).symm
@[simp] theorem State.journal_power (s : State) (d : JData) : (s.journal d).power = s.power := (State.journal_frame s d .power rfl).symm
@[simp] theorem State.journal_clk (s : State) (d : JData) : (s.journal d).clk = s.clk := (State.journal_frame s d .clk rfl).symm
@[simp] theorem State.journal_roundabout (s : State) (d : JData) : (s.journal d).roundabout = s.roundabout := (State.journal_frame s d .roundabout rfl).symm
@[simp] theorem State.journal_queues (s : State) (d : JData) : (s.journal d).queues = s.queues := (State.journal_frame s d .queues rfl).symm
@[simp] theorem State.journal_host (s : State) (d : JData) : (s.journal d).host = s.host := (State.journal_frame s d .host rfl).symm
@[simp] theorem State.journal_mbox (s : State) (d : JData) : (s.journal d).mbox = s.mbox := (State.journal_frame s d .mbox rfl).symm
@[simp] theorem State.journal_sessions (s : State) (d : JData) : (s.journal d).sessions = s.sessions := (State.journal_frame s d .sessions rfl).symm
@[simp] theorem State.journal_remotes (s : State) (d : JData) : (s.journal d).remotes = s.remotes := (State.journal_frame s d .remotes rfl).symm
@[simp] theorem State.journal_gnss (s : State) (d : JData) : (s.journal d).gnss = s.gnss := (State.journal_frame s d .gnss rfl).symm
@[simp] theorem State.journal_obs (s : State) (d : JData) : (s.journal d).obs = s.obs := (State.journal_frame s d .obs rfl).symm
@[simp] theorem State.journal_baseRef (s : State) (d : JData) : (s.journal d).baseRef = s.baseRef := (State.journal_frame s d .baseRef rfl).symm
@[simp] theorem State.journal_nav (s : State) (d : JData) : (s.journal d).nav = s.nav := (State.journal_frame s d .nav rfl).symm
@[simp] theorem State.journal_blv (s : State) (d : JData) : (s.journal d).blv = s.blv := (State.journal_frame s d .blv rfl).symm
@[simp] theorem State.journal_kerb (s : State) (d : JData) : (s.journal d).kerb = s.kerb := (State.journal_frame s d .kerb rfl).symm
@[simp] theorem State.journal_cover (s : State) (d : JData) : (s.journal d).cover = s.cover := (State.journal_frame s d .cover rfl).symm
@[simp] theorem State.journal_cache (s : State) (d : JData) : (s.journal d).cache = s.cache := (State.journal_frame s d .cache rfl).symm
@[simp] theorem State.journal_fleet (s : State) (d : JData) : (s.journal d).fleet = s.fleet := (State.journal_frame s d .fleet rfl).symm
@[simp] theorem State.journal_radio (s : State) (d : JData) : (s.journal d).radio = s.radio := (State.journal_frame s d .radio rfl).symm
@[simp] theorem State.journal_crier (s : State) (d : JData) : (s.journal d).crier = s.crier := (State.journal_frame s d .crier rfl).symm
@[simp] theorem State.journal_gate (s : State) (d : JData) : (s.journal d).gate = s.gate := (State.journal_frame s d .gate rfl).symm
@[simp] theorem State.journal_tram (s : State) (d : JData) : (s.journal d).tram = s.tram := (State.journal_frame s d .tram rfl).symm
@[simp] theorem State.journal_net (s : State) (d : JData) : (s.journal d).net = s.net := (State.journal_frame s d .net rfl).symm
@[simp] theorem State.journal_meter (s : State) (d : JData) : (s.journal d).meter = s.meter := (State.journal_frame s d .meter rfl).symm
@[simp] theorem State.journal_zheoc (s : State) (d : JData) : (s.journal d).zheoc = s.zheoc := (State.journal_frame s d .zheoc rfl).symm
@[simp] theorem State.journal_bootDict (s : State) (d : JData) : (s.journal d).bootDict = s.bootDict := (State.journal_frame s d .bootDict rfl).symm
@[simp] theorem State.journal_octets (s : State) (d : JData) : (s.journal d).octets = s.octets := (State.journal_frame s d .octets rfl).symm
@[simp] theorem State.journal_periods (s : State) (d : JData) : (s.journal d).periods = s.periods := (State.journal_frame s d .periods rfl).symm
@[simp] theorem State.journal_pending (s : State) (d : JData) : (s.journal d).pending = s.pending := (State.journal_frame s d .pending rfl).symm

theorem State.storeNum_frame (s : State) (o : ObjDesc) (i : Nat) (v : Int) : State.changesOnly [.store, .dict, .milestone, .draws] s (s.storeNum o i v) :=
  ((s.setRegAt_frame o i v).seq (State.journal_frame _ _)).within (by decide)

@[simp] theorem State.storeNum_mode (s : State) (o : ObjDesc) (i : Nat) (v : Int) : (s.storeNum o i v).mode = s.mode := (State.storeNum_frame s o i v .mode rfl).symm
@[simp] theorem State.storeNum_boot (s : State) (o : ObjDesc) (i : Nat) (v : Int) : (s.storeNum o i v).boot = s.boot := (State.storeNum_frame s o i v .boot rfl).symm
@[simp] theorem State.storeNum_outputs (s : State) (o : ObjDesc) (i : Nat) (v : Int) : (s.storeNum o i v).outputs = s.outputs := (State.storeNum_frame s o i v .outputs rfl).symm
@[simp] theorem State.storeNum_power (s : State) (o : ObjDesc) (i : Nat) (v : Int) : (s.storeNum o i v).power = s.power := (State.storeNum_frame s o i v .power rfl).symm
@[simp] theorem State.storeNum_clk (s : State) (o : ObjDesc) (i : Nat) (v : Int) : (s.storeNum o i v).clk = s.clk := (State.storeNum_frame s o i v .clk rfl).symm
@[simp] theorem State.storeNum_roundabout (s : State) (o : ObjDesc) (i : Nat) (v : Int) : (s.storeNum o i v).roundabout = s.roundabout := (State.storeNum_frame s o i v .roundabout rfl).symm
@[simp] theorem State.storeNum_queues (s : State) (o : ObjDesc) (i : Nat) (v : Int) : (s.storeNum o i v).queues = s.queues := (State.storeNum_frame s o i v .queues rfl).symm
@[simp] theorem State.storeNum_host (s : State) (o : ObjDesc) (i : Nat) (v : Int) : (s.storeNum o i v).host = s.host := (State.storeNum_frame s o i v .host rfl).symm
@[simp] theorem State.storeNum_mbox (s : State) (o : ObjDesc) (i : Nat) (v : Int) : (s.storeNum o i v).mbox = s.mbox := (State.storeNum_frame s o i v .mbox rfl).symm
@[simp] theorem State.storeNum_sessions (s : State) (o : ObjDesc) (i : Nat) (v : Int) : (s.storeNum o i v).sessions = s.sessions := (State.storeNum_frame s o i v .sessions rfl).symm
@[simp] theorem State.storeNum_remotes (s : State) (o : ObjDesc) (i : Nat) (v : Int) : (s.storeNum o i v).remotes = s.remotes := (State.storeNum_frame s o i v .remotes rfl).symm
@[simp] theorem State.storeNum_gnss (s : State) (o : ObjDesc) (i : Nat) (v : Int) : (s.storeNum o i v).gnss = s.gnss := (State.storeNum_frame s o i v .gnss rfl).symm
@[simp] theorem State.storeNum_obs (s : State) (o : ObjDesc) (i : Nat) (v : Int) : (s.storeNum o i v).obs = s.obs := (State.storeNum_frame s o i v .obs rfl).symm
@[simp] theorem State.storeNum_baseRef (s : State) (o : ObjDesc) (i : Nat) (v : Int) : (s.storeNum o i v).baseRef = s.baseRef := (State.storeNum_frame s o i v .baseRef rfl).symm
@[simp] theorem State.storeNum_nav (s : State) (o : ObjDesc) (i : Nat) (v : Int) : (s.storeNum o i v).nav = s.nav := (State.storeNum_frame s o i v .nav rfl).symm
@[simp] theorem State.storeNum_blv (s : State) (o : ObjDesc) (i : Nat) (v : Int) : (s.storeNum o i v).blv = s.blv := (State.storeNum_frame s o i v .blv rfl).symm
@[simp] theorem State.storeNum_kerb (s : State) (o : ObjDesc) (i : Nat) (v : Int) : (s.storeNum o i v).kerb = s.kerb := (State.storeNum_frame s o i v .kerb rfl).symm
@[simp] theorem State.storeNum_cover (s : State) (o : ObjDesc) (i : Nat) (v : Int) : (s.storeNum o i v).cover = s.cover := (State.storeNum_frame s o i v .cover rfl).symm
@[simp] theorem State.storeNum_cache (s : State) (o : ObjDesc) (i : Nat) (v : Int) : (s.storeNum o i v).cache = s.cache := (State.storeNum_frame s o i v .cache rfl).symm
@[simp] theorem State.storeNum_fleet (s : State) (o : ObjDesc) (i : Nat) (v : Int) : (s.storeNum o i v).fleet = s.fleet := (State.storeNum_frame s o i v .fleet rfl).symm
@[simp] theorem State.storeNum_radio (s : State) (o : ObjDesc) (i : Nat) (v : Int) : (s.storeNum o i v).radio = s.radio := (State.storeNum_frame s o i v .radio rfl).symm
@[simp] theorem State.storeNum_crier (s : State) (o : ObjDesc) (i : Nat) (v : Int) : (s.storeNum o i v).crier = s.crier := (State.storeNum_frame s o i v .crier rfl).symm
@[simp] theorem State.storeNum_gate (s : State) (o : ObjDesc) (i : Nat) (v : Int) : (s.storeNum o i v).gate = s.gate := (State.storeNum_frame s o i v .gate rfl).symm
@[simp] theorem State.storeNum_tram (s : State) (o : ObjDesc) (i : Nat) (v : Int) : (s.storeNum o i v).tram = s.tram := (State.storeNum_frame s o i v .tram rfl).symm
@[simp] theorem State.storeNum_net (s : State) (o : ObjDesc) (i : Nat) (v : Int) : (s.storeNum o i v).net = s.net := (State.storeNum_frame s o i v .net rfl).symm
@[simp] theorem State.storeNum_meter (s : State) (o : ObjDesc) (i : Nat) (v : Int) : (s.storeNum o i v).meter = s.meter := (State.storeNum_frame s o i v .meter rfl).symm
@[simp] theorem State.storeNum_zheoc (s : State) (o : ObjDesc) (i : Nat) (v : Int) : (s.storeNum o i v).zheoc = s.zheoc := (State.storeNum_frame s o i v .zheoc rfl).symm
@[simp] theorem State.storeNum_bootDict (s : State) (o : ObjDesc) (i : Nat) (v : Int) : (s.storeNum o i v).bootDict = s.bootDict := (State.storeNum_frame s o i v .bootDict rfl).symm
@[simp] theorem State.storeNum_octets (s : State) (o : ObjDesc) (i : Nat) (v : Int) : (s.storeNum o i v).octets = s.octets := (State.storeNum_frame s o i v .octets rfl).symm
@[simp] theorem State.storeNum_periods (s : State) (o : ObjDesc) (i : Nat) (v : Int) : (s.storeNum o i v).periods = s.periods := (State.storeNum_frame s o i v .periods rfl).symm
@[simp] theorem State.storeNum_pending (s : State) (o : ObjDesc) (i : Nat) (v : Int) : (s.storeNum o i v).pending = s.pending := (State.storeNum_frame s o i v .pending rfl).symm

theorem State.storeOct_frame (s : State) (o : ObjDesc) (i : Nat) (v : List Byte) : State.changesOnly [.store, .dict, .milestone, .draws, .octets] s (s.storeOct o i v) :=
  ((s.setOctAt_frame o i v).seq (State.journal_frame _ _)).within (by decide)

@[simp] theorem State.storeOct_mode (s : State) (o : ObjDesc) (i : Nat) (v : List Byte) : (s.storeOct o i v).mode = s.mode := (State.storeOct_frame s o i v .mode rfl).symm
@[simp] theorem State.storeOct_boot (s : State) (o : ObjDesc) (i : Nat) (v : List Byte) : (s.storeOct o i v).boot = s.boot := (State.storeOct_frame s o i v .boot rfl).symm
@[simp] theorem State.storeOct_outputs (s : State) (o : ObjDesc) (i : Nat) (v : List Byte) : (s.storeOct o i v).outputs = s.outputs := (State.storeOct_frame s o i v .outputs rfl).symm
@[simp] theorem State.storeOct_power (s : State) (o : ObjDesc) (i : Nat) (v : List Byte) : (s.storeOct o i v).power = s.power := (State.storeOct_frame s o i v .power rfl).symm
@[simp] theorem State.storeOct_clk (s : State) (o : ObjDesc) (i : Nat) (v : List Byte) : (s.storeOct o i v).clk = s.clk := (State.storeOct_frame s o i v .clk rfl).symm
@[simp] theorem State.storeOct_roundabout (s : State) (o : ObjDesc) (i : Nat) (v : List Byte) : (s.storeOct o i v).roundabout = s.roundabout := (State.storeOct_frame s o i v .roundabout rfl).symm
@[simp] theorem State.storeOct_queues (s : State) (o : ObjDesc) (i : Nat) (v : List Byte) : (s.storeOct o i v).queues = s.queues := (State.storeOct_frame s o i v .queues rfl).symm
@[simp] theorem State.storeOct_host (s : State) (o : ObjDesc) (i : Nat) (v : List Byte) : (s.storeOct o i v).host = s.host := (State.storeOct_frame s o i v .host rfl).symm
@[simp] theorem State.storeOct_mbox (s : State) (o : ObjDesc) (i : Nat) (v : List Byte) : (s.storeOct o i v).mbox = s.mbox := (State.storeOct_frame s o i v .mbox rfl).symm
@[simp] theorem State.storeOct_sessions (s : State) (o : ObjDesc) (i : Nat) (v : List Byte) : (s.storeOct o i v).sessions = s.sessions := (State.storeOct_frame s o i v .sessions rfl).symm
@[simp] theorem State.storeOct_remotes (s : State) (o : ObjDesc) (i : Nat) (v : List Byte) : (s.storeOct o i v).remotes = s.remotes := (State.storeOct_frame s o i v .remotes rfl).symm
@[simp] theorem State.storeOct_gnss (s : State) (o : ObjDesc) (i : Nat) (v : List Byte) : (s.storeOct o i v).gnss = s.gnss := (State.storeOct_frame s o i v .gnss rfl).symm
@[simp] theorem State.storeOct_obs (s : State) (o : ObjDesc) (i : Nat) (v : List Byte) : (s.storeOct o i v).obs = s.obs := (State.storeOct_frame s o i v .obs rfl).symm
@[simp] theorem State.storeOct_baseRef (s : State) (o : ObjDesc) (i : Nat) (v : List Byte) : (s.storeOct o i v).baseRef = s.baseRef := (State.storeOct_frame s o i v .baseRef rfl).symm
@[simp] theorem State.storeOct_nav (s : State) (o : ObjDesc) (i : Nat) (v : List Byte) : (s.storeOct o i v).nav = s.nav := (State.storeOct_frame s o i v .nav rfl).symm
@[simp] theorem State.storeOct_blv (s : State) (o : ObjDesc) (i : Nat) (v : List Byte) : (s.storeOct o i v).blv = s.blv := (State.storeOct_frame s o i v .blv rfl).symm
@[simp] theorem State.storeOct_kerb (s : State) (o : ObjDesc) (i : Nat) (v : List Byte) : (s.storeOct o i v).kerb = s.kerb := (State.storeOct_frame s o i v .kerb rfl).symm
@[simp] theorem State.storeOct_cover (s : State) (o : ObjDesc) (i : Nat) (v : List Byte) : (s.storeOct o i v).cover = s.cover := (State.storeOct_frame s o i v .cover rfl).symm
@[simp] theorem State.storeOct_cache (s : State) (o : ObjDesc) (i : Nat) (v : List Byte) : (s.storeOct o i v).cache = s.cache := (State.storeOct_frame s o i v .cache rfl).symm
@[simp] theorem State.storeOct_fleet (s : State) (o : ObjDesc) (i : Nat) (v : List Byte) : (s.storeOct o i v).fleet = s.fleet := (State.storeOct_frame s o i v .fleet rfl).symm
@[simp] theorem State.storeOct_radio (s : State) (o : ObjDesc) (i : Nat) (v : List Byte) : (s.storeOct o i v).radio = s.radio := (State.storeOct_frame s o i v .radio rfl).symm
@[simp] theorem State.storeOct_crier (s : State) (o : ObjDesc) (i : Nat) (v : List Byte) : (s.storeOct o i v).crier = s.crier := (State.storeOct_frame s o i v .crier rfl).symm
@[simp] theorem State.storeOct_gate (s : State) (o : ObjDesc) (i : Nat) (v : List Byte) : (s.storeOct o i v).gate = s.gate := (State.storeOct_frame s o i v .gate rfl).symm
@[simp] theorem State.storeOct_tram (s : State) (o : ObjDesc) (i : Nat) (v : List Byte) : (s.storeOct o i v).tram = s.tram := (State.storeOct_frame s o i v .tram rfl).symm
@[simp] theorem State.storeOct_net (s : State) (o : ObjDesc) (i : Nat) (v : List Byte) : (s.storeOct o i v).net = s.net := (State.storeOct_frame s o i v .net rfl).symm
@[simp] theorem State.storeOct_meter (s : State) (o : ObjDesc) (i : Nat) (v : List Byte) : (s.storeOct o i v).meter = s.meter := (State.storeOct_frame s o i v .meter rfl).symm
@[simp] theorem State.storeOct_zheoc (s : State) (o : ObjDesc) (i : Nat) (v : List Byte) : (s.storeOct o i v).zheoc = s.zheoc := (State.storeOct_frame s o i v .zheoc rfl).symm
@[simp] theorem State.storeOct_bootDict (s : State) (o : ObjDesc) (i : Nat) (v : List Byte) : (s.storeOct o i v).bootDict = s.bootDict := (State.storeOct_frame s o i v .bootDict rfl).symm
@[simp] theorem State.storeOct_periods (s : State) (o : ObjDesc) (i : Nat) (v : List Byte) : (s.storeOct o i v).periods = s.periods := (State.storeOct_frame s o i v .periods rfl).symm
@[simp] theorem State.storeOct_pending (s : State) (o : ObjDesc) (i : Nat) (v : List Byte) : (s.storeOct o i v).pending = s.pending := (State.storeOct_frame s o i v .pending rfl).symm

theorem State.zlSend_frame (s : State) (type : Nat) : State.changesOnly [.zheoc] s (s.zlSend type) :=
  s.updZheoc_frame _

@[simp] theorem State.zlSend_mode (s : State) (type : Nat) : (s.zlSend type).mode = s.mode := (State.zlSend_frame s type .mode rfl).symm
@[simp] theorem State.zlSend_boot (s : State) (type : Nat) : (s.zlSend type).boot = s.boot := (State.zlSend_frame s type .boot rfl).symm
@[simp] theorem State.zlSend_outputs (s : State) (type : Nat) : (s.zlSend type).outputs = s.outputs := (State.zlSend_frame s type .outputs rfl).symm
@[simp] theorem State.zlSend_power (s : State) (type : Nat) : (s.zlSend type).power = s.power := (State.zlSend_frame s type .power rfl).symm
@[simp] theorem State.zlSend_clk (s : State) (type : Nat) : (s.zlSend type).clk = s.clk := (State.zlSend_frame s type .clk rfl).symm
@[simp] theorem State.zlSend_roundabout (s : State) (type : Nat) : (s.zlSend type).roundabout = s.roundabout := (State.zlSend_frame s type .roundabout rfl).symm
@[simp] theorem State.zlSend_queues (s : State) (type : Nat) : (s.zlSend type).queues = s.queues := (State.zlSend_frame s type .queues rfl).symm
@[simp] theorem State.zlSend_host (s : State) (type : Nat) : (s.zlSend type).host = s.host := (State.zlSend_frame s type .host rfl).symm
@[simp] theorem State.zlSend_mbox (s : State) (type : Nat) : (s.zlSend type).mbox = s.mbox := (State.zlSend_frame s type .mbox rfl).symm
@[simp] theorem State.zlSend_sessions (s : State) (type : Nat) : (s.zlSend type).sessions = s.sessions := (State.zlSend_frame s type .sessions rfl).symm
@[simp] theorem State.zlSend_remotes (s : State) (type : Nat) : (s.zlSend type).remotes = s.remotes := (State.zlSend_frame s type .remotes rfl).symm
@[simp] theorem State.zlSend_gnss (s : State) (type : Nat) : (s.zlSend type).gnss = s.gnss := (State.zlSend_frame s type .gnss rfl).symm
@[simp] theorem State.zlSend_obs (s : State) (type : Nat) : (s.zlSend type).obs = s.obs := (State.zlSend_frame s type .obs rfl).symm
@[simp] theorem State.zlSend_baseRef (s : State) (type : Nat) : (s.zlSend type).baseRef = s.baseRef := (State.zlSend_frame s type .baseRef rfl).symm
@[simp] theorem State.zlSend_nav (s : State) (type : Nat) : (s.zlSend type).nav = s.nav := (State.zlSend_frame s type .nav rfl).symm
@[simp] theorem State.zlSend_blv (s : State) (type : Nat) : (s.zlSend type).blv = s.blv := (State.zlSend_frame s type .blv rfl).symm
@[simp] theorem State.zlSend_kerb (s : State) (type : Nat) : (s.zlSend type).kerb = s.kerb := (State.zlSend_frame s type .kerb rfl).symm
@[simp] theorem State.zlSend_cover (s : State) (type : Nat) : (s.zlSend type).cover = s.cover := (State.zlSend_frame s type .cover rfl).symm
@[simp] theorem State.zlSend_cache (s : State) (type : Nat) : (s.zlSend type).cache = s.cache := (State.zlSend_frame s type .cache rfl).symm
@[simp] theorem State.zlSend_fleet (s : State) (type : Nat) : (s.zlSend type).fleet = s.fleet := (State.zlSend_frame s type .fleet rfl).symm
@[simp] theorem State.zlSend_radio (s : State) (type : Nat) : (s.zlSend type).radio = s.radio := (State.zlSend_frame s type .radio rfl).symm
@[simp] theorem State.zlSend_crier (s : State) (type : Nat) : (s.zlSend type).crier = s.crier := (State.zlSend_frame s type .crier rfl).symm
@[simp] theorem State.zlSend_gate (s : State) (type : Nat) : (s.zlSend type).gate = s.gate := (State.zlSend_frame s type .gate rfl).symm
@[simp] theorem State.zlSend_tram (s : State) (type : Nat) : (s.zlSend type).tram = s.tram := (State.zlSend_frame s type .tram rfl).symm
@[simp] theorem State.zlSend_net (s : State) (type : Nat) : (s.zlSend type).net = s.net := (State.zlSend_frame s type .net rfl).symm
@[simp] theorem State.zlSend_meter (s : State) (type : Nat) : (s.zlSend type).meter = s.meter := (State.zlSend_frame s type .meter rfl).symm
@[simp] theorem State.zlSend_store (s : State) (type : Nat) : (s.zlSend type).store = s.store := (State.zlSend_frame s type .store rfl).symm
@[simp] theorem State.zlSend_milestone (s : State) (type : Nat) : (s.zlSend type).milestone = s.milestone := (State.zlSend_frame s type .milestone rfl).symm
@[simp] theorem State.zlSend_dict (s : State) (type : Nat) : (s.zlSend type).dict = s.dict := (State.zlSend_frame s type .dict rfl).symm
@[simp] theorem State.zlSend_bootDict (s : State) (type : Nat) : (s.zlSend type).bootDict = s.bootDict := (State.zlSend_frame s type .bootDict rfl).symm
@[simp] theorem State.zlSend_octets (s : State) (type : Nat) : (s.zlSend type).octets = s.octets := (State.zlSend_frame s type .octets rfl).symm
@[simp] theorem State.zlSend_periods (s : State) (type : Nat) : (s.zlSend type).periods = s.periods := (State.zlSend_frame s type .periods rfl).symm
@[simp] theorem State.zlSend_draws (s : State) (type : Nat) : (s.zlSend type).draws = s.draws := (State.zlSend_frame s type .draws rfl).symm
@[simp] theorem State.zlSend_pending (s : State) (type : Nat) : (s.zlSend type).pending = s.pending := (State.zlSend_frame s type .pending rfl).symm

theorem State.noteInput_frame (s : State) : State.changesOnly [.zheoc] s (s.noteInput) :=
  changesOnly_ite (((s.zlSend_frame 5).seq (State.updZheoc_frame _ _)).within (by decide)) (changesOnly_refl _ _)

@[simp] theorem State.noteInput_mode (s : State) : (s.noteInput).mode = s.mode := (State.noteInput_frame s .mode rfl).symm
@[simp] theorem State.noteInput_boot (s : State) : (s.noteInput).boot = s.boot := (State.noteInput_frame s .boot rfl).symm
@[simp] theorem State.noteInput_outputs (s : State) : (s.noteInput).outputs = s.outputs := (State.noteInput_frame s .outputs rfl).symm
@[simp] theorem State.noteInput_power (s : State) : (s.noteInput).power = s.power := (State.noteInput_frame s .power rfl).symm
@[simp] theorem State.noteInput_clk (s : State) : (s.noteInput).clk = s.clk := (State.noteInput_frame s .clk rfl).symm
@[simp] theorem State.noteInput_roundabout (s : State) : (s.noteInput).roundabout = s.roundabout := (State.noteInput_frame s .roundabout rfl).symm
@[simp] theorem State.noteInput_queues (s : State) : (s.noteInput).queues = s.queues := (State.noteInput_frame s .queues rfl).symm
@[simp] theorem State.noteInput_host (s : State) : (s.noteInput).host = s.host := (State.noteInput_frame s .host rfl).symm
@[simp] theorem State.noteInput_mbox (s : State) : (s.noteInput).mbox = s.mbox := (State.noteInput_frame s .mbox rfl).symm
@[simp] theorem State.noteInput_sessions (s : State) : (s.noteInput).sessions = s.sessions := (State.noteInput_frame s .sessions rfl).symm
@[simp] theorem State.noteInput_remotes (s : State) : (s.noteInput).remotes = s.remotes := (State.noteInput_frame s .remotes rfl).symm
@[simp] theorem State.noteInput_gnss (s : State) : (s.noteInput).gnss = s.gnss := (State.noteInput_frame s .gnss rfl).symm
@[simp] theorem State.noteInput_obs (s : State) : (s.noteInput).obs = s.obs := (State.noteInput_frame s .obs rfl).symm
@[simp] theorem State.noteInput_baseRef (s : State) : (s.noteInput).baseRef = s.baseRef := (State.noteInput_frame s .baseRef rfl).symm
@[simp] theorem State.noteInput_nav (s : State) : (s.noteInput).nav = s.nav := (State.noteInput_frame s .nav rfl).symm
@[simp] theorem State.noteInput_blv (s : State) : (s.noteInput).blv = s.blv := (State.noteInput_frame s .blv rfl).symm
@[simp] theorem State.noteInput_kerb (s : State) : (s.noteInput).kerb = s.kerb := (State.noteInput_frame s .kerb rfl).symm
@[simp] theorem State.noteInput_cover (s : State) : (s.noteInput).cover = s.cover := (State.noteInput_frame s .cover rfl).symm
@[simp] theorem State.noteInput_cache (s : State) : (s.noteInput).cache = s.cache := (State.noteInput_frame s .cache rfl).symm
@[simp] theorem State.noteInput_fleet (s : State) : (s.noteInput).fleet = s.fleet := (State.noteInput_frame s .fleet rfl).symm
@[simp] theorem State.noteInput_radio (s : State) : (s.noteInput).radio = s.radio := (State.noteInput_frame s .radio rfl).symm
@[simp] theorem State.noteInput_crier (s : State) : (s.noteInput).crier = s.crier := (State.noteInput_frame s .crier rfl).symm
@[simp] theorem State.noteInput_gate (s : State) : (s.noteInput).gate = s.gate := (State.noteInput_frame s .gate rfl).symm
@[simp] theorem State.noteInput_tram (s : State) : (s.noteInput).tram = s.tram := (State.noteInput_frame s .tram rfl).symm
@[simp] theorem State.noteInput_net (s : State) : (s.noteInput).net = s.net := (State.noteInput_frame s .net rfl).symm
@[simp] theorem State.noteInput_meter (s : State) : (s.noteInput).meter = s.meter := (State.noteInput_frame s .meter rfl).symm
@[simp] theorem State.noteInput_store (s : State) : (s.noteInput).store = s.store := (State.noteInput_frame s .store rfl).symm
@[simp] theorem State.noteInput_milestone (s : State) : (s.noteInput).milestone = s.milestone := (State.noteInput_frame s .milestone rfl).symm
@[simp] theorem State.noteInput_dict (s : State) : (s.noteInput).dict = s.dict := (State.noteInput_frame s .dict rfl).symm
@[simp] theorem State.noteInput_bootDict (s : State) : (s.noteInput).bootDict = s.bootDict := (State.noteInput_frame s .bootDict rfl).symm
@[simp] theorem State.noteInput_octets (s : State) : (s.noteInput).octets = s.octets := (State.noteInput_frame s .octets rfl).symm
@[simp] theorem State.noteInput_periods (s : State) : (s.noteInput).periods = s.periods := (State.noteInput_frame s .periods rfl).symm
@[simp] theorem State.noteInput_draws (s : State) : (s.noteInput).draws = s.draws := (State.noteInput_frame s .draws rfl).symm
@[simp] theorem State.noteInput_pending (s : State) : (s.noteInput).pending = s.pending := (State.noteInput_frame s .pending rfl).symm

theorem State.serve_frame (s : State) (q : Sess) (op : Nat) (o : ObjDesc) (data : List Byte) : State.changesOnly [.sessions] s (s.serve q op o data) :=
  changesOnly_ite (changesOnly_refl _ _) (s.updSession_frame q _)

@[simp] theorem State.serve_mode (s : State) (q : Sess) (op : Nat) (o : ObjDesc) (data : List Byte) : (s.serve q op o data).mode = s.mode := (State.serve_frame s q op o data .mode rfl).symm
@[simp] theorem State.serve_boot (s : State) (q : Sess) (op : Nat) (o : ObjDesc) (data : List Byte) : (s.serve q op o data).boot = s.boot := (State.serve_frame s q op o data .boot rfl).symm
@[simp] theorem State.serve_outputs (s : State) (q : Sess) (op : Nat) (o : ObjDesc) (data : List Byte) : (s.serve q op o data).outputs = s.outputs := (State.serve_frame s q op o data .outputs rfl).symm
@[simp] theorem State.serve_power (s : State) (q : Sess) (op : Nat) (o : ObjDesc) (data : List Byte) : (s.serve q op o data).power = s.power := (State.serve_frame s q op o data .power rfl).symm
@[simp] theorem State.serve_clk (s : State) (q : Sess) (op : Nat) (o : ObjDesc) (data : List Byte) : (s.serve q op o data).clk = s.clk := (State.serve_frame s q op o data .clk rfl).symm
@[simp] theorem State.serve_roundabout (s : State) (q : Sess) (op : Nat) (o : ObjDesc) (data : List Byte) : (s.serve q op o data).roundabout = s.roundabout := (State.serve_frame s q op o data .roundabout rfl).symm
@[simp] theorem State.serve_queues (s : State) (q : Sess) (op : Nat) (o : ObjDesc) (data : List Byte) : (s.serve q op o data).queues = s.queues := (State.serve_frame s q op o data .queues rfl).symm
@[simp] theorem State.serve_host (s : State) (q : Sess) (op : Nat) (o : ObjDesc) (data : List Byte) : (s.serve q op o data).host = s.host := (State.serve_frame s q op o data .host rfl).symm
@[simp] theorem State.serve_mbox (s : State) (q : Sess) (op : Nat) (o : ObjDesc) (data : List Byte) : (s.serve q op o data).mbox = s.mbox := (State.serve_frame s q op o data .mbox rfl).symm
@[simp] theorem State.serve_remotes (s : State) (q : Sess) (op : Nat) (o : ObjDesc) (data : List Byte) : (s.serve q op o data).remotes = s.remotes := (State.serve_frame s q op o data .remotes rfl).symm
@[simp] theorem State.serve_gnss (s : State) (q : Sess) (op : Nat) (o : ObjDesc) (data : List Byte) : (s.serve q op o data).gnss = s.gnss := (State.serve_frame s q op o data .gnss rfl).symm
@[simp] theorem State.serve_obs (s : State) (q : Sess) (op : Nat) (o : ObjDesc) (data : List Byte) : (s.serve q op o data).obs = s.obs := (State.serve_frame s q op o data .obs rfl).symm
@[simp] theorem State.serve_baseRef (s : State) (q : Sess) (op : Nat) (o : ObjDesc) (data : List Byte) : (s.serve q op o data).baseRef = s.baseRef := (State.serve_frame s q op o data .baseRef rfl).symm
@[simp] theorem State.serve_nav (s : State) (q : Sess) (op : Nat) (o : ObjDesc) (data : List Byte) : (s.serve q op o data).nav = s.nav := (State.serve_frame s q op o data .nav rfl).symm
@[simp] theorem State.serve_blv (s : State) (q : Sess) (op : Nat) (o : ObjDesc) (data : List Byte) : (s.serve q op o data).blv = s.blv := (State.serve_frame s q op o data .blv rfl).symm
@[simp] theorem State.serve_kerb (s : State) (q : Sess) (op : Nat) (o : ObjDesc) (data : List Byte) : (s.serve q op o data).kerb = s.kerb := (State.serve_frame s q op o data .kerb rfl).symm
@[simp] theorem State.serve_cover (s : State) (q : Sess) (op : Nat) (o : ObjDesc) (data : List Byte) : (s.serve q op o data).cover = s.cover := (State.serve_frame s q op o data .cover rfl).symm
@[simp] theorem State.serve_cache (s : State) (q : Sess) (op : Nat) (o : ObjDesc) (data : List Byte) : (s.serve q op o data).cache = s.cache := (State.serve_frame s q op o data .cache rfl).symm
@[simp] theorem State.serve_fleet (s : State) (q : Sess) (op : Nat) (o : ObjDesc) (data : List Byte) : (s.serve q op o data).fleet = s.fleet := (State.serve_frame s q op o data .fleet rfl).symm
@[simp] theorem State.serve_radio (s : State) (q : Sess) (op : Nat) (o : ObjDesc) (data : List Byte) : (s.serve q op o data).radio = s.radio := (State.serve_frame s q op o data .radio rfl).symm
@[simp] theorem State.serve_crier (s : State) (q : Sess) (op : Nat) (o : ObjDesc) (data : List Byte) : (s.serve q op o data).crier = s.crier := (State.serve_frame s q op o data .crier rfl).symm
@[simp] theorem State.serve_gate (s : State) (q : Sess) (op : Nat) (o : ObjDesc) (data : List Byte) : (s.serve q op o data).gate = s.gate := (State.serve_frame s q op o data .gate rfl).symm
@[simp] theorem State.serve_tram (s : State) (q : Sess) (op : Nat) (o : ObjDesc) (data : List Byte) : (s.serve q op o data).tram = s.tram := (State.serve_frame s q op o data .tram rfl).symm
@[simp] theorem State.serve_net (s : State) (q : Sess) (op : Nat) (o : ObjDesc) (data : List Byte) : (s.serve q op o data).net = s.net := (State.serve_frame s q op o data .net rfl).symm
@[simp] theorem State.serve_meter (s : State) (q : Sess) (op : Nat) (o : ObjDesc) (data : List Byte) : (s.serve q op o data).meter = s.meter := (State.serve_frame s q op o data .meter rfl).symm
@[simp] theorem State.serve_zheoc (s : State) (q : Sess) (op : Nat) (o : ObjDesc) (data : List Byte) : (s.serve q op o data).zheoc = s.zheoc := (State.serve_frame s q op o data .zheoc rfl).symm
@[simp] theorem State.serve_store (s : State) (q : Sess) (op : Nat) (o : ObjDesc) (data : List Byte) : (s.serve q op o data).store = s.store := (State.serve_frame s q op o data .store rfl).symm
@[simp] theorem State.serve_milestone (s : State) (q : Sess) (op : Nat) (o : ObjDesc) (data : List Byte) : (s.serve q op o data).milestone = s.milestone := (State.serve_frame s q op o data .milestone rfl).symm
@[simp] theorem State.serve_dict (s : State) (q : Sess) (op : Nat) (o : ObjDesc) (data : List Byte) : (s.serve q op o data).dict = s.dict := (State.serve_frame s q op o data .dict rfl).symm
@[simp] theorem State.serve_bootDict (s : State) (q : Sess) (op : Nat) (o : ObjDesc) (data : List Byte) : (s.serve q op o data).bootDict = s.bootDict := (State.serve_frame s q op o data .bootDict rfl).symm
@[simp] theorem State.serve_octets (s : State) (q : Sess) (op : Nat) (o : ObjDesc) (data : List Byte) : (s.serve q op o data).octets = s.octets := (State.serve_frame s q op o data .octets rfl).symm
@[simp] theorem State.serve_periods (s : State) (q : Sess) (op : Nat) (o : ObjDesc) (data : List Byte) : (s.serve q op o data).periods = s.periods := (State.serve_frame s q op o data .periods rfl).symm
@[simp] theorem State.serve_draws (s : State) (q : Sess) (op : Nat) (o : ObjDesc) (data : List Byte) : (s.serve q op o data).draws = s.draws := (State.serve_frame s q op o data .draws rfl).symm
@[simp] theorem State.serve_pending (s : State) (q : Sess) (op : Nat) (o : ObjDesc) (data : List Byte) : (s.serve q op o data).pending = s.pending := (State.serve_frame s q op o data .pending rfl).symm

theorem State.begun_frame (s : State) (q : Sess) (o : ObjDesc) (data : List Byte) : State.changesOnly [.zheoc, .sessions] s (s.begun q o data) :=
  s.noteInput_frame.seq (State.serve_frame _ _ _ _ _)

@[simp] theorem State.begun_mode (s : State) (q : Sess) (o : ObjDesc) (data : List Byte) : (s.begun q o data).mode = s.mode := (State.begun_frame s q o data .mode rfl).symm
@[simp] theorem State.begun_boot (s : State) (q : Sess) (o : ObjDesc) (data : List Byte) : (s.begun q o data).boot = s.boot := (State.begun_frame s q o data .boot rfl).symm
@[simp] theorem State.begun_outputs (s : State) (q : Sess) (o : ObjDesc) (data : List Byte) : (s.begun q o data).outputs = s.outputs := (State.begun_frame s q o data .outputs rfl).symm
@[simp] theorem State.begun_power (s : State) (q : Sess) (o : ObjDesc) (data : List Byte) : (s.begun q o data).power = s.power := (State.begun_frame s q o data .power rfl).symm
@[simp] theorem State.begun_clk (s : State) (q : Sess) (o : ObjDesc) (data : List Byte) : (s.begun q o data).clk = s.clk := (State.begun_frame s q o data .clk rfl).symm
@[simp] theorem State.begun_roundabout (s : State) (q : Sess) (o : ObjDesc) (data : List Byte) : (s.begun q o data).roundabout = s.roundabout := (State.begun_frame s q o data .roundabout rfl).symm
@[simp] theorem State.begun_queues (s : State) (q : Sess) (o : ObjDesc) (data : List Byte) : (s.begun q o data).queues = s.queues := (State.begun_frame s q o data .queues rfl).symm
@[simp] theorem State.begun_host (s : State) (q : Sess) (o : ObjDesc) (data : List Byte) : (s.begun q o data).host = s.host := (State.begun_frame s q o data .host rfl).symm
@[simp] theorem State.begun_mbox (s : State) (q : Sess) (o : ObjDesc) (data : List Byte) : (s.begun q o data).mbox = s.mbox := (State.begun_frame s q o data .mbox rfl).symm
@[simp] theorem State.begun_remotes (s : State) (q : Sess) (o : ObjDesc) (data : List Byte) : (s.begun q o data).remotes = s.remotes := (State.begun_frame s q o data .remotes rfl).symm
@[simp] theorem State.begun_gnss (s : State) (q : Sess) (o : ObjDesc) (data : List Byte) : (s.begun q o data).gnss = s.gnss := (State.begun_frame s q o data .gnss rfl).symm
@[simp] theorem State.begun_obs (s : State) (q : Sess) (o : ObjDesc) (data : List Byte) : (s.begun q o data).obs = s.obs := (State.begun_frame s q o data .obs rfl).symm
@[simp] theorem State.begun_baseRef (s : State) (q : Sess) (o : ObjDesc) (data : List Byte) : (s.begun q o data).baseRef = s.baseRef := (State.begun_frame s q o data .baseRef rfl).symm
@[simp] theorem State.begun_nav (s : State) (q : Sess) (o : ObjDesc) (data : List Byte) : (s.begun q o data).nav = s.nav := (State.begun_frame s q o data .nav rfl).symm
@[simp] theorem State.begun_blv (s : State) (q : Sess) (o : ObjDesc) (data : List Byte) : (s.begun q o data).blv = s.blv := (State.begun_frame s q o data .blv rfl).symm
@[simp] theorem State.begun_kerb (s : State) (q : Sess) (o : ObjDesc) (data : List Byte) : (s.begun q o data).kerb = s.kerb := (State.begun_frame s q o data .kerb rfl).symm
@[simp] theorem State.begun_cover (s : State) (q : Sess) (o : ObjDesc) (data : List Byte) : (s.begun q o data).cover = s.cover := (State.begun_frame s q o data .cover rfl).symm
@[simp] theorem State.begun_cache (s : State) (q : Sess) (o : ObjDesc) (data : List Byte) : (s.begun q o data).cache = s.cache := (State.begun_frame s q o data .cache rfl).symm
@[simp] theorem State.begun_fleet (s : State) (q : Sess) (o : ObjDesc) (data : List Byte) : (s.begun q o data).fleet = s.fleet := (State.begun_frame s q o data .fleet rfl).symm
@[simp] theorem State.begun_radio (s : State) (q : Sess) (o : ObjDesc) (data : List Byte) : (s.begun q o data).radio = s.radio := (State.begun_frame s q o data .radio rfl).symm
@[simp] theorem State.begun_crier (s : State) (q : Sess) (o : ObjDesc) (data : List Byte) : (s.begun q o data).crier = s.crier := (State.begun_frame s q o data .crier rfl).symm
@[simp] theorem State.begun_gate (s : State) (q : Sess) (o : ObjDesc) (data : List Byte) : (s.begun q o data).gate = s.gate := (State.begun_frame s q o data .gate rfl).symm
@[simp] theorem State.begun_tram (s : State) (q : Sess) (o : ObjDesc) (data : List Byte) : (s.begun q o data).tram = s.tram := (State.begun_frame s q o data .tram rfl).symm
@[simp] theorem State.begun_net (s : State) (q : Sess) (o : ObjDesc) (data : List Byte) : (s.begun q o data).net = s.net := (State.begun_frame s q o data .net rfl).symm
@[simp] theorem State.begun_meter (s : State) (q : Sess) (o : ObjDesc) (data : List Byte) : (s.begun q o data).meter = s.meter := (State.begun_frame s q o data .meter rfl).symm
@[simp] theorem State.begun_store (s : State) (q : Sess) (o : ObjDesc) (data : List Byte) : (s.begun q o data).store = s.store := (State.begun_frame s q o data .store rfl).symm
@[simp] theorem State.begun_milestone (s : State) (q : Sess) (o : ObjDesc) (data : List Byte) : (s.begun q o data).milestone = s.milestone := (State.begun_frame s q o data .milestone rfl).symm
@[simp] theorem State.begun_dict (s : State) (q : Sess) (o : ObjDesc) (data : List Byte) : (s.begun q o data).dict = s.dict := (State.begun_frame s q o data .dict rfl).symm
@[simp] theorem State.begun_bootDict (s : State) (q : Sess) (o : ObjDesc) (data : List Byte) : (s.begun q o data).bootDict = s.bootDict := (State.begun_frame s q o data .bootDict rfl).symm
@[simp] theorem State.begun_octets (s : State) (q : Sess) (o : ObjDesc) (data : List Byte) : (s.begun q o data).octets = s.octets := (State.begun_frame s q o data .octets rfl).symm
@[simp] theorem State.begun_periods (s : State) (q : Sess) (o : ObjDesc) (data : List Byte) : (s.begun q o data).periods = s.periods := (State.begun_frame s q o data .periods rfl).symm
@[simp] theorem State.begun_draws (s : State) (q : Sess) (o : ObjDesc) (data : List Byte) : (s.begun q o data).draws = s.draws := (State.begun_frame s q o data .draws rfl).symm
@[simp] theorem State.begun_pending (s : State) (q : Sess) (o : ObjDesc) (data : List Byte) : (s.begun q o data).pending = s.pending := (State.begun_frame s q o data .pending rfl).symm

theorem State.setMode_frame (s : State) (m : Mode) : State.changesOnly [.mode, .host] s (s.setMode m) :=
  (only_mode s _).seq (State.raiseIrq_frame _ _)

@[simp] theorem State.setMode_boot (s : State) (m : Mode) : (s.setMode m).boot = s.boot := (State.setMode_frame s m .boot rfl).symm
@[simp] theorem State.setMode_outputs (s : State) (m : Mode) : (s.setMode m).outputs = s.outputs := (State.setMode_frame s m .outputs rfl).symm
@[simp] theorem State.setMode_power (s : State) (m : Mode) : (s.setMode m).power = s.power := (State.setMode_frame s m .power rfl).symm
@[simp] theorem State.setMode_clk (s : State) (m : Mode) : (s.setMode m).clk = s.clk := (State.setMode_frame s m .clk rfl).symm
@[simp] theorem State.setMode_roundabout (s : State) (m : Mode) : (s.setMode m).roundabout = s.roundabout := (State.setMode_frame s m .roundabout rfl).symm
@[simp] theorem State.setMode_queues (s : State) (m : Mode) : (s.setMode m).queues = s.queues := (State.setMode_frame s m .queues rfl).symm
@[simp] theorem State.setMode_mbox (s : State) (m : Mode) : (s.setMode m).mbox = s.mbox := (State.setMode_frame s m .mbox rfl).symm
@[simp] theorem State.setMode_sessions (s : State) (m : Mode) : (s.setMode m).sessions = s.sessions := (State.setMode_frame s m .sessions rfl).symm
@[simp] theorem State.setMode_remotes (s : State) (m : Mode) : (s.setMode m).remotes = s.remotes := (State.setMode_frame s m .remotes rfl).symm
@[simp] theorem State.setMode_gnss (s : State) (m : Mode) : (s.setMode m).gnss = s.gnss := (State.setMode_frame s m .gnss rfl).symm
@[simp] theorem State.setMode_obs (s : State) (m : Mode) : (s.setMode m).obs = s.obs := (State.setMode_frame s m .obs rfl).symm
@[simp] theorem State.setMode_baseRef (s : State) (m : Mode) : (s.setMode m).baseRef = s.baseRef := (State.setMode_frame s m .baseRef rfl).symm
@[simp] theorem State.setMode_nav (s : State) (m : Mode) : (s.setMode m).nav = s.nav := (State.setMode_frame s m .nav rfl).symm
@[simp] theorem State.setMode_blv (s : State) (m : Mode) : (s.setMode m).blv = s.blv := (State.setMode_frame s m .blv rfl).symm
@[simp] theorem State.setMode_kerb (s : State) (m : Mode) : (s.setMode m).kerb = s.kerb := (State.setMode_frame s m .kerb rfl).symm
@[simp] theorem State.setMode_cover (s : State) (m : Mode) : (s.setMode m).cover = s.cover := (State.setMode_frame s m .cover rfl).symm
@[simp] theorem State.setMode_cache (s : State) (m : Mode) : (s.setMode m).cache = s.cache := (State.setMode_frame s m .cache rfl).symm
@[simp] theorem State.setMode_fleet (s : State) (m : Mode) : (s.setMode m).fleet = s.fleet := (State.setMode_frame s m .fleet rfl).symm
@[simp] theorem State.setMode_radio (s : State) (m : Mode) : (s.setMode m).radio = s.radio := (State.setMode_frame s m .radio rfl).symm
@[simp] theorem State.setMode_crier (s : State) (m : Mode) : (s.setMode m).crier = s.crier := (State.setMode_frame s m .crier rfl).symm
@[simp] theorem State.setMode_gate (s : State) (m : Mode) : (s.setMode m).gate = s.gate := (State.setMode_frame s m .gate rfl).symm
@[simp] theorem State.setMode_tram (s : State) (m : Mode) : (s.setMode m).tram = s.tram := (State.setMode_frame s m .tram rfl).symm
@[simp] theorem State.setMode_net (s : State) (m : Mode) : (s.setMode m).net = s.net := (State.setMode_frame s m .net rfl).symm
@[simp] theorem State.setMode_meter (s : State) (m : Mode) : (s.setMode m).meter = s.meter := (State.setMode_frame s m .meter rfl).symm
@[simp] theorem State.setMode_zheoc (s : State) (m : Mode) : (s.setMode m).zheoc = s.zheoc := (State.setMode_frame s m .zheoc rfl).symm
@[simp] theorem State.setMode_store (s : State) (m : Mode) : (s.setMode m).store = s.store := (State.setMode_frame s m .store rfl).symm
@[simp] theorem State.setMode_milestone (s : State) (m : Mode) : (s.setMode m).milestone = s.milestone := (State.setMode_frame s m .milestone rfl).symm
@[simp] theorem State.setMode_dict (s : State) (m : Mode) : (s.setMode m).dict = s.dict := (State.setMode_frame s m .dict rfl).symm
@[simp] theorem State.setMode_bootDict (s : State) (m : Mode) : (s.setMode m).bootDict = s.bootDict := (State.setMode_frame s m .bootDict rfl).symm
@[simp] theorem State.setMode_octets (s : State) (m : Mode) : (s.setMode m).octets = s.octets := (State.setMode_frame s m .octets rfl).symm
@[simp] theorem State.setMode_periods (s : State) (m : Mode) : (s.setMode m).periods = s.periods := (State.setMode_frame s m .periods rfl).symm
@[simp] theorem State.setMode_draws (s : State) (m : Mode) : (s.setMode m).draws = s.draws := (State.setMode_frame s m .draws rfl).symm
@[simp] theorem State.setMode_pending (s : State) (m : Mode) : (s.setMode m).pending = s.pending := (State.setMode_frame s m .pending rfl).symm

theorem State.sendLink_frame (s : State) (to_ : Nat) (m : LinkMsg) : State.changesOnly [.fleet, .gate] s (s.sendLink to_ m) := by
  unfold State.sendLink
  exact changesOnly_ite ((only_fleet s _).seq (only_gate _ _)) ((only_fleet s _).within (by decide))

@[simp] theorem State.sendLink_mode (s : State) (to_ : Nat) (m : LinkMsg) : (s.sendLink to_ m).mode = s.mode := (State.sendLink_frame s to_ m .mode rfl).symm
@[simp] theorem State.sendLink_boot (s : State) (to_ : Nat) (m : LinkMsg) : (s.sendLink to_ m).boot = s.boot := (State.sendLink_frame s to_ m .boot rfl).symm
@[simp] theorem State.sendLink_outputs (s : State) (to_ : Nat) (m : LinkMsg) : (s.sendLink to_ m).outputs = s.outputs := (State.sendLink_frame s to_ m .outputs rfl).symm
@[simp] theorem State.sendLink_power (s : State) (to_ : Nat) (m : LinkMsg) : (s.sendLink to_ m).power = s.power := (State.sendLink_frame s to_ m .power rfl).symm
@[simp] theorem State.sendLink_clk (s : State) (to_ : Nat) (m : LinkMsg) : (s.sendLink to_ m).clk = s.clk := (State.sendLink_frame s to_ m .clk rfl).symm
@[simp] theorem State.sendLink_roundabout (s : State) (to_ : Nat) (m : LinkMsg) : (s.sendLink to_ m).roundabout = s.roundabout := (State.sendLink_frame s to_ m .roundabout rfl).symm
@[simp] theorem State.sendLink_queues (s : State) (to_ : Nat) (m : LinkMsg) : (s.sendLink to_ m).queues = s.queues := (State.sendLink_frame s to_ m .queues rfl).symm
@[simp] theorem State.sendLink_host (s : State) (to_ : Nat) (m : LinkMsg) : (s.sendLink to_ m).host = s.host := (State.sendLink_frame s to_ m .host rfl).symm
@[simp] theorem State.sendLink_mbox (s : State) (to_ : Nat) (m : LinkMsg) : (s.sendLink to_ m).mbox = s.mbox := (State.sendLink_frame s to_ m .mbox rfl).symm
@[simp] theorem State.sendLink_sessions (s : State) (to_ : Nat) (m : LinkMsg) : (s.sendLink to_ m).sessions = s.sessions := (State.sendLink_frame s to_ m .sessions rfl).symm
@[simp] theorem State.sendLink_remotes (s : State) (to_ : Nat) (m : LinkMsg) : (s.sendLink to_ m).remotes = s.remotes := (State.sendLink_frame s to_ m .remotes rfl).symm
@[simp] theorem State.sendLink_gnss (s : State) (to_ : Nat) (m : LinkMsg) : (s.sendLink to_ m).gnss = s.gnss := (State.sendLink_frame s to_ m .gnss rfl).symm
@[simp] theorem State.sendLink_obs (s : State) (to_ : Nat) (m : LinkMsg) : (s.sendLink to_ m).obs = s.obs := (State.sendLink_frame s to_ m .obs rfl).symm
@[simp] theorem State.sendLink_baseRef (s : State) (to_ : Nat) (m : LinkMsg) : (s.sendLink to_ m).baseRef = s.baseRef := (State.sendLink_frame s to_ m .baseRef rfl).symm
@[simp] theorem State.sendLink_nav (s : State) (to_ : Nat) (m : LinkMsg) : (s.sendLink to_ m).nav = s.nav := (State.sendLink_frame s to_ m .nav rfl).symm
@[simp] theorem State.sendLink_blv (s : State) (to_ : Nat) (m : LinkMsg) : (s.sendLink to_ m).blv = s.blv := (State.sendLink_frame s to_ m .blv rfl).symm
@[simp] theorem State.sendLink_kerb (s : State) (to_ : Nat) (m : LinkMsg) : (s.sendLink to_ m).kerb = s.kerb := (State.sendLink_frame s to_ m .kerb rfl).symm
@[simp] theorem State.sendLink_cover (s : State) (to_ : Nat) (m : LinkMsg) : (s.sendLink to_ m).cover = s.cover := (State.sendLink_frame s to_ m .cover rfl).symm
@[simp] theorem State.sendLink_cache (s : State) (to_ : Nat) (m : LinkMsg) : (s.sendLink to_ m).cache = s.cache := (State.sendLink_frame s to_ m .cache rfl).symm
@[simp] theorem State.sendLink_radio (s : State) (to_ : Nat) (m : LinkMsg) : (s.sendLink to_ m).radio = s.radio := (State.sendLink_frame s to_ m .radio rfl).symm
@[simp] theorem State.sendLink_crier (s : State) (to_ : Nat) (m : LinkMsg) : (s.sendLink to_ m).crier = s.crier := (State.sendLink_frame s to_ m .crier rfl).symm
@[simp] theorem State.sendLink_tram (s : State) (to_ : Nat) (m : LinkMsg) : (s.sendLink to_ m).tram = s.tram := (State.sendLink_frame s to_ m .tram rfl).symm
@[simp] theorem State.sendLink_net (s : State) (to_ : Nat) (m : LinkMsg) : (s.sendLink to_ m).net = s.net := (State.sendLink_frame s to_ m .net rfl).symm
@[simp] theorem State.sendLink_meter (s : State) (to_ : Nat) (m : LinkMsg) : (s.sendLink to_ m).meter = s.meter := (State.sendLink_frame s to_ m .meter rfl).symm
@[simp] theorem State.sendLink_zheoc (s : State) (to_ : Nat) (m : LinkMsg) : (s.sendLink to_ m).zheoc = s.zheoc := (State.sendLink_frame s to_ m .zheoc rfl).symm
@[simp] theorem State.sendLink_store (s : State) (to_ : Nat) (m : LinkMsg) : (s.sendLink to_ m).store = s.store := (State.sendLink_frame s to_ m .store rfl).symm
@[simp] theorem State.sendLink_milestone (s : State) (to_ : Nat) (m : LinkMsg) : (s.sendLink to_ m).milestone = s.milestone := (State.sendLink_frame s to_ m .milestone rfl).symm
@[simp] theorem State.sendLink_dict (s : State) (to_ : Nat) (m : LinkMsg) : (s.sendLink to_ m).dict = s.dict := (State.sendLink_frame s to_ m .dict rfl).symm
@[simp] theorem State.sendLink_bootDict (s : State) (to_ : Nat) (m : LinkMsg) : (s.sendLink to_ m).bootDict = s.bootDict := (State.sendLink_frame s to_ m .bootDict rfl).symm
@[simp] theorem State.sendLink_octets (s : State) (to_ : Nat) (m : LinkMsg) : (s.sendLink to_ m).octets = s.octets := (State.sendLink_frame s to_ m .octets rfl).symm
@[simp] theorem State.sendLink_periods (s : State) (to_ : Nat) (m : LinkMsg) : (s.sendLink to_ m).periods = s.periods := (State.sendLink_frame s to_ m .periods rfl).symm
@[simp] theorem State.sendLink_draws (s : State) (to_ : Nat) (m : LinkMsg) : (s.sendLink to_ m).draws = s.draws := (State.sendLink_frame s to_ m .draws rfl).symm
@[simp] theorem State.sendLink_pending (s : State) (to_ : Nat) (m : LinkMsg) : (s.sendLink to_ m).pending = s.pending := (State.sendLink_frame s to_ m .pending rfl).symm


end Sys2Proof.Machine
end

