-- ==== Sys2Proof/Laws/Shared2.lean ====
section
/-!
SUPPORT. Laws/Shared2.lean: what answers, host transfers and records to send change at most.
-/
namespace Sys2Proof.Machine

theorem State.countAnswer_frame (s : State) (n : Nat) : State.changesOnly [.dict, .milestone] s (s.countAnswer n) :=
  (((s.incr_frame _).seq (State.raiseReg_frame _ _ _)).seq (State.milestoneSample_frame _ _ _)).within (by decide)

@[simp] theorem State.countAnswer_mode (s : State) (n : Nat) : (s.countAnswer n).mode = s.mode := (State.countAnswer_frame s n .mode rfl).symm
@[simp] theorem State.countAnswer_boot (s : State) (n : Nat) : (s.countAnswer n).boot = s.boot := (State.countAnswer_frame s n .boot rfl).symm
@[simp] theorem State.countAnswer_outputs (s : State) (n : Nat) : (s.countAnswer n).outputs = s.outputs := (State.countAnswer_frame s n .outputs rfl).symm
@[simp] theorem State.countAnswer_power (s : State) (n : Nat) : (s.countAnswer n).power = s.power := (State.countAnswer_frame s n .power rfl).symm
@[simp] theorem State.countAnswer_clk (s : State) (n : Nat) : (s.countAnswer n).clk = s.clk := (State.countAnswer_frame s n .clk rfl).symm
@[simp] theorem State.countAnswer_roundabout (s : State) (n : Nat) : (s.countAnswer n).roundabout = s.roundabout := (State.countAnswer_frame s n .roundabout rfl).symm
@[simp] theorem State.countAnswer_queues (s : State) (n : Nat) : (s.countAnswer n).queues = s.queues := (State.countAnswer_frame s n .queues rfl).symm
@[simp] theorem State.countAnswer_host (s : State) (n : Nat) : (s.countAnswer n).host = s.host := (State.countAnswer_frame s n .host rfl).symm
@[simp] theorem State.countAnswer_mbox (s : State) (n : Nat) : (s.countAnswer n).mbox = s.mbox := (State.countAnswer_frame s n .mbox rfl).symm
@[simp] theorem State.countAnswer_sessions (s : State) (n : Nat) : (s.countAnswer n).sessions = s.sessions := (State.countAnswer_frame s n .sessions rfl).symm
@[simp] theorem State.countAnswer_remotes (s : State) (n : Nat) : (s.countAnswer n).remotes = s.remotes := (State.countAnswer_frame s n .remotes rfl).symm
@[simp] theorem State.countAnswer_gnss (s : State) (n : Nat) : (s.countAnswer n).gnss = s.gnss := (State.countAnswer_frame s n .gnss rfl).symm
@[simp] theorem State.countAnswer_obs (s : State) (n : Nat) : (s.countAnswer n).obs = s.obs := (State.countAnswer_frame s n .obs rfl).symm
@[simp] theorem State.countAnswer_baseRef (s : State) (n : Nat) : (s.countAnswer n).baseRef = s.baseRef := (State.countAnswer_frame s n .baseRef rfl).symm
@[simp] theorem State.countAnswer_nav (s : State) (n : Nat) : (s.countAnswer n).nav = s.nav := (State.countAnswer_frame s n .nav rfl).symm
@[simp] theorem State.countAnswer_blv (s : State) (n : Nat) : (s.countAnswer n).blv = s.blv := (State.countAnswer_frame s n .blv rfl).symm
@[simp] theorem State.countAnswer_kerb (s : State) (n : Nat) : (s.countAnswer n).kerb = s.kerb := (State.countAnswer_frame s n .kerb rfl).symm
@[simp] theorem State.countAnswer_cover (s : State) (n : Nat) : (s.countAnswer n).cover = s.cover := (State.countAnswer_frame s n .cover rfl).symm
@[simp] theorem State.countAnswer_cache (s : State) (n : Nat) : (s.countAnswer n).cache = s.cache := (State.countAnswer_frame s n .cache rfl).symm
@[simp] theorem State.countAnswer_fleet (s : State) (n : Nat) : (s.countAnswer n).fleet = s.fleet := (State.countAnswer_frame s n .fleet rfl).symm
@[simp] theorem State.countAnswer_radio (s : State) (n : Nat) : (s.countAnswer n).radio = s.radio := (State.countAnswer_frame s n .radio rfl).symm
@[simp] theorem State.countAnswer_crier (s : State) (n : Nat) : (s.countAnswer n).crier = s.crier := (State.countAnswer_frame s n .crier rfl).symm
@[simp] theorem State.countAnswer_gate (s : State) (n : Nat) : (s.countAnswer n).gate = s.gate := (State.countAnswer_frame s n .gate rfl).symm
@[simp] theorem State.countAnswer_tram (s : State) (n : Nat) : (s.countAnswer n).tram = s.tram := (State.countAnswer_frame s n .tram rfl).symm
@[simp] theorem State.countAnswer_net (s : State) (n : Nat) : (s.countAnswer n).net = s.net := (State.countAnswer_frame s n .net rfl).symm
@[simp] theorem State.countAnswer_meter (s : State) (n : Nat) : (s.countAnswer n).meter = s.meter := (State.countAnswer_frame s n .meter rfl).symm
@[simp] theorem State.countAnswer_zheoc (s : State) (n : Nat) : (s.countAnswer n).zheoc = s.zheoc := (State.countAnswer_frame s n .zheoc rfl).symm
@[simp] theorem State.countAnswer_store (s : State) (n : Nat) : (s.countAnswer n).store = s.store := (State.countAnswer_frame s n .store rfl).symm
@[simp] theorem State.countAnswer_bootDict (s : State) (n : Nat) : (s.countAnswer n).bootDict = s.bootDict := (State.countAnswer_frame s n .bootDict rfl).symm
@[simp] theorem State.countAnswer_octets (s : State) (n : Nat) : (s.countAnswer n).octets = s.octets := (State.countAnswer_frame s n .octets rfl).symm
@[simp] theorem State.countAnswer_periods (s : State) (n : Nat) : (s.countAnswer n).periods = s.periods := (State.countAnswer_frame s n .periods rfl).symm
@[simp] theorem State.countAnswer_draws (s : State) (n : Nat) : (s.countAnswer n).draws = s.draws := (State.countAnswer_frame s n .draws rfl).symm
@[simp] theorem State.countAnswer_pending (s : State) (n : Nat) : (s.countAnswer n).pending = s.pending := (State.countAnswer_frame s n .pending rfl).symm

theorem State.deliver_frame (s : State) (q : Sess) (r : Request) (abort : Abort) (data : List Byte) (more : Bool) : State.changesOnly [.sessions, .mbox, .host] s (s.deliver q r abort data more) := by
  have h : ∀ f, State.changesOnly [.sessions, .mbox, .host] s (s.updSession q f) := fun f => (s.updSession_frame q f).within (by decide)
  cases q
  case host => exact (((s.updSession_frame .host _).seq (only_mbox _ _)).seq (State.raiseIrq_frame _ _)).within (by decide)
  all_goals exact h _

@[simp] theorem State.deliver_mode (s : State) (q : Sess) (r : Request) (abort : Abort) (data : List Byte) (more : Bool) : (s.deliver q r abort data more).mode = s.mode := (State.deliver_frame s q r abort data more .mode rfl).symm
@[simp] theorem State.deliver_boot (s : State) (q : Sess) (r : Request) (abort : Abort) (data : List Byte) (more : Bool) : (s.deliver q r abort data more).boot = s.boot := (State.deliver_frame s q r abort data more .boot rfl).symm
@[simp] theorem State.deliver_outputs (s : State) (q : Sess) (r : Request) (abort : Abort) (data : List Byte) (more : Bool) : (s.deliver q r abort data more).outputs = s.outputs := (State.deliver_frame s q r abort data more .outputs rfl).symm
@[simp] theorem State.deliver_power (s : State) (q : Sess) (r : Request) (abort : Abort) (data : List Byte) (more : Bool) : (s.deliver q r abort data more).power = s.power := (State.deliver_frame s q r abort data more .power rfl).symm
@[simp] theorem State.deliver_clk (s : State) (q : Sess) (r : Request) (abort : Abort) (data : List Byte) (more : Bool) : (s.deliver q r abort data more).clk = s.clk := (State.deliver_frame s q r abort data more .clk rfl).symm
@[simp] theorem State.deliver_roundabout (s : State) (q : Sess) (r : Request) (abort : Abort) (data : List Byte) (more : Bool) : (s.deliver q r abort data more).roundabout = s.roundabout := (State.deliver_frame s q r abort data more .roundabout rfl).symm
@[simp] theorem State.deliver_queues (s : State) (q : Sess) (r : Request) (abort : Abort) (data : List Byte) (more : Bool) : (s.deliver q r abort data more).queues = s.queues := (State.deliver_frame s q r abort data more .queues rfl).symm
@[simp] theorem State.deliver_remotes (s : State) (q : Sess) (r : Request) (abort : Abort) (data : List Byte) (more : Bool) : (s.deliver q r abort data more).remotes = s.remotes := (State.deliver_frame s q r abort data more .remotes rfl).symm
@[simp] theorem State.deliver_gnss (s : State) (q : Sess) (r : Request) (abort : Abort) (data : List Byte) (more : Bool) : (s.deliver q r abort data more).gnss = s.gnss := (State.deliver_frame s q r abort data more .gnss rfl).symm
@[simp] theorem State.deliver_obs (s : State) (q : Sess) (r : Request) (abort : Abort) (data : List Byte) (more : Bool) : (s.deliver q r abort data more).obs = s.obs := (State.deliver_frame s q r abort data more .obs rfl).symm
@[simp] theorem State.deliver_baseRef (s : State) (q : Sess) (r : Request) (abort : Abort) (data : List Byte) (more : Bool) : (s.deliver q r abort data more).baseRef = s.baseRef := (State.deliver_frame s q r abort data more .baseRef rfl).symm
@[simp] theorem State.deliver_nav (s : State) (q : Sess) (r : Request) (abort : Abort) (data : List Byte) (more : Bool) : (s.deliver q r abort data more).nav = s.nav := (State.deliver_frame s q r abort data more .nav rfl).symm
@[simp] theorem State.deliver_blv (s : State) (q : Sess) (r : Request) (abort : Abort) (data : List Byte) (more : Bool) : (s.deliver q r abort data more).blv = s.blv := (State.deliver_frame s q r abort data more .blv rfl).symm
@[simp] theorem State.deliver_kerb (s : State) (q : Sess) (r : Request) (abort : Abort) (data : List Byte) (more : Bool) : (s.deliver q r abort data more).kerb = s.kerb := (State.deliver_frame s q r abort data more .kerb rfl).symm
@[simp] theorem State.deliver_cover (s : State) (q : Sess) (r : Request) (abort : Abort) (data : List Byte) (more : Bool) : (s.deliver q r abort data more).cover = s.cover := (State.deliver_frame s q r abort data more .cover rfl).symm
@[simp] theorem State.deliver_cache (s : State) (q : Sess) (r : Request) (abort : Abort) (data : List Byte) (more : Bool) : (s.deliver q r abort data more).cache = s.cache := (State.deliver_frame s q r abort data more .cache rfl).symm
@[simp] theorem State.deliver_fleet (s : State) (q : Sess) (r : Request) (abort : Abort) (data : List Byte) (more : Bool) : (s.deliver q r abort data more).fleet = s.fleet := (State.deliver_frame s q r abort data more .fleet rfl).symm
@[simp] theorem State.deliver_radio (s : State) (q : Sess) (r : Request) (abort : Abort) (data : List Byte) (more : Bool) : (s.deliver q r abort data more).radio = s.radio := (State.deliver_frame s q r abort data more .radio rfl).symm
@[simp] theorem State.deliver_crier (s : State) (q : Sess) (r : Request) (abort : Abort) (data : List Byte) (more : Bool) : (s.deliver q r abort data more).crier = s.crier := (State.deliver_frame s q r abort data more .crier rfl).symm
@[simp] theorem State.deliver_gate (s : State) (q : Sess) (r : Request) (abort : Abort) (data : List Byte) (more : Bool) : (s.deliver q r abort data more).gate = s.gate := (State.deliver_frame s q r abort data more .gate rfl).symm
@[simp] theorem State.deliver_tram (s : State) (q : Sess) (r : Request) (abort : Abort) (data : List Byte) (more : Bool) : (s.deliver q r abort data more).tram = s.tram := (State.deliver_frame s q r abort data more .tram rfl).symm
@[simp] theorem State.deliver_net (s : State) (q : Sess) (r : Request) (abort : Abort) (data : List Byte) (more : Bool) : (s.deliver q r abort data more).net = s.net := (State.deliver_frame s q r abort data more .net rfl).symm
@[simp] theorem State.deliver_meter (s : State) (q : Sess) (r : Request) (abort : Abort) (data : List Byte) (more : Bool) : (s.deliver q r abort data more).meter = s.meter := (State.deliver_frame s q r abort data more .meter rfl).symm
@[simp] theorem State.deliver_zheoc (s : State) (q : Sess) (r : Request) (abort : Abort) (data : List Byte) (more : Bool) : (s.deliver q r abort data more).zheoc = s.zheoc := (State.deliver_frame s q r abort data more .zheoc rfl).symm
@[simp] theorem State.deliver_store (s : State) (q : Sess) (r : Request) (abort : Abort) (data : List Byte) (more : Bool) : (s.deliver q r abort data more).store = s.store := (State.deliver_frame s q r abort data more .store rfl).symm
@[simp] theorem State.deliver_milestone (s : State) (q : Sess) (r : Request) (abort : Abort) (data : List Byte) (more : Bool) : (s.deliver q r abort data more).milestone = s.milestone := (State.deliver_frame s q r abort data more .milestone rfl).symm
@[simp] theorem State.deliver_dict (s : State) (q : Sess) (r : Request) (abort : Abort) (data : List Byte) (more : Bool) : (s.deliver q r abort data more).dict = s.dict := (State.deliver_frame s q r abort data more .dict rfl).symm
@[simp] theorem State.deliver_bootDict (s : State) (q : Sess) (r : Request) (abort : Abort) (data : List Byte) (more : Bool) : (s.deliver q r abort data more).bootDict = s.bootDict := (State.deliver_frame s q r abort data more .bootDict rfl).symm
@[simp] theorem State.deliver_octets (s : State) (q : Sess) (r : Request) (abort : Abort) (data : List Byte) (more : Bool) : (s.deliver q r abort data more).octets = s.octets := (State.deliver_frame s q r abort data more .octets rfl).symm
@[simp] theorem State.deliver_periods (s : State) (q : Sess) (r : Request) (abort : Abort) (data : List Byte) (more : Bool) : (s.deliver q r abort data more).periods = s.periods := (State.deliver_frame s q r abort data more .periods rfl).symm
@[simp] theorem State.deliver_draws (s : State) (q : Sess) (r : Request) (abort : Abort) (data : List Byte) (more : Bool) : (s.deliver q r abort data more).draws = s.draws := (State.deliver_frame s q r abort data more .draws rfl).symm
@[simp] theorem State.deliver_pending (s : State) (q : Sess) (r : Request) (abort : Abort) (data : List Byte) (more : Bool) : (s.deliver q r abort data more).pending = s.pending := (State.deliver_frame s q r abort data more .pending rfl).symm

theorem State.answer_frame (s : State) (q : Sess) (tag : Nat) (abort : Abort) (data : List Byte) (more : Bool) : State.changesOnly [.dict, .milestone, .sessions, .mbox, .host] s (s.answer q tag abort data more) :=
  (s.countAnswer_frame _).seq (State.deliver_frame _ _ _ _ _ _)

@[simp] theorem State.answer_mode (s : State) (q : Sess) (tag : Nat) (abort : Abort) (data : List Byte) (more : Bool) : (s.answer q tag abort data more).mode = s.mode := (State.answer_frame s q tag abort data more .mode rfl).symm
@[simp] theorem State.answer_boot (s : State) (q : Sess) (tag : Nat) (abort : Abort) (data : List Byte) (more : Bool) : (s.answer q tag abort data more).boot = s.boot := (State.answer_frame s q tag abort data more .boot rfl).symm
@[simp] theorem State.answer_outputs (s : State) (q : Sess) (tag : Nat) (abort : Abort) (data : List Byte) (more : Bool) : (s.answer q tag abort data more).outputs = s.outputs := (State.answer_frame s q tag abort data more .outputs rfl).symm
@[simp] theorem State.answer_power (s : State) (q : Sess) (tag : Nat) (abort : Abort) (data : List Byte) (more : Bool) : (s.answer q tag abort data more).power = s.power := (State.answer_frame s q tag abort data more .power rfl).symm
@[simp] theorem State.answer_clk (s : State) (q : Sess) (tag : Nat) (abort : Abort) (data : List Byte) (more : Bool) : (s.answer q tag abort data more).clk = s.clk := (State.answer_frame s q tag abort data more .clk rfl).symm
@[simp] theorem State.answer_roundabout (s : State) (q : Sess) (tag : Nat) (abort : Abort) (data : List Byte) (more : Bool) : (s.answer q tag abort data more).roundabout = s.roundabout := (State.answer_frame s q tag abort data more .roundabout rfl).symm
@[simp] theorem State.answer_queues (s : State) (q : Sess) (tag : Nat) (abort : Abort) (data : List Byte) (more : Bool) : (s.answer q tag abort data more).queues = s.queues := (State.answer_frame s q tag abort data more .queues rfl).symm
@[simp] theorem State.answer_remotes (s : State) (q : Sess) (tag : Nat) (abort : Abort) (data : List Byte) (more : Bool) : (s.answer q tag abort data more).remotes = s.remotes := (State.answer_frame s q tag abort data more .remotes rfl).symm
@[simp] theorem State.answer_gnss (s : State) (q : Sess) (tag : Nat) (abort : Abort) (data : List Byte) (more : Bool) : (s.answer q tag abort data more).gnss = s.gnss := (State.answer_frame s q tag abort data more .gnss rfl).symm
@[simp] theorem State.answer_obs (s : State) (q : Sess) (tag : Nat) (abort : Abort) (data : List Byte) (more : Bool) : (s.answer q tag abort data more).obs = s.obs := (State.answer_frame s q tag abort data more .obs rfl).symm
@[simp] theorem State.answer_baseRef (s : State) (q : Sess) (tag : Nat) (abort : Abort) (data : List Byte) (more : Bool) : (s.answer q tag abort data more).baseRef = s.baseRef := (State.answer_frame s q tag abort data more .baseRef rfl).symm
@[simp] theorem State.answer_nav (s : State) (q : Sess) (tag : Nat) (abort : Abort) (data : List Byte) (more : Bool) : (s.answer q tag abort data more).nav = s.nav := (State.answer_frame s q tag abort data more .nav rfl).symm
@[simp] theorem State.answer_blv (s : State) (q : Sess) (tag : Nat) (abort : Abort) (data : List Byte) (more : Bool) : (s.answer q tag abort data more).blv = s.blv := (State.answer_frame s q tag abort data more .blv rfl).symm
@[simp] theorem State.answer_kerb (s : State) (q : Sess) (tag : Nat) (abort : Abort) (data : List Byte) (more : Bool) : (s.answer q tag abort data more).kerb = s.kerb := (State.answer_frame s q tag abort data more .kerb rfl).symm
@[simp] theorem State.answer_cover (s : State) (q : Sess) (tag : Nat) (abort : Abort) (data : List Byte) (more : Bool) : (s.answer q tag abort data more).cover = s.cover := (State.answer_frame s q tag abort data more .cover rfl).symm
@[simp] theorem State.answer_cache (s : State) (q : Sess) (tag : Nat) (abort : Abort) (data : List Byte) (more : Bool) : (s.answer q tag abort data more).cache = s.cache := (State.answer_frame s q tag abort data more .cache rfl).symm
@[simp] theorem State.answer_fleet (s : State) (q : Sess) (tag : Nat) (abort : Abort) (data : List Byte) (more : Bool) : (s.answer q tag abort data more).fleet = s.fleet := (State.answer_frame s q tag abort data more .fleet rfl).symm
@[simp] theorem State.answer_radio (s : State) (q : Sess) (tag : Nat) (abort : Abort) (data : List Byte) (more : Bool) : (s.answer q tag abort data more).radio = s.radio := (State.answer_frame s q tag abort data more .radio rfl).symm
@[simp] theorem State.answer_crier (s : State) (q : Sess) (tag : Nat) (abort : Abort) (data : List Byte) (more : Bool) : (s.answer q tag abort data more).crier = s.crier := (State.answer_frame s q tag abort data more .crier rfl).symm
@[simp] theorem State.answer_gate (s : State) (q : Sess) (tag : Nat) (abort : Abort) (data : List Byte) (more : Bool) : (s.answer q tag abort data more).gate = s.gate := (State.answer_frame s q tag abort data more .gate rfl).symm
@[simp] theorem State.answer_tram (s : State) (q : Sess) (tag : Nat) (abort : Abort) (data : List Byte) (more : Bool) : (s.answer q tag abort data more).tram = s.tram := (State.answer_frame s q tag abort data more .tram rfl).symm
@[simp] theorem State.answer_net (s : State) (q : Sess) (tag : Nat) (abort : Abort) (data : List Byte) (more : Bool) : (s.answer q tag abort data more).net = s.net := (State.answer_frame s q tag abort data more .net rfl).symm
@[simp] theorem State.answer_meter (s : State) (q : Sess) (tag : Nat) (abort : Abort) (data : List Byte) (more : Bool) : (s.answer q tag abort data more).meter = s.meter := (State.answer_frame s q tag abort data more .meter rfl).symm
@[simp] theorem State.answer_zheoc (s : State) (q : Sess) (tag : Nat) (abort : Abort) (data : List Byte) (more : Bool) : (s.answer q tag abort data more).zheoc = s.zheoc := (State.answer_frame s q tag abort data more .zheoc rfl).symm
@[simp] theorem State.answer_store (s : State) (q : Sess) (tag : Nat) (abort : Abort) (data : List Byte) (more : Bool) : (s.answer q tag abort data more).store = s.store := (State.answer_frame s q tag abort data more .store rfl).symm
@[simp] theorem State.answer_bootDict (s : State) (q : Sess) (tag : Nat) (abort : Abort) (data : List Byte) (more : Bool) : (s.answer q tag abort data more).bootDict = s.bootDict := (State.answer_frame s q tag abort data more .bootDict rfl).symm
@[simp] theorem State.answer_octets (s : State) (q : Sess) (tag : Nat) (abort : Abort) (data : List Byte) (more : Bool) : (s.answer q tag abort data more).octets = s.octets := (State.answer_frame s q tag abort data more .octets rfl).symm
@[simp] theorem State.answer_periods (s : State) (q : Sess) (tag : Nat) (abort : Abort) (data : List Byte) (more : Bool) : (s.answer q tag abort data more).periods = s.periods := (State.answer_frame s q tag abort data more .periods rfl).symm
@[simp] theorem State.answer_draws (s : State) (q : Sess) (tag : Nat) (abort : Abort) (data : List Byte) (more : Bool) : (s.answer q tag abort data more).draws = s.draws := (State.answer_frame s q tag abort data more .draws rfl).symm
@[simp] theorem State.answer_pending (s : State) (q : Sess) (tag : Nat) (abort : Abort) (data : List Byte) (more : Bool) : (s.answer q tag abort data more).pending = s.pending := (State.answer_frame s q tag abort data more .pending rfl).symm

theorem State.answerFor_frame (s : State) (q : Sess) (r : Request) (abort : Nat) (data : List Byte) (more : Bool) : State.changesOnly [.dict, .milestone, .sessions, .mbox, .host] s (s.answerFor q r abort data more) :=
  ((s.updSession_frame q _).seq (State.answer_frame _ _ _ _ _ _)).within (by decide)

@[simp] theorem State.answerFor_mode (s : State) (q : Sess) (r : Request) (abort : Nat) (data : List Byte) (more : Bool) : (s.answerFor q r abort data more).mode = s.mode := (State.answerFor_frame s q r abort data more .mode rfl).symm
@[simp] theorem State.answerFor_boot (s : State) (q : Sess) (r : Request) (abort : Nat) (data : List Byte) (more : Bool) : (s.answerFor q r abort data more).boot = s.boot := (State.answerFor_frame s q r abort data more .boot rfl).symm
@[simp] theorem State.answerFor_outputs (s : State) (q : Sess) (r : Request) (abort : Nat) (data : List Byte) (more : Bool) : (s.answerFor q r abort data more).outputs = s.outputs := (State.answerFor_frame s q r abort data more .outputs rfl).symm
@[simp] theorem State.answerFor_power (s : State) (q : Sess) (r : Request) (abort : Nat) (data : List Byte) (more : Bool) : (s.answerFor q r abort data more).power = s.power := (State.answerFor_frame s q r abort data more .power rfl).symm
@[simp] theorem State.answerFor_clk (s : State) (q : Sess) (r : Request) (abort : Nat) (data : List Byte) (more : Bool) : (s.answerFor q r abort data more).clk = s.clk := (State.answerFor_frame s q r abort data more .clk rfl).symm
@[simp] theorem State.answerFor_roundabout (s : State) (q : Sess) (r : Request) (abort : Nat) (data : List Byte) (more : Bool) : (s.answerFor q r abort data more).roundabout = s.roundabout := (State.answerFor_frame s q r abort data more .roundabout rfl).symm
@[simp] theorem State.answerFor_queues (s : State) (q : Sess) (r : Request) (abort : Nat) (data : List Byte) (more : Bool) : (s.answerFor q r abort data more).queues = s.queues := (State.answerFor_frame s q r abort data more .queues rfl).symm
@[simp] theorem State.answerFor_remotes (s : State) (q : Sess) (r : Request) (abort : Nat) (data : List Byte) (more : Bool) : (s.answerFor q r abort data more).remotes = s.remotes := (State.answerFor_frame s q r abort data more .remotes rfl).symm
@[simp] theorem State.answerFor_gnss (s : State) (q : Sess) (r : Request) (abort : Nat) (data : List Byte) (more : Bool) : (s.answerFor q r abort data more).gnss = s.gnss := (State.answerFor_frame s q r abort data more .gnss rfl).symm
@[simp] theorem State.answerFor_obs (s : State) (q : Sess) (r : Request) (abort : Nat) (data : List Byte) (more : Bool) : (s.answerFor q r abort data more).obs = s.obs := (State.answerFor_frame s q r abort data more .obs rfl).symm
@[simp] theorem State.answerFor_baseRef (s : State) (q : Sess) (r : Request) (abort : Nat) (data : List Byte) (more : Bool) : (s.answerFor q r abort data more).baseRef = s.baseRef := (State.answerFor_frame s q r abort data more .baseRef rfl).symm
@[simp] theorem State.answerFor_nav (s : State) (q : Sess) (r : Request) (abort : Nat) (data : List Byte) (more : Bool) : (s.answerFor q r abort data more).nav = s.nav := (State.answerFor_frame s q r abort data more .nav rfl).symm
@[simp] theorem State.answerFor_blv (s : State) (q : Sess) (r : Request) (abort : Nat) (data : List Byte) (more : Bool) : (s.answerFor q r abort data more).blv = s.blv := (State.answerFor_frame s q r abort data more .blv rfl).symm
@[simp] theorem State.answerFor_kerb (s : State) (q : Sess) (r : Request) (abort : Nat) (data : List Byte) (more : Bool) : (s.answerFor q r abort data more).kerb = s.kerb := (State.answerFor_frame s q r abort data more .kerb rfl).symm
@[simp] theorem State.answerFor_cover (s : State) (q : Sess) (r : Request) (abort : Nat) (data : List Byte) (more : Bool) : (s.answerFor q r abort data more).cover = s.cover := (State.answerFor_frame s q r abort data more .cover rfl).symm
@[simp] theorem State.answerFor_cache (s : State) (q : Sess) (r : Request) (abort : Nat) (data : List Byte) (more : Bool) : (s.answerFor q r abort data more).cache = s.cache := (State.answerFor_frame s q r abort data more .cache rfl).symm
@[simp] theorem State.answerFor_fleet (s : State) (q : Sess) (r : Request) (abort : Nat) (data : List Byte) (more : Bool) : (s.answerFor q r abort data more).fleet = s.fleet := (State.answerFor_frame s q r abort data more .fleet rfl).symm
@[simp] theorem State.answerFor_radio (s : State) (q : Sess) (r : Request) (abort : Nat) (data : List Byte) (more : Bool) : (s.answerFor q r abort data more).radio = s.radio := (State.answerFor_frame s q r abort data more .radio rfl).symm
@[simp] theorem State.answerFor_crier (s : State) (q : Sess) (r : Request) (abort : Nat) (data : List Byte) (more : Bool) : (s.answerFor q r abort data more).crier = s.crier := (State.answerFor_frame s q r abort data more .crier rfl).symm
@[simp] theorem State.answerFor_gate (s : State) (q : Sess) (r : Request) (abort : Nat) (data : List Byte) (more : Bool) : (s.answerFor q r abort data more).gate = s.gate := (State.answerFor_frame s q r abort data more .gate rfl).symm
@[simp] theorem State.answerFor_tram (s : State) (q : Sess) (r : Request) (abort : Nat) (data : List Byte) (more : Bool) : (s.answerFor q r abort data more).tram = s.tram := (State.answerFor_frame s q r abort data more .tram rfl).symm
@[simp] theorem State.answerFor_net (s : State) (q : Sess) (r : Request) (abort : Nat) (data : List Byte) (more : Bool) : (s.answerFor q r abort data more).net = s.net := (State.answerFor_frame s q r abort data more .net rfl).symm
@[simp] theorem State.answerFor_meter (s : State) (q : Sess) (r : Request) (abort : Nat) (data : List Byte) (more : Bool) : (s.answerFor q r abort data more).meter = s.meter := (State.answerFor_frame s q r abort data more .meter rfl).symm
@[simp] theorem State.answerFor_zheoc (s : State) (q : Sess) (r : Request) (abort : Nat) (data : List Byte) (more : Bool) : (s.answerFor q r abort data more).zheoc = s.zheoc := (State.answerFor_frame s q r abort data more .zheoc rfl).symm
@[simp] theorem State.answerFor_store (s : State) (q : Sess) (r : Request) (abort : Nat) (data : List Byte) (more : Bool) : (s.answerFor q r abort data more).store = s.store := (State.answerFor_frame s q r abort data more .store rfl).symm
@[simp] theorem State.answerFor_bootDict (s : State) (q : Sess) (r : Request) (abort : Nat) (data : List Byte) (more : Bool) : (s.answerFor q r abort data more).bootDict = s.bootDict := (State.answerFor_frame s q r abort data more .bootDict rfl).symm
@[simp] theorem State.answerFor_octets (s : State) (q : Sess) (r : Request) (abort : Nat) (data : List Byte) (more : Bool) : (s.answerFor q r abort data more).octets = s.octets := (State.answerFor_frame s q r abort data more .octets rfl).symm
@[simp] theorem State.answerFor_periods (s : State) (q : Sess) (r : Request) (abort : Nat) (data : List Byte) (more : Bool) : (s.answerFor q r abort data more).periods = s.periods := (State.answerFor_frame s q r abort data more .periods rfl).symm
@[simp] theorem State.answerFor_draws (s : State) (q : Sess) (r : Request) (abort : Nat) (data : List Byte) (more : Bool) : (s.answerFor q r abort data more).draws = s.draws := (State.answerFor_frame s q r abort data more .draws rfl).symm
@[simp] theorem State.answerFor_pending (s : State) (q : Sess) (r : Request) (abort : Nat) (data : List Byte) (more : Bool) : (s.answerFor q r abort data more).pending = s.pending := (State.answerFor_frame s q r abort data more .pending rfl).symm

theorem State.sendAll_frame (s : State) (m : LinkMsg) : State.changesOnly [.fleet, .gate] s (s.sendAll m) :=
  changesOnly_foldl (fun s b => State.sendLink_frame s b m) _ s

@[simp] theorem State.sendAll_mode (s : State) (m : LinkMsg) : (s.sendAll m).mode = s.mode := (State.sendAll_frame s m .mode rfl).symm
@[simp] theorem State.sendAll_boot (s : State) (m : LinkMsg) : (s.sendAll m).boot = s.boot := (State.sendAll_frame s m .boot rfl).symm
@[simp] theorem State.sendAll_outputs (s : State) (m : LinkMsg) : (s.sendAll m).outputs = s.outputs := (State.sendAll_frame s m .outputs rfl).symm
@[simp] theorem State.sendAll_power (s : State) (m : LinkMsg) : (s.sendAll m).power = s.power := (State.sendAll_frame s m .power rfl).symm
@[simp] theorem State.sendAll_clk (s : State) (m : LinkMsg) : (s.sendAll m).clk = s.clk := (State.sendAll_frame s m .clk rfl).symm
@[simp] theorem State.sendAll_roundabout (s : State) (m : LinkMsg) : (s.sendAll m).roundabout = s.roundabout := (State.sendAll_frame s m .roundabout rfl).symm
@[simp] theorem State.sendAll_queues (s : State) (m : LinkMsg) : (s.sendAll m).queues = s.queues := (State.sendAll_frame s m .queues rfl).symm
@[simp] theorem State.sendAll_host (s : State) (m : LinkMsg) : (s.sendAll m).host = s.host := (State.sendAll_frame s m .host rfl).symm
@[simp] theorem State.sendAll_mbox (s : State) (m : LinkMsg) : (s.sendAll m).mbox = s.mbox := (State.sendAll_frame s m .mbox rfl).symm
@[simp] theorem State.sendAll_sessions (s : State) (m : LinkMsg) : (s.sendAll m).sessions = s.sessions := (State.sendAll_frame s m .sessions rfl).symm
@[simp] theorem State.sendAll_remotes (s : State) (m : LinkMsg) : (s.sendAll m).remotes = s.remotes := (State.sendAll_frame s m .remotes rfl).symm
@[simp] theorem State.sendAll_gnss (s : State) (m : LinkMsg) : (s.sendAll m).gnss = s.gnss := (State.sendAll_frame s m .gnss rfl).symm
@[simp] theorem State.sendAll_obs (s : State) (m : LinkMsg) : (s.sendAll m).obs = s.obs := (State.sendAll_frame s m .obs rfl).symm
@[simp] theorem State.sendAll_baseRef (s : State) (m : LinkMsg) : (s.sendAll m).baseRef = s.baseRef := (State.sendAll_frame s m .baseRef rfl).symm
@[simp] theorem State.sendAll_nav (s : State) (m : LinkMsg) : (s.sendAll m).nav = s.nav := (State.sendAll_frame s m .nav rfl).symm
@[simp] theorem State.sendAll_blv (s : State) (m : LinkMsg) : (s.sendAll m).blv = s.blv := (State.sendAll_frame s m .blv rfl).symm
@[simp] theorem State.sendAll_kerb (s : State) (m : LinkMsg) : (s.sendAll m).kerb = s.kerb := (State.sendAll_frame s m .kerb rfl).symm
@[simp] theorem State.sendAll_cover (s : State) (m : LinkMsg) : (s.sendAll m).cover = s.cover := (State.sendAll_frame s m .cover rfl).symm
@[simp] theorem State.sendAll_cache (s : State) (m : LinkMsg) : (s.sendAll m).cache = s.cache := (State.sendAll_frame s m .cache rfl).symm
@[simp] theorem State.sendAll_radio (s : State) (m : LinkMsg) : (s.sendAll m).radio = s.radio := (State.sendAll_frame s m .radio rfl).symm
@[simp] theorem State.sendAll_crier (s : State) (m : LinkMsg) : (s.sendAll m).crier = s.crier := (State.sendAll_frame s m .crier rfl).symm
@[simp] theorem State.sendAll_tram (s : State) (m : LinkMsg) : (s.sendAll m).tram = s.tram := (State.sendAll_frame s m .tram rfl).symm
@[simp] theorem State.sendAll_net (s : State) (m : LinkMsg) : (s.sendAll m).net = s.net := (State.sendAll_frame s m .net rfl).symm
@[simp] theorem State.sendAll_meter (s : State) (m : LinkMsg) : (s.sendAll m).meter = s.meter := (State.sendAll_frame s m .meter rfl).symm
@[simp] theorem State.sendAll_zheoc (s : State) (m : LinkMsg) : (s.sendAll m).zheoc = s.zheoc := (State.sendAll_frame s m .zheoc rfl).symm
@[simp] theorem State.sendAll_store (s : State) (m : LinkMsg) : (s.sendAll m).store = s.store := (State.sendAll_frame s m .store rfl).symm
@[simp] theorem State.sendAll_milestone (s : State) (m : LinkMsg) : (s.sendAll m).milestone = s.milestone := (State.sendAll_frame s m .milestone rfl).symm
@[simp] theorem State.sendAll_dict (s : State) (m : LinkMsg) : (s.sendAll m).dict = s.dict := (State.sendAll_frame s m .dict rfl).symm
@[simp] theorem State.sendAll_bootDict (s : State) (m : LinkMsg) : (s.sendAll m).bootDict = s.bootDict := (State.sendAll_frame s m .bootDict rfl).symm
@[simp] theorem State.sendAll_octets (s : State) (m : LinkMsg) : (s.sendAll m).octets = s.octets := (State.sendAll_frame s m .octets rfl).symm
@[simp] theorem State.sendAll_periods (s : State) (m : LinkMsg) : (s.sendAll m).periods = s.periods := (State.sendAll_frame s m .periods rfl).symm
@[simp] theorem State.sendAll_draws (s : State) (m : LinkMsg) : (s.sendAll m).draws = s.draws := (State.sendAll_frame s m .draws rfl).symm
@[simp] theorem State.sendAll_pending (s : State) (m : LinkMsg) : (s.sendAll m).pending = s.pending := (State.sendAll_frame s m .pending rfl).symm

theorem State.queueUp_frame (s : State) (r : AirRecord) : State.changesOnly [.radio] s (s.queueUp r) :=
  only_radio s _

@[simp] theorem State.queueUp_mode (s : State) (r : AirRecord) : (s.queueUp r).mode = s.mode := (State.queueUp_frame s r .mode rfl).symm
@[simp] theorem State.queueUp_boot (s : State) (r : AirRecord) : (s.queueUp r).boot = s.boot := (State.queueUp_frame s r .boot rfl).symm
@[simp] theorem State.queueUp_outputs (s : State) (r : AirRecord) : (s.queueUp r).outputs = s.outputs := (State.queueUp_frame s r .outputs rfl).symm
@[simp] theorem State.queueUp_power (s : State) (r : AirRecord) : (s.queueUp r).power = s.power := (State.queueUp_frame s r .power rfl).symm
@[simp] theorem State.queueUp_clk (s : State) (r : AirRecord) : (s.queueUp r).clk = s.clk := (State.queueUp_frame s r .clk rfl).symm
@[simp] theorem State.queueUp_roundabout (s : State) (r : AirRecord) : (s.queueUp r).roundabout = s.roundabout := (State.queueUp_frame s r .roundabout rfl).symm
@[simp] theorem State.queueUp_queues (s : State) (r : AirRecord) : (s.queueUp r).queues = s.queues := (State.queueUp_frame s r .queues rfl).symm
@[simp] theorem State.queueUp_host (s : State) (r : AirRecord) : (s.queueUp r).host = s.host := (State.queueUp_frame s r .host rfl).symm
@[simp] theorem State.queueUp_mbox (s : State) (r : AirRecord) : (s.queueUp r).mbox = s.mbox := (State.queueUp_frame s r .mbox rfl).symm
@[simp] theorem State.queueUp_sessions (s : State) (r : AirRecord) : (s.queueUp r).sessions = s.sessions := (State.queueUp_frame s r .sessions rfl).symm
@[simp] theorem State.queueUp_remotes (s : State) (r : AirRecord) : (s.queueUp r).remotes = s.remotes := (State.queueUp_frame s r .remotes rfl).symm
@[simp] theorem State.queueUp_gnss (s : State) (r : AirRecord) : (s.queueUp r).gnss = s.gnss := (State.queueUp_frame s r .gnss rfl).symm
@[simp] theorem State.queueUp_obs (s : State) (r : AirRecord) : (s.queueUp r).obs = s.obs := (State.queueUp_frame s r .obs rfl).symm
@[simp] theorem State.queueUp_baseRef (s : State) (r : AirRecord) : (s.queueUp r).baseRef = s.baseRef := (State.queueUp_frame s r .baseRef rfl).symm
@[simp] theorem State.queueUp_nav (s : State) (r : AirRecord) : (s.queueUp r).nav = s.nav := (State.queueUp_frame s r .nav rfl).symm
@[simp] theorem State.queueUp_blv (s : State) (r : AirRecord) : (s.queueUp r).blv = s.blv := (State.queueUp_frame s r .blv rfl).symm
@[simp] theorem State.queueUp_kerb (s : State) (r : AirRecord) : (s.queueUp r).kerb = s.kerb := (State.queueUp_frame s r .kerb rfl).symm
@[simp] theorem State.queueUp_cover (s : State) (r : AirRecord) : (s.queueUp r).cover = s.cover := (State.queueUp_frame s r .cover rfl).symm
@[simp] theorem State.queueUp_cache (s : State) (r : AirRecord) : (s.queueUp r).cache = s.cache := (State.queueUp_frame s r .cache rfl).symm
@[simp] theorem State.queueUp_fleet (s : State) (r : AirRecord) : (s.queueUp r).fleet = s.fleet := (State.queueUp_frame s r .fleet rfl).symm
@[simp] theorem State.queueUp_crier (s : State) (r : AirRecord) : (s.queueUp r).crier = s.crier := (State.queueUp_frame s r .crier rfl).symm
@[simp] theorem State.queueUp_gate (s : State) (r : AirRecord) : (s.queueUp r).gate = s.gate := (State.queueUp_frame s r .gate rfl).symm
@[simp] theorem State.queueUp_tram (s : State) (r : AirRecord) : (s.queueUp r).tram = s.tram := (State.queueUp_frame s r .tram rfl).symm
@[simp] theorem State.queueUp_net (s : State) (r : AirRecord) : (s.queueUp r).net = s.net := (State.queueUp_frame s r .net rfl).symm
@[simp] theorem State.queueUp_meter (s : State) (r : AirRecord) : (s.queueUp r).meter = s.meter := (State.queueUp_frame s r .meter rfl).symm
@[simp] theorem State.queueUp_zheoc (s : State) (r : AirRecord) : (s.queueUp r).zheoc = s.zheoc := (State.queueUp_frame s r .zheoc rfl).symm
@[simp] theorem State.queueUp_store (s : State) (r : AirRecord) : (s.queueUp r).store = s.store := (State.queueUp_frame s r .store rfl).symm
@[simp] theorem State.queueUp_milestone (s : State) (r : AirRecord) : (s.queueUp r).milestone = s.milestone := (State.queueUp_frame s r .milestone rfl).symm
@[simp] theorem State.queueUp_dict (s : State) (r : AirRecord) : (s.queueUp r).dict = s.dict := (State.queueUp_frame s r .dict rfl).symm
@[simp] theorem State.queueUp_bootDict (s : State) (r : AirRecord) : (s.queueUp r).bootDict = s.bootDict := (State.queueUp_frame s r .bootDict rfl).symm
@[simp] theorem State.queueUp_octets (s : State) (r : AirRecord) : (s.queueUp r).octets = s.octets := (State.queueUp_frame s r .octets rfl).symm
@[simp] theorem State.queueUp_periods (s : State) (r : AirRecord) : (s.queueUp r).periods = s.periods := (State.queueUp_frame s r .periods rfl).symm
@[simp] theorem State.queueUp_draws (s : State) (r : AirRecord) : (s.queueUp r).draws = s.draws := (State.queueUp_frame s r .draws rfl).symm
@[simp] theorem State.queueUp_pending (s : State) (r : AirRecord) : (s.queueUp r).pending = s.pending := (State.queueUp_frame s r .pending rfl).symm

theorem State.queueLbt_frame (s : State) (f : AirFrame) (x y : Bool) (m p : Nat) : State.changesOnly [.radio, .draws] s (s.queueLbt f x y m p) :=
  ((s.drawBits_frame 32).seq (State.updRadio_frame _ _)).within (by decide)

@[simp] theorem State.queueLbt_mode (s : State) (f : AirFrame) (x y : Bool) (m p : Nat) : (s.queueLbt f x y m p).mode = s.mode := (State.queueLbt_frame s f x y m p .mode rfl).symm
@[simp] theorem State.queueLbt_boot (s : State) (f : AirFrame) (x y : Bool) (m p : Nat) : (s.queueLbt f x y m p).boot = s.boot := (State.queueLbt_frame s f x y m p .boot rfl).symm
@[simp] theorem State.queueLbt_outputs (s : State) (f : AirFrame) (x y : Bool) (m p : Nat) : (s.queueLbt f x y m p).outputs = s.outputs := (State.queueLbt_frame s f x y m p .outputs rfl).symm
@[simp] theorem State.queueLbt_power (s : State) (f : AirFrame) (x y : Bool) (m p : Nat) : (s.queueLbt f x y m p).power = s.power := (State.queueLbt_frame s f x y m p .power rfl).symm
@[simp] theorem State.queueLbt_clk (s : State) (f : AirFrame) (x y : Bool) (m p : Nat) : (s.queueLbt f x y m p).clk = s.clk := (State.queueLbt_frame s f x y m p .clk rfl).symm
@[simp] theorem State.queueLbt_roundabout (s : State) (f : AirFrame) (x y : Bool) (m p : Nat) : (s.queueLbt f x y m p).roundabout = s.roundabout := (State.queueLbt_frame s f x y m p .roundabout rfl).symm
@[simp] theorem State.queueLbt_queues (s : State) (f : AirFrame) (x y : Bool) (m p : Nat) : (s.queueLbt f x y m p).queues = s.queues := (State.queueLbt_frame s f x y m p .queues rfl).symm
@[simp] theorem State.queueLbt_host (s : State) (f : AirFrame) (x y : Bool) (m p : Nat) : (s.queueLbt f x y m p).host = s.host := (State.queueLbt_frame s f x y m p .host rfl).symm
@[simp] theorem State.queueLbt_mbox (s : State) (f : AirFrame) (x y : Bool) (m p : Nat) : (s.queueLbt f x y m p).mbox = s.mbox := (State.queueLbt_frame s f x y m p .mbox rfl).symm
@[simp] theorem State.queueLbt_sessions (s : State) (f : AirFrame) (x y : Bool) (m p : Nat) : (s.queueLbt f x y m p).sessions = s.sessions := (State.queueLbt_frame s f x y m p .sessions rfl).symm
@[simp] theorem State.queueLbt_remotes (s : State) (f : AirFrame) (x y : Bool) (m p : Nat) : (s.queueLbt f x y m p).remotes = s.remotes := (State.queueLbt_frame s f x y m p .remotes rfl).symm
@[simp] theorem State.queueLbt_gnss (s : State) (f : AirFrame) (x y : Bool) (m p : Nat) : (s.queueLbt f x y m p).gnss = s.gnss := (State.queueLbt_frame s f x y m p .gnss rfl).symm
@[simp] theorem State.queueLbt_obs (s : State) (f : AirFrame) (x y : Bool) (m p : Nat) : (s.queueLbt f x y m p).obs = s.obs := (State.queueLbt_frame s f x y m p .obs rfl).symm
@[simp] theorem State.queueLbt_baseRef (s : State) (f : AirFrame) (x y : Bool) (m p : Nat) : (s.queueLbt f x y m p).baseRef = s.baseRef := (State.queueLbt_frame s f x y m p .baseRef rfl).symm
@[simp] theorem State.queueLbt_nav (s : State) (f : AirFrame) (x y : Bool) (m p : Nat) : (s.queueLbt f x y m p).nav = s.nav := (State.queueLbt_frame s f x y m p .nav rfl).symm
@[simp] theorem State.queueLbt_blv (s : State) (f : AirFrame) (x y : Bool) (m p : Nat) : (s.queueLbt f x y m p).blv = s.blv := (State.queueLbt_frame s f x y m p .blv rfl).symm
@[simp] theorem State.queueLbt_kerb (s : State) (f : AirFrame) (x y : Bool) (m p : Nat) : (s.queueLbt f x y m p).kerb = s.kerb := (State.queueLbt_frame s f x y m p .kerb rfl).symm
@[simp] theorem State.queueLbt_cover (s : State) (f : AirFrame) (x y : Bool) (m p : Nat) : (s.queueLbt f x y m p).cover = s.cover := (State.queueLbt_frame s f x y m p .cover rfl).symm
@[simp] theorem State.queueLbt_cache (s : State) (f : AirFrame) (x y : Bool) (m p : Nat) : (s.queueLbt f x y m p).cache = s.cache := (State.queueLbt_frame s f x y m p .cache rfl).symm
@[simp] theorem State.queueLbt_fleet (s : State) (f : AirFrame) (x y : Bool) (m p : Nat) : (s.queueLbt f x y m p).fleet = s.fleet := (State.queueLbt_frame s f x y m p .fleet rfl).symm
@[simp] theorem State.queueLbt_crier (s : State) (f : AirFrame) (x y : Bool) (m p : Nat) : (s.queueLbt f x y m p).crier = s.crier := (State.queueLbt_frame s f x y m p .crier rfl).symm
@[simp] theorem State.queueLbt_gate (s : State) (f : AirFrame) (x y : Bool) (m p : Nat) : (s.queueLbt f x y m p).gate = s.gate := (State.queueLbt_frame s f x y m p .gate rfl).symm
@[simp] theorem State.queueLbt_tram (s : State) (f : AirFrame) (x y : Bool) (m p : Nat) : (s.queueLbt f x y m p).tram = s.tram := (State.queueLbt_frame s f x y m p .tram rfl).symm
@[simp] theorem State.queueLbt_net (s : State) (f : AirFrame) (x y : Bool) (m p : Nat) : (s.queueLbt f x y m p).net = s.net := (State.queueLbt_frame s f x y m p .net rfl).symm
@[simp] theorem State.queueLbt_meter (s : State) (f : AirFrame) (x y : Bool) (m p : Nat) : (s.queueLbt f x y m p).meter = s.meter := (State.queueLbt_frame s f x y m p .meter rfl).symm
@[simp] theorem State.queueLbt_zheoc (s : State) (f : AirFrame) (x y : Bool) (m p : Nat) : (s.queueLbt f x y m p).zheoc = s.zheoc := (State.queueLbt_frame s f x y m p .zheoc rfl).symm
@[simp] theorem State.queueLbt_store (s : State) (f : AirFrame) (x y : Bool) (m p : Nat) : (s.queueLbt f x y m p).store = s.store := (State.queueLbt_frame s f x y m p .store rfl).symm
@[simp] theorem State.queueLbt_milestone (s : State) (f : AirFrame) (x y : Bool) (m p : Nat) : (s.queueLbt f x y m p).milestone = s.milestone := (State.queueLbt_frame s f x y m p .milestone rfl).symm
@[simp] theorem State.queueLbt_dict (s : State) (f : AirFrame) (x y : Bool) (m p : Nat) : (s.queueLbt f x y m p).dict = s.dict := (State.queueLbt_frame s f x y m p .dict rfl).symm
@[simp] theorem State.queueLbt_bootDict (s : State) (f : AirFrame) (x y : Bool) (m p : Nat) : (s.queueLbt f x y m p).bootDict = s.bootDict := (State.queueLbt_frame s f x y m p .bootDict rfl).symm
@[simp] theorem State.queueLbt_octets (s : State) (f : AirFrame) (x y : Bool) (m p : Nat) : (s.queueLbt f x y m p).octets = s.octets := (State.queueLbt_frame s f x y m p .octets rfl).symm
@[simp] theorem State.queueLbt_periods (s : State) (f : AirFrame) (x y : Bool) (m p : Nat) : (s.queueLbt f x y m p).periods = s.periods := (State.queueLbt_frame s f x y m p .periods rfl).symm
@[simp] theorem State.queueLbt_pending (s : State) (f : AirFrame) (x y : Bool) (m p : Nat) : (s.queueLbt f x y m p).pending = s.pending := (State.queueLbt_frame s f x y m p .pending rfl).symm

theorem State.gainedPacket_frame (s : State) (n : Nat) : State.changesOnly [.host] s (s.gainedPacket n) :=
  changesOnly_ite (s.raiseIrq_frame _) (changesOnly_refl _ s)

@[simp] theorem State.gainedPacket_mode (s : State) (n : Nat) : (s.gainedPacket n).mode = s.mode := (State.gainedPacket_frame s n .mode rfl).symm
@[simp] theorem State.gainedPacket_boot (s : State) (n : Nat) : (s.gainedPacket n).boot = s.boot := (State.gainedPacket_frame s n .boot rfl).symm
@[simp] theorem State.gainedPacket_outputs (s : State) (n : Nat) : (s.gainedPacket n).outputs = s.outputs := (State.gainedPacket_frame s n .outputs rfl).symm
@[simp] theorem State.gainedPacket_power (s : State) (n : Nat) : (s.gainedPacket n).power = s.power := (State.gainedPacket_frame s n .power rfl).symm
@[simp] theorem State.gainedPacket_clk (s : State) (n : Nat) : (s.gainedPacket n).clk = s.clk := (State.gainedPacket_frame s n .clk rfl).symm
@[simp] theorem State.gainedPacket_roundabout (s : State) (n : Nat) : (s.gainedPacket n).roundabout = s.roundabout := (State.gainedPacket_frame s n .roundabout rfl).symm
@[simp] theorem State.gainedPacket_queues (s : State) (n : Nat) : (s.gainedPacket n).queues = s.queues := (State.gainedPacket_frame s n .queues rfl).symm
@[simp] theorem State.gainedPacket_mbox (s : State) (n : Nat) : (s.gainedPacket n).mbox = s.mbox := (State.gainedPacket_frame s n .mbox rfl).symm
@[simp] theorem State.gainedPacket_sessions (s : State) (n : Nat) : (s.gainedPacket n).sessions = s.sessions := (State.gainedPacket_frame s n .sessions rfl).symm
@[simp] theorem State.gainedPacket_remotes (s : State) (n : Nat) : (s.gainedPacket n).remotes = s.remotes := (State.gainedPacket_frame s n .remotes rfl).symm
@[simp] theorem State.gainedPacket_gnss (s : State) (n : Nat) : (s.gainedPacket n).gnss = s.gnss := (State.gainedPacket_frame s n .gnss rfl).symm
@[simp] theorem State.gainedPacket_obs (s : State) (n : Nat) : (s.gainedPacket n).obs = s.obs := (State.gainedPacket_frame s n .obs rfl).symm
@[simp] theorem State.gainedPacket_baseRef (s : State) (n : Nat) : (s.gainedPacket n).baseRef = s.baseRef := (State.gainedPacket_frame s n .baseRef rfl).symm
@[simp] theorem State.gainedPacket_nav (s : State) (n : Nat) : (s.gainedPacket n).nav = s.nav := (State.gainedPacket_frame s n .nav rfl).symm
@[simp] theorem State.gainedPacket_blv (s : State) (n : Nat) : (s.gainedPacket n).blv = s.blv := (State.gainedPacket_frame s n .blv rfl).symm
@[simp] theorem State.gainedPacket_kerb (s : State) (n : Nat) : (s.gainedPacket n).kerb = s.kerb := (State.gainedPacket_frame s n .kerb rfl).symm
@[simp] theorem State.gainedPacket_cover (s : State) (n : Nat) : (s.gainedPacket n).cover = s.cover := (State.gainedPacket_frame s n .cover rfl).symm
@[simp] theorem State.gainedPacket_cache (s : State) (n : Nat) : (s.gainedPacket n).cache = s.cache := (State.gainedPacket_frame s n .cache rfl).symm
@[simp] theorem State.gainedPacket_fleet (s : State) (n : Nat) : (s.gainedPacket n).fleet = s.fleet := (State.gainedPacket_frame s n .fleet rfl).symm
@[simp] theorem State.gainedPacket_radio (s : State) (n : Nat) : (s.gainedPacket n).radio = s.radio := (State.gainedPacket_frame s n .radio rfl).symm
@[simp] theorem State.gainedPacket_crier (s : State) (n : Nat) : (s.gainedPacket n).crier = s.crier := (State.gainedPacket_frame s n .crier rfl).symm
@[simp] theorem State.gainedPacket_gate (s : State) (n : Nat) : (s.gainedPacket n).gate = s.gate := (State.gainedPacket_frame s n .gate rfl).symm
@[simp] theorem State.gainedPacket_tram (s : State) (n : Nat) : (s.gainedPacket n).tram = s.tram := (State.gainedPacket_frame s n .tram rfl).symm
@[simp] theorem State.gainedPacket_net (s : State) (n : Nat) : (s.gainedPacket n).net = s.net := (State.gainedPacket_frame s n .net rfl).symm
@[simp] theorem State.gainedPacket_meter (s : State) (n : Nat) : (s.gainedPacket n).meter = s.meter := (State.gainedPacket_frame s n .meter rfl).symm
@[simp] theorem State.gainedPacket_zheoc (s : State) (n : Nat) : (s.gainedPacket n).zheoc = s.zheoc := (State.gainedPacket_frame s n .zheoc rfl).symm
@[simp] theorem State.gainedPacket_store (s : State) (n : Nat) : (s.gainedPacket n).store = s.store := (State.gainedPacket_frame s n .store rfl).symm
@[simp] theorem State.gainedPacket_milestone (s : State) (n : Nat) : (s.gainedPacket n).milestone = s.milestone := (State.gainedPacket_frame s n .milestone rfl).symm
@[simp] theorem State.gainedPacket_dict (s : State) (n : Nat) : (s.gainedPacket n).dict = s.dict := (State.gainedPacket_frame s n .dict rfl).symm
@[simp] theorem State.gainedPacket_bootDict (s : State) (n : Nat) : (s.gainedPacket n).bootDict = s.bootDict := (State.gainedPacket_frame s n .bootDict rfl).symm
@[simp] theorem State.gainedPacket_octets (s : State) (n : Nat) : (s.gainedPacket n).octets = s.octets := (State.gainedPacket_frame s n .octets rfl).symm
@[simp] theorem State.gainedPacket_periods (s : State) (n : Nat) : (s.gainedPacket n).periods = s.periods := (State.gainedPacket_frame s n .periods rfl).symm
@[simp] theorem State.gainedPacket_draws (s : State) (n : Nat) : (s.gainedPacket n).draws = s.draws := (State.gainedPacket_frame s n .draws rfl).symm
@[simp] theorem State.gainedPacket_pending (s : State) (n : Nat) : (s.gainedPacket n).pending = s.pending := (State.gainedPacket_frame s n .pending rfl).symm

theorem State.applyPush_frame (s : State) (n : Nat) (ws : List Word32) (ended : Bool) : State.changesOnly [.queues, .host] s (s.applyPush n ws ended) := by
  have hq : ∀ q t, State.changesOnly [.queues, .host] t (t.setQueue n q) := fun q t => (t.setQueue_frame n q).within (by decide)
  have hg : ∀ q, State.changesOnly [.queues, .host] s ((s.setQueue n q).gainedPacket n) := fun q => (s.setQueue_frame n q).seq (State.gainedPacket_frame _ n)
  exact changesOnly_ite (changesOnly_ite (hg _) (hq _ s)) (changesOnly_ite (hg _) (hq _ s))

@[simp] theorem State.applyPush_mode (s : State) (n : Nat) (ws : List Word32) (ended : Bool) : (s.applyPush n ws ended).mode = s.mode := (State.applyPush_frame s n ws ended .mode rfl).symm
@[simp] theorem State.applyPush_boot (s : State) (n : Nat) (ws : List Word32) (ended : Bool) : (s.applyPush n ws ended).boot = s.boot := (State.applyPush_frame s n ws ended .boot rfl).symm
@[simp] theorem State.applyPush_outputs (s : State) (n : Nat) (ws : List Word32) (ended : Bool) : (s.applyPush n ws ended).outputs = s.outputs := (State.applyPush_frame s n ws ended .outputs rfl).symm
@[simp] theorem State.applyPush_power (s : State) (n : Nat) (ws : List Word32) (ended : Bool) : (s.applyPush n ws ended).power = s.power := (State.applyPush_frame s n ws ended .power rfl).symm
@[simp] theorem State.applyPush_clk (s : State) (n : Nat) (ws : List Word32) (ended : Bool) : (s.applyPush n ws ended).clk = s.clk := (State.applyPush_frame s n ws ended .clk rfl).symm
@[simp] theorem State.applyPush_roundabout (s : State) (n : Nat) (ws : List Word32) (ended : Bool) : (s.applyPush n ws ended).roundabout = s.roundabout := (State.applyPush_frame s n ws ended .roundabout rfl).symm
@[simp] theorem State.applyPush_mbox (s : State) (n : Nat) (ws : List Word32) (ended : Bool) : (s.applyPush n ws ended).mbox = s.mbox := (State.applyPush_frame s n ws ended .mbox rfl).symm
@[simp] theorem State.applyPush_sessions (s : State) (n : Nat) (ws : List Word32) (ended : Bool) : (s.applyPush n ws ended).sessions = s.sessions := (State.applyPush_frame s n ws ended .sessions rfl).symm
@[simp] theorem State.applyPush_remotes (s : State) (n : Nat) (ws : List Word32) (ended : Bool) : (s.applyPush n ws ended).remotes = s.remotes := (State.applyPush_frame s n ws ended .remotes rfl).symm
@[simp] theorem State.applyPush_gnss (s : State) (n : Nat) (ws : List Word32) (ended : Bool) : (s.applyPush n ws ended).gnss = s.gnss := (State.applyPush_frame s n ws ended .gnss rfl).symm
@[simp] theorem State.applyPush_obs (s : State) (n : Nat) (ws : List Word32) (ended : Bool) : (s.applyPush n ws ended).obs = s.obs := (State.applyPush_frame s n ws ended .obs rfl).symm
@[simp] theorem State.applyPush_baseRef (s : State) (n : Nat) (ws : List Word32) (ended : Bool) : (s.applyPush n ws ended).baseRef = s.baseRef := (State.applyPush_frame s n ws ended .baseRef rfl).symm
@[simp] theorem State.applyPush_nav (s : State) (n : Nat) (ws : List Word32) (ended : Bool) : (s.applyPush n ws ended).nav = s.nav := (State.applyPush_frame s n ws ended .nav rfl).symm
@[simp] theorem State.applyPush_blv (s : State) (n : Nat) (ws : List Word32) (ended : Bool) : (s.applyPush n ws ended).blv = s.blv := (State.applyPush_frame s n ws ended .blv rfl).symm
@[simp] theorem State.applyPush_kerb (s : State) (n : Nat) (ws : List Word32) (ended : Bool) : (s.applyPush n ws ended).kerb = s.kerb := (State.applyPush_frame s n ws ended .kerb rfl).symm
@[simp] theorem State.applyPush_cover (s : State) (n : Nat) (ws : List Word32) (ended : Bool) : (s.applyPush n ws ended).cover = s.cover := (State.applyPush_frame s n ws ended .cover rfl).symm
@[simp] theorem State.applyPush_cache (s : State) (n : Nat) (ws : List Word32) (ended : Bool) : (s.applyPush n ws ended).cache = s.cache := (State.applyPush_frame s n ws ended .cache rfl).symm
@[simp] theorem State.applyPush_fleet (s : State) (n : Nat) (ws : List Word32) (ended : Bool) : (s.applyPush n ws ended).fleet = s.fleet := (State.applyPush_frame s n ws ended .fleet rfl).symm
@[simp] theorem State.applyPush_radio (s : State) (n : Nat) (ws : List Word32) (ended : Bool) : (s.applyPush n ws ended).radio = s.radio := (State.applyPush_frame s n ws ended .radio rfl).symm
@[simp] theorem State.applyPush_crier (s : State) (n : Nat) (ws : List Word32) (ended : Bool) : (s.applyPush n ws ended).crier = s.crier := (State.applyPush_frame s n ws ended .crier rfl).symm
@[simp] theorem State.applyPush_gate (s : State) (n : Nat) (ws : List Word32) (ended : Bool) : (s.applyPush n ws ended).gate = s.gate := (State.applyPush_frame s n ws ended .gate rfl).symm
@[simp] theorem State.applyPush_tram (s : State) (n : Nat) (ws : List Word32) (ended : Bool) : (s.applyPush n ws ended).tram = s.tram := (State.applyPush_frame s n ws ended .tram rfl).symm
@[simp] theorem State.applyPush_net (s : State) (n : Nat) (ws : List Word32) (ended : Bool) : (s.applyPush n ws ended).net = s.net := (State.applyPush_frame s n ws ended .net rfl).symm
@[simp] theorem State.applyPush_meter (s : State) (n : Nat) (ws : List Word32) (ended : Bool) : (s.applyPush n ws ended).meter = s.meter := (State.applyPush_frame s n ws ended .meter rfl).symm
@[simp] theorem State.applyPush_zheoc (s : State) (n : Nat) (ws : List Word32) (ended : Bool) : (s.applyPush n ws ended).zheoc = s.zheoc := (State.applyPush_frame s n ws ended .zheoc rfl).symm
@[simp] theorem State.applyPush_store (s : State) (n : Nat) (ws : List Word32) (ended : Bool) : (s.applyPush n ws ended).store = s.store := (State.applyPush_frame s n ws ended .store rfl).symm
@[simp] theorem State.applyPush_milestone (s : State) (n : Nat) (ws : List Word32) (ended : Bool) : (s.applyPush n ws ended).milestone = s.milestone := (State.applyPush_frame s n ws ended .milestone rfl).symm
@[simp] theorem State.applyPush_dict (s : State) (n : Nat) (ws : List Word32) (ended : Bool) : (s.applyPush n ws ended).dict = s.dict := (State.applyPush_frame s n ws ended .dict rfl).symm
@[simp] theorem State.applyPush_bootDict (s : State) (n : Nat) (ws : List Word32) (ended : Bool) : (s.applyPush n ws ended).bootDict = s.bootDict := (State.applyPush_frame s n ws ended .bootDict rfl).symm
@[simp] theorem State.applyPush_octets (s : State) (n : Nat) (ws : List Word32) (ended : Bool) : (s.applyPush n ws ended).octets = s.octets := (State.applyPush_frame s n ws ended .octets rfl).symm
@[simp] theorem State.applyPush_periods (s : State) (n : Nat) (ws : List Word32) (ended : Bool) : (s.applyPush n ws ended).periods = s.periods := (State.applyPush_frame s n ws ended .periods rfl).symm
@[simp] theorem State.applyPush_draws (s : State) (n : Nat) (ws : List Word32) (ended : Bool) : (s.applyPush n ws ended).draws = s.draws := (State.applyPush_frame s n ws ended .draws rfl).symm
@[simp] theorem State.applyPush_pending (s : State) (n : Nat) (ws : List Word32) (ended : Bool) : (s.applyPush n ws ended).pending = s.pending := (State.applyPush_frame s n ws ended .pending rfl).symm

theorem State.finishPush_frame (s : State) (n : Nat) (ws : List Word32) (ok ended : Bool) : State.changesOnly [.queues, .host] s (s.finishPush n ws ok ended) := by
  have h : State.changesOnly [.host] s { s with host := { s.host with stall := none } } := only_host s _
  exact changesOnly_ite ((h.seq (State.applyPush_frame _ n ws ended)).within (by decide)) ((h.seq (State.raiseIrq_frame _ _)).within (by decide))

@[simp] theorem State.finishPush_mode (s : State) (n : Nat) (ws : List Word32) (ok ended : Bool) : (s.finishPush n ws ok ended).mode = s.mode := (State.finishPush_frame s n ws ok ended .mode rfl).symm
@[simp] theorem State.finishPush_boot (s : State) (n : Nat) (ws : List Word32) (ok ended : Bool) : (s.finishPush n ws ok ended).boot = s.boot := (State.finishPush_frame s n ws ok ended .boot rfl).symm
@[simp] theorem State.finishPush_outputs (s : State) (n : Nat) (ws : List Word32) (ok ended : Bool) : (s.finishPush n ws ok ended).outputs = s.outputs := (State.finishPush_frame s n ws ok ended .outputs rfl).symm
@[simp] theorem State.finishPush_power (s : State) (n : Nat) (ws : List Word32) (ok ended : Bool) : (s.finishPush n ws ok ended).power = s.power := (State.finishPush_frame s n ws ok ended .power rfl).symm
@[simp] theorem State.finishPush_clk (s : State) (n : Nat) (ws : List Word32) (ok ended : Bool) : (s.finishPush n ws ok ended).clk = s.clk := (State.finishPush_frame s n ws ok ended .clk rfl).symm
@[simp] theorem State.finishPush_roundabout (s : State) (n : Nat) (ws : List Word32) (ok ended : Bool) : (s.finishPush n ws ok ended).roundabout = s.roundabout := (State.finishPush_frame s n ws ok ended .roundabout rfl).symm
@[simp] theorem State.finishPush_mbox (s : State) (n : Nat) (ws : List Word32) (ok ended : Bool) : (s.finishPush n ws ok ended).mbox = s.mbox := (State.finishPush_frame s n ws ok ended .mbox rfl).symm
@[simp] theorem State.finishPush_sessions (s : State) (n : Nat) (ws : List Word32) (ok ended : Bool) : (s.finishPush n ws ok ended).sessions = s.sessions := (State.finishPush_frame s n ws ok ended .sessions rfl).symm
@[simp] theorem State.finishPush_remotes (s : State) (n : Nat) (ws : List Word32) (ok ended : Bool) : (s.finishPush n ws ok ended).remotes = s.remotes := (State.finishPush_frame s n ws ok ended .remotes rfl).symm
@[simp] theorem State.finishPush_gnss (s : State) (n : Nat) (ws : List Word32) (ok ended : Bool) : (s.finishPush n ws ok ended).gnss = s.gnss := (State.finishPush_frame s n ws ok ended .gnss rfl).symm
@[simp] theorem State.finishPush_obs (s : State) (n : Nat) (ws : List Word32) (ok ended : Bool) : (s.finishPush n ws ok ended).obs = s.obs := (State.finishPush_frame s n ws ok ended .obs rfl).symm
@[simp] theorem State.finishPush_baseRef (s : State) (n : Nat) (ws : List Word32) (ok ended : Bool) : (s.finishPush n ws ok ended).baseRef = s.baseRef := (State.finishPush_frame s n ws ok ended .baseRef rfl).symm
@[simp] theorem State.finishPush_nav (s : State) (n : Nat) (ws : List Word32) (ok ended : Bool) : (s.finishPush n ws ok ended).nav = s.nav := (State.finishPush_frame s n ws ok ended .nav rfl).symm
@[simp] theorem State.finishPush_blv (s : State) (n : Nat) (ws : List Word32) (ok ended : Bool) : (s.finishPush n ws ok ended).blv = s.blv := (State.finishPush_frame s n ws ok ended .blv rfl).symm
@[simp] theorem State.finishPush_kerb (s : State) (n : Nat) (ws : List Word32) (ok ended : Bool) : (s.finishPush n ws ok ended).kerb = s.kerb := (State.finishPush_frame s n ws ok ended .kerb rfl).symm
@[simp] theorem State.finishPush_cover (s : State) (n : Nat) (ws : List Word32) (ok ended : Bool) : (s.finishPush n ws ok ended).cover = s.cover := (State.finishPush_frame s n ws ok ended .cover rfl).symm
@[simp] theorem State.finishPush_cache (s : State) (n : Nat) (ws : List Word32) (ok ended : Bool) : (s.finishPush n ws ok ended).cache = s.cache := (State.finishPush_frame s n ws ok ended .cache rfl).symm
@[simp] theorem State.finishPush_fleet (s : State) (n : Nat) (ws : List Word32) (ok ended : Bool) : (s.finishPush n ws ok ended).fleet = s.fleet := (State.finishPush_frame s n ws ok ended .fleet rfl).symm
@[simp] theorem State.finishPush_radio (s : State) (n : Nat) (ws : List Word32) (ok ended : Bool) : (s.finishPush n ws ok ended).radio = s.radio := (State.finishPush_frame s n ws ok ended .radio rfl).symm
@[simp] theorem State.finishPush_crier (s : State) (n : Nat) (ws : List Word32) (ok ended : Bool) : (s.finishPush n ws ok ended).crier = s.crier := (State.finishPush_frame s n ws ok ended .crier rfl).symm
@[simp] theorem State.finishPush_gate (s : State) (n : Nat) (ws : List Word32) (ok ended : Bool) : (s.finishPush n ws ok ended).gate = s.gate := (State.finishPush_frame s n ws ok ended .gate rfl).symm
@[simp] theorem State.finishPush_tram (s : State) (n : Nat) (ws : List Word32) (ok ended : Bool) : (s.finishPush n ws ok ended).tram = s.tram := (State.finishPush_frame s n ws ok ended .tram rfl).symm
@[simp] theorem State.finishPush_net (s : State) (n : Nat) (ws : List Word32) (ok ended : Bool) : (s.finishPush n ws ok ended).net = s.net := (State.finishPush_frame s n ws ok ended .net rfl).symm
@[simp] theorem State.finishPush_meter (s : State) (n : Nat) (ws : List Word32) (ok ended : Bool) : (s.finishPush n ws ok ended).meter = s.meter := (State.finishPush_frame s n ws ok ended .meter rfl).symm
@[simp] theorem State.finishPush_zheoc (s : State) (n : Nat) (ws : List Word32) (ok ended : Bool) : (s.finishPush n ws ok ended).zheoc = s.zheoc := (State.finishPush_frame s n ws ok ended .zheoc rfl).symm
@[simp] theorem State.finishPush_store (s : State) (n : Nat) (ws : List Word32) (ok ended : Bool) : (s.finishPush n ws ok ended).store = s.store := (State.finishPush_frame s n ws ok ended .store rfl).symm
@[simp] theorem State.finishPush_milestone (s : State) (n : Nat) (ws : List Word32) (ok ended : Bool) : (s.finishPush n ws ok ended).milestone = s.milestone := (State.finishPush_frame s n ws ok ended .milestone rfl).symm
@[simp] theorem State.finishPush_dict (s : State) (n : Nat) (ws : List Word32) (ok ended : Bool) : (s.finishPush n ws ok ended).dict = s.dict := (State.finishPush_frame s n ws ok ended .dict rfl).symm
@[simp] theorem State.finishPush_bootDict (s : State) (n : Nat) (ws : List Word32) (ok ended : Bool) : (s.finishPush n ws ok ended).bootDict = s.bootDict := (State.finishPush_frame s n ws ok ended .bootDict rfl).symm
@[simp] theorem State.finishPush_octets (s : State) (n : Nat) (ws : List Word32) (ok ended : Bool) : (s.finishPush n ws ok ended).octets = s.octets := (State.finishPush_frame s n ws ok ended .octets rfl).symm
@[simp] theorem State.finishPush_periods (s : State) (n : Nat) (ws : List Word32) (ok ended : Bool) : (s.finishPush n ws ok ended).periods = s.periods := (State.finishPush_frame s n ws ok ended .periods rfl).symm
@[simp] theorem State.finishPush_draws (s : State) (n : Nat) (ws : List Word32) (ok ended : Bool) : (s.finishPush n ws ok ended).draws = s.draws := (State.finishPush_frame s n ws ok ended .draws rfl).symm
@[simp] theorem State.finishPush_pending (s : State) (n : Nat) (ws : List Word32) (ok ended : Bool) : (s.finishPush n ws ok ended).pending = s.pending := (State.finishPush_frame s n ws ok ended .pending rfl).symm

theorem State.finishPop_frame (s : State) (n count : Nat) (ws : List QueueWord) (ended : Bool) : State.changesOnly [.host] s (s.finishPop n count ws ended) := by
  have h : ∀ c t, State.changesOnly [.host] t (if c = true then t.raiseIrq irqPoisonRead else t) := fun c t => changesOnly_ite (t.raiseIrq_frame _) (changesOnly_refl _ t)
  have g : ∀ c t, State.changesOnly [.host] t (if c = true then t.raiseIrq irqAbortRead else t) := fun c t => changesOnly_ite (t.raiseIrq_frame _) (changesOnly_refl _ t)
  exact (((only_host s _).seq (h _ _)).seq (g _ _)).within (by decide)

@[simp] theorem State.finishPop_mode (s : State) (n count : Nat) (ws : List QueueWord) (ended : Bool) : (s.finishPop n count ws ended).mode = s.mode := (State.finishPop_frame s n count ws ended .mode rfl).symm
@[simp] theorem State.finishPop_boot (s : State) (n count : Nat) (ws : List QueueWord) (ended : Bool) : (s.finishPop n count ws ended).boot = s.boot := (State.finishPop_frame s n count ws ended .boot rfl).symm
@[simp] theorem State.finishPop_outputs (s : State) (n count : Nat) (ws : List QueueWord) (ended : Bool) : (s.finishPop n count ws ended).outputs = s.outputs := (State.finishPop_frame s n count ws ended .outputs rfl).symm
@[simp] theorem State.finishPop_power (s : State) (n count : Nat) (ws : List QueueWord) (ended : Bool) : (s.finishPop n count ws ended).power = s.power := (State.finishPop_frame s n count ws ended .power rfl).symm
@[simp] theorem State.finishPop_clk (s : State) (n count : Nat) (ws : List QueueWord) (ended : Bool) : (s.finishPop n count ws ended).clk = s.clk := (State.finishPop_frame s n count ws ended .clk rfl).symm
@[simp] theorem State.finishPop_roundabout (s : State) (n count : Nat) (ws : List QueueWord) (ended : Bool) : (s.finishPop n count ws ended).roundabout = s.roundabout := (State.finishPop_frame s n count ws ended .roundabout rfl).symm
@[simp] theorem State.finishPop_queues (s : State) (n count : Nat) (ws : List QueueWord) (ended : Bool) : (s.finishPop n count ws ended).queues = s.queues := (State.finishPop_frame s n count ws ended .queues rfl).symm
@[simp] theorem State.finishPop_mbox (s : State) (n count : Nat) (ws : List QueueWord) (ended : Bool) : (s.finishPop n count ws ended).mbox = s.mbox := (State.finishPop_frame s n count ws ended .mbox rfl).symm
@[simp] theorem State.finishPop_sessions (s : State) (n count : Nat) (ws : List QueueWord) (ended : Bool) : (s.finishPop n count ws ended).sessions = s.sessions := (State.finishPop_frame s n count ws ended .sessions rfl).symm
@[simp] theorem State.finishPop_remotes (s : State) (n count : Nat) (ws : List QueueWord) (ended : Bool) : (s.finishPop n count ws ended).remotes = s.remotes := (State.finishPop_frame s n count ws ended .remotes rfl).symm
@[simp] theorem State.finishPop_gnss (s : State) (n count : Nat) (ws : List QueueWord) (ended : Bool) : (s.finishPop n count ws ended).gnss = s.gnss := (State.finishPop_frame s n count ws ended .gnss rfl).symm
@[simp] theorem State.finishPop_obs (s : State) (n count : Nat) (ws : List QueueWord) (ended : Bool) : (s.finishPop n count ws ended).obs = s.obs := (State.finishPop_frame s n count ws ended .obs rfl).symm
@[simp] theorem State.finishPop_baseRef (s : State) (n count : Nat) (ws : List QueueWord) (ended : Bool) : (s.finishPop n count ws ended).baseRef = s.baseRef := (State.finishPop_frame s n count ws ended .baseRef rfl).symm
@[simp] theorem State.finishPop_nav (s : State) (n count : Nat) (ws : List QueueWord) (ended : Bool) : (s.finishPop n count ws ended).nav = s.nav := (State.finishPop_frame s n count ws ended .nav rfl).symm
@[simp] theorem State.finishPop_blv (s : State) (n count : Nat) (ws : List QueueWord) (ended : Bool) : (s.finishPop n count ws ended).blv = s.blv := (State.finishPop_frame s n count ws ended .blv rfl).symm
@[simp] theorem State.finishPop_kerb (s : State) (n count : Nat) (ws : List QueueWord) (ended : Bool) : (s.finishPop n count ws ended).kerb = s.kerb := (State.finishPop_frame s n count ws ended .kerb rfl).symm
@[simp] theorem State.finishPop_cover (s : State) (n count : Nat) (ws : List QueueWord) (ended : Bool) : (s.finishPop n count ws ended).cover = s.cover := (State.finishPop_frame s n count ws ended .cover rfl).symm
@[simp] theorem State.finishPop_cache (s : State) (n count : Nat) (ws : List QueueWord) (ended : Bool) : (s.finishPop n count ws ended).cache = s.cache := (State.finishPop_frame s n count ws ended .cache rfl).symm
@[simp] theorem State.finishPop_fleet (s : State) (n count : Nat) (ws : List QueueWord) (ended : Bool) : (s.finishPop n count ws ended).fleet = s.fleet := (State.finishPop_frame s n count ws ended .fleet rfl).symm
@[simp] theorem State.finishPop_radio (s : State) (n count : Nat) (ws : List QueueWord) (ended : Bool) : (s.finishPop n count ws ended).radio = s.radio := (State.finishPop_frame s n count ws ended .radio rfl).symm
@[simp] theorem State.finishPop_crier (s : State) (n count : Nat) (ws : List QueueWord) (ended : Bool) : (s.finishPop n count ws ended).crier = s.crier := (State.finishPop_frame s n count ws ended .crier rfl).symm
@[simp] theorem State.finishPop_gate (s : State) (n count : Nat) (ws : List QueueWord) (ended : Bool) : (s.finishPop n count ws ended).gate = s.gate := (State.finishPop_frame s n count ws ended .gate rfl).symm
@[simp] theorem State.finishPop_tram (s : State) (n count : Nat) (ws : List QueueWord) (ended : Bool) : (s.finishPop n count ws ended).tram = s.tram := (State.finishPop_frame s n count ws ended .tram rfl).symm
@[simp] theorem State.finishPop_net (s : State) (n count : Nat) (ws : List QueueWord) (ended : Bool) : (s.finishPop n count ws ended).net = s.net := (State.finishPop_frame s n count ws ended .net rfl).symm
@[simp] theorem State.finishPop_meter (s : State) (n count : Nat) (ws : List QueueWord) (ended : Bool) : (s.finishPop n count ws ended).meter = s.meter := (State.finishPop_frame s n count ws ended .meter rfl).symm
@[simp] theorem State.finishPop_zheoc (s : State) (n count : Nat) (ws : List QueueWord) (ended : Bool) : (s.finishPop n count ws ended).zheoc = s.zheoc := (State.finishPop_frame s n count ws ended .zheoc rfl).symm
@[simp] theorem State.finishPop_store (s : State) (n count : Nat) (ws : List QueueWord) (ended : Bool) : (s.finishPop n count ws ended).store = s.store := (State.finishPop_frame s n count ws ended .store rfl).symm
@[simp] theorem State.finishPop_milestone (s : State) (n count : Nat) (ws : List QueueWord) (ended : Bool) : (s.finishPop n count ws ended).milestone = s.milestone := (State.finishPop_frame s n count ws ended .milestone rfl).symm
@[simp] theorem State.finishPop_dict (s : State) (n count : Nat) (ws : List QueueWord) (ended : Bool) : (s.finishPop n count ws ended).dict = s.dict := (State.finishPop_frame s n count ws ended .dict rfl).symm
@[simp] theorem State.finishPop_bootDict (s : State) (n count : Nat) (ws : List QueueWord) (ended : Bool) : (s.finishPop n count ws ended).bootDict = s.bootDict := (State.finishPop_frame s n count ws ended .bootDict rfl).symm
@[simp] theorem State.finishPop_octets (s : State) (n count : Nat) (ws : List QueueWord) (ended : Bool) : (s.finishPop n count ws ended).octets = s.octets := (State.finishPop_frame s n count ws ended .octets rfl).symm
@[simp] theorem State.finishPop_periods (s : State) (n count : Nat) (ws : List QueueWord) (ended : Bool) : (s.finishPop n count ws ended).periods = s.periods := (State.finishPop_frame s n count ws ended .periods rfl).symm
@[simp] theorem State.finishPop_draws (s : State) (n count : Nat) (ws : List QueueWord) (ended : Bool) : (s.finishPop n count ws ended).draws = s.draws := (State.finishPop_frame s n count ws ended .draws rfl).symm
@[simp] theorem State.finishPop_pending (s : State) (n count : Nat) (ws : List QueueWord) (ended : Bool) : (s.finishPop n count ws ended).pending = s.pending := (State.finishPop_frame s n count ws ended .pending rfl).symm

theorem State.runPop_frame (s : State) (n want : Nat) (taken : List QueueWord) : State.changesOnly [.queues, .host] s (s.runPop n want taken) := by
  unfold State.runPop
  exact changesOnly_ite ((s.setQueue_frame n _).seq (State.finishPop_frame _ _ _ _ _)) ((s.setQueue_frame n _).seq (only_host _ _))

@[simp] theorem State.runPop_mode (s : State) (n want : Nat) (taken : List QueueWord) : (s.runPop n want taken).mode = s.mode := (State.runPop_frame s n want taken .mode rfl).symm
@[simp] theorem State.runPop_boot (s : State) (n want : Nat) (taken : List QueueWord) : (s.runPop n want taken).boot = s.boot := (State.runPop_frame s n want taken .boot rfl).symm
@[simp] theorem State.runPop_outputs (s : State) (n want : Nat) (taken : List QueueWord) : (s.runPop n want taken).outputs = s.outputs := (State.runPop_frame s n want taken .outputs rfl).symm
@[simp] theorem State.runPop_power (s : State) (n want : Nat) (taken : List QueueWord) : (s.runPop n want taken).power = s.power := (State.runPop_frame s n want taken .power rfl).symm
@[simp] theorem State.runPop_clk (s : State) (n want : Nat) (taken : List QueueWord) : (s.runPop n want taken).clk = s.clk := (State.runPop_frame s n want taken .clk rfl).symm
@[simp] theorem State.runPop_roundabout (s : State) (n want : Nat) (taken : List QueueWord) : (s.runPop n want taken).roundabout = s.roundabout := (State.runPop_frame s n want taken .roundabout rfl).symm
@[simp] theorem State.runPop_mbox (s : State) (n want : Nat) (taken : List QueueWord) : (s.runPop n want taken).mbox = s.mbox := (State.runPop_frame s n want taken .mbox rfl).symm
@[simp] theorem State.runPop_sessions (s : State) (n want : Nat) (taken : List QueueWord) : (s.runPop n want taken).sessions = s.sessions := (State.runPop_frame s n want taken .sessions rfl).symm
@[simp] theorem State.runPop_remotes (s : State) (n want : Nat) (taken : List QueueWord) : (s.runPop n want taken).remotes = s.remotes := (State.runPop_frame s n want taken .remotes rfl).symm
@[simp] theorem State.runPop_gnss (s : State) (n want : Nat) (taken : List QueueWord) : (s.runPop n want taken).gnss = s.gnss := (State.runPop_frame s n want taken .gnss rfl).symm
@[simp] theorem State.runPop_obs (s : State) (n want : Nat) (taken : List QueueWord) : (s.runPop n want taken).obs = s.obs := (State.runPop_frame s n want taken .obs rfl).symm
@[simp] theorem State.runPop_baseRef (s : State) (n want : Nat) (taken : List QueueWord) : (s.runPop n want taken).baseRef = s.baseRef := (State.runPop_frame s n want taken .baseRef rfl).symm
@[simp] theorem State.runPop_nav (s : State) (n want : Nat) (taken : List QueueWord) : (s.runPop n want taken).nav = s.nav := (State.runPop_frame s n want taken .nav rfl).symm
@[simp] theorem State.runPop_blv (s : State) (n want : Nat) (taken : List QueueWord) : (s.runPop n want taken).blv = s.blv := (State.runPop_frame s n want taken .blv rfl).symm
@[simp] theorem State.runPop_kerb (s : State) (n want : Nat) (taken : List QueueWord) : (s.runPop n want taken).kerb = s.kerb := (State.runPop_frame s n want taken .kerb rfl).symm
@[simp] theorem State.runPop_cover (s : State) (n want : Nat) (taken : List QueueWord) : (s.runPop n want taken).cover = s.cover := (State.runPop_frame s n want taken .cover rfl).symm
@[simp] theorem State.runPop_cache (s : State) (n want : Nat) (taken : List QueueWord) : (s.runPop n want taken).cache = s.cache := (State.runPop_frame s n want taken .cache rfl).symm
@[simp] theorem State.runPop_fleet (s : State) (n want : Nat) (taken : List QueueWord) : (s.runPop n want taken).fleet = s.fleet := (State.runPop_frame s n want taken .fleet rfl).symm
@[simp] theorem State.runPop_radio (s : State) (n want : Nat) (taken : List QueueWord) : (s.runPop n want taken).radio = s.radio := (State.runPop_frame s n want taken .radio rfl).symm
@[simp] theorem State.runPop_crier (s : State) (n want : Nat) (taken : List QueueWord) : (s.runPop n want taken).crier = s.crier := (State.runPop_frame s n want taken .crier rfl).symm
@[simp] theorem State.runPop_gate (s : State) (n want : Nat) (taken : List QueueWord) : (s.runPop n want taken).gate = s.gate := (State.runPop_frame s n want taken .gate rfl).symm
@[simp] theorem State.runPop_tram (s : State) (n want : Nat) (taken : List QueueWord) : (s.runPop n want taken).tram = s.tram := (State.runPop_frame s n want taken .tram rfl).symm
@[simp] theorem State.runPop_net (s : State) (n want : Nat) (taken : List QueueWord) : (s.runPop n want taken).net = s.net := (State.runPop_frame s n want taken .net rfl).symm
@[simp] theorem State.runPop_meter (s : State) (n want : Nat) (taken : List QueueWord) : (s.runPop n want taken).meter = s.meter := (State.runPop_frame s n want taken .meter rfl).symm
@[simp] theorem State.runPop_zheoc (s : State) (n want : Nat) (taken : List QueueWord) : (s.runPop n want taken).zheoc = s.zheoc := (State.runPop_frame s n want taken .zheoc rfl).symm
@[simp] theorem State.runPop_store (s : State) (n want : Nat) (taken : List QueueWord) : (s.runPop n want taken).store = s.store := (State.runPop_frame s n want taken .store rfl).symm
@[simp] theorem State.runPop_milestone (s : State) (n want : Nat) (taken : List QueueWord) : (s.runPop n want taken).milestone = s.milestone := (State.runPop_frame s n want taken .milestone rfl).symm
@[simp] theorem State.runPop_dict (s : State) (n want : Nat) (taken : List QueueWord) : (s.runPop n want taken).dict = s.dict := (State.runPop_frame s n want taken .dict rfl).symm
@[simp] theorem State.runPop_bootDict (s : State) (n want : Nat) (taken : List QueueWord) : (s.runPop n want taken).bootDict = s.bootDict := (State.runPop_frame s n want taken .bootDict rfl).symm
@[simp] theorem State.runPop_octets (s : State) (n want : Nat) (taken : List QueueWord) : (s.runPop n want taken).octets = s.octets := (State.runPop_frame s n want taken .octets rfl).symm
@[simp] theorem State.runPop_periods (s : State) (n want : Nat) (taken : List QueueWord) : (s.runPop n want taken).periods = s.periods := (State.runPop_frame s n want taken .periods rfl).symm
@[simp] theorem State.runPop_draws (s : State) (n want : Nat) (taken : List QueueWord) : (s.runPop n want taken).draws = s.draws := (State.runPop_frame s n want taken .draws rfl).symm
@[simp] theorem State.runPop_pending (s : State) (n want : Nat) (taken : List QueueWord) : (s.runPop n want taken).pending = s.pending := (State.runPop_frame s n want taken .pending rfl).symm

theorem State.resumeStall_frame (s : State) (n : Nat) : State.changesOnly [.queues, .host] s (s.resumeStall n) := by
  unfold State.resumeStall
  split
  · exact changesOnly_ite (State.runPop_frame _ _ _ _) (changesOnly_refl _ _)
  · exact changesOnly_ite (State.finishPush_frame _ _ _ _ _) (changesOnly_refl _ _)
  · exact changesOnly_refl _ _

@[simp] theorem State.resumeStall_mode (s : State) (n : Nat) : (s.resumeStall n).mode = s.mode := (State.resumeStall_frame s n .mode rfl).symm
@[simp] theorem State.resumeStall_boot (s : State) (n : Nat) : (s.resumeStall n).boot = s.boot := (State.resumeStall_frame s n .boot rfl).symm
@[simp] theorem State.resumeStall_outputs (s : State) (n : Nat) : (s.resumeStall n).outputs = s.outputs := (State.resumeStall_frame s n .outputs rfl).symm
@[simp] theorem State.resumeStall_power (s : State) (n : Nat) : (s.resumeStall n).power = s.power := (State.resumeStall_frame s n .power rfl).symm
@[simp] theorem State.resumeStall_clk (s : State) (n : Nat) : (s.resumeStall n).clk = s.clk := (State.resumeStall_frame s n .clk rfl).symm
@[simp] theorem State.resumeStall_roundabout (s : State) (n : Nat) : (s.resumeStall n).roundabout = s.roundabout := (State.resumeStall_frame s n .roundabout rfl).symm
@[simp] theorem State.resumeStall_mbox (s : State) (n : Nat) : (s.resumeStall n).mbox = s.mbox := (State.resumeStall_frame s n .mbox rfl).symm
@[simp] theorem State.resumeStall_sessions (s : State) (n : Nat) : (s.resumeStall n).sessions = s.sessions := (State.resumeStall_frame s n .sessions rfl).symm
@[simp] theorem State.resumeStall_remotes (s : State) (n : Nat) : (s.resumeStall n).remotes = s.remotes := (State.resumeStall_frame s n .remotes rfl).symm
@[simp] theorem State.resumeStall_gnss (s : State) (n : Nat) : (s.resumeStall n).gnss = s.gnss := (State.resumeStall_frame s n .gnss rfl).symm
@[simp] theorem State.resumeStall_obs (s : State) (n : Nat) : (s.resumeStall n).obs = s.obs := (State.resumeStall_frame s n .obs rfl).symm
@[simp] theorem State.resumeStall_baseRef (s : State) (n : Nat) : (s.resumeStall n).baseRef = s.baseRef := (State.resumeStall_frame s n .baseRef rfl).symm
@[simp] theorem State.resumeStall_nav (s : State) (n : Nat) : (s.resumeStall n).nav = s.nav := (State.resumeStall_frame s n .nav rfl).symm
@[simp] theorem State.resumeStall_blv (s : State) (n : Nat) : (s.resumeStall n).blv = s.blv := (State.resumeStall_frame s n .blv rfl).symm
@[simp] theorem State.resumeStall_kerb (s : State) (n : Nat) : (s.resumeStall n).kerb = s.kerb := (State.resumeStall_frame s n .kerb rfl).symm
@[simp] theorem State.resumeStall_cover (s : State) (n : Nat) : (s.resumeStall n).cover = s.cover := (State.resumeStall_frame s n .cover rfl).symm
@[simp] theorem State.resumeStall_cache (s : State) (n : Nat) : (s.resumeStall n).cache = s.cache := (State.resumeStall_frame s n .cache rfl).symm
@[simp] theorem State.resumeStall_fleet (s : State) (n : Nat) : (s.resumeStall n).fleet = s.fleet := (State.resumeStall_frame s n .fleet rfl).symm
@[simp] theorem State.resumeStall_radio (s : State) (n : Nat) : (s.resumeStall n).radio = s.radio := (State.resumeStall_frame s n .radio rfl).symm
@[simp] theorem State.resumeStall_crier (s : State) (n : Nat) : (s.resumeStall n).crier = s.crier := (State.resumeStall_frame s n .crier rfl).symm
@[simp] theorem State.resumeStall_gate (s : State) (n : Nat) : (s.resumeStall n).gate = s.gate := (State.resumeStall_frame s n .gate rfl).symm
@[simp] theorem State.resumeStall_tram (s : State) (n : Nat) : (s.resumeStall n).tram = s.tram := (State.resumeStall_frame s n .tram rfl).symm
@[simp] theorem State.resumeStall_net (s : State) (n : Nat) : (s.resumeStall n).net = s.net := (State.resumeStall_frame s n .net rfl).symm
@[simp] theorem State.resumeStall_meter (s : State) (n : Nat) : (s.resumeStall n).meter = s.meter := (State.resumeStall_frame s n .meter rfl).symm
@[simp] theorem State.resumeStall_zheoc (s : State) (n : Nat) : (s.resumeStall n).zheoc = s.zheoc := (State.resumeStall_frame s n .zheoc rfl).symm
@[simp] theorem State.resumeStall_store (s : State) (n : Nat) : (s.resumeStall n).store = s.store := (State.resumeStall_frame s n .store rfl).symm
@[simp] theorem State.resumeStall_milestone (s : State) (n : Nat) : (s.resumeStall n).milestone = s.milestone := (State.resumeStall_frame s n .milestone rfl).symm
@[simp] theorem State.resumeStall_dict (s : State) (n : Nat) : (s.resumeStall n).dict = s.dict := (State.resumeStall_frame s n .dict rfl).symm
@[simp] theorem State.resumeStall_bootDict (s : State) (n : Nat) : (s.resumeStall n).bootDict = s.bootDict := (State.resumeStall_frame s n .bootDict rfl).symm
@[simp] theorem State.resumeStall_octets (s : State) (n : Nat) : (s.resumeStall n).octets = s.octets := (State.resumeStall_frame s n .octets rfl).symm
@[simp] theorem State.resumeStall_periods (s : State) (n : Nat) : (s.resumeStall n).periods = s.periods := (State.resumeStall_frame s n .periods rfl).symm
@[simp] theorem State.resumeStall_draws (s : State) (n : Nat) : (s.resumeStall n).draws = s.draws := (State.resumeStall_frame s n .draws rfl).symm
@[simp] theorem State.resumeStall_pending (s : State) (n : Nat) : (s.resumeStall n).pending = s.pending := (State.resumeStall_frame s n .pending rfl).symm

theorem State.producePacket_frame (s : State) (n : Nat) (r : List Byte) : State.changesOnly [.queues, .host] s (s.producePacket n r) :=
  ((s.applyPush_frame n _ true).seq (State.resumeStall_frame _ n)).within (by decide)

@[simp] theorem State.producePacket_mode (s : State) (n : Nat) (r : List Byte) : (s.producePacket n r).mode = s.mode := (State.producePacket_frame s n r .mode rfl).symm
@[simp] theorem State.producePacket_boot (s : State) (n : Nat) (r : List Byte) : (s.producePacket n r).boot = s.boot := (State.producePacket_frame s n r .boot rfl).symm
@[simp] theorem State.producePacket_outputs (s : State) (n : Nat) (r : List Byte) : (s.producePacket n r).outputs = s.outputs := (State.producePacket_frame s n r .outputs rfl).symm
@[simp] theorem State.producePacket_power (s : State) (n : Nat) (r : List Byte) : (s.producePacket n r).power = s.power := (State.producePacket_frame s n r .power rfl).symm
@[simp] theorem State.producePacket_clk (s : State) (n : Nat) (r : List Byte) : (s.producePacket n r).clk = s.clk := (State.producePacket_frame s n r .clk rfl).symm
@[simp] theorem State.producePacket_roundabout (s : State) (n : Nat) (r : List Byte) : (s.producePacket n r).roundabout = s.roundabout := (State.producePacket_frame s n r .roundabout rfl).symm
@[simp] theorem State.producePacket_mbox (s : State) (n : Nat) (r : List Byte) : (s.producePacket n r).mbox = s.mbox := (State.producePacket_frame s n r .mbox rfl).symm
@[simp] theorem State.producePacket_sessions (s : State) (n : Nat) (r : List Byte) : (s.producePacket n r).sessions = s.sessions := (State.producePacket_frame s n r .sessions rfl).symm
@[simp] theorem State.producePacket_remotes (s : State) (n : Nat) (r : List Byte) : (s.producePacket n r).remotes = s.remotes := (State.producePacket_frame s n r .remotes rfl).symm
@[simp] theorem State.producePacket_gnss (s : State) (n : Nat) (r : List Byte) : (s.producePacket n r).gnss = s.gnss := (State.producePacket_frame s n r .gnss rfl).symm
@[simp] theorem State.producePacket_obs (s : State) (n : Nat) (r : List Byte) : (s.producePacket n r).obs = s.obs := (State.producePacket_frame s n r .obs rfl).symm
@[simp] theorem State.producePacket_baseRef (s : State) (n : Nat) (r : List Byte) : (s.producePacket n r).baseRef = s.baseRef := (State.producePacket_frame s n r .baseRef rfl).symm
@[simp] theorem State.producePacket_nav (s : State) (n : Nat) (r : List Byte) : (s.producePacket n r).nav = s.nav := (State.producePacket_frame s n r .nav rfl).symm
@[simp] theorem State.producePacket_blv (s : State) (n : Nat) (r : List Byte) : (s.producePacket n r).blv = s.blv := (State.producePacket_frame s n r .blv rfl).symm
@[simp] theorem State.producePacket_kerb (s : State) (n : Nat) (r : List Byte) : (s.producePacket n r).kerb = s.kerb := (State.producePacket_frame s n r .kerb rfl).symm
@[simp] theorem State.producePacket_cover (s : State) (n : Nat) (r : List Byte) : (s.producePacket n r).cover = s.cover := (State.producePacket_frame s n r .cover rfl).symm
@[simp] theorem State.producePacket_cache (s : State) (n : Nat) (r : List Byte) : (s.producePacket n r).cache = s.cache := (State.producePacket_frame s n r .cache rfl).symm
@[simp] theorem State.producePacket_fleet (s : State) (n : Nat) (r : List Byte) : (s.producePacket n r).fleet = s.fleet := (State.producePacket_frame s n r .fleet rfl).symm
@[simp] theorem State.producePacket_radio (s : State) (n : Nat) (r : List Byte) : (s.producePacket n r).radio = s.radio := (State.producePacket_frame s n r .radio rfl).symm
@[simp] theorem State.producePacket_crier (s : State) (n : Nat) (r : List Byte) : (s.producePacket n r).crier = s.crier := (State.producePacket_frame s n r .crier rfl).symm
@[simp] theorem State.producePacket_gate (s : State) (n : Nat) (r : List Byte) : (s.producePacket n r).gate = s.gate := (State.producePacket_frame s n r .gate rfl).symm
@[simp] theorem State.producePacket_tram (s : State) (n : Nat) (r : List Byte) : (s.producePacket n r).tram = s.tram := (State.producePacket_frame s n r .tram rfl).symm
@[simp] theorem State.producePacket_net (s : State) (n : Nat) (r : List Byte) : (s.producePacket n r).net = s.net := (State.producePacket_frame s n r .net rfl).symm
@[simp] theorem State.producePacket_meter (s : State) (n : Nat) (r : List Byte) : (s.producePacket n r).meter = s.meter := (State.producePacket_frame s n r .meter rfl).symm
@[simp] theorem State.producePacket_zheoc (s : State) (n : Nat) (r : List Byte) : (s.producePacket n r).zheoc = s.zheoc := (State.producePacket_frame s n r .zheoc rfl).symm
@[simp] theorem State.producePacket_store (s : State) (n : Nat) (r : List Byte) : (s.producePacket n r).store = s.store := (State.producePacket_frame s n r .store rfl).symm
@[simp] theorem State.producePacket_milestone (s : State) (n : Nat) (r : List Byte) : (s.producePacket n r).milestone = s.milestone := (State.producePacket_frame s n r .milestone rfl).symm
@[simp] theorem State.producePacket_dict (s : State) (n : Nat) (r : List Byte) : (s.producePacket n r).dict = s.dict := (State.producePacket_frame s n r .dict rfl).symm
@[simp] theorem State.producePacket_bootDict (s : State) (n : Nat) (r : List Byte) : (s.producePacket n r).bootDict = s.bootDict := (State.producePacket_frame s n r .bootDict rfl).symm
@[simp] theorem State.producePacket_octets (s : State) (n : Nat) (r : List Byte) : (s.producePacket n r).octets = s.octets := (State.producePacket_frame s n r .octets rfl).symm
@[simp] theorem State.producePacket_periods (s : State) (n : Nat) (r : List Byte) : (s.producePacket n r).periods = s.periods := (State.producePacket_frame s n r .periods rfl).symm
@[simp] theorem State.producePacket_draws (s : State) (n : Nat) (r : List Byte) : (s.producePacket n r).draws = s.draws := (State.producePacket_frame s n r .draws rfl).symm
@[simp] theorem State.producePacket_pending (s : State) (n : Nat) (r : List Byte) : (s.producePacket n r).pending = s.pending := (State.producePacket_frame s n r .pending rfl).symm


end Sys2Proof.Machine
end

