-- ==== Sys2Proof/Laws/Backlog.lean ====
section
/-!
SUPPORT. Laws/Backlog.lean: records that go from a host copy to its queue change the queues and the host port alone.
-/
namespace Sys2Proof.Machine

theorem drainBacklog_frame (n : Nat) (l : List (List Byte)) (s : State) : State.changesOnly [.queues, .host] s (drainBacklog n l s).2 := by
  induction l generalizing s with
  | nil => exact changesOnly_refl _ s
  | cons r t ih =>
    unfold drainBacklog
    split
    · exact ((s.producePacket_frame n r).seq (ih _)).within (by decide)
    · exact changesOnly_refl _ s

end Sys2Proof.Machine
end

