-- ==== Sys2Proof/Laws/Follow.lean ====
section
/-!
SUPPORT. Laws/Follow.lean: what goes on by itself after a command changes at most.
-/
namespace Sys2Proof.Machine

theorem State.sendTunnel_frame (s : State) (b : List Byte) : State.changesOnly [.radio, .draws] s (s.sendTunnel b) := by
  unfold State.sendTunnel
  exact ((s.updRadio_frame _).seq (changesOnly_foldl (fun s f => State.queueLbt_frame s f _ _ _ _) _ _)).within (by decide)

@[simp] theorem State.sendTunnel_mode (s : State) (b : List Byte) : (s.sendTunnel b).mode = s.mode := (State.sendTunnel_frame s b .mode rfl).symm
@[simp] theorem State.sendTunnel_boot (s : State) (b : List Byte) : (s.sendTunnel b).boot = s.boot := (State.sendTunnel_frame s b .boot rfl).symm
@[simp] theorem State.sendTunnel_outputs (s : State) (b : List Byte) : (s.sendTunnel b).outputs = s.outputs := (State.sendTunnel_frame s b .outputs rfl).symm
@[simp] theorem State.sendTunnel_power (s : State) (b : List Byte) : (s.sendTunnel b).power = s.power := (State.sendTunnel_frame s b .power rfl).symm
@[simp] theorem State.sendTunnel_clk (s : State) (b : List Byte) : (s.sendTunnel b).clk = s.clk := (State.sendTunnel_frame s b .clk rfl).symm
@[simp] theorem State.sendTunnel_roundabout (s : State) (b : List Byte) : (s.sendTunnel b).roundabout = s.roundabout := (State.sendTunnel_frame s b .roundabout rfl).symm
@[simp] theorem State.sendTunnel_queues (s : State) (b : List Byte) : (s.sendTunnel b).queues = s.queues := (State.sendTunnel_frame s b .queues rfl).symm
@[simp] theorem State.sendTunnel_host (s : State) (b : List Byte) : (s.sendTunnel b).host = s.host := (State.sendTunnel_frame s b .host rfl).symm
@[simp] theorem State.sendTunnel_mbox (s : State) (b : List Byte) : (s.sendTunnel b).mbox = s.mbox := (State.sendTunnel_frame s b .mbox rfl).symm
@[simp] theorem State.sendTunnel_sessions (s : State) (b : List Byte) : (s.sendTunnel b).sessions = s.sessions := (State.sendTunnel_frame s b .sessions rfl).symm
@[simp] theorem State.sendTunnel_remotes (s : State) (b : List Byte) : (s.sendTunnel b).remotes = s.remotes := (State.sendTunnel_frame s b .remotes rfl).symm
@[simp] theorem State.sendTunnel_gnss (s : State) (b : List Byte) : (s.sendTunnel b).gnss = s.gnss := (State.sendTunnel_frame s b .gnss rfl).symm
@[simp] theorem State.sendTunnel_obs (s : State) (b : List Byte) : (s.sendTunnel b).obs = s.obs := (State.sendTunnel_frame s b .obs rfl).symm
@[simp] theorem State.sendTunnel_baseRef (s : State) (b : List Byte) : (s.sendTunnel b).baseRef = s.baseRef := (State.sendTunnel_frame s b .baseRef rfl).symm
@[simp] theorem State.sendTunnel_nav (s : State) (b : List Byte) : (s.sendTunnel b).nav = s.nav := (State.sendTunnel_frame s b .nav rfl).symm
@[simp] theorem State.sendTunnel_blv (s : State) (b : List Byte) : (s.sendTunnel b).blv = s.blv := (State.sendTunnel_frame s b .blv rfl).symm
@[simp] theorem State.sendTunnel_kerb (s : State) (b : List Byte) : (s.sendTunnel b).kerb = s.kerb := (State.sendTunnel_frame s b .kerb rfl).symm
@[simp] theorem State.sendTunnel_cover (s : State) (b : List Byte) : (s.sendTunnel b).cover = s.cover := (State.sendTunnel_frame s b .cover rfl).symm
@[simp] theorem State.sendTunnel_cache (s : State) (b : List Byte) : (s.sendTunnel b).cache = s.cache := (State.sendTunnel_frame s b .cache rfl).symm
@[simp] theorem State.sendTunnel_fleet (s : State) (b : List Byte) : (s.sendTunnel b).fleet = s.fleet := (State.sendTunnel_frame s b .fleet rfl).symm
@[simp] theorem State.sendTunnel_crier (s : State) (b : List Byte) : (s.sendTunnel b).crier = s.crier := (State.sendTunnel_frame s b .crier rfl).symm
@[simp] theorem State.sendTunnel_gate (s : State) (b : List Byte) : (s.sendTunnel b).gate = s.gate := (State.sendTunnel_frame s b .gate rfl).symm
@[simp] theorem State.sendTunnel_tram (s : State) (b : List Byte) : (s.sendTunnel b).tram = s.tram := (State.sendTunnel_frame s b .tram rfl).symm
@[simp] theorem State.sendTunnel_net (s : State) (b : List Byte) : (s.sendTunnel b).net = s.net := (State.sendTunnel_frame s b .net rfl).symm
@[simp] theorem State.sendTunnel_meter (s : State) (b : List Byte) : (s.sendTunnel b).meter = s.meter := (State.sendTunnel_frame s b .meter rfl).symm
@[simp] theorem State.sendTunnel_zheoc (s : State) (b : List Byte) : (s.sendTunnel b).zheoc = s.zheoc := (State.sendTunnel_frame s b .zheoc rfl).symm
@[simp] theorem State.sendTunnel_store (s : State) (b : List Byte) : (s.sendTunnel b).store = s.store := (State.sendTunnel_frame s b .store rfl).symm
@[simp] theorem State.sendTunnel_milestone (s : State) (b : List Byte) : (s.sendTunnel b).milestone = s.milestone := (State.sendTunnel_frame s b .milestone rfl).symm
@[simp] theorem State.sendTunnel_dict (s : State) (b : List Byte) : (s.sendTunnel b).dict = s.dict := (State.sendTunnel_frame s b .dict rfl).symm
@[simp] theorem State.sendTunnel_bootDict (s : State) (b : List Byte) : (s.sendTunnel b).bootDict = s.bootDict := (State.sendTunnel_frame s b .bootDict rfl).symm
@[simp] theorem State.sendTunnel_octets (s : State) (b : List Byte) : (s.sendTunnel b).octets = s.octets := (State.sendTunnel_frame s b .octets rfl).symm
@[simp] theorem State.sendTunnel_periods (s : State) (b : List Byte) : (s.sendTunnel b).periods = s.periods := (State.sendTunnel_frame s b .periods rfl).symm
@[simp] theorem State.sendTunnel_pending (s : State) (b : List Byte) : (s.sendTunnel b).pending = s.pending := (State.sendTunnel_frame s b .pending rfl).symm

theorem State.sendReply_frame (s : State) (q : Sess) : State.changesOnly [.sessions, .radio, .draws, .fleet, .gate] s (s.sendReply q) := by
  unfold State.sendReply
  have h : ∀ f, State.changesOnly [.sessions, .radio, .draws, .fleet, .gate] s (s.updSession q f) := fun f => (s.updSession_frame q f).within (by decide)
  simp only []
  split
  · exact h _
  · split
    · exact changesOnly_refl _ s
    · cases q
      case radio => exact ((s.updSession_frame _ _).seq (State.sendTunnel_frame _ _)).within (by decide)
      case baseLink => exact ((s.updSession_frame _ _).seq (State.sendLink_frame _ _ _)).within (by decide)
      all_goals exact h _

@[simp] theorem State.sendReply_mode (s : State) (q : Sess) : (s.sendReply q).mode = s.mode := (State.sendReply_frame s q .mode rfl).symm
@[simp] theorem State.sendReply_boot (s : State) (q : Sess) : (s.sendReply q).boot = s.boot := (State.sendReply_frame s q .boot rfl).symm
@[simp] theorem State.sendReply_outputs (s : State) (q : Sess) : (s.sendReply q).outputs = s.outputs := (State.sendReply_frame s q .outputs rfl).symm
@[simp] theorem State.sendReply_power (s : State) (q : Sess) : (s.sendReply q).power = s.power := (State.sendReply_frame s q .power rfl).symm
@[simp] theorem State.sendReply_clk (s : State) (q : Sess) : (s.sendReply q).clk = s.clk := (State.sendReply_frame s q .clk rfl).symm
@[simp] theorem State.sendReply_roundabout (s : State) (q : Sess) : (s.sendReply q).roundabout = s.roundabout := (State.sendReply_frame s q .roundabout rfl).symm
@[simp] theorem State.sendReply_queues (s : State) (q : Sess) : (s.sendReply q).queues = s.queues := (State.sendReply_frame s q .queues rfl).symm
@[simp] theorem State.sendReply_host (s : State) (q : Sess) : (s.sendReply q).host = s.host := (State.sendReply_frame s q .host rfl).symm
@[simp] theorem State.sendReply_mbox (s : State) (q : Sess) : (s.sendReply q).mbox = s.mbox := (State.sendReply_frame s q .mbox rfl).symm
@[simp] theorem State.sendReply_remotes (s : State) (q : Sess) : (s.sendReply q).remotes = s.remotes := (State.sendReply_frame s q .remotes rfl).symm
@[simp] theorem State.sendReply_gnss (s : State) (q : Sess) : (s.sendReply q).gnss = s.gnss := (State.sendReply_frame s q .gnss rfl).symm
@[simp] theorem State.sendReply_obs (s : State) (q : Sess) : (s.sendReply q).obs = s.obs := (State.sendReply_frame s q .obs rfl).symm
@[simp] theorem State.sendReply_baseRef (s : State) (q : Sess) : (s.sendReply q).baseRef = s.baseRef := (State.sendReply_frame s q .baseRef rfl).symm
@[simp] theorem State.sendReply_nav (s : State) (q : Sess) : (s.sendReply q).nav = s.nav := (State.sendReply_frame s q .nav rfl).symm
@[simp] theorem State.sendReply_blv (s : State) (q : Sess) : (s.sendReply q).blv = s.blv := (State.sendReply_frame s q .blv rfl).symm
@[simp] theorem State.sendReply_kerb (s : State) (q : Sess) : (s.sendReply q).kerb = s.kerb := (State.sendReply_frame s q .kerb rfl).symm
@[simp] theorem State.sendReply_cover (s : State) (q : Sess) : (s.sendReply q).cover = s.cover := (State.sendReply_frame s q .cover rfl).symm
@[simp] theorem State.sendReply_cache (s : State) (q : Sess) : (s.sendReply q).cache = s.cache := (State.sendReply_frame s q .cache rfl).symm
@[simp] theorem State.sendReply_crier (s : State) (q : Sess) : (s.sendReply q).crier = s.crier := (State.sendReply_frame s q .crier rfl).symm
@[simp] theorem State.sendReply_tram (s : State) (q : Sess) : (s.sendReply q).tram = s.tram := (State.sendReply_frame s q .tram rfl).symm
@[simp] theorem State.sendReply_net (s : State) (q : Sess) : (s.sendReply q).net = s.net := (State.sendReply_frame s q .net rfl).symm
@[simp] theorem State.sendReply_meter (s : State) (q : Sess) : (s.sendReply q).meter = s.meter := (State.sendReply_frame s q .meter rfl).symm
@[simp] theorem State.sendReply_zheoc (s : State) (q : Sess) : (s.sendReply q).zheoc = s.zheoc := (State.sendReply_frame s q .zheoc rfl).symm
@[simp] theorem State.sendReply_store (s : State) (q : Sess) : (s.sendReply q).store = s.store := (State.sendReply_frame s q .store rfl).symm
@[simp] theorem State.sendReply_milestone (s : State) (q : Sess) : (s.sendReply q).milestone = s.milestone := (State.sendReply_frame s q .milestone rfl).symm
@[simp] theorem State.sendReply_dict (s : State) (q : Sess) : (s.sendReply q).dict = s.dict := (State.sendReply_frame s q .dict rfl).symm
@[simp] theorem State.sendReply_bootDict (s : State) (q : Sess) : (s.sendReply q).bootDict = s.bootDict := (State.sendReply_frame s q .bootDict rfl).symm
@[simp] theorem State.sendReply_octets (s : State) (q : Sess) : (s.sendReply q).octets = s.octets := (State.sendReply_frame s q .octets rfl).symm
@[simp] theorem State.sendReply_periods (s : State) (q : Sess) : (s.sendReply q).periods = s.periods := (State.sendReply_frame s q .periods rfl).symm
@[simp] theorem State.sendReply_pending (s : State) (q : Sess) : (s.sendReply q).pending = s.pending := (State.sendReply_frame s q .pending rfl).symm

theorem State.pumpRemote_frame (s : State) (slot : Nat) : State.changesOnly [.remotes, .radio, .dict, .milestone, .sessions, .mbox, .host] s (s.pumpRemote slot) := by
  unfold State.pumpRemote
  have ha : ∀ t (l : List RemoteRequest), State.changesOnly [.remotes, .radio, .dict, .milestone, .sessions, .mbox, .host] t (l.foldl (fun s r => s.answerFor r.from_ r.req abortUnavailable [] false) t) :=
    fun t l => changesOnly_foldl (fun s _ => (State.answerFor_frame s _ _ _ _ _).within (by decide)) l t
  simp only []
  split
  · exact changesOnly_refl _ s
  · refine changesOnly_ite (changesOnly_refl _ s) (changesOnly_ite ?_ ?_)
    · exact ((only_remotes s _).seq (ha _ _)).within (by decide)
    · exact ((only_remotes s _).seq (State.updRadio_frame _ _)).within (by decide)

@[simp] theorem State.pumpRemote_mode (s : State) (slot : Nat) : (s.pumpRemote slot).mode = s.mode := (State.pumpRemote_frame s slot .mode rfl).symm
@[simp] theorem State.pumpRemote_boot (s : State) (slot : Nat) : (s.pumpRemote slot).boot = s.boot := (State.pumpRemote_frame s slot .boot rfl).symm
@[simp] theorem State.pumpRemote_outputs (s : State) (slot : Nat) : (s.pumpRemote slot).outputs = s.outputs := (State.pumpRemote_frame s slot .outputs rfl).symm
@[simp] theorem State.pumpRemote_power (s : State) (slot : Nat) : (s.pumpRemote slot).power = s.power := (State.pumpRemote_frame s slot .power rfl).symm
@[simp] theorem State.pumpRemote_clk (s : State) (slot : Nat) : (s.pumpRemote slot).clk = s.clk := (State.pumpRemote_frame s slot .clk rfl).symm
@[simp] theorem State.pumpRemote_roundabout (s : State) (slot : Nat) : (s.pumpRemote slot).roundabout = s.roundabout := (State.pumpRemote_frame s slot .roundabout rfl).symm
@[simp] theorem State.pumpRemote_queues (s : State) (slot : Nat) : (s.pumpRemote slot).queues = s.queues := (State.pumpRemote_frame s slot .queues rfl).symm
@[simp] theorem State.pumpRemote_gnss (s : State) (slot : Nat) : (s.pumpRemote slot).gnss = s.gnss := (State.pumpRemote_frame s slot .gnss rfl).symm
@[simp] theorem State.pumpRemote_obs (s : State) (slot : Nat) : (s.pumpRemote slot).obs = s.obs := (State.pumpRemote_frame s slot .obs rfl).symm
@[simp] theorem State.pumpRemote_baseRef (s : State) (slot : Nat) : (s.pumpRemote slot).baseRef = s.baseRef := (State.pumpRemote_frame s slot .baseRef rfl).symm
@[simp] theorem State.pumpRemote_nav (s : State) (slot : Nat) : (s.pumpRemote slot).nav = s.nav := (State.pumpRemote_frame s slot .nav rfl).symm
@[simp] theorem State.pumpRemote_blv (s : State) (slot : Nat) : (s.pumpRemote slot).blv = s.blv := (State.pumpRemote_frame s slot .blv rfl).symm
@[simp] theorem State.pumpRemote_kerb (s : State) (slot : Nat) : (s.pumpRemote slot).kerb = s.kerb := (State.pumpRemote_frame s slot .kerb rfl).symm
@[simp] theorem State.pumpRemote_cover (s : State) (slot : Nat) : (s.pumpRemote slot).cover = s.cover := (State.pumpRemote_frame s slot .cover rfl).symm
@[simp] theorem State.pumpRemote_cache (s : State) (slot : Nat) : (s.pumpRemote slot).cache = s.cache := (State.pumpRemote_frame s slot .cache rfl).symm
@[simp] theorem State.pumpRemote_fleet (s : State) (slot : Nat) : (s.pumpRemote slot).fleet = s.fleet := (State.pumpRemote_frame s slot .fleet rfl).symm
@[simp] theorem State.pumpRemote_crier (s : State) (slot : Nat) : (s.pumpRemote slot).crier = s.crier := (State.pumpRemote_frame s slot .crier rfl).symm
@[simp] theorem State.pumpRemote_gate (s : State) (slot : Nat) : (s.pumpRemote slot).gate = s.gate := (State.pumpRemote_frame s slot .gate rfl).symm
@[simp] theorem State.pumpRemote_tram (s : State) (slot : Nat) : (s.pumpRemote slot).tram = s.tram := (State.pumpRemote_frame s slot .tram rfl).symm
@[simp] theorem State.pumpRemote_net (s : State) (slot : Nat) : (s.pumpRemote slot).net = s.net := (State.pumpRemote_frame s slot .net rfl).symm
@[simp] theorem State.pumpRemote_meter (s : State) (slot : Nat) : (s.pumpRemote slot).meter = s.meter := (State.pumpRemote_frame s slot .meter rfl).symm
@[simp] theorem State.pumpRemote_zheoc (s : State) (slot : Nat) : (s.pumpRemote slot).zheoc = s.zheoc := (State.pumpRemote_frame s slot .zheoc rfl).symm
@[simp] theorem State.pumpRemote_store (s : State) (slot : Nat) : (s.pumpRemote slot).store = s.store := (State.pumpRemote_frame s slot .store rfl).symm
@[simp] theorem State.pumpRemote_bootDict (s : State) (slot : Nat) : (s.pumpRemote slot).bootDict = s.bootDict := (State.pumpRemote_frame s slot .bootDict rfl).symm
@[simp] theorem State.pumpRemote_octets (s : State) (slot : Nat) : (s.pumpRemote slot).octets = s.octets := (State.pumpRemote_frame s slot .octets rfl).symm
@[simp] theorem State.pumpRemote_periods (s : State) (slot : Nat) : (s.pumpRemote slot).periods = s.periods := (State.pumpRemote_frame s slot .periods rfl).symm
@[simp] theorem State.pumpRemote_draws (s : State) (slot : Nat) : (s.pumpRemote slot).draws = s.draws := (State.pumpRemote_frame s slot .draws rfl).symm
@[simp] theorem State.pumpRemote_pending (s : State) (slot : Nat) : (s.pumpRemote slot).pending = s.pending := (State.pumpRemote_frame s slot .pending rfl).symm

theorem State.sendAnswer_frame (s : State) : State.changesOnly [.gate, .fleet, .radio] s (s.sendAnswer) := by
  unfold State.sendAnswer
  split
  · exact changesOnly_refl _ _
  · refine changesOnly_ite (changesOnly_refl _ _) ?_
    split
    · exact changesOnly_refl _ _
    · refine changesOnly_ite (changesOnly_refl _ _) (changesOnly_ite ?_ ?_)
      · exact ((s.updActivation_frame _).seq (State.sendLink_frame _ _ _)).within (by decide)
      · exact ((s.updActivation_frame _).seq (State.queueUp_frame _ _)).within (by decide)

@[simp] theorem State.sendAnswer_mode (s : State) : (s.sendAnswer).mode = s.mode := (State.sendAnswer_frame s .mode rfl).symm
@[simp] theorem State.sendAnswer_boot (s : State) : (s.sendAnswer).boot = s.boot := (State.sendAnswer_frame s .boot rfl).symm
@[simp] theorem State.sendAnswer_outputs (s : State) : (s.sendAnswer).outputs = s.outputs := (State.sendAnswer_frame s .outputs rfl).symm
@[simp] theorem State.sendAnswer_power (s : State) : (s.sendAnswer).power = s.power := (State.sendAnswer_frame s .power rfl).symm
@[simp] theorem State.sendAnswer_clk (s : State) : (s.sendAnswer).clk = s.clk := (State.sendAnswer_frame s .clk rfl).symm
@[simp] theorem State.sendAnswer_roundabout (s : State) : (s.sendAnswer).roundabout = s.roundabout := (State.sendAnswer_frame s .roundabout rfl).symm
@[simp] theorem State.sendAnswer_queues (s : State) : (s.sendAnswer).queues = s.queues := (State.sendAnswer_frame s .queues rfl).symm
@[simp] theorem State.sendAnswer_host (s : State) : (s.sendAnswer).host = s.host := (State.sendAnswer_frame s .host rfl).symm
@[simp] theorem State.sendAnswer_mbox (s : State) : (s.sendAnswer).mbox = s.mbox := (State.sendAnswer_frame s .mbox rfl).symm
@[simp] theorem State.sendAnswer_sessions (s : State) : (s.sendAnswer).sessions = s.sessions := (State.sendAnswer_frame s .sessions rfl).symm
@[simp] theorem State.sendAnswer_remotes (s : State) : (s.sendAnswer).remotes = s.remotes := (State.sendAnswer_frame s .remotes rfl).symm
@[simp] theorem State.sendAnswer_gnss (s : State) : (s.sendAnswer).gnss = s.gnss := (State.sendAnswer_frame s .gnss rfl).symm
@[simp] theorem State.sendAnswer_obs (s : State) : (s.sendAnswer).obs = s.obs := (State.sendAnswer_frame s .obs rfl).symm
@[simp] theorem State.sendAnswer_baseRef (s : State) : (s.sendAnswer).baseRef = s.baseRef := (State.sendAnswer_frame s .baseRef rfl).symm
@[simp] theorem State.sendAnswer_nav (s : State) : (s.sendAnswer).nav = s.nav := (State.sendAnswer_frame s .nav rfl).symm
@[simp] theorem State.sendAnswer_blv (s : State) : (s.sendAnswer).blv = s.blv := (State.sendAnswer_frame s .blv rfl).symm
@[simp] theorem State.sendAnswer_kerb (s : State) : (s.sendAnswer).kerb = s.kerb := (State.sendAnswer_frame s .kerb rfl).symm
@[simp] theorem State.sendAnswer_cover (s : State) : (s.sendAnswer).cover = s.cover := (State.sendAnswer_frame s .cover rfl).symm
@[simp] theorem State.sendAnswer_cache (s : State) : (s.sendAnswer).cache = s.cache := (State.sendAnswer_frame s .cache rfl).symm
@[simp] theorem State.sendAnswer_crier (s : State) : (s.sendAnswer).crier = s.crier := (State.sendAnswer_frame s .crier rfl).symm
@[simp] theorem State.sendAnswer_tram (s : State) : (s.sendAnswer).tram = s.tram := (State.sendAnswer_frame s .tram rfl).symm
@[simp] theorem State.sendAnswer_net (s : State) : (s.sendAnswer).net = s.net := (State.sendAnswer_frame s .net rfl).symm
@[simp] theorem State.sendAnswer_meter (s : State) : (s.sendAnswer).meter = s.meter := (State.sendAnswer_frame s .meter rfl).symm
@[simp] theorem State.sendAnswer_zheoc (s : State) : (s.sendAnswer).zheoc = s.zheoc := (State.sendAnswer_frame s .zheoc rfl).symm
@[simp] theorem State.sendAnswer_store (s : State) : (s.sendAnswer).store = s.store := (State.sendAnswer_frame s .store rfl).symm
@[simp] theorem State.sendAnswer_milestone (s : State) : (s.sendAnswer).milestone = s.milestone := (State.sendAnswer_frame s .milestone rfl).symm
@[simp] theorem State.sendAnswer_dict (s : State) : (s.sendAnswer).dict = s.dict := (State.sendAnswer_frame s .dict rfl).symm
@[simp] theorem State.sendAnswer_bootDict (s : State) : (s.sendAnswer).bootDict = s.bootDict := (State.sendAnswer_frame s .bootDict rfl).symm
@[simp] theorem State.sendAnswer_octets (s : State) : (s.sendAnswer).octets = s.octets := (State.sendAnswer_frame s .octets rfl).symm
@[simp] theorem State.sendAnswer_periods (s : State) : (s.sendAnswer).periods = s.periods := (State.sendAnswer_frame s .periods rfl).symm
@[simp] theorem State.sendAnswer_draws (s : State) : (s.sendAnswer).draws = s.draws := (State.sendAnswer_frame s .draws rfl).symm
@[simp] theorem State.sendAnswer_pending (s : State) : (s.sendAnswer).pending = s.pending := (State.sendAnswer_frame s .pending rfl).symm

theorem State.ageUses_frame (s : State) : State.changesOnly [.radio] s (s.ageUses) := by
  unfold State.ageUses
  split
  · exact changesOnly_refl _ _
  · exact changesOnly_ite (changesOnly_refl _ _) (s.updRadio_frame _)

@[simp] theorem State.ageUses_mode (s : State) : (s.ageUses).mode = s.mode := (State.ageUses_frame s .mode rfl).symm
@[simp] theorem State.ageUses_boot (s : State) : (s.ageUses).boot = s.boot := (State.ageUses_frame s .boot rfl).symm
@[simp] theorem State.ageUses_outputs (s : State) : (s.ageUses).outputs = s.outputs := (State.ageUses_frame s .outputs rfl).symm
@[simp] theorem State.ageUses_power (s : State) : (s.ageUses).power = s.power := (State.ageUses_frame s .power rfl).symm
@[simp] theorem State.ageUses_clk (s : State) : (s.ageUses).clk = s.clk := (State.ageUses_frame s .clk rfl).symm
@[simp] theorem State.ageUses_roundabout (s : State) : (s.ageUses).roundabout = s.roundabout := (State.ageUses_frame s .roundabout rfl).symm
@[simp] theorem State.ageUses_queues (s : State) : (s.ageUses).queues = s.queues := (State.ageUses_frame s .queues rfl).symm
@[simp] theorem State.ageUses_host (s : State) : (s.ageUses).host = s.host := (State.ageUses_frame s .host rfl).symm
@[simp] theorem State.ageUses_mbox (s : State) : (s.ageUses).mbox = s.mbox := (State.ageUses_frame s .mbox rfl).symm
@[simp] theorem State.ageUses_sessions (s : State) : (s.ageUses).sessions = s.sessions := (State.ageUses_frame s .sessions rfl).symm
@[simp] theorem State.ageUses_remotes (s : State) : (s.ageUses).remotes = s.remotes := (State.ageUses_frame s .remotes rfl).symm
@[simp] theorem State.ageUses_gnss (s : State) : (s.ageUses).gnss = s.gnss := (State.ageUses_frame s .gnss rfl).symm
@[simp] theorem State.ageUses_obs (s : State) : (s.ageUses).obs = s.obs := (State.ageUses_frame s .obs rfl).symm
@[simp] theorem State.ageUses_baseRef (s : State) : (s.ageUses).baseRef = s.baseRef := (State.ageUses_frame s .baseRef rfl).symm
@[simp] theorem State.ageUses_nav (s : State) : (s.ageUses).nav = s.nav := (State.ageUses_frame s .nav rfl).symm
@[simp] theorem State.ageUses_blv (s : State) : (s.ageUses).blv = s.blv := (State.ageUses_frame s .blv rfl).symm
@[simp] theorem State.ageUses_kerb (s : State) : (s.ageUses).kerb = s.kerb := (State.ageUses_frame s .kerb rfl).symm
@[simp] theorem State.ageUses_cover (s : State) : (s.ageUses).cover = s.cover := (State.ageUses_frame s .cover rfl).symm
@[simp] theorem State.ageUses_cache (s : State) : (s.ageUses).cache = s.cache := (State.ageUses_frame s .cache rfl).symm
@[simp] theorem State.ageUses_fleet (s : State) : (s.ageUses).fleet = s.fleet := (State.ageUses_frame s .fleet rfl).symm
@[simp] theorem State.ageUses_crier (s : State) : (s.ageUses).crier = s.crier := (State.ageUses_frame s .crier rfl).symm
@[simp] theorem State.ageUses_gate (s : State) : (s.ageUses).gate = s.gate := (State.ageUses_frame s .gate rfl).symm
@[simp] theorem State.ageUses_tram (s : State) : (s.ageUses).tram = s.tram := (State.ageUses_frame s .tram rfl).symm
@[simp] theorem State.ageUses_net (s : State) : (s.ageUses).net = s.net := (State.ageUses_frame s .net rfl).symm
@[simp] theorem State.ageUses_meter (s : State) : (s.ageUses).meter = s.meter := (State.ageUses_frame s .meter rfl).symm
@[simp] theorem State.ageUses_zheoc (s : State) : (s.ageUses).zheoc = s.zheoc := (State.ageUses_frame s .zheoc rfl).symm
@[simp] theorem State.ageUses_store (s : State) : (s.ageUses).store = s.store := (State.ageUses_frame s .store rfl).symm
@[simp] theorem State.ageUses_milestone (s : State) : (s.ageUses).milestone = s.milestone := (State.ageUses_frame s .milestone rfl).symm
@[simp] theorem State.ageUses_dict (s : State) : (s.ageUses).dict = s.dict := (State.ageUses_frame s .dict rfl).symm
@[simp] theorem State.ageUses_bootDict (s : State) : (s.ageUses).bootDict = s.bootDict := (State.ageUses_frame s .bootDict rfl).symm
@[simp] theorem State.ageUses_octets (s : State) : (s.ageUses).octets = s.octets := (State.ageUses_frame s .octets rfl).symm
@[simp] theorem State.ageUses_periods (s : State) : (s.ageUses).periods = s.periods := (State.ageUses_frame s .periods rfl).symm
@[simp] theorem State.ageUses_draws (s : State) : (s.ageUses).draws = s.draws := (State.ageUses_frame s .draws rfl).symm
@[simp] theorem State.ageUses_pending (s : State) : (s.ageUses).pending = s.pending := (State.ageUses_frame s .pending rfl).symm

theorem State.drainNav_frame (s : State) : State.changesOnly [.gnss, .queues, .host] s (s.drainNav) :=
  ((drainBacklog_frame _ _ s).seq (only_gnss _ _)).within (by decide)

@[simp] theorem State.drainNav_mode (s : State) : (s.drainNav).mode = s.mode := (State.drainNav_frame s .mode rfl).symm
@[simp] theorem State.drainNav_boot (s : State) : (s.drainNav).boot = s.boot := (State.drainNav_frame s .boot rfl).symm
@[simp] theorem State.drainNav_outputs (s : State) : (s.drainNav).outputs = s.outputs := (State.drainNav_frame s .outputs rfl).symm
@[simp] theorem State.drainNav_power (s : State) : (s.drainNav).power = s.power := (State.drainNav_frame s .power rfl).symm
@[simp] theorem State.drainNav_clk (s : State) : (s.drainNav).clk = s.clk := (State.drainNav_frame s .clk rfl).symm
@[simp] theorem State.drainNav_roundabout (s : State) : (s.drainNav).roundabout = s.roundabout := (State.drainNav_frame s .roundabout rfl).symm
@[simp] theorem State.drainNav_mbox (s : State) : (s.drainNav).mbox = s.mbox := (State.drainNav_frame s .mbox rfl).symm
@[simp] theorem State.drainNav_sessions (s : State) : (s.drainNav).sessions = s.sessions := (State.drainNav_frame s .sessions rfl).symm
@[simp] theorem State.drainNav_remotes (s : State) : (s.drainNav).remotes = s.remotes := (State.drainNav_frame s .remotes rfl).symm
@[simp] theorem State.drainNav_obs (s : State) : (s.drainNav).obs = s.obs := (State.drainNav_frame s .obs rfl).symm
@[simp] theorem State.drainNav_baseRef (s : State) : (s.drainNav).baseRef = s.baseRef := (State.drainNav_frame s .baseRef rfl).symm
@[simp] theorem State.drainNav_nav (s : State) : (s.drainNav).nav = s.nav := (State.drainNav_frame s .nav rfl).symm
@[simp] theorem State.drainNav_blv (s : State) : (s.drainNav).blv = s.blv := (State.drainNav_frame s .blv rfl).symm
@[simp] theorem State.drainNav_kerb (s : State) : (s.drainNav).kerb = s.kerb := (State.drainNav_frame s .kerb rfl).symm
@[simp] theorem State.drainNav_cover (s : State) : (s.drainNav).cover = s.cover := (State.drainNav_frame s .cover rfl).symm
@[simp] theorem State.drainNav_cache (s : State) : (s.drainNav).cache = s.cache := (State.drainNav_frame s .cache rfl).symm
@[simp] theorem State.drainNav_fleet (s : State) : (s.drainNav).fleet = s.fleet := (State.drainNav_frame s .fleet rfl).symm
@[simp] theorem State.drainNav_radio (s : State) : (s.drainNav).radio = s.radio := (State.drainNav_frame s .radio rfl).symm
@[simp] theorem State.drainNav_crier (s : State) : (s.drainNav).crier = s.crier := (State.drainNav_frame s .crier rfl).symm
@[simp] theorem State.drainNav_gate (s : State) : (s.drainNav).gate = s.gate := (State.drainNav_frame s .gate rfl).symm
@[simp] theorem State.drainNav_tram (s : State) : (s.drainNav).tram = s.tram := (State.drainNav_frame s .tram rfl).symm
@[simp] theorem State.drainNav_net (s : State) : (s.drainNav).net = s.net := (State.drainNav_frame s .net rfl).symm
@[simp] theorem State.drainNav_meter (s : State) : (s.drainNav).meter = s.meter := (State.drainNav_frame s .meter rfl).symm
@[simp] theorem State.drainNav_zheoc (s : State) : (s.drainNav).zheoc = s.zheoc := (State.drainNav_frame s .zheoc rfl).symm
@[simp] theorem State.drainNav_store (s : State) : (s.drainNav).store = s.store := (State.drainNav_frame s .store rfl).symm
@[simp] theorem State.drainNav_milestone (s : State) : (s.drainNav).milestone = s.milestone := (State.drainNav_frame s .milestone rfl).symm
@[simp] theorem State.drainNav_dict (s : State) : (s.drainNav).dict = s.dict := (State.drainNav_frame s .dict rfl).symm
@[simp] theorem State.drainNav_bootDict (s : State) : (s.drainNav).bootDict = s.bootDict := (State.drainNav_frame s .bootDict rfl).symm
@[simp] theorem State.drainNav_octets (s : State) : (s.drainNav).octets = s.octets := (State.drainNav_frame s .octets rfl).symm
@[simp] theorem State.drainNav_periods (s : State) : (s.drainNav).periods = s.periods := (State.drainNav_frame s .periods rfl).symm
@[simp] theorem State.drainNav_draws (s : State) : (s.drainNav).draws = s.draws := (State.drainNav_frame s .draws rfl).symm
@[simp] theorem State.drainNav_pending (s : State) : (s.drainNav).pending = s.pending := (State.drainNav_frame s .pending rfl).symm

theorem State.drainObs_frame (s : State) : State.changesOnly [.obs, .queues, .host] s (s.drainObs) :=
  ((drainBacklog_frame _ _ s).seq (only_obs _ _)).within (by decide)

@[simp] theorem State.drainObs_mode (s : State) : (s.drainObs).mode = s.mode := (State.drainObs_frame s .mode rfl).symm
@[simp] theorem State.drainObs_boot (s : State) : (s.drainObs).boot = s.boot := (State.drainObs_frame s .boot rfl).symm
@[simp] theorem State.drainObs_outputs (s : State) : (s.drainObs).outputs = s.outputs := (State.drainObs_frame s .outputs rfl).symm
@[simp] theorem State.drainObs_power (s : State) : (s.drainObs).power = s.power := (State.drainObs_frame s .power rfl).symm
@[simp] theorem State.drainObs_clk (s : State) : (s.drainObs).clk = s.clk := (State.drainObs_frame s .clk rfl).symm
@[simp] theorem State.drainObs_roundabout (s : State) : (s.drainObs).roundabout = s.roundabout := (State.drainObs_frame s .roundabout rfl).symm
@[simp] theorem State.drainObs_mbox (s : State) : (s.drainObs).mbox = s.mbox := (State.drainObs_frame s .mbox rfl).symm
@[simp] theorem State.drainObs_sessions (s : State) : (s.drainObs).sessions = s.sessions := (State.drainObs_frame s .sessions rfl).symm
@[simp] theorem State.drainObs_remotes (s : State) : (s.drainObs).remotes = s.remotes := (State.drainObs_frame s .remotes rfl).symm
@[simp] theorem State.drainObs_gnss (s : State) : (s.drainObs).gnss = s.gnss := (State.drainObs_frame s .gnss rfl).symm
@[simp] theorem State.drainObs_baseRef (s : State) : (s.drainObs).baseRef = s.baseRef := (State.drainObs_frame s .baseRef rfl).symm
@[simp] theorem State.drainObs_nav (s : State) : (s.drainObs).nav = s.nav := (State.drainObs_frame s .nav rfl).symm
@[simp] theorem State.drainObs_blv (s : State) : (s.drainObs).blv = s.blv := (State.drainObs_frame s .blv rfl).symm
@[simp] theorem State.drainObs_kerb (s : State) : (s.drainObs).kerb = s.kerb := (State.drainObs_frame s .kerb rfl).symm
@[simp] theorem State.drainObs_cover (s : State) : (s.drainObs).cover = s.cover := (State.drainObs_frame s .cover rfl).symm
@[simp] theorem State.drainObs_cache (s : State) : (s.drainObs).cache = s.cache := (State.drainObs_frame s .cache rfl).symm
@[simp] theorem State.drainObs_fleet (s : State) : (s.drainObs).fleet = s.fleet := (State.drainObs_frame s .fleet rfl).symm
@[simp] theorem State.drainObs_radio (s : State) : (s.drainObs).radio = s.radio := (State.drainObs_frame s .radio rfl).symm
@[simp] theorem State.drainObs_crier (s : State) : (s.drainObs).crier = s.crier := (State.drainObs_frame s .crier rfl).symm
@[simp] theorem State.drainObs_gate (s : State) : (s.drainObs).gate = s.gate := (State.drainObs_frame s .gate rfl).symm
@[simp] theorem State.drainObs_tram (s : State) : (s.drainObs).tram = s.tram := (State.drainObs_frame s .tram rfl).symm
@[simp] theorem State.drainObs_net (s : State) : (s.drainObs).net = s.net := (State.drainObs_frame s .net rfl).symm
@[simp] theorem State.drainObs_meter (s : State) : (s.drainObs).meter = s.meter := (State.drainObs_frame s .meter rfl).symm
@[simp] theorem State.drainObs_zheoc (s : State) : (s.drainObs).zheoc = s.zheoc := (State.drainObs_frame s .zheoc rfl).symm
@[simp] theorem State.drainObs_store (s : State) : (s.drainObs).store = s.store := (State.drainObs_frame s .store rfl).symm
@[simp] theorem State.drainObs_milestone (s : State) : (s.drainObs).milestone = s.milestone := (State.drainObs_frame s .milestone rfl).symm
@[simp] theorem State.drainObs_dict (s : State) : (s.drainObs).dict = s.dict := (State.drainObs_frame s .dict rfl).symm
@[simp] theorem State.drainObs_bootDict (s : State) : (s.drainObs).bootDict = s.bootDict := (State.drainObs_frame s .bootDict rfl).symm
@[simp] theorem State.drainObs_octets (s : State) : (s.drainObs).octets = s.octets := (State.drainObs_frame s .octets rfl).symm
@[simp] theorem State.drainObs_periods (s : State) : (s.drainObs).periods = s.periods := (State.drainObs_frame s .periods rfl).symm
@[simp] theorem State.drainObs_draws (s : State) : (s.drainObs).draws = s.draws := (State.drainObs_frame s .draws rfl).symm
@[simp] theorem State.drainObs_pending (s : State) : (s.drainObs).pending = s.pending := (State.drainObs_frame s .pending rfl).symm

theorem State.drainRtcm_frame (s : State) : State.changesOnly [.baseRef, .queues, .host] s (s.drainRtcm) :=
  ((drainBacklog_frame _ _ s).seq (only_baseRef _ _)).within (by decide)

@[simp] theorem State.drainRtcm_mode (s : State) : (s.drainRtcm).mode = s.mode := (State.drainRtcm_frame s .mode rfl).symm
@[simp] theorem State.drainRtcm_boot (s : State) : (s.drainRtcm).boot = s.boot := (State.drainRtcm_frame s .boot rfl).symm
@[simp] theorem State.drainRtcm_outputs (s : State) : (s.drainRtcm).outputs = s.outputs := (State.drainRtcm_frame s .outputs rfl).symm
@[simp] theorem State.drainRtcm_power (s : State) : (s.drainRtcm).power = s.power := (State.drainRtcm_frame s .power rfl).symm
@[simp] theorem State.drainRtcm_clk (s : State) : (s.drainRtcm).clk = s.clk := (State.drainRtcm_frame s .clk rfl).symm
@[simp] theorem State.drainRtcm_roundabout (s : State) : (s.drainRtcm).roundabout = s.roundabout := (State.drainRtcm_frame s .roundabout rfl).symm
@[simp] theorem State.drainRtcm_mbox (s : State) : (s.drainRtcm).mbox = s.mbox := (State.drainRtcm_frame s .mbox rfl).symm
@[simp] theorem State.drainRtcm_sessions (s : State) : (s.drainRtcm).sessions = s.sessions := (State.drainRtcm_frame s .sessions rfl).symm
@[simp] theorem State.drainRtcm_remotes (s : State) : (s.drainRtcm).remotes = s.remotes := (State.drainRtcm_frame s .remotes rfl).symm
@[simp] theorem State.drainRtcm_gnss (s : State) : (s.drainRtcm).gnss = s.gnss := (State.drainRtcm_frame s .gnss rfl).symm
@[simp] theorem State.drainRtcm_obs (s : State) : (s.drainRtcm).obs = s.obs := (State.drainRtcm_frame s .obs rfl).symm
@[simp] theorem State.drainRtcm_nav (s : State) : (s.drainRtcm).nav = s.nav := (State.drainRtcm_frame s .nav rfl).symm
@[simp] theorem State.drainRtcm_blv (s : State) : (s.drainRtcm).blv = s.blv := (State.drainRtcm_frame s .blv rfl).symm
@[simp] theorem State.drainRtcm_kerb (s : State) : (s.drainRtcm).kerb = s.kerb := (State.drainRtcm_frame s .kerb rfl).symm
@[simp] theorem State.drainRtcm_cover (s : State) : (s.drainRtcm).cover = s.cover := (State.drainRtcm_frame s .cover rfl).symm
@[simp] theorem State.drainRtcm_cache (s : State) : (s.drainRtcm).cache = s.cache := (State.drainRtcm_frame s .cache rfl).symm
@[simp] theorem State.drainRtcm_fleet (s : State) : (s.drainRtcm).fleet = s.fleet := (State.drainRtcm_frame s .fleet rfl).symm
@[simp] theorem State.drainRtcm_radio (s : State) : (s.drainRtcm).radio = s.radio := (State.drainRtcm_frame s .radio rfl).symm
@[simp] theorem State.drainRtcm_crier (s : State) : (s.drainRtcm).crier = s.crier := (State.drainRtcm_frame s .crier rfl).symm
@[simp] theorem State.drainRtcm_gate (s : State) : (s.drainRtcm).gate = s.gate := (State.drainRtcm_frame s .gate rfl).symm
@[simp] theorem State.drainRtcm_tram (s : State) : (s.drainRtcm).tram = s.tram := (State.drainRtcm_frame s .tram rfl).symm
@[simp] theorem State.drainRtcm_net (s : State) : (s.drainRtcm).net = s.net := (State.drainRtcm_frame s .net rfl).symm
@[simp] theorem State.drainRtcm_meter (s : State) : (s.drainRtcm).meter = s.meter := (State.drainRtcm_frame s .meter rfl).symm
@[simp] theorem State.drainRtcm_zheoc (s : State) : (s.drainRtcm).zheoc = s.zheoc := (State.drainRtcm_frame s .zheoc rfl).symm
@[simp] theorem State.drainRtcm_store (s : State) : (s.drainRtcm).store = s.store := (State.drainRtcm_frame s .store rfl).symm
@[simp] theorem State.drainRtcm_milestone (s : State) : (s.drainRtcm).milestone = s.milestone := (State.drainRtcm_frame s .milestone rfl).symm
@[simp] theorem State.drainRtcm_dict (s : State) : (s.drainRtcm).dict = s.dict := (State.drainRtcm_frame s .dict rfl).symm
@[simp] theorem State.drainRtcm_bootDict (s : State) : (s.drainRtcm).bootDict = s.bootDict := (State.drainRtcm_frame s .bootDict rfl).symm
@[simp] theorem State.drainRtcm_octets (s : State) : (s.drainRtcm).octets = s.octets := (State.drainRtcm_frame s .octets rfl).symm
@[simp] theorem State.drainRtcm_periods (s : State) : (s.drainRtcm).periods = s.periods := (State.drainRtcm_frame s .periods rfl).symm
@[simp] theorem State.drainRtcm_draws (s : State) : (s.drainRtcm).draws = s.draws := (State.drainRtcm_frame s .draws rfl).symm
@[simp] theorem State.drainRtcm_pending (s : State) : (s.drainRtcm).pending = s.pending := (State.drainRtcm_frame s .pending rfl).symm

theorem State.drainEvt_frame (s : State) : State.changesOnly [.clk, .queues, .host] s (s.drainEvt) :=
  ((drainBacklog_frame _ _ s).seq (only_clk _ _)).within (by decide)

@[simp] theorem State.drainEvt_mode (s : State) : (s.drainEvt).mode = s.mode := (State.drainEvt_frame s .mode rfl).symm
@[simp] theorem State.drainEvt_boot (s : State) : (s.drainEvt).boot = s.boot := (State.drainEvt_frame s .boot rfl).symm
@[simp] theorem State.drainEvt_outputs (s : State) : (s.drainEvt).outputs = s.outputs := (State.drainEvt_frame s .outputs rfl).symm
@[simp] theorem State.drainEvt_power (s : State) : (s.drainEvt).power = s.power := (State.drainEvt_frame s .power rfl).symm
@[simp] theorem State.drainEvt_roundabout (s : State) : (s.drainEvt).roundabout = s.roundabout := (State.drainEvt_frame s .roundabout rfl).symm
@[simp] theorem State.drainEvt_mbox (s : State) : (s.drainEvt).mbox = s.mbox := (State.drainEvt_frame s .mbox rfl).symm
@[simp] theorem State.drainEvt_sessions (s : State) : (s.drainEvt).sessions = s.sessions := (State.drainEvt_frame s .sessions rfl).symm
@[simp] theorem State.drainEvt_remotes (s : State) : (s.drainEvt).remotes = s.remotes := (State.drainEvt_frame s .remotes rfl).symm
@[simp] theorem State.drainEvt_gnss (s : State) : (s.drainEvt).gnss = s.gnss := (State.drainEvt_frame s .gnss rfl).symm
@[simp] theorem State.drainEvt_obs (s : State) : (s.drainEvt).obs = s.obs := (State.drainEvt_frame s .obs rfl).symm
@[simp] theorem State.drainEvt_baseRef (s : State) : (s.drainEvt).baseRef = s.baseRef := (State.drainEvt_frame s .baseRef rfl).symm
@[simp] theorem State.drainEvt_nav (s : State) : (s.drainEvt).nav = s.nav := (State.drainEvt_frame s .nav rfl).symm
@[simp] theorem State.drainEvt_blv (s : State) : (s.drainEvt).blv = s.blv := (State.drainEvt_frame s .blv rfl).symm
@[simp] theorem State.drainEvt_kerb (s : State) : (s.drainEvt).kerb = s.kerb := (State.drainEvt_frame s .kerb rfl).symm
@[simp] theorem State.drainEvt_cover (s : State) : (s.drainEvt).cover = s.cover := (State.drainEvt_frame s .cover rfl).symm
@[simp] theorem State.drainEvt_cache (s : State) : (s.drainEvt).cache = s.cache := (State.drainEvt_frame s .cache rfl).symm
@[simp] theorem State.drainEvt_fleet (s : State) : (s.drainEvt).fleet = s.fleet := (State.drainEvt_frame s .fleet rfl).symm
@[simp] theorem State.drainEvt_radio (s : State) : (s.drainEvt).radio = s.radio := (State.drainEvt_frame s .radio rfl).symm
@[simp] theorem State.drainEvt_crier (s : State) : (s.drainEvt).crier = s.crier := (State.drainEvt_frame s .crier rfl).symm
@[simp] theorem State.drainEvt_gate (s : State) : (s.drainEvt).gate = s.gate := (State.drainEvt_frame s .gate rfl).symm
@[simp] theorem State.drainEvt_tram (s : State) : (s.drainEvt).tram = s.tram := (State.drainEvt_frame s .tram rfl).symm
@[simp] theorem State.drainEvt_net (s : State) : (s.drainEvt).net = s.net := (State.drainEvt_frame s .net rfl).symm
@[simp] theorem State.drainEvt_meter (s : State) : (s.drainEvt).meter = s.meter := (State.drainEvt_frame s .meter rfl).symm
@[simp] theorem State.drainEvt_zheoc (s : State) : (s.drainEvt).zheoc = s.zheoc := (State.drainEvt_frame s .zheoc rfl).symm
@[simp] theorem State.drainEvt_store (s : State) : (s.drainEvt).store = s.store := (State.drainEvt_frame s .store rfl).symm
@[simp] theorem State.drainEvt_milestone (s : State) : (s.drainEvt).milestone = s.milestone := (State.drainEvt_frame s .milestone rfl).symm
@[simp] theorem State.drainEvt_dict (s : State) : (s.drainEvt).dict = s.dict := (State.drainEvt_frame s .dict rfl).symm
@[simp] theorem State.drainEvt_bootDict (s : State) : (s.drainEvt).bootDict = s.bootDict := (State.drainEvt_frame s .bootDict rfl).symm
@[simp] theorem State.drainEvt_octets (s : State) : (s.drainEvt).octets = s.octets := (State.drainEvt_frame s .octets rfl).symm
@[simp] theorem State.drainEvt_periods (s : State) : (s.drainEvt).periods = s.periods := (State.drainEvt_frame s .periods rfl).symm
@[simp] theorem State.drainEvt_draws (s : State) : (s.drainEvt).draws = s.draws := (State.drainEvt_frame s .draws rfl).symm
@[simp] theorem State.drainEvt_pending (s : State) : (s.drainEvt).pending = s.pending := (State.drainEvt_frame s .pending rfl).symm

theorem State.drainIntervals_frame (s : State) : State.changesOnly [.meter, .queues, .host] s (s.drainIntervals) :=
  ((drainBacklog_frame _ _ s).seq (only_meter _ _)).within (by decide)

@[simp] theorem State.drainIntervals_mode (s : State) : (s.drainIntervals).mode = s.mode := (State.drainIntervals_frame s .mode rfl).symm
@[simp] theorem State.drainIntervals_boot (s : State) : (s.drainIntervals).boot = s.boot := (State.drainIntervals_frame s .boot rfl).symm
@[simp] theorem State.drainIntervals_outputs (s : State) : (s.drainIntervals).outputs = s.outputs := (State.drainIntervals_frame s .outputs rfl).symm
@[simp] theorem State.drainIntervals_power (s : State) : (s.drainIntervals).power = s.power := (State.drainIntervals_frame s .power rfl).symm
@[simp] theorem State.drainIntervals_clk (s : State) : (s.drainIntervals).clk = s.clk := (State.drainIntervals_frame s .clk rfl).symm
@[simp] theorem State.drainIntervals_roundabout (s : State) : (s.drainIntervals).roundabout = s.roundabout := (State.drainIntervals_frame s .roundabout rfl).symm
@[simp] theorem State.drainIntervals_mbox (s : State) : (s.drainIntervals).mbox = s.mbox := (State.drainIntervals_frame s .mbox rfl).symm
@[simp] theorem State.drainIntervals_sessions (s : State) : (s.drainIntervals).sessions = s.sessions := (State.drainIntervals_frame s .sessions rfl).symm
@[simp] theorem State.drainIntervals_remotes (s : State) : (s.drainIntervals).remotes = s.remotes := (State.drainIntervals_frame s .remotes rfl).symm
@[simp] theorem State.drainIntervals_gnss (s : State) : (s.drainIntervals).gnss = s.gnss := (State.drainIntervals_frame s .gnss rfl).symm
@[simp] theorem State.drainIntervals_obs (s : State) : (s.drainIntervals).obs = s.obs := (State.drainIntervals_frame s .obs rfl).symm
@[simp] theorem State.drainIntervals_baseRef (s : State) : (s.drainIntervals).baseRef = s.baseRef := (State.drainIntervals_frame s .baseRef rfl).symm
@[simp] theorem State.drainIntervals_nav (s : State) : (s.drainIntervals).nav = s.nav := (State.drainIntervals_frame s .nav rfl).symm
@[simp] theorem State.drainIntervals_blv (s : State) : (s.drainIntervals).blv = s.blv := (State.drainIntervals_frame s .blv rfl).symm
@[simp] theorem State.drainIntervals_kerb (s : State) : (s.drainIntervals).kerb = s.kerb := (State.drainIntervals_frame s .kerb rfl).symm
@[simp] theorem State.drainIntervals_cover (s : State) : (s.drainIntervals).cover = s.cover := (State.drainIntervals_frame s .cover rfl).symm
@[simp] theorem State.drainIntervals_cache (s : State) : (s.drainIntervals).cache = s.cache := (State.drainIntervals_frame s .cache rfl).symm
@[simp] theorem State.drainIntervals_fleet (s : State) : (s.drainIntervals).fleet = s.fleet := (State.drainIntervals_frame s .fleet rfl).symm
@[simp] theorem State.drainIntervals_radio (s : State) : (s.drainIntervals).radio = s.radio := (State.drainIntervals_frame s .radio rfl).symm
@[simp] theorem State.drainIntervals_crier (s : State) : (s.drainIntervals).crier = s.crier := (State.drainIntervals_frame s .crier rfl).symm
@[simp] theorem State.drainIntervals_gate (s : State) : (s.drainIntervals).gate = s.gate := (State.drainIntervals_frame s .gate rfl).symm
@[simp] theorem State.drainIntervals_tram (s : State) : (s.drainIntervals).tram = s.tram := (State.drainIntervals_frame s .tram rfl).symm
@[simp] theorem State.drainIntervals_net (s : State) : (s.drainIntervals).net = s.net := (State.drainIntervals_frame s .net rfl).symm
@[simp] theorem State.drainIntervals_zheoc (s : State) : (s.drainIntervals).zheoc = s.zheoc := (State.drainIntervals_frame s .zheoc rfl).symm
@[simp] theorem State.drainIntervals_store (s : State) : (s.drainIntervals).store = s.store := (State.drainIntervals_frame s .store rfl).symm
@[simp] theorem State.drainIntervals_milestone (s : State) : (s.drainIntervals).milestone = s.milestone := (State.drainIntervals_frame s .milestone rfl).symm
@[simp] theorem State.drainIntervals_dict (s : State) : (s.drainIntervals).dict = s.dict := (State.drainIntervals_frame s .dict rfl).symm
@[simp] theorem State.drainIntervals_bootDict (s : State) : (s.drainIntervals).bootDict = s.bootDict := (State.drainIntervals_frame s .bootDict rfl).symm
@[simp] theorem State.drainIntervals_octets (s : State) : (s.drainIntervals).octets = s.octets := (State.drainIntervals_frame s .octets rfl).symm
@[simp] theorem State.drainIntervals_periods (s : State) : (s.drainIntervals).periods = s.periods := (State.drainIntervals_frame s .periods rfl).symm
@[simp] theorem State.drainIntervals_draws (s : State) : (s.drainIntervals).draws = s.draws := (State.drainIntervals_frame s .draws rfl).symm
@[simp] theorem State.drainIntervals_pending (s : State) : (s.drainIntervals).pending = s.pending := (State.drainIntervals_frame s .pending rfl).symm

theorem State.drainCopies_frame (s : State) : State.changesOnly [.gnss, .obs, .baseRef, .clk, .meter, .queues, .host] s (s.drainCopies) :=
  ((((s.drainNav_frame.seq (State.drainObs_frame _)).seq (State.drainRtcm_frame _)).seq (State.drainEvt_frame _)).seq (State.drainIntervals_frame _)).within (by decide)

@[simp] theorem State.drainCopies_mode (s : State) : (s.drainCopies).mode = s.mode := (State.drainCopies_frame s .mode rfl).symm
@[simp] theorem State.drainCopies_boot (s : State) : (s.drainCopies).boot = s.boot := (State.drainCopies_frame s .boot rfl).symm
@[simp] theorem State.drainCopies_outputs (s : State) : (s.drainCopies).outputs = s.outputs := (State.drainCopies_frame s .outputs rfl).symm
@[simp] theorem State.drainCopies_power (s : State) : (s.drainCopies).power = s.power := (State.drainCopies_frame s .power rfl).symm
@[simp] theorem State.drainCopies_roundabout (s : State) : (s.drainCopies).roundabout = s.roundabout := (State.drainCopies_frame s .roundabout rfl).symm
@[simp] theorem State.drainCopies_mbox (s : State) : (s.drainCopies).mbox = s.mbox := (State.drainCopies_frame s .mbox rfl).symm
@[simp] theorem State.drainCopies_sessions (s : State) : (s.drainCopies).sessions = s.sessions := (State.drainCopies_frame s .sessions rfl).symm
@[simp] theorem State.drainCopies_remotes (s : State) : (s.drainCopies).remotes = s.remotes := (State.drainCopies_frame s .remotes rfl).symm
@[simp] theorem State.drainCopies_nav (s : State) : (s.drainCopies).nav = s.nav := (State.drainCopies_frame s .nav rfl).symm
@[simp] theorem State.drainCopies_blv (s : State) : (s.drainCopies).blv = s.blv := (State.drainCopies_frame s .blv rfl).symm
@[simp] theorem State.drainCopies_kerb (s : State) : (s.drainCopies).kerb = s.kerb := (State.drainCopies_frame s .kerb rfl).symm
@[simp] theorem State.drainCopies_cover (s : State) : (s.drainCopies).cover = s.cover := (State.drainCopies_frame s .cover rfl).symm
@[simp] theorem State.drainCopies_cache (s : State) : (s.drainCopies).cache = s.cache := (State.drainCopies_frame s .cache rfl).symm
@[simp] theorem State.drainCopies_fleet (s : State) : (s.drainCopies).fleet = s.fleet := (State.drainCopies_frame s .fleet rfl).symm
@[simp] theorem State.drainCopies_radio (s : State) : (s.drainCopies).radio = s.radio := (State.drainCopies_frame s .radio rfl).symm
@[simp] theorem State.drainCopies_crier (s : State) : (s.drainCopies).crier = s.crier := (State.drainCopies_frame s .crier rfl).symm
@[simp] theorem State.drainCopies_gate (s : State) : (s.drainCopies).gate = s.gate := (State.drainCopies_frame s .gate rfl).symm
@[simp] theorem State.drainCopies_tram (s : State) : (s.drainCopies).tram = s.tram := (State.drainCopies_frame s .tram rfl).symm
@[simp] theorem State.drainCopies_net (s : State) : (s.drainCopies).net = s.net := (State.drainCopies_frame s .net rfl).symm
@[simp] theorem State.drainCopies_zheoc (s : State) : (s.drainCopies).zheoc = s.zheoc := (State.drainCopies_frame s .zheoc rfl).symm
@[simp] theorem State.drainCopies_store (s : State) : (s.drainCopies).store = s.store := (State.drainCopies_frame s .store rfl).symm
@[simp] theorem State.drainCopies_milestone (s : State) : (s.drainCopies).milestone = s.milestone := (State.drainCopies_frame s .milestone rfl).symm
@[simp] theorem State.drainCopies_dict (s : State) : (s.drainCopies).dict = s.dict := (State.drainCopies_frame s .dict rfl).symm
@[simp] theorem State.drainCopies_bootDict (s : State) : (s.drainCopies).bootDict = s.bootDict := (State.drainCopies_frame s .bootDict rfl).symm
@[simp] theorem State.drainCopies_octets (s : State) : (s.drainCopies).octets = s.octets := (State.drainCopies_frame s .octets rfl).symm
@[simp] theorem State.drainCopies_periods (s : State) : (s.drainCopies).periods = s.periods := (State.drainCopies_frame s .periods rfl).symm
@[simp] theorem State.drainCopies_draws (s : State) : (s.drainCopies).draws = s.draws := (State.drainCopies_frame s .draws rfl).symm
@[simp] theorem State.drainCopies_pending (s : State) : (s.drainCopies).pending = s.pending := (State.drainCopies_frame s .pending rfl).symm


end Sys2Proof.Machine
end

