-- ==== Sys2Proof/Laws/Follow2.lean ====
section
/-!
SUPPORT. Laws/Follow2.lean: what the entry of HALT, new links and an offered image change at most.
-/
namespace Sys2Proof.Machine

theorem State.tellWorkers_frame (s : State) : State.changesOnly [.fleet, .gate] s (s.tellWorkers) := by
  unfold State.tellWorkers
  split
  · exact changesOnly_refl _ _
  · exact changesOnly_ite (State.sendAll_frame _ _) (changesOnly_refl _ _)

@[simp] theorem State.tellWorkers_mode (s : State) : (s.tellWorkers).mode = s.mode := (State.tellWorkers_frame s .mode rfl).symm
@[simp] theorem State.tellWorkers_boot (s : State) : (s.tellWorkers).boot = s.boot := (State.tellWorkers_frame s .boot rfl).symm
@[simp] theorem State.tellWorkers_outputs (s : State) : (s.tellWorkers).outputs = s.outputs := (State.tellWorkers_frame s .outputs rfl).symm
@[simp] theorem State.tellWorkers_power (s : State) : (s.tellWorkers).power = s.power := (State.tellWorkers_frame s .power rfl).symm
@[simp] theorem State.tellWorkers_clk (s : State) : (s.tellWorkers).clk = s.clk := (State.tellWorkers_frame s .clk rfl).symm
@[simp] theorem State.tellWorkers_roundabout (s : State) : (s.tellWorkers).roundabout = s.roundabout := (State.tellWorkers_frame s .roundabout rfl).symm
@[simp] theorem State.tellWorkers_queues (s : State) : (s.tellWorkers).queues = s.queues := (State.tellWorkers_frame s .queues rfl).symm
@[simp] theorem State.tellWorkers_host (s : State) : (s.tellWorkers).host = s.host := (State.tellWorkers_frame s .host rfl).symm
@[simp] theorem State.tellWorkers_mbox (s : State) : (s.tellWorkers).mbox = s.mbox := (State.tellWorkers_frame s .mbox rfl).symm
@[simp] theorem State.tellWorkers_sessions (s : State) : (s.tellWorkers).sessions = s.sessions := (State.tellWorkers_frame s .sessions rfl).symm
@[simp] theorem State.tellWorkers_remotes (s : State) : (s.tellWorkers).remotes = s.remotes := (State.tellWorkers_frame s .remotes rfl).symm
@[simp] theorem State.tellWorkers_gnss (s : State) : (s.tellWorkers).gnss = s.gnss := (State.tellWorkers_frame s .gnss rfl).symm
@[simp] theorem State.tellWorkers_obs (s : State) : (s.tellWorkers).obs = s.obs := (State.tellWorkers_frame s .obs rfl).symm
@[simp] theorem State.tellWorkers_baseRef (s : State) : (s.tellWorkers).baseRef = s.baseRef := (State.tellWorkers_frame s .baseRef rfl).symm
@[simp] theorem State.tellWorkers_nav (s : State) : (s.tellWorkers).nav = s.nav := (State.tellWorkers_frame s .nav rfl).symm
@[simp] theorem State.tellWorkers_blv (s : State) : (s.tellWorkers).blv = s.blv := (State.tellWorkers_frame s .blv rfl).symm
@[simp] theorem State.tellWorkers_kerb (s : State) : (s.tellWorkers).kerb = s.kerb := (State.tellWorkers_frame s .kerb rfl).symm
@[simp] theorem State.tellWorkers_cover (s : State) : (s.tellWorkers).cover = s.cover := (State.tellWorkers_frame s .cover rfl).symm
@[simp] theorem State.tellWorkers_cache (s : State) : (s.tellWorkers).cache = s.cache := (State.tellWorkers_frame s .cache rfl).symm
@[simp] theorem State.tellWorkers_radio (s : State) : (s.tellWorkers).radio = s.radio := (State.tellWorkers_frame s .radio rfl).symm
@[simp] theorem State.tellWorkers_crier (s : State) : (s.tellWorkers).crier = s.crier := (State.tellWorkers_frame s .crier rfl).symm
@[simp] theorem State.tellWorkers_tram (s : State) : (s.tellWorkers).tram = s.tram := (State.tellWorkers_frame s .tram rfl).symm
@[simp] theorem State.tellWorkers_net (s : State) : (s.tellWorkers).net = s.net := (State.tellWorkers_frame s .net rfl).symm
@[simp] theorem State.tellWorkers_meter (s : State) : (s.tellWorkers).meter = s.meter := (State.tellWorkers_frame s .meter rfl).symm
@[simp] theorem State.tellWorkers_zheoc (s : State) : (s.tellWorkers).zheoc = s.zheoc := (State.tellWorkers_frame s .zheoc rfl).symm
@[simp] theorem State.tellWorkers_store (s : State) : (s.tellWorkers).store = s.store := (State.tellWorkers_frame s .store rfl).symm
@[simp] theorem State.tellWorkers_milestone (s : State) : (s.tellWorkers).milestone = s.milestone := (State.tellWorkers_frame s .milestone rfl).symm
@[simp] theorem State.tellWorkers_dict (s : State) : (s.tellWorkers).dict = s.dict := (State.tellWorkers_frame s .dict rfl).symm
@[simp] theorem State.tellWorkers_bootDict (s : State) : (s.tellWorkers).bootDict = s.bootDict := (State.tellWorkers_frame s .bootDict rfl).symm
@[simp] theorem State.tellWorkers_octets (s : State) : (s.tellWorkers).octets = s.octets := (State.tellWorkers_frame s .octets rfl).symm
@[simp] theorem State.tellWorkers_periods (s : State) : (s.tellWorkers).periods = s.periods := (State.tellWorkers_frame s .periods rfl).symm
@[simp] theorem State.tellWorkers_draws (s : State) : (s.tellWorkers).draws = s.draws := (State.tellWorkers_frame s .draws rfl).symm
@[simp] theorem State.tellWorkers_pending (s : State) : (s.tellWorkers).pending = s.pending := (State.tellWorkers_frame s .pending rfl).symm

theorem State.cancelActivation_frame (s : State) (r : Nat) : State.changesOnly [.gate, .dict, .fleet] s (s.cancelActivation r) :=
  changesOnly_ite (changesOnly_refl _ s) (((((s.updActivation_frame _).seq (State.updGate_frame _ _)).seq ((State.setReg_frame _ _ _).seq (State.setReg_frame _ _ _))).seq (State.tellWorkers_frame _)).within (by decide))

@[simp] theorem State.cancelActivation_mode (s : State) (r : Nat) : (s.cancelActivation r).mode = s.mode := (State.cancelActivation_frame s r .mode rfl).symm
@[simp] theorem State.cancelActivation_boot (s : State) (r : Nat) : (s.cancelActivation r).boot = s.boot := (State.cancelActivation_frame s r .boot rfl).symm
@[simp] theorem State.cancelActivation_outputs (s : State) (r : Nat) : (s.cancelActivation r).outputs = s.outputs := (State.cancelActivation_frame s r .outputs rfl).symm
@[simp] theorem State.cancelActivation_power (s : State) (r : Nat) : (s.cancelActivation r).power = s.power := (State.cancelActivation_frame s r .power rfl).symm
@[simp] theorem State.cancelActivation_clk (s : State) (r : Nat) : (s.cancelActivation r).clk = s.clk := (State.cancelActivation_frame s r .clk rfl).symm
@[simp] theorem State.cancelActivation_roundabout (s : State) (r : Nat) : (s.cancelActivation r).roundabout = s.roundabout := (State.cancelActivation_frame s r .roundabout rfl).symm
@[simp] theorem State.cancelActivation_queues (s : State) (r : Nat) : (s.cancelActivation r).queues = s.queues := (State.cancelActivation_frame s r .queues rfl).symm
@[simp] theorem State.cancelActivation_host (s : State) (r : Nat) : (s.cancelActivation r).host = s.host := (State.cancelActivation_frame s r .host rfl).symm
@[simp] theorem State.cancelActivation_mbox (s : State) (r : Nat) : (s.cancelActivation r).mbox = s.mbox := (State.cancelActivation_frame s r .mbox rfl).symm
@[simp] theorem State.cancelActivation_sessions (s : State) (r : Nat) : (s.cancelActivation r).sessions = s.sessions := (State.cancelActivation_frame s r .sessions rfl).symm
@[simp] theorem State.cancelActivation_remotes (s : State) (r : Nat) : (s.cancelActivation r).remotes = s.remotes := (State.cancelActivation_frame s r .remotes rfl).symm
@[simp] theorem State.cancelActivation_gnss (s : State) (r : Nat) : (s.cancelActivation r).gnss = s.gnss := (State.cancelActivation_frame s r .gnss rfl).symm
@[simp] theorem State.cancelActivation_obs (s : State) (r : Nat) : (s.cancelActivation r).obs = s.obs := (State.cancelActivation_frame s r .obs rfl).symm
@[simp] theorem State.cancelActivation_baseRef (s : State) (r : Nat) : (s.cancelActivation r).baseRef = s.baseRef := (State.cancelActivation_frame s r .baseRef rfl).symm
@[simp] theorem State.cancelActivation_nav (s : State) (r : Nat) : (s.cancelActivation r).nav = s.nav := (State.cancelActivation_frame s r .nav rfl).symm
@[simp] theorem State.cancelActivation_blv (s : State) (r : Nat) : (s.cancelActivation r).blv = s.blv := (State.cancelActivation_frame s r .blv rfl).symm
@[simp] theorem State.cancelActivation_kerb (s : State) (r : Nat) : (s.cancelActivation r).kerb = s.kerb := (State.cancelActivation_frame s r .kerb rfl).symm
@[simp] theorem State.cancelActivation_cover (s : State) (r : Nat) : (s.cancelActivation r).cover = s.cover := (State.cancelActivation_frame s r .cover rfl).symm
@[simp] theorem State.cancelActivation_cache (s : State) (r : Nat) : (s.cancelActivation r).cache = s.cache := (State.cancelActivation_frame s r .cache rfl).symm
@[simp] theorem State.cancelActivation_radio (s : State) (r : Nat) : (s.cancelActivation r).radio = s.radio := (State.cancelActivation_frame s r .radio rfl).symm
@[simp] theorem State.cancelActivation_crier (s : State) (r : Nat) : (s.cancelActivation r).crier = s.crier := (State.cancelActivation_frame s r .crier rfl).symm
@[simp] theorem State.cancelActivation_tram (s : State) (r : Nat) : (s.cancelActivation r).tram = s.tram := (State.cancelActivation_frame s r .tram rfl).symm
@[simp] theorem State.cancelActivation_net (s : State) (r : Nat) : (s.cancelActivation r).net = s.net := (State.cancelActivation_frame s r .net rfl).symm
@[simp] theorem State.cancelActivation_meter (s : State) (r : Nat) : (s.cancelActivation r).meter = s.meter := (State.cancelActivation_frame s r .meter rfl).symm
@[simp] theorem State.cancelActivation_zheoc (s : State) (r : Nat) : (s.cancelActivation r).zheoc = s.zheoc := (State.cancelActivation_frame s r .zheoc rfl).symm
@[simp] theorem State.cancelActivation_store (s : State) (r : Nat) : (s.cancelActivation r).store = s.store := (State.cancelActivation_frame s r .store rfl).symm
@[simp] theorem State.cancelActivation_milestone (s : State) (r : Nat) : (s.cancelActivation r).milestone = s.milestone := (State.cancelActivation_frame s r .milestone rfl).symm
@[simp] theorem State.cancelActivation_bootDict (s : State) (r : Nat) : (s.cancelActivation r).bootDict = s.bootDict := (State.cancelActivation_frame s r .bootDict rfl).symm
@[simp] theorem State.cancelActivation_octets (s : State) (r : Nat) : (s.cancelActivation r).octets = s.octets := (State.cancelActivation_frame s r .octets rfl).symm
@[simp] theorem State.cancelActivation_periods (s : State) (r : Nat) : (s.cancelActivation r).periods = s.periods := (State.cancelActivation_frame s r .periods rfl).symm
@[simp] theorem State.cancelActivation_draws (s : State) (r : Nat) : (s.cancelActivation r).draws = s.draws := (State.cancelActivation_frame s r .draws rfl).symm
@[simp] theorem State.cancelActivation_pending (s : State) (r : Nat) : (s.cancelActivation r).pending = s.pending := (State.cancelActivation_frame s r .pending rfl).symm

theorem State.noteHaltEntry_frame (s : State) (old : State) : State.changesOnly [.gate, .dict, .fleet] s (s.noteHaltEntry old) :=
  changesOnly_ite (s.cancelActivation_frame _) (changesOnly_refl _ s)

@[simp] theorem State.noteHaltEntry_mode (s : State) (old : State) : (s.noteHaltEntry old).mode = s.mode := (State.noteHaltEntry_frame s old .mode rfl).symm
@[simp] theorem State.noteHaltEntry_boot (s : State) (old : State) : (s.noteHaltEntry old).boot = s.boot := (State.noteHaltEntry_frame s old .boot rfl).symm
@[simp] theorem State.noteHaltEntry_outputs (s : State) (old : State) : (s.noteHaltEntry old).outputs = s.outputs := (State.noteHaltEntry_frame s old .outputs rfl).symm
@[simp] theorem State.noteHaltEntry_power (s : State) (old : State) : (s.noteHaltEntry old).power = s.power := (State.noteHaltEntry_frame s old .power rfl).symm
@[simp] theorem State.noteHaltEntry_clk (s : State) (old : State) : (s.noteHaltEntry old).clk = s.clk := (State.noteHaltEntry_frame s old .clk rfl).symm
@[simp] theorem State.noteHaltEntry_roundabout (s : State) (old : State) : (s.noteHaltEntry old).roundabout = s.roundabout := (State.noteHaltEntry_frame s old .roundabout rfl).symm
@[simp] theorem State.noteHaltEntry_queues (s : State) (old : State) : (s.noteHaltEntry old).queues = s.queues := (State.noteHaltEntry_frame s old .queues rfl).symm
@[simp] theorem State.noteHaltEntry_host (s : State) (old : State) : (s.noteHaltEntry old).host = s.host := (State.noteHaltEntry_frame s old .host rfl).symm
@[simp] theorem State.noteHaltEntry_mbox (s : State) (old : State) : (s.noteHaltEntry old).mbox = s.mbox := (State.noteHaltEntry_frame s old .mbox rfl).symm
@[simp] theorem State.noteHaltEntry_sessions (s : State) (old : State) : (s.noteHaltEntry old).sessions = s.sessions := (State.noteHaltEntry_frame s old .sessions rfl).symm
@[simp] theorem State.noteHaltEntry_remotes (s : State) (old : State) : (s.noteHaltEntry old).remotes = s.remotes := (State.noteHaltEntry_frame s old .remotes rfl).symm
@[simp] theorem State.noteHaltEntry_gnss (s : State) (old : State) : (s.noteHaltEntry old).gnss = s.gnss := (State.noteHaltEntry_frame s old .gnss rfl).symm
@[simp] theorem State.noteHaltEntry_obs (s : State) (old : State) : (s.noteHaltEntry old).obs = s.obs := (State.noteHaltEntry_frame s old .obs rfl).symm
@[simp] theorem State.noteHaltEntry_baseRef (s : State) (old : State) : (s.noteHaltEntry old).baseRef = s.baseRef := (State.noteHaltEntry_frame s old .baseRef rfl).symm
@[simp] theorem State.noteHaltEntry_nav (s : State) (old : State) : (s.noteHaltEntry old).nav = s.nav := (State.noteHaltEntry_frame s old .nav rfl).symm
@[simp] theorem State.noteHaltEntry_blv (s : State) (old : State) : (s.noteHaltEntry old).blv = s.blv := (State.noteHaltEntry_frame s old .blv rfl).symm
@[simp] theorem State.noteHaltEntry_kerb (s : State) (old : State) : (s.noteHaltEntry old).kerb = s.kerb := (State.noteHaltEntry_frame s old .kerb rfl).symm
@[simp] theorem State.noteHaltEntry_cover (s : State) (old : State) : (s.noteHaltEntry old).cover = s.cover := (State.noteHaltEntry_frame s old .cover rfl).symm
@[simp] theorem State.noteHaltEntry_cache (s : State) (old : State) : (s.noteHaltEntry old).cache = s.cache := (State.noteHaltEntry_frame s old .cache rfl).symm
@[simp] theorem State.noteHaltEntry_radio (s : State) (old : State) : (s.noteHaltEntry old).radio = s.radio := (State.noteHaltEntry_frame s old .radio rfl).symm
@[simp] theorem State.noteHaltEntry_crier (s : State) (old : State) : (s.noteHaltEntry old).crier = s.crier := (State.noteHaltEntry_frame s old .crier rfl).symm
@[simp] theorem State.noteHaltEntry_tram (s : State) (old : State) : (s.noteHaltEntry old).tram = s.tram := (State.noteHaltEntry_frame s old .tram rfl).symm
@[simp] theorem State.noteHaltEntry_net (s : State) (old : State) : (s.noteHaltEntry old).net = s.net := (State.noteHaltEntry_frame s old .net rfl).symm
@[simp] theorem State.noteHaltEntry_meter (s : State) (old : State) : (s.noteHaltEntry old).meter = s.meter := (State.noteHaltEntry_frame s old .meter rfl).symm
@[simp] theorem State.noteHaltEntry_zheoc (s : State) (old : State) : (s.noteHaltEntry old).zheoc = s.zheoc := (State.noteHaltEntry_frame s old .zheoc rfl).symm
@[simp] theorem State.noteHaltEntry_store (s : State) (old : State) : (s.noteHaltEntry old).store = s.store := (State.noteHaltEntry_frame s old .store rfl).symm
@[simp] theorem State.noteHaltEntry_milestone (s : State) (old : State) : (s.noteHaltEntry old).milestone = s.milestone := (State.noteHaltEntry_frame s old .milestone rfl).symm
@[simp] theorem State.noteHaltEntry_bootDict (s : State) (old : State) : (s.noteHaltEntry old).bootDict = s.bootDict := (State.noteHaltEntry_frame s old .bootDict rfl).symm
@[simp] theorem State.noteHaltEntry_octets (s : State) (old : State) : (s.noteHaltEntry old).octets = s.octets := (State.noteHaltEntry_frame s old .octets rfl).symm
@[simp] theorem State.noteHaltEntry_periods (s : State) (old : State) : (s.noteHaltEntry old).periods = s.periods := (State.noteHaltEntry_frame s old .periods rfl).symm
@[simp] theorem State.noteHaltEntry_draws (s : State) (old : State) : (s.noteHaltEntry old).draws = s.draws := (State.noteHaltEntry_frame s old .draws rfl).symm
@[simp] theorem State.noteHaltEntry_pending (s : State) (old : State) : (s.noteHaltEntry old).pending = s.pending := (State.noteHaltEntry_frame s old .pending rfl).symm

theorem State.noteLinks_frame (s : State) (old : State) : State.changesOnly [.gate, .fleet] s (s.noteLinks old) := by
  unfold State.noteLinks
  refine changesOnly_ite (changesOnly_refl _ s) ?_
  split
  · exact changesOnly_refl _ s
  · exact changesOnly_ite (changesOnly_refl _ s) (changesOnly_foldl (fun s b => (State.sendLink_frame s b _).within (by decide)) _ s)

@[simp] theorem State.noteLinks_mode (s : State) (old : State) : (s.noteLinks old).mode = s.mode := (State.noteLinks_frame s old .mode rfl).symm
@[simp] theorem State.noteLinks_boot (s : State) (old : State) : (s.noteLinks old).boot = s.boot := (State.noteLinks_frame s old .boot rfl).symm
@[simp] theorem State.noteLinks_outputs (s : State) (old : State) : (s.noteLinks old).outputs = s.outputs := (State.noteLinks_frame s old .outputs rfl).symm
@[simp] theorem State.noteLinks_power (s : State) (old : State) : (s.noteLinks old).power = s.power := (State.noteLinks_frame s old .power rfl).symm
@[simp] theorem State.noteLinks_clk (s : State) (old : State) : (s.noteLinks old).clk = s.clk := (State.noteLinks_frame s old .clk rfl).symm
@[simp] theorem State.noteLinks_roundabout (s : State) (old : State) : (s.noteLinks old).roundabout = s.roundabout := (State.noteLinks_frame s old .roundabout rfl).symm
@[simp] theorem State.noteLinks_queues (s : State) (old : State) : (s.noteLinks old).queues = s.queues := (State.noteLinks_frame s old .queues rfl).symm
@[simp] theorem State.noteLinks_host (s : State) (old : State) : (s.noteLinks old).host = s.host := (State.noteLinks_frame s old .host rfl).symm
@[simp] theorem State.noteLinks_mbox (s : State) (old : State) : (s.noteLinks old).mbox = s.mbox := (State.noteLinks_frame s old .mbox rfl).symm
@[simp] theorem State.noteLinks_sessions (s : State) (old : State) : (s.noteLinks old).sessions = s.sessions := (State.noteLinks_frame s old .sessions rfl).symm
@[simp] theorem State.noteLinks_remotes (s : State) (old : State) : (s.noteLinks old).remotes = s.remotes := (State.noteLinks_frame s old .remotes rfl).symm
@[simp] theorem State.noteLinks_gnss (s : State) (old : State) : (s.noteLinks old).gnss = s.gnss := (State.noteLinks_frame s old .gnss rfl).symm
@[simp] theorem State.noteLinks_obs (s : State) (old : State) : (s.noteLinks old).obs = s.obs := (State.noteLinks_frame s old .obs rfl).symm
@[simp] theorem State.noteLinks_baseRef (s : State) (old : State) : (s.noteLinks old).baseRef = s.baseRef := (State.noteLinks_frame s old .baseRef rfl).symm
@[simp] theorem State.noteLinks_nav (s : State) (old : State) : (s.noteLinks old).nav = s.nav := (State.noteLinks_frame s old .nav rfl).symm
@[simp] theorem State.noteLinks_blv (s : State) (old : State) : (s.noteLinks old).blv = s.blv := (State.noteLinks_frame s old .blv rfl).symm
@[simp] theorem State.noteLinks_kerb (s : State) (old : State) : (s.noteLinks old).kerb = s.kerb := (State.noteLinks_frame s old .kerb rfl).symm
@[simp] theorem State.noteLinks_cover (s : State) (old : State) : (s.noteLinks old).cover = s.cover := (State.noteLinks_frame s old .cover rfl).symm
@[simp] theorem State.noteLinks_cache (s : State) (old : State) : (s.noteLinks old).cache = s.cache := (State.noteLinks_frame s old .cache rfl).symm
@[simp] theorem State.noteLinks_radio (s : State) (old : State) : (s.noteLinks old).radio = s.radio := (State.noteLinks_frame s old .radio rfl).symm
@[simp] theorem State.noteLinks_crier (s : State) (old : State) : (s.noteLinks old).crier = s.crier := (State.noteLinks_frame s old .crier rfl).symm
@[simp] theorem State.noteLinks_tram (s : State) (old : State) : (s.noteLinks old).tram = s.tram := (State.noteLinks_frame s old .tram rfl).symm
@[simp] theorem State.noteLinks_net (s : State) (old : State) : (s.noteLinks old).net = s.net := (State.noteLinks_frame s old .net rfl).symm
@[simp] theorem State.noteLinks_meter (s : State) (old : State) : (s.noteLinks old).meter = s.meter := (State.noteLinks_frame s old .meter rfl).symm
@[simp] theorem State.noteLinks_zheoc (s : State) (old : State) : (s.noteLinks old).zheoc = s.zheoc := (State.noteLinks_frame s old .zheoc rfl).symm
@[simp] theorem State.noteLinks_store (s : State) (old : State) : (s.noteLinks old).store = s.store := (State.noteLinks_frame s old .store rfl).symm
@[simp] theorem State.noteLinks_milestone (s : State) (old : State) : (s.noteLinks old).milestone = s.milestone := (State.noteLinks_frame s old .milestone rfl).symm
@[simp] theorem State.noteLinks_dict (s : State) (old : State) : (s.noteLinks old).dict = s.dict := (State.noteLinks_frame s old .dict rfl).symm
@[simp] theorem State.noteLinks_bootDict (s : State) (old : State) : (s.noteLinks old).bootDict = s.bootDict := (State.noteLinks_frame s old .bootDict rfl).symm
@[simp] theorem State.noteLinks_octets (s : State) (old : State) : (s.noteLinks old).octets = s.octets := (State.noteLinks_frame s old .octets rfl).symm
@[simp] theorem State.noteLinks_periods (s : State) (old : State) : (s.noteLinks old).periods = s.periods := (State.noteLinks_frame s old .periods rfl).symm
@[simp] theorem State.noteLinks_draws (s : State) (old : State) : (s.noteLinks old).draws = s.draws := (State.noteLinks_frame s old .draws rfl).symm
@[simp] theorem State.noteLinks_pending (s : State) (old : State) : (s.noteLinks old).pending = s.pending := (State.noteLinks_frame s old .pending rfl).symm

theorem State.noteStatus_frame (s : State) (old : State) : State.changesOnly [.host] s (s.noteStatus old) :=
  changesOnly_ite (s.raiseIrq_frame 8) (changesOnly_refl _ s)

@[simp] theorem State.noteStatus_mode (s : State) (old : State) : (s.noteStatus old).mode = s.mode := (State.noteStatus_frame s old .mode rfl).symm
@[simp] theorem State.noteStatus_boot (s : State) (old : State) : (s.noteStatus old).boot = s.boot := (State.noteStatus_frame s old .boot rfl).symm
@[simp] theorem State.noteStatus_outputs (s : State) (old : State) : (s.noteStatus old).outputs = s.outputs := (State.noteStatus_frame s old .outputs rfl).symm
@[simp] theorem State.noteStatus_power (s : State) (old : State) : (s.noteStatus old).power = s.power := (State.noteStatus_frame s old .power rfl).symm
@[simp] theorem State.noteStatus_clk (s : State) (old : State) : (s.noteStatus old).clk = s.clk := (State.noteStatus_frame s old .clk rfl).symm
@[simp] theorem State.noteStatus_roundabout (s : State) (old : State) : (s.noteStatus old).roundabout = s.roundabout := (State.noteStatus_frame s old .roundabout rfl).symm
@[simp] theorem State.noteStatus_queues (s : State) (old : State) : (s.noteStatus old).queues = s.queues := (State.noteStatus_frame s old .queues rfl).symm
@[simp] theorem State.noteStatus_mbox (s : State) (old : State) : (s.noteStatus old).mbox = s.mbox := (State.noteStatus_frame s old .mbox rfl).symm
@[simp] theorem State.noteStatus_sessions (s : State) (old : State) : (s.noteStatus old).sessions = s.sessions := (State.noteStatus_frame s old .sessions rfl).symm
@[simp] theorem State.noteStatus_remotes (s : State) (old : State) : (s.noteStatus old).remotes = s.remotes := (State.noteStatus_frame s old .remotes rfl).symm
@[simp] theorem State.noteStatus_gnss (s : State) (old : State) : (s.noteStatus old).gnss = s.gnss := (State.noteStatus_frame s old .gnss rfl).symm
@[simp] theorem State.noteStatus_obs (s : State) (old : State) : (s.noteStatus old).obs = s.obs := (State.noteStatus_frame s old .obs rfl).symm
@[simp] theorem State.noteStatus_baseRef (s : State) (old : State) : (s.noteStatus old).baseRef = s.baseRef := (State.noteStatus_frame s old .baseRef rfl).symm
@[simp] theorem State.noteStatus_nav (s : State) (old : State) : (s.noteStatus old).nav = s.nav := (State.noteStatus_frame s old .nav rfl).symm
@[simp] theorem State.noteStatus_blv (s : State) (old : State) : (s.noteStatus old).blv = s.blv := (State.noteStatus_frame s old .blv rfl).symm
@[simp] theorem State.noteStatus_kerb (s : State) (old : State) : (s.noteStatus old).kerb = s.kerb := (State.noteStatus_frame s old .kerb rfl).symm
@[simp] theorem State.noteStatus_cover (s : State) (old : State) : (s.noteStatus old).cover = s.cover := (State.noteStatus_frame s old .cover rfl).symm
@[simp] theorem State.noteStatus_cache (s : State) (old : State) : (s.noteStatus old).cache = s.cache := (State.noteStatus_frame s old .cache rfl).symm
@[simp] theorem State.noteStatus_fleet (s : State) (old : State) : (s.noteStatus old).fleet = s.fleet := (State.noteStatus_frame s old .fleet rfl).symm
@[simp] theorem State.noteStatus_radio (s : State) (old : State) : (s.noteStatus old).radio = s.radio := (State.noteStatus_frame s old .radio rfl).symm
@[simp] theorem State.noteStatus_crier (s : State) (old : State) : (s.noteStatus old).crier = s.crier := (State.noteStatus_frame s old .crier rfl).symm
@[simp] theorem State.noteStatus_gate (s : State) (old : State) : (s.noteStatus old).gate = s.gate := (State.noteStatus_frame s old .gate rfl).symm
@[simp] theorem State.noteStatus_tram (s : State) (old : State) : (s.noteStatus old).tram = s.tram := (State.noteStatus_frame s old .tram rfl).symm
@[simp] theorem State.noteStatus_net (s : State) (old : State) : (s.noteStatus old).net = s.net := (State.noteStatus_frame s old .net rfl).symm
@[simp] theorem State.noteStatus_meter (s : State) (old : State) : (s.noteStatus old).meter = s.meter := (State.noteStatus_frame s old .meter rfl).symm
@[simp] theorem State.noteStatus_zheoc (s : State) (old : State) : (s.noteStatus old).zheoc = s.zheoc := (State.noteStatus_frame s old .zheoc rfl).symm
@[simp] theorem State.noteStatus_store (s : State) (old : State) : (s.noteStatus old).store = s.store := (State.noteStatus_frame s old .store rfl).symm
@[simp] theorem State.noteStatus_milestone (s : State) (old : State) : (s.noteStatus old).milestone = s.milestone := (State.noteStatus_frame s old .milestone rfl).symm
@[simp] theorem State.noteStatus_dict (s : State) (old : State) : (s.noteStatus old).dict = s.dict := (State.noteStatus_frame s old .dict rfl).symm
@[simp] theorem State.noteStatus_bootDict (s : State) (old : State) : (s.noteStatus old).bootDict = s.bootDict := (State.noteStatus_frame s old .bootDict rfl).symm
@[simp] theorem State.noteStatus_octets (s : State) (old : State) : (s.noteStatus old).octets = s.octets := (State.noteStatus_frame s old .octets rfl).symm
@[simp] theorem State.noteStatus_periods (s : State) (old : State) : (s.noteStatus old).periods = s.periods := (State.noteStatus_frame s old .periods rfl).symm
@[simp] theorem State.noteStatus_draws (s : State) (old : State) : (s.noteStatus old).draws = s.draws := (State.noteStatus_frame s old .draws rfl).symm
@[simp] theorem State.noteStatus_pending (s : State) (old : State) : (s.noteStatus old).pending = s.pending := (State.noteStatus_frame s old .pending rfl).symm

theorem State.rejectImage_frame (s : State) (c : Nat) : State.changesOnly [.dict, .boot, .milestone, .draws] s (s.rejectImage c) :=
  (((s.setReg_frame _ _).seq (State.updBoot_frame _ _)).seq (State.milestoneEntry_frame _ _)).within (by decide)

@[simp] theorem State.rejectImage_mode (s : State) (c : Nat) : (s.rejectImage c).mode = s.mode := (State.rejectImage_frame s c .mode rfl).symm
@[simp] theorem State.rejectImage_outputs (s : State) (c : Nat) : (s.rejectImage c).outputs = s.outputs := (State.rejectImage_frame s c .outputs rfl).symm
@[simp] theorem State.rejectImage_power (s : State) (c : Nat) : (s.rejectImage c).power = s.power := (State.rejectImage_frame s c .power rfl).symm
@[simp] theorem State.rejectImage_clk (s : State) (c : Nat) : (s.rejectImage c).clk = s.clk := (State.rejectImage_frame s c .clk rfl).symm
@[simp] theorem State.rejectImage_roundabout (s : State) (c : Nat) : (s.rejectImage c).roundabout = s.roundabout := (State.rejectImage_frame s c .roundabout rfl).symm
@[simp] theorem State.rejectImage_queues (s : State) (c : Nat) : (s.rejectImage c).queues = s.queues := (State.rejectImage_frame s c .queues rfl).symm
@[simp] theorem State.rejectImage_host (s : State) (c : Nat) : (s.rejectImage c).host = s.host := (State.rejectImage_frame s c .host rfl).symm
@[simp] theorem State.rejectImage_mbox (s : State) (c : Nat) : (s.rejectImage c).mbox = s.mbox := (State.rejectImage_frame s c .mbox rfl).symm
@[simp] theorem State.rejectImage_sessions (s : State) (c : Nat) : (s.rejectImage c).sessions = s.sessions := (State.rejectImage_frame s c .sessions rfl).symm
@[simp] theorem State.rejectImage_remotes (s : State) (c : Nat) : (s.rejectImage c).remotes = s.remotes := (State.rejectImage_frame s c .remotes rfl).symm
@[simp] theorem State.rejectImage_gnss (s : State) (c : Nat) : (s.rejectImage c).gnss = s.gnss := (State.rejectImage_frame s c .gnss rfl).symm
@[simp] theorem State.rejectImage_obs (s : State) (c : Nat) : (s.rejectImage c).obs = s.obs := (State.rejectImage_frame s c .obs rfl).symm
@[simp] theorem State.rejectImage_baseRef (s : State) (c : Nat) : (s.rejectImage c).baseRef = s.baseRef := (State.rejectImage_frame s c .baseRef rfl).symm
@[simp] theorem State.rejectImage_nav (s : State) (c : Nat) : (s.rejectImage c).nav = s.nav := (State.rejectImage_frame s c .nav rfl).symm
@[simp] theorem State.rejectImage_blv (s : State) (c : Nat) : (s.rejectImage c).blv = s.blv := (State.rejectImage_frame s c .blv rfl).symm
@[simp] theorem State.rejectImage_kerb (s : State) (c : Nat) : (s.rejectImage c).kerb = s.kerb := (State.rejectImage_frame s c .kerb rfl).symm
@[simp] theorem State.rejectImage_cover (s : State) (c : Nat) : (s.rejectImage c).cover = s.cover := (State.rejectImage_frame s c .cover rfl).symm
@[simp] theorem State.rejectImage_cache (s : State) (c : Nat) : (s.rejectImage c).cache = s.cache := (State.rejectImage_frame s c .cache rfl).symm
@[simp] theorem State.rejectImage_fleet (s : State) (c : Nat) : (s.rejectImage c).fleet = s.fleet := (State.rejectImage_frame s c .fleet rfl).symm
@[simp] theorem State.rejectImage_radio (s : State) (c : Nat) : (s.rejectImage c).radio = s.radio := (State.rejectImage_frame s c .radio rfl).symm
@[simp] theorem State.rejectImage_crier (s : State) (c : Nat) : (s.rejectImage c).crier = s.crier := (State.rejectImage_frame s c .crier rfl).symm
@[simp] theorem State.rejectImage_gate (s : State) (c : Nat) : (s.rejectImage c).gate = s.gate := (State.rejectImage_frame s c .gate rfl).symm
@[simp] theorem State.rejectImage_tram (s : State) (c : Nat) : (s.rejectImage c).tram = s.tram := (State.rejectImage_frame s c .tram rfl).symm
@[simp] theorem State.rejectImage_net (s : State) (c : Nat) : (s.rejectImage c).net = s.net := (State.rejectImage_frame s c .net rfl).symm
@[simp] theorem State.rejectImage_meter (s : State) (c : Nat) : (s.rejectImage c).meter = s.meter := (State.rejectImage_frame s c .meter rfl).symm
@[simp] theorem State.rejectImage_zheoc (s : State) (c : Nat) : (s.rejectImage c).zheoc = s.zheoc := (State.rejectImage_frame s c .zheoc rfl).symm
@[simp] theorem State.rejectImage_store (s : State) (c : Nat) : (s.rejectImage c).store = s.store := (State.rejectImage_frame s c .store rfl).symm
@[simp] theorem State.rejectImage_bootDict (s : State) (c : Nat) : (s.rejectImage c).bootDict = s.bootDict := (State.rejectImage_frame s c .bootDict rfl).symm
@[simp] theorem State.rejectImage_octets (s : State) (c : Nat) : (s.rejectImage c).octets = s.octets := (State.rejectImage_frame s c .octets rfl).symm
@[simp] theorem State.rejectImage_periods (s : State) (c : Nat) : (s.rejectImage c).periods = s.periods := (State.rejectImage_frame s c .periods rfl).symm
@[simp] theorem State.rejectImage_pending (s : State) (c : Nat) : (s.rejectImage c).pending = s.pending := (State.rejectImage_frame s c .pending rfl).symm

theorem State.runImage_frame (s : State) (i : ImageInfo) (n : Option Nat) : State.changesOnly [.dict, .gate, .boot] s (s.runImage i n) :=
  ((s.setReg_frame _ _).seq (State.updGate_frame _ _)).seq (State.updBoot_frame _ _)

@[simp] theorem State.runImage_mode (s : State) (i : ImageInfo) (n : Option Nat) : (s.runImage i n).mode = s.mode := (State.runImage_frame s i n .mode rfl).symm
@[simp] theorem State.runImage_outputs (s : State) (i : ImageInfo) (n : Option Nat) : (s.runImage i n).outputs = s.outputs := (State.runImage_frame s i n .outputs rfl).symm
@[simp] theorem State.runImage_power (s : State) (i : ImageInfo) (n : Option Nat) : (s.runImage i n).power = s.power := (State.runImage_frame s i n .power rfl).symm
@[simp] theorem State.runImage_clk (s : State) (i : ImageInfo) (n : Option Nat) : (s.runImage i n).clk = s.clk := (State.runImage_frame s i n .clk rfl).symm
@[simp] theorem State.runImage_roundabout (s : State) (i : ImageInfo) (n : Option Nat) : (s.runImage i n).roundabout = s.roundabout := (State.runImage_frame s i n .roundabout rfl).symm
@[simp] theorem State.runImage_queues (s : State) (i : ImageInfo) (n : Option Nat) : (s.runImage i n).queues = s.queues := (State.runImage_frame s i n .queues rfl).symm
@[simp] theorem State.runImage_host (s : State) (i : ImageInfo) (n : Option Nat) : (s.runImage i n).host = s.host := (State.runImage_frame s i n .host rfl).symm
@[simp] theorem State.runImage_mbox (s : State) (i : ImageInfo) (n : Option Nat) : (s.runImage i n).mbox = s.mbox := (State.runImage_frame s i n .mbox rfl).symm
@[simp] theorem State.runImage_sessions (s : State) (i : ImageInfo) (n : Option Nat) : (s.runImage i n).sessions = s.sessions := (State.runImage_frame s i n .sessions rfl).symm
@[simp] theorem State.runImage_remotes (s : State) (i : ImageInfo) (n : Option Nat) : (s.runImage i n).remotes = s.remotes := (State.runImage_frame s i n .remotes rfl).symm
@[simp] theorem State.runImage_gnss (s : State) (i : ImageInfo) (n : Option Nat) : (s.runImage i n).gnss = s.gnss := (State.runImage_frame s i n .gnss rfl).symm
@[simp] theorem State.runImage_obs (s : State) (i : ImageInfo) (n : Option Nat) : (s.runImage i n).obs = s.obs := (State.runImage_frame s i n .obs rfl).symm
@[simp] theorem State.runImage_baseRef (s : State) (i : ImageInfo) (n : Option Nat) : (s.runImage i n).baseRef = s.baseRef := (State.runImage_frame s i n .baseRef rfl).symm
@[simp] theorem State.runImage_nav (s : State) (i : ImageInfo) (n : Option Nat) : (s.runImage i n).nav = s.nav := (State.runImage_frame s i n .nav rfl).symm
@[simp] theorem State.runImage_blv (s : State) (i : ImageInfo) (n : Option Nat) : (s.runImage i n).blv = s.blv := (State.runImage_frame s i n .blv rfl).symm
@[simp] theorem State.runImage_kerb (s : State) (i : ImageInfo) (n : Option Nat) : (s.runImage i n).kerb = s.kerb := (State.runImage_frame s i n .kerb rfl).symm
@[simp] theorem State.runImage_cover (s : State) (i : ImageInfo) (n : Option Nat) : (s.runImage i n).cover = s.cover := (State.runImage_frame s i n .cover rfl).symm
@[simp] theorem State.runImage_cache (s : State) (i : ImageInfo) (n : Option Nat) : (s.runImage i n).cache = s.cache := (State.runImage_frame s i n .cache rfl).symm
@[simp] theorem State.runImage_fleet (s : State) (i : ImageInfo) (n : Option Nat) : (s.runImage i n).fleet = s.fleet := (State.runImage_frame s i n .fleet rfl).symm
@[simp] theorem State.runImage_radio (s : State) (i : ImageInfo) (n : Option Nat) : (s.runImage i n).radio = s.radio := (State.runImage_frame s i n .radio rfl).symm
@[simp] theorem State.runImage_crier (s : State) (i : ImageInfo) (n : Option Nat) : (s.runImage i n).crier = s.crier := (State.runImage_frame s i n .crier rfl).symm
@[simp] theorem State.runImage_tram (s : State) (i : ImageInfo) (n : Option Nat) : (s.runImage i n).tram = s.tram := (State.runImage_frame s i n .tram rfl).symm
@[simp] theorem State.runImage_net (s : State) (i : ImageInfo) (n : Option Nat) : (s.runImage i n).net = s.net := (State.runImage_frame s i n .net rfl).symm
@[simp] theorem State.runImage_meter (s : State) (i : ImageInfo) (n : Option Nat) : (s.runImage i n).meter = s.meter := (State.runImage_frame s i n .meter rfl).symm
@[simp] theorem State.runImage_zheoc (s : State) (i : ImageInfo) (n : Option Nat) : (s.runImage i n).zheoc = s.zheoc := (State.runImage_frame s i n .zheoc rfl).symm
@[simp] theorem State.runImage_store (s : State) (i : ImageInfo) (n : Option Nat) : (s.runImage i n).store = s.store := (State.runImage_frame s i n .store rfl).symm
@[simp] theorem State.runImage_milestone (s : State) (i : ImageInfo) (n : Option Nat) : (s.runImage i n).milestone = s.milestone := (State.runImage_frame s i n .milestone rfl).symm
@[simp] theorem State.runImage_bootDict (s : State) (i : ImageInfo) (n : Option Nat) : (s.runImage i n).bootDict = s.bootDict := (State.runImage_frame s i n .bootDict rfl).symm
@[simp] theorem State.runImage_octets (s : State) (i : ImageInfo) (n : Option Nat) : (s.runImage i n).octets = s.octets := (State.runImage_frame s i n .octets rfl).symm
@[simp] theorem State.runImage_periods (s : State) (i : ImageInfo) (n : Option Nat) : (s.runImage i n).periods = s.periods := (State.runImage_frame s i n .periods rfl).symm
@[simp] theorem State.runImage_draws (s : State) (i : ImageInfo) (n : Option Nat) : (s.runImage i n).draws = s.draws := (State.runImage_frame s i n .draws rfl).symm
@[simp] theorem State.runImage_pending (s : State) (i : ImageInfo) (n : Option Nat) : (s.runImage i n).pending = s.pending := (State.runImage_frame s i n .pending rfl).symm

theorem State.waitImage_frame (s : State) : State.changesOnly [.boot] s (s.waitImage) :=
  s.updBoot_frame _

@[simp] theorem State.waitImage_mode (s : State) : (s.waitImage).mode = s.mode := (State.waitImage_frame s .mode rfl).symm
@[simp] theorem State.waitImage_outputs (s : State) : (s.waitImage).outputs = s.outputs := (State.waitImage_frame s .outputs rfl).symm
@[simp] theorem State.waitImage_power (s : State) : (s.waitImage).power = s.power := (State.waitImage_frame s .power rfl).symm
@[simp] theorem State.waitImage_clk (s : State) : (s.waitImage).clk = s.clk := (State.waitImage_frame s .clk rfl).symm
@[simp] theorem State.waitImage_roundabout (s : State) : (s.waitImage).roundabout = s.roundabout := (State.waitImage_frame s .roundabout rfl).symm
@[simp] theorem State.waitImage_queues (s : State) : (s.waitImage).queues = s.queues := (State.waitImage_frame s .queues rfl).symm
@[simp] theorem State.waitImage_host (s : State) : (s.waitImage).host = s.host := (State.waitImage_frame s .host rfl).symm
@[simp] theorem State.waitImage_mbox (s : State) : (s.waitImage).mbox = s.mbox := (State.waitImage_frame s .mbox rfl).symm
@[simp] theorem State.waitImage_sessions (s : State) : (s.waitImage).sessions = s.sessions := (State.waitImage_frame s .sessions rfl).symm
@[simp] theorem State.waitImage_remotes (s : State) : (s.waitImage).remotes = s.remotes := (State.waitImage_frame s .remotes rfl).symm
@[simp] theorem State.waitImage_gnss (s : State) : (s.waitImage).gnss = s.gnss := (State.waitImage_frame s .gnss rfl).symm
@[simp] theorem State.waitImage_obs (s : State) : (s.waitImage).obs = s.obs := (State.waitImage_frame s .obs rfl).symm
@[simp] theorem State.waitImage_baseRef (s : State) : (s.waitImage).baseRef = s.baseRef := (State.waitImage_frame s .baseRef rfl).symm
@[simp] theorem State.waitImage_nav (s : State) : (s.waitImage).nav = s.nav := (State.waitImage_frame s .nav rfl).symm
@[simp] theorem State.waitImage_blv (s : State) : (s.waitImage).blv = s.blv := (State.waitImage_frame s .blv rfl).symm
@[simp] theorem State.waitImage_kerb (s : State) : (s.waitImage).kerb = s.kerb := (State.waitImage_frame s .kerb rfl).symm
@[simp] theorem State.waitImage_cover (s : State) : (s.waitImage).cover = s.cover := (State.waitImage_frame s .cover rfl).symm
@[simp] theorem State.waitImage_cache (s : State) : (s.waitImage).cache = s.cache := (State.waitImage_frame s .cache rfl).symm
@[simp] theorem State.waitImage_fleet (s : State) : (s.waitImage).fleet = s.fleet := (State.waitImage_frame s .fleet rfl).symm
@[simp] theorem State.waitImage_radio (s : State) : (s.waitImage).radio = s.radio := (State.waitImage_frame s .radio rfl).symm
@[simp] theorem State.waitImage_crier (s : State) : (s.waitImage).crier = s.crier := (State.waitImage_frame s .crier rfl).symm
@[simp] theorem State.waitImage_gate (s : State) : (s.waitImage).gate = s.gate := (State.waitImage_frame s .gate rfl).symm
@[simp] theorem State.waitImage_tram (s : State) : (s.waitImage).tram = s.tram := (State.waitImage_frame s .tram rfl).symm
@[simp] theorem State.waitImage_net (s : State) : (s.waitImage).net = s.net := (State.waitImage_frame s .net rfl).symm
@[simp] theorem State.waitImage_meter (s : State) : (s.waitImage).meter = s.meter := (State.waitImage_frame s .meter rfl).symm
@[simp] theorem State.waitImage_zheoc (s : State) : (s.waitImage).zheoc = s.zheoc := (State.waitImage_frame s .zheoc rfl).symm
@[simp] theorem State.waitImage_store (s : State) : (s.waitImage).store = s.store := (State.waitImage_frame s .store rfl).symm
@[simp] theorem State.waitImage_milestone (s : State) : (s.waitImage).milestone = s.milestone := (State.waitImage_frame s .milestone rfl).symm
@[simp] theorem State.waitImage_dict (s : State) : (s.waitImage).dict = s.dict := (State.waitImage_frame s .dict rfl).symm
@[simp] theorem State.waitImage_bootDict (s : State) : (s.waitImage).bootDict = s.bootDict := (State.waitImage_frame s .bootDict rfl).symm
@[simp] theorem State.waitImage_octets (s : State) : (s.waitImage).octets = s.octets := (State.waitImage_frame s .octets rfl).symm
@[simp] theorem State.waitImage_periods (s : State) : (s.waitImage).periods = s.periods := (State.waitImage_frame s .periods rfl).symm
@[simp] theorem State.waitImage_draws (s : State) : (s.waitImage).draws = s.draws := (State.waitImage_frame s .draws rfl).symm
@[simp] theorem State.waitImage_pending (s : State) : (s.waitImage).pending = s.pending := (State.waitImage_frame s .pending rfl).symm

theorem State.writeImage_frame (s : State) (n : Nat) : State.changesOnly [.store] s (s.writeImage n) :=
  s.nandWrite_frame _ _ _

@[simp] theorem State.writeImage_mode (s : State) (n : Nat) : (s.writeImage n).mode = s.mode := (State.writeImage_frame s n .mode rfl).symm
@[simp] theorem State.writeImage_boot (s : State) (n : Nat) : (s.writeImage n).boot = s.boot := (State.writeImage_frame s n .boot rfl).symm
@[simp] theorem State.writeImage_outputs (s : State) (n : Nat) : (s.writeImage n).outputs = s.outputs := (State.writeImage_frame s n .outputs rfl).symm
@[simp] theorem State.writeImage_power (s : State) (n : Nat) : (s.writeImage n).power = s.power := (State.writeImage_frame s n .power rfl).symm
@[simp] theorem State.writeImage_clk (s : State) (n : Nat) : (s.writeImage n).clk = s.clk := (State.writeImage_frame s n .clk rfl).symm
@[simp] theorem State.writeImage_roundabout (s : State) (n : Nat) : (s.writeImage n).roundabout = s.roundabout := (State.writeImage_frame s n .roundabout rfl).symm
@[simp] theorem State.writeImage_queues (s : State) (n : Nat) : (s.writeImage n).queues = s.queues := (State.writeImage_frame s n .queues rfl).symm
@[simp] theorem State.writeImage_host (s : State) (n : Nat) : (s.writeImage n).host = s.host := (State.writeImage_frame s n .host rfl).symm
@[simp] theorem State.writeImage_mbox (s : State) (n : Nat) : (s.writeImage n).mbox = s.mbox := (State.writeImage_frame s n .mbox rfl).symm
@[simp] theorem State.writeImage_sessions (s : State) (n : Nat) : (s.writeImage n).sessions = s.sessions := (State.writeImage_frame s n .sessions rfl).symm
@[simp] theorem State.writeImage_remotes (s : State) (n : Nat) : (s.writeImage n).remotes = s.remotes := (State.writeImage_frame s n .remotes rfl).symm
@[simp] theorem State.writeImage_gnss (s : State) (n : Nat) : (s.writeImage n).gnss = s.gnss := (State.writeImage_frame s n .gnss rfl).symm
@[simp] theorem State.writeImage_obs (s : State) (n : Nat) : (s.writeImage n).obs = s.obs := (State.writeImage_frame s n .obs rfl).symm
@[simp] theorem State.writeImage_baseRef (s : State) (n : Nat) : (s.writeImage n).baseRef = s.baseRef := (State.writeImage_frame s n .baseRef rfl).symm
@[simp] theorem State.writeImage_nav (s : State) (n : Nat) : (s.writeImage n).nav = s.nav := (State.writeImage_frame s n .nav rfl).symm
@[simp] theorem State.writeImage_blv (s : State) (n : Nat) : (s.writeImage n).blv = s.blv := (State.writeImage_frame s n .blv rfl).symm
@[simp] theorem State.writeImage_kerb (s : State) (n : Nat) : (s.writeImage n).kerb = s.kerb := (State.writeImage_frame s n .kerb rfl).symm
@[simp] theorem State.writeImage_cover (s : State) (n : Nat) : (s.writeImage n).cover = s.cover := (State.writeImage_frame s n .cover rfl).symm
@[simp] theorem State.writeImage_cache (s : State) (n : Nat) : (s.writeImage n).cache = s.cache := (State.writeImage_frame s n .cache rfl).symm
@[simp] theorem State.writeImage_fleet (s : State) (n : Nat) : (s.writeImage n).fleet = s.fleet := (State.writeImage_frame s n .fleet rfl).symm
@[simp] theorem State.writeImage_radio (s : State) (n : Nat) : (s.writeImage n).radio = s.radio := (State.writeImage_frame s n .radio rfl).symm
@[simp] theorem State.writeImage_crier (s : State) (n : Nat) : (s.writeImage n).crier = s.crier := (State.writeImage_frame s n .crier rfl).symm
@[simp] theorem State.writeImage_gate (s : State) (n : Nat) : (s.writeImage n).gate = s.gate := (State.writeImage_frame s n .gate rfl).symm
@[simp] theorem State.writeImage_tram (s : State) (n : Nat) : (s.writeImage n).tram = s.tram := (State.writeImage_frame s n .tram rfl).symm
@[simp] theorem State.writeImage_net (s : State) (n : Nat) : (s.writeImage n).net = s.net := (State.writeImage_frame s n .net rfl).symm
@[simp] theorem State.writeImage_meter (s : State) (n : Nat) : (s.writeImage n).meter = s.meter := (State.writeImage_frame s n .meter rfl).symm
@[simp] theorem State.writeImage_zheoc (s : State) (n : Nat) : (s.writeImage n).zheoc = s.zheoc := (State.writeImage_frame s n .zheoc rfl).symm
@[simp] theorem State.writeImage_milestone (s : State) (n : Nat) : (s.writeImage n).milestone = s.milestone := (State.writeImage_frame s n .milestone rfl).symm
@[simp] theorem State.writeImage_dict (s : State) (n : Nat) : (s.writeImage n).dict = s.dict := (State.writeImage_frame s n .dict rfl).symm
@[simp] theorem State.writeImage_bootDict (s : State) (n : Nat) : (s.writeImage n).bootDict = s.bootDict := (State.writeImage_frame s n .bootDict rfl).symm
@[simp] theorem State.writeImage_octets (s : State) (n : Nat) : (s.writeImage n).octets = s.octets := (State.writeImage_frame s n .octets rfl).symm
@[simp] theorem State.writeImage_periods (s : State) (n : Nat) : (s.writeImage n).periods = s.periods := (State.writeImage_frame s n .periods rfl).symm
@[simp] theorem State.writeImage_draws (s : State) (n : Nat) : (s.writeImage n).draws = s.draws := (State.writeImage_frame s n .draws rfl).symm
@[simp] theorem State.writeImage_pending (s : State) (n : Nat) : (s.writeImage n).pending = s.pending := (State.writeImage_frame s n .pending rfl).symm

theorem State.offerImage_frame (s : State) (b : List Byte) : State.changesOnly [.dict, .boot, .gate, .store, .milestone, .draws] s (s.offerImage b) := by
  unfold State.offerImage
  refine changesOnly_ite ?_ (changesOnly_ite ?_ ?_)
  · exact ((s.rejectImage_frame _).seq (State.waitImage_frame _)).within (by decide)
  · exact ((((s.runImage_frame _ _).seq (State.setImage_frame _ _ _)).seq (State.writeImage_frame _ _)).seq (State.updGate_frame _ _)).within (by decide)
  · exact (s.runImage_frame _ _).within (by decide)

@[simp] theorem State.offerImage_mode (s : State) (b : List Byte) : (s.offerImage b).mode = s.mode := (State.offerImage_frame s b .mode rfl).symm
@[simp] theorem State.offerImage_outputs (s : State) (b : List Byte) : (s.offerImage b).outputs = s.outputs := (State.offerImage_frame s b .outputs rfl).symm
@[simp] theorem State.offerImage_power (s : State) (b : List Byte) : (s.offerImage b).power = s.power := (State.offerImage_frame s b .power rfl).symm
@[simp] theorem State.offerImage_clk (s : State) (b : List Byte) : (s.offerImage b).clk = s.clk := (State.offerImage_frame s b .clk rfl).symm
@[simp] theorem State.offerImage_roundabout (s : State) (b : List Byte) : (s.offerImage b).roundabout = s.roundabout := (State.offerImage_frame s b .roundabout rfl).symm
@[simp] theorem State.offerImage_queues (s : State) (b : List Byte) : (s.offerImage b).queues = s.queues := (State.offerImage_frame s b .queues rfl).symm
@[simp] theorem State.offerImage_host (s : State) (b : List Byte) : (s.offerImage b).host = s.host := (State.offerImage_frame s b .host rfl).symm
@[simp] theorem State.offerImage_mbox (s : State) (b : List Byte) : (s.offerImage b).mbox = s.mbox := (State.offerImage_frame s b .mbox rfl).symm
@[simp] theorem State.offerImage_sessions (s : State) (b : List Byte) : (s.offerImage b).sessions = s.sessions := (State.offerImage_frame s b .sessions rfl).symm
@[simp] theorem State.offerImage_remotes (s : State) (b : List Byte) : (s.offerImage b).remotes = s.remotes := (State.offerImage_frame s b .remotes rfl).symm
@[simp] theorem State.offerImage_gnss (s : State) (b : List Byte) : (s.offerImage b).gnss = s.gnss := (State.offerImage_frame s b .gnss rfl).symm
@[simp] theorem State.offerImage_obs (s : State) (b : List Byte) : (s.offerImage b).obs = s.obs := (State.offerImage_frame s b .obs rfl).symm
@[simp] theorem State.offerImage_baseRef (s : State) (b : List Byte) : (s.offerImage b).baseRef = s.baseRef := (State.offerImage_frame s b .baseRef rfl).symm
@[simp] theorem State.offerImage_nav (s : State) (b : List Byte) : (s.offerImage b).nav = s.nav := (State.offerImage_frame s b .nav rfl).symm
@[simp] theorem State.offerImage_blv (s : State) (b : List Byte) : (s.offerImage b).blv = s.blv := (State.offerImage_frame s b .blv rfl).symm
@[simp] theorem State.offerImage_kerb (s : State) (b : List Byte) : (s.offerImage b).kerb = s.kerb := (State.offerImage_frame s b .kerb rfl).symm
@[simp] theorem State.offerImage_cover (s : State) (b : List Byte) : (s.offerImage b).cover = s.cover := (State.offerImage_frame s b .cover rfl).symm
@[simp] theorem State.offerImage_cache (s : State) (b : List Byte) : (s.offerImage b).cache = s.cache := (State.offerImage_frame s b .cache rfl).symm
@[simp] theorem State.offerImage_fleet (s : State) (b : List Byte) : (s.offerImage b).fleet = s.fleet := (State.offerImage_frame s b .fleet rfl).symm
@[simp] theorem State.offerImage_radio (s : State) (b : List Byte) : (s.offerImage b).radio = s.radio := (State.offerImage_frame s b .radio rfl).symm
@[simp] theorem State.offerImage_crier (s : State) (b : List Byte) : (s.offerImage b).crier = s.crier := (State.offerImage_frame s b .crier rfl).symm
@[simp] theorem State.offerImage_tram (s : State) (b : List Byte) : (s.offerImage b).tram = s.tram := (State.offerImage_frame s b .tram rfl).symm
@[simp] theorem State.offerImage_net (s : State) (b : List Byte) : (s.offerImage b).net = s.net := (State.offerImage_frame s b .net rfl).symm
@[simp] theorem State.offerImage_meter (s : State) (b : List Byte) : (s.offerImage b).meter = s.meter := (State.offerImage_frame s b .meter rfl).symm
@[simp] theorem State.offerImage_zheoc (s : State) (b : List Byte) : (s.offerImage b).zheoc = s.zheoc := (State.offerImage_frame s b .zheoc rfl).symm
@[simp] theorem State.offerImage_bootDict (s : State) (b : List Byte) : (s.offerImage b).bootDict = s.bootDict := (State.offerImage_frame s b .bootDict rfl).symm
@[simp] theorem State.offerImage_octets (s : State) (b : List Byte) : (s.offerImage b).octets = s.octets := (State.offerImage_frame s b .octets rfl).symm
@[simp] theorem State.offerImage_periods (s : State) (b : List Byte) : (s.offerImage b).periods = s.periods := (State.offerImage_frame s b .periods rfl).symm
@[simp] theorem State.offerImage_pending (s : State) (b : List Byte) : (s.offerImage b).pending = s.pending := (State.offerImage_frame s b .pending rfl).symm


end Sys2Proof.Machine
end

