-- ==== Sys2Proof/Laws/Settled.lean ====
section
/-!
SUPPORT. Laws/Settled.lean: what follows every command: the parts it may change, in BOOT and elsewhere, and what it never changes.
-/
namespace Sys2Proof.Machine

theorem drainBoot_frame (n : Nat) (s : State) : State.changesOnly [.queues, .boot, .dict, .gate, .store, .milestone, .draws] s (drainBoot n s) := by
  induction n generalizing s with
  | zero => exact changesOnly_refl _ s
  | succ n ih =>
    unfold drainBoot
    split
    · exact changesOnly_refl _ s
    · refine (State.changesOnly.seq (ps := [.queues, .boot, .dict, .gate, .store, .milestone, .draws]) ?_ (ih _)).within (by decide)
      refine (((s.setQueue_frame 0 _).seq (changesOnly_ite (State.updBoot_frame _ _) (changesOnly_refl _ _))).seq
        (changesOnly_ite ((State.updBoot_frame _ _).seq (State.offerImage_frame _ _)) (changesOnly_refl _ _))).within (by decide)

/-- The parts that the reading of an offered image may change. -/
def bootParts : List Part := [.queues, .host, .boot, .dict, .gate, .store, .milestone, .draws]

theorem bootReads_frame (s : State) : State.changesOnly bootParts s s.bootReads :=
  changesOnly_ite (changesOnly_refl _ s) ((((drainBoot_frame _ s).seq (State.resumeStall_frame _ _)).seq (drainBoot_frame _ _)).within (by decide))

/-- The parts that what follows a command outside BOOT may change. -/
def followParts : List Part :=
  [.queues, .host, .gnss, .obs, .baseRef, .clk, .meter, .gate, .fleet, .radio, .sessions, .remotes, .mbox, .dict, .milestone, .draws]

theorem goOn_frame_run (s : State) (h : s.mode.current ≠ .boot) : State.changesOnly followParts s s.goOn := by
  unfold State.goOn
  refine changesOnly_ite (changesOnly_refl _ s) ?_
  rw [if_neg h]
  have hp : ∀ t l, State.changesOnly followParts t
      (List.foldl (fun s (r : RemoteRequest) => if r.slot < 1000 then s.pumpRemote r.slot else s) t l) :=
    fun t l => changesOnly_foldl (fun s r => changesOnly_ite ((State.pumpRemote_frame s r.slot).within (by decide)) (changesOnly_refl _ s)) l t
  exact ((((((s.drainCopies_frame).seq (State.sendAnswer_frame _)).seq (State.ageUses_frame _)).seq (State.sendReply_frame _ _)).seq
    (State.sendReply_frame _ _)).seq (hp _ _)).within (by decide)

theorem goOn_frame (s : State) : State.changesOnly (followParts ++ [Part.boot, Part.store]) s s.goOn := by
  by_cases h : s.mode.current = .boot
  · unfold State.goOn
    refine changesOnly_ite (changesOnly_refl _ s) ?_
    rw [if_pos h]
    exact (bootReads_frame s).within (by decide)
  · exact (goOn_frame_run s h).within (by decide)

/-- After what goes on: the cancelled activation, the linked workers told, the interrupt of a changed fault bit, the outputs. -/
theorem settle_tail_frame (s old : State) : State.changesOnly [.gate, .dict, .fleet, .host, .outputs] s
    { ((s.noteHaltEntry old).noteLinks old).noteStatus old with outputs := (((s.noteHaltEntry old).noteLinks old).noteStatus old).outputsNow } :=
  ((((s.noteHaltEntry_frame old).seq (State.noteLinks_frame _ old)).seq (State.noteStatus_frame _ old)).seq (only_outputs _ _)).within (by decide)

theorem settle_frame (s old : State) : State.changesOnly (followParts ++ [Part.boot, Part.store, Part.outputs]) s (s.settle old) :=
  ((goOn_frame s).seq (settle_tail_frame s.goOn old)).within (by decide)

theorem settle_frame_run (s old : State) (hb : s.mode.current ≠ .boot) : State.changesOnly (followParts ++ [Part.outputs]) s (s.settle old) :=
  ((goOn_frame_run s hb).seq (settle_tail_frame s.goOn old)).within (by decide)

theorem settled_frame (s t : State) : State.changesOnly (followParts ++ [Part.boot, Part.store, Part.outputs, Part.pending]) t (s.settled t) :=
  ((settle_frame t s).seq (only_pending _ _)).within (by decide)

theorem settled_frame_run (s t : State) (hb : t.mode.current ≠ .boot) : State.changesOnly (followParts ++ [Part.outputs, Part.pending]) t (s.settled t) :=
  ((settle_frame_run t s hb).seq (only_pending _ _)).within (by decide)

@[simp] theorem settled_pending (s t : State) : (s.settled t).pending = s.pending := rfl
@[simp] theorem settled_mode (s t : State) : (s.settled t).mode = t.mode := (settled_frame s t .mode rfl).symm
@[simp] theorem settled_power (s t : State) : (s.settled t).power = t.power := (settled_frame s t .power rfl).symm
@[simp] theorem settled_roundabout (s t : State) : (s.settled t).roundabout = t.roundabout := (settled_frame s t .roundabout rfl).symm
@[simp] theorem settled_nav (s t : State) : (s.settled t).nav = t.nav := (settled_frame s t .nav rfl).symm
@[simp] theorem settled_blv (s t : State) : (s.settled t).blv = t.blv := (settled_frame s t .blv rfl).symm
@[simp] theorem settled_kerb (s t : State) : (s.settled t).kerb = t.kerb := (settled_frame s t .kerb rfl).symm
@[simp] theorem settled_cover (s t : State) : (s.settled t).cover = t.cover := (settled_frame s t .cover rfl).symm
@[simp] theorem settled_cache (s t : State) : (s.settled t).cache = t.cache := (settled_frame s t .cache rfl).symm
@[simp] theorem settled_crier (s t : State) : (s.settled t).crier = t.crier := (settled_frame s t .crier rfl).symm
@[simp] theorem settled_tram (s t : State) : (s.settled t).tram = t.tram := (settled_frame s t .tram rfl).symm
@[simp] theorem settled_net (s t : State) : (s.settled t).net = t.net := (settled_frame s t .net rfl).symm
@[simp] theorem settled_zheoc (s t : State) : (s.settled t).zheoc = t.zheoc := (settled_frame s t .zheoc rfl).symm
@[simp] theorem settled_bootDict (s t : State) : (s.settled t).bootDict = t.bootDict := (settled_frame s t .bootDict rfl).symm
@[simp] theorem settled_octets (s t : State) : (s.settled t).octets = t.octets := (settled_frame s t .octets rfl).symm
@[simp] theorem settled_periods (s t : State) : (s.settled t).periods = t.periods := (settled_frame s t .periods rfl).symm

/-- The outputs of a settled state are those of the state before them. -/
theorem settled_outputs (s t : State) : ∃ u : State, (s.settled t).outputs = u.outputsNow ∧ (s.settled t) = { u with outputs := u.outputsNow, pending := s.pending } :=
  ⟨((t.goOn.noteHaltEntry s).noteLinks s).noteStatus s, rfl, rfl⟩

/-- A command whose effect is known answers that state, settled. -/
theorem complete_next {s t : State} {f : State → State} (h : f s = t) : s.complete f = .next (s.settled t) := by rw [← h]; rfl

/-- Every command answers a settled state, but for a die temperature beyond the ratings. -/
theorem exec_settled (c : Instr) (s : State) : (∃ t, exec c s = .next (s.settled t)) ∨ exec c s = .fault .beyondRatings := by
  cases c
  case dieTemperatureSample m =>
    by_cases h : 140000 < m
    · exact .inr (if_pos h)
    · exact .inl ⟨s.dieTemperatureSample m, if_neg h⟩
  all_goals exact .inl ⟨_, rfl⟩

end Sys2Proof.Machine
end

