-- ==== Sys2Proof/Laws/Exec.lean ====
section
/-!
SUPPORT. Laws/Exec.lean: every command as the settled state of its own effect, one lemma per command.
-/
namespace Sys2Proof.Machine

/-- Two effects that are one give one outcome. -/
theorem next_settled {s t u : State} (h : t = u) : (Host.Outcome.next (s.settled t) : Host.Outcome State Fault Refusal) = .next (s.settled u) := by rw [h]

theorem exec_powerOn (vsns : Nat) (s : State) : exec (.powerOn vsns) s = .next (s.settled (s.powerOn vsns)) := rfl

theorem exec_pgoodRelease (vhold : Nat) (s : State) : exec (.pgoodRelease vhold) s = .next (s.settled (s.pgoodRelease vhold)) := rfl

theorem exec_pgoodFall (s : State) : exec .pgoodFall s = .next (s.settled (s.pgoodFall)) := rfl

theorem exec_strapSample (lands : StartLands) (vioA vioB : Nat) (nand : List (Option NandInfo)) (badKeyCopies : List (Nat × Nat)) (s : State) : exec (.strapSample lands vioA vioB nand badKeyCopies) s = .next (s.settled (s.strapSample lands vioA vioB nand badKeyCopies)) := rfl

theorem exec_nrstOutRelease (s : State) : exec .nrstOutRelease s = .next (s.settled (s.nrstOutRelease)) := rfl

theorem exec_nrstInAssert (ns : Nat) (s : State) : exec (.nrstInAssert ns) s = .next (s.settled (s.nrstInAssert ns)) := rfl

theorem exec_vholdDischarged (vhold : Nat) (s : State) : exec (.vholdDischarged vhold) s = .next (s.settled (s.vholdDischarged vhold)) := rfl

theorem exec_vholdMeasureStart (s : State) : exec .vholdMeasureStart s = .next (s.settled (s.vholdMeasureStart)) := rfl

theorem exec_vholdArmed (us50 us20 : Nat) (s : State) : exec (.vholdArmed us50 us20) s = .next (s.settled (s.vholdArmed us50 us20)) := rfl

theorem exec_vholdChargeTimeout (s : State) : exec .vholdChargeTimeout s = .next (s.settled (s.vholdChargeTimeout)) := rfl

theorem exec_vholdDisarm (vhold : Nat) (s : State) : exec (.vholdDisarm vhold) s = .next (s.settled (s.vholdDisarm vhold)) := rfl

theorem exec_chargeCurrentChange (vsns : Nat) (s : State) : exec (.chargeCurrentChange vsns) s = .next (s.settled (s.chargeCurrentChange vsns)) := rfl

theorem exec_bootComplete (start : BootStart) (s : State) : exec (.bootComplete start) s = .next (s.settled (s.bootComplete start)) := rfl

theorem exec_vinSag (vsns : Nat) (s : State) : exec (.vinSag vsns) s = .next (s.settled (s.vinSag vsns)) := rfl

theorem exec_vinOvervoltage (vsns : Nat) (s : State) : exec (.vinOvervoltage vsns) s = .next (s.settled (s.vinOvervoltage vsns)) := rfl

theorem exec_vinOvervoltageEnd (vsns : Nat) (s : State) : exec (.vinOvervoltageEnd vsns) s = .next (s.settled (s.vinOvervoltageEnd vsns)) := rfl

theorem exec_isolationTimeout (s : State) : exec .isolationTimeout s = .next (s.settled (s.isolationTimeout)) := rfl

theorem exec_vinSwell (vsns : Nat) (s : State) : exec (.vinSwell vsns) s = .next (s.settled (s.vinSwell vsns)) := rfl

theorem exec_saveComplete (us vhold : Nat) (s : State) : exec (.saveComplete us vhold) s = .next (s.settled (s.saveComplete us vhold)) := rfl

theorem exec_saveAbort (s : State) : exec .saveAbort s = .next (s.settled (s.saveAbort)) := rfl

theorem exec_watchdogExpiry (s : State) : exec .watchdogExpiry s = .next (s.settled (s.watchdogExpiry)) := rfl

theorem exec_resetRequest (q : Sess) (v : Int) (s : State) : exec (.resetRequest q v) s = .next (s.settled (s.ownWrite q (fun s => s.resetRequest q v))) := rfl

theorem exec_orderlySaveComplete (us vhold : Nat) (s : State) : exec (.orderlySaveComplete us vhold) s = .next (s.settled (s.orderlySaveComplete us vhold)) := rfl

theorem exec_pllLossOfLock (domain : ClockDomain) (s : State) : exec (.pllLossOfLock domain) s = .next (s.settled (s.pllLossOfLock domain)) := rfl

theorem exec_extRefLoss (s : State) : exec .extRefLoss s = .next (s.settled (s.extRefLoss)) := rfl

theorem exec_modeRequestBase (q : Sess) (s : State) : exec (.modeRequestBase q) s = .next (s.settled (s.ownWrite q (fun s => s.modeRequestBase q))) := rfl

theorem exec_modeRequestRover (q : Sess) (s : State) : exec (.modeRequestRover q) s = .next (s.settled (s.ownWrite q (fun s => s.modeRequestRover q))) := rfl

theorem exec_modeRequestRelay (q : Sess) (s : State) : exec (.modeRequestRelay q) s = .next (s.settled (s.ownWrite q (fun s => s.modeRequestRelay q))) := rfl

theorem exec_modeRequestStandby (q : Sess) (s : State) : exec (.modeRequestStandby q) s = .next (s.settled (s.ownWrite q (fun s => s.modeRequestStandby q))) := rfl

theorem exec_modeRequestSnapshot (q : Sess) (s : State) : exec (.modeRequestSnapshot q) s = .next (s.settled (s.ownWrite q (fun s => s.modeRequestSnapshot q))) := rfl

theorem exec_modeRequestHalt (q : Sess) (s : State) : exec (.modeRequestHalt q) s = .next (s.settled (s.ownWrite q (fun s => s.modeRequestHalt q))) := rfl

theorem exec_stopTrigger (channel : StopChannel) (path : StopPath) (s : State) : exec (.stopTrigger channel path) s = .next (s.settled (s.stopTrigger channel path)) := rfl

theorem exec_stopDeassert (channel : StopChannel) (path : StopPath) (s : State) : exec (.stopDeassert channel path) s = .next (s.settled (s.stopDeassert channel path)) := rfl

theorem exec_stopDiscrepancyTimeout (s : State) : exec .stopDiscrepancyTimeout s = .next (s.settled (s.stopDiscrepancyTimeout)) := rfl

theorem exec_stopCopy (s : State) : exec .stopCopy s = .next (s.settled (s.stopCopy)) := rfl

theorem exec_beaconResume (s : State) : exec .beaconResume s = .next (s.settled (s.beaconResume)) := rfl

theorem exec_stopHeaderCheck (sync : Nat) (frame : List Byte) (s : State) : exec (.stopHeaderCheck sync frame) s = .next (s.settled (s.asInput (fun s => s.stopHeaderCheck sync frame))) := rfl

theorem exec_stopFrameVerify (frame : List Byte) (s : State) : exec (.stopFrameVerify frame) s = .next (s.settled (s.asInput (fun s => s.stopFrameVerify frame))) := rfl

theorem exec_releaseRequest (q : Sess) (v : Int) (s : State) : exec (.releaseRequest q v) s = .next (s.settled (s.ownWrite q (fun s => s.releaseRequest q v))) := rfl

theorem exec_releaseFrame (sync : Nat) (frame : List Byte) (s : State) : exec (.releaseFrame sync frame) s = .next (s.settled (s.asInput (fun s => s.releaseFrame sync frame))) := rfl

theorem exec_releaseMachines (q : Sess) (v : Int) (s : State) : exec (.releaseMachines q v) s = .next (s.settled (s.ownWrite q (fun s => s.releaseMachines q v))) := rfl

theorem exec_baseLinkStop (origin : Nat) (s : State) : exec (.baseLinkStop origin) s = .next (s.settled (s.asInput (fun s => s.baseLinkStop origin))) := rfl

theorem exec_baseLinkStopRequest (base : Nat) (s : State) : exec (.baseLinkStopRequest base) s = .next (s.settled (s.asInput (fun s => s.baseLinkStopRequest base))) := rfl

theorem exec_baseLinkRelease (head : LinkHead) (s : State) : exec (.baseLinkRelease head) s = .next (s.settled (s.asInput (fun s => s.fromLink head State.baseLinkRelease))) := rfl

theorem exec_beaconTx (s : State) : exec .beaconTx s = .next (s.settled (s.beaconTx)) := rfl

theorem exec_beaconCopyTx (s : State) : exec .beaconCopyTx s = .next (s.settled (s.beaconCopyTx)) := rfl

theorem exec_beaconRx (frame : List Byte) (tick : Nat) (rssi : Int) (s : State) : exec (.beaconRx frame tick rssi) s = .next (s.settled (s.asInput (fun s => s.beaconRx frame tick rssi))) := rfl

theorem exec_beaconMissed (s : State) : exec .beaconMissed s = .next (s.settled (s.beaconMissed)) := rfl

theorem exec_lostBase (s : State) : exec .lostBase s = .next (s.settled (s.lostBase)) := rfl

theorem exec_announcedStepApply (s : State) : exec .announcedStepApply s = .next (s.settled (s.announcedStepApply)) := rfl

theorem exec_downlinkFrameTx (s : State) : exec .downlinkFrameTx s = .next (s.settled (s.downlinkFrameTx)) := rfl

theorem exec_uplinkReportTx (s : State) : exec .uplinkReportTx s = .next (s.settled (s.uplinkReportTx)) := rfl

theorem exec_uplinkReportRx (frame : List Byte) (tick : Nat) (rssi : Int) (s : State) : exec (.uplinkReportRx frame tick rssi) s = .next (s.settled (s.asInput (fun s => s.uplinkReportRx frame tick rssi))) := rfl

theorem exec_uplinkMissed (slot : Nat) (s : State) : exec (.uplinkMissed slot) s = .next (s.settled (s.uplinkMissed slot)) := rfl

theorem exec_admissionRequestTx (s : State) : exec .admissionRequestTx s = .next (s.settled (s.admissionRequestTx)) := rfl

theorem exec_admissionRetry (s : State) : exec .admissionRetry s = .next (s.settled (s.admissionRetry)) := rfl

theorem exec_admissionRequestRx (frame : List Byte) (s : State) : exec (.admissionRequestRx frame) s = .next (s.settled (s.asInput (fun s => s.admissionRequestRx frame))) := rfl

theorem exec_admissionGrantRx (frame : List Byte) (s : State) : exec (.admissionGrantRx frame) s = .next (s.settled (s.asInput (fun s => s.admissionGrantRx frame))) := rfl

theorem exec_terminateRx (frame : List Byte) (s : State) : exec (.terminateRx frame) s = .next (s.settled (s.asInput (fun s => s.terminateRx frame))) := rfl

theorem exec_supervisionTimeout (s : State) : exec .supervisionTimeout s = .next (s.settled (s.supervisionTimeout)) := rfl

theorem exec_slotSupervisionTimeout (slot : Nat) (s : State) : exec (.slotSupervisionTimeout slot) s = .next (s.settled (s.slotSupervisionTimeout slot)) := rfl

theorem exec_connectionDisable (q : Sess) (s : State) : exec (.connectionDisable q) s = .next (s.settled (s.ownWrite q (fun s => s.connectionDisable q))) := rfl

theorem exec_connectionEnable (q : Sess) (s : State) : exec (.connectionEnable q) s = .next (s.settled (s.ownWrite q (fun s => s.connectionEnable q))) := rfl

theorem exec_slotDisable (q : Sess) (s : State) : exec (.slotDisable q) s = .next (s.settled (s.ownWrite q (fun s => s.slotDisable q))) := rfl

theorem exec_slotEnable (q : Sess) (s : State) : exec (.slotEnable q) s = .next (s.settled (s.ownWrite q (fun s => s.slotEnable q))) := rfl

theorem exec_lbtAssessment (power : Int) (s : State) : exec (.lbtAssessment power) s = .next (s.settled (s.lbtAssessment power)) := rfl

theorem exec_floodFrameRx (frame : List Byte) (s : State) : exec (.floodFrameRx frame) s = .next (s.settled (s.asInput (fun s => s.floodFrameRx frame))) := rfl

theorem exec_floodCopyTx (s : State) : exec .floodCopyTx s = .next (s.settled (s.floodCopyTx)) := rfl

theorem exec_seenCacheExpiry (s : State) : exec .seenCacheExpiry s = .next (s.settled (s.seenCacheExpiry)) := rfl

theorem exec_correctionFragmentRx (frames : List (List Byte)) (s : State) : exec (.correctionFragmentRx frames) s = .next (s.settled (s.asInput (fun s => s.correctionFragmentRx frames))) := rfl

theorem exec_tileTransferRx (frames : List (List Byte)) (s : State) : exec (.tileTransferRx frames) s = .next (s.settled (s.asInput (fun s => s.tileFramesRx frames))) := rfl

theorem exec_offerRx (frames : List (List Byte)) (s : State) : exec (.offerRx frames) s = .next (s.settled (s.asInput (fun s => s.offerRx frames))) := rfl

theorem exec_claimResultRx (frames : List (List Byte)) (s : State) : exec (.claimResultRx frames) s = .next (s.settled (s.asInput (fun s => s.claimResultRx frames))) := rfl

theorem exec_taskLoadRx (frames : List (List Byte)) (s : State) : exec (.taskLoadRx frames) s = .next (s.settled (s.asInput (fun s => s.taskLoadRx frames))) := rfl

theorem exec_taskTrackRx (frames : List (List Byte)) (s : State) : exec (.taskTrackRx frames) s = .next (s.settled (s.asInput (fun s => s.taskTrackRx frames))) := rfl

theorem exec_revokedRx (frames : List (List Byte)) (s : State) : exec (.revokedRx frames) s = .next (s.settled (s.asInput (fun s => s.revokedRx frames))) := rfl

theorem exec_separationAlertRx (frames : List (List Byte)) (s : State) : exec (.separationAlertRx frames) s = .next (s.settled (s.asInput (fun s => s.separationAlertRx frames))) := rfl

theorem exec_groupKeyRollover (s : State) : exec .groupKeyRollover s = .next (s.settled (s.groupKeyRollover)) := rfl

theorem exec_timeSourceQualified (src : TimeSource) (solutions : List ClockSolution) (s : State) : exec (.timeSourceQualified src solutions) s = .next (s.settled (s.timeSourceQualified src solutions)) := rfl

theorem exec_timeSourceLost (src : TimeSource) (s : State) : exec (.timeSourceLost src) s = .next (s.settled (s.timeSourceLost src)) := rfl

theorem exec_disciplineMeasure (solution : Option ClockSolution) (s : State) : exec (.disciplineMeasure solution) s = .next (s.settled (s.disciplineMeasure solution)) := rfl

theorem exec_timeStep (s : State) : exec .timeStep s = .next (s.settled (s.timeStep)) := rfl

theorem exec_conversionSetApply (s : State) : exec .conversionSetApply s = .next (s.settled (s.asCommand (fun s => s.conversionSetApply))) := rfl

theorem exec_compareLoad (user : Nat) (target : Int) (s : State) : exec (.compareLoad user target) s = .next (s.settled (s.compareLoad user target)) := rfl

theorem exec_clockOffsetRead (q : Sess) (s : State) : exec (.clockOffsetRead q) s = .next (s.settled (s.ownRequest q (fun s => s.clockOffsetRead q))) := rfl

theorem exec_ppsOutRise (s : State) : exec .ppsOutRise s = .next (s.settled (s.ppsRise)) := rfl

theorem exec_ppsOutFall (s : State) : exec .ppsOutFall s = .next (s.settled (s.ppsFall)) := rfl

theorem exec_eventCapture (input : Nat) (falling : Bool) (tick : Nat) (s : State) : exec (.eventCapture input falling tick) s = .next (s.settled (s.eventCapture input falling tick)) := rfl

theorem exec_ppsInTimeout (s : State) : exec .ppsInTimeout s = .next (s.settled (s.ppsInTimeout)) := rfl

theorem exec_evtNext (q : Sess) (s : State) : exec (.evtNext q) s = .next (s.settled (s.ownRequest q (fun s => s.evtNextRead q))) := rfl

theorem exec_biasClassify (ant : Side) (milliamps : Nat) (atLimit : Bool) (gains : Int × Int) (s : State) : exec (.biasClassify ant milliamps atLimit gains) s = .next (s.settled (s.biasClassify ant milliamps atLimit gains)) := rfl

theorem exec_biasRetry (ant : Side) (s : State) : exec (.biasRetry ant) s = .next (s.settled (s.biasRetry ant)) := rfl

theorem exec_signalEnableWrite (q : Sess) (v : Int) (s : State) : exec (.signalEnableWrite q v) s = .next (s.settled (s.ownWrite q (fun s => s.signalEnableWrite q v))) := rfl

theorem exec_codeEpochDump (channel tag : Nat) (samples : List (Int × Int)) (s : State) : exec (.codeEpochDump channel tag samples) s = .next (s.settled (s.codeEpochDump channel tag samples)) := rfl

theorem exec_trackingFrame (s : State) : exec .trackingFrame s = .next (s.settled (s.trackingFrame)) := rfl

theorem exec_lossOfLock (channel : Nat) (s : State) : exec (.lossOfLock channel) s = .next (s.settled (s.lossOfLock channel)) := rfl

theorem exec_channelRanking (view : List SatView) (s : State) : exec (.channelRanking view) s = .next (s.settled (s.channelRanking view)) := rfl

theorem exec_acqRequest (request : AcqRequest) (s : State) : exec (.acqRequest request) s = .next (s.settled (s.acqRequest request)) := rfl

theorem exec_acqPassComplete (cells : List (List (Int × Int))) (s : State) : exec (.acqPassComplete cells) s = .next (s.settled (s.acqPassComplete cells)) := rfl

theorem exec_acqVerifyComplete (cells : List (List (Int × Int))) (tag : Nat) (s : State) : exec (.acqVerifyComplete cells tag) s = .next (s.settled (s.acqVerifyComplete cells tag)) := rfl

theorem exec_navUnitComplete (nav : NavUnit) (s : State) : exec (.navUnitComplete nav) s = .next (s.settled (s.navUnitComplete nav)) := rfl

theorem exec_navHostOutputWrite (q : Sess) (v : Int) (s : State) : exec (.navHostOutputWrite q v) s = .next (s.settled (s.ownWrite q (fun s => s.navHostOutputWrite q v))) := rfl

theorem exec_snapshotTrigger (q : Sess) (v : Int) (s : State) : exec (.snapshotTrigger q v) s = .next (s.settled (s.ownWrite q (fun s => s.snapshotTrigger q v))) := rfl

theorem exec_snapshotInterval (s : State) : exec .snapshotInterval s = .next (s.settled (s.snapshotInterval)) := rfl

theorem exec_snapshotCaptureComplete (samples : List (List (Int × Int))) (s : State) : exec (.snapshotCaptureComplete samples) s = .next (s.settled (s.snapshotCaptureComplete samples)) := rfl

theorem exec_snapshotProcessingComplete (fix : SnapshotFix) (s : State) : exec (.snapshotProcessingComplete fix) s = .next (s.settled (s.snapshotProcessingComplete fix)) := rfl

theorem exec_snapshotDataRead (q : Sess) (s : State) : exec (.snapshotDataRead q) s = .next (s.settled (s.ownRequest q (fun s => s.snapshotDataRead q))) := rfl

theorem exec_snapshotRelease (q : Sess) (v : Int) (s : State) : exec (.snapshotRelease q v) s = .next (s.settled (s.ownWrite q (fun s => s.snapshotRelease q v))) := rfl

theorem exec_snapshotWakeTimeWrite (q : Sess) (v : Int) (s : State) : exec (.snapshotWakeTimeWrite q v) s = .next (s.settled (s.ownWrite q (fun s => s.snapshotWakeTimeWrite q v))) := rfl

theorem exec_snapshotWake (s : State) : exec .snapshotWake s = .next (s.settled (s.snapshotWake)) := rfl

theorem exec_observableEpoch (clockResidual : Int) (s : State) : exec (.observableEpoch clockResidual) s = .next (s.settled (s.takeEpoch clockResidual)) := rfl

theorem exec_obsHostOutputWrite (q : Sess) (v : Int) (s : State) : exec (.obsHostOutputWrite q v) s = .next (s.settled (s.ownWrite q (fun s => s.obsHostOutputWrite q v))) := rfl

theorem exec_surveyInComplete (positions : List (Int × Int × Int)) (s : State) : exec (.surveyInComplete positions) s = .next (s.settled (s.surveyInComplete positions)) := rfl

theorem exec_surveyInTimeout (s : State) : exec .surveyInTimeout s = .next (s.settled (s.surveyInTimeout)) := rfl

theorem exec_basePositionCheck (x y z : Int) (s : State) : exec (.basePositionCheck x y z) s = .next (s.settled (s.basePositionCheck x y z)) := rfl

theorem exec_baseEcefWrite (q : Sess) (axis : Fin 3) (v : Int) (s : State) : exec (.baseEcefWrite q axis v) s = .next (s.settled (s.ownWrite q (fun s => s.baseEcefWrite q axis v))) := rfl

theorem exec_rtcmEpoch (tcpSent : Nat) (s : State) : exec (.rtcmEpoch tcpSent) s = .next (s.settled (s.rtcmEpoch tcpSent)) := rfl

theorem exec_ntripRetry (connected : Bool) (s : State) : exec (.ntripRetry connected) s = .next (s.settled (s.ntripRetry connected)) := rfl

theorem exec_ntripGga (s : State) : exec .ntripGga s = .next (s.settled (s.ntripGga)) := rfl

theorem exec_ntripMessageRx (number : Nat) (aligned more : Bool) (epoch : Int) (s : State) : exec (.ntripMessageRx number aligned more epoch) s = .next (s.settled (s.asInput (fun s => s.ntripMessageRx number aligned more epoch))) := rfl

theorem exec_matchOperand (flow epoch slot value need hold : Nat) (s : State) : exec (.matchOperand flow epoch slot value need hold) s = .next (s.settled (s.matchOperand flow epoch slot value need hold)) := rfl

theorem exec_matchExpiry (flow epoch : Nat) (s : State) : exec (.matchExpiry flow epoch) s = .next (s.settled (s.matchExpiry flow epoch)) := rfl

theorem exec_rtkSolution (solution : RtkSolution) (s : State) : exec (.rtkSolution solution) s = .next (s.settled (s.rtkSolution solution)) := rfl

theorem exec_ambiguityHoldExpiry (s : State) : exec .ambiguityHoldExpiry s = .next (s.settled (s.ambiguityHoldExpiry)) := rfl

theorem exec_headingSolution (solution : HeadingSolution) (s : State) : exec (.headingSolution solution) s = .next (s.settled (s.headingSolution solution)) := rfl

theorem exec_headingHoldExpiry (s : State) : exec .headingHoldExpiry s = .next (s.settled (s.headingHoldExpiry)) := rfl

theorem exec_imuSyncSample (s : State) : exec .imuSyncSample s = .next (s.settled (s.imuSyncSample)) := rfl

theorem exec_imuFrameRead (frame : List Byte) (s : State) : exec (.imuFrameRead frame) s = .next (s.settled (s.imuFrameRead frame)) := rfl

theorem exec_poseInstant (estimate : PoseEstimate) (s : State) : exec (.poseInstant estimate) s = .next (s.settled (s.poseInstant estimate)) := rfl

theorem exec_programFrame (program wait : Nat) (s : State) : exec (.programFrame program wait) s = .next (s.settled (s.programFrame program wait)) := rfl

theorem exec_outputPhase (program corrected : Nat) (uncorrectable : Bool) (s : State) : exec (.outputPhase program corrected uncorrectable) s = .next (s.settled (s.outputPhase program corrected uncorrectable)) := rfl

theorem exec_blvScrub (corrected : Nat) (badGroups : List Nat) (s : State) : exec (.blvScrub corrected badGroups) s = .next (s.settled (s.blvScrub corrected badGroups)) := rfl

theorem exec_bankCopy (q : Sess) (v : Int) (s : State) : exec (.bankCopy q v) s = .next (s.settled (s.ownWrite q (fun s => s.bankCopy q v))) := rfl

theorem exec_coefInactiveWrite (q : Sess) (v : Int) (s : State) : exec (.coefInactiveWrite q v) s = .next (s.settled (s.ownWrite q (fun s => s.coefInactiveWrite q v))) := rfl

theorem exec_bankSwapRequest (q : Sess) (v : Int) (s : State) : exec (.bankSwapRequest q v) s = .next (s.settled (s.ownWrite q (fun s => s.bankSwapRequest q v))) := rfl

theorem exec_bankSwap (s : State) : exec .bankSwap s = .next (s.settled (s.bankSwap)) := rfl

theorem exec_groupEnable (q : Sess) (s : State) : exec (.groupEnable q) s = .next (s.settled (s.ownWrite q (fun s => s.groupEnable q))) := rfl

theorem exec_groupDisable (q : Sess) (s : State) : exec (.groupDisable q) s = .next (s.settled (s.ownWrite q (fun s => s.groupDisable q))) := rfl

theorem exec_groupResume (q : Sess) (v : Int) (s : State) : exec (.groupResume q v) s = .next (s.settled (s.ownWrite q (fun s => s.groupResume q v))) := rfl

theorem exec_kerbEvaluation (crcOk : Bool) (s : State) : exec (.kerbEvaluation crcOk) s = .next (s.settled (s.kerbEvaluation crcOk)) := rfl

theorem exec_slotIssue (s : State) : exec .slotIssue s = .next (s.settled (s.slotIssue)) := rfl

theorem exec_slotBoundary (readback : Nat) (s : State) : exec (.slotBoundary readback) s = .next (s.settled (s.slotBoundary readback)) := rfl

theorem exec_sectionDelayElapsed (sec : Nat) (s : State) : exec (.sectionDelayElapsed sec) s = .next (s.settled (s.sectionDelayElapsed sec)) := rfl

theorem exec_chainFaultClear (q : Sess) (v : Int) (s : State) : exec (.chainFaultClear q v) s = .next (s.settled (s.ownWrite q (fun s => s.chainFaultClear q v))) := rfl

theorem exec_chainConfigWrite (q : Sess) (which : ChainObject) (v : Int) (s : State) : exec (.chainConfigWrite q which v) s = .next (s.settled (s.ownWrite q (fun s => s.chainConfigWrite q which v))) := rfl

theorem exec_sectionRecordWrite (q : Sess) (which : SectionField) (v : Int) (s : State) : exec (.sectionRecordWrite q which v) s = .next (s.settled (s.ownWrite q (fun s => s.recordWrite q which v))) := rfl

theorem exec_sectionModeWrite (q : Sess) (v : Int) (s : State) : exec (.sectionModeWrite q v) s = .next (s.settled (s.ownWrite q (fun s => s.sectionModeWrite q v))) := rfl

theorem exec_masterEnableWrite (q : Sess) (v : Int) (s : State) : exec (.masterEnableWrite q v) s = .next (s.settled (s.ownWrite q (fun s => s.masterEnableWrite q v))) := rfl

theorem exec_segmentClose (s : State) : exec .segmentClose s = .next (s.settled (s.segmentClose)) := rfl

theorem exec_tileCacheUpdate (s : State) : exec .tileCacheUpdate s = .next (s.settled (s.tileCacheUpdate)) := rfl

theorem exec_segmentRx (source : Uplink) (s : State) : exec (.segmentRx source) s = .next (s.settled (s.asInput (fun s =>
      match s.uplink 1 source with
    | (s, none) => s
    | (s, some r) => s.segmentRx r.1 r.2))) := rfl

theorem exec_segmentPaint (s : State) : exec .segmentPaint s = .next (s.settled (s.segmentPaint)) := rfl

theorem exec_paintedSegmentRx (head : LinkHead) (mseq machine : Nat) (record : List Byte) (s : State) : exec (.paintedSegmentRx head mseq machine record) s = .next (s.settled (s.asInput (fun s => s.fromLink head (fun s => s.paintedSegmentRx mseq machine record)))) := rfl

theorem exec_managerSegmentAckRx (head : LinkHead) (slot seq : Nat) (s : State) : exec (.managerSegmentAckRx head slot seq) s = .next (s.settled (s.asInput (fun s => s.fromLink head (fun s => s.managerSegmentAckRx slot seq)))) := rfl

theorem exec_tileSend (slot : Nat) (s : State) : exec (.tileSend slot) s = .next (s.settled (s.tileSend slot)) := rfl

theorem exec_checkpointStart (s : State) : exec .checkpointStart s = .next (s.settled (s.checkpointStart)) := rfl

theorem exec_checkpointComplete (s : State) : exec .checkpointComplete s = .next (s.settled (s.checkpointComplete)) := rfl

theorem exec_mapRestoreComplete (older : List (Nat × Nat)) (s : State) : exec (.mapRestoreComplete older) s = .next (s.settled (s.mapRestoreComplete older)) := rfl

theorem exec_mapDelete (q : Sess) (v : Int) (s : State) : exec (.mapDelete q v) s = .next (s.settled (s.ownWrite q (fun s => s.mapDelete q v))) := rfl

theorem exec_fieldLoad (q : Sess) (data : List Byte) (s : State) : exec (.fieldLoad q data) s = .next (s.settled (s.ownWrite q (fun s => s.fieldLoad q data))) := rfl

theorem exec_fieldUnload (q : Sess) (v : Int) (s : State) : exec (.fieldUnload q v) s = .next (s.settled (s.ownWrite q (fun s => s.fieldUnload q v))) := rfl

theorem exec_trackLoad (q : Sess) (data : List Byte) (s : State) : exec (.trackLoad q data) s = .next (s.settled (s.ownWrite q (fun s => s.trackLoad q data))) := rfl

theorem exec_taskLoad (q : Sess) (data : List Byte) (s : State) : exec (.taskLoad q data) s = .next (s.settled (s.ownWrite q (fun s => s.taskLoad q data))) := rfl

theorem exec_fleetRecordCopyRx (head : LinkHead) (object : Nat) (data : List Byte) (s : State) : exec (.fleetRecordCopyRx head object data) s = .next (s.settled (s.asInput (fun s => s.fromLink head (fun s => s.fleetRecordCopyRx object data)))) := rfl

theorem exec_taskCancel (q : Sess) (s : State) : exec (.taskCancel q) s = .next (s.settled (s.ownWrite q (fun s => s.taskCancel q))) := rfl

theorem exec_taskRevoke (q : Sess) (s : State) : exec (.taskRevoke q) s = .next (s.settled (s.ownWrite q (fun s => s.taskRevoke q))) := rfl

theorem exec_taskHandOver (q : Sess) (s : State) : exec (.taskHandOver q) s = .next (s.settled (s.ownWrite q (fun s => s.taskHandOver q))) := rfl

theorem exec_taskOffer (task machine : Nat) (s : State) : exec (.taskOffer task machine) s = .next (s.settled (s.taskOffer task machine)) := rfl

theorem exec_offerLapse (task : Nat) (s : State) : exec (.offerLapse task) s = .next (s.settled (s.offerLapse task)) := rfl

theorem exec_claimRx (source : Uplink) (s : State) : exec (.claimRx source) s = .next (s.settled (s.asInput (fun s =>
      match s.uplink 2 source with
    | (s, none) => s
    | (s, some r) => s.claimRx r.1 r.2))) := rfl

theorem exec_claimDecision (s : State) : exec .claimDecision s = .next (s.settled (s.claimDecision)) := rfl

theorem exec_leaseExpiry (s : State) : exec .leaseExpiry s = .next (s.settled (s.leaseExpiry)) := rfl

theorem exec_trackDoneRx (source : Uplink) (s : State) : exec (.trackDoneRx source) s = .next (s.settled (s.asInput (fun s =>
      match s.uplink 4 source with
    | (s, none) => s
    | (s, some r) => s.trackDoneRx r.1 (fieldU r.2 0 2)))) := rfl

theorem exec_taskReleaseRx (source : Uplink) (s : State) : exec (.taskReleaseRx source) s = .next (s.settled (s.asInput (fun s =>
      match s.uplink 5 source with
    | (s, none) => s
    | (s, some r) => s.taskReleaseRx r.1 (fieldU r.2 0 4)))) := rfl

theorem exec_tileRequestRx (source : Uplink) (s : State) : exec (.tileRequestRx source) s = .next (s.settled (s.asInput (fun s =>
      match s.uplink 3 source with
    | (s, none) => s
    | (s, some r) => s.tileRequestRx (r.1 % 128) r.2))) := rfl

theorem exec_claimRequest (q : Sess) (data : List Byte) (s : State) : exec (.claimRequest q data) s = .next (s.settled (s.ownWrite q (fun s => s.claimRequest q data))) := rfl

theorem exec_taskRelease (q : Sess) (v : Int) (s : State) : exec (.taskRelease q v) s = .next (s.settled (s.ownWrite q (fun s => s.taskRelease q v))) := rfl

theorem exec_trackDone (q : Sess) (v : Int) (s : State) : exec (.trackDone q v) s = .next (s.settled (s.ownWrite q (fun s => s.trackDone q v))) := rfl

theorem exec_separationCheck (s : State) : exec .separationCheck s = .next (s.settled (s.separationCheck)) := rfl

theorem exec_baseLinkHeartbeat (s : State) : exec .baseLinkHeartbeat s = .next (s.settled (s.baseLinkHeartbeat)) := rfl

theorem exec_baseLinkTimeout (base : Nat) (s : State) : exec (.baseLinkTimeout base) s = .next (s.settled (s.baseLinkTimeout base)) := rfl

theorem exec_baseLinkRestored (head : LinkHead) (base : Nat) (halted : Bool) (reports : List Nat) (s : State) : exec (.baseLinkRestored head base halted reports) s = .next (s.settled (s.asInput (fun s => s.fromLink head (fun s => s.baseLinkRestored base halted reports)))) := rfl

theorem exec_reservationReportRx (head : LinkHead) (slot : Nat) (held : Bool) (s : State) : exec (.reservationReportRx head slot held) s = .next (s.settled (s.asInput (fun s => s.fromLink head (fun s => s.reservationReportRx slot held)))) := rfl

theorem exec_ethFrameRx (port : Nat) (frame : List Byte) (drained : Nat) (s : State) : exec (.ethFrameRx port frame drained) s = .next (s.settled (s.ethFrameRx port frame drained)) := rfl

theorem exec_ethFrameTx (port : Nat) (offered : List (Bool × Nat)) (s : State) : exec (.ethFrameTx port offered) s = .next (s.settled (s.ethFrameTx port offered)) := rfl

theorem exec_ethLinkChange (port : Nat) (answers up fullDuplex : Bool) (speed : Nat) (s : State) : exec (.ethLinkChange port answers up fullDuplex speed) s = .next (s.settled (s.ethLinkChange port answers up fullDuplex speed)) := rfl

theorem exec_pauseRx (port : Nat) (frame : List Byte) (s : State) : exec (.pauseRx port frame) s = .next (s.settled (s.pauseRx port frame)) := rfl

theorem exec_pauseEnd (port : Nat) (s : State) : exec (.pauseEnd port) s = .next (s.settled (s.pauseEnd port)) := rfl

theorem exec_pauseTx (port drained : Nat) (s : State) : exec (.pauseTx port drained) s = .next (s.settled (s.pauseTx port drained)) := rfl

theorem exec_pauseRepeat (port : Nat) (s : State) : exec (.pauseRepeat port) s = .next (s.settled (s.pauseRepeat port)) := rfl

theorem exec_ethDisable (q : Sess) (s : State) : exec (.ethDisable q) s = .next (s.settled (s.ownWrite q (fun s => s.ethDisable q))) := rfl

theorem exec_ethDisableComplete (port : Nat) (s : State) : exec (.ethDisableComplete port) s = .next (s.settled (s.ethDisableComplete port)) := rfl

theorem exec_ethEnable (q : Sess) (s : State) : exec (.ethEnable q) s = .next (s.settled (s.ownWrite q (fun s => s.ethEnable q))) := rfl

theorem exec_wakeMatch (port : Nat) (frame : List Byte) (s : State) : exec (.wakeMatch port frame) s = .next (s.settled (s.wakeMatch port frame)) := rfl

theorem exec_gateCommit (q : Sess) (v : Int) (s : State) : exec (.gateCommit q v) s = .next (s.settled (s.ownWrite q (fun s => s.gateCommit q v))) := rfl

theorem exec_gateListStart (port : Nat) (s : State) : exec (.gateListStart port) s = .next (s.settled (s.gateListStart port)) := rfl

theorem exec_ptpMessageRx (port : Nat) (m : PtpMessage) (s : State) : exec (.ptpMessageRx port m) s = .next (s.settled (s.ptpMessageRx port m)) := rfl

theorem exec_ptpMessageTx (port : Nat) (k : PtpKind) (s : State) : exec (.ptpMessageTx port k) s = .next (s.settled (s.ptpMessageTx port k)) := rfl

theorem exec_ptpAnnounceTimeout (port : Nat) (s : State) : exec (.ptpAnnounceTimeout port) s = .next (s.settled (s.ptpAnnounceTimeout port)) := rfl

theorem exec_canBusOff (ctl : Nat) (s : State) : exec (.canBusOff ctl) s = .next (s.settled (s.canBusOff ctl)) := rfl

theorem exec_canRecover (q : Sess) (v : Int) (s : State) : exec (.canRecover q v) s = .next (s.settled (s.ownWrite q (fun s => s.canRecover q v))) := rfl

theorem exec_canRecoveryComplete (ctl : Nat) (s : State) : exec (.canRecoveryComplete ctl) s = .next (s.settled (s.canRecoveryComplete ctl)) := rfl

theorem exec_canFrameRx (ctl : Nat) (f : CanFrame) (drained : Nat) (s : State) : exec (.canFrameRx ctl f drained) s = .next (s.settled (s.canFrameRx ctl f drained)) := rfl

theorem exec_sdoRequest (write : Option (List Byte)) (addr : Nat) (s : State) : exec (.sdoRequest write addr) s = .next (s.settled (s.sdoRequest write addr)) := rfl

theorem exec_rpdoRx (n : Nat) (data : List Byte) (busy : Bool) (s : State) : exec (.rpdoRx n data busy) s = .next (s.settled (s.asCommand (fun s => s.rpdoRx n data busy))) := rfl

theorem exec_tpdoTx (n : Nat) (s : State) : exec (.tpdoTx n) s = .next (s.settled (s.tpdoTx n)) := rfl

theorem exec_syncRx (s : State) : exec .syncRx s = .next (s.settled (s.syncRx)) := rfl

theorem exec_canopenHeartbeatTx (s : State) : exec .canopenHeartbeatTx s = .next (s.settled (s.canopenHeartbeatTx)) := rfl

theorem exec_heartbeatConsumerTimeout (entry : Nat) (s : State) : exec (.heartbeatConsumerTimeout entry) s = .next (s.settled (s.heartbeatConsumerTimeout entry)) := rfl

theorem exec_nmtResetNode (s : State) : exec .nmtResetNode s = .next (s.settled (s.nmtResetNode)) := rfl

theorem exec_nmtResetCommunication (s : State) : exec .nmtResetCommunication s = .next (s.settled (s.nmtResetCommunication)) := rfl

theorem exec_nmtStop (s : State) : exec .nmtStop s = .next (s.settled (s.nmtStop)) := rfl

theorem exec_nmtStart (s : State) : exec .nmtStart s = .next (s.settled (s.nmtStart)) := rfl

theorem exec_nmtPreOperational (s : State) : exec .nmtPreOperational s = .next (s.settled (s.nmtPreOperational)) := rfl

theorem exec_addressClaim (got : Option Nat) (s : State) : exec (.addressClaim got) s = .next (s.settled (s.addressClaim got)) := rfl

theorem exec_sectionSetpointRx (ddi value : Nat) (s : State) : exec (.sectionSetpointRx ddi value) s = .next (s.settled (s.sectionSetpointRx ddi value)) := rfl

theorem exec_rateSetpointRx (ddi product value : Nat) (s : State) : exec (.rateSetpointRx ddi product value) s = .next (s.settled (s.rateSetpointRx ddi product value)) := rfl

theorem exec_workStateTx (s : State) : exec .workStateTx s = .next (s.settled (s.workStateTx)) := rfl

theorem exec_actualRateTx (s : State) : exec .actualRateTx s = .next (s.settled (s.actualRateTx)) := rfl

theorem exec_tcStatusTimeout (s : State) : exec .tcStatusTimeout s = .next (s.settled (s.tcStatusTimeout)) := rfl

theorem exec_ddUpload (s : State) : exec .ddUpload s = .next (s.settled (s.ddUpload)) := rfl

theorem exec_positionPgnTx (pgn : Nat) (s : State) : exec (.positionPgnTx pgn) s = .next (s.settled (s.positionPgnTx pgn)) := rfl

theorem exec_pulseEdge (input : Fin 32) (stamp : Nat) (a b : Bool) (s : State) : exec (.pulseEdge input stamp a b) s = .next (s.settled (s.pulseEdge input stamp a b)) := rfl

theorem exec_creditTick (s : State) : exec .creditTick s = .next (s.settled (s.creditTick)) := rfl

theorem exec_rateUpdate (s : State) : exec .rateUpdate s = .next (s.settled (s.rateUpdate)) := rfl

theorem exec_intervalEnd (s : State) : exec .intervalEnd s = .next (s.settled (s.intervalEnd)) := rfl

theorem exec_meterConfigWrite (q : Sess) (which : MeterField) (v : Int) (s : State) : exec (.meterConfigWrite q which v) s = .next (s.settled (s.ownWrite q (fun s => s.meterConfigWrite q which v))) := rfl

theorem exec_meterSnapshot (q : Sess) (v : Int) (s : State) : exec (.meterSnapshot q v) s = .next (s.settled (s.ownWrite q (fun s => s.meterSnapshot q v))) := rfl

theorem exec_meterClear (q : Sess) (v : Int) (s : State) : exec (.meterClear q v) s = .next (s.settled (s.ownWrite q (fun s => s.meterClear q v))) := rfl

theorem exec_vinSample (mv : Nat) (s : State) : exec (.vinSample mv) s = .next (s.settled (s.vinSample mv)) := rfl

theorem exec_vinEventNext (q : Sess) (s : State) : exec (.vinEventNext q) s = .next (s.settled (s.ownRequest q (fun s => s.vinEventNext q))) := rfl

theorem exec_profileTick (s : State) : exec .profileTick s = .next (s.settled (s.profileTick)) := rfl

theorem exec_axisEnable (q : Sess) (s : State) : exec (.axisEnable q) s = .next (s.settled (s.ownWrite q (fun s => s.axisEnable q))) := rfl

theorem exec_axisDisable (q : Sess) (s : State) : exec (.axisDisable q) s = .next (s.settled (s.ownWrite q (fun s => s.axisDisable q))) := rfl

theorem exec_aenOnDelayElapsed (axis : Nat) (s : State) : exec (.aenOnDelayElapsed axis) s = .next (s.settled (s.aenOnDelayElapsed axis)) := rfl

theorem exec_aenOffDelayElapsed (axis : Nat) (s : State) : exec (.aenOffDelayElapsed axis) s = .next (s.settled (s.aenOffDelayElapsed axis)) := rfl

theorem exec_axisModeWrite (q : Sess) (v : Int) (s : State) : exec (.axisModeWrite q v) s = .next (s.settled (s.ownWrite q (fun s => s.axisModeWrite q v))) := rfl

theorem exec_moveTarget (q : Sess) (v : Int) (s : State) : exec (.moveTarget q v) s = .next (s.settled (s.ownWrite q (fun s => s.moveTarget q v))) := rfl

theorem exec_velocityTarget (q : Sess) (v : Int) (s : State) : exec (.velocityTarget q v) s = .next (s.settled (s.ownWrite q (fun s => s.velocityTarget q v))) := rfl

theorem exec_segmentStart (q : Sess) (v : Int) (s : State) : exec (.segmentStart q v) s = .next (s.settled (s.ownWrite q (fun s => s.segmentStart q v))) := rfl

theorem exec_segmentEntryWrite (q : Sess) (data : List Byte) (s : State) : exec (.segmentEntryWrite q data) s = .next (s.settled (s.ownWrite q (fun s => s.segmentEntryWrite q data))) := rfl

theorem exec_axisStop (q : Sess) (v : Int) (s : State) : exec (.axisStop q v) s = .next (s.settled (s.ownWrite q (fun s => s.axisStop q v))) := rfl

theorem exec_axisResume (q : Sess) (v : Int) (s : State) : exec (.axisResume q v) s = .next (s.settled (s.ownWrite q (fun s => s.axisResume q v))) := rfl

theorem exec_positionPreset (q : Sess) (v : Int) (s : State) : exec (.positionPreset q v) s = .next (s.settled (s.ownWrite q (fun s => s.positionPreset q v))) := rfl

theorem exec_accelerationWrite (q : Sess) (v : Int) (s : State) : exec (.accelerationWrite q v) s = .next (s.settled (s.ownWrite q (fun s => s.accelerationWrite q v))) := rfl

theorem exec_maxVelocityWrite (q : Sess) (v : Int) (s : State) : exec (.maxVelocityWrite q v) s = .next (s.settled (s.ownWrite q (fun s => s.maxVelocityWrite q v))) := rfl

theorem exec_groupMembersWrite (q : Sess) (v : Int) (s : State) : exec (.groupMembersWrite q v) s = .next (s.settled (s.ownWrite q (fun s => s.groupMembersWrite q v))) := rfl

theorem exec_groupTarget (q : Sess) (data : List Byte) (s : State) : exec (.groupTarget q data) s = .next (s.settled (s.ownWrite q (fun s => s.groupTarget q data))) := rfl

theorem exec_groupStop (q : Sess) (v : Int) (s : State) : exec (.groupStop q v) s = .next (s.settled (s.ownWrite q (fun s => s.groupStop q v))) := rfl

theorem exec_groupAxisResume (q : Sess) (v : Int) (s : State) : exec (.groupAxisResume q v) s = .next (s.settled (s.ownWrite q (fun s => s.groupAxisResume q v))) := rfl

theorem exec_axisFault (gpio : Nat) (high : Bool) (s : State) : exec (.axisFault gpio high) s = .next (s.settled (s.axisFault gpio high)) := rfl

theorem exec_stepInEdge (input tick : Nat) (s : State) : exec (.stepInEdge input tick) s = .next (s.settled (s.stepInEdge input tick)) := rfl

theorem exec_followTimeout (axis : Nat) (s : State) : exec (.followTimeout axis) s = .next (s.settled (s.followTimeout axis)) := rfl

theorem exec_hostRead (header : List Byte) (s : State) : exec (.hostRead header) s = .next (s.settled (s.hostRead header)) := rfl

theorem exec_hostWrite (header : List Byte) (data : List Word32) (crc : BitVec 16) (s : State) : exec (.hostWrite header data crc) s = .next (s.settled (s.hostWrite header data crc)) := rfl

theorem exec_pop (header : List Byte) (cut : Option Nat) (s : State) : exec (.pop header cut) s = .next (s.settled (s.pop header cut)) := rfl

theorem exec_push (header : List Byte) (data : List Word32) (crc : BitVec 16) (s : State) : exec (.push header data crc) s = .next (s.settled (s.asCommand (fun s => s.push header data crc))) := rfl

theorem exec_pushEnd (header : List Byte) (data : List Word32) (crc : BitVec 16) (s : State) : exec (.pushEnd header data crc) s = .next (s.settled (s.asCommand (fun s => s.pushEnd header data crc))) := rfl

theorem exec_hcsNRise (unfinished : Bool) (s : State) : exec (.hcsNRise unfinished) s = .next (s.settled (s.hcsNRise unfinished)) := rfl

theorem exec_irqStatusWrite (clear raised : BitVec 9) (s : State) : exec (.irqStatusWrite clear raised) s = .next (s.settled (s.irqStatusWrite clear raised)) := rfl

theorem exec_queuePacketAbort (queue : Nat) (s : State) : exec (.queuePacketAbort queue) s = .next (s.settled (s.queuePacketAbort queue)) := rfl

theorem exec_dictRead (q : Sess) (tag base addr : Nat) (s : State) : exec (.dictRead q tag base addr) s = .next (s.settled (if s.zheoc.deposed then s else s.dictRequest q { op := 1, tag := tag, addr := addr, more := false, base := base, offset := 0, data := [], since := s.now })) := rfl

theorem exec_dictWrite (q : Sess) (tag base addr : Nat) (data : List Byte) (s : State) : exec (.dictWrite q tag base addr data) s = .next (s.settled (if s.zheoc.deposed then s else s.dictRequest q { op := 2, tag := tag, addr := addr, more := false, base := base, offset := 0, data := data, since := s.now })) := rfl

theorem exec_dictReadSegment (q : Sess) (tag base addr offset : Nat) (s : State) : exec (.dictReadSegment q tag base addr offset) s = .next (s.settled (if s.zheoc.deposed then s else s.dictRequest q { op := 3, tag := tag, addr := addr, more := false, base := base, offset := offset, data := [], since := s.now })) := rfl

theorem exec_dictWriteSegment (q : Sess) (tag base addr offset : Nat) (data : List Byte) (more : Bool) (s : State) : exec (.dictWriteSegment q tag base addr offset data more) s = .next (s.settled (if s.zheoc.deposed then s else s.dictRequest q { op := 4, tag := tag, addr := addr, more := more, base := base, offset := offset, data := data, since := s.now })) := rfl

theorem exec_dictCancel (q : Sess) (s : State) : exec (.dictCancel q) s = .next (s.settled (s.dictCancel q)) := rfl

theorem exec_dictBusyTimeout (q : Sess) (s : State) : exec (.dictBusyTimeout q) s = .next (s.settled (s.dictBusyTimeout q)) := rfl

theorem exec_dictRequestApply (q : Sess) (s : State) : exec (.dictRequestApply q) s = .next (s.settled (if s.zheoc.deposed then s else (s.noteWrite q).dictRequestApply q)) := rfl

theorem exec_storeCommit (s : State) : exec .storeCommit s = .next (s.settled (s.storeCommit)) := rfl

theorem exec_storeParameters (q : Sess) (sub : Nat) (signature : Nat) (s : State) : exec (.storeParameters q sub signature) s = .next (s.settled (s.ownWrite q (fun s => s.storeParameters q sub signature))) := rfl

theorem exec_restoreDefaultParameters (q : Sess) (sub : Nat) (signature : Nat) (s : State) : exec (.restoreDefaultParameters q sub signature) s = .next (s.settled (s.ownWrite q (fun s => s.restoreDefaultParameters q sub signature))) := rfl

theorem exec_accessChallenge (q : Sess) (random : List Byte) (s : State) : exec (.accessChallenge q random) s = .next (s.settled (s.ownWrite q (fun s => s.accessChallenge q random))) := rfl

theorem exec_accessResponse (q : Sess) (data : List Byte) (s : State) : exec (.accessResponse q data) s = .next (s.settled (s.ownWrite q (fun s => s.accessResponse q data))) := rfl

theorem exec_accessDrop (q : Sess) (v : Int) (s : State) : exec (.accessDrop q v) s = .next (s.settled (s.ownWrite q (fun s => s.accessDrop q v))) := rfl

theorem exec_accessLockoutEnd (q : Sess) (s : State) : exec (.accessLockoutEnd q) s = .next (s.settled (s.accessLockoutEnd q)) := rfl

theorem exec_sessionTimeout (q : Sess) (s : State) : exec (.sessionTimeout q) s = .next (s.settled (s.sessionTimeout q)) := rfl

theorem exec_tcpConnect (port tcp : Nat) (s : State) : exec (.tcpConnect port tcp) s = .next (s.settled (s.asCommand (fun s => s.tcpConnect port tcp))) := rfl

theorem exec_tcpClose (n : Fin 4) (s : State) : exec (.tcpClose n) s = .next (s.settled (s.asCommand (fun s => s.tcpClose n))) := rfl

theorem exec_tunnelRequestRx (origin : AccessLevel) (sec : Nat) (frames : List (List Byte)) (s : State) : exec (.tunnelRequestRx origin sec frames) s = .next (s.settled (s.asInput (fun s => s.tunnelRequestRx origin sec frames))) := rfl

theorem exec_tunnelResponseRx (frames : List (List Byte)) (s : State) : exec (.tunnelResponseRx frames) s = .next (s.settled (s.asInput (fun s => s.tunnelResponseRx frames))) := rfl

theorem exec_remoteTimeout (slot : Nat) (s : State) : exec (.remoteTimeout slot) s = .next (s.settled (s.remoteTimeout slot)) := rfl

theorem exec_journalWrite (kind : Nat) (s : State) : exec (.journalWrite kind) s = .next (s.settled (s.journalWrite kind)) := rfl

theorem exec_mramScrub (corrected uncorrectable : Nat) (badKeyCopies : List (Nat × Nat)) (s : State) : exec (.mramScrub corrected uncorrectable badKeyCopies) s = .next (s.settled (s.mramScrub corrected uncorrectable badKeyCopies)) := rfl

theorem exec_nandScrub (found : List (Nat × Nat)) (s : State) : exec (.nandScrub found) s = .next (s.settled (s.nandScrub found)) := rfl

theorem exec_nandRefresh (block target : Nat) (s : State) : exec (.nandRefresh block target) s = .next (s.settled (s.nandRefresh block target)) := rfl

theorem exec_wearLevelMove (block target : Nat) (s : State) : exec (.wearLevelMove block target) s = .next (s.settled (s.wearLevelMove block target)) := rfl

theorem exec_nandBlockRetire (block spare : Nat) (failed : Bool) (s : State) : exec (.nandBlockRetire block spare failed) s = .next (s.settled (s.nandBlockRetire block spare failed)) := rfl

theorem exec_asAppliedExportedWrite (q : Sess) (v : Int) (s : State) : exec (.asAppliedExportedWrite q v) s = .next (s.settled (s.ownWrite q (fun s => s.asAppliedExportedWrite q v))) := rfl

theorem exec_tileDamaged (map tile : Nat) (s : State) : exec (.tileDamaged map tile) s = .next (s.settled (s.tileDamaged map tile)) := rfl

theorem exec_tileRebuildComplete (map tile : Nat) (s : State) : exec (.tileRebuildComplete map tile) s = .next (s.settled (s.tileRebuildComplete map tile)) := rfl

theorem exec_milestoneSample (item load : Nat) (s : State) : exec (.milestoneSample item load) s = .next (s.settled (s.milestoneSampleRow item load)) := rfl

theorem exec_milestoneHomeWrite (s : State) : exec .milestoneHomeWrite s = .next (s.settled (s.milestoneHomeWrite)) := rfl

theorem exec_milestoneFreeze (q : Sess) (s : State) : exec (.milestoneFreeze q) s = .next (s.settled (s.ownWrite q (fun s => s.milestoneFreeze q))) := rfl

theorem exec_milestoneUnfreeze (q : Sess) (s : State) : exec (.milestoneUnfreeze q) s = .next (s.settled (s.ownWrite q (fun s => s.milestoneUnfreeze q))) := rfl

theorem exec_milestoneFreezeExpiry (s : State) : exec .milestoneFreezeExpiry s = .next (s.settled (s.milestoneFreezeExpiry)) := rfl

theorem exec_milestoneClear (q : Sess) (v : Int) (s : State) : exec (.milestoneClear q v) s = .next (s.settled (s.ownWrite q (fun s => s.milestoneClear q v))) := rfl

theorem exec_keyImportSecret (q : Sess) (data : List Byte) (s : State) : exec (.keyImportSecret q data) s = .next (s.settled (s.ownWrite q (fun s => s.keyImportSecret q data))) := rfl

theorem exec_keyImportPublic (q : Sess) (data : List Byte) (s : State) : exec (.keyImportPublic q data) s = .next (s.settled (s.ownWrite q (fun s => s.keyImportPublic q data))) := rfl

theorem exec_keyErase (q : Sess) (v : Int) (s : State) : exec (.keyErase q v) s = .next (s.settled (s.ownWrite q (fun s => s.keyErase q v))) := rfl

theorem exec_keyRegisterLoad (slot : Nat) (ok : Bool) (s : State) : exec (.keyRegisterLoad slot ok) s = .next (s.settled (s.keyRegisterLoad slot ok)) := rfl

theorem exec_uartImageBlock (block : List Byte) (s : State) : exec (.uartImageBlock block) s = .next (s.settled (s.uartImageBlock block)) := rfl

theorem exec_updateBegin (q : Sess) (v : Int) (s : State) : exec (.updateBegin q v) s = .next (s.settled (s.ownWrite q (fun s => s.updateBegin q v))) := rfl

theorem exec_updateData (q : Sess) (data : List Byte) (s : State) : exec (.updateData q data) s = .next (s.settled (s.ownWrite q (fun s => s.updateData q data))) := rfl

theorem exec_updateVerify (q : Sess) (v : Int) (s : State) : exec (.updateVerify q v) s = .next (s.settled (s.ownWrite q (fun s => s.updateVerify q v))) := rfl

theorem exec_trialConfirm (s : State) : exec .trialConfirm s = .next (s.settled (s.trialConfirm)) := rfl

theorem exec_trialTimeout (s : State) : exec .trialTimeout s = .next (s.settled (s.trialTimeout)) := rfl

theorem exec_activationLocal (q : Sess) (s : State) : exec (.activationLocal q) s = .next (s.settled (s.ownWrite q (fun s => s.activationLocal q))) := rfl

theorem exec_activationFleet (q : Sess) (s : State) : exec (.activationFleet q) s = .next (s.settled (s.ownWrite q (fun s => s.activationFleet q))) := rfl

theorem exec_activationCancel (q : Sess) (s : State) : exec (.activationCancel q) s = .next (s.settled (s.ownWrite q (fun s => s.activationCancel q))) := rfl

theorem exec_activationOfferRx (source : Uplink) (s : State) : exec (.activationOfferRx source) s = .next (s.settled (s.asInput (fun s => s.activationOfferRx source))) := rfl

theorem exec_activationAnswerRx (source : Uplink) (s : State) : exec (.activationAnswerRx source) s = .next (s.settled (s.asInput (fun s => s.activationAnswerRx source))) := rfl

theorem exec_activationCommitPoint (s : State) : exec .activationCommitPoint s = .next (s.settled (s.activationCommitPoint)) := rfl

theorem exec_activationCommitRx (source : Uplink) (s : State) : exec (.activationCommitRx source) s = .next (s.settled (s.asInput (fun s => s.activationCommitRx source))) := rfl

theorem exec_activationCancelRx (source : Uplink) (s : State) : exec (.activationCancelRx source) s = .next (s.settled (s.asInput (fun s => s.activationCancelRx source))) := rfl

theorem exec_activationAnswerDeadline (s : State) : exec .activationAnswerDeadline s = .next (s.settled (s.activationAnswerDeadline)) := rfl

theorem exec_activationTime (s : State) : exec .activationTime s = .next (s.settled (s.activationTime)) := rfl

theorem exec_linkTrained (s : State) : exec .linkTrained s = .next (s.settled (s.linkTrained)) := rfl

theorem exec_laneDrop (lane : Nat) (s : State) : exec (.laneDrop lane) s = .next (s.settled (s.laneDrop lane)) := rfl

theorem exec_laneRejoin (lane : Nat) (s : State) : exec (.laneRejoin lane) s = .next (s.settled (s.laneRejoin lane)) := rfl

theorem exec_zlFrameRx (f : ZlFrame) (s : State) : exec (.zlFrameRx f) s = .next (s.settled (s.zlFrameRx f)) := rfl

theorem exec_zlRetransmitTimeout (crcFailed : Bool) (s : State) : exec (.zlRetransmitTimeout crcFailed) s = .next (s.settled (s.zlRetransmitTimeout crcFailed)) := rfl

theorem exec_heartbeatTx (fresh : Bool) (s : State) : exec (.heartbeatTx fresh) s = .next (s.settled (s.heartbeatTx fresh)) := rfl

theorem exec_hbPulseRx (s : State) : exec .hbPulseRx s = .next (s.settled (s.hbPulseRx)) := rfl

theorem exec_healthTokenExpiry (s : State) : exec .healthTokenExpiry s = .next (s.settled (s.healthTokenExpiry)) := rfl

theorem exec_heartbeatLoss (s : State) : exec .heartbeatLoss s = .next (s.settled (s.heartbeatLoss)) := rfl

theorem exec_depose (s : State) : exec .depose s = .next (s.settled (s.depose)) := rfl

theorem exec_fence (s : State) : exec .fence s = .next (s.settled (s.fence)) := rfl

theorem exec_haltOutTakeover (s : State) : exec .haltOutTakeover s = .next (s.settled (s.haltOutTakeover)) := rfl

theorem exec_partnerArbitration (foreignLow higher : Bool) (s : State) : exec (.partnerArbitration foreignLow higher) s = .next (s.settled (s.partnerArbitration foreignLow higher)) := rfl

theorem exec_dualActiveDetect (pulse higher : Bool) (s : State) : exec (.dualActiveDetect pulse higher) s = .next (s.settled (s.dualActiveDetect pulse higher)) := rfl

theorem exec_transferComplete (s : State) : exec .transferComplete s = .next (s.settled (s.transferComplete)) := rfl

theorem exec_mirroredInputRx (seq frame : Nat) (x : MirrorInput) (s : State) : exec (.mirroredInputRx seq frame x) s = .next (s.settled (s.mirroredInputRx seq frame x)) := rfl

theorem exec_mirrorTimeout (s : State) : exec .mirrorTimeout s = .next (s.settled (s.mirrorTimeout)) := rfl

theorem exec_frameDigest (s : State) : exec .frameDigest s = .next (s.settled (s.frameDigest)) := rfl

theorem exec_roleSwitch (s : State) : exec .roleSwitch s = .next (s.settled (s.roleSwitch)) := rfl

theorem exec_dieTemperatureSample (milliC : Int) (s : State) (h : milliC ≤ 140000) : exec (.dieTemperatureSample milliC) s = .next (s.settled (s.dieTemperatureSample milliC)) := if_neg (by omega)

theorem exec_workerRelayRx (head : LinkHead) (slot : Nat) (r : AirRecord) (s : State) : exec (.workerRelayRx head slot r) s = .next (s.settled (s.asInput (fun s => s.fromLink head (fun s => s.workerRelayRx slot r)))) := rfl

theorem exec_baseLinkDictResponseRx (head : LinkHead) (data : List Byte) (s : State) : exec (.baseLinkDictResponseRx head data) s = .next (s.settled (s.asInput (fun s => s.fromLink head (fun s => s.baseLinkDictResponseRx head.peer data)))) := rfl

theorem exec_tcStatusRx (s : State) : exec .tcStatusRx s = .next (s.settled (s.tcStatusRx)) := rfl

theorem exec_canErrorPassive (ctl tec : Nat) (s : State) : exec (.canErrorPassive ctl tec) s = .next (s.settled (s.canErrorPassive ctl tec)) := rfl

theorem exec_ntripConnectionLost (s : State) : exec .ntripConnectionLost s = .next (s.settled (s.ntripConnectionLost)) := rfl

theorem exec_rtcmTcpConnect (port : Nat) (s : State) : exec (.rtcmTcpConnect port) s = .next (s.settled (s.asInput (fun s => s.rtcmTcpConnect port))) := rfl

theorem exec_faultInputDeassert (gpio : Nat) (high : Bool) (s : State) : exec (.faultInputDeassert gpio high) s = .next (s.settled (s.faultInputDeassert gpio high)) := rfl

end Sys2Proof.Machine
end

