-- ==== Sys2Proof/Laws/FrameBytes.lean ====
section
/-!
SUPPORT. Laws/FrameBytes.lean: the bytes of an Adetre frame read back as the frame (R321, R322), and a protected body reads back as
it was (R323).
-/
namespace Sys2Proof.Machine

theorem leBytes_length (n x : Nat) : (leBytes n x).length = n := by
  induction n generalizing x with
  | zero => rfl
  | succ n ih => simp [leBytes, ih]

theorem leNat_leBytes (n x : Nat) : leNat (leBytes n x) = x % 256 ^ n := by
  induction n generalizing x with
  | zero => simp [leBytes, leNat, Nat.mod_one]
  | succ n ih =>
    have h : (BitVec.ofNat 8 x).toNat = x % 256 := BitVec.toNat_ofNat x 8
    have e : leNat (leBytes (n + 1) x) = (BitVec.ofNat 8 x).toNat + 256 * leNat (leBytes n (x / 256)) := rfl
    rw [e, h, ih, Nat.pow_succ, Nat.mul_comm (256 ^ n) 256, Nat.mod_mul]

theorem beNat_append (l : List Byte) (b : Byte) : beNat (l ++ [b]) = beNat l * 256 + b.toNat := by simp [beNat]

theorem beNat_reverse (l : List Byte) : beNat l.reverse = leNat l := by
  induction l with
  | nil => rfl
  | cons b t ih => rw [List.reverse_cons, beNat_append, ih, leNat]; omega

theorem beNat_beBytes (n x : Nat) : beNat (beBytes n x) = x % 256 ^ n := by rw [beBytes, beNat_reverse, leNat_leBytes]

theorem slice_mid (a m z : List Byte) {off n : Nat} (ha : a.length = off) (hm : m.length = n) : slice (a ++ m ++ z) off n = m := by
  subst ha; subst hm
  simp [slice]

theorem slice_length (b : List Byte) (off n : Nat) : (slice b off n).length = n := by
  simp only [slice, List.length_append, List.length_replicate, List.length_take, List.length_drop]
  omega

theorem fieldU_mid (a z : List Byte) (off n x : Nat) (ha : a.length = off) (hx : x < 256 ^ n) : fieldU (a ++ leBytes n x ++ z) off n = x := by
  rw [fieldU, slice_mid a _ z ha (leBytes_length n x), leNat_leBytes, Nat.mod_eq_of_lt hx]

/-- A record closed with its CRC-32 passes the check (R14). -/
theorem crc32Ok_withCrc32 (b : List Byte) : crc32Ok (withCrc32 b) = true := by
  have h : (crc32 b).toNat < 4294967296 := (crc32 b).isLt
  simp [crc32Ok, withCrc32, leBytes_length, leNat_leBytes, Nat.mod_eq_of_lt h]

theorem crc4_lt (x : Nat) : crc4 x < 16 := by
  have h : ∀ (l : List Nat) (c : Nat), c < 16 → l.foldl (fun (c : Nat) k =>
      let top := bit c 3 != bit x (11 - k)
      (c * 2 % 16) ^^^ (if top then 3 else 0)) c < 16 := by
    intro l
    induction l with
    | nil => intro c hc; exact hc
    | cons k t ih =>
      intro c _
      refine ih _ ?_
      have a : c * 2 % 16 < 2 ^ 4 := Nat.mod_lt _ (by decide)
      have b : (if (bit c 3 != bit x (11 - k)) = true then 3 else 0) < 2 ^ 4 := by split <;> decide
      exact Nat.xor_lt_two_pow a b
  exact h _ 15 (by decide)

theorem bit_flag (b : Bool) (n : Nat) : bit (flag b n) n = b := by cases b <;> simp [bit, flag]

theorem phy_length (f : AirFrame) : f.phy.length = 2 := by simp [AirFrame.phy, leBytes_length]
theorem mac_length (f : AirFrame) (t : Nat) : (f.mac t).length = 6 := by simp [AirFrame.mac, leBytes_length]

/-- The head of a frame as a number fits its two bytes. -/
theorem head_lt (n : Nat) (h : n ≤ 255) : n + 10 + crc4 (n + 10) * 4096 < 256 ^ 2 := by
  have := crc4_lt (n + 10)
  omega

theorem ctrl_lt (f : AirFrame) (t : Nat) : f.ctrl t < 256 ^ 1 := by
  simp only [AirFrame.ctrl, flag]
  split <;> omega

theorem netByte_lt (f : AirFrame) : f.netByte < 256 ^ 1 := by
  simp only [AirFrame.netByte, flag]
  split <;> split <;> omega

/-- The bytes of a frame before its CRC. -/
def AirFrame.sealedPart (f : AirFrame) : List Byte := f.phy ++ f.mac f.ttl ++ f.body ++ f.mic

theorem bytes_eq (f : AirFrame) : f.bytes = f.sealedPart ++ beBytes 2 (crc16 f.sealedPart).toNat := rfl

theorem sealedPart_length (f : AirFrame) (h : f.wf) : f.sealedPart.length = f.body.length + 12 := by
  simp [AirFrame.sealedPart, phy_length, mac_length, h.2.2.2.2.2.2.2]
  omega

theorem fieldU_at (a z : List Byte) (off n x : Nat) (l : List Byte) (hl : l = a ++ (leBytes n x ++ z)) (ha : a.length = off) (hx : x < 256 ^ n) :
    fieldU l off n = x := by
  subst hl
  rw [← List.append_assoc]
  exact fieldU_mid a z off n x ha hx

section
variable (f : AirFrame) (h : f.wf)

theorem head_field : fieldU f.bytes 0 2 = f.body.length + 10 + crc4 (f.body.length + 10) * 4096 ∨ ¬ f.wf := by
  by_cases h : f.wf
  · refine .inl (fieldU_at [] (f.mac f.ttl ++ f.body ++ f.mic ++ beBytes 2 (crc16 f.sealedPart).toNat) 0 2 _ _ ?_ rfl (head_lt _ h.2.2.2.2.2.2.1))
    simp [bytes_eq, AirFrame.sealedPart, AirFrame.phy]
  · exact .inr h

include h

theorem head_eq : fieldU f.bytes 0 2 = f.body.length + 10 + crc4 (f.body.length + 10) * 4096 := (head_field f).resolve_right (fun x => x h)

theorem len_eq : frameLen f.bytes = f.body.length + 10 := by
  have := h.2.2.2.2.2.2.1
  simp only [frameLen, head_eq f h, bits]
  omega

theorem hcsOk_bytes : hcsOk f.bytes = true := by
  have hb := h.2.2.2.2.2.2.1
  have hc := crc4_lt (f.body.length + 10)
  have h1 : bits (fieldU f.bytes 0 2) 0 12 = f.body.length + 10 := by rw [head_eq f h, bits]; omega
  have h2 : bits (fieldU f.bytes 0 2) 12 4 = crc4 (f.body.length + 10) := by rw [head_eq f h, bits]; omega
  simp only [hcsOk, h1, h2, len_eq f h]
  simp
  omega

theorem bytes_length : f.bytes.length = f.body.length + 14 := by
  rw [bytes_eq, List.length_append, sealedPart_length f h, beBytes, List.length_reverse, leBytes_length]

theorem frameCrcOk_bytes : frameCrcOk f.bytes = true := by
  have hp := sealedPart_length f h
  have hl : f.bytes.length - 2 = f.sealedPart.length := by rw [bytes_length f h, hp]; omega
  have hc : (crc16 f.sealedPart).toNat < 65536 := (crc16 f.sealedPart).isLt
  simp only [frameCrcOk, len_eq f h, hl, Bool.and_eq_true, decide_eq_true_eq]
  refine ⟨bytes_length f h, ?_⟩
  rw [bytes_eq, List.drop_left, List.take_left, beNat_beBytes]
  exact Nat.mod_eq_of_lt hc

theorem parseFrame_bytes : parseFrame f.bytes = f := by
  obtain ⟨t1, t2, t3, t4, t5, t6, t7, t8⟩ := id h
  have c : fieldU f.bytes 2 1 = f.ctrl f.ttl := fieldU_at f.phy
    (leBytes 1 f.src ++ (leBytes 1 f.dst ++ (leBytes 1 f.netByte ++ (leBytes 2 f.fseq ++ (f.body ++ (f.mic ++ beBytes 2 (crc16 f.sealedPart).toNat))))))
    2 1 _ _ (by simp [bytes_eq, AirFrame.sealedPart, AirFrame.mac]) (phy_length f) (ctrl_lt f _)
  have src : fieldU f.bytes 3 1 = f.src := fieldU_at (f.phy ++ leBytes 1 (f.ctrl f.ttl))
    (leBytes 1 f.dst ++ (leBytes 1 f.netByte ++ (leBytes 2 f.fseq ++ (f.body ++ (f.mic ++ beBytes 2 (crc16 f.sealedPart).toNat)))))
    3 1 _ _ (by simp [bytes_eq, AirFrame.sealedPart, AirFrame.mac]) (by simp [phy_length, leBytes_length]) t3
  have dst : fieldU f.bytes 4 1 = f.dst := fieldU_at (f.phy ++ leBytes 1 (f.ctrl f.ttl) ++ leBytes 1 f.src)
    (leBytes 1 f.netByte ++ (leBytes 2 f.fseq ++ (f.body ++ (f.mic ++ beBytes 2 (crc16 f.sealedPart).toNat))))
    4 1 _ _ (by simp [bytes_eq, AirFrame.sealedPart, AirFrame.mac]) (by simp [phy_length, leBytes_length]) t4
  have n : fieldU f.bytes 5 1 = f.netByte := fieldU_at (f.phy ++ leBytes 1 (f.ctrl f.ttl) ++ leBytes 1 f.src ++ leBytes 1 f.dst)
    (leBytes 2 f.fseq ++ (f.body ++ (f.mic ++ beBytes 2 (crc16 f.sealedPart).toNat)))
    5 1 _ _ (by simp [bytes_eq, AirFrame.sealedPart, AirFrame.mac]) (by simp [phy_length, leBytes_length]) (netByte_lt f)
  have sq : fieldU f.bytes 6 2 = f.fseq := fieldU_at (f.phy ++ leBytes 1 (f.ctrl f.ttl) ++ leBytes 1 f.src ++ leBytes 1 f.dst ++ leBytes 1 f.netByte)
    (f.body ++ (f.mic ++ beBytes 2 (crc16 f.sealedPart).toNat))
    6 2 _ _ (by simp [bytes_eq, AirFrame.sealedPart, AirFrame.mac]) (by simp [phy_length, leBytes_length]) t6
  have hb : (f.bytes.drop 8).take (f.body.length + 10 - 10) = f.body := by
    have e : f.bytes = (f.phy ++ f.mac f.ttl) ++ (f.body ++ (f.mic ++ beBytes 2 (crc16 f.sealedPart).toNat)) := by
      simp [bytes_eq, AirFrame.sealedPart]
    have l : (f.phy ++ f.mac f.ttl).length = 8 := by simp [phy_length, mac_length]
    rw [e, ← l, List.drop_left]
    simp
  have hm : (f.bytes.drop (f.body.length + 10 - 2)).take 4 = f.mic := by
    have e : f.bytes = (f.phy ++ f.mac f.ttl ++ f.body) ++ (f.mic ++ beBytes 2 (crc16 f.sealedPart).toNat) := by
      simp [bytes_eq, AirFrame.sealedPart]
    have l : (f.phy ++ f.mac f.ttl ++ f.body).length = f.body.length + 10 - 2 := by simp [phy_length, mac_length]; omega
    rw [e, ← l, List.drop_left, ← t8]
    simp
  have b1 : bits (f.ctrl f.ttl) 0 4 = f.type := by simp only [bits, AirFrame.ctrl, flag]; split <;> omega
  have b2 : bits (f.ctrl f.ttl) 4 3 = f.ttl := by simp only [bits, AirFrame.ctrl, flag]; split <;> omega
  have b3 : bit (f.ctrl f.ttl) 7 = f.flood := by
    simp only [bit, AirFrame.ctrl, flag, Nat.testBit_eq_decide_div_mod_eq]
    cases f.flood <;> simp <;> omega
  have n1 : bits f.netByte 0 4 = f.net := by simp only [bits, AirFrame.netByte, flag]; split <;> split <;> omega
  have n2 : bit f.netByte 4 = f.first := by
    simp only [bit, AirFrame.netByte, flag, Nat.testBit_eq_decide_div_mod_eq]
    cases f.first <;> cases f.last <;> simp <;> omega
  have n3 : bit f.netByte 5 = f.last := by
    simp only [bit, AirFrame.netByte, flag, Nat.testBit_eq_decide_div_mod_eq]
    cases f.first <;> cases f.last <;> simp <;> omega
  simp only [parseFrame, len_eq f h, c, n, src, dst, sq, hb, hm, b1, b2, b3, n1, n2, n3]

end

/-! ### Protection (R323, R324) -/

theorem xorBytes_length (a b : List Byte) (h : b.length = a.length) : (xorBytes a b).length = a.length := by simp [xorBytes, h]

theorem xorBytes_self (a b : List Byte) (h : b.length = a.length) : xorBytes (xorBytes a b) b = a := by
  induction a generalizing b with
  | nil => simp [xorBytes]
  | cons x t ih =>
    cases b with
    | nil => simp at h
    | cons y u =>
      have ih := ih u (by simpa using h)
      simp only [xorBytes, List.zip_cons_cons, List.map_cons] at ih ⊢
      rw [ih, BitVec.xor_assoc, BitVec.xor_self, BitVec.xor_zero]

theorem cipherBody_length (key : List Byte) (fleet : Nat) (f : AirFrame) (k : Nat) : (cipherBody key fleet f k).length = f.body.length :=
  xorBytes_length _ _ (slice_length _ _ _)

theorem frameMic_length (key : List Byte) (fleet : Nat) (f : AirFrame) (k : Nat) : (frameMic key fleet f k).length = 4 := slice_length _ _ _

theorem sealFrame_wf (key : List Byte) (fleet : Nat) (f : AirFrame) (k : Nat) (h : f.wf) : (sealFrame key fleet f k).wf := by
  obtain ⟨t1, t2, t3, t4, t5, t6, t7, _⟩ := h
  refine ⟨t1, t2, t3, t4, t5, t6, ?_, frameMic_length _ _ _ _⟩
  simp only [sealFrame]
  split
  · exact t7
  · rw [cipherBody_length]; exact t7

/-- What a sealed frame carries opens under the same key in the same interval. -/
theorem openFrame_seal (key : List Byte) (fleet : Nat) (f : AirFrame) (k : Nat) :
    openFrame key fleet (sealFrame key fleet f k) k = some f.body := by
  by_cases hc : clearBody f = true
  · have hs : clearBody (sealFrame key fleet f k) = true := hc
    have e : (sealFrame key fleet f k) = { f with mic := frameMic key fleet f k } := by simp [sealFrame, hc]
    simp only [openFrame, hs, if_true]
    rw [e]
    simp only [frameMic, AirFrame.phy, AirFrame.mac, clearBody, frameNonce, AirFrame.netByte, AirFrame.ctrl]
    exact if_pos rfl
  · have hc : clearBody f = false := by simpa using hc
    have hs : clearBody (sealFrame key fleet f k) = false := hc
    have e : (sealFrame key fleet f k) = { f with mic := frameMic key fleet f k, body := cipherBody key fleet f k } := by simp [sealFrame, hc]
    have n : frameNonce fleet (sealFrame key fleet f k) k = frameNonce fleet f k := rfl
    have b : cipherBody key fleet (sealFrame key fleet f k) k = f.body := by
      have hb : (sealFrame key fleet f k).body = cipherBody key fleet f k := by rw [e]
      rw [cipherBody, n, hb, cipherBody_length, cipherBody]
      exact xorBytes_self _ _ (slice_length _ _ _)
    simp only [openFrame, hs, Bool.false_eq_true, if_false, b]
    rw [e]
    simp only [frameMic, AirFrame.phy, AirFrame.mac, clearBody, frameNonce, AirFrame.netByte, AirFrame.ctrl]
    exact if_pos rfl

/-- A frame that a peer with the same key sealed in this interval is received: it is noted as the last of its source, and its body is
that of before. -/
theorem receive_sealed (s : State) (f : AirFrame) (key : List Byte) (h : f.wf) (ht : f.type < 13) (h6 : f.type ≠ 6) (h7 : f.type ≠ 7)
    (hk : s.frameKey f = some key) (hl : laterThan (Tab.get none s.radio.accepted f.src) s.interval f.fseq = true) :
    s.receive (sealFrame key s.netFleet f s.interval).bytes =
      ((s.updRadio (fun r => { r with accepted := Tab.put none r.accepted f.src (some (s.interval, f.fseq)) })).noteInput,
       some { f with mic := frameMic key s.netFleet f s.interval }) := by
  have hw := sealFrame_wf key s.netFleet f s.interval h
  have hp := parseFrame_bytes _ hw
  have hkey : s.frameKey (sealFrame key s.netFleet f s.interval) = some key := hk
  have ho : firstOpen key s.netFleet (sealFrame key s.netFleet f s.interval) (s.tryIntervals (sealFrame key s.netFleet f s.interval)) =
      some (s.interval, f.body) := by
    have hi : ∃ l, s.tryIntervals (sealFrame key s.netFleet f s.interval) = s.interval :: l := by
      simp only [State.tryIntervals]
      split
      · rw [List.range_succ_eq_map]; exact ⟨_, rfl⟩
      · exact ⟨_, rfl⟩
    obtain ⟨l, hi⟩ := hi
    rw [hi, firstOpen, openFrame_seal]
  have t1 : ¬ 0xD ≤ (sealFrame key s.netFleet f s.interval).type := by simp [sealFrame]; omega
  have t2 : ¬ ((sealFrame key s.netFleet f s.interval).type = 6 ∨ (sealFrame key s.netFleet f s.interval).type = 7) := by simp [sealFrame, h6, h7]
  have hl' : laterThan (Tab.get none s.radio.accepted (sealFrame key s.netFleet f s.interval).src) s.interval
    (sealFrame key s.netFleet f s.interval).fseq = true := hl
  simp only [State.receive, hcsOk_bytes _ hw, frameCrcOk_bytes _ hw, hp, Bool.not_true, Bool.or_self, Bool.false_eq_true, if_false, t1, t2, hkey, ho, hl',
    if_true]
  rfl

end Sys2Proof.Machine
end

