-- ==== Sys2Proof/Laws/Power.lean ====
section
/-!
SUPPORT. Laws/Power.lean: what a cut run and the beginning of a save change at most.
-/
namespace Sys2Proof.Machine

theorem State.clearTarget_frame (s : State) : State.changesOnly [.store] s (s.clearTarget) :=
  changesOnly_ite (changesOnly_refl _ s) (s.updStore_frame _)

@[simp] theorem State.clearTarget_mode (s : State) : (s.clearTarget).mode = s.mode := (State.clearTarget_frame s .mode rfl).symm
@[simp] theorem State.clearTarget_boot (s : State) : (s.clearTarget).boot = s.boot := (State.clearTarget_frame s .boot rfl).symm
@[simp] theorem State.clearTarget_outputs (s : State) : (s.clearTarget).outputs = s.outputs := (State.clearTarget_frame s .outputs rfl).symm
@[simp] theorem State.clearTarget_power (s : State) : (s.clearTarget).power = s.power := (State.clearTarget_frame s .power rfl).symm
@[simp] theorem State.clearTarget_clk (s : State) : (s.clearTarget).clk = s.clk := (State.clearTarget_frame s .clk rfl).symm
@[simp] theorem State.clearTarget_roundabout (s : State) : (s.clearTarget).roundabout = s.roundabout := (State.clearTarget_frame s .roundabout rfl).symm
@[simp] theorem State.clearTarget_queues (s : State) : (s.clearTarget).queues = s.queues := (State.clearTarget_frame s .queues rfl).symm
@[simp] theorem State.clearTarget_host (s : State) : (s.clearTarget).host = s.host := (State.clearTarget_frame s .host rfl).symm
@[simp] theorem State.clearTarget_mbox (s : State) : (s.clearTarget).mbox = s.mbox := (State.clearTarget_frame s .mbox rfl).symm
@[simp] theorem State.clearTarget_sessions (s : State) : (s.clearTarget).sessions = s.sessions := (State.clearTarget_frame s .sessions rfl).symm
@[simp] theorem State.clearTarget_remotes (s : State) : (s.clearTarget).remotes = s.remotes := (State.clearTarget_frame s .remotes rfl).symm
@[simp] theorem State.clearTarget_gnss (s : State) : (s.clearTarget).gnss = s.gnss := (State.clearTarget_frame s .gnss rfl).symm
@[simp] theorem State.clearTarget_obs (s : State) : (s.clearTarget).obs = s.obs := (State.clearTarget_frame s .obs rfl).symm
@[simp] theorem State.clearTarget_baseRef (s : State) : (s.clearTarget).baseRef = s.baseRef := (State.clearTarget_frame s .baseRef rfl).symm
@[simp] theorem State.clearTarget_nav (s : State) : (s.clearTarget).nav = s.nav := (State.clearTarget_frame s .nav rfl).symm
@[simp] theorem State.clearTarget_blv (s : State) : (s.clearTarget).blv = s.blv := (State.clearTarget_frame s .blv rfl).symm
@[simp] theorem State.clearTarget_kerb (s : State) : (s.clearTarget).kerb = s.kerb := (State.clearTarget_frame s .kerb rfl).symm
@[simp] theorem State.clearTarget_cover (s : State) : (s.clearTarget).cover = s.cover := (State.clearTarget_frame s .cover rfl).symm
@[simp] theorem State.clearTarget_cache (s : State) : (s.clearTarget).cache = s.cache := (State.clearTarget_frame s .cache rfl).symm
@[simp] theorem State.clearTarget_fleet (s : State) : (s.clearTarget).fleet = s.fleet := (State.clearTarget_frame s .fleet rfl).symm
@[simp] theorem State.clearTarget_radio (s : State) : (s.clearTarget).radio = s.radio := (State.clearTarget_frame s .radio rfl).symm
@[simp] theorem State.clearTarget_crier (s : State) : (s.clearTarget).crier = s.crier := (State.clearTarget_frame s .crier rfl).symm
@[simp] theorem State.clearTarget_gate (s : State) : (s.clearTarget).gate = s.gate := (State.clearTarget_frame s .gate rfl).symm
@[simp] theorem State.clearTarget_tram (s : State) : (s.clearTarget).tram = s.tram := (State.clearTarget_frame s .tram rfl).symm
@[simp] theorem State.clearTarget_net (s : State) : (s.clearTarget).net = s.net := (State.clearTarget_frame s .net rfl).symm
@[simp] theorem State.clearTarget_meter (s : State) : (s.clearTarget).meter = s.meter := (State.clearTarget_frame s .meter rfl).symm
@[simp] theorem State.clearTarget_zheoc (s : State) : (s.clearTarget).zheoc = s.zheoc := (State.clearTarget_frame s .zheoc rfl).symm
@[simp] theorem State.clearTarget_milestone (s : State) : (s.clearTarget).milestone = s.milestone := (State.clearTarget_frame s .milestone rfl).symm
@[simp] theorem State.clearTarget_dict (s : State) : (s.clearTarget).dict = s.dict := (State.clearTarget_frame s .dict rfl).symm
@[simp] theorem State.clearTarget_bootDict (s : State) : (s.clearTarget).bootDict = s.bootDict := (State.clearTarget_frame s .bootDict rfl).symm
@[simp] theorem State.clearTarget_octets (s : State) : (s.clearTarget).octets = s.octets := (State.clearTarget_frame s .octets rfl).symm
@[simp] theorem State.clearTarget_periods (s : State) : (s.clearTarget).periods = s.periods := (State.clearTarget_frame s .periods rfl).symm
@[simp] theorem State.clearTarget_draws (s : State) : (s.clearTarget).draws = s.draws := (State.clearTarget_frame s .draws rfl).symm
@[simp] theorem State.clearTarget_pending (s : State) : (s.clearTarget).pending = s.pending := (State.clearTarget_frame s .pending rfl).symm

theorem State.noteSaveStart_frame (s : State) : State.changesOnly [.power] s (s.noteSaveStart) :=
  only_power s _

@[simp] theorem State.noteSaveStart_mode (s : State) : (s.noteSaveStart).mode = s.mode := (State.noteSaveStart_frame s .mode rfl).symm
@[simp] theorem State.noteSaveStart_boot (s : State) : (s.noteSaveStart).boot = s.boot := (State.noteSaveStart_frame s .boot rfl).symm
@[simp] theorem State.noteSaveStart_outputs (s : State) : (s.noteSaveStart).outputs = s.outputs := (State.noteSaveStart_frame s .outputs rfl).symm
@[simp] theorem State.noteSaveStart_clk (s : State) : (s.noteSaveStart).clk = s.clk := (State.noteSaveStart_frame s .clk rfl).symm
@[simp] theorem State.noteSaveStart_roundabout (s : State) : (s.noteSaveStart).roundabout = s.roundabout := (State.noteSaveStart_frame s .roundabout rfl).symm
@[simp] theorem State.noteSaveStart_queues (s : State) : (s.noteSaveStart).queues = s.queues := (State.noteSaveStart_frame s .queues rfl).symm
@[simp] theorem State.noteSaveStart_host (s : State) : (s.noteSaveStart).host = s.host := (State.noteSaveStart_frame s .host rfl).symm
@[simp] theorem State.noteSaveStart_mbox (s : State) : (s.noteSaveStart).mbox = s.mbox := (State.noteSaveStart_frame s .mbox rfl).symm
@[simp] theorem State.noteSaveStart_sessions (s : State) : (s.noteSaveStart).sessions = s.sessions := (State.noteSaveStart_frame s .sessions rfl).symm
@[simp] theorem State.noteSaveStart_remotes (s : State) : (s.noteSaveStart).remotes = s.remotes := (State.noteSaveStart_frame s .remotes rfl).symm
@[simp] theorem State.noteSaveStart_gnss (s : State) : (s.noteSaveStart).gnss = s.gnss := (State.noteSaveStart_frame s .gnss rfl).symm
@[simp] theorem State.noteSaveStart_obs (s : State) : (s.noteSaveStart).obs = s.obs := (State.noteSaveStart_frame s .obs rfl).symm
@[simp] theorem State.noteSaveStart_baseRef (s : State) : (s.noteSaveStart).baseRef = s.baseRef := (State.noteSaveStart_frame s .baseRef rfl).symm
@[simp] theorem State.noteSaveStart_nav (s : State) : (s.noteSaveStart).nav = s.nav := (State.noteSaveStart_frame s .nav rfl).symm
@[simp] theorem State.noteSaveStart_blv (s : State) : (s.noteSaveStart).blv = s.blv := (State.noteSaveStart_frame s .blv rfl).symm
@[simp] theorem State.noteSaveStart_kerb (s : State) : (s.noteSaveStart).kerb = s.kerb := (State.noteSaveStart_frame s .kerb rfl).symm
@[simp] theorem State.noteSaveStart_cover (s : State) : (s.noteSaveStart).cover = s.cover := (State.noteSaveStart_frame s .cover rfl).symm
@[simp] theorem State.noteSaveStart_cache (s : State) : (s.noteSaveStart).cache = s.cache := (State.noteSaveStart_frame s .cache rfl).symm
@[simp] theorem State.noteSaveStart_fleet (s : State) : (s.noteSaveStart).fleet = s.fleet := (State.noteSaveStart_frame s .fleet rfl).symm
@[simp] theorem State.noteSaveStart_radio (s : State) : (s.noteSaveStart).radio = s.radio := (State.noteSaveStart_frame s .radio rfl).symm
@[simp] theorem State.noteSaveStart_crier (s : State) : (s.noteSaveStart).crier = s.crier := (State.noteSaveStart_frame s .crier rfl).symm
@[simp] theorem State.noteSaveStart_gate (s : State) : (s.noteSaveStart).gate = s.gate := (State.noteSaveStart_frame s .gate rfl).symm
@[simp] theorem State.noteSaveStart_tram (s : State) : (s.noteSaveStart).tram = s.tram := (State.noteSaveStart_frame s .tram rfl).symm
@[simp] theorem State.noteSaveStart_net (s : State) : (s.noteSaveStart).net = s.net := (State.noteSaveStart_frame s .net rfl).symm
@[simp] theorem State.noteSaveStart_meter (s : State) : (s.noteSaveStart).meter = s.meter := (State.noteSaveStart_frame s .meter rfl).symm
@[simp] theorem State.noteSaveStart_zheoc (s : State) : (s.noteSaveStart).zheoc = s.zheoc := (State.noteSaveStart_frame s .zheoc rfl).symm
@[simp] theorem State.noteSaveStart_store (s : State) : (s.noteSaveStart).store = s.store := (State.noteSaveStart_frame s .store rfl).symm
@[simp] theorem State.noteSaveStart_milestone (s : State) : (s.noteSaveStart).milestone = s.milestone := (State.noteSaveStart_frame s .milestone rfl).symm
@[simp] theorem State.noteSaveStart_dict (s : State) : (s.noteSaveStart).dict = s.dict := (State.noteSaveStart_frame s .dict rfl).symm
@[simp] theorem State.noteSaveStart_bootDict (s : State) : (s.noteSaveStart).bootDict = s.bootDict := (State.noteSaveStart_frame s .bootDict rfl).symm
@[simp] theorem State.noteSaveStart_octets (s : State) : (s.noteSaveStart).octets = s.octets := (State.noteSaveStart_frame s .octets rfl).symm
@[simp] theorem State.noteSaveStart_periods (s : State) : (s.noteSaveStart).periods = s.periods := (State.noteSaveStart_frame s .periods rfl).symm
@[simp] theorem State.noteSaveStart_draws (s : State) : (s.noteSaveStart).draws = s.draws := (State.noteSaveStart_frame s .draws rfl).symm
@[simp] theorem State.noteSaveStart_pending (s : State) : (s.noteSaveStart).pending = s.pending := (State.noteSaveStart_frame s .pending rfl).symm

theorem State.driveNothing_frame (s : State) : State.changesOnly [.host] s (s.driveNothing) :=
  s.updHost_frame _

@[simp] theorem State.driveNothing_mode (s : State) : (s.driveNothing).mode = s.mode := (State.driveNothing_frame s .mode rfl).symm
@[simp] theorem State.driveNothing_boot (s : State) : (s.driveNothing).boot = s.boot := (State.driveNothing_frame s .boot rfl).symm
@[simp] theorem State.driveNothing_outputs (s : State) : (s.driveNothing).outputs = s.outputs := (State.driveNothing_frame s .outputs rfl).symm
@[simp] theorem State.driveNothing_power (s : State) : (s.driveNothing).power = s.power := (State.driveNothing_frame s .power rfl).symm
@[simp] theorem State.driveNothing_clk (s : State) : (s.driveNothing).clk = s.clk := (State.driveNothing_frame s .clk rfl).symm
@[simp] theorem State.driveNothing_roundabout (s : State) : (s.driveNothing).roundabout = s.roundabout := (State.driveNothing_frame s .roundabout rfl).symm
@[simp] theorem State.driveNothing_queues (s : State) : (s.driveNothing).queues = s.queues := (State.driveNothing_frame s .queues rfl).symm
@[simp] theorem State.driveNothing_mbox (s : State) : (s.driveNothing).mbox = s.mbox := (State.driveNothing_frame s .mbox rfl).symm
@[simp] theorem State.driveNothing_sessions (s : State) : (s.driveNothing).sessions = s.sessions := (State.driveNothing_frame s .sessions rfl).symm
@[simp] theorem State.driveNothing_remotes (s : State) : (s.driveNothing).remotes = s.remotes := (State.driveNothing_frame s .remotes rfl).symm
@[simp] theorem State.driveNothing_gnss (s : State) : (s.driveNothing).gnss = s.gnss := (State.driveNothing_frame s .gnss rfl).symm
@[simp] theorem State.driveNothing_obs (s : State) : (s.driveNothing).obs = s.obs := (State.driveNothing_frame s .obs rfl).symm
@[simp] theorem State.driveNothing_baseRef (s : State) : (s.driveNothing).baseRef = s.baseRef := (State.driveNothing_frame s .baseRef rfl).symm
@[simp] theorem State.driveNothing_nav (s : State) : (s.driveNothing).nav = s.nav := (State.driveNothing_frame s .nav rfl).symm
@[simp] theorem State.driveNothing_blv (s : State) : (s.driveNothing).blv = s.blv := (State.driveNothing_frame s .blv rfl).symm
@[simp] theorem State.driveNothing_kerb (s : State) : (s.driveNothing).kerb = s.kerb := (State.driveNothing_frame s .kerb rfl).symm
@[simp] theorem State.driveNothing_cover (s : State) : (s.driveNothing).cover = s.cover := (State.driveNothing_frame s .cover rfl).symm
@[simp] theorem State.driveNothing_cache (s : State) : (s.driveNothing).cache = s.cache := (State.driveNothing_frame s .cache rfl).symm
@[simp] theorem State.driveNothing_fleet (s : State) : (s.driveNothing).fleet = s.fleet := (State.driveNothing_frame s .fleet rfl).symm
@[simp] theorem State.driveNothing_radio (s : State) : (s.driveNothing).radio = s.radio := (State.driveNothing_frame s .radio rfl).symm
@[simp] theorem State.driveNothing_crier (s : State) : (s.driveNothing).crier = s.crier := (State.driveNothing_frame s .crier rfl).symm
@[simp] theorem State.driveNothing_gate (s : State) : (s.driveNothing).gate = s.gate := (State.driveNothing_frame s .gate rfl).symm
@[simp] theorem State.driveNothing_tram (s : State) : (s.driveNothing).tram = s.tram := (State.driveNothing_frame s .tram rfl).symm
@[simp] theorem State.driveNothing_net (s : State) : (s.driveNothing).net = s.net := (State.driveNothing_frame s .net rfl).symm
@[simp] theorem State.driveNothing_meter (s : State) : (s.driveNothing).meter = s.meter := (State.driveNothing_frame s .meter rfl).symm
@[simp] theorem State.driveNothing_zheoc (s : State) : (s.driveNothing).zheoc = s.zheoc := (State.driveNothing_frame s .zheoc rfl).symm
@[simp] theorem State.driveNothing_store (s : State) : (s.driveNothing).store = s.store := (State.driveNothing_frame s .store rfl).symm
@[simp] theorem State.driveNothing_milestone (s : State) : (s.driveNothing).milestone = s.milestone := (State.driveNothing_frame s .milestone rfl).symm
@[simp] theorem State.driveNothing_dict (s : State) : (s.driveNothing).dict = s.dict := (State.driveNothing_frame s .dict rfl).symm
@[simp] theorem State.driveNothing_bootDict (s : State) : (s.driveNothing).bootDict = s.bootDict := (State.driveNothing_frame s .bootDict rfl).symm
@[simp] theorem State.driveNothing_octets (s : State) : (s.driveNothing).octets = s.octets := (State.driveNothing_frame s .octets rfl).symm
@[simp] theorem State.driveNothing_periods (s : State) : (s.driveNothing).periods = s.periods := (State.driveNothing_frame s .periods rfl).symm
@[simp] theorem State.driveNothing_draws (s : State) : (s.driveNothing).draws = s.draws := (State.driveNothing_frame s .draws rfl).symm
@[simp] theorem State.driveNothing_pending (s : State) : (s.driveNothing).pending = s.pending := (State.driveNothing_frame s .pending rfl).symm

theorem State.hcsNRise_frame (s : State) (u : Bool) : State.changesOnly [.host] s (s.hcsNRise u) := by
  have h : ∀ c t k, State.changesOnly [.host] t (if c = true then t.raiseIrq k else t) := fun c t k => changesOnly_ite (t.raiseIrq_frame k) (changesOnly_refl _ t)
  have g : ∀ t (p : Prop) [Decidable p], State.changesOnly [.host] t (if p then t.raiseIrq irqAbortRead else t) := fun t p _ => changesOnly_ite (t.raiseIrq_frame _) (changesOnly_refl _ t)
  unfold State.hcsNRise
  refine changesOnly_ite (changesOnly_refl _ _) ?_
  split
  · exact ((s.updHost_frame _).seq ((h _ _ _).seq (g _ _))).within (by decide)
  · exact ((s.updHost_frame _).seq (State.raiseIrq_frame _ _)).within (by decide)
  · exact changesOnly_ite ((s.driveNothing_frame.seq (State.raiseIrq_frame _ _)).within (by decide)) s.driveNothing_frame

@[simp] theorem State.hcsNRise_mode (s : State) (u : Bool) : (s.hcsNRise u).mode = s.mode := (State.hcsNRise_frame s u .mode rfl).symm
@[simp] theorem State.hcsNRise_boot (s : State) (u : Bool) : (s.hcsNRise u).boot = s.boot := (State.hcsNRise_frame s u .boot rfl).symm
@[simp] theorem State.hcsNRise_outputs (s : State) (u : Bool) : (s.hcsNRise u).outputs = s.outputs := (State.hcsNRise_frame s u .outputs rfl).symm
@[simp] theorem State.hcsNRise_power (s : State) (u : Bool) : (s.hcsNRise u).power = s.power := (State.hcsNRise_frame s u .power rfl).symm
@[simp] theorem State.hcsNRise_clk (s : State) (u : Bool) : (s.hcsNRise u).clk = s.clk := (State.hcsNRise_frame s u .clk rfl).symm
@[simp] theorem State.hcsNRise_roundabout (s : State) (u : Bool) : (s.hcsNRise u).roundabout = s.roundabout := (State.hcsNRise_frame s u .roundabout rfl).symm
@[simp] theorem State.hcsNRise_queues (s : State) (u : Bool) : (s.hcsNRise u).queues = s.queues := (State.hcsNRise_frame s u .queues rfl).symm
@[simp] theorem State.hcsNRise_mbox (s : State) (u : Bool) : (s.hcsNRise u).mbox = s.mbox := (State.hcsNRise_frame s u .mbox rfl).symm
@[simp] theorem State.hcsNRise_sessions (s : State) (u : Bool) : (s.hcsNRise u).sessions = s.sessions := (State.hcsNRise_frame s u .sessions rfl).symm
@[simp] theorem State.hcsNRise_remotes (s : State) (u : Bool) : (s.hcsNRise u).remotes = s.remotes := (State.hcsNRise_frame s u .remotes rfl).symm
@[simp] theorem State.hcsNRise_gnss (s : State) (u : Bool) : (s.hcsNRise u).gnss = s.gnss := (State.hcsNRise_frame s u .gnss rfl).symm
@[simp] theorem State.hcsNRise_obs (s : State) (u : Bool) : (s.hcsNRise u).obs = s.obs := (State.hcsNRise_frame s u .obs rfl).symm
@[simp] theorem State.hcsNRise_baseRef (s : State) (u : Bool) : (s.hcsNRise u).baseRef = s.baseRef := (State.hcsNRise_frame s u .baseRef rfl).symm
@[simp] theorem State.hcsNRise_nav (s : State) (u : Bool) : (s.hcsNRise u).nav = s.nav := (State.hcsNRise_frame s u .nav rfl).symm
@[simp] theorem State.hcsNRise_blv (s : State) (u : Bool) : (s.hcsNRise u).blv = s.blv := (State.hcsNRise_frame s u .blv rfl).symm
@[simp] theorem State.hcsNRise_kerb (s : State) (u : Bool) : (s.hcsNRise u).kerb = s.kerb := (State.hcsNRise_frame s u .kerb rfl).symm
@[simp] theorem State.hcsNRise_cover (s : State) (u : Bool) : (s.hcsNRise u).cover = s.cover := (State.hcsNRise_frame s u .cover rfl).symm
@[simp] theorem State.hcsNRise_cache (s : State) (u : Bool) : (s.hcsNRise u).cache = s.cache := (State.hcsNRise_frame s u .cache rfl).symm
@[simp] theorem State.hcsNRise_fleet (s : State) (u : Bool) : (s.hcsNRise u).fleet = s.fleet := (State.hcsNRise_frame s u .fleet rfl).symm
@[simp] theorem State.hcsNRise_radio (s : State) (u : Bool) : (s.hcsNRise u).radio = s.radio := (State.hcsNRise_frame s u .radio rfl).symm
@[simp] theorem State.hcsNRise_crier (s : State) (u : Bool) : (s.hcsNRise u).crier = s.crier := (State.hcsNRise_frame s u .crier rfl).symm
@[simp] theorem State.hcsNRise_gate (s : State) (u : Bool) : (s.hcsNRise u).gate = s.gate := (State.hcsNRise_frame s u .gate rfl).symm
@[simp] theorem State.hcsNRise_tram (s : State) (u : Bool) : (s.hcsNRise u).tram = s.tram := (State.hcsNRise_frame s u .tram rfl).symm
@[simp] theorem State.hcsNRise_net (s : State) (u : Bool) : (s.hcsNRise u).net = s.net := (State.hcsNRise_frame s u .net rfl).symm
@[simp] theorem State.hcsNRise_meter (s : State) (u : Bool) : (s.hcsNRise u).meter = s.meter := (State.hcsNRise_frame s u .meter rfl).symm
@[simp] theorem State.hcsNRise_zheoc (s : State) (u : Bool) : (s.hcsNRise u).zheoc = s.zheoc := (State.hcsNRise_frame s u .zheoc rfl).symm
@[simp] theorem State.hcsNRise_store (s : State) (u : Bool) : (s.hcsNRise u).store = s.store := (State.hcsNRise_frame s u .store rfl).symm
@[simp] theorem State.hcsNRise_milestone (s : State) (u : Bool) : (s.hcsNRise u).milestone = s.milestone := (State.hcsNRise_frame s u .milestone rfl).symm
@[simp] theorem State.hcsNRise_dict (s : State) (u : Bool) : (s.hcsNRise u).dict = s.dict := (State.hcsNRise_frame s u .dict rfl).symm
@[simp] theorem State.hcsNRise_bootDict (s : State) (u : Bool) : (s.hcsNRise u).bootDict = s.bootDict := (State.hcsNRise_frame s u .bootDict rfl).symm
@[simp] theorem State.hcsNRise_octets (s : State) (u : Bool) : (s.hcsNRise u).octets = s.octets := (State.hcsNRise_frame s u .octets rfl).symm
@[simp] theorem State.hcsNRise_periods (s : State) (u : Bool) : (s.hcsNRise u).periods = s.periods := (State.hcsNRise_frame s u .periods rfl).symm
@[simp] theorem State.hcsNRise_draws (s : State) (u : Bool) : (s.hcsNRise u).draws = s.draws := (State.hcsNRise_frame s u .draws rfl).symm
@[simp] theorem State.hcsNRise_pending (s : State) (u : Bool) : (s.hcsNRise u).pending = s.pending := (State.hcsNRise_frame s u .pending rfl).symm

theorem State.cutPulses_frame (s : State) (n : Nat) : State.changesOnly [.tram] s (s.cutPulses n) :=
  changesOnly_ite (changesOnly_refl _ s) (s.setAxis_frame n _)

@[simp] theorem State.cutPulses_mode (s : State) (n : Nat) : (s.cutPulses n).mode = s.mode := (State.cutPulses_frame s n .mode rfl).symm
@[simp] theorem State.cutPulses_boot (s : State) (n : Nat) : (s.cutPulses n).boot = s.boot := (State.cutPulses_frame s n .boot rfl).symm
@[simp] theorem State.cutPulses_outputs (s : State) (n : Nat) : (s.cutPulses n).outputs = s.outputs := (State.cutPulses_frame s n .outputs rfl).symm
@[simp] theorem State.cutPulses_power (s : State) (n : Nat) : (s.cutPulses n).power = s.power := (State.cutPulses_frame s n .power rfl).symm
@[simp] theorem State.cutPulses_clk (s : State) (n : Nat) : (s.cutPulses n).clk = s.clk := (State.cutPulses_frame s n .clk rfl).symm
@[simp] theorem State.cutPulses_roundabout (s : State) (n : Nat) : (s.cutPulses n).roundabout = s.roundabout := (State.cutPulses_frame s n .roundabout rfl).symm
@[simp] theorem State.cutPulses_queues (s : State) (n : Nat) : (s.cutPulses n).queues = s.queues := (State.cutPulses_frame s n .queues rfl).symm
@[simp] theorem State.cutPulses_host (s : State) (n : Nat) : (s.cutPulses n).host = s.host := (State.cutPulses_frame s n .host rfl).symm
@[simp] theorem State.cutPulses_mbox (s : State) (n : Nat) : (s.cutPulses n).mbox = s.mbox := (State.cutPulses_frame s n .mbox rfl).symm
@[simp] theorem State.cutPulses_sessions (s : State) (n : Nat) : (s.cutPulses n).sessions = s.sessions := (State.cutPulses_frame s n .sessions rfl).symm
@[simp] theorem State.cutPulses_remotes (s : State) (n : Nat) : (s.cutPulses n).remotes = s.remotes := (State.cutPulses_frame s n .remotes rfl).symm
@[simp] theorem State.cutPulses_gnss (s : State) (n : Nat) : (s.cutPulses n).gnss = s.gnss := (State.cutPulses_frame s n .gnss rfl).symm
@[simp] theorem State.cutPulses_obs (s : State) (n : Nat) : (s.cutPulses n).obs = s.obs := (State.cutPulses_frame s n .obs rfl).symm
@[simp] theorem State.cutPulses_baseRef (s : State) (n : Nat) : (s.cutPulses n).baseRef = s.baseRef := (State.cutPulses_frame s n .baseRef rfl).symm
@[simp] theorem State.cutPulses_nav (s : State) (n : Nat) : (s.cutPulses n).nav = s.nav := (State.cutPulses_frame s n .nav rfl).symm
@[simp] theorem State.cutPulses_blv (s : State) (n : Nat) : (s.cutPulses n).blv = s.blv := (State.cutPulses_frame s n .blv rfl).symm
@[simp] theorem State.cutPulses_kerb (s : State) (n : Nat) : (s.cutPulses n).kerb = s.kerb := (State.cutPulses_frame s n .kerb rfl).symm
@[simp] theorem State.cutPulses_cover (s : State) (n : Nat) : (s.cutPulses n).cover = s.cover := (State.cutPulses_frame s n .cover rfl).symm
@[simp] theorem State.cutPulses_cache (s : State) (n : Nat) : (s.cutPulses n).cache = s.cache := (State.cutPulses_frame s n .cache rfl).symm
@[simp] theorem State.cutPulses_fleet (s : State) (n : Nat) : (s.cutPulses n).fleet = s.fleet := (State.cutPulses_frame s n .fleet rfl).symm
@[simp] theorem State.cutPulses_radio (s : State) (n : Nat) : (s.cutPulses n).radio = s.radio := (State.cutPulses_frame s n .radio rfl).symm
@[simp] theorem State.cutPulses_crier (s : State) (n : Nat) : (s.cutPulses n).crier = s.crier := (State.cutPulses_frame s n .crier rfl).symm
@[simp] theorem State.cutPulses_gate (s : State) (n : Nat) : (s.cutPulses n).gate = s.gate := (State.cutPulses_frame s n .gate rfl).symm
@[simp] theorem State.cutPulses_net (s : State) (n : Nat) : (s.cutPulses n).net = s.net := (State.cutPulses_frame s n .net rfl).symm
@[simp] theorem State.cutPulses_meter (s : State) (n : Nat) : (s.cutPulses n).meter = s.meter := (State.cutPulses_frame s n .meter rfl).symm
@[simp] theorem State.cutPulses_zheoc (s : State) (n : Nat) : (s.cutPulses n).zheoc = s.zheoc := (State.cutPulses_frame s n .zheoc rfl).symm
@[simp] theorem State.cutPulses_store (s : State) (n : Nat) : (s.cutPulses n).store = s.store := (State.cutPulses_frame s n .store rfl).symm
@[simp] theorem State.cutPulses_milestone (s : State) (n : Nat) : (s.cutPulses n).milestone = s.milestone := (State.cutPulses_frame s n .milestone rfl).symm
@[simp] theorem State.cutPulses_dict (s : State) (n : Nat) : (s.cutPulses n).dict = s.dict := (State.cutPulses_frame s n .dict rfl).symm
@[simp] theorem State.cutPulses_bootDict (s : State) (n : Nat) : (s.cutPulses n).bootDict = s.bootDict := (State.cutPulses_frame s n .bootDict rfl).symm
@[simp] theorem State.cutPulses_octets (s : State) (n : Nat) : (s.cutPulses n).octets = s.octets := (State.cutPulses_frame s n .octets rfl).symm
@[simp] theorem State.cutPulses_periods (s : State) (n : Nat) : (s.cutPulses n).periods = s.periods := (State.cutPulses_frame s n .periods rfl).symm
@[simp] theorem State.cutPulses_draws (s : State) (n : Nat) : (s.cutPulses n).draws = s.draws := (State.cutPulses_frame s n .draws rfl).symm
@[simp] theorem State.cutPulses_pending (s : State) (n : Nat) : (s.cutPulses n).pending = s.pending := (State.cutPulses_frame s n .pending rfl).symm

theorem State.tramCut_frame (s : State) : State.changesOnly [.tram] s (s.tramCut) :=
  changesOnly_foldl (fun s n => s.cutPulses_frame n) _ s

@[simp] theorem State.tramCut_mode (s : State) : (s.tramCut).mode = s.mode := (State.tramCut_frame s .mode rfl).symm
@[simp] theorem State.tramCut_boot (s : State) : (s.tramCut).boot = s.boot := (State.tramCut_frame s .boot rfl).symm
@[simp] theorem State.tramCut_outputs (s : State) : (s.tramCut).outputs = s.outputs := (State.tramCut_frame s .outputs rfl).symm
@[simp] theorem State.tramCut_power (s : State) : (s.tramCut).power = s.power := (State.tramCut_frame s .power rfl).symm
@[simp] theorem State.tramCut_clk (s : State) : (s.tramCut).clk = s.clk := (State.tramCut_frame s .clk rfl).symm
@[simp] theorem State.tramCut_roundabout (s : State) : (s.tramCut).roundabout = s.roundabout := (State.tramCut_frame s .roundabout rfl).symm
@[simp] theorem State.tramCut_queues (s : State) : (s.tramCut).queues = s.queues := (State.tramCut_frame s .queues rfl).symm
@[simp] theorem State.tramCut_host (s : State) : (s.tramCut).host = s.host := (State.tramCut_frame s .host rfl).symm
@[simp] theorem State.tramCut_mbox (s : State) : (s.tramCut).mbox = s.mbox := (State.tramCut_frame s .mbox rfl).symm
@[simp] theorem State.tramCut_sessions (s : State) : (s.tramCut).sessions = s.sessions := (State.tramCut_frame s .sessions rfl).symm
@[simp] theorem State.tramCut_remotes (s : State) : (s.tramCut).remotes = s.remotes := (State.tramCut_frame s .remotes rfl).symm
@[simp] theorem State.tramCut_gnss (s : State) : (s.tramCut).gnss = s.gnss := (State.tramCut_frame s .gnss rfl).symm
@[simp] theorem State.tramCut_obs (s : State) : (s.tramCut).obs = s.obs := (State.tramCut_frame s .obs rfl).symm
@[simp] theorem State.tramCut_baseRef (s : State) : (s.tramCut).baseRef = s.baseRef := (State.tramCut_frame s .baseRef rfl).symm
@[simp] theorem State.tramCut_nav (s : State) : (s.tramCut).nav = s.nav := (State.tramCut_frame s .nav rfl).symm
@[simp] theorem State.tramCut_blv (s : State) : (s.tramCut).blv = s.blv := (State.tramCut_frame s .blv rfl).symm
@[simp] theorem State.tramCut_kerb (s : State) : (s.tramCut).kerb = s.kerb := (State.tramCut_frame s .kerb rfl).symm
@[simp] theorem State.tramCut_cover (s : State) : (s.tramCut).cover = s.cover := (State.tramCut_frame s .cover rfl).symm
@[simp] theorem State.tramCut_cache (s : State) : (s.tramCut).cache = s.cache := (State.tramCut_frame s .cache rfl).symm
@[simp] theorem State.tramCut_fleet (s : State) : (s.tramCut).fleet = s.fleet := (State.tramCut_frame s .fleet rfl).symm
@[simp] theorem State.tramCut_radio (s : State) : (s.tramCut).radio = s.radio := (State.tramCut_frame s .radio rfl).symm
@[simp] theorem State.tramCut_crier (s : State) : (s.tramCut).crier = s.crier := (State.tramCut_frame s .crier rfl).symm
@[simp] theorem State.tramCut_gate (s : State) : (s.tramCut).gate = s.gate := (State.tramCut_frame s .gate rfl).symm
@[simp] theorem State.tramCut_net (s : State) : (s.tramCut).net = s.net := (State.tramCut_frame s .net rfl).symm
@[simp] theorem State.tramCut_meter (s : State) : (s.tramCut).meter = s.meter := (State.tramCut_frame s .meter rfl).symm
@[simp] theorem State.tramCut_zheoc (s : State) : (s.tramCut).zheoc = s.zheoc := (State.tramCut_frame s .zheoc rfl).symm
@[simp] theorem State.tramCut_store (s : State) : (s.tramCut).store = s.store := (State.tramCut_frame s .store rfl).symm
@[simp] theorem State.tramCut_milestone (s : State) : (s.tramCut).milestone = s.milestone := (State.tramCut_frame s .milestone rfl).symm
@[simp] theorem State.tramCut_dict (s : State) : (s.tramCut).dict = s.dict := (State.tramCut_frame s .dict rfl).symm
@[simp] theorem State.tramCut_bootDict (s : State) : (s.tramCut).bootDict = s.bootDict := (State.tramCut_frame s .bootDict rfl).symm
@[simp] theorem State.tramCut_octets (s : State) : (s.tramCut).octets = s.octets := (State.tramCut_frame s .octets rfl).symm
@[simp] theorem State.tramCut_periods (s : State) : (s.tramCut).periods = s.periods := (State.tramCut_frame s .periods rfl).symm
@[simp] theorem State.tramCut_draws (s : State) : (s.tramCut).draws = s.draws := (State.tramCut_frame s .draws rfl).symm
@[simp] theorem State.tramCut_pending (s : State) : (s.tramCut).pending = s.pending := (State.tramCut_frame s .pending rfl).symm

theorem State.cutRun_frame (s : State) : State.changesOnly [.host, .tram, .radio, .crier, .clk, .gnss, .sessions, .remotes, .roundabout] s (s.cutRun) := by
  unfold State.cutRun
  have h : State.changesOnly [.host, .tram] s (s.hcsNRise true).tramCut := (s.hcsNRise_frame true).seq (State.tramCut_frame _)
  generalize (s.hcsNRise true).tramCut = t at h ⊢
  refine (h.seq (qs := [.radio, .crier, .clk, .gnss, .sessions, .remotes, .roundabout]) ?_).within (by decide)
  intro p hp
  cases p <;> first | rfl | exact Bool.noConfusion hp

@[simp] theorem State.cutRun_mode (s : State) : (s.cutRun).mode = s.mode := (State.cutRun_frame s .mode rfl).symm
@[simp] theorem State.cutRun_boot (s : State) : (s.cutRun).boot = s.boot := (State.cutRun_frame s .boot rfl).symm
@[simp] theorem State.cutRun_outputs (s : State) : (s.cutRun).outputs = s.outputs := (State.cutRun_frame s .outputs rfl).symm
@[simp] theorem State.cutRun_power (s : State) : (s.cutRun).power = s.power := (State.cutRun_frame s .power rfl).symm
@[simp] theorem State.cutRun_queues (s : State) : (s.cutRun).queues = s.queues := (State.cutRun_frame s .queues rfl).symm
@[simp] theorem State.cutRun_mbox (s : State) : (s.cutRun).mbox = s.mbox := (State.cutRun_frame s .mbox rfl).symm
@[simp] theorem State.cutRun_obs (s : State) : (s.cutRun).obs = s.obs := (State.cutRun_frame s .obs rfl).symm
@[simp] theorem State.cutRun_baseRef (s : State) : (s.cutRun).baseRef = s.baseRef := (State.cutRun_frame s .baseRef rfl).symm
@[simp] theorem State.cutRun_nav (s : State) : (s.cutRun).nav = s.nav := (State.cutRun_frame s .nav rfl).symm
@[simp] theorem State.cutRun_blv (s : State) : (s.cutRun).blv = s.blv := (State.cutRun_frame s .blv rfl).symm
@[simp] theorem State.cutRun_kerb (s : State) : (s.cutRun).kerb = s.kerb := (State.cutRun_frame s .kerb rfl).symm
@[simp] theorem State.cutRun_cover (s : State) : (s.cutRun).cover = s.cover := (State.cutRun_frame s .cover rfl).symm
@[simp] theorem State.cutRun_cache (s : State) : (s.cutRun).cache = s.cache := (State.cutRun_frame s .cache rfl).symm
@[simp] theorem State.cutRun_fleet (s : State) : (s.cutRun).fleet = s.fleet := (State.cutRun_frame s .fleet rfl).symm
@[simp] theorem State.cutRun_gate (s : State) : (s.cutRun).gate = s.gate := (State.cutRun_frame s .gate rfl).symm
@[simp] theorem State.cutRun_net (s : State) : (s.cutRun).net = s.net := (State.cutRun_frame s .net rfl).symm
@[simp] theorem State.cutRun_meter (s : State) : (s.cutRun).meter = s.meter := (State.cutRun_frame s .meter rfl).symm
@[simp] theorem State.cutRun_zheoc (s : State) : (s.cutRun).zheoc = s.zheoc := (State.cutRun_frame s .zheoc rfl).symm
@[simp] theorem State.cutRun_store (s : State) : (s.cutRun).store = s.store := (State.cutRun_frame s .store rfl).symm
@[simp] theorem State.cutRun_milestone (s : State) : (s.cutRun).milestone = s.milestone := (State.cutRun_frame s .milestone rfl).symm
@[simp] theorem State.cutRun_dict (s : State) : (s.cutRun).dict = s.dict := (State.cutRun_frame s .dict rfl).symm
@[simp] theorem State.cutRun_bootDict (s : State) : (s.cutRun).bootDict = s.bootDict := (State.cutRun_frame s .bootDict rfl).symm
@[simp] theorem State.cutRun_octets (s : State) : (s.cutRun).octets = s.octets := (State.cutRun_frame s .octets rfl).symm
@[simp] theorem State.cutRun_periods (s : State) : (s.cutRun).periods = s.periods := (State.cutRun_frame s .periods rfl).symm
@[simp] theorem State.cutRun_draws (s : State) : (s.cutRun).draws = s.draws := (State.cutRun_frame s .draws rfl).symm
@[simp] theorem State.cutRun_pending (s : State) : (s.cutRun).pending = s.pending := (State.cutRun_frame s .pending rfl).symm

theorem State.beginOrderly_frame (s : State) (c : ResetSource) : State.changesOnly [.store, .power] s (s.beginOrderly c) :=
  changesOnly_ite (changesOnly_refl _ s) (((s.clearTarget_frame.seq (State.noteSaveStart_frame _)).seq (only_power _ _)).within (by decide))

@[simp] theorem State.beginOrderly_mode (s : State) (c : ResetSource) : (s.beginOrderly c).mode = s.mode := (State.beginOrderly_frame s c .mode rfl).symm
@[simp] theorem State.beginOrderly_boot (s : State) (c : ResetSource) : (s.beginOrderly c).boot = s.boot := (State.beginOrderly_frame s c .boot rfl).symm
@[simp] theorem State.beginOrderly_outputs (s : State) (c : ResetSource) : (s.beginOrderly c).outputs = s.outputs := (State.beginOrderly_frame s c .outputs rfl).symm
@[simp] theorem State.beginOrderly_clk (s : State) (c : ResetSource) : (s.beginOrderly c).clk = s.clk := (State.beginOrderly_frame s c .clk rfl).symm
@[simp] theorem State.beginOrderly_roundabout (s : State) (c : ResetSource) : (s.beginOrderly c).roundabout = s.roundabout := (State.beginOrderly_frame s c .roundabout rfl).symm
@[simp] theorem State.beginOrderly_queues (s : State) (c : ResetSource) : (s.beginOrderly c).queues = s.queues := (State.beginOrderly_frame s c .queues rfl).symm
@[simp] theorem State.beginOrderly_host (s : State) (c : ResetSource) : (s.beginOrderly c).host = s.host := (State.beginOrderly_frame s c .host rfl).symm
@[simp] theorem State.beginOrderly_mbox (s : State) (c : ResetSource) : (s.beginOrderly c).mbox = s.mbox := (State.beginOrderly_frame s c .mbox rfl).symm
@[simp] theorem State.beginOrderly_sessions (s : State) (c : ResetSource) : (s.beginOrderly c).sessions = s.sessions := (State.beginOrderly_frame s c .sessions rfl).symm
@[simp] theorem State.beginOrderly_remotes (s : State) (c : ResetSource) : (s.beginOrderly c).remotes = s.remotes := (State.beginOrderly_frame s c .remotes rfl).symm
@[simp] theorem State.beginOrderly_gnss (s : State) (c : ResetSource) : (s.beginOrderly c).gnss = s.gnss := (State.beginOrderly_frame s c .gnss rfl).symm
@[simp] theorem State.beginOrderly_obs (s : State) (c : ResetSource) : (s.beginOrderly c).obs = s.obs := (State.beginOrderly_frame s c .obs rfl).symm
@[simp] theorem State.beginOrderly_baseRef (s : State) (c : ResetSource) : (s.beginOrderly c).baseRef = s.baseRef := (State.beginOrderly_frame s c .baseRef rfl).symm
@[simp] theorem State.beginOrderly_nav (s : State) (c : ResetSource) : (s.beginOrderly c).nav = s.nav := (State.beginOrderly_frame s c .nav rfl).symm
@[simp] theorem State.beginOrderly_blv (s : State) (c : ResetSource) : (s.beginOrderly c).blv = s.blv := (State.beginOrderly_frame s c .blv rfl).symm
@[simp] theorem State.beginOrderly_kerb (s : State) (c : ResetSource) : (s.beginOrderly c).kerb = s.kerb := (State.beginOrderly_frame s c .kerb rfl).symm
@[simp] theorem State.beginOrderly_cover (s : State) (c : ResetSource) : (s.beginOrderly c).cover = s.cover := (State.beginOrderly_frame s c .cover rfl).symm
@[simp] theorem State.beginOrderly_cache (s : State) (c : ResetSource) : (s.beginOrderly c).cache = s.cache := (State.beginOrderly_frame s c .cache rfl).symm
@[simp] theorem State.beginOrderly_fleet (s : State) (c : ResetSource) : (s.beginOrderly c).fleet = s.fleet := (State.beginOrderly_frame s c .fleet rfl).symm
@[simp] theorem State.beginOrderly_radio (s : State) (c : ResetSource) : (s.beginOrderly c).radio = s.radio := (State.beginOrderly_frame s c .radio rfl).symm
@[simp] theorem State.beginOrderly_crier (s : State) (c : ResetSource) : (s.beginOrderly c).crier = s.crier := (State.beginOrderly_frame s c .crier rfl).symm
@[simp] theorem State.beginOrderly_gate (s : State) (c : ResetSource) : (s.beginOrderly c).gate = s.gate := (State.beginOrderly_frame s c .gate rfl).symm
@[simp] theorem State.beginOrderly_tram (s : State) (c : ResetSource) : (s.beginOrderly c).tram = s.tram := (State.beginOrderly_frame s c .tram rfl).symm
@[simp] theorem State.beginOrderly_net (s : State) (c : ResetSource) : (s.beginOrderly c).net = s.net := (State.beginOrderly_frame s c .net rfl).symm
@[simp] theorem State.beginOrderly_meter (s : State) (c : ResetSource) : (s.beginOrderly c).meter = s.meter := (State.beginOrderly_frame s c .meter rfl).symm
@[simp] theorem State.beginOrderly_zheoc (s : State) (c : ResetSource) : (s.beginOrderly c).zheoc = s.zheoc := (State.beginOrderly_frame s c .zheoc rfl).symm
@[simp] theorem State.beginOrderly_milestone (s : State) (c : ResetSource) : (s.beginOrderly c).milestone = s.milestone := (State.beginOrderly_frame s c .milestone rfl).symm
@[simp] theorem State.beginOrderly_dict (s : State) (c : ResetSource) : (s.beginOrderly c).dict = s.dict := (State.beginOrderly_frame s c .dict rfl).symm
@[simp] theorem State.beginOrderly_bootDict (s : State) (c : ResetSource) : (s.beginOrderly c).bootDict = s.bootDict := (State.beginOrderly_frame s c .bootDict rfl).symm
@[simp] theorem State.beginOrderly_octets (s : State) (c : ResetSource) : (s.beginOrderly c).octets = s.octets := (State.beginOrderly_frame s c .octets rfl).symm
@[simp] theorem State.beginOrderly_periods (s : State) (c : ResetSource) : (s.beginOrderly c).periods = s.periods := (State.beginOrderly_frame s c .periods rfl).symm
@[simp] theorem State.beginOrderly_draws (s : State) (c : ResetSource) : (s.beginOrderly c).draws = s.draws := (State.beginOrderly_frame s c .draws rfl).symm
@[simp] theorem State.beginOrderly_pending (s : State) (c : ResetSource) : (s.beginOrderly c).pending = s.pending := (State.beginOrderly_frame s c .pending rfl).symm

theorem asAppliedHere_frame (s : State) (r : AsApplied) : State.changesOnly [.draws] s (s.asAppliedHere r).2 := by
  unfold State.asAppliedHere
  simp only []
  split
  · exact changesOnly_refl _ _
  · exact only_draws s _

theorem tailNow_frame (s : State) : State.changesOnly [.draws] s s.tailNow.2 := by
  unfold State.tailNow
  split
  · exact changesOnly_refl _ _
  · exact asAppliedHere_frame s _

theorem saveImage_frame (s : State) (n : Nat) (c : ResetSource) : State.changesOnly [.draws] s (s.saveImage n c).2 := by
  unfold State.saveImage
  split
  · exact changesOnly_refl _ _
  · exact tailNow_frame s

theorem State.writeSave_frame (s : State) (c : ResetSource) : State.changesOnly [.store, .draws] s (s.writeSave c) :=
  (((only_store s _).seq (saveImage_frame s.nextSeq.2 s.nextSeq.1 c)).seq (State.updStore_frame _ _)).within (by decide)

@[simp] theorem State.writeSave_mode (s : State) (c : ResetSource) : (s.writeSave c).mode = s.mode := (State.writeSave_frame s c .mode rfl).symm
@[simp] theorem State.writeSave_boot (s : State) (c : ResetSource) : (s.writeSave c).boot = s.boot := (State.writeSave_frame s c .boot rfl).symm
@[simp] theorem State.writeSave_outputs (s : State) (c : ResetSource) : (s.writeSave c).outputs = s.outputs := (State.writeSave_frame s c .outputs rfl).symm
@[simp] theorem State.writeSave_power (s : State) (c : ResetSource) : (s.writeSave c).power = s.power := (State.writeSave_frame s c .power rfl).symm
@[simp] theorem State.writeSave_clk (s : State) (c : ResetSource) : (s.writeSave c).clk = s.clk := (State.writeSave_frame s c .clk rfl).symm
@[simp] theorem State.writeSave_roundabout (s : State) (c : ResetSource) : (s.writeSave c).roundabout = s.roundabout := (State.writeSave_frame s c .roundabout rfl).symm
@[simp] theorem State.writeSave_queues (s : State) (c : ResetSource) : (s.writeSave c).queues = s.queues := (State.writeSave_frame s c .queues rfl).symm
@[simp] theorem State.writeSave_host (s : State) (c : ResetSource) : (s.writeSave c).host = s.host := (State.writeSave_frame s c .host rfl).symm
@[simp] theorem State.writeSave_mbox (s : State) (c : ResetSource) : (s.writeSave c).mbox = s.mbox := (State.writeSave_frame s c .mbox rfl).symm
@[simp] theorem State.writeSave_sessions (s : State) (c : ResetSource) : (s.writeSave c).sessions = s.sessions := (State.writeSave_frame s c .sessions rfl).symm
@[simp] theorem State.writeSave_remotes (s : State) (c : ResetSource) : (s.writeSave c).remotes = s.remotes := (State.writeSave_frame s c .remotes rfl).symm
@[simp] theorem State.writeSave_gnss (s : State) (c : ResetSource) : (s.writeSave c).gnss = s.gnss := (State.writeSave_frame s c .gnss rfl).symm
@[simp] theorem State.writeSave_obs (s : State) (c : ResetSource) : (s.writeSave c).obs = s.obs := (State.writeSave_frame s c .obs rfl).symm
@[simp] theorem State.writeSave_baseRef (s : State) (c : ResetSource) : (s.writeSave c).baseRef = s.baseRef := (State.writeSave_frame s c .baseRef rfl).symm
@[simp] theorem State.writeSave_nav (s : State) (c : ResetSource) : (s.writeSave c).nav = s.nav := (State.writeSave_frame s c .nav rfl).symm
@[simp] theorem State.writeSave_blv (s : State) (c : ResetSource) : (s.writeSave c).blv = s.blv := (State.writeSave_frame s c .blv rfl).symm
@[simp] theorem State.writeSave_kerb (s : State) (c : ResetSource) : (s.writeSave c).kerb = s.kerb := (State.writeSave_frame s c .kerb rfl).symm
@[simp] theorem State.writeSave_cover (s : State) (c : ResetSource) : (s.writeSave c).cover = s.cover := (State.writeSave_frame s c .cover rfl).symm
@[simp] theorem State.writeSave_cache (s : State) (c : ResetSource) : (s.writeSave c).cache = s.cache := (State.writeSave_frame s c .cache rfl).symm
@[simp] theorem State.writeSave_fleet (s : State) (c : ResetSource) : (s.writeSave c).fleet = s.fleet := (State.writeSave_frame s c .fleet rfl).symm
@[simp] theorem State.writeSave_radio (s : State) (c : ResetSource) : (s.writeSave c).radio = s.radio := (State.writeSave_frame s c .radio rfl).symm
@[simp] theorem State.writeSave_crier (s : State) (c : ResetSource) : (s.writeSave c).crier = s.crier := (State.writeSave_frame s c .crier rfl).symm
@[simp] theorem State.writeSave_gate (s : State) (c : ResetSource) : (s.writeSave c).gate = s.gate := (State.writeSave_frame s c .gate rfl).symm
@[simp] theorem State.writeSave_tram (s : State) (c : ResetSource) : (s.writeSave c).tram = s.tram := (State.writeSave_frame s c .tram rfl).symm
@[simp] theorem State.writeSave_net (s : State) (c : ResetSource) : (s.writeSave c).net = s.net := (State.writeSave_frame s c .net rfl).symm
@[simp] theorem State.writeSave_meter (s : State) (c : ResetSource) : (s.writeSave c).meter = s.meter := (State.writeSave_frame s c .meter rfl).symm
@[simp] theorem State.writeSave_zheoc (s : State) (c : ResetSource) : (s.writeSave c).zheoc = s.zheoc := (State.writeSave_frame s c .zheoc rfl).symm
@[simp] theorem State.writeSave_milestone (s : State) (c : ResetSource) : (s.writeSave c).milestone = s.milestone := (State.writeSave_frame s c .milestone rfl).symm
@[simp] theorem State.writeSave_dict (s : State) (c : ResetSource) : (s.writeSave c).dict = s.dict := (State.writeSave_frame s c .dict rfl).symm
@[simp] theorem State.writeSave_bootDict (s : State) (c : ResetSource) : (s.writeSave c).bootDict = s.bootDict := (State.writeSave_frame s c .bootDict rfl).symm
@[simp] theorem State.writeSave_octets (s : State) (c : ResetSource) : (s.writeSave c).octets = s.octets := (State.writeSave_frame s c .octets rfl).symm
@[simp] theorem State.writeSave_periods (s : State) (c : ResetSource) : (s.writeSave c).periods = s.periods := (State.writeSave_frame s c .periods rfl).symm
@[simp] theorem State.writeSave_pending (s : State) (c : ResetSource) : (s.writeSave c).pending = s.pending := (State.writeSave_frame s c .pending rfl).symm

theorem writeSave_area (s : State) (c : ResetSource) : (s.writeSave c).store.areaA.isSome = true ∨ (s.writeSave c).store.areaB.isSome = true := by
  simp only [State.writeSave, State.updStore]
  split <;> simp

end Sys2Proof.Machine
end

