-- ==== Sys2Proof/Laws/Tab.lean ====
section
/-!
SUPPORT. Laws/Tab.lean: the laws of the one table form: a read after a write, and the canonical form that every write keeps.
-/
namespace Sys2Proof.Machine

variable {α : Type}

theorem Tab.get_erase_self (d : α) (t : Tab α) (k : Nat) : Tab.get d (t.erase k) k = d := by
  induction t with
  | nil => rfl
  | cons e t ih =>
    obtain ⟨k', v⟩ := e
    by_cases h : k' = k <;> simp [Tab.erase, Tab.get, h, ih]

theorem Tab.get_erase_ne (d : α) (t : Tab α) {k j : Nat} (h : j ≠ k) : Tab.get d (t.erase k) j = Tab.get d t j := by
  induction t with
  | nil => rfl
  | cons e t ih =>
    obtain ⟨k', v⟩ := e
    by_cases hk : k' = k
    · subst hk; simp [Tab.erase, Tab.get, ih, Ne.symm h]
    · simp only [Tab.erase, hk, if_false, Tab.get, ih]

theorem Tab.get_insert_ne (d : α) (t : Tab α) {k j : Nat} (v : α) (h : j ≠ k) : Tab.get d (t.insert k v) j = Tab.get d t j := by
  induction t with
  | nil => simp [Tab.insert, Tab.get, Ne.symm h]
  | cons e t ih =>
    obtain ⟨k', v'⟩ := e
    by_cases hk : k < k'
    · simp [Tab.insert, Tab.get, hk, Ne.symm h]
    · simp only [Tab.insert, hk, if_false, Tab.get, ih]

theorem Tab.get_insert_erase (d : α) (t : Tab α) (k : Nat) (v : α) : Tab.get d ((t.erase k).insert k v) k = v := by
  induction t with
  | nil => simp [Tab.erase, Tab.insert, Tab.get]
  | cons e t ih =>
    obtain ⟨k', v'⟩ := e
    by_cases hk : k' = k
    · simp [Tab.erase, hk, ih]
    · by_cases hl : k < k' <;> simp [Tab.erase, Tab.insert, Tab.get, hk, hl, ih]

/-- A read after a write to the same key gives the value written. -/
@[simp] theorem Tab.get_put_self [DecidableEq α] (d : α) (t : Tab α) (k : Nat) (v : α) : Tab.get d (Tab.put d t k v) k = v := by
  by_cases h : v = d
  · simp [Tab.put, h, Tab.get_erase_self]
  · simp [Tab.put, h, Tab.get_insert_erase]

/-- A write leaves every other key alone, whatever the two defaults. -/
theorem Tab.get_put_ne [DecidableEq α] (d e : α) (t : Tab α) {k j : Nat} (v : α) (h : j ≠ k) : Tab.get d (Tab.put e t k v) j = Tab.get d t j := by
  unfold Tab.put
  split
  · exact Tab.get_erase_ne d t h
  · rw [Tab.get_insert_ne d _ v h, Tab.get_erase_ne d t h]

theorem Tab.above_mono {t : Tab α} {a b : Nat} (h : a ≤ b) (hb : Tab.above b t = true) : Tab.above a t = true := by
  cases t with
  | nil => rfl
  | cons e t =>
    obtain ⟨k, v⟩ := e
    simp only [Tab.above, Bool.and_eq_true, decide_eq_true_eq] at hb ⊢
    exact ⟨Nat.le_trans h hb.1, hb.2⟩

theorem Tab.above_erase (t : Tab α) (k b : Nat) (h : Tab.above b t = true) : Tab.above b (t.erase k) = true := by
  induction t generalizing b with
  | nil => rfl
  | cons e t ih =>
    obtain ⟨k', v⟩ := e
    simp only [Tab.above, Bool.and_eq_true, decide_eq_true_eq] at h
    by_cases hk : k' = k
    · simp only [Tab.erase, hk, if_true]
      exact ih b (Tab.above_mono (by omega) h.2)
    · simp only [Tab.erase, hk, if_false, Tab.above, Bool.and_eq_true, decide_eq_true_eq]
      exact ⟨h.1, ih (k' + 1) h.2⟩

theorem Tab.above_insert (t : Tab α) (k b : Nat) (v : α) (hb : b ≤ k) (h : Tab.above b (t.erase k) = true) :
    Tab.above b ((t.erase k).insert k v) = true := by
  induction t generalizing b with
  | nil => simp [Tab.erase, Tab.insert, Tab.above, hb]
  | cons e t ih =>
    obtain ⟨k', v'⟩ := e
    by_cases hk : k' = k
    · simp only [Tab.erase, hk, if_true] at h ⊢
      exact ih b hb h
    · simp only [Tab.erase, hk, if_false, Tab.above, Bool.and_eq_true, decide_eq_true_eq] at h ⊢
      by_cases hl : k < k'
      · simp only [Tab.insert, hl, if_true, Tab.above, Bool.and_eq_true, decide_eq_true_eq]
        exact ⟨hb, by omega, h.2⟩
      · simp only [Tab.insert, hl, if_false, Tab.above, Bool.and_eq_true, decide_eq_true_eq]
        exact ⟨h.1, ih (k' + 1) (by omega) h.2⟩

theorem Tab.mem_erase {t : Tab α} {k : Nat} {e : Nat × α} (h : e ∈ t.erase k) : e ∈ t := by
  induction t with
  | nil => exact h
  | cons x t ih =>
    obtain ⟨k', v'⟩ := x
    by_cases hk : k' = k
    · simp only [Tab.erase, hk, if_true] at h
      exact List.mem_cons_of_mem _ (ih h)
    · simp only [Tab.erase, hk, if_false] at h
      rcases List.mem_cons.mp h with h | h
      · exact h ▸ List.mem_cons_self
      · exact List.mem_cons_of_mem _ (ih h)

theorem Tab.mem_insert {t : Tab α} {k : Nat} {v : α} {e : Nat × α} (h : e ∈ t.insert k v) : e = (k, v) ∨ e ∈ t := by
  induction t with
  | nil => exact .inl (by simpa [Tab.insert] using h)
  | cons x t ih =>
    obtain ⟨k', v'⟩ := x
    by_cases hl : k < k'
    · simp only [Tab.insert, hl, if_true] at h
      rcases List.mem_cons.mp h with h | h
      · exact .inl h
      · exact .inr h
    · simp only [Tab.insert, hl, if_false] at h
      rcases List.mem_cons.mp h with h | h
      · exact .inr (h ▸ List.mem_cons_self)
      · rcases ih h with h | h
        · exact .inl h
        · exact .inr (List.mem_cons_of_mem _ h)

/-- A write keeps the canonical form. -/
theorem Tab.wf_put [DecidableEq α] (d : α) (t : Tab α) (k : Nat) (v : α) (h : Tab.wf d t = true) : Tab.wf d (Tab.put d t k v) = true := by
  simp only [Tab.wf, Bool.and_eq_true, List.all_eq_true, decide_eq_true_eq] at h ⊢
  have he : Tab.above 0 (t.erase k) = true := Tab.above_erase t k 0 h.1
  unfold Tab.put
  split
  · exact ⟨he, fun e hm => h.2 e (Tab.mem_erase hm)⟩
  · rename_i hv
    refine ⟨Tab.above_insert t k 0 v (Nat.zero_le _) he, fun e hm => ?_⟩
    rcases Tab.mem_insert hm with rfl | hm
    · exact hv
    · exact h.2 e (Tab.mem_erase hm)

end Sys2Proof.Machine
end

