-- ==== Sys2Proof/Laws/Request.lean ====
section
/-!
SUPPORT. Laws/Request.lean: a session's own write or read that is taken acts on the state in which it is in service, and is answered.
-/
namespace Sys2Proof.Machine

/-- Two states agree on what the checks of a request read. -/
structure State.sameChecks (s t : State) (q : Sess) : Prop where
  mode : t.mode = s.mode
  zheoc : t.zheoc.deposed = s.zheoc.deposed
  net : t.net = s.net
  fleet : t.fleet = s.fleet
  radio : t.radio = s.radio
  dict : t.dict = s.dict
  bootDict : t.bootDict = s.bootDict
  mbox : t.mbox = s.mbox
  blv : t.blv = s.blv
  open_ : (t.session q).open_ = (s.session q).open_
  granted : (t.session q).granted = (s.session q).granted
  cursors : (t.session q).cursors = (s.session q).cursors

theorem release_deposed (l : List (Nat × Nat)) (z : ZheocState) (n : Nat) : (z.release n l).deposed = z.deposed := by
  induction l generalizing z with
  | nil => rfl
  | cons x t ih =>
    unfold ZheocState.release
    split
    · exact ih _
    · rfl

theorem noteInput_deposed (s : State) : s.noteInput.zheoc.deposed = s.zheoc.deposed := by
  unfold State.noteInput
  split
  · exact release_deposed _ _ _
  · rfl

theorem serve_sameChecks (s : State) (q : Sess) (op : Nat) (o : ObjDesc) (d : List Byte) : s.sameChecks (s.serve q op o d) q := by
  have h : ∀ x, (s.updSession q x).session q = x (s.session q) := by
    intro x; simp [State.updSession, State.session, Tab.update]
  constructor <;> first
    | rfl
    | (unfold State.serve; split <;> simp [h])

theorem noteInput_sameChecks (s : State) (q : Sess) : s.sameChecks s.noteInput q := by
  constructor <;> first
    | exact noteInput_deposed s
    | simp [State.session]

theorem sameChecks_trans {s t u : State} {q : Sess} (h : s.sameChecks t q) (g : t.sameChecks u q) : s.sameChecks u q := by
  constructor
  · rw [g.mode, h.mode]
  · rw [g.zheoc, h.zheoc]
  · rw [g.net, h.net]
  · rw [g.fleet, h.fleet]
  · rw [g.radio, h.radio]
  · rw [g.dict, h.dict]
  · rw [g.bootDict, h.bootDict]
  · rw [g.mbox, h.mbox]
  · rw [g.blv, h.blv]
  · rw [g.open_, h.open_]
  · rw [g.granted, h.granted]
  · rw [g.cursors, h.cursors]

theorem begun_sameChecks (s : State) (q : Sess) (o : ObjDesc) (d : List Byte) : s.sameChecks (s.begun q o d) q :=
  sameChecks_trans (noteInput_sameChecks s q) (serve_sameChecks _ q 2 o d)

theorem sameChecks_operating {s t : State} {q : Sess} (h : s.sameChecks t q) : t.operating = s.operating := by
  unfold State.operating; rw [h.mode]

theorem sameChecks_reaches {s t : State} {q : Sess} (h : s.sameChecks t q) : t.reaches q = s.reaches q := by
  have w : t.isWorker = s.isWorker := by unfold State.isWorker State.bootReg State.bootRegAt; rw [h.mode, h.bootDict]
  have e : t.sessionOpen q = s.sessionOpen q := by
    cases q <;> simp only [State.sessionOpen, State.hasRole, sameChecks_operating h, w, h.mode, h.net, h.fleet, h.radio, h.open_]
  unfold State.reaches State.running
  rw [e, h.mode, h.zheoc]

theorem sameChecks_objCheck {s t : State} {q : Sess} (h : s.sameChecks t q) (o : ObjDesc) (w : Bool) : t.objCheck q o w = s.objCheck q o w := by
  have e : t.level q = s.level q := by simp [State.level, h.granted]
  simp [State.objCheck, State.bootServes, State.inRole, e, h.mode]

theorem sameChecks_instanceOf {s t : State} {q : Sess} (h : s.sameChecks t q) (o : ObjDesc) : t.instanceOf q o = s.instanceOf q o := by
  unfold State.instanceOf State.cursor
  rw [h.cursors]

theorem sameChecks_valueOk {s t : State} {q : Sess} (h : s.sameChecks t q) (o : ObjDesc) (i : Nat) (v : Int) : t.valueOk o i v = s.valueOk o i v := by
  have e : ∀ o i, t.regAt o i = s.regAt o i := fun o i => by unfold State.regAt; rw [h.dict]
  have n : ∀ o i, t.regNAt o i = s.regNAt o i := fun o i => by unfold State.regNAt; rw [e]
  have l : ∀ i f, t.loopAllows i f = s.loopAllows i f := fun i f => by unfold State.loopAllows; rw [h.blv]
  unfold State.valueOk State.rangeExtra State.reg
  simp only [e, n, l]

theorem sameChecks_ownTag {s t : State} {q : Sess} (h : s.sameChecks t q) : t.ownTag q = s.ownTag q := by
  cases q <;> simp [State.ownTag, h.mbox]

@[simp] theorem begun_instanceOf (s : State) (q : Sess) (o p : ObjDesc) (d : List Byte) : (s.begun q o d).instanceOf q p = s.instanceOf q p :=
  sameChecks_instanceOf (begun_sameChecks s q o d) p

@[simp] theorem begun_cursor (s : State) (q : Sess) (o p : ObjDesc) (d : List Byte) : (s.begun q o d).cursor q p = s.cursor q p := by
  unfold State.cursor; rw [(begun_sameChecks s q o d).cursors]

@[simp] theorem begun_cursorI (s : State) (q : Sess) (o p : ObjDesc) (d : List Byte) : (s.begun q o d).cursorI q p = s.cursorI q p := by
  unfold State.cursorI; rw [(begun_sameChecks s q o d).cursors]

@[simp] theorem begun_level (s : State) (q : Sess) (o : ObjDesc) (d : List Byte) : (s.begun q o d).level q = s.level q := by
  unfold State.level; rw [(begun_sameChecks s q o d).granted]

@[simp] theorem begun_operating (s : State) (q : Sess) (o : ObjDesc) (d : List Byte) : (s.begun q o d).operating = s.operating :=
  sameChecks_operating (begun_sameChecks s q o d)

@[simp] theorem begun_regAt (s : State) (q : Sess) (o p : ObjDesc) (i : Nat) (d : List Byte) : (s.begun q o d).regAt p i = s.regAt p i := by
  unfold State.regAt; rw [(begun_sameChecks s q o d).dict]

@[simp] theorem begun_reg (s : State) (q : Sess) (o p : ObjDesc) (d : List Byte) : (s.begun q o d).reg p = s.reg p := begun_regAt s q o p 0 d

@[simp] theorem begun_now (s : State) (q : Sess) (o : ObjDesc) (d : List Byte) : (s.begun q o d).now = s.now := by
  unfold State.now; rw [State.begun_clk]

@[simp] theorem asked_cursor (s : State) (q : Sess) (o p : ObjDesc) : (s.asked q o).cursor q p = s.cursor q p := by
  unfold State.cursor; rw [(serve_sameChecks s q 1 o []).cursors.symm]; rfl

/-- A ready session's own command goes on. -/
theorem ownRequest_ready {s : State} {q : Sess} (h : s.ready q) (f : State → State) : s.ownRequest q f = f s := by
  obtain ⟨hd, hm, ho, _⟩ := h
  have : ¬(q = .host ∧ s.mbox.state = .busy) := fun e => hm e.1 e.2
  simp [State.ownRequest, hd, ho]
  intro hq hb
  exact absurd ⟨hq, hb⟩ this

theorem ownWrite_ready {s : State} {q : Sess} (h : s.ready q) (f : State → State) : s.ownWrite q f = f s.noteInput :=
  ownRequest_ready h _

/-- A number write that is taken. -/
theorem writeCommand_taken {s : State} {q : Sess} {o : ObjDesc} {v : Int} (h : s.takesWrite q o v) (act : State → Except Abort State) :
    s.ownWrite q (fun s => s.writeCommand q o v act) =
      match act (s.begun q o (encodeValue o v)) with
      | .error a => s.nacked (s.begun q o (encodeValue o v)) q a
      | .ok u => s.acked u q [] := by
  obtain ⟨hr, hc, hv⟩ := h
  have b := begun_sameChecks s q o (encodeValue o v)
  have n := noteInput_sameChecks s q
  rw [ownWrite_ready hr]
  unfold State.writeCommand
  rw [sameChecks_reaches n, hr.2.2.2]
  have e : s.noteInput.serve q 2 o (encodeValue o v) = s.begun q o (encodeValue o v) := rfl
  simp only [e, sameChecks_objCheck b, hc, sameChecks_valueOk b, sameChecks_instanceOf b, hv, sameChecks_ownTag b]
  simp only [Bool.not_true, if_false, Bool.false_eq_true]
  cases act (s.begun q o (encodeValue o v)) <;> rfl

/-- A write of bytes that is taken. -/
theorem writeBytesCommand_taken {s : State} {q : Sess} {o : ObjDesc} {d : List Byte} (h : s.takesBytes q o d) (act : State → Except Abort State) :
    s.ownWrite q (fun s => s.writeBytesCommand q o d act) =
      match act (s.begun q o d) with
      | .error a => s.nacked (s.begun q o d) q a
      | .ok u => s.acked u q [] := by
  obtain ⟨hr, hc, hv⟩ := h
  have b := begun_sameChecks s q o d
  have n := noteInput_sameChecks s q
  rw [ownWrite_ready hr]
  unfold State.writeBytesCommand
  rw [sameChecks_reaches n, hr.2.2.2]
  have e : s.noteInput.serve q 2 o d = s.begun q o d := rfl
  simp only [e, sameChecks_objCheck b, hc, hv, sameChecks_ownTag b]
  simp only [Bool.not_true, if_false, Bool.false_eq_true]
  cases act (s.begun q o d) <;> rfl

/-- A read that is taken. -/
theorem readCommand_taken {s : State} {q : Sess} {o : ObjDesc} (h : s.takesRead q o) (act : State → Except Abort (List Byte × State)) :
    s.ownRequest q (fun s => s.readCommand q o act) =
      match act (s.asked q o) with
      | .error a => s.nacked (s.asked q o) q a
      | .ok r => s.acked r.2 q r.1 := by
  obtain ⟨hr, hc⟩ := h
  have b := serve_sameChecks s q 1 o []
  rw [ownRequest_ready hr]
  unfold State.readCommand
  rw [hr.2.2.2]
  have e : s.serve q 1 o [] = s.asked q o := rfl
  simp only [e] at b
  simp only [e, sameChecks_objCheck b, hc, sameChecks_ownTag b]
  simp only [Bool.not_true, if_false, Bool.false_eq_true]
  cases act (s.asked q o) <;> rfl

/-- A command that writes a number is answered without error where it acts. -/
theorem wrote {s u : State} {q : Sess} {o : ObjDesc} {v : Int} {c : Instr} {act : State → Except Abort State}
    (hx : exec c s = .next (s.settled (s.ownWrite q (fun s => s.writeCommand q o v act)))) (h : s.takesWrite q o v)
    (e : act (s.begun q o (encodeValue o v)) = .ok u) : exec c s = .next (s.settled (s.acked u q [])) := by
  rw [hx, writeCommand_taken h act, e]

/-- A command that writes a number is refused where its own rule refuses. -/
theorem wroteNot {s : State} {q : Sess} {o : ObjDesc} {v : Int} {c : Instr} {act : State → Except Abort State} {a : Abort}
    (hx : exec c s = .next (s.settled (s.ownWrite q (fun s => s.writeCommand q o v act)))) (h : s.takesWrite q o v)
    (e : act (s.begun q o (encodeValue o v)) = .error a) :
    exec c s = .next (s.settled (s.nacked (s.begun q o (encodeValue o v)) q a)) := by
  rw [hx, writeCommand_taken h act, e]

/-- A command that writes bytes is answered without error where it acts. -/
theorem wroteBytes {s u : State} {q : Sess} {o : ObjDesc} {d : List Byte} {c : Instr} {act : State → Except Abort State}
    (hx : exec c s = .next (s.settled (s.ownWrite q (fun s => s.writeBytesCommand q o d act)))) (h : s.takesBytes q o d)
    (e : act (s.begun q o d) = .ok u) : exec c s = .next (s.settled (s.acked u q [])) := by
  rw [hx, writeBytesCommand_taken h act, e]

/-- A command that reads is answered with its data where it acts. -/
theorem readBack {s u : State} {q : Sess} {o : ObjDesc} {d : List Byte} {c : Instr} {act : State → Except Abort (List Byte × State)}
    (hx : exec c s = .next (s.settled (s.ownRequest q (fun s => s.readCommand q o act)))) (h : s.takesRead q o)
    (e : act (s.asked q o) = .ok (d, u)) : exec c s = .next (s.settled (s.acked u q d)) := by
  rw [hx, readCommand_taken h act, e]

end Sys2Proof.Machine
end

