-- ==== Sys2Proof/Tests/Slice0.lean ====
section
/-!
SUPPORT. Slice0.lean: small checks. A witness shows, for one obligation, states and operands that meet the hypotheses of its clauses; a
test takes its expected value from the specification.
-/
-- In the package as one text each kernel evaluation below would hold a thread of its own while it waits.
set_option Elab.async false
namespace Sys2Proof.Tests
open Sys2Proof Sys2Proof.Machine

/-- A unit in a mode and role at a count, its time valid, with the host's session open at level Service. -/
def inMode (m : Mode) (r : Role) (n : Nat) : State :=
  ({ State.reset with
    mode := { State.reset.mode with current := m, role := some r }
    boot := { State.reset.boot with vioB33 := some true }
    power := { State.reset.power with converterOn := true, pgood := true, vsns := 12000 }
    clk := { State.reset.clk with c := BitVec.ofNat 64 n, valid := true } } : State).updSession .host (fun x => { x with open_ := true, granted := some .service })

/-- The same with a register's value. -/
def State.set (s : State) (o : ObjDesc) (v : Int) : State := s.setReg o v

/-- The same with a value in force since BOOT. -/
def State.boot (s : State) (o : ObjDesc) (v : Int) : State := { s with bootDict := Tab.put o.dflt s.bootDict (regKey o 0) v }

/-- The same with a cursor of the host's session. -/
def State.at_ (s : State) (o : ObjDesc) (v : Int) : State := s.updSession .host (fun x => { x with cursors := Tab.put 0 x.cursors o.addr v })

/-- The same at a count. -/
def State.tick (s : State) (n : Nat) : State := { s with clk := { s.clk with c := BitVec.ofNat 64 n } }

/-! ### Power and reset -/

/-- A state with the supply block as given. -/
def withPower (s : State) (f : PowerState → PowerState) : State := { s with power := f s.power }
def up0 : State := inMode .rover .rover 8000000000

/-- The same with VHOLD in a phase. -/
def phase0 (x : VholdPhase) : State := withPower up0 (fun p => { p with phase := x, chargeTime := 6000000000 })

/-- The same isolated for some ticks. -/
def isolated0 (n : Nat) : State := withPower up0 (fun p => { p with isolated := true, isolatedFor := n })

theorem witness_SupplyAndVholdStart :
    (State.reset.mode.current = .reset ∧ State.reset.power.converterOn = false ∧ belowVolts 12000 State.reset.startLevel = false ∧
      State.reset.power.isolated = false) ∧
    (let s := withPower State.reset (fun p => { p with converterOn := true })
     s.power.converterOn = true ∧ s.power.pgood = false) ∧
    ((phase0 .discharging).power.phase = .discharging ∧ 9499 < 9500) ∧
    (phase0 .charging).power.phase = .charging ∧
    ((phase0 .measuring).power.phase = .measuring ∧
      420 ≤ min 65535 ((50 * 72000 + 20 * 72000) / 12000) ∧ min 65535 ((50 * 71000 + 20 * 71000) / 12000) < 420) ∧
    (let s := phase0 .charging
     (s.power.phase = .charging ∨ s.power.phase = .measuring) ∧ ticksS (if s.power.fullThroughout then 3 else 8) ≤ s.power.chargeTime) ∧
    (let s : State := { up0 with boot := { up0.boot with nrstOutLow := true, nrstOutDue := some 8000000000 } }
     s.boot.nrstOutLow = true ∧ s.due s.boot.nrstOutDue = true) := by
  decide +kernel

theorem witness_SupplyWhileRunning :
    ((phase0 .armed).power.phase = .armed ∧ 21999 < 22000) ∧ (36000 < 36001 ∧ up0.power.isolated = false) ∧
    ((isolated0 1999999).power.isolated = true ∧ 34999 < 35000 ∧ (isolated0 1999999).running = true ∧
      (isolated0 1999999).power.isolatedFor < ticksMs 1) ∧
    (let s : State := { up0 with mode := { up0.mode with extRef := true } }
     s.running = true ∧ s.mode.extRef = true) := by
  decide +kernel

/-- A save of a kind under way in a mode. -/
def saving0 (k : SaveKind) (m : Mode) : State := withPower (inMode m .rover 8000000000) (fun p => { p with saving := some k })

theorem witness_ResetSources :
    (up0.power.pgood = true ∧ up0.mode.current ≠ .reset ∧ up0.mode.current ≠ .holdup ∧ up0.holdupWaits = false ∧ 5000 ≤ 5000 ∧ 999 < 1000) ∧
    (withPower State.reset (fun p => { p with pgood := true })).power.pgood = true ∧
    (spreadAllowed .core = true ∧ spreadAllowed .radio = false ∧ up0.mode.clockFail = none) ∧
    ((saving0 .holdup .holdup).mode.current = .holdup ∧ (saving0 .holdup .holdup).power.saving = some .holdup ∧ 6000 < 6001) ∧
    ((saving0 (.orderly .watchdog) .rover).power.saving = some (.orderly .watchdog) ∧ (saving0 (.orderly .watchdog) .rover).unarmedBoot = false) ∧
    ((saving0 (.orderly .resetRequest) .boot).power.saving = some (.orderly .resetRequest) ∧
      (saving0 (.orderly .resetRequest) .boot).unarmedBoot = true) := by
  decide +kernel

/-- A halted unit with the host's session below Service level. -/
def haltInt0 : State := (inMode .halt .rover 8000000000).updSession .host (fun x => { x with granted := some .integrator })

theorem witness_SavesBegin :
    (up0.running = true ∧ belowVolts 0 up0.sagLevel = true ∧ up0.unarmedBoot = false ∧ up0.power.isolated = false) ∧
    State.reset.running = false ∧
    ((inMode .boot .rover 0).unarmedBoot = true ∧ belowVolts 0 (inMode .boot .rover 0).sagLevel = true ∧
      (inMode .boot .rover 0).power.isolated = false) ∧
    ((isolated0 2000000).power.isolated = true ∧ ticksMs 1 ≤ (isolated0 2000000).power.isolatedFor ∧ (isolated0 2000000).running = true ∧
      (isolated0 2000000).unarmedBoot = false) ∧
    (let s := withPower (inMode .boot .rover 0) (fun p => { p with isolated := true, isolatedFor := 2000000 })
     s.power.isolated = true ∧ ticksMs 1 ≤ s.power.isolatedFor ∧ s.unarmedBoot = true) ∧
    (up0.operating = true ∧ up0.mode.current ≠ .service ∧ up0.power.saving = none) := by
  decide +kernel

theorem witness_ResetRequest :
    (up0.takesWrite .host Obj.resetRequest 165 ∧ (up0.mode.current ≠ .halt ∨ up0.level .host = .service) ∧ up0.power.saving = none) ∧
    ((saving0 (.orderly .watchdog) .rover).takesWrite .host Obj.resetRequest 165 ∧
      (saving0 (.orderly .watchdog) .rover).power.saving.isSome = true) ∧
    (haltInt0.takesWrite .host Obj.resetRequest 165 ∧ haltInt0.mode.current = .halt ∧ haltInt0.level .host ≠ .service) := by
  unfold State.takesWrite State.ready
  decide +kernel

/-- A block of one byte for the UART, sequence number 0. -/
def block0 : List Byte := [0, 0, 1, 0, 9] ++ (let c := crc16 [0, 0, 1, 0, 9]; [c.extractLsb' 8 8, c.extractLsb' 0 8])

/-- The empty block that ends an image. -/
def blockEnd0 : List Byte := [0, 0, 0, 0] ++ (let c := crc16 [0, 0, 0, 0]; [c.extractLsb' 8 8, c.extractLsb' 0 8])

/-- The lands as RESET ends, with straps that name a rover. -/
def lands0 : StartLands :=
  let low := (0, 0, 0)
  { nrstInHigh := true, pgoodHigh := true, unlocked := [], vsnsLow := 12000, badCopies := []
    straps := { role0 := low, role1 := (3300, 3300, 3300), bootSel0 := low, bootSel1 := low, dbgEn := low } }

/-- BOOT waits for an image on UART0. -/
def uart0 : State := { inMode .boot .rover 8000000000 with boot := { State.reset.boot with bootSel := 2, imageWait := true } }

theorem witness_StrapsAndUart :
    (let s := withPower State.reset (fun p => { p with pgood := true, vsns := 12000 })
     s.mode.current = .reset ∧ s.power.pgood = true ∧ lands0.pgoodHigh = true ∧ lands0.nrstInHigh = true ∧ lands0.unlocked = [] ∧
       belowVolts lands0.vsnsLow s.sagLevel = false ∧ (sampledBoot (readStraps s.draws lands0.straps) 3300 3300).strapFault = false) ∧
    State.reset.power.pgood = false ∧
    (uart0.awaitsImage true = true ∧ uartBlockGood uart0.gate.uart.seq block0 = true ∧ fieldU block0 2 2 ≠ 0) ∧
    (uartBlockGood uart0.gate.uart.seq blockEnd0 = true ∧ fieldU blockEnd0 2 2 = 0) ∧ uartBlockGood uart0.gate.uart.seq [] = false := by
  decide +kernel

/-! ### Modes, boot and the fleet stop -/

def unit0 (m : Mode) (r : Role) : State := inMode m r 8000000000
def air0 (m : Mode) (r : Role) : State := (State.boot (unit0 m r) Obj.radioRegion 1).updRadio (fun r => { r with on := true })

/-- A NRST_IN pulse waits. -/
def waits0 : State := { unit0 .rover .rover with pending := [.nrstInAssert 5000] }

theorem witness_HaltEntry :
    ((unit0 .rover .rover).resetWaits = false ∧ haltPermitted (unit0 .rover .rover).mode.current (unit0 .rover .rover).isWorker .stopFrame = true ∧
      (unit0 .rover .rover).mode.current ≠ .halt ∧ (unit0 .rover .rover).mode.role = some .rover) ∧
    (let s : State := { unit0 .rover .rover with mode := { (unit0 .rover .rover).mode with askedAt := some 8000000000 } }
     s.resetWaits = false ∧ haltPermitted s.mode.current s.isWorker .stopFrame = true ∧ s.sameCycle s.mode.askedAt = true) ∧
    ((unit0 .halt .rover).resetWaits = false ∧ (unit0 .halt .rover).mode.current = .halt ∧ HaltCause.stopInput ≠ .none) ∧
    waits0.resetWaits = true ∧ haltPermitted (unit0 .base .base).mode.current (unit0 .base .base).isWorker .stopFrame = false := by
  decide +kernel

/-- A rover with section 1 ON. -/
def sectionOn0 : State := { unit0 .rover .rover with kerb := { KerbState.initial with sections := [(1, { Section.idle with state := .on })] } }

/-- A base whose partner is in STANDBY and in step. -/
def paired0 : State := (unit0 .base .base).updZheoc (fun z => { z with
  acting := true, pair := .inStep, partner := some { device := [], frame := 0, mode := .standby, pair := .inStep, epoch := 0 } })

/-- A base that passes to STANDBY. -/
def passing0 : State := { unit0 .base .base with mode := { (unit0 .base .base).mode with transition := some .standby } }

/-- A unit that wakes now from SNAPSHOT. -/
def waking0 : State := (unit0 .snapshot .rover).updSnapshot (fun x => { x with wakeDue := some 8000000000 })

theorem witness_ModeRequests_held :
    ((unit0 .base .base).takesWrite .host Obj.modeRequest (modeCode .base) ∧ (unit0 .base .base).resetWaits = false ∧
      (unit0 .base .base).mode.transition = none ∧ requestOf .host .base = some (.modeRequestBase .host)) ∧
    (passing0.takesWrite .host Obj.modeRequest (modeCode .halt) ∧ passing0.mode.transition.isSome = true) ∧
    ((unit0 .relay .relay).takesWrite .host Obj.modeRequest (modeCode .rover) ∧ (unit0 .relay .relay).takesWrite .host Obj.modeRequest 4 ∧
      requestPermitted .relay .rover = false) ∧
    ((unit0 .standby .base).ready .host ∧ (unit0 .standby .base).mode.current = .standby ∧
      (unit0 .standby .base).objCheck .host Obj.modeRequest true = some abortAccess ∧ 1 ≤ levelCode ((unit0 .standby .base).level .host)) := by
  unfold State.takesWrite State.ready
  decide +kernel

theorem witness_ModeRequests_obeyed :
    (unit0 .snapshot .rover).takesWrite .host Obj.modeRequest 3 ∧
    ((unit0 .rover .rover).takesWrite .host Obj.modeRequest 6 ∧ (unit0 .rover .rover).sectionsOff = true ∧ (unit0 .rover .rover).axesAtRest = true) ∧
    (sectionOn0.takesWrite .host Obj.modeRequest 6 ∧ sectionOn0.sectionsOff = false) ∧
    (unit0 .rover .rover).takesWrite .host Obj.modeRequest 7 := by
  unfold State.takesWrite State.ready
  decide +kernel

theorem witness_ModeRequests_standby :
    (paired0.takesWrite .host Obj.modeRequest 5 ∧ paired0.mode.transition = none ∧ paired0.partnerReady = true ∧ paired0.resetWaits = false) ∧
    ((unit0 .base .base).takesWrite .host Obj.modeRequest 5 ∧ (unit0 .base .base).partnerReady = false) ∧
    (waking0.mode.current = .snapshot ∧ waking0.wakeReached = true) := by
  unfold State.takesWrite State.ready
  decide +kernel

theorem witness_DieTemperature :
    ((unit0 .rover .rover).running = true ∧ (unit0 .rover .rover).periodDue 0x20 (ticksMs 100) = true ∧ (115000 : Int) ≤ 140000) ∧
    ((unit0 .rover .rover).periodTaken 0x20 (ticksMs 100)).periodDue 0x20 (ticksMs 100) = false ∧ (140000 : Int) < 140001 := by decide +kernel

/-- A BOOT that is ready, and what its image holds. -/
def boot0 : State :=
  let s := unit0 .boot .rover
  { s with boot := { s.boot with imageLoaded := true, vioA33 := some true, vioB33 := some true }, power := { s.power with armed := true } }
def image0 : BootStart :=
  { queues := [], blv := { programs := [], stateBytes := 0, coefs := [], limits := [] }, values := [], strings := []
    changed := [], lacking := [] }

/-- The same with more state than fits. -/
def imageBad0 : BootStart := { image0 with blv := { image0.blv with stateBytes := 10000000 } }

/-- The same BOOT with a halt flag, and with a stop input. -/
def bootHalt0 : State := { boot0 with mode := { boot0.mode with haltFlag := some .lostBase } }
def bootStop0 : State := boot0.updCrier (fun c => { c with levelA := true })

theorem witness_BootEnds :
    (boot0.bootTarget = some .rover ∧ boot0.bootReady = true ∧ loadStatusOf image0.blv = 0 ∧ boot0.haltRestored .rover = none ∧
      boot0.crier.levelA = false ∧ boot0.crier.levelB = false) ∧
    (bootHalt0.bootReady = true ∧ bootHalt0.haltRestored .rover = some .lostBase) ∧
    (bootStop0.bootReady = true ∧ bootStop0.haltRestored .rover = none ∧ bootStop0.crier.levelA = true ∧ bootStop0.resetWaits = false) ∧
    (boot0.bootTarget.isSome = true ∧ loadStatusOf imageBad0.blv ≠ 0) ∧ (unit0 .boot .rover).bootReady = false := by
  decide +kernel

/-- A unit with channel B raised over CK_IO, and one whose levels have differed from the start. -/
def stopB0 : State := (unit0 .rover .rover).updCrier (fun c => { c with levelB := true, bIo := true })
def differ0 : State := (unit0 .rover .rover).updCrier (fun c => { c with differsFrom := some 0 })

theorem witness_StopInputs :
    ((unit0 .rover .rover).levelOf .a = false ∧ (unit0 .rover .rover).resetWaits = false ∧ (unit0 .rover .rover).mode.role ≠ some .base) ∧
    ((air0 .base .base).levelOf .a = false ∧ (air0 .base .base).resetWaits = false ∧ (air0 .base .base).radio.on = true ∧
      (air0 .base .base).crier.event = none) ∧
    ((unit0 .service .base).levelOf .b = false ∧ stopB0.levelOf .b = true) ∧
    (differ0.crier.differsFrom = some 0 ∧ differ0.operating = true ∧ differ0.crier.discrepancy = false ∧
      0 + ticksMs (differ0.regN Obj.stopDiscrepancyTime) < differ0.now) := by
  decide +kernel

/-- A stop event of which copy 1 of transceiver A is due. -/
def event0 : StopEvent :=
  { cause := 1, origin := 0, dst := 0xFF, time := 4000000000, stopId := 1, copiesA := 0, copiesB := 3, nextA := 8000000000, nextB := 0, mapA := 1
    chanA := 0, chanB := 0 }

/-- A base that sends it, one whose beaconing is withdrawn, and a rover that has lost its base. -/
def sends0 : State := (air0 .halt .base).updCrier (fun c => { c with event := some event0 })
def withdrawn0 : State := (air0 .base .base).updCrier (fun c => { c with withdrawn := true })
def lost0 : State := (air0 .rover .rover).updRadio (fun r => { r with conn := .connected, missed := 3 })

theorem withdrawn0_use (sub : Nat) : withdrawn0.subUse sub true = 0 := rfl

theorem witness_StopCopiesAndLostBase :
    (sends0.mayStop = true ∧ sends0.crier.event = some event0 ∧ event0.copiesA < 3 ∧ event0.nextA ≤ sends0.now ∧ 3 ≤ event0.copiesB ∧
      sends0.reserveHolds (sends0.subBand event0.mapA event0.chanA) event0.chanA = true) ∧
    (withdrawn0.crier.withdrawn = true ∧ withdrawn0.mayStop = true ∧ withdrawn0.region ≠ 2) ∧
    (lost0.mode.current = .rover ∧ lost0.mode.role = some .rover ∧ lost0.farSide = true ∧ lost0.linked = true ∧ 3 ≤ lost0.radio.missed ∧
      lost0.radio.lostBase = false ∧ lost0.resetWaits = false) := by
  decide +kernel

theorem witness_BeaconResume : ∀ x ∈ withdrawn0.baseChannels, withdrawn0.subUse (withdrawn0.subBand x.1 x.2) true + 8 * withdrawn0.stopUs ≤ withdrawn0.stopReserve := by
  intro x _
  rw [withdrawn0_use]
  decide +kernel

/-- A stop frame of a base, and one cut short. -/
def stop0 : AirFrame :=
  { type := 0xA, ttl := 1, flood := false, src := 0x83, dst := 0xFF, net := 0, first := true, last := true, fseq := 1, mic := [0, 0, 0, 0]
    body := List.replicate 25 0 }

theorem stop0_wf : stop0.wf := by unfold AirFrame.wf; decide +kernel

/-- A rover that acts on a stop whose frame it verifies, and that frame. -/
def verify0 : State := ((air0 .halt .rover).updCrier (fun c => { c with acting := true })).updRadio (fun r => { r with groupKey := some (List.replicate 16 1) })
def stopSealed0 : AirFrame := sealFrame (List.replicate 16 1) verify0.netFleet stop0 verify0.interval

theorem stopSealed0_wf : stopSealed0.wf := sealFrame_wf _ _ _ _ stop0_wf

theorem stopSealed0_open : firstOpen (List.replicate 16 1) verify0.netFleet stopSealed0 (verify0.tryIntervals stopSealed0) = some (verify0.interval, stop0.body) := by
  have h : verify0.tryIntervals stopSealed0 = [verify0.interval] := by simp [State.tryIntervals, stopSealed0, sealFrame, stop0]
  rw [h, firstOpen, stopSealed0, openFrame_seal]

theorem witness_StopFrames :
    ((air0 .rover .rover).heeds ∧ (air0 .rover .rover).resetWaits = false ∧ (air0 .rover .rover).hearsStops = true ∧
      (air0 .rover .rover).headerPasses (stopSync ((air0 .rover .rover).regN Obj.joinFleetId)) stop0.bytes = true) ∧
    (air0 .rover .rover).headerPasses 0 [] = false ∧
    (verify0.heeds ∧ verify0.crier.acting = true ∧ verify0.mode.role = some .rover ∧ verify0.radio.groupKey = some (List.replicate 16 1)) ∧
    (hcsOk stopSealed0.bytes = true ∧ frameCrcOk stopSealed0.bytes = true) ∧ frameCrcOk [] = false := by
  unfold State.heeds
  refine ⟨⟨by decide +kernel, by decide +kernel, by decide +kernel, ?_⟩, by decide +kernel, by decide +kernel,
    ⟨hcsOk_bytes _ stopSealed0_wf, frameCrcOk_bytes _ stopSealed0_wf⟩, by decide +kernel⟩
  simp only [State.headerPasses, parseFrame_bytes _ stop0_wf, hcsOk_bytes _ stop0_wf]
  decide +kernel

theorem witness_StopVerified :
    firstOpen (List.replicate 16 1) verify0.netFleet (parseFrame stopSealed0.bytes) (verify0.tryIntervals (parseFrame stopSealed0.bytes)) =
      some (verify0.interval, stop0.body) ∧
    laterThan (Tab.get none verify0.radio.accepted (parseFrame stopSealed0.bytes).src) verify0.interval (parseFrame stopSealed0.bytes).fseq = true := by
  rw [parseFrame_bytes _ stopSealed0_wf]
  exact ⟨stopSealed0_open, by decide +kernel⟩

/-- A relay in HALT since an earlier cycle. -/
def halt0 (r : Role) (m : Mode) (c : HaltCause) : State :=
  let s := unit0 .halt r
  { s with mode := { s.mode with haltCause := c, heldBeforeHalt := some m, haltAt := some 0 } }

/-- A connected rover in HALT with slot 5, that heard a beacon without HALTED. -/
def haltRover0 : State :=
  let s := State.boot (halt0 .rover .rover .stopFrame) Obj.radioRegion 1
  let s := s.updRadio (fun r => { r with on := true, conn := .connected, netBase := 3, sessionKey := some (List.replicate 16 2) })
  State.set (s.updCrier (fun c => { c with unhalted := some 8000000000 })) Obj.assignedSlot 5

/-- A release frame to slot 5. -/
def release0 : AirFrame := { stop0 with type := 0xB, dst := 5, net := 3, body := List.replicate 12 0 }

/-- The same relay with a stop input held, and a worker that its manager halted. -/
def haltRelay0 : State := halt0 .relay .relay .modeRequest
def haltHeld0 : State := haltRelay0.updCrier (fun c => { c with levelA := true })
def haltWorker0 : State := State.boot (halt0 .base .base .propagated) Obj.baseSubRole 1

/-- A base with a halted machine connected in slot 5. -/
def haltedSlot0 : State := (unit0 .base .base).setSlot 5 { SlotConn.free with state := .connected, halted := true }

/-- The head of a message of a peer's base link. -/
def linkHead0 : LinkHead := { peer := 0, epoch := 1, seq := 1, tagOk := true }

theorem witness_Releases :
    (haltRelay0.takesWrite .host Obj.releaseRequest 0x5A ∧ haltRelay0.resetWaits = false ∧ haltRelay0.mode.current = .halt ∧
      haltRelay0.mode.heldBeforeHalt = some .relay ∧ haltRelay0.stopHeld = false ∧ haltRelay0.sameCycle haltRelay0.mode.haltAt = false ∧
      haltRelay0.isWorker = false ∧ haltRelay0.mode.role ≠ some .rover) ∧
    (haltHeld0.takesWrite .host Obj.releaseRequest 0x5A ∧ haltHeld0.stopHeld = true ∧ haltHeld0.sameCycle haltHeld0.mode.haltAt = false) ∧
    (haltedSlot0.takesWrite .host Obj.releaseMachines 255 ∧ haltedSlot0.mode.current ≠ .halt ∧ haltedSlot0.connectedSlots = [5]) ∧
    ((unit0 .halt .base).takesWrite .host Obj.releaseMachines 255 ∧ (unit0 .halt .base).mode.current = .halt) := by
  unfold State.takesWrite State.ready
  decide +kernel

theorem haltRover0_receives : ∃ f m, haltRover0.receive f =
    ((haltRover0.updRadio (fun r => { r with accepted := Tab.put none r.accepted release0.src (some (haltRover0.interval, release0.fseq)) })).noteInput,
      some { release0 with mic := m }) := by
  have hw : release0.wf := by unfold AirFrame.wf; decide +kernel
  have hk : haltRover0.frameKey release0 = some (List.replicate 16 2) := rfl
  have hl : laterThan (Tab.get none haltRover0.radio.accepted release0.src) haltRover0.interval release0.fseq = true := by decide +kernel
  exact ⟨_, _, receive_sealed haltRover0 release0 (List.replicate 16 2) hw (by decide) (by decide) (by decide) hk hl⟩

theorem witness_ReleaseFrame :
    (∃ f x, (haltRover0.receive f).2 = some x ∧ x.type = 0xB ∧ x.dst = (haltRover0.receive f).1.regN Obj.assignedSlot ∧
      (haltRover0.receive f).1.releaseCode false = 0) ∧
    (haltRover0.heeds ∧ haltRover0.mode.current = .halt ∧ haltRover0.hearsStops = true ∧ haltRover0.mode.role = some .rover ∧
      haltRover0.mode.heldBeforeHalt = some .rover) ∧
    (haltWorker0.heeds ∧ (haltWorker0.acceptLink linkHead0).2 = true ∧ haltWorker0.isWorker = true ∧ haltWorker0.mode.current = .halt ∧
      haltWorker0.mode.haltCause = .propagated ∧ (haltWorker0.acceptLink linkHead0).1.releaseCode true = 0 ∧
      haltWorker0.mode.heldBeforeHalt = some .base) := by
  unfold State.heeds
  refine ⟨?_, by decide +kernel, by decide +kernel⟩
  obtain ⟨f, m, h⟩ := haltRover0_receives
  refine ⟨f, _, by rw [h], rfl, ?_, ?_⟩
  · rw [h]; simp only [State.updRadio]; decide +kernel
  · rw [h]; simp only [State.updRadio]; decide +kernel

/-- A worker and a manager on the air, and a base with two machines connected of which nothing is known. -/
def worker0 : State := State.boot (air0 .base .base) Obj.baseSubRole 1
def manager0 : State := State.set (air0 .base .base) Obj.stopScope 1
def twoMachines0 : State := ((air0 .base .base).setSlot 5 { SlotConn.free with state := .connected }).setSlot 6 { SlotConn.free with state := .connected }

theorem witness_StopsAcrossBases :
    (worker0.heeds ∧ worker0.resetWaits = false ∧ worker0.isWorker = true ∧ worker0.mode.current = .base ∧ worker0.radio.on = true ∧
      worker0.crier.event = none) ∧
    (manager0.heeds ∧ manager0.isManager = true ∧ manager0.reg Obj.stopScope = 1 ∧ manager0.radio.on = true) ∧
    (twoMachines0.isBase = true ∧ twoMachines0.fleet.checkedAt ≠ some (twoMachines0.time64 / 100000000 * 100000000) ∧
      twoMachines0.connectedSlots = [5, 6] ∧ twoMachines0.classify (twoMachines0.time64 / 100000000 * 100000000) 5 6 ≠ 2) := by
  unfold State.heeds
  decide +kernel

/-! ### Radio -/

def radioOf (s : State) : State :=
  (State.boot s Obj.radioRegion 1).updRadio (fun r => { r with on := true, conn := .scanning, netBase := 3, groupKey := some (List.replicate 16 1) })
def base1 : State := radioOf (inMode .base .base 8000000000)
def rover1 : State := (radioOf (inMode .rover .rover 8000000000)).updRadio (fun r => { r with groupKey := none, sessionKey := some (List.replicate 16 2) })
def relay1 : State := radioOf (inMode .relay .relay 8000000000)
/-- A connected rover in slot 5. -/
def rover2 : State := State.set (rover1.updRadio (fun r => { r with conn := .connected })) Obj.assignedSlot 5
/-- A base with slot 5 connected. -/
def base2 : State := base1.updRadio (fun r => { r with slots := [(5, { SlotConn.free with state := .connected, key := List.replicate 16 1 })] })
/-- Any frame of the base in its window. -/
def frame1 : AirFrame :=
  { type := 3, ttl := 1, flood := false, src := 0x80, dst := 5, net := 0, first := true, last := true, fseq := 1, body := [1, 2, 3], mic := [0, 0, 0, 0] }

theorem airFree_fresh (s : State) (phy map : Nat) (hu : s.radio.uses = []) (hr : s.region ≠ 2) (h : airUs phy 269 + s.stopReserve ≤ 3600000) :
    s.airFree phy map := by
  intro n hn
  have h1 : airUs phy n ≤ airUs phy 269 := by
    unfold airUs
    exact Nat.div_le_div_right (Nat.mul_le_mul_right _ (by omega))
  have h2 : ∀ sub, s.subUse sub false = 0 := by intro sub; simp [State.subUse, hu]
  have h3 : ∀ sub, 1 ≤ dutyLimit sub := by
    intro sub; unfold dutyLimit; split <;> decide
  simp only [State.airHolds, hr, if_false, h2, decide_eq_true_eq, State.normalBudget]
  have := h3 (s.subBand map (s.channelOf map phy))
  omega

/-- The bytes of a well-formed frame pass their checks and read back as the frame. -/
theorem whole (f : AirFrame) (h : f.wf) : hcsOk f.bytes = true ∧ frameCrcOk f.bytes = true ∧ parseFrame f.bytes = f :=
  ⟨hcsOk_bytes f h, frameCrcOk_bytes f h, parseFrame_bytes f h⟩

/-- A relay that heard a beacon. -/
def relay2 : State := State.set (relay1.updRadio (fun r => { r with beaconBody := List.replicate 123 7 })) Obj.beaconTtl 2
/-- A base in the middle of a record. -/
def base3 : State := base2.updRadio (fun r => { r with window := [frame1], windowAt := 40, windowUs := 3000 })
/-- The same with its air used up. -/
def spent1 : State := base3.updRadio (fun r => { r with uses := [{ sub := 0, chan := 0, sideB := false, at_ := 8000000000, us := 359999999, reserve := false }] })

theorem witness_DownlinkSends_beacon :
    (base1.beaconing = true ∧ base1.radio.windowAt ≠ base1.intervalFull ∧ base1.stepInterval.map (·.1) ≠ some base1.intervalFull) ∧
    base1.airFree base1.downPhy 0 ∧ (rover1.beaconing = false ∧ base3.radio.windowAt = base3.intervalFull) :=
  ⟨by decide +kernel, airFree_fresh _ _ _ rfl (by decide +kernel) (by decide +kernel), by decide +kernel⟩

theorem witness_DownlinkSends_copy :
    (relay2.farSide = true ∧ relay2.mode.role = some .relay ∧ relay2.radio.groupKey.isSome = true ∧ relay2.radio.hops + 1 < relay2.regN Obj.beaconTtl ∧
      relay2.radio.missed = 0 ∧ relay2.radio.beaconBody.length = 123) ∧ relay2.airFree relay2.downPhy 0 ∧ relay1.radio.beaconBody.length ≠ 123 :=
  ⟨by decide +kernel, airFree_fresh _ _ _ rfl (by decide +kernel) (by decide +kernel), by decide +kernel⟩

theorem witness_DownlinkSends_frame :
    (base3.baseSends = true ∧ base3.radio.windowAt = base3.intervalFull ∧ base3.judgeBudget.radio.budgetLow = false ∧
      frame1.body.length ≤ 240 ∧ frame1.mic.length = 4 ∧ base3.downUs frame1 ≤ base3.windowLeft) ∧
    (∃ u, base3.judgeBudget.nextDown = some (frame1 :: [], u)) ∧ base3.airFree (base3.framePhy frame1) 0 ∧
    rover1.baseSends = false ∧ (spent1.radio.windowAt = spent1.intervalFull ∧ spent1.judgeBudget.radio.budgetLow = true) :=
  ⟨by decide +kernel, ⟨_, rfl⟩, airFree_fresh _ _ _ rfl (by decide +kernel) (by decide +kernel), by decide +kernel, by decide +kernel⟩

/-- A beacon without its MIC: one of a base 3 at 4 s, halted or not. -/
def beacon1 (flags : Nat) : AirFrame :=
  { type := 0, ttl := 1, flood := false, src := 0x83, dst := 0xFF, net := 3, first := true, last := true, fseq := 1, mic := [0, 0, 0, 0],
    body := leBytes 2 0 ++ leBytes 1 3 ++ leBytes 1 flags ++ leInt 8 4000000000 ++ List.replicate 6 0 ++ leBytes 8 15 ++ List.replicate 97 0 }

theorem beacon1_wf (flags : Nat) : (beacon1 flags).wf := by
  have : (leInt 8 4000000000).length = 8 := by decide +kernel
  unfold AirFrame.wf
  simp [beacon1, leBytes_length, this]

/-- A rover that looks for any base. -/
def rover3 : State := State.set rover1 Obj.joinBaseIndex 0xFF

theorem witness_BeaconReception_scanning :
    (rover3.farSide = true ∧ rover3.radio.conn = .scanning ∧ rover3.radio.groupKey = none ∧ rover3.regN Obj.joinBaseIndex = 0xFF ∧
      rover3.mode.role = some .rover ∧ rover3.mode.current ≠ .halt) ∧
    (∃ b, (hcsOk b = true ∧ frameCrcOk b = true) ∧ rover3.heeds ∧ (parseFrame b).type = 0 ∧ (parseFrame b).body.length = 123 ∧
      fieldU (parseFrame b).body 0 2 = rover3.regN Obj.joinFleetId ∧ bit (fieldU (parseFrame b).body 3 1) 0 = false) ∧
    (∃ b, (hcsOk b = true ∧ frameCrcOk b = true) ∧ (parseFrame b).type = 0 ∧ (parseFrame b).body.length = 123 ∧
      fieldU (parseFrame b).body 0 2 = rover3.regN Obj.joinFleetId ∧ bit (fieldU (parseFrame b).body 3 1) 0 = true) := by
  have a := whole _ (beacon1_wf 0)
  have b := whole _ (beacon1_wf 1)
  exact ⟨by decide +kernel, ⟨_, ⟨a.1, a.2.1⟩, by rw [a.2.2]; unfold State.heeds; decide +kernel⟩, ⟨_, ⟨b.1, b.2.1⟩, by rw [b.2.2]; decide +kernel⟩⟩

/-- A relay with a connection, without and with a model of its base's clock. -/
def relay3 : State := relay1.updRadio (fun r => { r with conn := .connected })
def relay4 : State := relay3.updRadio (fun r => { r with model := some (0, 10000000, 0) })

/-- A frame that a peer seals for a state reaches it. -/
theorem receives (s : State) (f : AirFrame) (key : List Byte) (h : f.wf) (ht : f.type < 13 ∧ f.type ≠ 6 ∧ f.type ≠ 7)
    (hk : s.frameKey f = some key) (hl : laterThan (Tab.get none s.radio.accepted f.src) s.interval f.fseq = true) :
    ∃ b u g, s.receive b = (u, some g) ∧ parseFrame b = sealFrame key s.netFleet f s.interval ∧ u.radio.conn = s.radio.conn ∧
      g = { f with mic := frameMic key s.netFleet f s.interval } :=
  ⟨_, _, _, receive_sealed s f key h ht.1 ht.2.1 ht.2.2 hk hl, parseFrame_bytes _ (sealFrame_wf key s.netFleet f s.interval h), by simp [State.updRadio], rfl⟩

theorem heeds_relay3 : relay3.heeds := by unfold State.heeds; decide +kernel

theorem witness_BeaconReception_linked :
    (relay3.heeds ∧ relay3.farSide = true ∧ relay3.mode.role = some .relay ∧ relay3.radio.conn = .connected ∧ relay3.radio.groupKey.isSome = true) ∧
    (∃ b u f, relay3.receive b = (u, some f) ∧ (f.type = 0 ∧ f.body.length = 123 ∧ fieldU f.body 2 1 % 16 = relay3.radio.netBase) ∧
      relay3.beaconWindow (parseFrame b).body (relay3.stampTick Obj.rfARxAsym 8000000000) = true ∧
      u.counterWrong f.body (relay3.stampTick Obj.rfARxAsym 8000000000) = false) ∧
    (∃ b, relay4.beaconWindow (parseFrame b).body (relay4.stampTick Obj.rfARxAsym 8000000000) = false) := by
  obtain ⟨b, u, g, h, e1, e2, e3⟩ := receives relay3 (beacon1 0) (List.replicate 16 1) (beacon1_wf 0) (by decide) rfl (by decide +kernel)
  have hc : u.radio.conn = .connected := by rw [e2]; rfl
  exact ⟨⟨heeds_relay3, by decide +kernel⟩, ⟨b, u, g, h, by rw [e3]; decide +kernel, by simp [State.beaconWindow, relay3, relay1, radioOf, State.updRadio, State.boot, inMode, State.updSession, State.reset, RadioState.initial],
    by simp [State.counterWrong, hc]⟩, ⟨(beacon1 0).bytes, by rw [(whole _ (beacon1_wf 0)).2.2]; decide +kernel⟩⟩

/-- An announced step of 7 ns at 4 s and at 5 s. -/
def stepped1 (n : Int) : State := { rover1 with clk := { rover1.clk with announced := some { at_ := n, parts := [7] } } }

theorem witness_BeaconReception_missed :
    (rover2.farSide = true ∧ rover2.radio.conn = .connected) ∧
    (let s := rover1.updRadio (fun r => { r with conn := .synced, missed := 2 })
     s.farSide = true ∧ s.radio.conn = .synced ∧ 2 ≤ s.radio.missed) ∧
    ((stepped1 4000000000).farSide = true ∧ 4000000000 ≤ (stepped1 4000000000).netTime ∧ (stepped1 5000000000).netTime < 5000000000) := by
  decide +kernel

/-- The same with a fleet admission key, and allowed to ask. -/
def mayAsk1 : State :=
  (State.set rover1 Obj.connectionEnable 1).setKeyCopy 6 0 (some { kind := 3, state := 1, gen := 1, key := List.replicate 32 5, factory := false })
/-- An admission request. -/
def request1 : AirFrame :=
  { type := 6, ttl := 1, flood := false, src := 0xFE, dst := 0x80, net := 0, first := true, last := true, fseq := 1, mic := [0, 0, 0, 0],
    body := leBytes 4 9 ++ leBytes 2 0 ++ leBytes 1 255 ++ leBytes 1 1 ++ leBytes 2 0 ++ List.replicate 90 1 }
/-- A grant. -/
def grant1 : AirFrame := { request1 with type := 7, body := grantBody 9 0 5 0 (List.replicate 64 0) (List.replicate 24 0) }

/-- A rover that may ask, synced, and one whose request went. -/
def synced1 : State := mayAsk1.updRadio (fun r => { r with conn := .synced })
def asked1 : State := mayAsk1.updRadio (fun r => { r with conn := .admitting, retryDue := some 8000000000 })
def granted1 : State := rover1.updRadio (fun r => { r with conn := .admitting, tempId := 9 })

theorem witness_Admission_asks :
    (synced1.farSide = true ∧ synced1.radio.conn = .synced ∧ synced1.mayAsk = true) ∧
    (asked1.farSide = true ∧ asked1.radio.conn = .admitting ∧ asked1.mayAsk = true ∧ asked1.due asked1.radio.retryDue = true) ∧ rover1.mayAsk = false := by
  decide +kernel

theorem request1_wf : request1.wf := by unfold AirFrame.wf; decide +kernel
theorem grant1_wf : grant1.wf := by unfold AirFrame.wf; decide +kernel

theorem witness_Admission_answers :
    (∃ b, (hcsOk b = true ∧ frameCrcOk b = true) ∧ base1.heeds ∧ base1.baseSends = true ∧ (parseFrame b).type = 6 ∧ (parseFrame b).body.length = 100 ∧
       fieldU (parseFrame b).body 4 2 = (base1.bootReg Obj.fleetId).toNat) ∧
    (∃ b, (hcsOk b = true ∧ frameCrcOk b = true) ∧ granted1.heeds ∧ granted1.farSide = true ∧ granted1.radio.conn = .admitting ∧
       (parseFrame b).type = 7 ∧ (parseFrame b).body.length = 96 ∧ fieldU (parseFrame b).body 0 4 = granted1.radio.tempId) := by
  have a := whole _ request1_wf
  have b := whole _ grant1_wf
  exact ⟨⟨_, ⟨a.1, a.2.1⟩, by rw [a.2.2]; unfold State.heeds; decide +kernel⟩, ⟨_, ⟨b.1, b.2.1⟩, by rw [b.2.2]; unfold State.heeds; decide +kernel⟩⟩

theorem witness_Admission_rollover :
    ((State.tick base1 0).baseSends = true ∧ (State.tick base1 0).interval = 0 ∧ (State.tick base1 0).radio.rolledAt ≠ some (State.tick base1 0).intervalFull) ∧
    base1.interval ≠ 0 := by
  decide +kernel

/-- A frame of slot 5 to the base. -/
def up1 (type : Nat) (body : List Byte) : AirFrame :=
  { type := type, ttl := 1, flood := false, src := 5, dst := 0x80, net := 0, first := true, last := true, fseq := 1, mic := [0, 0, 0, 0], body := body }

/-- A frame of the base to slot 5 of rover 2. -/
def down0 (type : Nat) : AirFrame := { up1 type [] with src := 0x83, dst := 5, net := 3 }
theorem heeds_base2 : base2.heeds := by unfold State.heeds; decide +kernel
theorem heeds2 : rover2.heeds := by unfold State.heeds; decide +kernel

theorem witness_ConnectionsEnd_timeout :
    (let s := State.tick rover2 800000000000
     s.farSide = true ∧ s.linked = true ∧ s.radio.heard + ticksMs (s.regN Obj.supervisionTimeout) ≤ s.now) ∧
    (let s := State.tick base2 800000000000
     s.isBase = true ∧ s.slotLive 5 = true ∧ (s.slot 5).heard + ticksMs (s.regN Obj.supervisionTimeout) ≤ s.now) ∧
    ((State.tick rover2 8).now < (State.tick rover2 8).radio.heard + ticksMs ((State.tick rover2 8).regN Obj.supervisionTimeout)) ∧
    ((State.tick base2 8).now < ((State.tick base2 8).slot 5).heard + ticksMs ((State.tick base2 8).regN Obj.supervisionTimeout)) := by
  decide +kernel

theorem witness_ConnectionsEnd_terminate :
    (∃ u b f, base2.receive b = (u, some f) ∧ base2.heeds ∧ base2.operating = true ∧ base2.radio.on = true ∧ f.type = 8 ∧
      base2.mode.role = some .base ∧ base2.slotLive f.src = true) ∧
    (∃ u b f, rover2.receive b = (u, some f) ∧ rover2.heeds ∧ rover2.operating = true ∧ rover2.radio.on = true ∧ f.type = 8 ∧
      rover2.mode.role = some .rover ∧ rover2.linked = true ∧ f.dst = rover2.regN Obj.assignedSlot) := by
  obtain ⟨b, u, g, h, _, _, e⟩ := receives base2 (up1 8 []) (List.replicate 16 1) (by unfold AirFrame.wf; decide +kernel) (by decide) (by decide +kernel) (by decide +kernel)
  obtain ⟨b', u', g', h', _, _, e'⟩ := receives rover2 (down0 8) (List.replicate 16 2) (by unfold AirFrame.wf; decide +kernel) (by decide) (by decide +kernel) (by decide +kernel)
  exact ⟨⟨u, b, g, h, heeds_base2, by rw [e]; decide +kernel⟩, ⟨u', b', g', h', heeds2, by rw [e']; decide +kernel⟩⟩

theorem witness_ConnectionsEnd_writes :
    rover1.takesWrite .host Obj.connectionEnable 0 ∧
    (let s := rover2.updRadio (fun r => { r with conn := .closing })
     s.takesWrite .host Obj.connectionEnable 1 ∧ s.radio.conn = .closing) ∧
    (let s := rover2.updRadio (fun r => { r with conn := .idle })
     s.takesWrite .host Obj.connectionEnable 1 ∧ s.radio.conn = .idle ∧ s.radio.on = true) ∧
    (let s := State.at_ base2 Obj.slotCursor 5
     s.takesWrite .host Obj.slotEnable 0 ∧ (s.slot (s.instanceOf .host Obj.slotEnable)).state = .connected) ∧
    (let s := State.at_ (base2.setSlot 5 { base2.slot 5 with state := .closing }) Obj.slotCursor 5
     s.takesWrite .host Obj.slotEnable 1 ∧ (s.slot (s.instanceOf .host Obj.slotEnable)).state = .closing) := by
  unfold State.takesWrite State.ready
  decide +kernel

/-- A rover that closes. -/
def closing1 : State := rover2.updRadio (fun r => { r with conn := .closing })

theorem witness_UplinkReports_sends :
    (rover2.farSide = true ∧ rover2.mode.role = some .rover ∧ rover2.linked = true ∧ rover2.radio.conn ≠ .closing ∧ rover2.regN Obj.assignedSlot < 128 ∧
       rover2.radio.missed = 0 ∧ rover2.seized = false ∧ 0 ≤ signedDiff 16 rover2.eventCounter rover2.radio.firstEvent) ∧
    (rover2.airFree rover2.upPhy 1 ∧ rover2.airFree rover2.upPhy 2) ∧ (closing1.airFree closing1.upPhy 1 ∧ closing1.airFree closing1.upPhy 2) ∧
    (closing1.farSide = true ∧ closing1.radio.conn = .closing ∧ closing1.regN Obj.assignedSlot < 128 ∧
       closing1.radio.missed = 0 ∧ closing1.seized = false ∧ 0 ≤ signedDiff 16 closing1.eventCounter closing1.radio.firstEvent) ∧ rover1.linked = false :=
  ⟨by decide +kernel, ⟨airFree_fresh _ _ _ rfl (by decide +kernel) (by decide +kernel), airFree_fresh _ _ _ rfl (by decide +kernel) (by decide +kernel)⟩,
    ⟨airFree_fresh _ _ _ rfl (by decide +kernel) (by decide +kernel), airFree_fresh _ _ _ rfl (by decide +kernel) (by decide +kernel)⟩, by decide +kernel, by decide +kernel⟩

/-- The count of the sync word of slot 5's report at its nominal instant. -/
def onTime : Nat := 2 * (base2.positionNs 5 + 250000 + syncNs base2.upPhy + 3 * base2.ciNs).toNat

theorem witness_UplinkReports_heard :
    (∃ u b f, base2.receive b = (u, some f) ∧ (base2.heeds ∧ base2.isBase = true ∧ base2.radio.on = true) ∧ (f.type = 4 ∧ base2.slotLive f.src = true ∧
      f.src < 128 ∧ 32 ≤ f.body.length ∧ f.flood = false) ∧ (bit (fieldU f.body 0 1) 0 = false ∧ bit (fieldU f.body 0 1) 1 = false) ∧
      base2.slotWindow (parseFrame b) (base2.stampTick (base2.reportSide (parseFrame b)) onTime) = true) ∧
    base2.slotWindow (up1 4 []) (base2.stampTick (base2.reportSide (up1 4 [])) (onTime + 500000)) = false ∧ (base2.slot 5).state = .connected := by
  obtain ⟨b, u, g, h, e1, _, e⟩ := receives base2 (up1 4 (List.replicate 32 0)) (List.replicate 16 1) (by unfold AirFrame.wf; decide +kernel) (by decide) (by decide +kernel) (by decide +kernel)
  exact ⟨⟨u, b, g, h, ⟨heeds_base2, by decide +kernel⟩, by rw [e]; decide +kernel, by rw [e]; decide +kernel, by rw [e1]; decide +kernel⟩, by decide +kernel, by decide +kernel⟩

/-- A sealed copy that waits for a clear channel. -/
def try1 : LbtTry := { frame := request1, sealed_ := true, attempt := 1, due := 0, sideB := true, map := 2, phy := 1 }
/-- A flooded frame. -/
def flooded1 : AirFrame := { up1 4 [] with flood := true, ttl := 2 }

/-- A rover with a copy that waits. -/
def waiting1 (x : LbtTry) : State := rover1.updRadio (fun r => { r with lbt := [x] })
/-- A copy to forward. -/
def copy1 : FloodCopy := { frame := flooded1, due := 0, sideB := true, map := 2, phy := 1 }

theorem flooded1_wf : flooded1.wf := by unfold AirFrame.wf; decide +kernel
theorem heeds_relay1 : relay1.heeds := by unfold State.heeds; decide +kernel

/-- A relay that holds the key of the flooded frame. -/
def seen1 : State := relay1.updRadio (fun r => { r with seen := [{ key := floodKey flooded1, at_ := 8000000000, heard := 0, copy := none }] })
theorem heeds_seen1 : seen1.heeds := by unfold State.heeds; decide +kernel

theorem witness_ContentionAndFlood_lbt :
    ((waiting1 try1).farSide = true ∧ (waiting1 try1).seized = false ∧ (waiting1 try1).linked = false ∧ (waiting1 try1).radio.lbt = try1 :: [] ∧
      try1.due ≤ (waiting1 try1).now ∧ (waiting1 try1).reg Obj.lbtThreshold ≤ 0 ∧ -10000000 < (waiting1 try1).reg Obj.lbtThreshold ∧ try1.sealed_ = true ∧
      (waiting1 try1).regN Obj.paLeadTime + airUs try1.phy try1.frame.bytes.length ≤ (waiting1 try1).contentionLeft try1.map ∧ try1.frame.bytes.length ≤ 269) ∧
    ((State.tick (waiting1 try1) 8198000000).contentionLeft try1.map < airUs try1.phy try1.frame.bytes.length) ∧
    (waiting1 try1).airFree try1.phy try1.map ∧ (waiting1 { try1 with attempt := 5 }).radio.lbt = { try1 with attempt := 5 } :: [] ∧
    ((waiting1 { try1 with due := 9000000000 }).now < 9000000000) :=
  ⟨by decide +kernel, by decide +kernel, airFree_fresh _ _ _ rfl (by decide +kernel) (by decide +kernel), by decide +kernel, by decide +kernel⟩

theorem witness_ContentionAndFlood_flood :
    (∃ b, (hcsOk b = true ∧ frameCrcOk b = true) ∧ relay1.heeds ∧ relay1.forwards = true ∧ (parseFrame b).flood = true ∧
      (relay1.expireSeen.radio.seen.any (fun x => decide (x.key = floodKey (parseFrame b)))) = false ∧ relay1.expireSeen.radio.seen.length < 512) ∧
    (∃ b x, (hcsOk b = true ∧ frameCrcOk b = true) ∧ seen1.heeds ∧ seen1.forwards = true ∧ (parseFrame b).flood = true ∧
      seen1.expireSeen.radio.seen = [x] ∧ x.key = floodKey (parseFrame b) ∧ x.heard + 1 < seen1.regN Obj.floodSuppress) ∧
    (let s := relay1.updRadio (fun r => { r with seen := [{ key := 1, at_ := 0, heard := 0, copy := some copy1 }] })
     s.forwards = true ∧ s.radio.seen = { key := 1, at_ := 0, heard := 0, copy := some copy1 } :: [] ∧ copy1.due ≤ s.now) ∧ base1.forwards = false := by
  have a := whole _ flooded1_wf
  exact ⟨⟨_, ⟨a.1, a.2.1⟩, heeds_relay1, by rw [a.2.2]; decide +kernel⟩,
    ⟨_, { key := floodKey flooded1, at_ := 8000000000, heard := 0, copy := none }, ⟨a.1, a.2.1⟩, heeds_seen1, by rw [a.2.2]; decide +kernel⟩, by decide +kernel, by decide +kernel⟩

/-- A record of the base for slot 5, in one frame. -/
def down1 (type dst : Nat) (body : List Byte) : AirFrame := { up1 type body with src := 0x83, dst := dst, net := 3 }

/-- A rover receives a record that its base seals. -/
theorem receives_record (s : State) (type dst : Nat) (key body : List Byte) (h : (down1 type dst body).wf) (ht : type < 13 ∧ type ≠ 6 ∧ type ≠ 7)
    (hk : s.frameKey (down1 type dst body) = some key) (hl : laterThan (Tab.get none s.radio.accepted 0x83) s.interval 1 = true)
    (hp : s.radio.parts = []) :
    ∃ l u g, s.receiveRecord [type] l = (u, some (g, body)) ∧ g.dst = dst ∧ u.fleet = s.fleet ∧ u.dict = s.dict := by
  have hr := receive_sealed s (down1 type dst body) key h ht.1 ht.2.1 ht.2.2 hk hl
  refine ⟨[(sealFrame key s.netFleet (down1 type dst body) s.interval).bytes],
    ((s.updRadio (fun r => { r with accepted := Tab.put none r.accepted 0x83 (some (s.interval, 1)) })).noteInput).setPart (0x83 * 16 + type) none,
    { down1 type dst body with mic := frameMic key s.netFleet (down1 type dst body) s.interval }, ?_, rfl, by simp [State.setPart, State.updRadio],
    by simp [State.setPart, State.updRadio]⟩
  simp only [State.receiveRecord, hr, State.reassemble]
  simp [down1, up1, hp, Tab.get]

/-- A connected rover receives a record of its own. -/
theorem receives_down (code : Nat) (d : List Byte) (h : (down1 3 5 (recordBody { code := code, data := d })).wf)
    (hd : recordData code (recordBody { code := code, data := d }) = some d) :
    ∃ l u, rover2.downRecord code l = (u, some d) ∧ u.fleet = rover2.fleet := by
  obtain ⟨l, u, g, hr, hg, hf, he⟩ := receives_record rover2 3 5 (List.replicate 16 2) _ h (by decide) (by rfl) (by decide +kernel) rfl
  refine ⟨l, u.updRadio (fun x => { x with heard := u.now }), ?_, hf⟩
  have h1 : (rover2.hasRole .rover && rover2.radio.on && rover2.linked) = true := by decide +kernel
  have h2 : u.regN Obj.assignedSlot = 5 := by
    simp only [State.regN, State.reg, State.regAt, he]
    decide +kernel
  simp only [State.downRecord, h1, hr, hg, h2, hd, Bool.not_true, Bool.false_eq_true, if_false, ne_eq, not_true]

/-- The start of a task load record. -/
def load1 (tracks : Nat) : List Byte := leBytes 4 7 ++ List.replicate 16 0 ++ leBytes 1 tracks ++ List.replicate 60 0
/-- A rover that loads task 7. -/
def loading1 : RoverTask := { id := 7, field := parseField [], rates := [], tracks := [] }

theorem receives_down_at (f : FleetState) (code : Nat) (d : List Byte) (h : (down1 3 5 (recordBody { code := code, data := d })).wf)
    (hd : recordData code (recordBody { code := code, data := d }) = some d) :
    ∃ l u, ({ rover2 with fleet := f } : State).downRecord code l = (u, some d) ∧ u.fleet = f := by
  obtain ⟨l, u, g, hr, hg, hf, he⟩ := receives_record { rover2 with fleet := f } 3 5 (List.replicate 16 2) _ h (by decide) (by rfl) (show laterThan _ _ _ = true from rfl) rfl
  refine ⟨l, u.updRadio (fun x => { x with heard := u.now }), ?_, hf⟩
  have h1 : (({ rover2 with fleet := f } : State).hasRole .rover && ({ rover2 with fleet := f } : State).radio.on && ({ rover2 with fleet := f } : State).linked) = true := by
    exact (show (rover2.hasRole .rover && rover2.radio.on && rover2.linked) = true by decide +kernel)
  have h2 : u.regN Obj.assignedSlot = 5 := by
    simp only [State.regN, State.reg, State.regAt, he]
    decide +kernel
  simp only [State.downRecord, h1, hr, hg, h2, hd, Bool.not_true, Bool.false_eq_true, if_false, ne_eq, not_true]

/-- A record in one frame is in its ranges. -/
theorem down1_wf (code : Nat) (d : List Byte) (h : (recordBody { code := code, data := d }).length ≤ 255) : (down1 3 5 (recordBody { code := code, data := d })).wf :=
  ⟨(by decide : 3 < 16), (by decide : 1 < 8), (by decide : 0x83 < 256), (by decide : 5 < 256), (by decide : 3 < 16), (by decide : 1 < 65536), h, rfl⟩

theorem rover2_record (code : Nat) (d : List Byte) (h : (recordBody { code := code, data := d }).length ≤ 255)
    (hd : recordData code (recordBody { code := code, data := d }) = some d) : ∃ l u, rover2.downRecord code l = (u, some d) := by
  obtain ⟨l, u, h, _⟩ := receives_down code d (down1_wf code d h) hd
  exact ⟨l, u, h⟩

theorem witness_DownlinkRecords_short :
    rover2.heeds ∧ (∃ l u, rover2.downRecord 0x81 l = (u, some (leBytes 4 7))) ∧
    (∃ l u, rover2.downRecord 0x82 l = (u, some (leBytes 4 7 ++ [3]))) ∧ (∃ l u, rover2.downRecord 0x85 l = (u, some (leBytes 4 7))) :=
  ⟨heeds2, rover2_record _ _ (by decide +kernel) (by decide +kernel), rover2_record _ _ (by decide +kernel) (by decide +kernel),
    rover2_record _ _ (by decide +kernel) (by decide +kernel)⟩

theorem witness_DownlinkRecords_load :
    (∃ l u, rover2.downRecord 0x83 l = (u, some (load1 2))) ∧ fieldU (load1 2) 20 1 ≠ 0 ∧
    (∃ l u, rover2.downRecord 0x83 l = (u, some (load1 0))) ∧ fieldU (load1 0) 20 1 = 0 :=
  ⟨rover2_record _ _ (by decide +kernel) (by decide +kernel), by decide +kernel, rover2_record _ _ (by decide +kernel) (by decide +kernel), by decide +kernel⟩

theorem witness_DownlinkRecords_task :
    (∃ s l u, State.downRecord s 0x89 l = (u, some (leBytes 4 7)) ∧ s.heeds ∧ u.fleet.loading = some { task := loading1, wanted := 1 } ∧
       loading1.tracks = [] ∧ fieldU (leBytes 4 7) 0 4 = loading1.id) ∧
    (∃ s l u, State.downRecord s 0x84 l = (u, some (leBytes 4 7)) ∧ s.heeds ∧ u.fleet.task = some loading1 ∧ fieldU (leBytes 4 7) 0 4 = loading1.id) := by
  obtain ⟨l, u, h, e⟩ := receives_down_at { FleetState.initial with loading := some { task := loading1, wanted := 1 } } 0x89 (leBytes 4 7) (down1_wf _ _ (by decide +kernel)) (by decide +kernel)
  obtain ⟨l', u', h', e'⟩ := receives_down_at { FleetState.initial with task := some loading1 } 0x84 (leBytes 4 7) (down1_wf _ _ (by decide +kernel)) (by decide +kernel)
  exact ⟨⟨_, l, u, h, by unfold State.heeds; decide +kernel, by rw [e], rfl, by decide +kernel⟩,
    ⟨_, l', u', h', by unfold State.heeds; decide +kernel, by rw [e'], by decide +kernel⟩⟩

/-- A rover that holds a group key. -/
def keyed1 : State := { rover2 with radio := { rover2.radio with groupKey := some [] } }

theorem witness_DownlinkRecords_streams :
    (keyed1.hasRole .rover = true ∧ keyed1.radio.on = true ∧ keyed1.linked = true) ∧ (∃ l u f, keyed1.receiveRecord [1] l = (u, some (f, List.replicate 16 0))) ∧
    (∃ l u f, rover2.receiveRecord [2] l = (u, some (f, List.replicate 20 0))) := by
  obtain ⟨l, u, g, h, _⟩ := receives_record keyed1 1 0xFF [] (List.replicate 16 0) (by unfold AirFrame.wf; decide +kernel) (by decide) (by rfl) (by decide +kernel) rfl
  obtain ⟨l', u', g', h', _⟩ := receives_record rover2 2 5 (List.replicate 16 2) (List.replicate 20 0) (by unfold AirFrame.wf; decide +kernel) (by decide) (by rfl) (by decide +kernel) rfl
  exact ⟨by decide +kernel, ⟨l, u, g, h⟩, ⟨l', u', g', h'⟩⟩

theorem witness_DownlinkRecords_relayed :
    (let s := State.boot base2 Obj.baseSubRole 1
     let h : LinkHead := { peer := 0, epoch := 1, seq := 1, tagOk := true }
     s.heeds ∧ (s.acceptLink h).2 = true ∧ s.isBase = true ∧ s.isWorker = true ∧ s.slotLive 5 = true) := by
  unfold State.heeds
  decide +kernel

theorem witness_RecordRoundTrip :
    base2.ownAddress < 256 ∧ base2.netIndex < 16 ∧ rover2.netFleet = base2.netFleet ∧ rover2.interval = base2.interval ∧
    (∀ f : AirFrame, f.type = 3 → f.dst = 5 → f.src = base2.ownAddress → rover2.frameKey f = some (List.replicate 16 2)) ∧
    laterThan (Tab.get none rover2.radio.accepted base2.ownAddress) rover2.interval base2.radio.fseq = true ∧ base2.radio.fseq < 65536 := by
  refine ⟨by decide +kernel, by decide +kernel, by decide +kernel, by decide +kernel, ?_, by decide +kernel, by decide +kernel⟩
  intro f h1 _ _
  simp only [State.frameKey, h1]
  rfl

/-! ### Clock and baseband -/

def rover4 : State := inMode .rover .rover 8000000000
def base4 : State := inMode .base .base 8000000000
/-- On GNSS time. -/
def gnss4 : State :=
  { rover4 with clk := { rover4.clk with state := .gnss, qualified := [{ src := .gnss, uncertainty := 20 }], learnedRate := 9 } }
/-- Its time not yet valid. -/
def timeless4 (s : State) : State := { s with clk := { s.clk with valid := false } }
/-- A rover that hears the beacons of its base. -/
def hearing4 : State := rover4.updRadio (fun r => { r with on := true, conn := .synced, model := some (8000000000, 4000000000, 0) })
/-- The same on the time of the beacons. -/
def beacon4 : State := { hearing4 with clk := { hearing4.clk with state := .beacon, qualified := [{ src := .beacon, uncertainty := 50000 }] } }
/-- A clock solution that agrees with the device's time. -/
def solution4 (tick : Nat) : ClockSolution := { tick := tick, time := tick * 500, sats := 4, decoded := true, rate := 3 }

theorem witness_TimeSources_qualified :
    (TimeSource.beacon ≠ .gnss ∧ (timeless4 hearing4).followsPartner = false ∧ (timeless4 hearing4).running = true ∧
      (∃ r, (timeless4 hearing4).sourceReading (sourceState .beacon) = some r) ∧ (timeless4 hearing4).clk.qualified = [] ∧
      sourceState .beacon ∈ (timeless4 hearing4).sourceOrder ∧ (timeless4 hearing4).clk.state ≠ sourceState .beacon) ∧
    ((timeless4 rover4).solutionsQualify (solution4 4000000000) (solution4 6000000000) (solution4 8000000000) = true ∧
      TimeState.gnss ∈ (timeless4 rover4).sourceOrder ∧ (timeless4 rover4).clk.state ≠ .gnss) ∧
    rover4.sourceReading (sourceState .beacon) = none ∧
    rover4.solutionsQualify (solution4 4000000000) (solution4 6000000000) (solution4 6000000000) = false :=
  ⟨⟨by decide, by decide +kernel, by decide +kernel, ⟨_, rfl⟩, by decide +kernel⟩, by decide +kernel⟩

theorem witness_TimeSources_lost :
    (gnss4.followsPartner = false ∧ gnss4.sourceGone .gnss = true ∧ gnss4.running = true ∧ gnss4.clk.state = sourceState .gnss ∧ gnss4.clk.valid = true ∧
      (∀ y ∈ gnss4.clk.qualified, y.src = sourceState .gnss)) ∧ beacon4.sourceGone .beacon = false := by
  decide +kernel

theorem witness_TimeSources_measured :
    (gnss4.clk.measured ≠ some gnss4.wholeSecond ∧ (solution4 8000000000).tick ≤ gnss4.now ∧ gnss4.now < (solution4 8000000000).tick + ticksS 1 ∧
      (gnss4.solutionError (solution4 8000000000) / 1000).natAbs < 10 ∧ gnss4.clk.pending = none ∧ gnss4.mode.role ≠ some .base) ∧
    (10 ≤ gnss4.solutionError { solution4 8000000000 with time := 4000000010000 } / 1000 ∧
      gnss4.solutionError { solution4 8000000000 with time := 4001000000000 } / 1000 ≤ 1000000 ∧
      1000000 < gnss4.solutionError { solution4 8000000000 with time := 4001000001000 } / 1000) ∧
    (beacon4.clk.state ≠ .gnss ∧ beacon4.sourceInUse = true ∧ beacon4.sourceReading beacon4.clk.state = some (0, 0)) ∧
    (let s : State := { gnss4 with clk := { gnss4.clk with measured := some 4 } }
     s.clk.measured = some s.wholeSecond) := by
  decide +kernel

/-- A step that waits, and a staged set. -/
def pending4 (n : Int) : State := { gnss4 with clk := { gnss4.clk with pending := some { at_ := n, parts := [55] } } }
def staged4 (x : StagedSet) : State := { gnss4 with clk := { gnss4.clk with staged := some x } }

theorem witness_StepsAndSets :
    ((pending4 4000000000).running = true ∧ 4000000000 ≤ (pending4 4000000000).time64 ∧ (pending4 5000000000).time64 < 5000000000) ∧
    (let x : StagedSet := { at_ := 8000000000, rate := 5, step := 3, initial := none }
     (staged4 x).zheoc.deposed = false ∧ (staged4 x).running = true ∧ (staged4 x).clk.staged = some x ∧ x.initial = none) ∧
    (let x : StagedSet := { at_ := 8000000000, rate := 5, step := 0, initial := some (-9) }
     (staged4 x).clk.staged = some x ∧ x.initial = some (-9)) := by
  decide +kernel

theorem witness_CountOfTarget :
    let k : ClockState := { gnss4.clk with rate := 219902326, ref := 1000 }
    k.ref.toNat + 5 < 2 ^ 64 ∧ -219902326 ≤ k.rate ∧ k.rate ≤ 219902326 := by
  decide +kernel

def edge4 : State := { gnss4 with dict := Tab.put 0 gnss4.dict (regKey Obj.evtEdge 3) 1 }
def record4 : EvtRecord := { tick := 5, time := 2, input := 3, falling := false, flags := 0, seq := 1 }

/-- A unit that gives PPS, at a whole second and off one. -/
def pps4 (n : Nat) : State := State.set (State.tick gnss4 n) Obj.ppsOutEnable 1
/-- Edge 3 with records that wait. -/
def queued4 (l : List EvtRecord) : State := State.at_ { edge4 with clk := { edge4.clk with queues := [(3, l)] } } Obj.evtCursor 3

theorem witness_ComparesAndCapture_compares :
    (gnss4.running = true ∧ 4000000000 ≤ gnss4.time64 ∧ gnss4.time64 < 4000000001 ∧ gnss4.clk.compares = [] ∧ countOf gnss4.clk 4000000001 < gnss4.now + 2 ^ 39) ∧
    gnss4.takesRead .host Obj.clockOffset := by
  unfold State.takesRead State.ready
  decide +kernel

theorem witness_ComparesAndCapture_pps :
    ((pps4 7999999992).ppsEdge = some 7999999999 ∧ (pps4 7999999992).ppsMayRise 7999999999 = true ∧ (pps4 8500000000).ppsEdge = none) ∧
    (let s : State := { gnss4 with clk := { gnss4.clk with ppsFallDue := some 8000000007, ppsInDue := some 8000000000 } }
     8000000007 < s.now + 8 ∧ s.due s.clk.ppsInDue = true) ∧ (gnss4.now + 8 ≤ 8000000008 ∧ gnss4.due gnss4.clk.ppsInDue = false) ∧
    (edgeSelected (gnss4.regAt Obj.evtEdge 4) false = false ∧ timeOf gnss4.clk 5 % 1000000000 ≠ 500000000) := by
  decide +kernel

theorem witness_ComparesAndCapture_edges :
    (edgeSelected (edge4.regAt Obj.evtEdge 3) false = true ∧ (Tab.get [] edge4.clk.queues 3).length < 64 ∧ edge4.reg Obj.evtHostOutput ≠ 1) ∧
    64 ≤ (Tab.get [] (queued4 (List.replicate 64 record4)).clk.queues 3).length ∧ edgeSelected (edge4.regAt Obj.evtEdge 3) true = false ∧
    ((queued4 [record4]).takesRead .host Obj.evtNext ∧
      Tab.get [] (queued4 [record4]).clk.queues ((queued4 [record4]).cursor .host Obj.evtCursor) = record4 :: []) := by
  unfold State.takesRead State.ready
  decide +kernel

/-- A rover with a channel that tracks. -/
def chan4 (c : Channel) : State := rover4.setChan 3 { c with en := true }

theorem shadow_num (s : State) (k : Nat) (v : Int) (h : s.storePending = []) : s.shadowHolds (.storedNum k v) = true := by
  have := Config.storedOverhead.isLt
  simp [State.shadowHolds, h, JData.storedBytesLen]
  omega

theorem shadow_bytes (s : State) (k : Nat) (v : List Byte) (h : s.storePending = []) (hv : v.length ≤ 1000) : s.shadowHolds (.storedBytes k v) = true := by
  have := Config.storedOverhead.isLt
  simp [State.shadowHolds, h, JData.storedBytesLen]
  omega

/-- A channel whose code epoch is one sample long. -/
def short4 : State := chan4 { Channel.idle with rate := 1023 * 2 ^ 48 }
/-- A channel that coasts from the start. -/
def coasting4 : State := chan4 { Channel.idle with coastFrom := some 0 }

theorem witness_ChannelsAndBias_bias :
    (let s := State.set rover4 Obj.antennaBiasA 1
     s.hasRole .rover = true ∧ s.reg Obj.antennaBiasA ≠ 0 ∧ s.gnss.biasA.retryDue = none) ∧
    (State.set rover4 Obj.antennaBiasA 0).reg Obj.antennaBiasA = 0 ∧ bit rover4.powerChains.gnss.chainsOn 0 = true ∧
    (let s : State := { rover4 with gnss := { rover4.gnss with biasB := { state := .short, retryDue := some 8000000000 } } }
     s.running = true ∧ s.due s.gnss.biasB.retryDue = true) ∧ rover4.due rover4.gnss.biasB.retryDue = false := by
  decide +kernel

theorem witness_ChannelsAndBias_enable :
    rover4.takesWrite .host Obj.signalEnable 1 ∧ rover4.shadowHolds (.storedNum (regKey Obj.signalEnable 0) 1) = true :=
  ⟨by unfold State.takesWrite State.ready; decide +kernel, shadow_num _ _ _ (by decide +kernel)⟩

theorem witness_ChannelsAndBias_epoch :
    (short4.gnssRuns = true ∧ (short4.chan 3).en = true ∧ [((1 : Int), (1 : Int))] ≠ [] ∧ short4.gnss.dumps.length < 1024 ∧
      [((1 : Int), (1 : Int))].length = epochSamples (short4.chan 3).signal (short4.ncoWords (short4.chan 3)).2 (short4.epochStart (short4.chan 3) 9).2) ∧
    (short4.chan 4).en = false ∧ short4.gnss.frameMs ≠ some short4.frameMsNow ∧
    (let s : State := { short4 with gnss := { short4.gnss with frameMs := some 3999 } }
     s.gnss.frameMs = some s.frameMsNow) := by
  decide +kernel

theorem witness_ChannelsAndBias_release :
    (coasting4.gnssRuns = true ∧ (coasting4.chan 3).en = true ∧ coasting4.gnss.suspended.contains (3 / 64) = false ∧ (coasting4.chan 3).coastFrom = some 0 ∧
      0 + ticksMs 1000 ≤ coasting4.now ∧ coasting4.reg Obj.navHostOutput ≠ 1) ∧ (State.tick coasting4 8).now < 0 + ticksMs 1000 ∧
    (let c : Channel := { Channel.idle with rank := 1 }
     (rover4.setChan 3 c).gnssRuns = true ∧ (rover4.setChan 3 c).gnss.channels = [(3, c)] ∧ c.rank ≠ 0) ∧
    (base4.gnssRuns = true ∧ base4.gnss.channels = [] ∧ base4.mode.role = some .base ∧ bit base4.gnss.enable 0 = true ∧
      base4.reg Obj.elevationMask * 100 ≤ 4500) := by
  decide +kernel

/-- Unaided requests: of GPS L1 C/A, and of a component that has none. -/
def request4 (n : Nat) : AcqRequest :=
  { signal := n, svid := 3, ant := .a, aided := false, relock := false, snapshot := false, codeFrom := 0, dopplerMid := 0, codeBins := 0, dopplerBins := 0 }
/-- An aided search again, one too wide for the engine. -/
def wide4 : AcqRequest := { request4 0 with aided := true, relock := true, codeBins := 16384, dopplerBins := 33 }
/-- A search of two passes, so many of them done. -/
def search4 (r : AcqRequest) (n : Nat) (v : Bool) : Search := { base4.searchOf r 2 with pass := n, verifying := v }
def searching4 (x : Search) : State := { base4 with gnss := { base4.gnss with search := some x } }

theorem witness_SearchAndData_requests :
    (base4.hasRole .base = true ∧ (request4 0).signal ≤ 30 ∧
      (if (request4 0).aided then base4.hasAiding (request4 0) || (request4 0).relock else unaidedAllowed (request4 0).signal) = true ∧ (request4 0).ant = .a ∧
      base4.gnss.queue = [] ∧ base4.gnss.search = none ∧ (searchPasses (base4.searchBins (request4 0)).1 (base4.searchBins (request4 0)).2).isSome = true) ∧
    ((if wide4.aided then base4.hasAiding wide4 || wide4.relock else unaidedAllowed wide4.signal) = true ∧
      searchPasses (base4.searchBins wide4).1 (base4.searchBins wide4).2 = none) ∧
    (let s : State := { base4 with gnss := { base4.gnss with queue := List.replicate 64 (search4 (request4 0) 0 false) } }
     64 ≤ s.gnss.queue.length) ∧
    (if (request4 2).aided then base4.hasAiding (request4 2) || (request4 2).relock else unaidedAllowed (request4 2).signal) = false := by
  decide +kernel

/-- A detection that is far above the noise. -/
def strong4 : List (List (Int × Int)) := [[(1000000, 0)]]

theorem witness_SearchAndData_passes :
    (let x := search4 (request4 0) 0 false
     (searching4 x).gnss.search = some x ∧ x.verifying = false ∧ x.pass + 1 < x.passes) ∧
    (let x := search4 (request4 0) 1 false
     (searching4 x).gnss.search = some x ∧ x.verifying = false ∧ x.passes ≤ x.pass + 1 ∧ (searching4 x).gnss.queue = []) ∧
    (let x := search4 (request4 0) 2 true
     (searching4 x).gnss.search = some x ∧ x.verifying = true ∧ x.req.snapshot = false ∧ (searching4 x).gnssRuns = true ∧ (searching4 x).gnss.channels = [] ∧
       bit (searching4 x).gnss.enable x.req.signal = true ∧
       detects x.k x.alarm (inNoise x.k x.bestNoise (((strong4.take 9).map (cellMetric x.k)).foldl max 0)) = true) := by
  decide +kernel

/-- A channel whose unit of 30 symbols has ended, and one of 29. -/
def bits4 (n : Nat) (b : Bool) : State := chan4 { Channel.idle with symbols := List.replicate n true, unitResolved := b }
/-- A unit on channel 3. -/
def unit4 : NavUnit := { channel := 3, part := 0, firstWord := false, polarity := none }

theorem witness_SearchAndData_units :
    ((bits4 30 true).gnssRuns = true ∧ ((bits4 30 true).chan 3).en = true ∧ messageOf ((bits4 30 true).chan 3).signal = some .lnav ∧
      NavMessage.lnav.symbols unit4.part ≤ ((bits4 30 true).chan 3).symbols.length ∧ (bits4 30 true).reg Obj.navHostOutput ≠ 1 ∧
      ((bits4 30 true).chan 3).unitResolved = true ∧ ((bits4 30 false).chan 3).unitResolved = false) ∧
    ((bits4 29 true).chan 3).symbols.length < NavMessage.lnav.symbols unit4.part ∧ rover4.takesWrite .host Obj.navHostOutput 1 := by
  unfold State.takesWrite State.ready
  decide +kernel

/-- An export slot, one for processing, or both. -/
def slot4 (e p : Bool) : Capture := { tick := 5, chain := 0, record := [1, 2], timeUnc := 2000000000, forExport := e, processing := p }
def slots4 (l : List Capture) : State := rover4.updSnapshot (fun x => { x with slots := l })
def asleep4 : State := inMode .snapshot .rover 8000000000
/-- A capture of chain 0 from 1 s on, 100 ms long. -/
def run4 : CaptureRun := { chains := 1, length := 100, mode := 2, time := 1000000000, tick := 2000000000 }
def running4 : State := rover4.updSnapshot (fun x => { x with run := some run4 })
/-- In SNAPSHOT with an interval that starts now. -/
def interval4 : State := (State.set asleep4 Obj.snapshotInterval 10).updSnapshot (fun x => { x with intervalDue := some 8000000000 })

theorem witness_Snapshots_captures :
    (rover4.takesWrite .host Obj.snapshotTrigger 1 ∧ rover4.captureMode = true ∧ rover4.captureRefused = false) ∧
    (running4.takesWrite .host Obj.snapshotTrigger 1 ∧ running4.captureMode = true ∧ running4.captureRefused = true) ∧
    (interval4.mode.current = .snapshot ∧ interval4.reg Obj.snapshotInterval ≠ 0 ∧ interval4.due interval4.gnss.snapshot.intervalDue = true ∧
      interval4.captureRefused = false) ∧ rover4.mode.current ≠ .snapshot ∧
    (running4.gnss.snapshot.run = some run4 ∧ run4.tick + ticksMs run4.length ≤ running4.now ∧ (State.tick running4 2000000000).now < run4.tick + ticksMs run4.length) := by
  unfold State.takesWrite State.ready
  decide +kernel

theorem witness_Snapshots_slots :
    ((slots4 [slot4 true true]).gnss.snapshot.slots = slot4 true true :: [] ∧ (slot4 true true).processing = true ∧ rover4.mode.role = some .rover) ∧
    ((slots4 [slot4 true false]).takesRead .host Obj.snapshotData ∧ (slots4 [slot4 true false]).takesWrite .host Obj.snapshotRelease 1 ∧
      (slots4 [slot4 true false]).gnss.snapshot.slots = slot4 true false :: [] ∧ (slot4 true false).forExport = true) ∧
    (asleep4.takesWrite .host Obj.snapshotWakeTime 1 ∧ asleep4.mode.current = .snapshot ∧ (1 : Int) < asleep4.time64 + 1000000) := by
  unfold State.takesWrite State.takesRead State.ready
  decide +kernel

/-! ### Positioning and Boulevard -/

/-- A base with a reference position in force, at a whole second. -/
def ref5 : State := { base4 with baseRef := { base4.baseRef with inForce := true, surveying := false } }
/-- A base whose survey runs since its reset. -/
def survey5 (n : Nat) : State := { State.tick base4 n with baseRef := { base4.baseRef with surveying := true } }
/-- The same unit with the observables of an epoch recorded. -/
def recorded5 (s : State) (e : Int) : State := { s with obs := { s.obs with epoch := some e } }
/-- Two positions 2 mm apart. -/
def mean5 : List (Int × Int × Int) := [(1, 0, 0), (1, 0, 20)]

theorem witness_ReferenceStation_epochs :
    (rover4.hasRole .rover = true ∧ rover4.mode.current ≠ .snapshot ∧ rover4.reg Obj.obsHostOutput ≠ 1 ∧ rover4.obs.epoch ≠ some rover4.epochNow) ∧
    (ref5.correctionsAllowed = true ∧ ref5.mode.current ≠ .snapshot ∧ ref5.reg Obj.obsHostOutput ≠ 1 ∧ ref5.obs.epoch ≠ some ref5.epochNow ∧
      ref5.epochNow % 1000000000 = 0 ∧ ref5.downPhy ≠ 3 ∧ ref5.fleet.managerLost = false) ∧
    (recorded5 rover4 4000000000).obs.epoch = some (recorded5 rover4 4000000000).epochNow ∧ rover4.takesWrite .host Obj.obsHostOutput 1 := by
  unfold State.takesWrite State.ready
  decide +kernel

/-- A reference on the equator, at sea level. -/
def equator5 : State := State.set ref5 Obj.baseEcefX 63781370000

theorem witness_ReferenceStation_survey :
    (let s := survey5 4000000000000
     s.isBase = true ∧ s.baseRef.surveying = true ∧ s.baseRef.surveyFrom + 3 * ticksS (s.regN Obj.surveyInTime) ≤ s.now ∧
       meanWithin mean5 (s.reg Obj.surveyInLimit) = true) ∧
    ref5.baseRef.surveying = false ∧
    (equator5.isBase = true ∧ equator5.baseRef.inForce = true ∧ equator5.farFromReference (63781470001, 0, 0) = true ∧
      equator5.farFromReference (63781370000, 100001, 0) = true ∧ equator5.farFromReference (63781470000, 0, 0) = false) := by
  decide +kernel

theorem witness_ReferenceStation_position :
    ref5.takesWrite .host (ecefObj 2) 7 ∧ ref5.shadowHolds (.storedNum (regKey (ecefObj 2) 0) 7) = true :=
  ⟨by unfold State.takesWrite State.ready; decide +kernel, shadow_num _ _ _ (by decide +kernel)⟩

theorem witness_ReferenceStation_stream :
    (let s := recorded5 (State.set ref5 Obj.rtcmPorts 1) 4000000000
     s.correctionsAllowed = true ∧ s.rtcmDue = some 4000000000 ∧ s.regN Obj.rtcmPorts = 1 ∧ s.boot.bootSel ≠ 2) ∧ ref5.rtcmDue = none ∧
    (let s := State.set ref5 Obj.rtcmPorts 4
     s.heeds ∧ s.isBase = true ∧ bit (s.regN Obj.rtcmPorts) 2 = true ∧ s.baseRef.tcpClients < 4) ∧ bit (ref5.regN Obj.rtcmPorts) 2 = false := by
  unfold State.heeds
  decide +kernel

/-- A rover with the NTRIP client wanted, and one connected. -/
def ntrip5 : State := { State.set rover4 Obj.correctionSource 1 with nav := { rover4.nav with ntripDue := some 8000000000 } }
def joined5 : State := { ntrip5 with nav := { ntrip5.nav with ntripConnected := true, ntripDue := none, ggaDue := some 8000000000 } }
/-- A rover whose matching store holds an entry. -/
def store5 (e : MatchEntry) : State := { rover4 with roundabout := { rover4.roundabout with store := [e] } }
def entry5 (n : Nat) : MatchEntry := { flow := 77, epoch := 5, need := 2, slots := [(0, some 9)], expires := n }

theorem witness_CorrectionsAndMatching_client :
    (ntrip5.ntripWanted = true ∧ ntrip5.nav.ntripConnected = false ∧ ntrip5.due ntrip5.nav.ntripDue = true) ∧ rover4.due rover4.nav.ntripDue = false ∧
    (joined5.heeds ∧ joined5.hasRole .rover = true ∧ joined5.nav.ntripConnected = true ∧ joined5.sourceNtrip = true ∧ joined5.due joined5.nav.ggaDue = true) ∧
    rover4.nav.ntripConnected = false ∧ ntripAccepts 1230 = true ∧ ntripAccepts 1230 = !ntripAccepts 1 := by
  unfold State.heeds
  decide +kernel

theorem witness_CorrectionsAndMatching_store :
    (rover4.running = true ∧ rover4.matchEntry (77 % 2 ^ 12) (5 % 2 ^ 16) = none ∧ rover4.roundabout.store.length < 4096 ∧ rover4.roundabout.held = []) ∧
    (let x := entry5 8000000000
     (store5 x).running = true ∧ (store5 x).matchEntry (77 % 2 ^ 12) (5 % 2 ^ 16) = some x ∧ x.need = 2 ∧ x.slots = [(0, some 9)] ∧ 0 ≠ 1 % 4 ∧
       (store5 x).roundabout.held = [] ∧ (store5 x).roundabout.contexts < 512 ∧ x.expires ≤ (store5 x).now) ∧
    (let x := entry5 8000000001
     (store5 x).matchEntry (77 % 2 ^ 12) (5 % 2 ^ 16) = some x ∧ (store5 x).now < x.expires) := by
  decide +kernel

/-- A solution without corrections, and a matched one. -/
def rtk5 : RtkSolution :=
  { matched := false, epoch := 4000000000, baseEpoch := none, carrier := true, fixed := [], ratio := 0, continuous := 0, nsat := 9 }
def matched5 : RtkSolution := { rtk5 with matched := true, baseEpoch := some 4000000000 }
/-- A rover whose last solution used the other source. -/
def changed5 : State := { rover4 with nav := { rover4.nav with ntripInUse := !rover4.sourceNtrip } }
/-- The antenna baseline towards east, with so many satellites. -/
def heading5 (n : Int) (sats : Nat) : HeadingSolution :=
  { epoch := 4000000000, fixed := (List.range sats).map (fun k => (0, k + 1)), ratio := 20000000, east := n, north := 0, up := 0 }
def antennas5 : State := State.set rover4 Obj.baselineLength 1000

theorem witness_SolutionsAndPose_solutions :
    (rover4.hasRole .rover = true ∧ rover4.mode.current ≠ .snapshot ∧ rtk5.matched = false ∧ rover4.ageHolds rtk5 = false) ∧
    (changed5.hasRole .rover = true ∧ changed5.sourceNtrip ≠ changed5.nav.ntripInUse) ∧
    (matched5.matched = true ∧ rover4.rtkReady matched5.epoch = false) ∧
    (let s : State := { rover4 with nav := { rover4.nav with ntripInUse := rover4.sourceNtrip, holdDue := some 8000000000 } }
     s.hasRole .rover = true ∧ s.sourceNtrip = s.nav.ntripInUse ∧ s.due s.nav.holdDue = true) ∧ rover4.due rover4.nav.holdDue = false := by
  decide +kernel

theorem witness_SolutionsAndPose_heading :
    (antennas5.hasRole .rover = true ∧ antennas5.mode.current ≠ .snapshot ∧ antennas5.headingPasses (heading5 1000 7) = true ∧
      antennas5.lengthHolds (heading5 1000 7) = true) ∧
    antennas5.headingPasses (heading5 1000 5) = false ∧ antennas5.lengthHolds (heading5 1016 7) = false ∧ antennas5.lengthHolds (heading5 1015 7) = true ∧
    (let s : State := State.tick { rover4 with nav := { rover4.nav with headingFixedAt := some 8 } } 80000000000000
     s.nav.headingFixedAt = some 8 ∧ 8 + ticksS (s.regN Obj.headingHoldTime) ≤ s.now) ∧
    (let s : State := { rover4 with nav := { rover4.nav with headingFixedAt := some 8000000000 } }
     s.nav.headingFixedAt = some 8000000000 ∧ s.now < 8000000000 + ticksS (s.regN Obj.headingHoldTime)) := by
  decide +kernel

/-- A rover with an IMU of six two-byte axes behind one status byte, its read due, a frame from it, and a pose of this instant. -/
def imu5 : State :=
  { rover4 with octets := Tab.put [] rover4.octets (regKey Obj.imuFrame 0) ([0, 0, 0, 0, 0, 12, 0, 0xFF, 0, 0, 0, 2, 4, 6, 8, 10] ++ List.replicate 16 0)
                nav := { rover4.nav with imuReadDue := some 8000000000, imuCutRun := 2 } }
def reply5 : List Byte := [1, 2, 3, 4, 5, 6, 7, 8, 9, 10, 11, 12]
def est5 : PoseEstimate :=
  { lat := 1, lon := 2, height := 3, velN := 0, velE := 0, velU := 0, heading := 5, pitch := 0, roll := 0, yawRate := 0, hSigma := 0, vSigma := 0, hdgSigma := 0 }

theorem witness_SolutionsAndPose_imu :
    (imu5.hasRole .rover = true ∧ imu5.imuFitted = true ∧ (State.tick imu5 7999999992).edgeNow (State.tick imu5 7999999992).imuInstant = some 7999999999 ∧
      imu5.nav.imuAt ≠ some 7999999999) ∧ (State.tick imu5 8000000008).edgeNow (State.tick imu5 8000000008).imuInstant = none ∧
    (imu5.due imu5.nav.imuReadDue = true ∧ fieldU imu5.imuFrame 5 1 ≤ reply5.length ∧ imuStatusOk imu5.imuFrame reply5 = true ∧ imu5.nav.imuFault = false ∧
      (List.range 6).map (imuAxis imu5.imuFrame reply5) ≠ imu5.nav.imuAxes) ∧
    ([1] : List Byte).length < fieldU imu5.imuFrame 5 1 ∧ 2 ≤ imu5.nav.imuCutRun ∧ rover4.due rover4.nav.imuReadDue = false := by
  decide +kernel

theorem witness_SolutionsAndPose_pose :
    (rover4.hasRole .rover = true ∧ rover4.mode.current ≠ .snapshot ∧ rover4.nav.anchor = none ∧ rover4.nav.pose.map (·.time) ≠ some rover4.poseInstantNow) ∧
    (let s := rover4.poseInstant est5
     s.nav.pose.map (·.time) = some s.poseInstantNow) := by
  decide +kernel

/-- A program of implement group 9 with one loop, in a rover, and its group in a state. -/
def loop5 : LoopDesc :=
  { loop := 3, ports := [], feedback := 0, sched := 0, gains := [], setMin := 0, setMax := 0, noisy := false, integrating := false, eligible := false
    ki := [], kb := [], coefs := [1], bounds := [], hysteresis := 0, evalFrames := 1, port := .published, portMin := -1000, portMax := 1000, product := none }
def prog5 : BlvProgram := { number := 6, group := 9, period := 10, offset := 0, phase := 100, code := [.wait 3, .out 0 1], loops := [loop5] }
def ctl5 (g : Group) : State := { rover4 with blv := { rover4.blv with programs := [prog5], groups := [(9, g)] } }
def staged5 : Staged := { loop := 3, value := { Loop.idle with out := 44 }, fellBack := false, saturated := false }
/-- Its frame, opened one microsecond ago, whose stalls leave two corrected words inside the window. -/
def frame5 (x : List Staged) : Frame := { program := 6, start := 3999999000, wait := prog5.phase - programCount prog5 - 8, staged := x }
def phase5 (n : Nat) : State :=
  let s := ctl5 { Group.idle with state := .running, overruns := n }
  { s with blv := { s.blv with frames := [frame5 [staged5]] } }
/-- A frame of tracking group 0 that has staged channel 5, and one opened just now. -/
def track5 : State :=
  let s := rover4.setChan 5 { Channel.idle with en := true, svid := 9 }
  { s with blv := { s.blv with programs := [{ prog5 with group := 0, loops := [] }], frames := [frame5 []] }
           gnss := { s.gnss with staged := [(5, { Channel.idle with svid := 9, region := 2 })] } }
def opened5 : State :=
  let s := phase5 0
  { s with blv := { s.blv with frames := [{ frame5 [staged5] with start := 4000000000 }] } }

theorem witness_LoopFrames_start :
    (let s := ctl5 { Group.idle with state := .running }
     s.blv.programs.find? (fun p => decide (p.number = 6)) = some prog5 ∧ s.operating = true ∧ s.mode.role ≠ some .relay ∧
       s.blv.frames.any (fun f => decide (f.program = 6)) = false ∧ s.frameStarts prog5 = true ∧ (s.group prog5.group).order = none ∧
       (s.group prog5.group).state = .running) ∧
    ((ctl5 { Group.idle with order := some .start }).group prog5.group).order = some .start ∧ (State.tick (ctl5 Group.idle) 8000000008).frameStarts prog5 = false := by
  decide +kernel

theorem witness_LoopFrames_commit :
    ((phase5 0).blv.frames.find? (fun f => decide (f.program = 6)) = some (frame5 [staged5]) ∧ (phase5 0).phaseReached prog5 (frame5 [staged5]) = true ∧
      programCount prog5 + (frame5 [staged5]).wait + 4 * 2 ≤ prog5.phase ∧ 8 ≤ prog5.group ∧ ((phase5 0).group prog5.group).state = .running) ∧
    (track5.blv.frames.find? (fun f => decide (f.program = 6)) = some (frame5 []) ∧
      track5.phaseReached { prog5 with group := 0, loops := [] } (frame5 []) = true ∧ programCount { prog5 with group := 0, loops := [] } + (frame5 []).wait ≤ 100 ∧
      track5.gnss.staged = [(5, { Channel.idle with svid := 9, region := 2 })] ∧ (track5.chan 5).en = true) ∧
    (opened5.blv.frames.find? (fun f => decide (f.program = 6)) = some { frame5 [staged5] with start := 4000000000 } ∧
      opened5.phaseReached prog5 { frame5 [staged5] with start := 4000000000 } = false) := by
  decide +kernel

theorem witness_LoopFrames_overrun :
    prog5.phase < programCount prog5 + (frame5 [staged5]).wait + 4 * 3 ∧ ((phase5 0).group prog5.group).overruns < 2 ∧
      2 ≤ ((phase5 2).group prog5.group).overruns ∧ (phase5 2).phaseReached prog5 (frame5 [staged5]) = true := by
  decide +kernel

theorem witness_LoopFrames_scrub :
    (rover4.running = true ∧ rover4.mode.role ≠ some .relay ∧ rover4.blv.frames = [] ∧ rover4.blv.scrubbedAt = none ∧ 7 < 8) ∧
    (let s : State := { rover4 with blv := { rover4.blv with scrubbedAt := some 8 } }
     s.blv.scrubbedAt = some 8 ∧ s.now < 8 + ticksS 10) := by
  decide +kernel

/-- Group 9 under the host's cursor. -/
def grp5 (g : Group) : State := State.at_ (ctl5 g) Obj.groupCursor 9
/-- Entry 1 of both banks of the integrator partition, under the host's cursor; a swap that waits. -/
def bank5 (w : Option Int) : State :=
  State.at_ { rover4 with blv := { rover4.blv with bankA := [(1, 2 ^ 37 + 5)], bankB := [(1, 2 ^ 37 + 5)], swapAt := w } } Obj.coefCursor 1
/-- A running group whose loop would change with the banks. -/
def differs5 : State :=
  let s := ctl5 { Group.idle with state := .running }
  { s with blv := { s.blv with bankB := [(1, 9)] } }

theorem witness_BanksAndGroups_banks :
    ((bank5 none).takesWrite .host Obj.bankCopy 1 ∧ (bank5 none).swapWaits = false ∧ (bank5 none).blv.activeB = false) ∧
    ((bank5 (some 5)).takesWrite .host Obj.bankCopy 1 ∧ (bank5 (some 5)).swapWaits = true ∧ (5 : Int) ≤ (bank5 (some 5)).time64) ∧
    ((bank5 none).takesWrite .host Obj.coefInactive 7 ∧ bit ((bank5 none).coefInactive ((bank5 none).instanceOf .host Obj.coefInactive)) 37 = true) ∧
    (bank5 (some 5000000000)).time64 < 5000000000 := by
  unfold State.takesWrite State.ready
  decide +kernel

theorem witness_BanksAndGroups_swap :
    ((bank5 none).takesWrite .host Obj.bankSwapRequest 1 ∧ (bank5 none).mode.current = .rover ∧ (bank5 none).swapAllowed = true) ∧
    (differs5.takesWrite .host Obj.bankSwapRequest 1 ∧ differs5.swapWaits = false ∧ differs5.mode.current = .rover ∧ differs5.swapAllowed = false) := by
  unfold State.takesWrite State.ready
  decide +kernel

theorem witness_BanksAndGroups_orders :
    (let s := grp5 Group.idle
     s.takesWrite .host Obj.groupEnable 1 ∧ 8 ≤ s.groupOf .host ∧ s.mode.role = some .rover ∧ s.storePending = [] ∧
       s.groupLoaded (s.groupOf .host) = true ∧ (s.group (s.groupOf .host)).state = .disabled) ∧
    (let s := grp5 { Group.idle with state := .running }
     s.takesWrite .host Obj.groupEnable 0 ∧ s.storePending = [] ∧ (s.group (s.groupOf .host)).state = .running) ∧
    (rover4.takesWrite .host Obj.groupEnable 1 ∧ rover4.groupOf .host < 8) ∧
    (let s := grp5 { Group.idle with state := .suspended, cause := 1 }
     s.takesWrite .host Obj.groupResume 1 ∧ s.groupLoaded (s.groupOf .host) = true ∧ (s.group (s.groupOf .host)).state = .suspended) := by
  unfold State.takesWrite State.ready
  decide +kernel

/-! ### Sections -/

/-- A rover with section 3 as given. -/
def sec6 (x : Section) : State := { rover4 with kerb := { rover4.kerb with sections := [(3, x)] } }
/-- Section 3 on, planned ON or OFF, and while a delay runs. -/
def on6 : State := sec6 { Section.idle with captured := true, state := .on }
def planned6 (v : Bool) (x : SecState) : State := sec6 { Section.idle with plan := some (v, 5), state := x, captured := !v }
def delayed6 (t : Int) (x : SecState) : State := sec6 { Section.idle with due := some t, state := x, from_ := some 3, till := some 4 }

theorem witness_SectionsSwitch_plans :
    (on6.hasRole .rover = true ∧ on6.fleet.task = none ∧ on6.kerb.pose = none ∧ on6.busySections.contains 3 = true ∧ (on6.sec 3).state ≠ .fault ∧
      (on6.sec 3).commanded = true) ∧
    (let s := planned6 true .off
     s.hasRole .rover = true ∧ s.kerb.chain.fault = false ∧ s.busySections = [3] ∧ (s.sec 3).plan = some (true, 5) ∧ 5 ≤ s.slotNow + 1 ∧ (s.sec 3).state = .off) ∧
    (let s := planned6 false .on
     s.busySections = [3] ∧ (s.sec 3).plan = some (false, 5) ∧ (s.sec 3).state = .on) ∧ rover4.busySections = [] := by
  decide +kernel

theorem witness_SectionsSwitch_delays :
    (((delayed6 4000000000 .arming).sec 3).due = some 4000000000 ∧ 4000000000 ≤ (delayed6 4000000000 .arming).time64 ∧
      ((delayed6 4000000000 .arming).sec 3).state = .arming) ∧
    (((delayed6 4000000000 .closing).sec 3).state = .closing ∧ ((delayed6 4000000000 .closing).sec 3).from_ = some 3 ∧
      ((delayed6 4000000000 .closing).sec 3).till = some 4 ∧ (3 : Int) < min 4 4000000000) ∧
    ((delayed6 4000000001 .arming).sec 3).due = some 4000000001 ∧ (delayed6 4000000001 .arming).time64 < 4000000001 := by
  decide +kernel

theorem witness_SectionsSwitch_modes :
    (let s := State.at_ on6 Obj.sectionCursor 3
     s.takesWrite .host Obj.sectionMode 1 ∧ (s.sec (s.sectionOf .host)).commanded = true ∧ s.takesWrite .host Obj.sectionMode 2) ∧
    (rover4.takesWrite .host Obj.masterEnable 0 ∧ rover4.takesWrite .host Obj.masterEnable 1) := by
  unfold State.takesWrite State.ready
  decide +kernel

/-- A rover with a chain of 8 bits that runs. -/
def chain6 (c : Chain → Chain) : State :=
  let s := State.set (State.set rover4 Obj.chainLength 8) Obj.chainReadback 0
  { s with kerb := { s.kerb with chain := c { s.kerb.chain with running := true, captures := 1 } } }
/-- Its outputs enabled, and not yet. -/
def driven6 : State := chain6 (fun c => { c with oe := true })
def silent6 : State := chain6 (fun c => { c with oe := false, image := 0 })

theorem offImage_none (s : State) (h : s.enabledSections = []) : s.offImage = 0 := by simp [State.offImage, h]

theorem witness_SectionChain_slots :
    (driven6.chainMode = true ∧ driven6.regN Obj.chainLength ≠ 0 ∧ driven6.kerb.chain.doneSlot ≠ some driven6.slotNow ∧ driven6.kerb.chain.running = true ∧
      driven6.kerb.chain.fault = false ∧ driven6.kerb.chain.queue = [] ∧
      (driven6.reg Obj.chainReadback ≠ 1 ∨ 0 % 2 ^ driven6.regN Obj.chainLength = driven6.kerb.chain.shifted) ∧ driven6.kerb.chain.oe = true) ∧
    (silent6.mode.current = .rover ∧ silent6.reg Obj.chainReadback ≠ 1 ∧ silent6.kerb.chain.oe = false ∧ 0 < silent6.kerb.chain.captures) ∧
    rover4.regN Obj.chainLength = 0 := by
  decide +kernel

theorem witness_SectionChain_enable : silent6.kerb.chain.image = silent6.offImage := by
  rw [offImage_none _ (by decide +kernel)]
  rfl

theorem witness_SectionChain_fault :
    (let s := State.set (chain6 (fun c => { c with shifted := 5 })) Obj.chainReadback 1
     s.chainMode = true ∧ s.regN Obj.chainLength ≠ 0 ∧ s.kerb.chain.doneSlot ≠ some s.slotNow ∧ s.kerb.chain.running = true ∧ s.kerb.chain.fault = false ∧
       s.reg Obj.chainReadback = 1 ∧ 0 < s.kerb.chain.captures ∧ 4 % 2 ^ s.regN Obj.chainLength ≠ s.kerb.chain.shifted) ∧
    (let s := chain6 (fun c => { c with fault := true })
     s.takesWrite .host Obj.chainFaultClear 1 ∧ s.kerb.chain.fault = true) ∧
    (rover4.takesWrite .host Obj.chainFaultClear 1 ∧ rover4.takesWrite .host Obj.chainFaultClear 2 ∧ rover4.kerb.chain.fault = false) := by
  unfold State.takesWrite State.ready
  decide +kernel

theorem witness_SectionChain_objects :
    (rover4.chainFits .length 8 = true ∧ rover4.sectionsQuiet = true ∧ rover4.takesWrite .host (chainObj .length) 8 ∧ rover4.storePending = []) ∧
    (on6.takesWrite .host (chainObj .divider) 50 ∧ on6.chainFits .divider 50 = true ∧ on6.sectionsQuiet = false) ∧
    (let s := State.at_ rover4 Obj.sectionCursor 3
     s.takesWrite .host (sectionObj .onDelay) 7 ∧ (s.sec (s.sectionOf .host)).state = .off ∧
       (s.setRegAt (sectionObj .onDelay) (s.sectionOf .host) 7).sectionRecordOk (s.sectionOf .host) = true ∧ s.storePending = []) ∧
    (let s := State.at_ on6 Obj.sectionCursor 3
     s.takesWrite .host (sectionObj .onDelay) 7 ∧ (s.sec (s.sectionOf .host)).state ≠ .off) := by
  unfold State.takesWrite State.ready
  decide +kernel

/-! ### Fields, tasks, claims -/

/-- A square field 9 of 10 m with cells of code 3, served by base 0. -/
def square7 : List Byte :=
  leBytes 2 3 ++ leBytes 2 9 ++ [3, 1, 0, 0] ++ List.replicate 20 0 ++ leBytes 4 4 ++ leBytes 2 4 ++ leBytes 2 0 ++
    leInt 4 0 ++ leInt 4 0 ++ leInt 4 10000 ++ leInt 4 0 ++ leInt 4 10000 ++ leInt 4 10000 ++ leInt 4 0 ++ leInt 4 10000
def field7 : List Byte := withCrc32 square7
def fieldRec7 : FieldRec := { id := 9, cell := 3, layers := 1, serving := 0, lat := 0, lon := 0, height := 0, polys := [], raw := [] }
def track7 (st : TrackState) (h : Nat) : Track :=
  { work := true, products := 1, width := 1000, verts := [{ e := 0, n := 0 }, { e := 0, n := 9000 }], state := st, holder := h, progress := 0 }
def task7 (st : TaskState) (h : Option Nat) : FleetTask :=
  { id := 7, field := 9, priority := 1, caps := 0, rates := [0, 0, 0, 0], ranges := [(4, 2)], state := st, prior := .unassigned, holder := h
    offerDue := some 8000000000, leaseEnd := some 8000000000 }
/-- A manager with field 9, tracks 4 and 5, and task 7 as given; machine 5 is connected. -/
def fleet7 (ts : TrackState) (th : Nat) (l : List FleetTask) : State :=
  let s := base4.updFleet (fun f => { f with fields := [(2, some fieldRec7)], tasks := l
                                             tracks := [(trackKey 9 4, some (track7 ts th)), (trackKey 9 5, some (track7 ts th))] })
  s.updRadio (fun r => { r with slots := [(5, { SlotConn.free with state := .connected })] })
/-- The same under the host's task cursor. -/
def cmd7 (s : State) : State := State.set (State.at_ s Obj.taskCursor 7) Obj.taskHandOverTarget 5
def tracks7 : List Byte :=
  withCrc32 (leBytes 2 9 ++ leBytes 2 8 ++ leBytes 2 1 ++ leBytes 2 0 ++ ([0, 1] ++ leBytes 2 1000 ++ leBytes 2 2 ++ leBytes 2 0 ++
    leInt 4 0 ++ leInt 4 0 ++ leInt 4 0 ++ leInt 4 5000))
def record7 : List Byte :=
  withCrc32 (leBytes 4 7 ++ leBytes 2 9 ++ [1, 1] ++ leBytes 2 0 ++ leBytes 2 0 ++ List.replicate 16 0 ++ (leBytes 2 4 ++ leBytes 2 2))
def head7 : LinkHead := { peer := 0, epoch := 1, seq := 1, tagOk := true }

/-- No lease of the fleet is due. -/
def leased7 (s : State) : Bool := s.fleet.tasks.all (fun x => match x.leaseEnd with | none => true | some e => decide (s.now < e))

theorem leased7_open (s : State) (h : leased7 s = true) : ∀ x ∈ s.fleet.tasks, ∀ e, x.leaseEnd = some e → s.now < e := by
  intro x hx e he
  simpa [he] using (List.all_eq_true.mp h) x hx

theorem field7_sound : fieldBad field7 = false := by
  unfold fieldBad
  rw [show crc32Ok field7 = true from crc32Ok_withCrc32 _]
  decide +kernel

theorem witness_FieldsAndTasks_check : base4.fieldCheck field7 = 0 := by
  simp only [State.fieldCheck, field7_sound]
  decide +kernel

/-- A base whose 64 maps are all of other fields. -/
def full7 : State :=
  base4.updCover (fun c => { c with maps := (List.range 64).map (fun k => (k, some (newMap { fieldRec7 with id := k + 100 }))) })
/-- Field 9 under the host's cursor. -/
def cursor7 (s : State) : State := State.at_ s Obj.fieldCursor 2
/-- Task 7 active at machine 5, its lease running or at its end. -/
def active7 : State := fleet7 .reserved 5 [{ task7 .active (some 5) with leaseEnd := some 8000000001 }]
def ended7 : State := fleet7 .reserved 5 [task7 .active (some 5)]

theorem witness_FieldsAndTasks_fields :
    (base4.takesBytes .host Obj.fieldLoad field7 ∧ base4.isWorker = false ∧ (base4.createMap (parseField field7)).2.isSome = true) ∧
    (full7.createMap (parseField field7)).2 = none ∧ (base4.takesBytes .host Obj.fieldLoad [1] ∧ base4.fieldCheck [1] ≠ 0) ∧
    (let s := cursor7 (fleet7 .free 0xFFFF [])
     s.takesWrite .host Obj.fieldUnload 1 ∧ s.isWorker = false ∧ Tab.get none s.fleet.fields (s.instanceOf .host Obj.fieldUnload) = some fieldRec7 ∧
       s.fleet.tasks.any (fun t => decide (t.field = fieldRec7.id) && taskInWork t) = false) ∧
    (cursor7 active7).fleet.tasks.any (fun t => decide (t.field = fieldRec7.id) && taskInWork t) = true := by
  unfold State.takesWrite State.takesBytes State.ready
  decide +kernel

theorem tracks7_sound : crc32Ok tracks7 = true := crc32Ok_withCrc32 _

theorem witness_FieldsAndTasks_tracks :
    let s := fleet7 .free 0xFFFF []
    s.takesBytes .host Obj.trackLoad tracks7 ∧ s.isWorker = false ∧ s.fieldLoaded (fieldU tracks7 0 2) = true ∧
      1 ≤ fieldU tracks7 4 2 ∧ fieldU tracks7 4 2 ≤ 4096 ∧ fieldU tracks7 2 2 + fieldU tracks7 4 2 ≤ 65536 ∧
      (parseTracks (fieldU tracks7 4 2) ((tracks7.drop 8).take (tracks7.length - 12))).isSome = true ∧
      (∀ k < fieldU tracks7 4 2, s.track (fieldU tracks7 0 2) (fieldU tracks7 2 2 + k) = none) ∧
      s.poolUsed (fieldU tracks7 0 2) ((List.range (fieldU tracks7 4 2)).map (fun k => fieldU tracks7 2 2 + k)) = 4 ∧
      base4.takesBytes .host Obj.trackLoad [0, 0] ∧ crc32Ok [0, 0] = false := by
  unfold State.takesBytes State.ready
  decide +kernel

theorem record7_sound : crc32Ok record7 = true := crc32Ok_withCrc32 _

theorem witness_FieldsAndTasks_record :
    let s := fleet7 .free 0xFFFF []
    let b := record7
    s.takesBytes .host Obj.taskLoad b ∧ b.length = 32 + 4 * fieldU b 7 1 ∧ fieldU b 7 1 ≠ 0 ∧ fieldU b 7 1 ≤ 16 ∧
      fieldU b 0 4 ≠ 0 ∧ fieldU b 0 4 ≠ 0xFFFFFFFF ∧ fieldU b 10 2 = 0 ∧ s.fieldLoaded (fieldU b 4 2) = true ∧ s.taskOf (fieldU b 0 4) = none ∧
      s.fleet.tasks.length < 16384 ∧ rangeTracks (parseTask b).ranges = [4, 5] ∧
      (∀ k ∈ [4, 5], s.inTask (fieldU b 4 2) k = false ∧ s.track (fieldU b 4 2) k = some (track7 .free 0xFFFF)) := by
  unfold State.takesBytes State.ready
  decide +kernel

/-- A worker. -/
def worker7 : State := State.boot (State.boot base4 Obj.baseSubRole 1) Obj.baseIndex 3

theorem witness_FieldsAndTasks_copy :
    worker7.heeds ∧ (worker7.acceptLink head7).2 = true ∧ (worker7.acceptLink { head7 with tagOk := false }).2 = false ∧ worker7.isWorker = true := by
  unfold State.heeds
  decide +kernel

theorem witness_FieldsAndTasks_commands :
    (let s := cmd7 active7
     let k := { task7 .active (some 5) with leaseEnd := some 8000000001 }
     s.takesWrite .host Obj.taskCommand 1 ∧ s.takesWrite .host Obj.taskCommand 2 ∧ s.takesWrite .host Obj.taskCommand 3 ∧ leased7 s = true ∧
       s.isWorker = false ∧ s.taskOf (s.instanceOf .host Obj.taskCommand) = some k ∧ taskInWork k = true ∧
       s.mode.current ≠ .halt ∧ s.activationCommitted = false ∧ s.fieldOf k.field = some fieldRec7 ∧
       s.connectedAt (s.regN Obj.taskHandOverTarget) fieldRec7.serving = true ∧ s.hasCaps (s.regN Obj.taskHandOverTarget) k.caps = true) ∧
    (let s := cmd7 base4
     s.takesWrite .host Obj.taskCommand 3 ∧ s.taskOf (s.instanceOf .host Obj.taskCommand) = none ∧ leased7 s = true) := by
  unfold State.takesWrite State.ready
  decide +kernel

theorem witness_FieldsAndTasks_offers :
    (let s := fleet7 .free 0xFFFF [task7 .unassigned none]
     s.isBase = true ∧ s.isManager = true ∧ s.activationCommitted = false ∧ s.taskOf 7 = some (task7 .unassigned none) ∧
       s.fieldOf 9 = some fieldRec7 ∧ s.connectedAt 5 fieldRec7.serving = true ∧ s.hasCaps 5 (task7 .unassigned none).caps = true) ∧
    (let s := fleet7 .free 0xFFFF [task7 .offered (some 5)]
     s.taskOf 7 = some (task7 .offered (some 5)) ∧ s.due (task7 .offered (some 5)).offerDue = true) := by
  decide +kernel

/-- A claim of task 7 by machine 5, and the manager's queue. -/
def claim7 : Claim := { machine := 5, task := 7, tracks := some [4], at_ := 8000000000 }
def queue7 (st : TaskState) : State :=
  (fleet7 .free 0xFFFF [{ task7 st (some 5) with leaseEnd := none }]).updFleet (fun f => { f with claims := [claim7] })
/-- The same request as a base-link message. -/
def sent7 (d : List Byte) : Uplink := .link head7 5 d
def ask7 : List Byte := leBytes 4 7 ++ [0]
def rtask7 : RoverTask := { id := 7, field := fieldRec7, rates := [], tracks := [(4, track7 .reserved 5)] }
def holding7 : State := rover4.updFleet (fun f => { f with task := some rtask7 })

theorem witness_ClaimsAndLinks_arrival :
    (base4.heeds ∧ (base4.uplink 2 (sent7 ask7)).2 = some (5, ask7) ∧ (base4.uplink 2 (sent7 ask7)).1.isBase = true ∧
      (base4.uplink 2 (sent7 ask7)).1.isWorker = false) ∧
    (worker7.heeds ∧ (worker7.uplink 2 (sent7 ask7)).2 = some (5, ask7) ∧ (worker7.uplink 2 (sent7 ask7)).1.isWorker = true ∧
      (worker7.uplink 2 (sent7 ask7)).1.fleet.managerLost = false ∧ (worker7.uplink 2 (sent7 ask7)).1.mode.current ≠ .halt) ∧
    (let s := worker7.updFleet (fun f => { f with managerLost := true })
     let x : Uplink := .link head7 (s.ownIndex * 128 + 5) ask7
     s.heeds ∧ (s.uplink 2 x).2 = some (s.ownIndex * 128 + 5, ask7) ∧ (s.uplink 2 x).1.fleet.managerLost = true ∧
       (s.ownIndex * 128 + 5) / 128 = (s.uplink 2 x).1.ownIndex) := by
  unfold State.heeds
  decide +kernel

theorem witness_ClaimsAndLinks_decision :
    (let s := queue7 .done
     s.isBase = true ∧ s.isManager = true ∧ s.fleet.claims = claim7 :: [] ∧ (s.judgeClaim claim7).1 ≠ 0 ∧ claim7.machine / 128 = s.ownIndex ∧ leased7 s = true) ∧
    (let s := queue7 .offered
     s.fleet.claims = claim7 :: [] ∧ s.judgeClaim claim7 = (0, [4]) ∧ (s.taskOf claim7.task).isSome = true ∧ leased7 s = true) ∧
    base4.fleet.claims = [] ∧ (ended7.fleet.tasks = [task7 .active (some 5)] ∧ (task7 .active (some 5)).leaseEnd = some 8000000000 ∧ 8000000000 ≤ ended7.now) := by
  decide +kernel

theorem witness_ClaimsAndLinks_records :
    (let u := (active7.uplink 4 (sent7 (leBytes 2 4))).1
     active7.heeds ∧ (active7.uplink 4 (sent7 (leBytes 2 4))).2 = some (5, leBytes 2 4) ∧ u.isBase = true ∧ u.isWorker = false ∧ u.cover.log = [] ∧
       (u.taskOfTrack 5 (fieldU (leBytes 2 4) 0 2)).isSome = true ∧ u.track 9 (fieldU (leBytes 2 4) 0 2) = some (track7 .reserved 5)) ∧
    (let u := (active7.uplink 4 (sent7 (leBytes 2 6))).1
     (active7.uplink 4 (sent7 (leBytes 2 6))).2 = some (5, leBytes 2 6) ∧ u.taskOfTrack 5 (fieldU (leBytes 2 6) 0 2) = none) ∧
    (let u := (active7.uplink 5 (sent7 (leBytes 4 7))).1
     (active7.uplink 5 (sent7 (leBytes 4 7))).2 = some (5, leBytes 4 7) ∧ u.isBase = true ∧ u.isWorker = false ∧ u.cover.log = [] ∧
       (u.taskOf (fieldU (leBytes 4 7) 0 4)).map (·.holder) = some (some 5)) := by
  unfold State.heeds
  decide +kernel

theorem witness_ClaimsAndLinks_rover :
    (let b : List Byte := leBytes 4 7 ++ [1, 4, 0]
     rover4.takesBytes .host Obj.claimRequest b ∧ 5 ≤ b.length ∧ b.length = 5 + 2 * fieldU b 4 1 ∧ fieldU b 4 1 ≤ 64) ∧
    (holding7.takesWrite .host Obj.taskRelease 1 ∧ holding7.fleet.task = some rtask7) ∧
    (holding7.takesWrite .host Obj.trackDone 4 ∧ rtask7.tracks.any (fun x => decide (x.1 = (4 : Int).toNat)) = true) := by
  unfold State.takesWrite State.takesBytes State.ready
  decide +kernel

theorem witness_ClaimsAndLinks_links :
    base4.fleet.heartbeatDue ≤ base4.now ∧
    (let s := worker7.updFleet (fun f => { f with linked := 1, heard := [(0, some 0)] })
     s.isBase = true ∧ bit s.fleet.linked 0 = true ∧ Tab.get none s.fleet.heard 0 = some 0 ∧ 0 + ticksMs (s.regN Obj.baseLinkTimeout) ≤ s.now ∧
       s.isWorker = true) ∧ base4.baseSilent 3 = false ∧
    (base4.heeds ∧ (base4.acceptLink head7).2 = true ∧ 15 < 16 ∧ 15 ≠ base4.ownIndex) ∧
    (worker7.isBase = true ∧ 0 ≠ worker7.ownIndex ∧ (worker7.updFleet (fun f => { f with managerLost := true })).fleet.managerLost = true) := by
  unfold State.heeds
  decide +kernel

/-! ### Coverage map -/

def est8 : PoseEstimate :=
  { lat := 0, lon := 0, height := 0, velN := 0, velE := 0, velU := 0, heading := 0, pitch := 0, roll := 0, yawRate := 0, hSigma := 0, vSigma := 0, hdgSigma := 0 }
def pose8 : Pose := { time := 4000000000, est := est8, state := 4, hdgState := 4, corrAge := 0, nsat := 9, flags := 0, seq := 1 }
/-- A rover with a task and a pose, and section 3 as given. -/
def app8 (x : Section) (r : List RoverRun) : State :=
  let s := sec6 x
  { s with fleet := { s.fleet with task := some rtask7 }, kerb := { s.kerb with pose := some pose8 }, cache := { s.cache with runs := r } }
def run8 : RoverRun :=
  { run := 4, product := 0, first := 3, last := 3, left := { e := 0, n := 0 }, right := { e := 0, n := 9 }, before := none, heading := 0 }

/-- A segment record of slot 5 in map 9, and what it spells. -/
def segHead8 : List Byte := [5, 4] ++ leBytes 2 6 ++ leBytes 2 1 ++ leBytes 2 9 ++ List.replicate 20 0
def seg8 : List Byte := withCrc32 segHead8
def g8 : Segment :=
  { slot := 5, product := 0, runStart := true, runEnd := false, seq := 6, run := 1, map := 9, left := { e := 0, n := 0 }, right := { e := 0, n := 0 }, tEnd := 0 }

theorem parse_seg8 : parseSegment seg8 = some g8 := by
  unfold parseSegment
  rw [if_pos ⟨by decide +kernel, crc32Ok_withCrc32 _⟩]
  decide +kernel

def logged8 (start : Bool) : LoggedSegment := { mseq := 1, machine := 5, seg := { g8 with runStart := start } }
def map8 : CoverMap :=
  { id := 9, cell := 3, layers := 1, tiles := [(77, some { version := 0, cells := [] })], ownSeq := [(5, some 3)], dirty := [], damaged := [], restoredOld := 0 }
def open8 : OpenRun := { slot := 5, run := 1, left := { e := 0, n := 0 }, right := { e := 0, n := 9 }, before := none }
def log8 (m : Tab (Option CoverMap)) : State :=
  { base4 with cover := { base4.cover with maps := m, log := [logged8 false], runs := [open8] } }

/-- A base that expects SEQ n of machine 5; where its NAND is faulty. -/
def expects8 (s : State) (n : Nat) : State := { s with cover := { s.cover with expected := [(5, some n)] } }
def faulty8 : State := { base4 with store := { base4.store with nandFault := true } }
/-- The segment in a base-link message. -/
def sent8 (s : State) : State × Option (Nat × List Byte) := s.uplink 1 (.link head7 5 seg8)

theorem witness_Segments_runs :
    (let s := app8 Section.idle []
     s.hasRole .rover = true ∧ s.fleet.task = some rtask7 ∧ s.kerb.pose = some pose8 ∧ s.cache.runs = [] ∧ s.runsNow s.time64 = [] ∧
       s.segmentBoundary s.time64 = true) ∧
    (let s := app8 { Section.idle with state := .on, from_ := some 0 } []
     s.hasRole .rover = true ∧ s.cache.runs = [] ∧ s.runsNow s.time64 = [(0, 3, 3)]) ∧
    (let s := app8 Section.idle [run8]
     s.hasRole .rover = true ∧ s.cache.runs = [run8] ∧ s.runsNow s.time64 = []) ∧ rover4.fleet.task = none := by
  decide +kernel

theorem witness_Segments_accepted :
    base4.heeds ∧ (sent8 base4).2 = some (5, seg8) ∧ (sent8 base4).1.isBase = true ∧ (sent8 base4).1.isWorker = false ∧ g8.slot = 5 % 128 ∧
      (Tab.get none (sent8 base4).1.cover.expected 5).getD g8.seq = g8.seq ∧ (sent8 base4).1.logFull = false ∧
      (sent8 base4).1.store.nandFault = false ∧ (sent8 base4).1.fleet.managerLost = false ∧ 5 / 128 = 0 := by
  unfold State.heeds
  decide +kernel

theorem witness_Segments_refused :
    ((sent8 (expects8 base4 5)).2 = some (5, seg8) ∧ 0 < signedDiff 16 g8.seq ((Tab.get none (sent8 (expects8 base4 5)).1.cover.expected 5).getD g8.seq)) ∧
    ((sent8 (expects8 base4 9)).2 = some (5, seg8) ∧ signedDiff 16 g8.seq ((Tab.get none (sent8 (expects8 base4 9)).1.cover.expected 5).getD g8.seq) < 0) ∧
    ((sent8 faulty8).2 = some (5, seg8) ∧ g8.seq = (Tab.get none (sent8 faulty8).1.cover.expected 5).getD g8.seq ∧ (sent8 faulty8).1.store.nandFault = true) ∧
    ((base4.uplink 1 (.link head7 5 [])).2 = some (5, []) ∧ parseSegment [] = none) := by
  decide +kernel

theorem witness_Segments_worker :
    worker7.heeds ∧ (sent8 worker7).2 = some (5, seg8) ∧ (sent8 worker7).1.isBase = true ∧ (sent8 worker7).1.isWorker = true ∧
      (Tab.get none (sent8 worker7).1.cover.expected 5).getD g8.seq = g8.seq ∧ (sent8 worker7).1.logFull = false ∧
      (sent8 worker7).1.store.nandFault = false ∧ (sent8 worker7).1.fleet.managerLost = false ∧
      (worker7.acceptLink head7).2 = true ∧ (worker7.acceptLink { head7 with tagOk := false }).2 = false ∧
      1 = (worker7.regN Obj.mapSeqPainted + 1) % 2 ^ 32 ∧ worker7.mapSlot g8.map = none ∧ 5 ≠ (worker7.regN Obj.mapSeqPainted + 1) % 2 ^ 32 := by
  unfold State.heeds
  decide +kernel

theorem witness_Segments_painted :
    (let s := log8 []
     s.isBase = true ∧ s.cover.restoring = false ∧ s.nextToPaint = some (logged8 false) ∧ s.mapSlot (logged8 false).seg.map = none) ∧
    (let s := log8 [(2, some map8)]
     s.nextToPaint = some (logged8 false) ∧ s.mapSlot (logged8 false).seg.map = some 2 ∧ Tab.get none s.cover.maps 2 = some map8 ∧
       (logged8 false).seg.product < map8.layers ∧ openRun s.cover.runs (logged8 false).machine (logged8 false).seg.run = some open8 ∧
       (logged8 false).seg.runStart = false ∧ s.cover.check = none) ∧ base4.nextToPaint = none := by
  decide +kernel

def cover8 (f : CoverState → CoverState) : State := { base4 with cover := f { base4.cover with maps := [(2, some map8)] } }
/-- The data of a request for tile 77 of map 9. -/
def ask8 : List Byte := leBytes 2 9 ++ [1] ++ leInt 2 (tileX 77) ++ leInt 2 (tileY 77)
def tileOf8 : Tile := { version := 0, cells := [] }
def check8 : Checkpoint := { mark := 3, maps := [], runs := [], waiting := [], copied := 0 }

/-- A base whose maps are under the host's cursor, and where a task refers to map 9. -/
def maps8 : State := State.at_ (cover8 id) Obj.mapCursor 2
def used8 : State := { maps8 with fleet := { base4.fleet with tasks := [task7 .unassigned none] } }
/-- A base with NAND whose checkpoint is due. -/
def overdue8 : State := { State.tick (cover8 id) (2 ^ 62) with store := { base4.store with nandPresent := true } }

theorem witness_TilesAndCheckpoints_tiles :
    (let u := ((cover8 id).uplink 3 (.link head7 5 ask8)).1
     (cover8 id).heeds ∧ ((cover8 id).uplink 3 (.link head7 5 ask8)).2 = some (5, ask8) ∧ u.isBase = true ∧
       u.mapSlot (fieldU ask8 0 2) = some 2 ∧ Tab.get none u.cover.maps 2 = some map8 ∧ fieldU ask8 2 1 = 1 ∧
       (Tab.get none map8.tiles (tileKey (fieldI ask8 3 2) (fieldI ask8 5 2))).isSome = true) ∧
    (let s := cover8 (fun c => { c with sends := [(5, 2, 77)] })
     s.isBase = true ∧ s.cover.restoring = false ∧ s.cover.sends = [(5, 2, 77)] ∧ Tab.get none s.cover.maps 2 = some map8 ∧
       Tab.get none map8.tiles 77 = some tileOf8 ∧ map8.damaged.contains 77 = false ∧ Tab.get none map8.ownSeq (s.ownIndex * 128 + 5) = some 3) ∧
    (cover8 (fun c => { c with sends := [(5, 2, 77), (6, 2, 77)] })).cover.sends = [(5, 2, 77), (6, 2, 77)] ∧ base4.cover.sends = [] ∧
    (app8 Section.idle []).hasRole .rover = true := by
  unfold State.heeds
  decide +kernel

theorem witness_TilesAndCheckpoints_checkpoints :
    (overdue8.isBase = true ∧ overdue8.cover.check = none ∧ overdue8.cover.restoring = false ∧ overdue8.store.nandPresent = true ∧
      overdue8.cover.checkpointAt + ticksS (overdue8.regN Obj.checkpointInterval) ≤ overdue8.now) ∧ base4.store.nandPresent = false ∧
    (cover8 (fun c => { c with check := some check8 })).cover.check = some check8 ∧ base4.cover.check = none ∧
    (let s := cover8 (fun c => { c with restoring := true })
     s.cover.restoring = true ∧ s.cover.log = [] ∧ Tab.get none s.cover.maps 2 = some map8) ∧ base4.cover.restoring = false := by
  decide +kernel

theorem witness_TilesAndCheckpoints_maps :
    (maps8.takesWrite .host Obj.mapDelete 1 ∧ Tab.get none maps8.cover.maps (maps8.instanceOf .host Obj.mapDelete) = some map8 ∧
      maps8.fleet.tasks.any (fun t => decide (t.field = map8.id)) = false) ∧
    (used8.takesWrite .host Obj.mapDelete 1 ∧ Tab.get none used8.cover.maps (used8.instanceOf .host Obj.mapDelete) = some map8 ∧
      used8.fleet.tasks.any (fun t => decide (t.field = map8.id)) = true) ∧
    ((cover8 id).isBase = true ∧ Tab.get none (cover8 id).cover.maps 2 = some map8 ∧ (Tab.get none map8.tiles 77).isSome = true ∧
      Tab.get none map8.tiles 78 = none) ∧ rover4.isBase = false := by
  unfold State.takesWrite State.ready
  decide +kernel

/-! ### The dictionary -/

/-- A session of a rover with a challenge. -/
def sess9 (f : Session → Session) : State := rover4.updSession .host f
def chal9 : State := sess9 (fun x => { x with challenge := some [1, 2], failures := 2 })
/-- A unit with TCP connections, the first n open. -/
def tcp9 (n : Nat) : State :=
  let s := State.set base4 Obj.dictTcpEnable 1
  let s := s.setPort 0 { s.port 0 with linkUp := true }
  (List.range n).foldl (fun s m => s.updSession (.tcp (Fin.ofNat 4 m)) (fun _ => { Session.closed with open_ := true, granted := some .service })) s

/-- A response under a key. -/
def response9 (c : Byte) (k ch : List Byte) : List Byte := c :: slice (Config.hmacSha256 k (ch ++ [c])) 0 16

theorem slice_length (l : List Byte) (a n : Nat) : (slice l a n).length = n := by
  simp only [slice, List.length_append, List.length_replicate, List.length_take, List.length_drop]; omega

theorem response9_taken (c : Byte) (k ch : List Byte) : chal9.takesBytes .host Obj.accessResponse (response9 c k ch) ∧
    (response9 c k ch).drop 1 = slice (Config.hmacSha256 k (ch ++ (response9 c k ch).take 1)) 0 16 ∧ fieldU (response9 c k ch) 0 1 = c.toNat := by
  refine ⟨⟨?_, ?_, ?_⟩, by simp [response9], by rfl⟩
  · unfold State.ready; decide +kernel
  · decide +kernel
  · have h : (response9 c k ch).length = 17 := by simp [response9, slice_length]
    simp only [lengthCheck, h]
    change (if (variableOctets Obj.accessResponse || decide (17 = Obj.accessResponse.size)) = true then none else some abortLength) = none
    decide +kernel

/-- A locked session, and the challenge of another one. -/
def locked9 (n : Nat) : State := sess9 (fun x => { x with lockedUntil := some n })

theorem witness_Sessions_challenge :
    (rover4.takesRead .host Obj.accessChallenge ∧ (List.replicate 16 (7 : Byte)).length = 16) ∧
    (chal9.takesBytes .host Obj.accessResponse (List.replicate 17 0) ∧ chal9.lockedOut .host = false ∧ (chal9.session .host).challenge = some [1, 2] ∧
      chal9.accessKey .host .integrator = some (List.replicate 32 0) ∧ (sess9 (fun x => { x with failures := 2 })).lockedOut .host = false) ∧
    (sess9 (fun x => { x with failures := 1 })).takesBytes .host Obj.accessResponse (List.replicate 17 0) := by
  unfold State.takesRead State.takesBytes State.ready
  decide +kernel

theorem witness_Sessions_levels :
    ((locked9 8000000001).takesBytes .host Obj.accessResponse (List.replicate 17 0) ∧ (locked9 8000000001).lockedOut .host = true ∧
      (locked9 8000000001).now < 8000000001) ∧
    rover4.takesWrite .host Obj.accessDrop 1 ∧ ((locked9 5).running = true ∧ 5 ≤ (locked9 5).now) ∧ rover4.sessionOpen .host = true := by
  unfold State.takesBytes State.takesWrite State.ready
  decide +kernel

theorem witness_Sessions_connections :
    ((tcp9 2).heeds ∧ (tcp9 2).operating = true ∧ ((tcp9 2).bootReg Obj.dictTcpPort) = 5019 ∧ bit ((tcp9 2).regN Obj.dictTcpEnable) 0 = true ∧
      ((tcp9 2).port 0).linkUp = true ∧ ((tcp9 2).session (.tcp 2)).open_ = false ∧ (∀ m : Fin 4, m < 2 → ((tcp9 2).session (.tcp m)).open_ = true)) ∧
    (∀ m : Fin 4, ((tcp9 4).session (.tcp m)).open_ = true) ∧ (tcp9 4).remotes = [] := by
  unfold State.heeds
  decide +kernel

theorem witness_SessionsGrant : chal9.takesBytes .host Obj.accessResponse (response9 1 (List.replicate 32 0) [1, 2]) ∧
    fieldU (response9 1 (List.replicate 32 0) [1, 2]) 0 1 = 1 :=
  ⟨(response9_taken _ _ _).1, (response9_taken _ _ _).2.2⟩

/-- A request of TCP session 0 for an object. -/
def req9 (op : Nat) (addr : Nat) (data : List Byte) : Request :=
  { op := op, tag := 3, addr := addr, more := false, base := 255, offset := 0, data := data, since := 7999999999 }
/-- A state in which it waits. -/
def waits9 (s : State) (r : Request) : State := s.updSession (.tcp 0) (fun x => { x with waiting := [r] })
def remote9 : RemoteRequest := { slot := 5, from_ := .tcp 0, req := req9 1 (Obj.sectionOnDelay.addr) [], section_ := 3, due := some 8000000000 }
/-- A base that waits for the answer of slot 5. -/
def asked9 : State :=
  { base2 with remotes := [remote9], sessions := (tcp9 1).sessions }
def answer9 : List Byte := messageBytes 0x81 3 Obj.sectionOnDelay.addr false 255 0 0 [9, 0]

/-- A state that has accepted a frame in one piece. -/
def heard9 (s : State) (f : AirFrame) : State :=
  ((s.updRadio (fun r => { r with accepted := Tab.put none r.accepted f.src (some (s.interval, f.fseq)) })).noteInput).setPart (f.src * 16 + f.type) none

/-- A record in one sealed frame is received. -/
theorem receives_whole (s : State) (f : AirFrame) (key : List Byte) (h : f.wf) (ht : f.type < 13 ∧ f.type ≠ 6 ∧ f.type ≠ 7)
    (hk : s.frameKey f = some key) (hl : laterThan (Tab.get none s.radio.accepted f.src) s.interval f.fseq = true) (hp : s.radio.parts = [])
    (hb : f.first = true ∧ f.last = true ∧ f.body.length ≤ 135168) :
    ∃ l g, s.receiveRecord [f.type] l = (heard9 s f, some (g, f.body)) ∧ g.src = f.src ∧ g.dst = f.dst := by
  have hr := receive_sealed s f key h ht.1 ht.2.1 ht.2.2 hk hl
  refine ⟨[(sealFrame key s.netFleet f s.interval).bytes], { f with mic := frameMic key s.netFleet f s.interval }, ?_, rfl, rfl⟩
  simp only [State.receiveRecord, hr, State.reassemble]
  simp [hb, hp, Tab.get, heard9]

/-- The answer of slot 5, and a tunnel request to a rover. -/
def answerFrame9 : AirFrame := up1 0xC answer9
def tunnelFrame9 : AirFrame := down1 0xC 5 (messageBytes 1 3 Obj.sectionOnDelay.addr false 255 0 0 [])
def tunnelled9 (v : Int) : State := State.set rover2 Obj.tunnelEnable v

theorem receives_answer : ∃ l g, asked9.receiveRecord [0xC] l = (heard9 asked9 answerFrame9, some (g, answer9)) ∧ g.src = 5 ∧ g.dst = 0x80 :=
  receives_whole asked9 answerFrame9 (List.replicate 16 1) (by unfold AirFrame.wf; decide +kernel) (by decide) (by decide +kernel) (by decide +kernel) rfl
    (by decide +kernel)

theorem receives_tunnel (v : Int) : ∃ l g, (tunnelled9 v).receiveRecord [0xC] l = (heard9 (tunnelled9 v) tunnelFrame9, some (g, tunnelFrame9.body)) ∧ g.src = 0x83 ∧ g.dst = 5 :=
  receives_whole (tunnelled9 v) tunnelFrame9 (List.replicate 16 2) (by unfold AirFrame.wf; decide +kernel) (by decide) (by rfl) (by rfl) rfl (by decide +kernel)

theorem witness_Requests_air :
    ((heard9 asked9 answerFrame9).remotes = [remote9] ∧ ((heard9 asked9 answerFrame9).slot 5).state = .connected) ∧
    ((heard9 (tunnelled9 1) tunnelFrame9).reaches (.radio .operator) = true ∧ (heard9 (tunnelled9 1) tunnelFrame9).outstanding (.radio .operator) = 0 ∧
      (heard9 (tunnelled9 1) tunnelFrame9).reg Obj.tunnelEnable ≠ 0 ∧ (heard9 (tunnelled9 0) tunnelFrame9).reaches (.radio .operator) = true ∧
      (heard9 (tunnelled9 0) tunnelFrame9).reg Obj.tunnelEnable = 0) := by
  decide +kernel

/-- A request is the oldest of a session that serves none, and goes to an object of this module. -/
def begun9 (s : State) (r : Request) : Bool :=
  decide (s.zheoc.deposed = false) && s.reaches (.tcp 0) && decide ((s.session (.tcp 0)).serving = none) &&
    decide ((s.session (.tcp 0)).waiting = [r]) && decide (s.now < r.since + ticksMs 200)
def served9 (s : State) (r : Request) (o : ObjDesc) : Bool :=
  begun9 s r && decide (r.base = 255) && decide (s.mode.current ≠ .boot) && decide (objOf r.addr = some o) && !(s.isBase && remoteCapable o)

theorem begun9_begins (s : State) (r : Request) (h : begun9 s r = true) : s.begins (.tcp 0) r := by
  simp only [begun9, Bool.and_eq_true, decide_eq_true_eq] at h
  obtain ⟨⟨⟨⟨hd, hr⟩, hs⟩, hw⟩, ht⟩ := h
  exact ⟨hd, hr, hs, ⟨[], hw⟩, ht⟩

theorem served9_serves (s : State) (r : Request) (o : ObjDesc) (h : served9 s r o = true) : s.serves (.tcp 0) r o := by
  simp only [served9, Bool.and_eq_true, decide_eq_true_eq] at h
  obtain ⟨⟨⟨⟨hb, hr⟩, hm⟩, ho⟩, hf⟩ := h
  exact ⟨begun9_begins s r hb, hr, hm, ho, by cases hx : (s.isBase && remoteCapable o) <;> simp_all⟩

/-- Reads, writes and segments that wait at TCP session 0 of a base. -/
def read9 : Request := req9 1 Obj.sessionTimeout.addr []
def write9 : Request := req9 2 Obj.sessionTimeout.addr [44, 1]
def short9 : Request := req9 2 Obj.sessionTimeout.addr [44]
def fixed9 : Request := req9 2 Obj.dictBusyAborts.addr [1]
def next9 : Request := { req9 3 Obj.objectDirectory.addr [] with offset := 8 }
def later9 : Request := { req9 4 Obj.fieldLoad.addr [1] with offset := 8 }
def first9 : Request := { req9 4 Obj.fieldLoad.addr [1] with more := true }
def at9 (r : Request) : State := waits9 (tcp9 1) r
def list9 : State := (at9 next9).updSession (.tcp 0) (fun x => { x with snapshot := some (Obj.objectDirectory.addr, List.replicate 9 7) })

theorem witness_Requests_arrive :
    ((tcp9 1).reaches (.tcp 0) = true ∧ (tcp9 1).outstanding (.tcp 0) < sessionRoom (.tcp 0) ∧ ([] : List Byte).length ≤ sessionData (.tcp 0)) ∧
    (tcp9 1).reaches (.tcp 3) = false ∧ (rover4.hostReady = true ∧ rover4.zheoc.deposed = false ∧ rover4.mbox.state ≠ .busy) := by
  decide +kernel

theorem witness_Requests_values :
    (served9 (at9 read9) read9 Obj.sessionTimeout = true ∧ Obj.sessionTimeout.ty ≠ .domain ∧ (at9 read9).refuses (.tcp 0) Obj.sessionTimeout false = none ∧
      (((at9 read9).taken (.tcp 0) read9).readValue (.tcp 0) Obj.sessionTimeout).isSome = true) ∧
    (served9 (at9 write9) write9 Obj.sessionTimeout = true ∧ write9.data = encodeValue Obj.sessionTimeout 300 ∧
      (at9 write9).valueOk Obj.sessionTimeout 0 300 = true ∧ (at9 write9).objCheck (.tcp 0) Obj.sessionTimeout true = none) := by
  decide +kernel

theorem witness_Requests_stored : (at9 write9).shadowHolds (.storedNum (regKey Obj.sessionTimeout 0) 300) = true := shadow_num _ _ _ (by decide +kernel)

theorem witness_Requests_refused :
    (served9 (at9 fixed9) fixed9 Obj.dictBusyAborts = true ∧ (at9 fixed9).refuses (.tcp 0) Obj.dictBusyAborts true = some abortReadOnly) ∧
    (served9 (at9 short9) short9 Obj.sessionTimeout = true ∧ (at9 short9).mode.testRoot = false ∧ short9.data.length ≠ Obj.sessionTimeout.size) := by
  decide +kernel

theorem witness_Requests_segments :
    (served9 (at9 next9) next9 Obj.objectDirectory = true ∧ Obj.objectDirectory.ty = .domain ∧ (at9 next9).refuses (.tcp 0) Obj.objectDirectory false = none ∧
      ((at9 next9).session (.tcp 0)).snapshot = none) ∧
    (served9 list9 next9 Obj.objectDirectory = true ∧ (list9.session (.tcp 0)).snapshot = some (Obj.objectDirectory.addr, List.replicate 9 7)) ∧
    (served9 (at9 later9) later9 Obj.fieldLoad = true ∧ (at9 later9).refuses (.tcp 0) Obj.fieldLoad true = none ∧
      ((at9 later9).session (.tcp 0)).partialWrite = none) ∧
    (served9 (at9 first9) first9 Obj.fieldLoad = true ∧ first9.data.length ≤ min 262144 Obj.fieldLoad.size) := by
  decide +kernel

/-- A request for base 3, on a rover and on a manager that is linked with it. -/
def away9 : Request := { req9 1 Obj.sessionTimeout.addr [] with base := 3 }
def roverAsks9 : State := waits9 { rover4 with sessions := (tcp9 1).sessions } away9
def managerAsks9 : State := waits9 ((tcp9 1).updFleet (fun f => { f with linked := 8 })) away9
/-- A request for an object of a rover, with nothing under the cursor and with slot 5. -/
def delay9 : Request := req9 1 Obj.sectionOnDelay.addr []
def slot9 : State :=
  (waits9 { asked9 with remotes := [] } delay9).updSession (.tcp 0) (fun x => { x with cursors := Tab.put 0 x.cursors Obj.sectionCursor.addr 5123 })

theorem witness_Requests_forwarded :
    (begun9 roverAsks9 away9 = true ∧ roverAsks9.isManager = false) ∧
    (begun9 managerAsks9 away9 = true ∧ managerAsks9.isManager = true ∧ bit managerAsks9.fleet.linked away9.base = true ∧ managerAsks9.mode.current ≠ .boot) ∧
    (begun9 (at9 delay9) delay9 = true ∧ objOf delay9.addr = some Obj.sectionOnDelay ∧ (at9 delay9).isBase = true ∧ remoteCapable Obj.sectionOnDelay = true ∧
      (at9 delay9).refuses (.tcp 0) Obj.sectionOnDelay false = none ∧
      ((at9 delay9).slot ((Tab.get 0 ((at9 delay9).session (.tcp 0)).cursors Obj.sectionOnDelay.windowOf).toNat / 1024)).state ≠ .connected) ∧
    (begun9 slot9 delay9 = true ∧ slot9.isBase = true ∧ slot9.remotes = [] ∧ slot9.refuses (.tcp 0) Obj.sectionOnDelay false = none ∧
      (Tab.get 0 (slot9.session (.tcp 0)).cursors Obj.sectionOnDelay.windowOf).toNat / 1024 = 5 ∧ (slot9.slot 5).state = .connected) := by
  decide +kernel

/-- A busy mailbox; a request that has waited for 200 ms; a manager that waits for base 3. -/
def busy9 : State := { rover4 with mbox := { rover4.mbox with state := .busy } }
def old9 : Request := { read9 with since := 0 }
def waiting9 : State := { base4 with remotes := [{ remote9 with slot := 1003 }] }

theorem witness_Requests_ended :
    (busy9.hostReady = true ∧ busy9.mbox.state = .busy ∧ busy9.remotes = []) ∧
    ((at9 old9).reaches (.tcp 0) = true ∧ ((at9 old9).session (.tcp 0)).waiting = [old9] ∧ ((at9 old9).session (.tcp 0)).serving = none ∧
      old9.since + ticksMs 200 ≤ (at9 old9).now) ∧
    (asked9.running = true ∧ asked9.remotes = [remote9] ∧ remote9.due = some 8000000000 ∧ 8000000000 ≤ asked9.now) := by
  decide +kernel

theorem witness_Requests_answers :
    (asked9.heeds ∧ asked9.isBase = true ∧ remote9.slot = 5 ∧ messageOk answer9 = true ∧ fieldU answer9 1 1 = remote9.req.op + 0x80 ∧
      fieldU answer9 2 2 = remote9.req.tag) ∧
    (waiting9.heeds ∧ (waiting9.acceptLink { head7 with peer := 3 }).2 = true ∧ waiting9.isManager = true ∧ waiting9.operating = true) ∧
    (rover2.heeds ∧ rover2.farSide = true ∧ messageOk (messageBytes 1 3 Obj.sectionOnDelay.addr false 255 0 0 []) = true) := by
  unfold State.heeds
  decide +kernel

/-! ### Ethernet -/

/-- A unit with port 0 up at 1,000 Mbit/s. -/
def eth10 (s : State) (f : EthPort → EthPort) : State := s.setPort 0 (f { EthPort.down with powered := true, linkUp := true, speed := 2 })
/-- A register of the port set. -/
def reg10 (s : State) (o : ObjDesc) (v : Int) : State := s.setRegAt o 0 v
def frame10 : List Byte := withCrc32 [1, 2, 3]
def list10 (c : Nat) : GateList := { entries := [(255, 1000), (1, 3000)], base := c }
/-- Filter 0 wakes on the first byte of a frame. -/
def wake10 (s : State) : State :=
  let s := s.setOctAt Obj.wakeMask 0 (1 :: List.replicate 15 0)
  reg10 (reg10 s Obj.wakePorts 1) Obj.wakeCrc (crc32 [1]).toNat

theorem frame10_ok : crc32Ok frame10 = true := crc32Ok_withCrc32 _

/-- A receive buffer filled so far; one frame of a length in queue 3. -/
def fill10 (n : Nat) : State := eth10 rover4 (fun x => { x with rxFill := n })
def queued10 (n : Nat) (f : EthPort → EthPort) : State := eth10 rover4 (fun x => f { x with queues := [(3, [{ len := n, msg := none }])] })
/-- The same with the gates of port 0 on. -/
def gated10 (n c busy : Nat) : State := reg10 (queued10 n (fun x => { x with gates := list10 c, busyUntil := busy })) Obj.gateEnable 1

theorem witness_EthernetPorts_link :
    ((eth10 rover4 id).operating = true ∧ ((eth10 rover4 id).port 0).powered = true ∧ ((eth10 rover4 id).port 1).powered = false) ∧
    ((eth10 rover4 (fun x => { x with disabling := true })).port 0).disabling = true ∧
    (eth10 rover4 (fun x => { x with disabling := true })).now ≥ ((eth10 rover4 (fun x => { x with disabling := true })).port 0).busyUntil ∧
    ((eth10 rover4 id).port 0).disabling = false := by
  decide +kernel

theorem witness_EthernetPorts_rx :
    ((fill10 4).portReceives 0 = true ∧ ((fill10 4).port 0).rxFill - 3 + frame10.length ≤ 131072 ∧ frame10.length ≤ 1522) ∧
    crc32Ok [1, 2, 3, 4, 5] = false ∧ 131072 < ((fill10 131071).port 0).rxFill - 0 + frame10.length ∧ (fill10 4).portReceives 1 = false := by
  decide +kernel

/-- A queued frame of port 0 is served next. -/
def serves10 (s : State) (n : Nat) : Bool :=
  s.portFree 0 && decide (s.mode.current ≠ .snapshot) && !s.silent && !s.baseLinkOn 0 && decide ((s.port 0).queues = [(3, [{ len := n, msg := none }])]) &&
    decide ((s.port 0).held = [])

theorem witness_EthernetPorts_tx :
    (serves10 (queued10 64 id) 64 = true ∧ (queued10 64 id).gated 0 = false) ∧
    (serves10 (gated10 64 0 0) 64 = true ∧ (gated10 64 0 0).gated 0 = true ∧
      fitsGate (wireNs 2 64) (((gated10 64 0 0).port 0).gates.longest 3) = true ∧
      fitsGate (wireNs 2 64) ((gated10 64 0 0).gateOpen 0 3) = true) ∧
    (serves10 (gated10 64 3999999500 0) 64 = true ∧ (gated10 64 3999999500 0).gateOpen 0 3 = some 500 ∧ 500 ≤ wireNs 2 64) ∧
    ((gated10 1522 0 9000000000).portFree 0 = false ∧ (gated10 1522 0 9000000000).operating = true ∧
      fitsGate (wireNs 2 1522) (((gated10 1522 0 9000000000).port 0).gates.longest 3) = false) ∧
    ((eth10 rover4 (fun x => { x with linkUp := false })).port 0).linkUp = false ∧ asleep4.mode.current = .snapshot := by
  decide +kernel

/-- A PAUSE frame of a time. -/
def pause10 (hi lo : Byte) : List Byte := withCrc32 ([1, 128, 194, 0, 0, 1, 2, 2, 2, 2, 2, 2, 136, 8, 0, 1] ++ [hi, lo] ++ List.replicate 42 0)
def obeys10 (v : Int) : State := reg10 (eth10 rover4 id) Obj.pauseMode v
def link10 : State := State.set (eth10 base4 id) Obj.baseLinkPort 0

theorem pause10_fields (hi lo : Byte) : slice (pause10 hi lo) 0 6 = [1, 128, 194, 0, 0, 1] ∧ fieldU (pause10 hi lo) 12 1 = 136 ∧
    fieldU (pause10 hi lo) 13 1 = 8 ∧ fieldU (pause10 hi lo) 14 1 = 0 ∧ fieldU (pause10 hi lo) 15 1 = 1 ∧
    fieldU (pause10 hi lo) 16 1 = hi.toNat ∧ fieldU (pause10 hi lo) 17 1 = lo.toNat :=
  ⟨rfl, rfl, rfl, rfl, rfl, rfl, rfl⟩

theorem pause10_time (s : State) (hi lo : Byte) : s.pauseTime 0 (pause10 hi lo) = some (hi.toNat * 256 + lo.toNat) := by
  have h : crc32Ok (pause10 hi lo) = true := crc32Ok_withCrc32 _
  obtain ⟨h0, h1, h2, h3, h4, h5, h6⟩ := pause10_fields hi lo
  simp only [State.pauseTime, h, h0, h1, h2, h3, h4, h5, h6]
  rfl

theorem frame10_noPause : rover4.pauseTime 0 frame10 = none := by
  have h : decide (fieldU frame10 12 1 * 256 + fieldU frame10 13 1 = 34824) = false := by decide +kernel
  simp only [State.pauseTime, h, Bool.and_false, Bool.false_and, Bool.false_eq_true, if_false]

theorem witness_EthernetPorts_pause :
    ((obeys10 3).portReceives 0 = true ∧ (obeys10 3).baseLinkOn 0 = false ∧ bit ((obeys10 3).regNAt Obj.pauseMode 0) 0 = true ∧
      ((obeys10 3).port 0).pausedUntil = none ∧ (obeys10 3).mode.current ≠ .snapshot) ∧
    (link10.portReceives 0 = true ∧ link10.mode.current ≠ .snapshot ∧ link10.baseLinkOn 0 = true) ∧
    (bit ((obeys10 0).regNAt Obj.pauseMode 0) 0 = false ∧ (obeys10 0).baseLinkOn 0 = false) ∧
    ((eth10 rover4 (fun x => { x with pausedUntil := some 5 })).port 0).pausedUntil = some 5 ∧ 5 ≤ rover4.now ∧
    (eth10 rover4 id).due ((eth10 rover4 id).port 0).pausedUntil = false := by
  decide +kernel

/-- Port 0 with a fill and a PAUSE in force or not, PauseMode 3. -/
def sends10 (n : Nat) (f : EthPort → EthPort) : State := reg10 (eth10 rover4 (fun x => f { x with rxFill := n })) Obj.pauseMode 3
def inForce10 (x : EthPort) : EthPort := { x with pauseSent := true, repeatDue := some 5 }

theorem witness_EthernetPorts_pauseTx :
    ((sends10 98310 id).mayPause 0 = true ∧ ((sends10 98310 id).port 0).pauseSent = false ∧ 98304 < ((sends10 98310 id).port 0).rxFill - 5) ∧
    ((sends10 65536 inForce10).mayPause 0 = true ∧ ((sends10 65536 inForce10).port 0).pauseSent = true ∧
      ((sends10 65536 inForce10).port 0).rxFill - 5 < 65536) ∧
    ((sends10 98309 id).mayPause 0 = true ∧ ((sends10 98309 id).port 0).rxFill - 5 ≤ 98304) ∧
    ((sends10 65537 inForce10).mayPause 0 = true ∧ ((sends10 65537 inForce10).port 0).repeatDue = some 5 ∧ 5 ≤ rover4.now ∧
      65536 < ((sends10 65537 inForce10).port 0).rxFill) ∧
    (obeys10 1).mayPause 0 = false := by
  decide +kernel

/-- Port 0 being switched off, with an interface fitted. -/
def fitted10 (d : Bool) : State := State.boot (eth10 rover4 (fun x => { x with disabling := d })) Obj.ethInterface 2

theorem witness_EthernetPorts_enable :
    (eth10 rover4 id).takesWrite .host Obj.ethEnable 0 ∧
    ((fitted10 true).takesWrite .host Obj.ethEnable 1 ∧ (fitted10 true).instanceOf .host Obj.ethEnable = 0 ∧ (fitted10 true).ethInterface 0 ≠ 0) := by
  unfold State.takesWrite State.ready
  decide +kernel

/-- A gate list of one entry drafted on port 0, and none. -/
def draft10 : State :=
  (reg10 (reg10 (eth10 rover4 (fun x => { x with gates := list10 0 })) Obj.gateEntryCount 1) Obj.gateBaseTime 5000000000).setOctAt Obj.gateEntry 0
    (255 :: List.replicate 3 0 ++ leBytes 4 4000)
def empty10 : State := reg10 (eth10 rover4 id) Obj.gateEntryCount 0
def starts10 : State := eth10 rover4 (fun x => { x with waiting := some (list10 0, 4000000000) })

theorem witness_EthernetPorts_gates :
    (draft10.takesWrite .host Obj.gateCommit 1 ∧ draft10.instanceOf .host Obj.gateCommit = 0 ∧ draft10.gateCode 0 = 0) ∧
    (empty10.takesWrite .host Obj.gateCommit 1 ∧ empty10.gateCode 0 ≠ 0) ∧
    ((starts10.port 0).waiting = some (list10 0, 4000000000) ∧ (4000000000 : Int) ≤ starts10.time64) ∧
    ((eth10 rover4 id).port 0).waiting = none := by
  unfold State.takesWrite State.ready
  decide +kernel

theorem wake10_matches (s : State) (h1 : s.filterActive 0 0 = true) (h2 : s.octAt Obj.wakeMask 0 = 1 :: List.replicate 15 0)
    (h3 : s.regNAt Obj.wakeCrc 0 = (crc32 [1]).toNat) : s.filterMatches 0 frame10 0 = true := by
  simp only [State.filterMatches, h1, h2, h3, frame10_ok, Bool.true_and, Bool.and_eq_true, decide_eq_true_eq]
  exact ⟨by decide +kernel, by decide +kernel⟩

theorem witness_EthernetPorts_wake : (wake10 (eth10 rover4 id)).filterMatches 0 frame10 0 = true ∧ (wake10 (eth10 asleep4 id)).filterMatches 0 frame10 0 = true :=
  And.intro (wake10_matches _ (by decide +kernel) (by decide +kernel) (by decide +kernel))
    (wake10_matches _ (by decide +kernel) (by decide +kernel) (by decide +kernel))

theorem witness_EthernetPorts_wakeMode :
    ((wake10 (eth10 rover4 id)).portReceives 0 = true ∧ (wake10 (eth10 rover4 id)).mode.current ≠ .snapshot) ∧
    ((wake10 (eth10 asleep4 id)).portReceives 0 = true ∧ (wake10 (eth10 asleep4 id)).mode.current = .snapshot) ∧
    ∀ n < 16, (eth10 rover4 id).filterMatches 0 frame10 n = false := by
  decide +kernel

/-- PTP runs on port 0. -/
def ptp10 (x : PtpPort) : State := (State.set (eth10 rover4 id) Obj.ptpPorts 1).setPtp 0 x
/-- A slave with so many offsets, and the origin of a Sync that gives an offset. -/
def slave10 (n : Nat) (o : Int) (q : Bool) : State := ptp10 { PtpPort.initial with state := 9, offsets := List.replicate n o, qualified := q }
def origin10 (x : Int) : Int := timeOf rover4.clk rover4.now + 946684800000000000 - x
def offset10 (s : State) (x : Int) : Int :=
  (s.ptpStamp 0 false rover4.now - (2 * origin10 x - 2 * 946684800000000000) - (s.ptpPort 0).delay) / 2
/-- A port whose announcements are over. -/
def alone10 (q : Bool) : State := ptp10 { PtpPort.initial with state := 9, announceDue := some 8000000000, qualified := q }

theorem witness_PtpPorts_messages :
    ((ptp10 { PtpPort.initial with state := 6 }).ptpRuns 0 = true ∧ ptpSends ((ptp10 PtpPort.initial).reg Obj.ptpProfile) 6 .sync = true ∧
      Tab.get 0 ((ptp10 { PtpPort.initial with state := 6 }).ptpPort 0).due (ptpKindCode .sync) ≤ rover4.now ∧
      ptpSends ((ptp10 PtpPort.initial).reg Obj.ptpProfile) 6 .delayRequest = false ∧ ((ptp10 PtpPort.initial).ptpPort 0).qualified = false) ∧
    (eth10 rover4 id).ptpRuns 0 = false := by
  decide +kernel

theorem witness_PtpPorts_sync :
    ((slave10 15 999 false).ptpRuns 0 = true ∧ ((slave10 15 999 false).ptpPort 0).state = 9 ∧ ((slave10 15 999 false).ptpPort 0).offsets.length = 15 ∧
      offset10 (slave10 15 999 false) (-999) = -999 ∧ ∀ x ∈ ((slave10 15 999 false).ptpPort 0).offsets ++ [-999], x.natAbs < 1000) ∧
    ((slave10 14 0 false).ptpRuns 0 = true ∧ ((slave10 14 0 false).ptpPort 0).offsets.length < 15) ∧
    (((slave10 15 10001 true).ptpPort 0).qualified = true ∧ offset10 (slave10 15 10001 true) (-10001) = -10001 ∧
      ∀ x ∈ ((slave10 15 10001 true).ptpPort 0).offsets ++ [-10001], 10000 < x.natAbs) := by
  decide +kernel

theorem witness_PtpPorts_announce :
    ((alone10 false).ptpRuns 0 = true ∧ ((alone10 false).ptpPort 0).announceDue = some 8000000000 ∧ 8000000000 ≤ (alone10 false).now) ∧
    (((alone10 true).ptpPort 0).announceDue = some 8000000000 ∧ ((alone10 true).ptpPort 0).qualified = true) ∧
    (ptp10 PtpPort.initial).due ((ptp10 PtpPort.initial).ptpPort 0).announceDue = false := by
  decide +kernel

/-! ### CAN -/

/-- A rover whose node is operational; its CAN0 session is open. -/
def can11 : State := (rover4.updOpen (fun x => { x with nmt := .operational })).updSession .can0 (fun x => { x with open_ := true })
def ctl11 (c : CanCtl) : State := (State.at_ can11 Obj.canCursor 0).setCan 0 c
/-- PDO 2 of a direction maps MeterView alone, with a transmission type. -/
def pdo11 (rpdo : Bool) (kind : Int) : State :=
  let s := State.set (State.set can11 (pdoMapObj rpdo 2 0) 1) (pdoMapObj rpdo 2 1) (Obj.meterView.addr * 256 + 8 : Nat)
  State.set s (pdoCommObj rpdo 2 2) kind
def frame11 : CanFrame := { id := 0x705, ext := false, data := [5] }

def off11 : State := ctl11 { CanCtl.initial with err := 2 }
def full11 : State := ctl11 { CanCtl.initial with fifo := List.replicate 128 frame11 }
/-- Node 5's heartbeat is consumed; one was seen at count 0. -/
def consumed11 : State := State.set can11 Obj.consumerHeartbeat1 (5 * 65536 + 100)
def missed11 : State := consumed11.updOpen (fun x => { x with seen := [(0, some 0)] })
/-- An RPDO waits for the SYNC. -/
def waits11 : State := (pdo11 true 1).updOpen (fun x => { x with rpdoWait := [(2, [1])] })

theorem witness_CanControllers_errors :
    (can11.canRuns 0 = true ∧ can11.canRuns 1 = true ∧ (can11.canCtl 0).err ≠ 2 ∧ can11.net.open_.nmt ≠ .off ∧ State.reset.canRuns 0 = false) ∧
    (off11.takesWrite .host Obj.canRecover 1 ∧ off11.instanceOf .host Obj.canRecover = 0 ∧ (off11.canCtl 0).err = 2) ∧
    ((ctl11 { CanCtl.initial with err := 2, recovering := true }).canCtl 0).recovering = true ∧ (can11.canCtl 0).recovering = false := by
  unfold State.takesWrite State.ready
  decide +kernel

theorem witness_CanControllers_frames :
    (consumed11.canRuns 0 = true ∧ (consumed11.canCtl 0).err ≠ 2 ∧ consumed11.canTakes 0 frame11 = true ∧
      ((consumed11.canCtl 0).fifo.drop 1).length < 128 ∧ frame11.id = 0x700 + bits (consumed11.regN Obj.consumerHeartbeat1) 16 7 ∧
      bits (consumed11.regN Obj.consumerHeartbeat1) 16 7 ≠ 0) ∧
    ((full11.canCtl 0).err ≠ 2 ∧ full11.canTakes 0 frame11 = true ∧ 128 ≤ ((full11.canCtl 0).fifo.drop 0).length) ∧
    (can11.reaches .can0 = true ∧ can11.outstanding .can0 = 0) ∧
    can11.canTakes 0 { frame11 with data := List.replicate 65 0 } = false := by
  decide +kernel

theorem witness_CanControllers_rpdo :
    ((pdo11 true 1).zheoc.deposed = false ∧ (pdo11 true 1).pdoRuns true 2 = true ∧ pdoLength ((pdo11 true 1).pdoEntries true 2) ≤ 1 ∧
      (pdo11 true 1).pdoType true 2 ≤ 240) ∧
    ((pdo11 true 255).pdoRuns true 2 = true ∧ 240 < (pdo11 true 255).pdoType true 2 ∧ (pdo11 true 255).pdoEntries true 2 = [Obj.meterView] ∧
      (pdo11 true 255).reaches .can0 = true ∧ (pdo11 true 255).refuses .can0 Obj.meterView true = none) ∧
    (waits11.operating = true ∧ waits11.net.open_.nmt = .operational ∧ waits11.net.open_.rpdoWait = [(2, [1])] ∧
      waits11.pdoEntries true 2 = [Obj.meterView] ∧ waits11.refuses .can0 Obj.meterView true = none) ∧
    rover4.zheoc.deposed = false ∧ rover4.noteInput.pdoRuns true 2 = false := by
  decide +kernel

theorem witness_CanControllers_tpdo :
    ((pdo11 false 255).pdoRuns false 2 = true ∧ Tab.get 0 (pdo11 false 255).net.open_.inhibit 2 ≤ (pdo11 false 255).now ∧
      240 < (pdo11 false 255).pdoType false 2 ∧ (pdo11 false 255).pdoEntries false 2 = [Obj.meterView] ∧
      (pdo11 false 255).readValue .can0 Obj.meterView = some ([0], pdo11 false 255) ∧ Obj.meterView.size = 1) ∧
    (can11.operating = true ∧ can11.net.open_.nmt = .operational ∧ (can11.canCtl 0).err ≠ 2 ∧ can11.net.open_.rpdoWait = []) ∧
    rover4.pdoRuns false 2 = false ∧ rover4.net.open_.nmt ≠ .operational := by
  decide +kernel

theorem witness_CanControllers_nmt :
    ((State.set can11 Obj.producerHeartbeat 100).regN Obj.producerHeartbeat ≠ 0 ∧ (State.set can11 Obj.producerHeartbeat 100).net.open_.beatDue ≤ can11.now) ∧
    (Tab.get none missed11.net.open_.seen 0 = some 0 ∧ bits (missed11.regN (consumerObj 0)) 0 16 ≠ 0 ∧
      0 + ticksMs (bits (missed11.regN (consumerObj 0)) 0 16) ≤ missed11.now) ∧
    rover4.net.open_.nmt = .off ∧ Tab.get none can11.net.open_.seen 0 = none := by
  decide +kernel

/-- A rover whose ISOBUS client is connected. -/
def iso11 (f : Isobus → Isobus) : State :=
  State.set (State.set (State.boot (rover4.updIso (fun x => f { x with connected := true, heard := 8000000000 })) Obj.isobusEnable 1) Obj.isobusSectionControl 1)
    Obj.isobusAddress 128

/-- Nothing heard for 6 s; section 3 commanded; rate control on. -/
def silent11 : State := State.tick (iso11 (fun x => { x with heard := 0 })) 12000000000
def on11 : State := (iso11 id).setSec 3 { Section.idle with captured := true, state := .on }
def rate11 : State := State.set (iso11 id) Obj.isobusRateControl 1
/-- A loop publishes product 2, and the pose is valid. -/
def output11 : State :=
  let g := { prog5 with loops := [{ loop5 with product := some 2, port := .published }] }
  { iso11 id with blv := { (iso11 id).blv with programs := [g] }, kerb := { (iso11 id).kerb with pose := some pose8 } }
def posed11 : State := State.set ({ iso11 id with nav := { (iso11 id).nav with pose := some pose8 } } : State) Obj.isobusPositionOutput 15

theorem witness_IsobusClient_address :
    ((iso11 id).isoRuns = true ∧ 128 = (iso11 id).regN Obj.isobusPreferredAddress ∧ 253 ≠ (iso11 id).regN Obj.isobusPreferredAddress ∧
      bit ((iso11 id).regN Obj.isobusName) 63 = false) ∧
    (silent11.isoRuns = true ∧ silent11.net.iso.connected = true ∧ silent11.net.iso.heard + ticksS 6 ≤ silent11.now) ∧
    (iso11 id).now < (iso11 id).net.iso.heard + ticksS 6 ∧ rover4.isoRuns = false := by
  decide +kernel

theorem witness_IsobusClient_setpoints :
    (on11.isoRuns = true ∧ on11.net.iso.connected = true ∧ on11.reg Obj.isobusSectionControl = 1 ∧ (on11.sec 3).commanded = true) ∧
    (rate11.isoRuns = true ∧ rate11.net.iso.connected = true ∧ rate11.reg Obj.isobusRateControl = 1 ∧
      rate11.valueOk (productRateObj 0) 0 (100 * 65536 / 100 : Nat) = true ∧ rate11.valueOk (productRateObj 0) 0 (1 * 10000 * 65536 : Nat) = true ∧
      rate11.valueOk (productRateObj 0) 0 (4 * 10000 * 65536 : Nat) = false) ∧
    rover4.reg Obj.isobusSectionControl ≠ 1 ∧ rover4.reg Obj.isobusRateControl ≠ 1 := by
  decide +kernel

theorem witness_IsobusClient_stored : rate11.shadowHolds (.storedNum (regKey (productRateObj 0) 0) 65536) = true := shadow_num _ _ _ (by decide +kernel)

theorem witness_IsobusClient_reports :
    ((iso11 id).isoSends = true ∧ (iso11 id).net.iso.connected = true ∧ (iso11 id).net.iso.workDue ≤ (iso11 id).now ∧
      (iso11 id).net.iso.rateDue ≤ (iso11 id).now ∧ (iso11 id).kerb.pose = none ∧ (iso11 id).net.iso.ddDue = true) ∧
    (output11.isoSends = true ∧ output11.net.iso.connected = true ∧ output11.net.iso.rateDue ≤ output11.now ∧
      output11.poseValid pose8 output11.time64 = true) ∧
    rover4.net.iso.connected = false ∧
    (posed11.nav.pose = some pose8 ∧ posed11.isoSends = true ∧ bit (posed11.regN Obj.isobusPositionOutput) 3 = true ∧
      Tab.get 0 posed11.net.iso.posDue 3 ≤ posed11.now) ∧ rover4.nav.pose = none := by
  decide +kernel

/-! ### The meter -/

/-- A rover with settings of input 3 in force. -/
def meter12 (l : List (ObjDesc × Int)) (f : MeterState → MeterState) : State :=
  rover4.updMeter (fun m => f { m with inForce := l.foldl (fun t x => Tab.put x.1.dflt t (regKey x.1 3) x.2) m.inForce })
def span12 : MeterInterval :=
  { start := 0, startTime := 0, length := 9000000000, holdover := false, invalid := false, applied := false, inputs := [3], sub := [], base := MeterBank.zero }
def dip12 (sw i : Bool) : VinExcursion := { swell := sw, time := 5, samples := 3, interruption := i, extreme := 9000 }
def vin12 (f : VinMonitor → VinMonitor) : State := rover4.updVin f

def bound12 : State := meter12 [(Obj.inputMode, 2), (Obj.dirPolarity, 1), (Obj.inputBinding, 32773)] (fun m => { m with interval := some span12 })
def credits12 : State := meter12 [(Obj.inputMode, 1), (Obj.inputBinding, 16385)] id
/-- Input 3 in quadrature with PDIR3 high. -/
def quad12 : State := meter12 [(Obj.inputMode, 3)] (fun m => { m with inputs := [(3, { PulseInput.initial with b := true })] })
/-- A credit waits; two stamps of one direction; an interval that has ended; T0 has come. -/
def waits12 : State := meter12 [] (fun m => { m with credits := [{ tick := 3, product := 2, qty := -7 }] })
def first12 : PulseStamp := { stamp := 7000000000, worth := 1, forward := true }
def last12 : PulseStamp := { stamp := 7900000000, worth := 1, forward := true }
def stamped12 : State := meter12 [] (fun m => { m with inputs := [(3, { PulseInput.initial with stamps := [first12, last12] })] })
def rate12 : Int := 60 * last12.worth * 65536 * 65536 * 2000000000 / ((stamped12.inputSet Obj.kFactor 3 : Int) * (last12.stamp - first12.stamp : Nat))
def over12 : MeterInterval := { span12 with length := 7000000000 }
def ended12 : State := meter12 [(Obj.inputMode, 1)] (fun m => { m with interval := some over12 })
def begins12 : State := meter12 [] (fun m => { m with firstAt := some 8000000000 })
/-- An excursion is open, the queue of so many records. -/
def dips12 (sw i : Bool) (n : Nat) : State := vin12 (fun v => { v with open_ := some (dip12 sw i), queue := List.replicate n [1, 2] })

theorem witness_Meter_pulses :
    (bound12.counting = true ∧ 7000000000 + ticksUs (10 * bound12.inputSet Obj.debounce 3) ≤ bound12.now ∧ 7000000000 < span12.start + span12.length ∧
      (bound12.input 3).a = false ∧ bound12.inputSet Obj.inputMode 3 = 2 ∧ bound12.inputSet Obj.dirPolarity 3 = 1 ∧ bound12.bindingOf 3 = (2, 5)) ∧
    (credits12.counting = true ∧ (credits12.input 3).a = false ∧ credits12.inputSet Obj.inputMode 3 = 1 ∧ credits12.bindingOf 3 = (1, 1) ∧
      credits12.meter.interval = none) ∧
    (quad12.counting = true ∧ quad12.inputSet Obj.inputMode 3 = 3 ∧ true ≠ (quad12.input 3).a ∧ false ≠ (quad12.input 3).b ∧
      quad12.inputSet Obj.dirPolarity 3 = 0 ∧ quad12.meter.interval = none) ∧
    (ended12.counting = true ∧ ended12.inputSet Obj.inputMode 3 ≠ 0 ∧ ended12.meter.interval = some over12 ∧ over12.start + over12.length ≤ 7000000000 ∧
      ended12.reg Obj.intervalHostOutput ≠ 1) ∧
    rover4.inputSet Obj.inputMode 3 = 0 ∧ rover4.now < rover4.now / 20 * 20 + ticksUs (10 * rover4.inputSet Obj.debounce 3) := by
  decide +kernel

theorem witness_Meter_rates :
    (stamped12.counting = true ∧ stamped12.meter.ratedAt ≠ some stamped12.milli ∧ (stamped12.input 3).stamps = [first12, last12] ∧
      last12.stamp < stamped12.now ∧ stamped12.now ≤ last12.stamp + ticksMs (stamped12.regNAt Obj.rateTimeout 3) ∧
      stamped12.now - ticksMs (stamped12.regNAt Obj.rateWindow 3) ≤ last12.stamp ∧ -(2 ^ 31) ≤ rate12 ∧ rate12 < 2 ^ 31) ∧
    State.reset.counting = false := by
  decide +kernel

theorem witness_Meter_intervals :
    (waits12.counting = true ∧ (3 : Int) < waits12.time64 / 1000000 ∧ waits12.meter.credits = [{ tick := 3, product := 2, qty := -7 }]) ∧
    (∀ c ∈ rover4.meter.credits, rover4.time64 / 1000000 ≤ c.tick) ∧
    (over12.start + over12.length ≤ ended12.now ∧ rover4.now < span12.start + span12.length) ∧
    (begins12.counting = true ∧ begins12.meter.interval = none ∧ begins12.meter.firstAt = some 8000000000 ∧ 8000000000 ≤ begins12.now) := by
  decide +kernel

theorem witness_Meter_writes :
    rover4.takesWrite .host (meterObject .kFactor) 39321600 ∧ rover4.takesWrite .host Obj.meterSnapshot 1 ∧
    rover4.takesWrite .host Obj.meterClear 195 ∧ (dips12 false false 1).takesRead .host Obj.vinEventNext ∧ rover4.takesRead .host Obj.vinEventNext ∧
    rover4.meter.vin.queue = [] := by
  unfold State.takesWrite State.takesRead State.ready
  decide +kernel

theorem witness_Meter_stored : rover4.shadowHolds (.storedNum (regKey (meterObject .kFactor) (rover4.instanceOf .host (meterObject .kFactor))) 39321600) = true :=
  shadow_num _ _ _ (by decide +kernel)

theorem witness_Meter_vin :
    (rover4.hasRole .rover = true ∧ rover4.meter.vin.due ≤ rover4.now ∧ rover4.meter.vin.open_ = none ∧
      rover4.vinBelow 12149 (100 - rover4.reg Obj.sagPercent) = true ∧ rover4.vinBelow 14851 (100 - rover4.reg Obj.sagPercent) = false ∧
      rover4.vinAbove 14851 (100 + rover4.reg Obj.swellPercent) = true ∧ rover4.vinAbove 14850 (100 + rover4.reg Obj.swellPercent) = false) ∧
    ((dips12 false false 0).meter.vin.open_ = some (dip12 false false) ∧ (dips12 false false 0).vinBelow 12400 (102 - rover4.reg Obj.sagPercent) = true) ∧
    ((dips12 false true 31).vinBelow 12500 (102 - rover4.reg Obj.sagPercent) = false ∧ (dips12 false true 31).vinBelow 12500 (100 - rover4.reg Obj.sagPercent) = false ∧
      (dips12 false true 31).vinAbove 12500 (100 + rover4.reg Obj.swellPercent) = false ∧ (dips12 false true 31).meter.vin.queue.length < 32) ∧
    ((dips12 true false 32).meter.vin.open_ = some (dip12 true false) ∧ (dips12 true false 32).vinAbove 14600 (98 + rover4.reg Obj.swellPercent) = true ∧
      (dips12 true false 32).vinAbove 14500 (98 + rover4.reg Obj.swellPercent) = false ∧ 32 ≤ (dips12 true false 32).meter.vin.queue.length) := by
  decide +kernel

/-- Section 5 has product 2 and applied at the tick. -/
def applied12 : State :=
  { waits12 with dict := Tab.put 0 rover4.dict (regKey Obj.sectionProduct 5) 2, kerb := { rover4.kerb with spans := [{ sec := 5, start := 0, stop := 9000000 }] } }

theorem idle12 (s : State) (h : s.kerb.sections = []) (t : Int) (i : Nat) : s.applies t i = false := by
  simp [State.applies, State.sec, h, Tab.get, Section.idle]

theorem witness_Meter_unassigned : ∀ i < 1024, waits12.regNAt Obj.sectionProduct i = 2 → waits12.appliedAt (3 * 1000000) i = false := by
  intro i _ _
  simp only [State.appliedAt, idle12 waits12 (by rfl)]
  rfl

theorem witness_Meter_section :
    (applied12.regNAt Obj.sectionProduct 5 = 2 ∧ applied12.appliedAt (3 * 1000000) 5 = true) ∧
    ∀ j < 1024, j ≠ 5 → applied12.regNAt Obj.sectionProduct j = 2 → applied12.appliedAt (3 * 1000000) j = false := by
  refine ⟨by decide +kernel, fun j _ hj _ => ?_⟩
  simp only [State.appliedAt, idle12 applied12 (by rfl)]
  simp [applied12, Ne.symm hj]

/-! ### Motion -/

/-- A register of axis 3, or of entry 3 of another window. -/
def reg13 (s : State) (o : ObjDesc) (v : Int) : State := s.setRegAt o 3 v
/-- A rover with axis 3, in a mode, under the host's cursor. -/
def axis13 (mode : Int) (f : Axis → Axis) : State :=
  (reg13 (State.at_ rover4 Obj.axisCursor 3) Obj.axisMode mode).setAxis 3 (f Axis.initial)
def idle13 (mode : Int) : State := axis13 mode (fun a => { a with state := .idle })

def disabling13 : State := axis13 1 (fun a => { a with state := .disabling, prior := .stopping, offDue := some 5 })
def enabling13 : State := axis13 1 (fun a => { a with state := .enabling, onDue := some 5 })
def moving13 : State := axis13 1 (fun a => { a with state := .moving, goal := some (.move 1000), vel := 50 })
def held13 : State := axis13 1 (fun a => { a with state := .held, goal := some (.move 1000) })
/-- GPIO 9 is the fault input of axis 3, active low. -/
def faulty13 : State := reg13 (idle13 1) Obj.faultInput 9
/-- Axis 3 follows STEP_IN2; an edge came at count 5. -/
def follows13 : State := reg13 (reg13 (idle13 4) Obj.followInput 2) Obj.limitMax 1000
def followed13 : State := axis13 4 (fun a => { a with lastEdge := some 5, tau := 7 })
def ends13 : State := axis13 1 (fun a => { a with state := .stopping, vel := 49999, decel := 1 })
def cruises13 : State :=
  reg13 (reg13 (axis13 2 (fun a => { a with state := .moving, goal := some (.velocity 1000000), vel := 1000000000000, acc := 100000 })) Obj.limitMax 1000000)
    Obj.maxVelocity 1000
/-- Axis 3 is the one member of group 0. -/
def grouped13 (st : AxisState) : State := ((axis13 1 (fun a => { a with state := st })).setRegAt Obj.groupMembers 0 8)

theorem witness_Axes_enable :
    ((axis13 1 id).takesWrite .host Obj.axisEnable 1 ∧ (axis13 1 id).tramHeld = false ∧ (axis13 1 id).axisOf .host = 3 ∧
      ((axis13 1 id).axis 3).state = .disabled ∧ (axis13 1 id).regAt Obj.axisMode 3 ≠ 0 ∧ ((axis13 1 id).axis 3).faultActive = false) ∧
    ((axis13 0 id).takesWrite .host Obj.axisEnable 1 ∧ (axis13 0 id).axisOf .host = 3 ∧ (axis13 0 id).regAt Obj.axisMode 3 = 0) ∧
    (disabling13.takesWrite .host Obj.axisEnable 1 ∧ disabling13.axisOf .host = 3 ∧ (disabling13.axis 3).state = .disabling) ∧
    ((idle13 1).takesWrite .host Obj.axisEnable 1 ∧ (idle13 1).axisOf .host = 3 ∧ ((idle13 1).axis 3).state = .idle) := by
  unfold State.takesWrite State.ready
  decide +kernel

theorem witness_Axes_disable :
    ((idle13 1).takesWrite .host Obj.axisEnable 0 ∧ ((idle13 1).axis ((idle13 1).axisOf .host)).goal = none) ∧
    (axis13 1 id).takesWrite .host Obj.axisEnable 0 ∧
    (enabling13.tramOn = true ∧ (enabling13.axis 3).state = .enabling ∧ enabling13.due (enabling13.axis 3).onDue = true) ∧
    ((disabling13.axis 3).vel = 0 ∧ disabling13.due (disabling13.axis 3).offDue = true) ∧ base4.tramOn = false := by
  unfold State.takesWrite State.ready
  decide +kernel

theorem witness_Axes_mode :
    ((axis13 1 id).takesWrite .host Obj.axisMode 2 ∧ ((axis13 1 id).axis ((axis13 1 id).axisOf .host)).state = .disabled ∧
      (axis13 1 id).groupOfAxis ((axis13 1 id).axisOf .host) = none) ∧
    ((grouped13 .disabled).takesWrite .host Obj.axisMode 2 ∧ (grouped13 .disabled).groupOfAxis ((grouped13 .disabled).axisOf .host) ≠ none) ∧
    ((idle13 1).takesWrite .host Obj.axisMode 2 ∧ ((idle13 1).axis ((idle13 1).axisOf .host)).state ≠ .disabled) := by
  unfold State.takesWrite State.ready
  decide +kernel

theorem witness_Axes_targets :
    ((idle13 1).takesWrite .host Obj.moveTarget 1000 ∧ (idle13 1).motionCode ((idle13 1).axisOf .host) 1 = 0 ∧
      (idle13 1).withinLimits ((idle13 1).axisOf .host) 1000 = true) ∧
    ((idle13 2).takesWrite .host Obj.moveTarget 1000 ∧ (idle13 2).motionCode ((idle13 2).axisOf .host) 1 ≠ 0) ∧
    ((idle13 2).takesWrite .host Obj.velocityTarget 1000 ∧ (idle13 2).motionCode ((idle13 2).axisOf .host) 2 = 0) ∧
    ((idle13 1).takesWrite .host Obj.velocityTarget 1000 ∧ (idle13 1).motionCode ((idle13 1).axisOf .host) 2 ≠ 0) := by
  unfold State.takesWrite State.ready
  decide +kernel

theorem witness_Axes_stop :
    (moving13.takesWrite .host Obj.axisStop 1 ∧ moving13.groupOfAxis (moving13.axisOf .host) = none ∧ (moving13.axis (moving13.axisOf .host)).state = .moving) ∧
    ((axis13 1 id).takesWrite .host Obj.axisStop 1 ∧ (idle13 1).takesWrite .host Obj.axisStop 1) ∧
    (held13.takesWrite .host Obj.axisResume 1 ∧ held13.groupOfAxis (held13.axisOf .host) = none ∧ (held13.axis (held13.axisOf .host)).state = .held ∧
      (held13.axis (held13.axisOf .host)).goal = some (.move 1000) ∧ held13.resumable (held13.axisOf .host) = true) ∧
    ((idle13 1).takesWrite .host Obj.axisResume 1 ∧ (idle13 1).resumable ((idle13 1).axisOf .host) = false ∧ (axis13 1 id).takesWrite .host Obj.axisResume 1) := by
  unfold State.takesWrite State.ready
  decide +kernel

theorem witness_Axes_writes :
    ((idle13 1).takesWrite .host Obj.positionPreset 77 ∧ ((idle13 1).axis ((idle13 1).axisOf .host)).atRest = true) ∧
    (moving13.takesWrite .host Obj.positionPreset 77 ∧ (moving13.axis (moving13.axisOf .host)).atRest = false) ∧
    ((idle13 1).takesWrite .host Obj.acceleration 1000 ∧ (idle13 1).takesWrite .host Obj.maxVelocity 1000 ∧
      1000 * 2 * (idle13 1).regAt Obj.stepWidth ((idle13 1).axisOf .host) ≤ 100000000) ∧
    ((reg13 (idle13 1) Obj.stepWidth 200).takesWrite .host Obj.maxVelocity 500000 ∧
      100000000 < 500000 * 2 * (reg13 (idle13 1) Obj.stepWidth 200).regAt Obj.stepWidth ((idle13 1).axisOf .host)) := by
  unfold State.takesWrite State.ready
  decide +kernel

theorem witness_Axes_faults :
    (faulty13.tramOn = true ∧ faulty13.faultAxes 9 = [3] ∧ faulty13.faultLevel 3 false = true ∧ faulty13.faultLevel 3 true = false ∧
      (faulty13.axis 3).state ≠ .disabled ∧ (faulty13.axis 3).goal = none) ∧
    ((reg13 (axis13 1 id) Obj.faultInput 9).faultAxes 9 = [3] ∧ ((reg13 (axis13 1 id) Obj.faultInput 9).axis 3).state = .disabled) ∧
    ∀ n < 16, rover4.regAt Obj.faultInput n ≠ 9 := by
  decide +kernel

theorem witness_Axes_follow :
    (follows13.tramOn = true ∧ follows13.tramHeld = false ∧ 77 + 400 ≤ follows13.now ∧ follows13.regAt Obj.axisMode 3 = 4 ∧
      follows13.regNAt Obj.followInput 3 = 2 ∧ follows13.followBlocked 3 = false ∧ (follows13.axis 3).state = .idle) ∧
    asleep4.tramHeld = true ∧ ((followed13.axis 3).lastEdge = some 5 ∧ (followed13.axis 3).tau ≠ 0 ∧ 5 + 4 * (followed13.axis 3).tau ≤ followed13.now) ∧
    (rover4.axis 3).tau = 0 := by
  decide +kernel

theorem witness_Axes_tick :
    (ends13.tramOn = true ∧ ends13.tram.groups = [] ∧ ends13.tram.tickAt ≠ some (ends13.time64 / 50000 * 50000) ∧ ends13.regAt Obj.commandSource 3 = 0 ∧
      (ends13.axis 3).vel.natAbs < 50000 ∧ (ends13.axis 3).goal = none ∧ (ends13.axis 2).atRest = true) ∧
    (cruises13.tram.groups = [] ∧ cruises13.regAt Obj.commandSource 3 = 0 ∧ (1000000 : Int) ≤ (cruises13.axisRate 3 : Int) * 1000 ∧
      (cruises13.axis 3).pos + 1000000 * 50 + stopDist (1000000 * 1000000) (cruises13.axis 3).acc < cruises13.regAt Obj.limitMax 3 * 1000000000) := by
  decide +kernel

/-- A chain of one segment in entry 3: 100 steps in 1 s, to rest. -/
def chain13 : List Byte := leBytes 4 1000000 ++ leInt 4 100 ++ leInt 4 0 ++ leBytes 2 0 ++ leBytes 2 1
/-- Two axes in one group, and its move. -/
def pair13 (st : AxisState) (m : Option GroupMove) : State :=
  let s := State.at_ (rover4.setRegAt Obj.groupMembers 0 12) Obj.tramGroupCursor 0
  (((s.setAxis 2 { Axis.initial with state := st }).setAxis 3 { Axis.initial with state := st }).setGroupMove 0 m)
def move13 : GroupMove := { members := [(2, 0, 100), (3, 0, 50)], length := 100, s := 40, v := 5, acc := 9, stopping := none, running := true, start := 0 }

def waiting13 : GroupMove := { move13 with running := false, start := 9000000000 }
/-- The chain is in entry 3; axis 3 holds it. -/
def chained13 : State := (idle13 3).setOctAt Obj.segmentEntry 3 chain13
def entry13 (g : Option AxisGoal) : State :=
  (State.at_ chained13 Obj.segmentCursor 3).setAxis 3 { (idle13 3).axis 3 with goal := g }
/-- Axes 2 and 3 may form group 0. -/
def ready13 : State := State.at_ ((rover4.setRegAt Obj.axisMode 2 1).setRegAt Obj.axisMode 3 1) Obj.tramGroupCursor 0
def targets13 : List Byte := leInt 8 100 ++ leInt 8 50

theorem witness_AxisGroups_chains :
    (chained13.takesWrite .host Obj.segmentStart 3 ∧ chained13.axisOf .host = 3 ∧ (chained13.axis 3).state = .idle ∧ chained13.motionCode 3 3 = 0 ∧
      chained13.chainOk 3 3 = true ∧ chained13.regAt Obj.startTime 3 = 0) ∧
    (reg13 chained13 Obj.startTime 9000000000).takesWrite .host Obj.segmentStart 3 ∧
    ((axis13 3 id).takesWrite .host Obj.segmentStart 3 ∧ ((axis13 3 id).axis 3).state ≠ .idle) := by
  unfold State.takesWrite State.ready
  decide +kernel

theorem witness_AxisGroups_entries :
    ((entry13 none).takesBytes .host Obj.segmentEntry chain13 ∧ (entry13 none).instanceOf .host Obj.segmentEntry = 3 ∧ 50 ≤ fieldU chain13 0 4 ∧
      fieldU chain13 0 4 % 50 = 0 ∧ fieldU chain13 14 2 ≤ 1 ∧
      (entry13 none).tram.axes.all (fun x => decide (x.2.goal = none) && decide (x.2.next = none)) = true) ∧
    ((entry13 (some (.chain 0 3 0 0 0))).takesBytes .host Obj.segmentEntry chain13 ∧
      ((entry13 (some (.chain 0 3 0 0 0))).heldBy 3).contains ((entry13 (some (.chain 0 3 0 0 0))).instanceOf .host Obj.segmentEntry) = true) ∧
    (entry13 none).takesBytes .host Obj.segmentEntry (51 :: List.replicate 15 0) := by
  unfold State.takesBytes State.ready
  decide +kernel

theorem witness_AxisGroups_members :
    (ready13.takesWrite .host Obj.groupMembers 12 ∧ maskAxes 12 = [2, 3] ∧ ready13.regAt Obj.axisMode 2 = 1 ∧ ready13.regAt Obj.commandSource 3 = 0 ∧
      ready13.groupOfAxis 2 = none ∧ maskAxes (ready13.regNAt Obj.groupMembers (ready13.instanceOf .host Obj.groupMembers % 8)) = [] ∧
      (ready13.axis 3).state = .disabled) ∧
    ((State.at_ rover4 Obj.tramGroupCursor 0).takesWrite .host Obj.groupMembers 12 ∧ (State.at_ rover4 Obj.tramGroupCursor 0).regAt Obj.axisMode 2 ≠ 1) := by
  unfold State.takesWrite State.ready
  decide +kernel

theorem witness_AxisGroups_target :
    ((pair13 .idle none).takesBytes .host Obj.groupTarget targets13 ∧ (pair13 .idle none).tramGroupOf .host = 0 ∧
      maskAxes ((pair13 .idle none).regNAt Obj.groupMembers 0) = [2, 3] ∧ targets13.length = 16 ∧ (pair13 .idle none).tramHeld = false ∧
      ((pair13 .idle none).axis 2).state = .idle ∧ (pair13 .idle none).withinLimits 2 100 = true ∧ (pair13 .idle none).withinLimits 3 50 = true ∧
      fieldI targets13 0 8 = 100 ∧ fieldI targets13 8 8 = 50 ∧ (pair13 .idle none).regAt Obj.startTime 2 = 0) ∧
    ((pair13 .disabled none).takesBytes .host Obj.groupTarget targets13 ∧ ((pair13 .disabled none).axis 2).state = .disabled) := by
  unfold State.takesBytes State.ready
  decide +kernel

theorem witness_AxisGroups_stop :
    ((pair13 .moving (some move13)).takesWrite .host Obj.groupStop 1 ∧ (pair13 .moving (some move13)).groupMove 0 = some move13 ∧
      move13.running = true ∧ move13.waits = false) ∧
    ((pair13 .idle (some waiting13)).takesWrite .host Obj.groupStop 1 ∧ (pair13 .idle (some waiting13)).groupMove 0 = some waiting13 ∧ waiting13.waits = true) ∧
    ((pair13 .held (some move13)).takesWrite .host Obj.groupAxisResume 1 ∧ ∀ x ∈ move13.members, ((pair13 .held (some move13)).axis x.1).state = .held) ∧
    ((pair13 .held none).takesWrite .host Obj.groupAxisResume 1 ∧ (pair13 .held none).groupMove ((pair13 .held none).tramGroupOf .host) = none) := by
  unfold State.takesWrite State.ready
  decide +kernel

/-! ### The host port -/

/-- A transaction's header with its CRC. -/
def head14 (c a n : Nat) : List Byte := let h := [BitVec.ofNat 8 c] ++ leBytes 2 a ++ [BitVec.ofNat 8 (n - 1)]; h ++ [crc8 h]
def bad14 : List Byte := [1, 2, 3, 4, crc8 [1, 2, 3, 4] ^^^ 1]
/-- Queue 9 out of the device, queue 10 into it. -/
def out14 (w : List QueueWord) : State := rover4.setQueue 9 { QueueState.closed with open_ := true, capacity := 64, words := w }
def in14 (slot : Bool) (w : List QueueWord) : State :=
  rover4.setQueue 10 { QueueState.closed with open_ := true, toDevice := true, lengthSlot := slot, capacity := 8, words := w }
def full14 : List QueueWord := List.replicate 8 (queueWord 7 false false)
def busy14 : State := { rover4 with mbox := { rover4.mbox with state := .busy } }
def stalled14 (x : Stall) : State := rover4.updHost (fun p => { p with stall := some x })
/-- An open LENGTH-SLOT packet fills queue 9. -/
def open14 : State :=
  rover4.setQueue 9 { QueueState.closed with open_ := true, capacity := 1, lengthSlot := true, openPacket := some [queueWord 1 false false] }

theorem witness_HostPort_headers :
    (rover4.hostReady = true ∧ parseHeader (head14 3 0x10 2) = { ok := true, cmd := 3, addr := 0x10, count := 2 }) ∧ (parseHeader bad14).ok = false ∧
    (State.reset.hostReady = false ∧ State.reset.zheoc.deposed = false ∧ State.reset.noteInput.hostReady = false) := by
  decide +kernel

theorem witness_HostPort_writes :
    (parseHeader (head14 2 0x0010 1) = { ok := true, cmd := 2, addr := 0x0010, count := 1 } ∧
      parseHeader (head14 2 0x0014 1) = { ok := true, cmd := 2, addr := 0x0014, count := 1 } ∧
      parseHeader (head14 2 0x0020 1) = { ok := true, cmd := 2, addr := 0x0020, count := 1 } ∧
      parseHeader (head14 2 0x0024 1) = { ok := true, cmd := 2, addr := 0x0024, count := 1 } ∧
      parseHeader (head14 2 0x0104 1) = { ok := true, cmd := 2, addr := 0x0104, count := 1 } ∧
      parseHeader (head14 2 0x0100 1) = { ok := true, cmd := 2, addr := 0x0100, count := 1 }) ∧
    rover4.mbox.state ≠ .busy ∧ busy14.hostReady = true ∧ busy14.mbox.state = .busy := by
  decide +kernel

/-- Nothing waits in the host copies. -/
def drained14 (s : State) : Bool :=
  decide (s.gnss.navCopy.backlog = []) && decide (s.obs.copy.backlog = []) && decide (s.baseRef.copy.backlog = []) && decide (s.clk.evtCopy.backlog = []) &&
    decide (s.meter.copy.backlog = [])
def twoOut14 : State := out14 [queueWord 7 true false, queueWord 8 true false]

theorem witness_HostPort_pops :
    (twoOut14.hostReady = true ∧ parseHeader (head14 0x0B 0x1240 4) = { ok := true, cmd := 0x0B, addr := 0x1000 + 0x40 * 9, count := 3 + 1 } ∧
      (twoOut14.queue 9).open_ = true ∧ (twoOut14.queue 9).toDevice = false ∧ (twoOut14.queue 9).lengthSlot = false ∧
      (twoOut14.queue 9).words = queueWord 7 true false :: [queueWord 8 true false] ∧ (twoOut14.queue 9).lastAborted = false ∧
      drained14 twoOut14 = true) ∧
    ((out14 []).hostReady = true ∧ ((out14 []).queue 9).open_ = true ∧ ((out14 []).queue 9).words = [] ∧ drained14 (out14 []) = true) ∧
    ((parseHeader (head14 0x0B 0x1280 4)).addr = 0x1000 + 0x40 * 10 ∧ ((in14 false []).queue 10).toDevice = true) := by
  decide +kernel

theorem witness_HostPort_pushes :
    ((in14 false []).zheoc.deposed = false ∧ (in14 false []).hostReady = true ∧
      parseHeader (head14 0x0A 0x1280 2) = { ok := true, cmd := 0x0A, addr := 0x1000 + 0x40 * 10, count := [(5 : Word32)].length + 1 } ∧
      parseHeader (head14 0x0E 0x1280 2) = { ok := true, cmd := 0x0E, addr := 0x1000 + 0x40 * 10, count := [(5 : Word32)].length + 1 } ∧
      ((in14 false []).queue 10).open_ = true ∧ ((in14 false []).queue 10).toDevice = true ∧ 2 ≤ ((in14 false []).queue 10).free ∧
      ((in14 false []).queue 10).takes 2 = true ∧ (0x1234 : BitVec 16) ≠ crc16 (wordBytes [5, 6])) ∧
    (((in14 false full14).queue 10).takes 2 = false ∧ (in14 false full14).hostReady = true) ∧
    (((in14 true []).queue 10).lengthSlot = true ∧ ((in14 true []).queue 10).discarding = false ∧ ((in14 true []).queue 10).openPacket = none ∧
      [(5 : Word32), 6].length + 1 ≤ ((in14 true []).queue 10).free ∧ ((in14 true []).queue 10).capacity < (List.replicate 8 (5 : Word32)).length + 1) := by
  decide +kernel

theorem witness_HostPort_ends :
    (rover4.running = true ∧ rover4.host.stall = none ∧ State.reset.running = false) ∧
    ((stalled14 (.push 10 [5] true true)).running = true ∧ (stalled14 (.push 10 [5] true true)).host.stall = some (.push 10 [5] true true)) ∧
    ((stalled14 (.pop 9 4 [])).running = true ∧ (stalled14 (.pop 9 4 [])).host.stall = some (.pop 9 4 [])) ∧
    (open14.running = true ∧ (open14.queue 9).lengthSlot = true ∧ (open14.queue 9).openPacket = some [queueWord 1 false false] ∧
      (open14.queue 9).free = 0 ∧ open14.host.stall = none) := by
  decide +kernel

/-! ### Record store and Milestone -/

def entry15 (n : Nat) (o : ObjDesc) (v : Int) : JEntry := { seq := n, time := 0, tickHi := 0, live := true, data := .storedNum (regKey o 0) v }
/-- A rover with a stored write that waits for its commit, and the host's session waiting on it. -/
def stored15 : State :=
  let s := rover4.updStore (fun x => { x with seq := 9, copy0 := some { gen := 3, nums := [], octets := [] }, journal := [entry15 5 Obj.acceleration 7] })
  s.updSession .host (fun x => { x with saveWait := some (4, 1), serving := some { op := 2, tag := 4, addr := Obj.storeAll.addr, more := false, base := 255, offset := 0, data := [], since := s.now } })
def pending15 : State := rover4.updStore (fun x => { x with seq := 9, journal := [entry15 5 Obj.acceleration 7] })
def data15 (p e c : Nat) : NandBlock := { erases := e, partition := p, retired := false, corrections := c, writtenDay := 0, holdsData := true }
def free15 (p : Nat) : NandBlock := { erases := 0, partition := p, retired := false, corrections := 0, writtenDay := 0, holdsData := false }
/-- A rover with a NAND: block 5 with data, block 6 free, block 7 worn, block 8 of the spares. -/
def nand15 (c : Nat) : State :=
  rover4.updStore (fun x => { x with nandPresent := true, nandCount := 100000, nandBlockKiB := 1024, nandRover := true
                                     blocks := [(5, some (data15 3 1 c)), (6, some (free15 3)), (7, some { free15 3 with erases := 2001 }), (8, some (free15 4))] })
def gap15 : State :=
  (rover4.updStore (fun x => { x with nandPresent := true, ringCapacity := 1000000, gapFrom := some 3, recordsFull := true })).updMeter
    (fun m => { m with interval := some span12 })
def frozen15 : State := { rover4 with milestone := { rover4.milestone with frozen := true, freezeDue := some 5 } }

/-- So many weeks of operation; a rover at 2 min and at 6 h. -/
def weeks15 (s : State) (n : Nat) : State := State.tick s (n * 1209600000000000)
def minutes15 (s : State) : State := State.tick s 240000000000
def hours15 (f : MilestoneState → MilestoneState) : State :=
  State.tick { rover4 with milestone := f rover4.milestone } 43200000000000
def open15 : State := rover4.updMeter (fun m => { m with interval := some span12 })
def key15 : State := weeks15 rover4 1
/-- Block 5 at 25 corrections; block 5 with 1 erase beside block 7 with 2001, two minutes on. -/
def refresh15 : State := nand15 25
def wear15 : State := State.tick (nand15 0) 120000000000

theorem witness_RecordStore_journal :
    (rover4.operating = true ∧ rover4.mode.role = some .rover ∧ journalPeriod 1 = 0 ∧ journalPeriod 3 = 0 ∧
      (minutes15 rover4).periodDue 7 (journalPeriod 7) = true ∧ (minutes15 rover4).periodDue 9 (journalPeriod 9) = true ∧
      rover4.periodDue 8 (journalPeriod 8) = false) ∧
    (open15.operating = true ∧ open15.meter.interval = some span12 ∧ rover4.meter.interval = none) := by
  decide +kernel

theorem witness_RecordStore_commit :
    (stored15.running = true ∧ stored15.unarmedBoot = false ∧ stored15.storePending ≠ [] ∧
      (∀ e ∈ stored15.store.journal ++ stored15.store.spill, e.seq < stored15.store.seq) ∧
      stored15.store.copy0 = some { gen := 3, nums := [], octets := [] } ∧ stored15.store.copy1 = none ∧ 3 < stored15.store.seq) ∧
    rover4.storePending = [] := by
  decide +kernel

theorem witness_RecordStore_save :
    rover4.takesWrite .host (storeObject false 1) (0x65766173 : Nat) ∧ rover4.areaPending 1 = false ∧
    pending15.takesWrite .host (storeObject false 1) (0x65766173 : Nat) ∧ pending15.areaPending 1 = true ∧
    rover4.takesWrite .host (storeObject false 2) (1 : Nat) ∧ pending15.takesWrite .host (storeObject true 3) (0x64616F6C : Nat) ∧
    pending15.store.copy0 = none ∧ pending15.store.copy1 = none ∧
    ∀ e ∈ pending15.store.journal ++ pending15.store.spill, e.seq < pending15.store.seq := by
  unfold State.takesWrite State.ready
  decide +kernel

theorem witness_RecordStore_waits (q : Sess) : (pending15.session q).saveWait = none := by
  cases q with
  | tcp n => revert n; decide +kernel
  | baseLink p => cases p <;> decide +kernel
  | radio p => cases p <;> decide +kernel
  | _ => decide +kernel

theorem witness_RecordStore_scrubs :
    (key15.operating = true ∧ key15.scrubDue 0 86400 = true ∧ key15.sealedSlot 4 = false ∧ (key15.keyRecord 4).isSome = true ∧
      key15.keyCopy 4 0 = key15.keyCopy 4 1 ∧ rover4.scrubDue 0 86400 = false) ∧
    ((weeks15 (nand15 0) 1).store.nandPresent = true ∧ (weeks15 (nand15 0) 1).scrubDue 1 604800 = true ∧
      (weeks15 (nand15 0) 1).block 5 = some (data15 3 1 0)) := by
  decide +kernel

theorem witness_RecordStore_refresh :
    (refresh15.operating = true ∧ refresh15.block 5 = some (data15 3 1 25) ∧ refresh15.block 6 = some (free15 3) ∧ refresh15.lowestFree 3 6 = true ∧
      ∀ e ∈ refresh15.refreshList, 0 ≤ e.2.writtenDay) ∧
    (wear15.operating = true ∧ wear15.block 5 = some (data15 3 1 0) ∧ wear15.block 6 = some (free15 3) ∧ wear15.lowestFree 3 6 = true ∧
      1 + 2000 ≤ wear15.eraseMaxOf 3 ∧ wear15.store.lastWearMove + 120000000000 ≤ wear15.now) ∧
    (State.tick (nand15 0) 5).now < (nand15 0).store.lastWearMove + 120000000000 := by
  decide +kernel

theorem witness_RecordStore_least (k : Nat) (x : NandBlock) (h : (k, some x) ∈ wear15.store.blocks) (hd : x.holdsData = true) : 1 ≤ x.erases := by
  have ha : wear15.store.blocks.all (fun e => match e.2 with | none => true | some y => !y.holdsData || decide (1 ≤ y.erases)) = true := by decide +kernel
  simpa [hd] using (List.all_eq_true.mp ha) _ h

theorem witness_RecordStore_retire :
    ((nand15 37).running = true ∧ (nand15 37).block 5 = some (data15 3 1 37) ∧ (nand15 37).block 8 = some (free15 4) ∧
      36 < (data15 3 1 37).corrections ∧ (nand15 37).lowestFree 4 8 = true ∧ (nand15 37).bank.count 0x8C + 1 < 2 ^ 32) ∧
    (nand15 36).block 5 = some (data15 3 1 36) := by
  decide +kernel

theorem witness_RecordStore_exported :
    (rover4.takesWrite .host Obj.asAppliedExported 0 ∧ rover4.store.gapFrom = none ∧ gap15.takesWrite .host Obj.asAppliedExported 0) ∧
    (gap15.store.gapFrom = some 3 ∧ gap15.meter.interval = some span12 ∧ gap15.store.nandPresent = true ∧
      ((ringRoom gap15.store.ringCapacity (0 : Int).toNat 2048 gap15.store.ring).map AsApplied.nandBytes).foldl (· + ·) 2048 ≤ gap15.store.ringCapacity) := by
  unfold State.takesWrite State.ready
  decide +kernel

theorem witness_RecordStore_shadow : rover4.shadowHolds (.storedNum (regKey Obj.asAppliedExported 0) 0) = true ∧
    gap15.shadowHolds (.storedNum (regKey Obj.asAppliedExported 0) 0) = true :=
  ⟨shadow_num _ _ _ (by decide +kernel), shadow_num _ _ _ (by decide +kernel)⟩

/-- Two home copies, the second one newer. -/
def home15 : MilestoneHome := { seq := 1, bank := MilestoneBank.empty, since := Stamp.zero, opSeconds := 0, cycles := 0 }
def homes15 : State := hours15 (fun m => { m with home0 := some home15, home1 := some { home15 with seq := 2 } })

theorem witness_MilestoneRecorder_samples :
    ((minutes15 rover4).running = true ∧ (minutes15 rover4).periodDue 0x10 (ticksS 1) = true ∧ (minutes15 rover4).periodDue 0x13 (ticksS 60) = true ∧
      rover4.periodDue 0x12 (ticksS 60) = false) ∧
    (homes15.operating = true ∧ homes15.opSeconds / 21600 ≠ 0 ∧ homes15.milestone.home0 = some home15 ∧
      homes15.milestone.home1 = some { home15 with seq := 2 } ∧ home15.opSeconds / 21600 < homes15.opSeconds / 21600) ∧
    rover4.milestone.home0 = none ∧ rover4.opSeconds / 21600 = 0 := by
  decide +kernel

theorem witness_MilestoneRecorder_freeze :
    (rover4.takesWrite .host Obj.milestoneFreeze 1 ∧ rover4.milestone.frozen = false ∧ rover4.takesWrite .host Obj.milestoneFreeze 0) ∧
    (frozen15.takesWrite .host Obj.milestoneFreeze 0 ∧ frozen15.milestone.frozen = true ∧ frozen15.takesWrite .host Obj.milestoneFreeze 1) ∧
    frozen15.due frozen15.milestone.freezeDue = true ∧ (frozen15.bank.count 0x81 + 1 < 2 ^ 32 ∧ rover4.bank.count 0x81 + 1 < 2 ^ 32) ∧
    rover4.ready .host ∧ rover4.objCheck .host Obj.milestoneClear true = none ∧ rover4.takesWrite .host Obj.milestoneClear 0x4D := by
  unfold State.takesWrite State.ready
  decide +kernel

/-! ### Keys, images, activation -/

def secret16 (slot : Byte) : List Byte := slot :: List.replicate 107 0
def public16 (slot gen : Byte) : List Byte := [slot, 0, 0, 0, gen] ++ List.replicate 131 0
def gate16 (s : State) (f : GateState → GateState) : State := s.updGate f
def sealed16 : State := { rover4 with mode := { rover4.mode with testRoot := true } }
def service16 : State := { rover4 with mode := { rover4.mode with current := .service } }
/-- A rover without its device key. -/
def nameless16 : State := (rover4.setKeyCopy 1 0 none).setKeyCopy 1 1 none
/-- The key registers hold the keys of slots 9 and 5. -/
def keyed16 (s : State) : State := gate16 s (fun g => { g with registers := [9, 5] })

theorem witness_Keys_secret :
    (rover4.takesBytes .host Obj.keyImportSecret (secret16 6) ∧ rover4.takesBytes .host Obj.keyImportSecret (secret16 2) ∧ rover4.mode.testRoot = false ∧
      rover4.mode.current ≠ .service ∧ rover4.identityBad = false ∧ importTransport .host = true ∧ fieldU (secret16 6) 0 1 = 6 ∧ fieldU (secret16 2) 0 1 = 2) ∧
    (nameless16.takesBytes .host Obj.keyImportSecret (secret16 6) ∧ nameless16.mode.testRoot = false ∧ nameless16.identityBad = true) ∧
    (service16.takesBytes .host Obj.keyImportSecret (secret16 6) ∧ service16.mode.testRoot = false ∧ service16.mode.current = .service) := by
  unfold State.takesBytes State.ready
  decide +kernel

theorem witness_Keys_public :
    (rover4.takesBytes .host Obj.keyImportPublic (public16 3 0) ∧ fieldU (public16 3 0) 0 1 = 3 ∧ fieldU (public16 3 0) 4 4 = rover4.slotGen 3 ∧
      rover4.emptySlot 3 = true ∧ slice (public16 3 0) 72 64 = List.replicate 64 0) ∧
    (rover4.takesBytes .host Obj.keyImportPublic (public16 3 9) ∧ fieldU (public16 3 9) 4 4 ≠ rover4.slotGen 3) ∧
    (rover4.takesBytes .host Obj.keyImportPublic (public16 2 0) ∧ service16.takesBytes .host Obj.keyImportPublic (public16 3 0)) := by
  unfold State.takesBytes State.ready
  decide +kernel

theorem witness_Keys_erase :
    (rover4.takesWrite .host Obj.keyErase (6 : Nat) ∧ service16.takesWrite .host Obj.keyErase (4 : Nat) ∧ service16.mode.testRoot = false) ∧
    (sealed16.mode.testRoot = true ∧ sealed16.takesBytes .host Obj.keyImportSecret (secret16 6) ∧ sealed16.takesBytes .host Obj.keyImportPublic (public16 3 0) ∧
      sealed16.takesWrite .host Obj.keyErase (6 : Nat)) := by
  unfold State.takesBytes State.takesWrite State.ready
  decide +kernel

theorem witness_Keys_registers :
    ((keyed16 base2).operating = true ∧ (keyed16 base2).sessionKeyed 5 ∧ 5 ∈ (keyed16 base2).gate.registers) ∧
    (base2.operating = true ∧ base2.sessionKeyed 5 ∧ 5 ∉ base2.gate.registers ∧ base2.isBase = true ∧ (base2.slot 5).state = .connected ∧ ¬base2.sessionKeyed 6) ∧
    (rover2.operating = true ∧ rover2.sessionKeyed 5 ∧ 5 ∉ rover2.gate.registers ∧ rover2.isBase = false ∧ rover2.radio.conn = .connected) := by
  unfold State.sessionKeyed
  decide +kernel

/-- An image, and a rover whose inactive slot holds it in a state, 90 of 100 bytes received. -/
def info16 : ImageInfo := { version := 3, security := 2, digest := List.replicate 32 0, test := false }
def image16 (st : ImageState) : State :=
  (rover4.setImage 0 { ImageSlot.empty with state := st, total := 100, bytes := List.replicate 90 0, info := info16 }).updStore
    (fun x => { x with nandPresent := true })
def receiving16 (nand : Bool) (total : Nat) : State :=
  let s := image16 .receiving
  (s.setImage 0 { s.image 0 with total := total }).updStore (fun x => { x with nandPresent := nand })
def trial16 (n : Nat) : State :=
  gate16 rover4 (fun g => { g with trialFrom := some n, running := some info16, anchor := { g.anchor with trial := true } })
def bootTrial16 : State := { trial16 5 with mode := { (trial16 5).mode with current := .boot } }

theorem witness_ImageUpdate_begin :
    (rover4.takesWrite .host Obj.updateBegin (100 : Nat) ∧ rover4.mode.testRoot = false ∧ rover4.mode.current ≠ .service ∧ rover4.activating = false ∧
      rover4.gate.anchor.trial = false ∧ rover4.store.nandPresent = false) ∧
    ((image16 .empty).takesWrite .host Obj.updateBegin (100 : Nat) ∧ (image16 .empty).mode.testRoot = false ∧ (image16 .empty).mode.current ≠ .service ∧
      (image16 .empty).activating = false ∧ (image16 .empty).gate.anchor.trial = false ∧ (image16 .empty).store.nandPresent = true) ∧
    ((trial16 5).takesWrite .host Obj.updateBegin 100 ∧ (trial16 5).gate.anchor.trial = true) := by
  unfold State.takesWrite State.ready
  decide +kernel

/-- The inactive slot is receiving 90 bytes of a total, with a NAND. -/
def receives16 (s : State) (total : Nat) (nand : Bool) : Bool :=
  !s.mode.testRoot && decide (s.mode.current ≠ .service) && decide ((s.image s.inactiveSlot).state = .receiving) &&
    decide ((s.image s.inactiveSlot).bytes.length = 90) && decide ((s.image s.inactiveSlot).total = total) && decide (s.store.nandPresent = nand)

theorem witness_ImageUpdate_data :
    receives16 (receiving16 true 100) 100 true = true ∧ (receiving16 true 100).takesBytes .host Obj.updateData [1, 2] ∧
      (receiving16 true 100).takesBytes .host Obj.updateData (List.replicate 11 7) ∧ (receiving16 true 100).takesWrite .host Obj.updateVerify 1 := by
  unfold State.takesBytes State.takesWrite State.ready
  decide +kernel

theorem witness_ImageUpdate_whole :
    (receives16 (receiving16 true 90) 90 true = true ∧ (receiving16 true 90).takesWrite .host Obj.updateVerify 1) ∧
    (receives16 (receiving16 false 100) 100 false = true ∧ (receiving16 false 100).takesBytes .host Obj.updateData [1, 2] ∧
      (receiving16 false 100).takesWrite .host Obj.updateVerify 1) := by
  unfold State.takesBytes State.takesWrite State.ready
  decide +kernel

theorem witness_ImageUpdate_refused :
    ((image16 .empty).image (image16 .empty).inactiveSlot).state ≠ .receiving ∧ (image16 .empty).takesBytes .host Obj.updateData [1] ∧
      (image16 .empty).takesWrite .host Obj.updateVerify 1 := by
  unfold State.takesBytes State.takesWrite State.ready
  decide +kernel

theorem witness_ImageUpdate_trial :
    (let s := State.tick (trial16 5) 600000000005
     s.operating = true ∧ s.mode.current ≠ .service ∧ s.gate.anchor.trial = true ∧ s.gate.trialFrom = some 5 ∧
       s.gate.running = some info16 ∧ 5 + 600000000000 ≤ s.now) ∧
    ((trial16 5).gate.trialFrom = some 5 ∧ (trial16 5).now < 5 + 600000000000) ∧
    (let s := State.tick bootTrial16 240000000000
     s.gate.anchor.trial = true ∧ s.mode.current = .boot ∧ 240000000000 ≤ s.now ∧ s.bank.count 0x90 + 1 < 2 ^ 32) ∧
    bootTrial16.now < 240000000000 := by
  decide +kernel

def act16 (fleet committed : Bool) (t : Int) : Activation :=
  { id := 7, time := t, version := 3, digest := List.replicate 32 0, fleet := fleet, committed := committed, answers := [], answered := none, cancelled := none }
def active16 (s : State) (a : Activation) : State := gate16 s (fun g => { g with activation := some a })
/-- The manager with a verified image, and an activation time. -/
def manager16 (t : Int) : State :=
  State.set (base4.setImage 0 { ImageSlot.empty with state := .verified, info := info16 }) Obj.activationTime t
def offer16 : List Byte := leBytes 4 7 ++ leInt 8 9 ++ leBytes 4 3 ++ List.replicate 32 0

/-- The manager may command, and whether an activation stands. -/
def commands16 (s : State) (stands : Bool) : Bool := !s.updateRefused && s.isManager && s.isBase && s.activating == stands

theorem witness_ActivationManaged_offers :
    ((manager16 100000000000).takesWrite .host Obj.activationCommand 1 ∧ (manager16 100000000000).takesWrite .host Obj.activationCommand 2) ∧
    (commands16 (manager16 100000000000) false = true ∧ (manager16 100000000000).onInterval 100000000000 = true ∧
      (manager16 100000000000).reg Obj.activationTime = 100000000000 ∧ (manager16 100000000000).time64 = 4000000000 ∧
      (manager16 100000000000).verifiedWith ((manager16 100000000000).oct Obj.activationDigest) = true) := by
  unfold State.takesWrite State.ready
  decide +kernel

theorem witness_ActivationManaged_refused :
    (manager16 1).takesWrite .host Obj.activationCommand 1 ∧ (manager16 1).takesWrite .host Obj.activationCommand 2 ∧
      commands16 (manager16 1) false = true ∧ (manager16 1).reg Obj.activationTime % 1000000000 = 1 := by
  unfold State.takesWrite State.ready
  decide +kernel

theorem witness_ActivationManaged_cancels :
    (active16 (manager16 1) (act16 true false 9)).takesWrite .host Obj.activationCommand 3 ∧ commands16 (active16 (manager16 1) (act16 true false 9)) true = true := by
  unfold State.takesWrite State.ready
  decide +kernel

theorem witness_ActivationManaged_aborted :
    (active16 rover4 (act16 true false 9)).takesWrite .host Obj.activationCommand 1 ∧ (active16 rover4 (act16 true false 9)).activating = true ∧
      rover4.takesWrite .host Obj.activationCommand 2 ∧ rover4.takesWrite .host Obj.activationCommand 3 ∧ rover4.isManager = false := by
  unfold State.takesWrite State.ready
  decide +kernel

/-- A manager whose commit point, or answer deadline, has come. -/
def commits16 (s : State) (t : Int) : Bool := s.isManager && s.isBase && decide (t - 10000000000 ≤ s.time64)

theorem witness_ActivationManaged_instants :
    (commits16 (active16 base4 (act16 true false 14000000000)) 14000000000 = true ∧ (active16 base4 (act16 true false 14000000000)).linkedBases = [] ∧
      (active16 base4 (act16 true false 14000000000)).connectedSlots = [] ∧ (active16 base4 (act16 true false 14000000000)).reg Obj.reservationsHeld = 0 ∧
      (active16 base4 (act16 true false 14000000000)).mode.current ≠ .halt) ∧
    (commits16 (active16 base2 (act16 true false 14000000000)) 14000000000 = true ∧ 5 ∈ (active16 base2 (act16 true false 14000000000)).connectedSlots) ∧
    (commits16 (active16 base2 (act16 true true 6000000000)) 6000000000 = true ∧ 6000000000 - 2000000000 ≤ (active16 base2 (act16 true true 6000000000)).time64 ∧
      (active16 base2 (act16 true true 6000000000)).allAnswered (act16 true true 6000000000) 5 = false) ∧
    (active16 base4 (act16 true true 6000000000)).allAnswered (act16 true true 6000000000) 5 = true ∧
    (act16 true true 6000000000).committed = true ∧ (active16 base4 (act16 true false 99000000000)).time64 < 99000000000 - 10000000000 ∧
    base4.gate.activation = none := by
  decide +kernel

def offered16 : State := active16 rover2 (act16 true false 9)
theorem heeds_offered16 : offered16.heeds := by unfold State.heeds; decide +kernel

/-- A record of the base for slot 5, and one of slot 5. -/
def downRec16 (code : Nat) (d : List Byte) : AirFrame := down1 3 5 (recordBody { code := code, data := d })
def upRec16 (code : Nat) (d : List Byte) : AirFrame := up1 5 (recordBody { code := code, data := d })
/-- The rover after such a record. -/
def heard16 (s : State) (f : AirFrame) : State := (heard9 s f).updRadio (fun x => { x with heard := (heard9 s f).now })

/-- A connected rover receives a record of its own. -/
theorem receives_own (s : State) (code : Nat) (d key : List Byte) (h : (downRec16 code d).wf)
    (hd : recordData code (downRec16 code d).body = some d) (hk : s.frameKey (downRec16 code d) = some key)
    (hl : laterThan (Tab.get none s.radio.accepted 0x83) s.interval 1 = true) (hp : s.radio.parts = [])
    (h1 : (s.hasRole .rover && s.radio.on && s.linked) = true) (h2 : (heard9 s (downRec16 code d)).regN Obj.assignedSlot = 5) :
    ∃ l, s.activationRx code (.radio l) = (heard16 s (downRec16 code d), some d) := by
  obtain ⟨l, g, hr, _, hg⟩ := receives_whole s (downRec16 code d) key h ⟨by show 3 < 13; decide, by show 3 ≠ 6; decide, by show 3 ≠ 7; decide⟩
    hk hl hp ⟨rfl, rfl, Nat.le_trans h.2.2.2.2.2.2.1 (by decide)⟩
  change s.receiveRecord [3] l = _ at hr
  change g.dst = 5 at hg
  refine ⟨l, ?_⟩
  simp only [State.activationRx, State.downRecord, h1, hr, hg, h2, hd, heard16, Bool.not_true, Bool.false_eq_true, if_false, ne_eq, not_true]

/-- A base receives a record of slot 5. -/
theorem receives_slot (s : State) (code : Nat) (d key : List Byte) (h : (upRec16 code d).wf)
    (hd : recordData code (upRec16 code d).body = some d) (hk : s.frameKey (upRec16 code d) = some key)
    (hl : laterThan (Tab.get none s.radio.accepted 5) s.interval 1 = true) (hp : s.radio.parts = [])
    (hc : (Tab.get SlotConn.free (heard9 s (upRec16 code d)).radio.slots 5).state = .connected) :
    ∃ l, s.uplink code (.radio l) = (heard9 s (upRec16 code d), some ((heard9 s (upRec16 code d)).ownIndex * 128 + 5, d)) := by
  obtain ⟨l, g, hr, hg, _⟩ := receives_whole s (upRec16 code d) key h ⟨by show 5 < 13; decide, by show 5 ≠ 6; decide, by show 5 ≠ 7; decide⟩
    hk hl hp ⟨rfl, rfl, Nat.le_trans h.2.2.2.2.2.2.1 (by decide)⟩
  change s.receiveRecord [5] l = _ at hr
  change g.src = 5 at hg
  refine ⟨l, ?_⟩
  simp only [State.uplink, hr, hg, hc, hd, ne_eq, not_true, if_false, Option.map_some]

def commit16 : List Byte := leBytes 4 7 ++ leInt 8 9
def cancel16 : List Byte := leBytes 4 7 ++ [3]
def answer16 : List Byte := leBytes 4 7 ++ [0]

theorem receives_offer16 : ∃ l, rover2.activationRx 0x86 (.radio l) = (heard16 rover2 (downRec16 0x86 offer16), some offer16) :=
  receives_own rover2 0x86 offer16 (List.replicate 16 2) (by unfold AirFrame.wf; decide +kernel) (by decide +kernel) (by rfl) (by decide +kernel) rfl
    (by decide +kernel) (by decide +kernel)

theorem receives_commit16 : ∃ l, offered16.activationRx 0x87 (.radio l) = (heard16 offered16 (downRec16 0x87 commit16), some commit16) :=
  receives_own offered16 0x87 commit16 (List.replicate 16 2) (by unfold AirFrame.wf; decide +kernel) (by decide +kernel) (by rfl) (by decide +kernel) rfl
    (by decide +kernel) (by decide +kernel)

theorem receives_cancel16 : ∃ l, offered16.activationRx 0x88 (.radio l) = (heard16 offered16 (downRec16 0x88 cancel16), some cancel16) :=
  receives_own offered16 0x88 cancel16 (List.replicate 16 2) (by unfold AirFrame.wf; decide +kernel) (by decide +kernel) (by rfl) (by decide +kernel) rfl
    (by decide +kernel) (by decide +kernel)

/-- A base offers an activation, to its connected slot 5 too. -/
def offers16 : State := active16 base2 (act16 true false 9)
theorem heeds_offers16 : offers16.heeds := by unfold State.heeds; decide +kernel

theorem receives_answer16 : ∃ l, offers16.uplink 6 (.radio l) = (heard9 offers16 (upRec16 6 answer16), some ((heard9 offers16 (upRec16 6 answer16)).ownIndex * 128 + 5, answer16)) :=
  receives_slot offers16 6 answer16 (List.replicate 16 1) (by unfold AirFrame.wf; decide +kernel) (by decide +kernel) (by rfl) (by decide +kernel) rfl
    (by decide +kernel)

/-- A rover with the activation that it holds. -/
def holds16 (u : State) (a : Option Activation) : Bool :=
  decide (u.gate.activation = a) && u.operating && decide (u.mode.role = some .rover) && !u.isManager

theorem witness_FleetActivation_records :
    (holds16 (heard16 rover2 (downRec16 0x86 offer16)) none = true) ∧
    (holds16 (heard16 offered16 (downRec16 0x87 commit16)) (some (act16 true false 9)) = true ∧ (act16 true false 9).id = fieldU commit16 0 4) ∧
    (holds16 (heard16 offered16 (downRec16 0x88 cancel16)) (some (act16 true false 9)) = true ∧ (act16 true false 9).id = fieldU cancel16 0 4) ∧
    (offers16.isBase = true ∧ (heard9 offers16 (upRec16 6 answer16)).gate.activation = some (act16 true false 9) ∧ (act16 true false 9).id = fieldU answer16 0 4) ∧
    (heard16 offered16 (downRec16 0x86 offer16)).activating = true := by
  decide +kernel

theorem witness_FleetActivation_link :
    (active16 base4 (act16 true false 9)).heeds ∧ ((active16 base4 (act16 true false 9)).acceptLink head7).2 = true ∧
      (active16 base4 (act16 true false 9)).isBase = true ∧ (active16 base4 (act16 true false 9)).isManager = true ∧
      ((active16 base4 (act16 true false 9)).acceptLink { head7 with tagOk := false }).2 = false := by
  unfold State.heeds
  decide +kernel

/-- A committed activation of the rover with a verified image, whose time has come. -/
def due16 (fleet : Bool) (m : Mode) (task : Option RoverTask) : State :=
  (active16 { image16 .verified with mode := { rover4.mode with current := m } } (act16 fleet true 4000000000)).updFleet (fun f => { f with task := task })
def isDue16 (s : State) : Bool := s.operating && decide (4000000000 ≤ s.time64) && decide (s.mode.role = some .rover) && decide (s.power.saving = none)

theorem witness_FleetActivation_time :
    (isDue16 (due16 true .rover none) = true ∧ (due16 true .rover none).mode.current = .rover ∧ (due16 true .rover none).verifiedWith (List.replicate 32 0) = true) ∧
    (isDue16 (due16 true .halt none) = true ∧ (due16 true .halt none).mode.current = .halt) ∧
    (isDue16 (due16 false .rover (some loading1)) = true ∧ (due16 false .rover (some loading1)).fleet.task.isSome = true) ∧
    ((active16 rover4 (act16 true true 99000000000)).time64 < 99000000000 ∧ isDue16 (active16 rover4 (act16 true false 4000000000)) = true) := by
  decide +kernel

/-! ### The pair -/

/-- A unit of a pair, its link trained. -/
def pair17 (s : State) (f : ZheocState → ZheocState) : State :=
  (State.boot s Obj.redundancyEnable 1).updZheoc (fun z => f { z with lane0 := true, lane1 := true })
def beat17 (m : Mode) : Beat := { device := List.replicate 16 1, mode := m, pair := .inStep, frame := 0, epoch := 6 }
def acting17 (f : ZheocState → ZheocState) : State := pair17 base4 (fun z => f { z with acting := true, pair := .inStep, partner := some (beat17 .standby) })
def standby17 (f : ZheocState → ZheocState) : State := pair17 (inMode .standby .base 8000000000) (fun z => f { z with pair := .inStep, partner := some (beat17 .base) })
def boot17 (t : Nat) (f : ZheocState → ZheocState) : State := pair17 (inMode .boot .base t) f
def sent17 (type at_ : Nat) : ZlSent := { seq := 3, type := type, first := at_, at_ := at_ }
def image17 (s : State) (d : List Byte) : State := s.updGate (fun g => { g with running := some { version := 1, security := 1, digest := d, test := false } })
/-- The hello of a partner with the same keys and image. -/
def hello17 (s : State) (good : Bool) : Hello :=
  { device := [1], code := if good then Config.hmacSha256 ((s.keyOf 7).getD []) ([1] ++ s.deviceId) else Config.hmacSha256 ((s.keyOf 7).getD []) ([1] ++ s.deviceId) ++ [0]
    slot6 := Config.hmacSha256 ((s.keyOf 7).getD []) (Config.sha256 ((s.keyOf 6).getD [])), image := [7] }
def key17 (s : State) : State := s.writeSlot 7 { kind := 3, state := 1, gen := 1, key := List.replicate 32 9, factory := false }
def met17 : State := key17 (image17 (standby17 (fun z => { z with pair := .linking })) [7])

/-- The lanes down, lane 1 down, one frame unacknowledged since a tick. -/
def down17 : State := acting17 (fun z => { z with lane0 := false, lane1 := false })
def half17 : State := acting17 (fun z => { z with lane1 := false })
def waits17 (t : Nat) : State := acting17 (fun z => { z with unacked := [sent17 5 t] })

theorem witness_PairLink_lanes :
    (down17.inPair = true ∧ down17.linkUp = false ∧ down17.zheoc.unacked = [] ∧ down17.zheoc.held = []) ∧
    ((acting17 id).inPair = true ∧ (acting17 id).linkUp = true ∧ (acting17 id).zheoc.lane0 = true ∧ (acting17 id).zheoc.lane1 = true ∧
      Tab.get 0 (acting17 id).zheoc.dropAt 1 + 200000000 ≤ (acting17 id).now) ∧
    (half17.inPair = true ∧ half17.zheoc.lane1 = false ∧ half17.zheoc.pair = .inStep) ∧ base4.inPair = false := by
  decide +kernel

theorem witness_PairLink_frames :
    ((waits17 7).inPair = true ∧ (waits17 7).linkUp = true ∧ (waits17 7).zheoc.unacked = [sent17 5 7] ∧ (sent17 5 7).at_ + 40000 ≤ (waits17 7).now) ∧
    ((waits17 8000000000).zheoc.unacked = [sent17 5 8000000000] ∧ (waits17 8000000000).now < (sent17 5 8000000000).at_ + 40000) ∧
    ((waits17 7).zheoc.held = [] ∧ (acting17 id).zheoc.unacked = [] ∧ (acting17 id).zheoc.rxSeq ≠ 9) := by
  decide +kernel

/-- What a clause on frames to a STANDBY unit asks of it. -/
def stands17 (s : State) (p : PairState) : Bool :=
  s.inPair && s.linkUp && decide (s.mode.current = .standby) && !s.zheoc.acting && decide (s.zheoc.pair = p) && decide (s.zheoc.waiting = [])

theorem witness_PairLink_heartbeats :
    ((acting17 (fun z => { z with pair := .transfer })).inPair = true ∧ (acting17 (fun z => { z with pair := .transfer })).linkUp = true ∧
      (acting17 (fun z => { z with pair := .transfer })).zheoc.acting = true ∧ (acting17 (fun z => { z with pair := .transfer })).mode.current ≠ .standby ∧
      (acting17 (fun z => { z with pair := .transfer })).zheoc.pair = .transfer ∧ (beat17 .standby).mode = .standby) ∧
    (stands17 (standby17 id) .inStep = true ∧ stands17 (standby17 (fun z => { z with pair := .noPartner })) .noPartner = true) := by
  decide +kernel

theorem witness_PairLink_hello :
    stands17 met17 .linking = true ∧ met17.zheoc.imageMismatch = false ∧ met17.zheoc.keyMismatch = false ∧
      met17.gate.running.map (·.digest) = some (hello17 met17 true).image := by
  decide +kernel

theorem witness_PairLink_transfer :
    stands17 (standby17 (fun z => { z with pair := .transfer })) .transfer = true ∧ (acting17 id).mode.current ≠ .standby ∧
      stands17 (standby17 (fun z => { z with pair := .outOfStep })) .outOfStep = true := by
  decide +kernel

theorem witness_PairLink_mirrored :
    (stands17 (standby17 id) .inStep = true ∧ 4000 ≤ (standby17 id).frameNumber ∧ (standby17 id).frameNumber < 5000 ∧ (standby17 id).zheoc.rxSeq = 0) ∧
    ((objOfKey (regKey Obj.activationTime 0)).map (·.acc) ≠ some .rws ∧ objOfKey (regKey Obj.activationTime 0) ≠ none ∧
      ownPair (regKey Obj.activationTime 0) = false) ∧
    ((objOfKey (regKey Obj.axisMode 3)).map (·.acc) = some .rws ∧ ownPair (regKey Obj.axisMode 3) = false) ∧
    (objOfKey (regKey Obj.redundancyEnable 0) ≠ none ∧ ownPair (regKey Obj.redundancyEnable 0) = true) := by
  decide +kernel

theorem witness_PairLink_late :
    (waits17 7).zheoc.acting = true ∧ (waits17 7).zheoc.pair = .inStep ∧ sent17 5 7 ∈ (waits17 7).zheoc.unacked ∧ (sent17 5 7).type = 5 ∧
      (sent17 5 7).first + 2000000 ≤ (waits17 7).now ∧ (standby17 id).zheoc.acting = false := by
  decide +kernel

theorem witness_PairLink_digests :
    ((acting17 id).operating = true ∧ (acting17 id).zheoc.frameAt ≠ some (acting17 id).frameNumber) ∧
    (stands17 (standby17 (fun z => { z with digest := some (7, 3) })) .inStep = true ∧ (standby17 (fun z => { z with digest := some (7, 3) })).operating = true ∧
      (standby17 (fun z => { z with digest := some (7, 3) })).zheoc.frameAt ≠ some (standby17 (fun z => { z with digest := some (7, 3) })).frameNumber) ∧
    (acting17 (fun z => { z with frameAt := some 4000 })).zheoc.frameAt = some (acting17 id).frameNumber := by
  decide +kernel

theorem witness_PairLink_equal : ∃ d : BitVec 32, let s := standby17 (fun z => { z with pair := .transfer, copied := true, equalRun := 99, digest := some (d, 3) })
    s.zheoc.copied = true ∧ s.zheoc.equalRun = 99 ∧ s.zheoc.digest = some (d, 3) ∧ d = s.ownDigest 3 :=
  ⟨(standby17 (fun z => { z with pair := .transfer })).ownDigest 3, rfl, rfl, rfl, rfl⟩

theorem witness_PairLink_beats :
    ((acting17 id).zheoc.beatAt + 400000 ≤ (acting17 id).now ∧ (acting17 id).mode.current = .base ∧ (acting17 id).zheoc.deposed = false ∧
      (acting17 id).zheoc.token + 1000000 ≤ (acting17 id).now ∧ (acting17 id).zheoc.stopped = false) ∧
    ((acting17 (fun z => { z with token := 8000000000 })).now < (acting17 (fun z => { z with token := 8000000000 })).zheoc.token + 1000000) ∧
    ((standby17 id).zheoc.beatAt + 400000 ≤ (standby17 id).now ∧ (standby17 id).operating = true ∧
      (acting17 (fun z => { z with beatAt := 8000000000 })).now < (acting17 (fun z => { z with beatAt := 8000000000 })).zheoc.beatAt + 400000) ∧
    ((standby17 id).time64 % 200000 ≤ 20000 ∧ 20000 < ((acting17 id).time64 - 100000) % 200000 ∧ ((acting17 id).time64 - 100000) % 200000 < 180000) := by
  decide +kernel

def deposed17 : State := acting17 (fun z => { z with deposed := true })

theorem witness_Failover_token :
    ((acting17 id).inPair = true ∧ (acting17 id).zheoc.acting = true ∧ (acting17 id).zheoc.token + 1000000 ≤ (acting17 id).now ∧
      (acting17 id).zheoc.beatAt + 6000000 ≤ (acting17 id).now ∧ (acting17 id).zheoc.pair = .inStep) ∧
    (deposed17.zheoc.deposed = true ∧ deposed17.zheoc.fenced = false ∧ deposed17.zheoc.beatAt + 11000000 ≤ deposed17.now ∧ deposed17.power.saving = none ∧
      deposed17.mode.current = .base ∧ deposed17.mode.clockFail = none ∧ deposed17.bank.count 0x92 + 1 < 2 ^ 32) ∧
    (acting17 id).zheoc.deposed = false := by
  decide +kernel

/-- A STANDBY unit in step has lost its partner on both paths. -/
def lost17 (s : State) : Bool :=
  s.inPair && s.operating && s.linkLost && s.landLost && decide (s.mode.current = .standby) && decide (s.zheoc.pair = .inStep) && !s.zheoc.fenced &&
    decide (s.mode.clockFail = none) && decide (s.bank.count 0x91 + 1 < 2 ^ 32)
def stopped17 : State := (standby17 id).updCrier (fun c => { c with levelA := true })

theorem witness_Failover_loss :
    (lost17 (standby17 id) = true ∧ (standby17 id).zheoc.partner = some (beat17 .base) ∧ (standby17 id).resetWaits = false ∧
      (standby17 id).crier.levelA = false ∧ (standby17 id).crier.levelB = false) ∧
    (lost17 (standby17 (fun z => { z with partner := some (beat17 .halt) })) = true ∧ lost17 stopped17 = true ∧ stopped17.crier.levelA = true ∧
      stopped17.resetWaits = false) ∧
    (lost17 { standby17 id with pending := [.nrstInAssert 9000] } = true ∧ ({ standby17 id with pending := [.nrstInAssert 9000] } : State).resetWaits = true) := by
  decide +kernel

theorem witness_Failover_alone :
    ((acting17 id).operating = true ∧ (acting17 id).linkLost = true ∧ (acting17 id).landLost = true ∧ (acting17 id).mode.current ≠ .standby) ∧
    (standby17 (fun z => { z with linkSeen := some 8000000000 })).linkLost = false := by
  decide +kernel

def takes17 : State := acting17 (fun z => { z with haltOutFrom := some 7 })

theorem witness_Failover_takeover :
    takes17.zheoc.haltOutFrom = some 7 ∧ takes17.mode.clockFail = none ∧ 7 ≤ takes17.now ∧ takes17.zheoc.fenced = false ∧ takes17.mode.current = .base ∧
      takes17.now < 9000000000 ∧ (acting17 id).zheoc.haltOutFrom = none := by
  decide +kernel

/-- A unit of a pair that has listened long enough in BOOT. -/
def listened17 (s : State) : Bool :=
  s.inPair && decide (s.mode.current = .boot) && decide (s.zheoc.choice = none) && decide (s.gate.releasedAt + (if s.partnerFound then 40000000 else 60000000) ≤ s.now)

theorem witness_Failover_arbitration :
    (listened17 (boot17 60000000 id) = true ∧ (boot17 60000000 id).zheoc.partner = none ∧ (boot17 60000000 id).zheoc.hello = none) ∧
    (listened17 (boot17 40000000 (fun z => { z with partner := some (beat17 .halt) })) = true) ∧
    (listened17 (boot17 40000000 (fun z => { z with hello := some (hello17 base4 true) })) = true) ∧
    ((boot17 50000000 id).now < (boot17 50000000 id).gate.releasedAt + 60000000 ∧ (boot17 50000000 id).partnerFound = false) := by
  decide +kernel

/-- Both units act; a switch of roles whose boundary has come, at the acting unit. -/
def dual17 : State := acting17 (fun z => { z with partner := some (beat17 .base), linkSeen := some 8000000000 })
def leaving17 : State :=
  let s := acting17 (fun z => { z with switchAt := some 4000000000 })
  { s with mode := { s.mode with transition := some .standby } }
def joining17 : State := standby17 (fun z => { z with switchAt := some 4000000000 })

theorem witness_Failover_switch :
    (dual17.inPair = true ∧ dual17.mode.current = .base ∧ dual17.power.saving = none ∧ dual17.zheoc.partner = some (beat17 .base) ∧ dual17.linkLost = false) ∧
    (leaving17.zheoc.switchAt = some 4000000000 ∧ 4000000000 ≤ leaving17.time64 ∧ leaving17.mode.current = .base ∧ leaving17.zheoc.acting = true ∧
      leaving17.mode.transition = some .standby ∧ leaving17.mode.clockFail = none) ∧
    (joining17.zheoc.switchAt = some 4000000000 ∧ joining17.mode.current = .standby ∧ joining17.zheoc.pair = .inStep ∧
      joining17.zheoc.partner = some (beat17 .base) ∧ joining17.zheoc.fenced = false ∧ joining17.zheoc.haltOutFrom = none ∧ joining17.time64 < 4000000001) := by
  decide +kernel

/-! ### The block -/

theorem witness_LandsHoldKept : State.reset.landsHold ∧ step State.reset = .next State.reset.idle :=
  by
  refine ⟨?_, rfl⟩
  unfold State.landsHold
  constructor
  · intro _ _
    decide +kernel
  · decide +kernel

theorem witness_QueueKept : (match exec .hbPulseRx State.reset with | .next _ => true | _ => false) = true := by decide +kernel

theorem witness_IdleTicks : State.reset.pending = [] ∧ State.reset.mode.current = .reset ∧ (inMode .rover .rover 0).mode.current ≠ .reset ∧
    (inMode .rover .rover 0).mode.clockFail = none ∧ State.reset.mode.clockFail = none ∧
    ({ State.reset with mode := { State.reset.mode with clockFail := some .io } } : State).mode.clockFail = some .io := by
  decide +kernel

/-- A waiting command is taken from the front, and the next stays. -/
theorem test_step_front :
    (match step { State.reset with pending := [.hbPulseRx, .timeStep] } with | .next t => t.pending == [.timeStep] | _ => false) = true := by
  decide +kernel

/-- A word spells no command (log 11). -/
theorem test_no_word : decodeTableWord 32 7 = none := rfl

/-! ### The specification's worked examples -/

/-- spec/00: event 0x0003 is 5 later than 0xFFFE, and the 40-bit target lies 512 ticks ahead. -/
theorem test_signedDiff : signedDiff 16 0x0003 0xFFFE = 5 ∧ signedDiff 40 0x0000000100 0xFFFFFFFF00 = 512 ∧ signedDiff 16 0x8000 0 < 0 := by
  decide +kernel

/-- spec/10: an uplink report frame of 54 B is 1.08 ms at 400 kbit/s, and one of 88 B 1.76 ms. -/
theorem test_air : airUs 1 46 = 1080 ∧ airUs 1 80 = 1760 := by decide +kernel

/-! ### Ill-formed operands are refused -/

def badHead : LinkHead := { peer := 16, epoch := 0, seq := 0, tagOk := true }
def badUp : Uplink := .link badHead 0 []

theorem test_wf_head : [badHead, { peer := 0, epoch := 2 ^ 32, seq := 0, tagOk := true }, { peer := 0, epoch := 0, seq := 2 ^ 16, tagOk := true }].all (fun h => !h.wf) = true ∧
    (Uplink.radio []).wf = true ∧ badUp.wf = false := by decide +kernel

theorem test_wf_air : ([.stopHeaderCheck (2 ^ 32) [], .releaseFrame (2 ^ 32) [], .baseLinkStop 16, .baseLinkStopRequest 16, .baseLinkRelease badHead,
    .uplinkMissed 128, .slotSupervisionTimeout 128] : List Instr).all (fun i => !i.wf) = true := by decide +kernel

theorem test_wf_sections : ([.eventCapture 5 false 0, .eventCapture 0 false (2 ^ 64), .codeEpochDump 512 0 [], .codeEpochDump 0 0 [(8, 0)], .codeEpochDump 0 0 [(0, -9)], .lossOfLock 1024,
    .sectionDelayElapsed 1024, .segmentRx badUp] : List Instr).all (fun i => !i.wf) = true := by decide +kernel

theorem test_wf_fleet : ([.paintedSegmentRx badHead 0 0 (List.replicate 32 0), .paintedSegmentRx { peer := 0, epoch := 0, seq := 0, tagOk := true } 0 0 [],
    .managerSegmentAckRx { peer := 0, epoch := 0, seq := 0, tagOk := true } 128 0, .managerSegmentAckRx { peer := 0, epoch := 0, seq := 0, tagOk := true } 0 65536,
    .managerSegmentAckRx badHead 0 0, .tileSend 128, .fleetRecordCopyRx badHead 0 [], .claimRx badUp, .trackDoneRx badUp, .taskReleaseRx badUp,
    .tileRequestRx badUp, .baseLinkTimeout 16, .baseLinkRestored badHead 0 false [], .baseLinkRestored { peer := 0, epoch := 0, seq := 0, tagOk := true } 16 false [],
    .baseLinkRestored { peer := 0, epoch := 0, seq := 0, tagOk := true } 0 false [128],
    .reservationReportRx badHead 0 true, .reservationReportRx { peer := 0, epoch := 0, seq := 0, tagOk := true } 128 true] : List Instr).all (fun i => !i.wf) = true := by
  decide +kernel

theorem test_wf_ports : ([.ethFrameRx 2 [] 0, .ethFrameTx 2 [], .ethLinkChange 2 true true true 0, .pauseRx 2 [], .pauseEnd 2,
    .pauseTx 2 0, .pauseRepeat 2, .ethDisableComplete 2, .wakeMatch 2 [], .gateListStart 2, .ptpAnnounceTimeout 2] : List Instr).all (fun i => !i.wf) = true := by
  decide +kernel

theorem test_wf_ptp (m : PtpMessage) (k : PtpKind) : (Instr.ptpMessageRx 2 m).wf = false ∧ (Instr.ptpMessageTx 2 k).wf = false := ⟨rfl, rfl⟩

theorem test_wf_can (f : CanFrame) : (Instr.canFrameRx 2 f 0).wf = false ∧
    ([.canBusOff 2, .canRecoveryComplete 2, .canErrorPassive 2 0, .sdoRequest none (2 ^ 24), .rpdoRx 16 [] false, .rpdoRx 0 (List.replicate 9 0) false,
      .tpdoTx 16, .heartbeatConsumerTimeout 4, .sectionSetpointRx 65536 0, .sectionSetpointRx 0 (2 ^ 32), .rateSetpointRx 65536 0 0, .rateSetpointRx 0 4 0,
      .rateSetpointRx 0 0 (2 ^ 32), .positionPgnTx 4] : List Instr).all (fun i => !i.wf) = true := ⟨rfl, by decide +kernel⟩

theorem test_wf_motion : ([.aenOnDelayElapsed 16, .aenOffDelayElapsed 16, .axisFault 64 true, .faultInputDeassert 64 true, .stepInEdge 4 0, .stepInEdge 0 (2 ^ 64),
    .followTimeout 16] : List Instr).all (fun i => !i.wf) = true := by decide +kernel

theorem test_wf_host : ([.hostRead [], .hostWrite [] [] 0, .pop [0] none, .push [0] [] 0, .pushEnd [0, 0] [] 0, .queuePacketAbort 64] : List Instr).all
    (fun i => !i.wf) = true := by decide +kernel

theorem test_wf_dictionary : ([.dictRead .host 65536 0 0, .dictRead .host 0 256 0, .dictRead .host 0 0 (2 ^ 24), .dictWrite .host 65536 0 0 [],
    .dictWrite .host 0 256 0 [], .dictWrite .host 0 0 (2 ^ 24) [], .dictWrite .host 0 0 0 (List.replicate 225 0), .dictReadSegment .host 65536 0 0 0,
    .dictReadSegment .host 0 256 0 0, .dictReadSegment .host 0 0 (2 ^ 24) 0, .dictReadSegment .host 0 0 0 (2 ^ 32), .dictWriteSegment .host 65536 0 0 0 [] true,
    .dictWriteSegment .host 0 256 0 0 [] true, .dictWriteSegment .host 0 0 (2 ^ 24) 0 [] true, .dictWriteSegment .host 0 0 0 (2 ^ 32) [] true,
    .dictWriteSegment .host 0 0 0 0 (List.replicate 225 0) true] : List Instr).all (fun i => !i.wf) = true ∧
    sessionData (.tcp 0) = 1024 ∧ sessionData .can0 = 2 ^ 32 := by decide +kernel

theorem test_wf_session : ([.storeParameters .host 256 0, .storeParameters .host 0 (2 ^ 32), .restoreDefaultParameters .host 256 0,
    .restoreDefaultParameters .host 0 (2 ^ 32), .accessChallenge .host [], .tcpConnect 2 0, .tcpConnect 0 65536, .tunnelRequestRx .operator 1024 [], .remoteTimeout 128,
    .milestoneSample 4 0, .keyRegisterLoad 128 true] : List Instr).all (fun i => !i.wf) = true := by decide +kernel

theorem test_wf_pair : ([.activationOfferRx badUp, .activationAnswerRx badUp, .activationCommitRx badUp, .activationCancelRx badUp, .laneDrop 2,
    .laneRejoin 2, .baseLinkDictResponseRx badHead [], .baseLinkDictResponseRx { peer := 0, epoch := 0, seq := 0, tagOk := true } (List.replicate 1049 0)] :
      List Instr).all (fun i => !i.wf) = true := by decide +kernel

theorem test_wf_mirror (x : MirrorInput) (r : AirRecord) : (Instr.mirroredInputRx (2 ^ 32) 0 x).wf = false ∧
    (Instr.workerRelayRx badHead 0 r).wf = false ∧ (Instr.workerRelayRx { peer := 0, epoch := 0, seq := 0, tagOk := true } 128 r).wf = false := by
  refine ⟨?_, rfl, rfl⟩
  show decide ((2 : Nat) ^ 32 < 2 ^ 32) = false
  exact decide_eq_false (Nat.lt_irrefl _)

end Sys2Proof.Tests
end

section
/-!
PROOF. Order by signed difference (R23): the model's `signedDiff` is the library's balanced remainder
`Int.bmod` of a − b by 2^n, which is also what two's complement reads from the n-bit word of a − b.
-/
namespace Sys2Proof.Machine

/-- The model's test `2 * d < 2 ^ n` and the library's `d < (2 ^ n + 1) / 2` cut the residues at the same place. -/
theorem signedDiff_eq_bmod (n a b : Nat) : signedDiff n a b = ((a : Int) - b).bmod (2 ^ n) := by
  simp only [signedDiff, Int.bmod_def]
  generalize ((a : Int) - b) % (2 ^ n : Nat) = d
  have hcut : 2 * d < (2 ^ n : Nat) ↔ d < (((2 ^ n : Nat) : Int) + 1) / 2 := by omega
  simp only [hcut]

/-- R23: signed difference reads (a − b) mod 2^n as two's complement. -/
theorem signedDiff_eq_toInt (n a b : Nat) : signedDiff n a b = (BitVec.ofInt n ((a : Int) - b)).toInt := by
  rw [signedDiff_eq_bmod, BitVec.toInt_ofInt]

/-- Two counts are level exactly where their low n bits agree: both sides say that 2^n divides a − b. -/
theorem signedDiff_eq_zero_iff (n a b : Nat) : signedDiff n a b = 0 ↔ a % 2 ^ n = b % 2 ^ n :=
  calc signedDiff n a b = 0 ↔ ((2 ^ n : Nat) : Int) ∣ (a : Int) - b := by
        rw [signedDiff_eq_bmod, Int.dvd_iff_bmod_eq_zero]
    _ ↔ (a : Int) % (2 ^ n : Nat) = (b : Int) % (2 ^ n : Nat) := by
        rw [Int.emod_eq_emod_iff_emod_sub_eq_zero, Int.dvd_iff_emod_eq_zero]
    _ ↔ a % 2 ^ n = b % 2 ^ n := by
        rw [← Int.natCast_emod, ← Int.natCast_emod, Int.ofNat_inj]

/-- At exactly half the range the difference is the least (n + 1)-bit value: the residue 2^n is cut off on the negative side. -/
theorem signedDiff_half_range (n b : Nat) : signedDiff (n + 1) (b + 2 ^ n) b = -((2 ^ n : Nat) : Int) := by
  have hdiff : ((b + 2 ^ n : Nat) : Int) - b = (2 ^ n : Nat) := by omega
  have hres : ((2 ^ n : Nat) : Int) % (2 ^ (n + 1) : Nat) = (2 ^ n : Nat) :=
    Int.emod_eq_of_lt (Int.natCast_nonneg _) (Int.ofNat_lt.mpr (Nat.pow_lt_pow_succ (by decide)))
  have hdouble : (2 : Nat) ^ (n + 1) = 2 ^ n * 2 := Nat.pow_succ 2 n
  simp only [signedDiff, hdiff, hres]
  split <;> omega

end Sys2Proof.Machine

open Sys2Proof.Machine

/-- Settles O60: every clause on the sign follows from the reading as two's complement, and the word at half the range is −2^n. -/
theorem signedOrder : Obligations.SignedOrder := by
  unfold Obligations.SignedOrder
  refine ⟨fun n a b _ => signedDiff_eq_toInt n a b, fun n a b _ => ⟨?later, signedDiff_eq_zero_iff n a b, ?earlier⟩, fun n b => ?half⟩
  case later => rw [signedDiff_eq_toInt]
  case earlier => rw [signedDiff_eq_toInt]
  case half =>
    have hpos : 0 < (2 : Nat) ^ n := Nat.two_pow_pos n
    rw [signedDiff_half_range]
    omega
end

section
/-!
PROOF. The section record (R226, R227, R430). A write that changes a field of a record makes the ISOBUS device description due again,
and that flag stands in the part `net` of the state.
-/
namespace Sys2Proof.Machine

/-! ### The dictionary store -/

/-- Keys of different objects differ below the stride of an object. -/
theorem regKey_ne {o p : ObjDesc} {i j : Nat} (ha : o.addr ≠ p.addr) (hi : i < 2 ^ 32) (hj : j < 2 ^ 32) : regKey o i ≠ regKey p j := by
  unfold regKey
  omega

theorem regAt_of_dict_eq {s t : State} (h : t.dict = s.dict) (o : ObjDesc) (i : Nat) : t.regAt o i = s.regAt o i := by
  rw [State.regAt, State.regAt, h]

theorem regAt_setRegAt_self (s : State) (o : ObjDesc) (i : Nat) (v : Int) : (s.setRegAt o i v).regAt o i = v := by
  rw [State.regAt, State.setRegAt_dict, Tab.get_put_self]

theorem regAt_setRegAt_ne (s : State) {o p : ObjDesc} {i j : Nat} (v : Int) (h : regKey o i ≠ regKey p j) :
    (s.setRegAt p j v).regAt o i = s.regAt o i := by
  rw [State.regAt, State.setRegAt_dict, Tab.get_put_ne _ _ _ _ h, State.regAt]

theorem regAt_raiseReg_ne (s : State) {o p : ObjDesc} {i : Nat} (v : Int) (h : regKey o i ≠ regKey p 0) :
    (s.raiseReg p v).regAt o i = s.regAt o i := by
  unfold State.raiseReg
  extract_lets
  split
  · exact regAt_setRegAt_ne s _ h
  · rfl

/-- The one number object that a journal entry may write is the count of spilled entries. -/
theorem regAt_journal_ne (s : State) (d : JData) {o : ObjDesc} {i : Nat} (h : regKey o i ≠ regKey Obj.journalSpilled 0) :
    (s.journal d).regAt o i = s.regAt o i := by
  have hspill : ∀ (t : State) (l : List JEntry), (t.noteSpill l).regAt o i = t.regAt o i := by
    intro t l
    rw [← regAt_setRegAt_ne t _ h]
    refine regAt_of_dict_eq ?_ o i
    simp only [State.noteSpill]
    split
    · rfl
    · rw [State.milestoneEntry_dict, State.nandWrite_dict]
      rfl
  unfold State.journal
  split
  · rfl
  · exact hspill _ _

/-- An answer writes two number objects: the count of requests and the highest latency. -/
theorem regAt_answer_ne (s : State) (q : Sess) (tag : Nat) (a : Abort) (data : List Byte) (more : Bool) {o : ObjDesc} {i : Nat}
    (hr : regKey o i ≠ regKey Obj.dictRequests 0) (hl : regKey o i ≠ regKey Obj.dictLatencyMax 0) :
    (s.answer q tag a data more).regAt o i = s.regAt o i := by
  have hcount : ∀ n, (s.countAnswer n).regAt o i = s.regAt o i := fun n =>
    calc (s.countAnswer n).regAt o i
        = ((s.incr Obj.dictRequests).raiseReg Obj.dictLatencyMax _).regAt o i := regAt_of_dict_eq (State.milestoneSample_dict _ _ _) o i
      _ = (s.incr Obj.dictRequests).regAt o i := regAt_raiseReg_ne _ _ hl
      _ = s.regAt o i := regAt_setRegAt_ne s _ hr
  rw [State.answer, regAt_of_dict_eq (State.deliver_dict _ _ _ _ _ _), hcount]

/-! ### The section record -/

theorem sectionOf_lt (s : State) (q : Sess) : s.sectionOf q < 1024 := Nat.mod_lt _ (by decide)

theorem sectionObj_stored (w : SectionField) : (sectionObj w).acc = .rws := by cases w <;> rfl

/-- The fields of a section record have their places below those of every object from SectionMode on. -/
theorem sectionObj_key_ne (w : SectionField) (s : State) (q : Sess) {p : ObjDesc} (hp : 0x60100C ≤ p.addr) :
    regKey (sectionObj w) (s.sectionOf q) ≠ regKey p 0 := by
  have hlow : (sectionObj w).addr < 0x60100C := by cases w <;> decide
  have hi := sectionOf_lt s q
  exact regKey_ne (by omega) (by omega) (by decide)

/-- The record of a section rests on the dictionary alone. -/
theorem sectionRecordOk_of_dict_eq {s t : State} (h : t.dict = s.dict) (i : Nat) : t.sectionRecordOk i = s.sectionRecordOk i := by
  have hreg := regAt_of_dict_eq h
  have hregN : ∀ o, t.regN o = s.regN o := fun o => congrArg Int.toNat (hreg o 0)
  have hbit : ∀ j, t.secBit j = s.secBit j := fun j => congrArg Int.toNat (hreg Obj.sectionChainBit j)
  have henabled : t.secEnabled = s.secEnabled := funext fun j => by rw [State.secEnabled, State.secEnabled, hreg]
  have hfits : t.delayFits = s.delayFits := funext fun d => funext fun n => by
    rw [State.delayFits, State.delayFits, State.chainLatency, State.chainLatency, hregN, hregN]
  have hhorizon : t.reg Obj.lookAheadHorizon = s.reg Obj.lookAheadHorizon := hreg _ 0
  simp only [State.sectionRecordOk, State.enabledSections, hreg, hregN, hbit, henabled, hfits, hhorizon]

/-- The state once a field of a section's record is stored: an image that is all OFF follows the new record. -/
def State.recordStored (s : State) (i : Nat) (w : SectionField) (v : Int) : State :=
  let t := s.storeNum (sectionObj w) i v
  if t.kerb.chain.allOff then t.updChain (fun c => { c with image := t.offImage }) else t

theorem regAt_recordStored (s : State) (q : Sess) (w : SectionField) (v : Int) :
    (s.recordStored (s.sectionOf q) w v).regAt (sectionObj w) (s.sectionOf q) = v := by
  have hstored : (s.storeNum (sectionObj w) (s.sectionOf q) v).regAt (sectionObj w) (s.sectionOf q) = v := by
    rw [State.storeNum, regAt_journal_ne _ _ (sectionObj_key_ne w s q (by decide)), regAt_setRegAt_self]
  unfold State.recordStored
  extract_lets
  split
  · exact (regAt_of_dict_eq (State.updChain_dict _ _) _ _).trans hstored
  · exact hstored

/-- R226, R227: a field of a record that is taken is stored with its value, and the write is answered without error. -/
theorem sectionRecordWrite_taken {s : State} {q : Sess} {w : SectionField} {v : Int} (h : s.takesWrite q (sectionObj w) v)
    (hoff : (s.sec (s.sectionOf q)).state = .off)
    (hok : (s.setRegAt (sectionObj w) (s.sectionOf q) v).sectionRecordOk (s.sectionOf q) = true)
    (hroom : s.shadowHolds (.storedNum (regKey (sectionObj w) (s.sectionOf q)) v) = true) :
    ∃ u, s.noteInput.sectionRecordWrite q w v = s.acked u q [] ∧ u.regAt (sectionObj w) (s.sectionOf q) = v := by
  obtain ⟨b, hb⟩ : ∃ b, b = s.begun q (sectionObj w) (encodeValue (sectionObj w) v) := ⟨_, rfl⟩
  have hsec : b.sectionOf q = s.sectionOf q := by rw [State.sectionOf, hb, begun_instanceOf, State.sectionOf]
  have hoff' : (b.sec (s.sectionOf q)).state = .off := by rw [State.sec, hb, State.begun_kerb]; exact hoff
  have hok' : (b.setRegAt (sectionObj w) (s.sectionOf q) v).sectionRecordOk (s.sectionOf q) = true := by
    rw [← hok]
    exact sectionRecordOk_of_dict_eq (by rw [State.setRegAt_dict, State.setRegAt_dict, hb, State.begun_dict]) _
  have hroom' : b.shadowHolds (.storedNum (regKey (sectionObj w) (s.sectionOf q)) v) = true := by
    rw [← hroom, State.shadowHolds, State.storePending, hb, State.begun_store]
    rfl
  refine ⟨b.recordStored (s.sectionOf q) w v, ?_, ?_⟩
  · rw [← ownWrite_ready h.1 (fun s => s.sectionRecordWrite q w v)]
    unfold State.sectionRecordWrite
    rw [writeCommand_taken h]
    simp only [← hb, hsec, hoff', hok', hroom', State.applyNum, sectionObj_stored, ne_eq, not_true_eq_false, if_false, if_true,
      Bool.not_true, Bool.false_eq_true]
    rfl
  · rw [← hsec]
    exact regAt_recordStored b q w v

/-- R430: a write that changes a field of a section record makes the device description due. -/
theorem sectionRecordWrite_ddDue {s : State} {q : Sess} {w : SectionField} {v : Int} (h : s.takesWrite q (sectionObj w) v)
    (hoff : (s.sec (s.sectionOf q)).state = .off)
    (hok : (s.setRegAt (sectionObj w) (s.sectionOf q) v).sectionRecordOk (s.sectionOf q) = true)
    (hroom : s.shadowHolds (.storedNum (regKey (sectionObj w) (s.sectionOf q)) v) = true)
    (hnew : v ≠ s.regAt (sectionObj w) (s.sectionOf q)) :
    ∃ t, exec (.sectionRecordWrite q w v) s = .next (s.settled t) ∧ t.net.iso.ddDue = true := by
  obtain ⟨u, hwrite, hval⟩ := sectionRecordWrite_taken h hoff hok hroom
  have hsec : s.noteInput.sectionOf q = s.sectionOf q := by
    rw [State.sectionOf, sameChecks_instanceOf (noteInput_sameChecks s q), State.sectionOf]
  have hold : s.noteInput.regAt (sectionObj w) (s.sectionOf q) = s.regAt (sectionObj w) (s.sectionOf q) :=
    regAt_of_dict_eq (State.noteInput_dict s) _ _
  have hnow : (s.acked u q []).regAt (sectionObj w) (s.sectionOf q) = v := by
    rw [State.acked, regAt_answer_ne _ _ _ _ _ _ (sectionObj_key_ne w s q (by decide)) (sectionObj_key_ne w s q (by decide)), hval]
  refine ⟨(s.acked u q []).noteDd, ?_, rfl⟩
  rw [exec_sectionRecordWrite, ownWrite_ready h.1, State.recordWrite, hwrite, hsec, hold, hnow, if_neg hnew]

/-! ### A rover whose device description is up to date -/

/-- A unit in ROVER with every object at its default, no section enabled, its device description uploaded and the host's session open. -/
def describedRover : State :=
  ({ State.reset with
    mode := { State.reset.mode with current := .rover, role := some .rover }
    net := { State.reset.net with iso := { State.reset.net.iso with ddDue := false } } } : State).updSession .host (fun x => { x with open_ := true })

theorem describedRover_takes_onDelay : describedRover.takesWrite .host (sectionObj .onDelay) 7 := by
  unfold State.takesWrite State.ready
  decide +kernel

/-- Nothing waits in the save shadow, so one more number fits whatever the overhead of an entry. -/
theorem describedRover_shadowHolds (k : Nat) (v : Int) : describedRover.shadowHolds (.storedNum k v) = true := by
  have hover := Config.storedOverhead.isLt
  have hnone : describedRover.storePending = [] := rfl
  simp only [State.shadowHolds, hnone, JData.storedBytesLen, List.map_nil, List.foldl_nil, decide_eq_true_eq]
  omega

end Sys2Proof.Machine

open Sys2Proof.Machine

/-- Refutes O33: a host that sets SectionOnDelay of section 0 from 0 to 7 on `describedRover` meets every hypothesis of the clause on a
record that is taken, and the device description falls due (R430); the clause's frame leaves `net`, which holds that flag, unchanged. -/
theorem not_sectionChain : ¬ Obligations.SectionChain := by
  unfold Obligations.SectionChain
  rintro ⟨-, -, -, -, -, -, -, -, hrecord, -⟩
  have hoff : (describedRover.sec (describedRover.sectionOf .host)).state = .off := rfl
  have hok : (describedRover.setRegAt (sectionObj .onDelay) (describedRover.sectionOf .host) 7).sectionRecordOk
      (describedRover.sectionOf .host) = true := by decide
  have hnew : (7 : Int) ≠ describedRover.regAt (sectionObj .onDelay) (describedRover.sectionOf .host) := by decide
  have hroom := describedRover_shadowHolds (regKey (sectionObj .onDelay) (describedRover.sectionOf .host)) 7
  obtain ⟨u, hclaim, hframe, -, -⟩ := hrecord describedRover .host .onDelay 7 describedRover_takes_onDelay hoff hok hroom
  obtain ⟨t, hexec, hdue⟩ := sectionRecordWrite_ddDue describedRover_takes_onDelay hoff hok hroom hnew
  have hsame : describedRover.settled t = describedRover.settled (describedRover.acked u .host []) :=
    Host.Outcome.next.inj (hexec.symm.trans hclaim)
  have hnet : t.net = describedRover.net :=
    calc t.net = (describedRover.settled t).net := (settled_net _ _).symm
      _ = (describedRover.acked u .host []).net := by rw [hsame, settled_net]
      _ = u.net := State.answer_net _ _ _ _ _ _
      _ = describedRover.net := (hframe .net rfl).symm
  have hclear : describedRover.net.iso.ddDue = false := rfl
  rw [hnet, hclear] at hdue
  exact Bool.false_ne_true hdue
end

section
/-!
PROOF. The Milestone recorder (R551 to R554, R556): what an entry and a sample do to the bank in use, when the shadow goes to a home
copy, and what a freeze, its end and a clear leave.
-/
namespace Sys2Proof.Machine

/-! ### Banks -/

/-- A change at a key shows at that key and at no other. -/
theorem Tab.get_update {α : Type} [DecidableEq α] (d : α) (t : Tab α) (k j : Nat) (f : α → α) :
    Tab.get d (Tab.update d t k f) j = if j = k then f (Tab.get d t k) else Tab.get d t j := by
  unfold Tab.update
  split
  next h => rw [h, Tab.get_put_self]
  next h => exact Tab.get_put_ne d d t _ h

theorem MilestoneBank.get_hist_sample (b : MilestoneBank) (item bin k : Nat) : Tab.get 0 (b.sample item bin).hist k =
    if k = 16 * item + bin then min (Tab.get 0 b.hist k + 1) 0xFFFFFFFF else Tab.get 0 b.hist k := by
  rw [MilestoneBank.sample, Tab.get_update, Nat.mul_comm item 16]
  split
  next h => rw [h, sat32]
  next => rfl

/-- R551: the value lies within the extreme that it was judged against, and a bound that it moves takes its stamp. -/
theorem MilestoneBank.get_ext_extreme (b : MilestoneBank) (item : Nat) (v : Int) (at_ : Stamp) :
    ∃ x, Tab.get none (b.extreme item v at_).ext item = some x ∧ x.min ≤ v ∧ v ≤ x.max ∧
      (∀ y, Tab.get none b.ext item = some y → x.min = min y.min v ∧ x.max = max y.max v ∧ (y.min ≤ v → x.minAt = y.minAt) ∧
        (v < y.min → x.minAt = at_) ∧ (v ≤ y.max → x.maxAt = y.maxAt) ∧ (y.max < v → x.maxAt = at_)) := by
  simp only [MilestoneBank.extreme, Tab.get_update, if_true]
  cases Tab.get none b.ext item with
  | none => exact ⟨_, rfl, Int.le_refl v, Int.le_refl v, fun y hy => nomatch hy⟩
  | some y =>
    refine ⟨_, rfl, by grind, by grind, fun z hz => ?_⟩
    cases hz
    grind

theorem MilestoneBank.count_event (b : MilestoneBank) (c n k : Nat) (at_ : Stamp) :
    (b.event c n at_).count k = if k = c then n else b.count k := by
  simp only [MilestoneBank.count, MilestoneBank.event, Tab.get_update]
  by_cases h : k = c
  · simp only [if_pos h]
    cases Tab.get none b.cls c <;> rfl
  · simp only [if_neg h]

@[simp] theorem MilestoneBank.extreme_hist (b : MilestoneBank) (item : Nat) (v : Int) (at_ : Stamp) : (b.extreme item v at_).hist = b.hist := rfl

/-! ### The bank in use -/

/-- A stamp rests on the clock and the recorder. -/
theorem State.stamp_of_eq {s t : State} (hclk : t.clk = s.clk) (hrec : t.milestone = s.milestone) : t.stamp = s.stamp := by
  simp only [State.stamp, State.opSeconds, State.now, State.stampTime, State.time64, hclk, hrec]

/-- What a bank holds does not move the stamp. -/
@[simp] theorem State.stamp_updBank (s : State) (f : MilestoneBank → MilestoneBank) : (s.updBank f).stamp = s.stamp := by
  unfold State.updBank
  split <;> rfl

@[simp] theorem State.bank_updBank (s : State) (f : MilestoneBank → MilestoneBank) : (s.updBank f).bank = f s.bank := by
  unfold State.updBank State.bank
  split <;> simp_all

/-- Frozen, the visible items stay (R554). -/
theorem State.updBank_visible {s : State} (f : MilestoneBank → MilestoneBank) (h : s.milestone.frozen = true) :
    (s.updBank f).milestone.visible = s.milestone.visible := by
  rw [State.updBank, if_pos h]

/-- Not frozen, the pending bank stays. -/
theorem State.updBank_pendingBank {s : State} (f : MilestoneBank → MilestoneBank) (h : s.milestone.frozen = false) :
    (s.updBank f).milestone.pendingBank = s.milestone.pendingBank := by
  rw [State.updBank, h, if_neg Bool.false_ne_true]

@[simp] theorem State.stamp_milestoneSample (s : State) (item bin : Nat) : (s.milestoneSample item bin).stamp = s.stamp :=
  s.stamp_updBank _

@[simp] theorem State.bank_milestoneSample (s : State) (item bin : Nat) : (s.milestoneSample item bin).bank = s.bank.sample item bin :=
  s.bank_updBank _

@[simp] theorem State.bank_milestoneExtreme (s : State) (item : Nat) (v : Int) :
    (s.milestoneExtreme item v).bank = s.bank.extreme item v s.stamp :=
  s.bank_updBank _

/-- The quantities with an extreme: the sample counts in its bin. -/
theorem State.get_hist_sampleExtreme (s : State) (item bin e : Nat) (v : Int) (k : Nat) :
    Tab.get 0 ((s.milestoneSample item bin).milestoneExtreme e v).bank.hist k =
      if k = 16 * item + bin then min (Tab.get 0 s.bank.hist k + 1) 0xFFFFFFFF else Tab.get 0 s.bank.hist k := by
  rw [State.bank_milestoneExtreme, MilestoneBank.extreme_hist, State.bank_milestoneSample, MilestoneBank.get_hist_sample]

/-- The quantities with an extreme: the value is judged against it. -/
theorem State.get_ext_sampleExtreme (s : State) (item bin e : Nat) (v : Int) :
    ∃ x, Tab.get none ((s.milestoneSample item bin).milestoneExtreme e v).bank.ext e = some x ∧ x.min ≤ v ∧ v ≤ x.max ∧
      (∀ y, Tab.get none s.bank.ext e = some y → x.min = min y.min v ∧ x.max = max y.max v ∧ (y.min ≤ v → x.minAt = y.minAt) ∧
        (v < y.min → x.minAt = s.stamp) ∧ (v ≤ y.max → x.maxAt = y.maxAt) ∧ (y.max < v → x.maxAt = s.stamp)) := by
  rw [State.bank_milestoneExtreme, State.bank_milestoneSample, State.stamp_milestoneSample]
  exact (s.bank.sample item bin).get_ext_extreme e v s.stamp

/-- Log 14: short of the end of its U32 count, an entry needs no open value. -/
theorem State.milestoneEntry_counts {s : State} {c : Nat} (h : s.bank.count c + 1 < 2 ^ 32) :
    s.milestoneEntry c = s.updBank (fun b => b.event c (s.bank.count c + 1) s.stamp) := by
  rw [State.milestoneEntry]
  exact if_pos h

/-! ### Samples (R551) -/

theorem linearBin_eq (base width v : Int) : linearBin base width v = (max 0 (min 15 ((v - base) / width))).toNat := by
  unfold linearBin clampInt
  split
  · omega
  · split <;> omega

theorem cast_min_thousand (l : Nat) : ((min l 1000 : Nat) : Int) = min (l : Int) 1000 := by omega

theorem linearBin_load (l : Nat) : linearBin 0 625 (10 * min l 1000) = min 15 (min l 1000 * 10 / 625) := by
  rw [linearBin_eq]
  omega

/-- While the unit runs, items 0 to 3 are sampled once in each of their periods: the loads each second, the others each minute. -/
def State.sampleDue (s : State) (item : Nat) : Prop :=
  s.running = true ∧ item ≤ 3 ∧ s.periodDue (0x10 + item) (if item < 2 then ticksS 1 else ticksS 60) = true

theorem milestoneSampleRow_notDue {s : State} {item : Nat} (load : Nat) (h : ¬ s.sampleDue item) : s.milestoneSampleRow item load = s := by
  unfold State.milestoneSampleRow
  extract_lets p
  refine if_pos ?_
  unfold State.sampleDue at h
  simp only [Bool.or_eq_true, Bool.not_eq_true', decide_eq_true_eq]
  grind

section
variable {s : State} (load : Nat)

theorem milestoneSampleRow_coreLoad (h : s.sampleDue 0) : s.milestoneSampleRow 0 load =
    (((s.periodTaken 0x10 (ticksS 1)).setReg Obj.coreLoad (min load 1000 : Nat)).milestoneSample 0
      (min 15 (min load 1000 * 10 / 625))).milestoneExtreme 0x44 (min load 1000 : Nat) := by
  obtain ⟨hrun, -, hper⟩ := h
  rw [cast_min_thousand, ← linearBin_load, State.milestoneSampleRow, hrun]
  exact if_neg (by simpa using hper)

theorem milestoneSampleRow_rtLoad (h : s.sampleDue 1) : s.milestoneSampleRow 1 load =
    ((s.periodTaken 0x11 (ticksS 1)).setReg Obj.rtLoad (min load 1000 : Nat)).milestoneSample 1
      (min 15 (min load 1000 * 10 / 625)) := by
  obtain ⟨hrun, -, hper⟩ := h
  rw [cast_min_thousand, ← linearBin_load, State.milestoneSampleRow, hrun]
  exact if_neg (by simpa using hper)

theorem milestoneSampleRow_dieTemperature (h : s.sampleDue 2) : s.milestoneSampleRow 2 load =
    ((s.periodTaken 0x12 (ticksS 60)).milestoneSample 2 (max 0 (min 15 ((s.reg Obj.dieTemperature + 40000) / 10000))).toNat).milestoneExtreme
      0x40 (s.reg Obj.dieTemperature) := by
  obtain ⟨hrun, -, hper⟩ := h
  rw [← Int.sub_neg, ← linearBin_eq, State.milestoneSampleRow, hrun]
  exact if_neg (by simpa using hper)

theorem milestoneSampleRow_vsns (h : s.sampleDue 3) : s.milestoneSampleRow 3 load =
    ((s.periodTaken 0x13 (ticksS 60)).milestoneSample 3 (max 0 (min 15 ((s.power.vsns : Int) / 2500))).toNat).milestoneExtreme
      0x41 s.power.vsns := by
  obtain ⟨hrun, -, hper⟩ := h
  rw [← Int.sub_zero (s.power.vsns : Int), ← linearBin_eq, Int.sub_zero, State.milestoneSampleRow, hrun]
  exact if_neg (by simpa using hper)

theorem milestoneSampleRow_frame (item : Nat) : State.changesOnly [.milestone, .dict, .periods] s (s.milestoneSampleRow item load) := by
  unfold State.milestoneSampleRow
  extract_lets p t
  have ht : State.changesOnly [.periods] s t := only_periods s _
  refine changesOnly_ite (changesOnly_refl _ s) ?_
  split
  · exact (((ht.seq (t.setReg_frame _ _)).seq (State.milestoneSample_frame _ _ _)).seq (State.milestoneExtreme_frame _ _ _)).within (by decide)
  · exact ((ht.seq (t.setReg_frame _ _)).seq (State.milestoneSample_frame _ _ _)).within (by decide)
  · exact ((ht.seq (t.milestoneSample_frame _ _)).seq (State.milestoneExtreme_frame _ _ _)).within (by decide)
  · exact ((ht.seq (t.milestoneSample_frame _ _)).seq (State.milestoneExtreme_frame _ _ _)).within (by decide)
  · exact ht.within (by decide)

end

/-! ### The home copies (R553) -/

/-- Operation has reached a period of 6 h that neither home copy holds. -/
def State.homeDue (s : State) : Prop :=
  s.operating = true ∧ s.opSeconds / 21600 ≠ 0 ∧
    ∀ h, s.milestone.home0 = some h ∨ s.milestone.home1 = some h → h.opSeconds / 21600 < s.opSeconds / 21600

/-- The shadow with the next number of the sequence counter in the first or the second home copy. -/
def State.homeCopied (s : State) (second : Bool) : State :=
  { s with
    store := { s.store with seq := s.store.seq + 1 }
    milestone := if second then { s.milestone with home1 := some (s.milestoneHome s.store.seq) }
                 else { s.milestone with home0 := some (s.milestoneHome s.store.seq) } }

/-- What keeps the command from writing a copy is the negation of being due. -/
theorem homeWrite_blocked_iff (s : State) : (!s.operating || decide (s.opSeconds / (6 * 3600) = 0) ||
      (s.milestone.home0.toList ++ s.milestone.home1.toList).any (fun h => decide (s.opSeconds / (6 * 3600) ≤ h.opSeconds / (6 * 3600)))) = true ↔
    ¬ s.homeDue := by
  simp only [Bool.or_eq_true, Bool.not_eq_true', decide_eq_true_eq, List.any_eq_true, List.mem_append, Option.mem_toList, State.homeDue]
  grind

theorem milestoneHomeWrite_notDue {s : State} (h : ¬ s.homeDue) : s.milestoneHomeWrite = s :=
  if_pos ((homeWrite_blocked_iff s).mpr h)

/-- The copy that is not the newest is written; with the first one missing, that one. -/
theorem milestoneHomeWrite_due {s : State} (h : s.homeDue) : ∃ second, s.milestoneHomeWrite = s.homeCopied second ∧
    (∀ a b, s.milestone.home0 = some a → s.milestone.home1 = some b → second = decide (b.seq < a.seq)) ∧
    (s.milestone.home0 = none → second = false) := by
  refine ⟨_, if_neg (mt (homeWrite_blocked_iff s).mp (not_not_intro h)), fun a b ha hb => ?_, fun h0 => ?_⟩
  · simp [ha, hb]
  · simp [h0]

theorem State.homeCopied_frame (s : State) (second : Bool) : State.changesOnly [.store, .milestone] s (s.homeCopied second) :=
  State.changesOnly.seq (t := { s with store := { s.store with seq := s.store.seq + 1 } }) (only_store s _) (only_milestone _ _)

/-! ### Writes (R554, R556) -/

/-- The state once a value has gone into MilestoneFreeze. -/
def State.freezeWritten (s : State) (q : Sess) (v : Int) : State :=
  (s.begun q Obj.milestoneFreeze (encodeValue Obj.milestoneFreeze v)).setReg Obj.milestoneFreeze v

theorem State.freezeWritten_frame (s : State) (q : Sess) (v : Int) : State.changesOnly [.dict, .zheoc, .sessions] s (s.freezeWritten q v) :=
  ((s.begun_frame _ _ _).seq (State.setReg_frame _ _ _)).within (by decide)

theorem State.freezeWritten_reg (s : State) (q : Sess) (v : Int) : (s.freezeWritten q v).reg Obj.milestoneFreeze = v :=
  regAt_setRegAt_self _ _ _ _

theorem State.freezeWritten_milestone (s : State) (q : Sess) (v : Int) : (s.freezeWritten q v).milestone = s.milestone :=
  (s.freezeWritten_frame q v .milestone rfl).symm

theorem State.freezeWritten_now (s : State) (q : Sess) (v : Int) : (s.freezeWritten q v).now = s.now :=
  begun_now s q _ _

/-- R554: a freeze of what is frozen already leaves the recorder alone. -/
theorem exec_milestoneFreeze_taken {s : State} {q : Sess} (h : s.takesWrite q Obj.milestoneFreeze 1) : exec (.milestoneFreeze q) s =
    .next (s.settled (s.acked (if s.milestone.frozen = true then s.freezeWritten q 1 else
      { s.freezeWritten q 1 with
        milestone := { s.milestone with frozen := true, freezeDue := some (s.now + 120000000000) } }) q [])) := by
  refine wrote (exec_milestoneFreeze q s) h ?_
  change Except.ok (if (s.freezeWritten q 1).milestone.frozen = true then s.freezeWritten q 1 else
    { s.freezeWritten q 1 with milestone :=
      { (s.freezeWritten q 1).milestone with frozen := true, freezeDue := (s.freezeWritten q 1).after (ticksS 60) } }) = _
  rw [State.after, State.freezeWritten_now, State.freezeWritten_milestone]
  rfl

/-- R554: with nothing frozen there is nothing to merge. -/
theorem exec_milestoneUnfreeze_taken {s : State} {q : Sess} (h : s.takesWrite q Obj.milestoneFreeze 0) : exec (.milestoneUnfreeze q) s =
    .next (s.settled (s.acked (if s.milestone.frozen = true then (s.freezeWritten q 0).mergeBanks else s.freezeWritten q 0) q [])) := by
  rw [← State.freezeWritten_milestone s q 0]
  exact wrote (exec_milestoneUnfreeze q s) h rfl

theorem State.mergeBanks_frame (s : State) : State.changesOnly [.milestone] s s.mergeBanks := only_milestone s _

theorem milestoneFreezeExpiry_notDue {s : State} (h : s.milestone.frozen = false ∨ s.due s.milestone.freezeDue = false) :
    s.milestoneFreezeExpiry = s :=
  if_pos (by rcases h with h | h <;> simp [h])

theorem milestoneFreezeExpiry_due {s : State} (hf : s.milestone.frozen = true) (hd : s.due s.milestone.freezeDue = true) :
    s.milestoneFreezeExpiry = { s.mergeBanks with milestone := { s.mergeBanks.milestone with expired := true } } :=
  if_neg (by simp [hf, hd])

/-- The state once both banks are emptied, from the state in which the clear is in service. -/
def State.banksCleared (s : State) (q : Sess) : State :=
  { s.begun q Obj.milestoneClear (encodeValue Obj.milestoneClear 0x4D) with
    milestone := { s.milestone with visible := MilestoneBank.empty, pendingBank := MilestoneBank.empty, since := s.stamp } }

theorem exec_milestoneClear_taken {s : State} {q : Sess} (h : s.takesWrite q Obj.milestoneClear 0x4D) :
    exec (.milestoneClear q 0x4D) s = .next (s.settled (s.acked (s.banksCleared q) q [])) := by
  refine wrote (exec_milestoneClear q 0x4D s) h ?_
  have hm := State.begun_milestone s q Obj.milestoneClear (encodeValue Obj.milestoneClear 0x4D)
  have hstamp := State.stamp_of_eq (State.begun_clk s q Obj.milestoneClear (encodeValue Obj.milestoneClear 0x4D)) hm
  rw [State.banksCleared, ← hm, ← hstamp]

theorem State.banksCleared_frame (s : State) (q : Sess) : State.changesOnly [.milestone, .zheoc, .sessions] s (s.banksCleared q) :=
  ((s.begun_frame _ _ _).seq (only_milestone _ _)).within (by decide)

/-- A write that passes the checks of its object is refused where its value is out of range (R534). -/
theorem writeCommand_outOfRange {s : State} {q : Sess} {o : ObjDesc} {v : Int} (hready : s.ready q) (hcheck : s.objCheck q o true = none)
    (hval : s.valueOk o (s.instanceOf q o) v = false) (act : State → Except Abort State) :
    s.ownWrite q (fun s => s.writeCommand q o v act) = s.nacked (s.begun q o (encodeValue o v)) q abortRange := by
  have hb := begun_sameChecks s q o (encodeValue o v)
  have hserve : s.noteInput.serve q 2 o (encodeValue o v) = s.begun q o (encodeValue o v) := rfl
  have ⟨_, _, _, hreach⟩ := hready
  rw [ownWrite_ready hready, State.writeCommand, sameChecks_reaches (noteInput_sameChecks s q), hreach]
  simp only [hserve, sameChecks_objCheck hb, hcheck, sameChecks_valueOk hb, sameChecks_instanceOf hb, hval, sameChecks_ownTag hb,
    Bool.not_true, Bool.false_eq_true, Bool.not_false, if_false, if_true, State.nacked]

/-- R556: MilestoneClear takes 0x004D alone. -/
theorem milestoneClear_valueOk {s : State} {i : Nat} {v : Int} (h : v ≠ 0x4D) : s.valueOk Obj.milestoneClear i v = false := by
  have hrange : rangeHolds Obj.milestoneClear.rng v = false := by simpa [rangeHolds, Obj.milestoneClear, obj] using h
  rw [State.valueOk, hrange, Bool.and_false, Bool.false_and]

end Sys2Proof.Machine

open Sys2Proof.Machine

/-- Settles O49: each command's effect is the lemma on it above; a sample and an entry act on the bank in use alone. -/
theorem milestoneRecorder : Obligations.MilestoneRecorder := by
  unfold Obligations.MilestoneRecorder
  refine ⟨?sampleNotDue, ?sampleDue, ?homeNotDue, ?homeDue, ?freeze, ?unfreeze, ?freezeAgain, ?unfreezeIdle, ?expiryNotDue, ?expiry,
    ?entry, rfl, rfl, ?clear, ?clearRefused⟩
  case sampleNotDue =>
    intro s n l hidle
    rw [exec_milestoneSample, milestoneSampleRow_notDue]
    rintro ⟨hrun, hitem, hper⟩
    rcases hidle with hstopped | hnone | hearly
    · exact Bool.false_ne_true (hstopped.symm.trans hrun)
    · omega
    · exact Bool.false_ne_true (hearly.symm.trans hper)
  case sampleDue =>
    intro s n l bin v hrun hper hitem
    refine ⟨_, exec_milestoneSample n l s, milestoneSampleRow_frame l n, ?_⟩
    have hdue : n ≤ 3 → s.sampleDue n := fun hn => ⟨hrun, hn, hper⟩
    rcases hitem with ⟨rfl, rfl, rfl⟩ | ⟨rfl, rfl⟩ | ⟨rfl, rfl, rfl⟩ | ⟨rfl, rfl, rfl⟩
    · rw [milestoneSampleRow_coreLoad l (hdue (by decide))]
      refine ⟨by omega, fun _ => ?_, by omega, State.get_hist_sampleExtreme _ _ _ _ _, ?_⟩
      · exact (regAt_of_dict_eq ((State.milestoneExtreme_dict _ _ _).trans (State.milestoneSample_dict _ _ _)) _ _).trans
          (regAt_setRegAt_self _ _ _ _)
      · rintro e rfl -
        exact State.get_ext_sampleExtreme _ _ _ _ _
    · rw [milestoneSampleRow_rtLoad l (hdue (by decide))]
      refine ⟨by omega, by omega, fun _ => ?_, fun k => ?_, fun _ _ h => absurd rfl h⟩
      · exact (regAt_of_dict_eq (State.milestoneSample_dict _ _ _) _ _).trans (regAt_setRegAt_self _ _ _ _)
      · rw [State.bank_milestoneSample]
        exact MilestoneBank.get_hist_sample _ _ _ _
    · rw [milestoneSampleRow_dieTemperature l (hdue (by decide))]
      refine ⟨fun _ => ?_, by omega, by omega, State.get_hist_sampleExtreme _ _ _ _ _, ?_⟩
      · exact (State.milestoneExtreme_dict _ _ _).trans (State.milestoneSample_dict _ _ _)
      · rintro e rfl -
        exact State.get_ext_sampleExtreme _ _ _ _ _
    · rw [milestoneSampleRow_vsns l (hdue (by decide))]
      refine ⟨fun _ => ?_, by omega, by omega, State.get_hist_sampleExtreme _ _ _ _ _, ?_⟩
      · exact (State.milestoneExtreme_dict _ _ _).trans (State.milestoneSample_dict _ _ _)
      · rintro e rfl -
        exact State.get_ext_sampleExtreme _ _ _ _ _
  case homeNotDue =>
    intro s hidle
    rw [exec_milestoneHomeWrite, milestoneHomeWrite_notDue]
    rintro ⟨hop, hsec, hold⟩
    rcases hidle with hstopped | hfirst | ⟨h, hcopy, hheld⟩
    · exact Bool.false_ne_true (hstopped.symm.trans hop)
    · exact hsec hfirst
    · exact absurd (hold h hcopy) (Nat.not_lt.mpr hheld)
  case homeDue =>
    intro s hop hsec hold h
    obtain ⟨second, hwrite, hboth, hnone⟩ := milestoneHomeWrite_due ⟨hop, hsec, hold⟩
    refine ⟨s.homeCopied second, by rw [exec_milestoneHomeWrite, hwrite], s.homeCopied_frame second, rfl, fun a b ha hb _ => ?_, fun h0 => ?_⟩
    · simp only [hboth a b ha hb, State.homeCopied, decide_eq_true_eq]
      rfl
    · rw [hnone h0]
      rfl
  case freeze =>
    intro s q h hf
    refine ⟨_, exec_milestoneFreeze_taken h, ?_⟩
    rw [hf, if_neg Bool.false_ne_true]
    exact ⟨((s.freezeWritten_frame q 1).seq (only_milestone _ _)).within (by decide), rfl, s.freezeWritten_reg q 1⟩
  case unfreeze =>
    intro s q h hf
    refine ⟨_, exec_milestoneUnfreeze_taken h, ?_⟩
    rw [hf, if_pos rfl]
    refine ⟨((s.freezeWritten_frame q 0).seq (State.mergeBanks_frame _)).within (by decide), ?_⟩
    rw [State.mergeBanks, State.freezeWritten_milestone]
  case freezeAgain =>
    intro s q h hf
    refine ⟨_, exec_milestoneFreeze_taken h, ?_⟩
    rw [hf, if_pos rfl]
    exact ⟨s.freezeWritten_frame q 1, s.freezeWritten_reg q 1⟩
  case unfreezeIdle =>
    intro s q h hf
    refine ⟨_, exec_milestoneUnfreeze_taken h, ?_⟩
    rw [hf, if_neg Bool.false_ne_true]
    exact ⟨s.freezeWritten_frame q 0, s.freezeWritten_reg q 0⟩
  case expiryNotDue =>
    intro s hidle
    rw [exec_milestoneFreezeExpiry, milestoneFreezeExpiry_notDue hidle]
  case expiry =>
    intro s hf hd
    refine ⟨_, exec_milestoneFreezeExpiry s, ?_⟩
    rw [milestoneFreezeExpiry_due hf hd]
    exact ⟨(s.mergeBanks_frame.seq (only_milestone _ _)).within (by decide), rfl, rfl, rfl, rfl⟩
  case entry =>
    intro s c k f hf hcount t
    have ht : t = s.updBank (fun b => b.event c (s.bank.count c + 1) s.stamp) := State.milestoneEntry_counts hcount
    rw [ht, State.bank_updBank, MilestoneBank.count_event, MilestoneBank.count_event, if_pos rfl]
    refine ⟨rfl, fun hk => if_neg hk, ?_, ?_⟩
    · rintro rfl
      exact State.updBank_visible _ hf
    · rintro rfl
      exact State.updBank_pendingBank _ hf
  case clear =>
    intro s q h
    exact ⟨s.banksCleared q, exec_milestoneClear_taken h, s.banksCleared_frame q, rfl⟩
  case clearRefused =>
    intro s q v hready hcheck hv
    rw [exec_milestoneClear]
    exact congrArg (fun t => Host.Outcome.next (s.settled t)) (writeCommand_outOfRange hready hcheck (milestoneClear_valueOk hv) _)
end

section
/-!
PROOF. The pair of redundant bases (R591 to R593, R598, R599, R601): what a settled state drives on HALT_OUT and on the radio's lands,
what a trigger to HALT leaves alone at a base, what a unit that takes over becomes, and each command of the failover.
-/
namespace Sys2Proof.Machine

/-! ### Time and the lands after a command -/

theorem State.now_of_clk_eq {s t : State} (h : t.clk = s.clk) : t.now = s.now := by
  rw [State.now, State.now, h]

/-- The copy of capture records stands in the clock's part of the state, and C does not follow it. -/
theorem State.drainEvt_now (s : State) : s.drainEvt.now = s.now := by
  show (drainBacklog (s.regN Obj.evtHostQueue) s.clk.evtCopy.backlog s).2.now = s.now
  exact State.now_of_clk_eq (drainBacklog_frame _ _ s .clk rfl).symm

theorem State.drainCopies_now (s : State) : s.drainCopies.now = s.now :=
  calc s.drainCopies.now
      = s.drainNav.drainObs.drainRtcm.drainEvt.now := State.now_of_clk_eq (State.drainIntervals_clk _)
    _ = s.drainNav.drainObs.drainRtcm.now := State.drainEvt_now _
    _ = s.now := State.now_of_clk_eq (by simp only [State.drainRtcm_clk, State.drainObs_clk, State.drainNav_clk])

theorem State.goOn_now (s : State) : s.goOn.now = s.now := by
  unfold State.goOn
  split
  · rfl
  split
  · exact State.now_of_clk_eq (bootReads_frame s .clk rfl).symm
  · refine Eq.trans (State.now_of_clk_eq ?_) (State.drainCopies_now s)
    have hpump := changesOnly_foldl (ps := [.remotes, .radio, .dict, .milestone, .sessions, .mbox, .host])
      (f := fun s (r : RemoteRequest) => if r.slot < 1000 then s.pumpRemote r.slot else s)
      (fun s r => changesOnly_ite (s.pumpRemote_frame r.slot) (changesOnly_refl _ s))
    refine (hpump _ _ .clk rfl).symm.trans ?_
    simp only [State.sendReply_clk, State.ageUses_clk, State.sendAnswer_clk]

/-- The state after a command on s with the effect t, with what follows at once, before its lands are set. -/
def State.unlanded (s t : State) : State := ((t.goOn.noteHaltEntry s).noteLinks s).noteStatus s

theorem State.unlanded_frame (s t : State) : State.changesOnly (followParts ++ [.boot, .store]) t (s.unlanded t) :=
  ((((goOn_frame t).seq (State.noteHaltEntry_frame _ s)).seq (State.noteLinks_frame _ s)).seq (State.noteStatus_frame _ s)).within (by decide)

theorem State.unlanded_now (s t : State) : (s.unlanded t).now = t.now :=
  (State.now_of_clk_eq (by simp only [State.unlanded, State.noteStatus_clk, State.noteLinks_clk, State.noteHaltEntry_clk])).trans (State.goOn_now t)

theorem State.settled_outputs_eq (s t : State) : (s.settled t).outputs = (s.unlanded t).outputsNow := rfl

theorem State.haltOut_congr {s t : State} (hmode : t.mode = s.mode) (hzheoc : t.zheoc = s.zheoc) (hnow : t.now = s.now) :
    t.haltOut = s.haltOut := by
  simp only [State.haltOut, hmode, hzheoc, hnow]

theorem State.radioDrives_congr {s t : State} (hmode : t.mode = s.mode) (hzheoc : t.zheoc = s.zheoc) : t.radioDrives = s.radioDrives := by
  simp only [State.radioDrives, hmode, hzheoc]

section
variable (s t : State)

theorem State.unlanded_haltOut : (s.unlanded t).haltOut = t.haltOut :=
  State.haltOut_congr (State.unlanded_frame s t .mode rfl).symm (State.unlanded_frame s t .zheoc rfl).symm (State.unlanded_now s t)

theorem State.unlanded_radioDrives : (s.unlanded t).radioDrives = t.radioDrives :=
  State.radioDrives_congr (State.unlanded_frame s t .mode rfl).symm (State.unlanded_frame s t .zheoc rfl).symm

theorem State.unlanded_outputs : (s.unlanded t).outputs = t.outputs := (State.unlanded_frame s t .outputs rfl).symm

theorem State.settled_haltOutA : (s.settled t).outputs.haltOutA = leave t.outputs.haltOutA t.haltOut .high := by
  rw [State.settled_outputs_eq, State.outputsNow, State.unlanded_haltOut, State.unlanded_outputs]

theorem State.settled_haltOutB : (s.settled t).outputs.haltOutB = leave t.outputs.haltOutB t.haltOut .high := by
  rw [State.settled_outputs_eq, State.outputsNow, State.unlanded_haltOut, State.unlanded_outputs]

theorem State.settled_radioLead : (s.settled t).outputs.radio = leadNext t.outputs.radio t.radioDrives := by
  rw [State.settled_outputs_eq, State.outputsNow, State.unlanded_radioDrives, State.unlanded_outputs]

variable {t}

theorem State.settled_paEn_hiZ (h : t.radioDrives = false) : (s.settled t).outputs.paEnA = .hiZ ∧ (s.settled t).outputs.paEnB = .hiZ := by
  rw [State.settled_outputs_eq, State.outputsNow, State.unlanded_radioDrives, h]
  exact ⟨rfl, rfl⟩

theorem State.settled_ppsOut_hiZ (h : t.zheoc.fenced = true) : (s.settled t).outputs.ppsOut = .hiZ := by
  rw [State.settled_outputs_eq, State.outputsNow, ← State.unlanded_frame s t .zheoc rfl, h, Bool.or_true]
  rfl

end

theorem leave_hiZ (old failSafe : Drive) : leave old .hiZ failSafe = .hiZ := by cases old <;> rfl

theorem leave_low (old : Drive) : leave old .low .high = if old = .hiZ then .high else .low := by cases old <;> rfl

theorem leave_high (old : Drive) : leave old .high .high = .high := by cases old <;> rfl

theorem leadNext_false (old : Lead) : leadNext old false = .hiZ := by cases old <;> rfl

/-! ### HALT_OUT (R47, R592, R598, R601) -/

section
variable {s : State} (hclock : s.mode.clockFail = none)
include hclock

theorem State.haltOut_held (hmode : s.mode.current = .base ∨ s.mode.current = .halt)
    (hheld : s.zheoc.haltOutFrom.isSome = true ∨ s.zheoc.fenced = true) : s.haltOut = .hiZ := by
  have hor : (s.zheoc.haltOutFrom.isSome || s.zheoc.fenced) = true := by simpa using hheld
  unfold State.haltOut
  rcases hmode with hm | hm <;> simp [hclock, hm, hor]

theorem State.haltOut_base (hmode : s.mode.current = .base) (hfrom : s.zheoc.haltOutFrom = none) (hfence : s.zheoc.fenced = false) :
    s.haltOut = .low := by
  simp [State.haltOut, hclock, hmode, hfrom, hfence]

theorem State.haltOut_halt (hmode : s.mode.current = .halt) (hfrom : s.zheoc.haltOutFrom = none) (hfence : s.zheoc.fenced = false) :
    s.haltOut = .high := by
  simp [State.haltOut, hclock, hmode, hfrom, hfence]

theorem State.haltOut_standby {n : Nat} (hmode : s.mode.current = .standby) (huntil : s.zheoc.haltOutUntil = some n) (hn : s.now < n) :
    s.haltOut = .low := by
  simp [State.haltOut, hclock, hmode, huntil, hn]

end

theorem State.radioDrives_fenced {s : State} (hfence : s.zheoc.fenced = true) : s.radioDrives = false := by
  unfold State.radioDrives
  split <;> simp [hfence]

section
variable (s : State) {t : State} (hclock : t.mode.clockFail = none)
include hclock

/-- A base or a halted unit that is held back leaves both lands Hi-Z. -/
theorem State.settled_haltOut_held (hmode : t.mode.current = .base ∨ t.mode.current = .halt)
    (hheld : t.zheoc.haltOutFrom.isSome = true ∨ t.zheoc.fenced = true) :
    (s.settled t).outputs.haltOutA = .hiZ ∧ (s.settled t).outputs.haltOutB = .hiZ := by
  rw [State.settled_haltOutA, State.settled_haltOutB, State.haltOut_held hclock hmode hheld]
  exact ⟨leave_hiZ _ _, leave_hiZ _ _⟩

/-- A base drives both lands low, those that leave Hi-Z high first (R73). -/
theorem State.settled_haltOut_base (hmode : t.mode.current = .base) (hfrom : t.zheoc.haltOutFrom = none) (hfence : t.zheoc.fenced = false) :
    (s.settled t).outputs.haltOutA = (if t.outputs.haltOutA = .hiZ then .high else .low) ∧
      (s.settled t).outputs.haltOutB = (if t.outputs.haltOutB = .hiZ then .high else .low) := by
  rw [State.settled_haltOutA, State.settled_haltOutB, State.haltOut_base hclock hmode hfrom hfence]
  exact ⟨leave_low _, leave_low _⟩

theorem State.settled_haltOut_halt (hmode : t.mode.current = .halt) (hfrom : t.zheoc.haltOutFrom = none) (hfence : t.zheoc.fenced = false) :
    (s.settled t).outputs.haltOutA = .high ∧ (s.settled t).outputs.haltOutB = .high := by
  rw [State.settled_haltOutA, State.settled_haltOutB, State.haltOut_halt hclock hmode hfrom hfence]
  exact ⟨leave_high _, leave_high _⟩

/-- A unit that has just gone to STANDBY holds a low HALT_OUT low (R601). -/
theorem State.settled_haltOutA_standby {n : Nat} (hmode : t.mode.current = .standby) (huntil : t.zheoc.haltOutUntil = some n) (hn : t.now < n)
    (hlow : t.outputs.haltOutA = .low) : (s.settled t).outputs.haltOutA = .low := by
  rw [State.settled_haltOutA, State.haltOut_standby hclock hmode huntil hn, hlow]
  rfl

end

/-- The radio's lands of a fenced unit are Hi-Z, and so is its PPS (R592). -/
theorem State.settled_lands_fenced (s : State) {t : State} (hfence : t.zheoc.fenced = true) :
    (s.settled t).outputs.ppsOut = .hiZ ∧ (s.settled t).outputs.radio = .hiZ ∧ (s.settled t).outputs.paEnA = .hiZ ∧
      (s.settled t).outputs.paEnB = .hiZ := by
  have hquiet := State.radioDrives_fenced hfence
  rw [State.settled_radioLead, hquiet]
  exact ⟨State.settled_ppsOut_hiZ s hfence, leadNext_false _, State.settled_paEn_hiZ s hquiet⟩

/-! ### Counts of the recorder -/

theorem State.bank_of_milestone_eq {s t : State} (h : t.milestone = s.milestone) : t.bank = s.bank := by
  rw [State.bank, State.bank, h]

theorem State.count_milestoneEntry_self {s : State} {c : Nat} (h : s.bank.count c + 1 < 2 ^ 32) :
    (s.milestoneEntry c).bank.count c = s.bank.count c + 1 := by
  rw [State.milestoneEntry_counts h, State.bank_updBank, MilestoneBank.count_event, if_pos rfl]

theorem State.count_milestoneEntry_ne (s : State) {c k : Nat} (h : k ≠ c) : (s.milestoneEntry c).bank.count k = s.bank.count k := by
  unfold State.milestoneEntry
  extract_lets n
  split
  · rw [State.bank_updBank, MilestoneBank.count_event, if_neg h]
  · rw [State.bank_updBank, MilestoneBank.count_event, if_neg h]
    rfl

/-- The one class that a journal entry may count is 0x8E, live entries spilled. -/
theorem State.count_journal_ne (s : State) (d : JData) {k : Nat} (h : k ≠ 0x8E) : (s.journal d).bank.count k = s.bank.count k := by
  have hspill : ∀ (t : State) (l : List JEntry), (t.noteSpill l).bank.count k = t.bank.count k := by
    intro t l
    simp only [State.noteSpill]
    split
    · rfl
    · rw [State.count_milestoneEntry_ne _ h, State.bank_of_milestone_eq (State.nandWrite_milestone _ _ _ _)]
      rfl
  unfold State.journal
  split
  · rfl
  · exact hspill _ _

/-! ### A unit that gives way (R592, R593) -/

/-- A unit that gives way notes it (class 0x92) and begins its orderly save and reset. -/
def State.resetBegun (s : State) : State := (s.milestoneEntry 0x92).beginOrderly .resetRequest

theorem State.resetBegun_frame (s : State) : State.changesOnly [.milestone, .draws, .power, .store] s s.resetBegun :=
  ((s.milestoneEntry_frame 0x92).seq (State.beginOrderly_frame _ .resetRequest)).within (by decide)

theorem State.resetBegun_saving {s : State} (hsave : s.power.saving = none) (hmode : s.mode.current ≠ .holdup) :
    s.resetBegun.power.saving = some (.orderly .resetRequest) := by
  have hbegin : ¬ ((s.milestoneEntry 0x92).power.saving.isSome || decide ((s.milestoneEntry 0x92).mode.current = .holdup)) = true := by
    simp [hsave, hmode]
  rw [State.resetBegun, State.beginOrderly, if_neg hbegin]

theorem State.resetBegun_count {s : State} (h : s.bank.count 0x92 + 1 < 2 ^ 32) : s.resetBegun.bank.count 0x92 = s.bank.count 0x92 + 1 := by
  rw [← State.count_milestoneEntry_self h, State.resetBegun, State.bank_of_milestone_eq (State.beginOrderly_milestone _ _)]

/-! ### Health token, deposing, fence (R591, R592) -/

section
variable {s : State}

theorem healthTokenExpiry_due (hpair : s.inPair = true) (hact : s.zheoc.acting = true) (hlate : s.zheoc.token + ticksUs 500 ≤ s.now) :
    s.healthTokenExpiry = s.updZheoc (fun z => { z with stopped := true }) :=
  if_pos (by simp [hpair, hact, hlate])

theorem healthTokenExpiry_idle (h : s.inPair = false ∨ s.zheoc.acting = false ∨ s.now < s.zheoc.token + ticksUs 500) :
    s.healthTokenExpiry = s :=
  if_neg (by rcases h with h | h | h <;> simp [h])

theorem depose_due (hpair : s.inPair = true) (hact : s.zheoc.acting = true) (hstep : s.zheoc.pair = .inStep)
    (hlate : s.zheoc.beatAt + ticksMs 3 ≤ s.now) : s.depose = s.updZheoc (fun z => { z with deposed := true }) :=
  if_pos (by simp [hpair, hact, hstep, hlate])

theorem depose_idle (h : s.inPair = false ∨ s.zheoc.acting = false ∨ s.zheoc.pair ≠ .inStep ∨ s.now < s.zheoc.beatAt + ticksMs 3) :
    s.depose = s :=
  if_neg (by rcases h with h | h | h | h <;> simp [h])

theorem fence_idle (h : s.zheoc.deposed = false ∨ s.zheoc.fenced = true ∨ s.now < s.zheoc.beatAt + ticksUs 5500) : s.fence = s :=
  if_neg (by rcases h with h | h | h <;> simp [h])

/-- The fence acts: the unit's PPS output and transceivers are off. -/
def State.fencedOff (s : State) : State :=
  ({ s.updZheoc (fun z => { z with fenced := true }) with clk := { s.clk with ppsOut := false, ppsFallDue := none } } : State).updRadio
    (fun r => { r with on := false, txA := [], txB := [] })

theorem State.fencedOff_frame (s : State) : State.changesOnly [.zheoc, .clk, .radio] s s.fencedOff :=
  (((s.updZheoc_frame _).seq (only_clk _ _)).seq (State.updRadio_frame _ _)).within (by decide)

theorem fence_due (hdep : s.zheoc.deposed = true) (hfen : s.zheoc.fenced = false) (hlate : s.zheoc.beatAt + ticksUs 5500 ≤ s.now) :
    s.fence = s.fencedOff.resetBegun :=
  if_pos (by simp [hdep, hfen, hlate])

end

/-! ### The counts of failovers -/

/-- Two states agree on the two counts of failovers: the object, and the event class of the recorder. -/
def State.sameTally (s t : State) : Prop := t.reg Obj.failovers = s.reg Obj.failovers ∧ t.bank.count 0x91 = s.bank.count 0x91

section
variable {s t u : State}

theorem State.sameTally.trans (h : s.sameTally t) (g : t.sameTally u) : s.sameTally u := ⟨g.1.trans h.1, g.2.trans h.2⟩

theorem State.sameTally_of_eq (hdict : t.dict = s.dict) (hrec : t.milestone = s.milestone) : s.sameTally t :=
  ⟨regAt_of_dict_eq hdict _ _, congrArg (fun b : MilestoneBank => b.count 0x91) (State.bank_of_milestone_eq hrec)⟩

theorem State.sameTally_setReg (s : State) {o : ObjDesc} (v : Int) (h : regKey Obj.failovers 0 ≠ regKey o 0) : s.sameTally (s.setReg o v) :=
  ⟨regAt_setRegAt_ne s v h, rfl⟩

theorem State.sameTally_journal (s : State) (d : JData) : s.sameTally (s.journal d) :=
  ⟨regAt_journal_ne s d (by decide), s.count_journal_ne d (by decide)⟩

end

/-! ### A trigger to HALT at a base (R44, R50 to R52) -/

/-- What entry to HALT writes at a base, which has no sections, loops and axes. -/
def baseHaltParts : List Part := [.mode, .host, .store, .milestone, .draws, .dict, .fleet, .gate]

/-- What a trigger to HALT leaves of a base. -/
structure State.haltKeeps (s t : State) : Prop where
  frame : s.changesOnly baseHaltParts t
  role : t.mode.role = s.mode.role
  clockFail : t.mode.clockFail = s.mode.clockFail
  tally : s.sameTally t

theorem State.haltKeeps_refl (s : State) : s.haltKeeps s := ⟨changesOnly_refl _ s, rfl, rfl, rfl, rfl⟩

theorem State.haltKeeps.trans {s t u : State} (h : s.haltKeeps t) (g : t.haltKeeps u) : s.haltKeeps u where
  frame := (h.frame.seq g.frame).within (by decide)
  role := g.role.trans h.role
  clockFail := g.clockFail.trans h.clockFail
  tally := h.tally.trans g.tally

theorem State.noteHalt_mode (s : State) (c : HaltCause) :
    (s.noteHalt c).mode = { s.mode with haltCause := c, haltFlag := some c, haltAt := some s.now } := by
  rw [State.noteHalt, State.raiseIrq_mode, State.journal_mode]

theorem State.noteHalt_keeps (s : State) (c : HaltCause) : s.haltKeeps (s.noteHalt c) where
  frame := (((only_mode s _).seq (State.journal_frame _ _)).seq (State.raiseIrq_frame _ _)).within (by decide)
  role := by rw [State.noteHalt_mode]
  clockFail := by rw [State.noteHalt_mode]
  tally := State.sameTally_journal _ _

/-- HALT begins: held before is the mode that a release returns to. -/
def State.haltBegun (s : State) : State :=
  ({ s with mode := { s.mode with heldBeforeHalt := some (heldMode s.mode.current) } } : State).setMode .halt

/-- HALT is entered and its cause noted. -/
def State.haltNoted (s : State) (c : HaltCause) : State := s.haltBegun.noteHalt c

theorem State.haltNoted_mode (s : State) (c : HaltCause) :
    (s.haltNoted c).mode.current = .halt ∧ (s.haltNoted c).mode.haltCause = c ∧ (s.haltNoted c).mode.role = s.mode.role := by
  rw [State.haltNoted, State.noteHalt_mode]
  exact ⟨rfl, rfl, rfl⟩

theorem State.haltBegun_keeps (s : State) : s.haltKeeps s.haltBegun :=
  ⟨((only_mode s _).seq (State.setMode_frame _ .halt)).within (by decide), rfl, rfl, rfl, rfl⟩

theorem State.haltNoted_keeps (s : State) (c : HaltCause) : s.haltKeeps (s.haltNoted c) := s.haltBegun_keeps.trans (State.noteHalt_keeps _ c)

/-- The manager tells its workers of a stop, a worker its manager (R311). -/
def State.stopTold (s : State) (c : HaltCause) : State :=
  if s.isManager then s.sendAll (.stop s.ownIndex)
  else if s.isWorker && (decide (c = HaltCause.stopInput) || decide (c = HaltCause.modeRequest)) then s.sendLink 0 .stopRequest else s

theorem State.stopTold_frame (s : State) (c : HaltCause) : State.changesOnly [.fleet, .gate] s (s.stopTold c) :=
  changesOnly_ite (s.sendAll_frame _) (changesOnly_ite (s.sendLink_frame 0 _) (changesOnly_refl _ s))

theorem State.stopTold_keeps (s : State) (c : HaltCause) : s.haltKeeps (s.stopTold c) :=
  have hframe := s.stopTold_frame c
  have hmode := hframe .mode rfl
  ⟨hframe.within (by decide), by rw [hmode], by rw [hmode], State.sameTally_of_eq (hframe .dict rfl).symm (hframe .milestone rfl).symm⟩

/-- A release of the CK_IO cycle in which HALT is entered loses to it (R51). -/
def State.releaseLost (s : State) : State := if s.sameCycle s.mode.releasedAt then s.setReg Obj.releaseResult 7 else s

theorem State.releaseLost_mode (s : State) : s.releaseLost.mode = s.mode := by
  unfold State.releaseLost
  split <;> rfl

theorem State.releaseLost_keeps (s : State) : s.haltKeeps s.releaseLost := by
  unfold State.releaseLost
  split
  · exact ⟨(s.setReg_frame _ _).within (by decide), rfl, rfl, s.sameTally_setReg 7 (by decide)⟩
  · exact s.haltKeeps_refl

section
variable {s : State} {c : HaltCause}

theorem enterHalt_base (hrole : s.mode.role = some .base) (hsnap : s.mode.current ≠ .snapshot) :
    s.enterHalt c = ((s.haltNoted c).stopTold c).releaseLost := by
  unfold State.enterHalt
  extract_lets mode begun left noted held told
  have hleft : left = begun := if_neg hsnap
  have hnoted : noted = s.haltNoted c := congrArg (fun t : State => (t.setMode .halt).noteHalt c) hleft
  have hrover : noted.mode.role ≠ some .rover := by rw [hnoted, (s.haltNoted_mode c).2.2, hrole]; decide
  have hheld : held = s.haltNoted c := (if_neg hrover).trans hnoted
  exact congrArg (fun t : State => (t.stopTold c).releaseLost) hheld

theorem dropRequest_eq (hsnap : s.mode.current ≠ .snapshot) :
    s.dropRequest = s ∨ s.dropRequest = { s.setReg Obj.modeRequestResult 1 with mode := { s.mode with askedAt := none } } := by
  unfold State.dropRequest
  split
  · exact .inl rfl
  · exact .inr rfl

theorem dropRequest_keeps (hsnap : s.mode.current ≠ .snapshot) : s.haltKeeps s.dropRequest := by
  rcases dropRequest_eq hsnap with h | h <;> rw [h]
  · exact s.haltKeeps_refl
  · have htally : s.sameTally (s.setReg Obj.modeRequestResult 1) := s.sameTally_setReg 1 (by decide)
    exact ⟨((s.setReg_frame _ _).seq (only_mode _ _)).within (by decide), rfl, rfl, htally⟩

theorem dropRequest_current (hsnap : s.mode.current ≠ .snapshot) : s.dropRequest.mode.current = s.mode.current := by
  rcases dropRequest_eq hsnap with h | h <;> rw [h]

variable (hwait : s.resetWaits = false) (hperm : haltPermitted s.mode.current s.isWorker c = true)
include hwait hperm

/-- In HALT a trigger that the mode takes moves HaltCause (R50). -/
theorem haltTrigger_again (hhalt : s.mode.current = .halt) : s.haltTrigger c = s.noteHalt c := by
  rw [State.haltTrigger, if_neg (by simp [hwait, hperm]), if_pos hhalt]

/-- Elsewhere a trigger that is no ModeRequest enters HALT, and a ModeRequest of the cycle loses to it (R49). -/
theorem haltTrigger_enters (hrun : s.mode.current ≠ .halt) (hc : c ≠ .modeRequest) : s.haltTrigger c = s.dropRequest.enterHalt c := by
  rw [State.haltTrigger, if_neg (by simp [hwait, hperm]), if_neg hrun, decide_eq_false hc, if_neg Bool.false_ne_true]

/-- A base that a trigger takes to HALT. -/
theorem haltTrigger_base (hrole : s.mode.role = some .base) (hsnap : s.mode.current ≠ .snapshot) (hc : c ≠ .modeRequest) :
    s.haltKeeps (s.haltTrigger c) ∧ (s.haltTrigger c).mode.current = .halt ∧ (s.haltTrigger c).mode.haltCause = c := by
  by_cases hhalt : s.mode.current = .halt
  · rw [haltTrigger_again hwait hperm hhalt]
    exact ⟨s.noteHalt_keeps c, by rw [State.noteHalt_mode, hhalt], by rw [State.noteHalt_mode]⟩
  · have hdrop := dropRequest_keeps hsnap
    have hentry := enterHalt_base (s := s.dropRequest) (c := c) (hdrop.role.trans hrole) (by rw [dropRequest_current hsnap]; exact hsnap)
    obtain ⟨hcur, hcause, -⟩ := s.dropRequest.haltNoted_mode c
    rw [haltTrigger_enters hwait hperm hhalt hc, hentry, State.releaseLost_mode, ← State.stopTold_frame _ c .mode rfl]
    exact ⟨((hdrop.trans (State.haltNoted_keeps _ c)).trans (State.stopTold_keeps _ c)).trans (State.releaseLost_keeps _), hcur, hcause⟩

end

/-! ### A stop event and a stop input that is held (R356, R358) -/

theorem stopCopyOn_frame (s : State) (b : Bool) (e : StopEvent) : State.changesOnly [.crier, .radio] s (s.stopCopyOn b e) := by
  unfold State.stopCopyOn
  extract_lets map chan copy next e' t
  have hnext : s.changesOnly [.crier] t := s.updCrier_frame _
  refine changesOnly_ite ?_ ((hnext.seq (t.updCrier_frame _)).within (by decide))
  exact (((((hnext.seq (t.updRadio_frame _)).seq (State.updRadio_frame _ _)).seq (State.updRadio_frame _ _)).seq
    (State.updRadio_frame _ _))).within (by decide)

theorem stopCopyDue_frame (s : State) (b : Bool) : State.changesOnly [.crier, .radio] s (s.stopCopyDue b) := by
  unfold State.stopCopyDue
  split
  · exact changesOnly_refl _ s
  · exact changesOnly_ite (stopCopyOn_frame s b _) (changesOnly_refl _ s)

theorem stopCopy_frame (s : State) : State.changesOnly [.crier, .radio] s s.stopCopy :=
  changesOnly_ite (((stopCopyDue_frame s false).seq (stopCopyDue_frame _ true)).within (by decide)) (changesOnly_refl _ s)

/-- A stop event writes of the dictionary its number and the count of stops alone. -/
theorem stopEvent_frame (s : State) (cause origin : Nat) :
    State.changesOnly [.crier, .radio, .dict] s (s.stopEvent cause origin) ∧ s.sameTally (s.stopEvent cause origin) := by
  unfold State.stopEvent
  split
  · exact ⟨changesOnly_refl _ s, rfl, rfl⟩
  · extract_lets id e t
    have hnoted : s.changesOnly [.crier] t := s.updCrier_frame _
    have hcopy := stopCopy_frame ((t.setReg Obj.lastStopId id).incr Obj.stopsSent)
    refine ⟨(((hnoted.seq (t.setReg_frame _ _)).seq (State.incr_frame _ _)).seq hcopy).within (by decide), ?_⟩
    have hid : s.sameTally (t.setReg Obj.lastStopId id) := t.sameTally_setReg id (by decide)
    have hcount := (t.setReg Obj.lastStopId id).sameTally_setReg (o := Obj.stopsSent)
      (((t.setReg Obj.lastStopId id).regAt Obj.stopsSent 0 + (1 : Nat)) % (256 ^ Obj.stopsSent.size : Nat)) (by decide)
    exact (hid.trans hcount).trans (State.sameTally_of_eq (hcopy .dict rfl).symm (hcopy .milestone rfl).symm)

/-- What a held stop input adds to what entry to HALT writes. -/
def stopParts : List Part := baseHaltParts ++ [.crier, .radio]

section
variable {s : State}

theorem heldStop_clear (hA : s.crier.levelA = false) (hB : s.crier.levelB = false) : s.heldStop = s := by
  rw [State.heldStop, hA, hB]
  rfl

theorem heldStop_asserted (hlevel : s.crier.levelA = true ∨ s.crier.levelB = true) (hserv : s.mode.current ≠ .service) :
    s.heldStop = (s.haltTrigger .stopInput).stopEvent 1 s.ownIndex := by
  rw [State.heldStop, if_pos (by simpa using hlevel), State.stopAct, if_neg hserv]

/-- A base in BASE or HALT goes to HALT by a stop input that is held. -/
theorem heldStop_halts (hlevel : s.crier.levelA = true ∨ s.crier.levelB = true) (hwait : s.resetWaits = false)
    (hrole : s.mode.role = some .base) (hmode : s.mode.current = .base ∨ s.mode.current = .halt) :
    s.changesOnly stopParts s.heldStop ∧ s.sameTally s.heldStop ∧ s.heldStop.mode.current = .halt ∧
      s.heldStop.mode.haltCause = .stopInput ∧ s.heldStop.mode.clockFail = s.mode.clockFail := by
  have hperm : haltPermitted s.mode.current s.isWorker .stopInput = true := by
    rcases hmode with h | h <;> rw [h] <;> rfl
  have hserv : s.mode.current ≠ .service := by rcases hmode with h | h <;> rw [h] <;> decide
  have hsnap : s.mode.current ≠ .snapshot := by rcases hmode with h | h <;> rw [h] <;> decide
  obtain ⟨hkeeps, hcur, hcause⟩ := haltTrigger_base hwait hperm hrole hsnap (by decide)
  rw [heldStop_asserted hlevel hserv]
  obtain ⟨hframe, htally⟩ := stopEvent_frame (s.haltTrigger .stopInput) 1 s.ownIndex
  refine ⟨(hkeeps.frame.seq hframe).within (by decide), hkeeps.tally.trans htally, ?_⟩
  rw [← hframe .mode rfl]
  exact ⟨hcur, hcause, hkeeps.clockFail⟩

end

/-! ### The pair's identity at a new acting unit (R598) -/

theorem State.mapChans_frame (s : State) (f : Nat → Channel → Channel) : State.changesOnly [.gnss] s (s.mapChans f) :=
  changesOnly_foldl (fun (t : State) (e : Nat × Channel) => t.setChan_frame e.1 (f e.1 e.2)) s.gnss.channels s

@[simp] theorem State.mapChans_gate (s : State) (f : Nat → Channel → Channel) : (s.mapChans f).gate = s.gate := (s.mapChans_frame f .gate rfl).symm
@[simp] theorem State.mapChans_fleet (s : State) (f : Nat → Channel → Channel) : (s.mapChans f).fleet = s.fleet := (s.mapChans_frame f .fleet rfl).symm
@[simp] theorem State.mapChans_radio (s : State) (f : Nat → Channel → Channel) : (s.mapChans f).radio = s.radio := (s.mapChans_frame f .radio rfl).symm
@[simp] theorem State.mapChans_zheoc (s : State) (f : Nat → Channel → Channel) : (s.mapChans f).zheoc = s.zheoc := (s.mapChans_frame f .zheoc rfl).symm

theorem State.takeIdentity_frame (s : State) : State.changesOnly [.gate, .fleet, .radio, .gnss, .zheoc] s s.takeIdentity :=
  (((((s.updGate_frame _).seq (State.updFleet_frame _ _)).seq (State.updRadio_frame _ _)).seq (State.mapChans_frame _ _)).seq
    (State.updZheoc_frame _ _)).within (by decide)

section
variable (s : State)

theorem State.takeIdentity_linkSeq : s.takeIdentity.fleet.linkSeq = 0 := by
  simp [State.takeIdentity]

theorem State.takeIdentity_fseq : s.takeIdentity.radio.fseq = (s.radio.fseq + 256) % 65536 := by
  simp [State.takeIdentity]

theorem State.takeIdentity_linkEpoch {b : Beat} (hb : s.zheoc.partner = some b) : s.takeIdentity.gate.linkEpoch = (b.epoch + 1) % 2 ^ 32 := by
  simp [State.takeIdentity, hb]

theorem State.takeIdentity_fenced : s.takeIdentity.zheoc.fenced = s.zheoc.fenced := by
  simp [State.takeIdentity]

theorem State.takeIdentity_haltOutFrom : s.takeIdentity.zheoc.haltOutFrom = s.zheoc.haltOutFrom := by
  simp [State.takeIdentity]

end

/-! ### Role switch (R601) -/

/-- The acting unit at the boundary: in STANDBY, its radio off, HALT_OUT held for 1 us more. -/
def State.steppedDown (s : State) : State :=
  ((s.updZheoc (fun z => { z with switchAt := none, acting := false, haltOutUntil := some (s.now + 2000) })).updRadio
    (fun r => { r with on := false })).setMode .standby

/-- Its partner at the boundary: acting, in BASE. -/
def State.steppedUp (s : State) : State := (s.updZheoc (fun z => { z with switchAt := none })).takeIdentity.setMode .base

theorem State.steppedDown_frame (s : State) : State.changesOnly [.mode, .host, .zheoc, .radio] s s.steppedDown :=
  (((s.updZheoc_frame _).seq (State.updRadio_frame _ _)).seq (State.setMode_frame _ _)).within (by decide)

theorem State.steppedUp_frame (s : State) : State.changesOnly [.mode, .host, .zheoc, .gate, .fleet, .radio, .gnss] s s.steppedUp :=
  (((s.updZheoc_frame _).seq (State.takeIdentity_frame _)).seq (State.setMode_frame _ _)).within (by decide)

theorem State.steppedUp_mode (s : State) : s.steppedUp.mode = { s.mode with prev := s.mode.current, current := .base, transition := none } := by
  have htaken : (s.updZheoc (fun z => { z with switchAt := none })).takeIdentity.mode = s.mode := (State.takeIdentity_frame _ .mode rfl).symm
  rw [← htaken]
  rfl

section
variable {s : State}

theorem roleSwitch_idle (h : s.zheoc.switchAt = none ∨ ∃ n, s.zheoc.switchAt = some n ∧ s.time64 < n) : s.roleSwitch = s := by
  unfold State.roleSwitch
  rcases h with h | ⟨n, h, hearly⟩
  · rw [h]
  · rw [h]
    exact if_pos hearly

variable {n : Int} (hat : s.zheoc.switchAt = some n) (hdue : n ≤ s.time64)
include hat hdue

theorem roleSwitch_down (hmode : s.mode.current = .base) (hact : s.zheoc.acting = true) (htrans : s.mode.transition = some .standby) :
    s.roleSwitch = s.steppedDown := by
  unfold State.roleSwitch
  rw [hat]
  exact (if_neg (Int.not_lt.mpr hdue)).trans (if_pos ⟨hmode, hact, htrans⟩)

theorem roleSwitch_up (hmode : s.mode.current = .standby) (hpair : s.zheoc.pair = .inStep) : s.roleSwitch = s.steppedUp := by
  have hbase : s.mode.current ≠ .base := by rw [hmode]; decide
  unfold State.roleSwitch
  rw [hat]
  exact (if_neg (Int.not_lt.mpr hdue)).trans ((if_neg fun h => hbase h.1).trans (if_pos ⟨hmode, hpair⟩))

end

/-! ### Failover (R598) -/

/-- The partner's last heartbeat on either path. -/
def State.lastHeard (s : State) : Nat := max (s.zheoc.linkSeen.getD 0) (s.zheoc.pulseSeen.getD 0)

/-- The gap that the loss of both paths shows is kept. -/
def State.lossNoted (s : State) : State := s.raiseReg Obj.heartbeatGapMax (((s.now - s.lastHeard) / ticksUs 1 : Nat) : Int)

theorem State.lossNoted_frame (s : State) : State.changesOnly [.dict] s s.lossNoted := s.raiseReg_frame _ _

theorem State.lossNoted_tally (s : State) : s.sameTally s.lossNoted :=
  ⟨regAt_raiseReg_ne s _ (by decide), congrArg (fun b : MilestoneBank => b.count 0x91) (State.bank_of_milestone_eq (s.raiseReg_milestone _ _))⟩

/-- The unit has the pair's identity, no partner, and HALT_OUT held until 5.6 ms after th. -/
def State.takenOver (s : State) (th : Nat) : State :=
  s.takeIdentity.updZheoc (fun z => { z with pair := .noPartner, haltOutFrom := some (th + ticksUs 5600), switchAt := none })

theorem State.takenOver_frame (s : State) (th : Nat) : State.changesOnly [.gate, .fleet, .radio, .gnss, .zheoc] s (s.takenOver th) :=
  (s.takeIdentity_frame.seq (State.updZheoc_frame _ _)).within (by decide)

/-- The failover is counted. -/
def State.failoverCounted (s : State) : State := (s.incr Obj.failovers).milestoneEntry 0x91

/-- A heartbeat goes to each of the other bases. -/
def State.peersTold (s : State) (halted : Bool) : State := s.heartbeatPeers.foldl (fun t b => t.sendLink b (.heartbeat halted [])) s

/-- The failover is counted, and the other bases hear of it. -/
def State.failoverNoted (s : State) (halted : Bool) : State := s.failoverCounted.peersTold halted

/-- The unit goes on in HALT where the partner halted, else in BASE. -/
def State.modeTaken (s : State) (th : Nat) (halted : Bool) : State :=
  if halted then (s.takenOver th).haltTrigger .failover else (s.takenOver th).setMode .base

theorem failover_eq {s : State} {b : Beat} (hb : s.zheoc.partner = some b) (th : Nat) :
    s.failover th = ((s.modeTaken th (decide (b.mode = .halt))).failoverNoted (decide (b.mode = .halt))).heldStop := by
  unfold State.failover
  simp only [hb]
  rfl

/-- Messages to bases count on the sequence of the link; below its end they leave the epoch. -/
theorem foldl_sendLink (m : LinkMsg) (l : List Nat) (s : State) (h : s.fleet.linkSeq + l.length < 65536) :
    (l.foldl (fun t b => t.sendLink b m) s).fleet.linkSeq = s.fleet.linkSeq + l.length ∧
      (l.foldl (fun t b => t.sendLink b m) s).gate = s.gate := by
  induction l generalizing s with
  | nil => exact ⟨rfl, rfl⟩
  | cons b l ih =>
    have hlen : (b :: l).length = l.length + 1 := rfl
    have hwrap : ¬ decide (s.fleet.linkSeq = 65535) = true := by simp only [decide_eq_true_eq]; omega
    have hsent : s.sendLink b m =
        { s with fleet := { s.fleet with linkOut := s.fleet.linkOut ++ [(b, m)], linkSeq := (s.fleet.linkSeq + 1) % 65536 } } := if_neg hwrap
    have hseq : (s.sendLink b m).fleet.linkSeq = s.fleet.linkSeq + 1 := by
      rw [hsent]
      exact Nat.mod_eq_of_lt (by omega)
    obtain ⟨hlast, hgate⟩ := ih (s.sendLink b m) (by omega)
    refine ⟨hlast.trans (by omega), hgate.trans ?_⟩
    rw [hsent]

theorem State.heartbeatPeers_length_le (s : State) : s.heartbeatPeers.length ≤ 15 := by
  unfold State.heartbeatPeers
  split <;> simp

theorem State.heartbeatPeers_congr {s t : State} (hrole : t.mode.role = s.mode.role) (hboot : t.bootDict = s.bootDict) :
    t.heartbeatPeers = s.heartbeatPeers := by
  have hworker : t.isWorker = s.isWorker := by
    unfold State.isWorker State.bootReg State.bootRegAt
    rw [hrole, hboot]
  rw [State.heartbeatPeers, State.heartbeatPeers, hworker]

section
variable (s : State) (halted : Bool)

theorem State.failoverCounted_frame : State.changesOnly [.dict, .milestone, .draws] s s.failoverCounted :=
  (s.incr_frame _).seq (State.milestoneEntry_frame _ _)

theorem State.peersTold_frame : State.changesOnly [.fleet, .gate] s (s.peersTold halted) :=
  changesOnly_foldl (fun t b => t.sendLink_frame b (.heartbeat halted [])) _ s

theorem State.failoverNoted_frame : State.changesOnly [.dict, .milestone, .draws, .fleet, .gate] s (s.failoverNoted halted) :=
  s.failoverCounted_frame.seq (State.peersTold_frame _ halted)

theorem State.failoverNoted_reg : (s.failoverNoted halted).reg Obj.failovers = (s.reg Obj.failovers + 1) % 2 ^ 32 :=
  calc (s.failoverNoted halted).reg Obj.failovers
      = s.failoverCounted.reg Obj.failovers := regAt_of_dict_eq (s.failoverCounted.peersTold_frame halted .dict rfl).symm _ _
    _ = (s.incr Obj.failovers).reg Obj.failovers := regAt_of_dict_eq (State.milestoneEntry_dict _ _) _ _
    _ = (s.reg Obj.failovers + (1 : Nat)) % (256 ^ Obj.failovers.size : Nat) := regAt_setRegAt_self s _ _ _

theorem State.failoverNoted_count (h : s.bank.count 0x91 + 1 < 2 ^ 32) :
    (s.failoverNoted halted).bank.count 0x91 = s.bank.count 0x91 + 1 := by
  have hcounted : s.failoverCounted.bank.count 0x91 = s.bank.count 0x91 + 1 :=
    State.count_milestoneEntry_self (s := s.incr Obj.failovers) h
  rw [← hcounted, State.failoverNoted, State.bank_of_milestone_eq (s.failoverCounted.peersTold_frame halted .milestone rfl).symm]

/-- A link that has just begun a new epoch numbers one message for each of the other bases. -/
theorem State.failoverNoted_link (hnew : s.fleet.linkSeq = 0) :
    (s.failoverNoted halted).fleet.linkSeq = s.heartbeatPeers.length ∧ (s.failoverNoted halted).gate = s.gate := by
  have hframe := s.failoverCounted_frame
  have hpeers : s.failoverCounted.heartbeatPeers = s.heartbeatPeers :=
    State.heartbeatPeers_congr (by rw [← hframe .mode rfl]) (hframe .bootDict rfl).symm
  have hseq : s.failoverCounted.fleet.linkSeq = 0 := by rw [← hframe .fleet rfl, hnew]
  have hle := s.heartbeatPeers_length_le
  obtain ⟨hlast, hgate⟩ := foldl_sendLink (.heartbeat halted []) s.heartbeatPeers s.failoverCounted (by omega)
  rw [State.failoverNoted, State.peersTold, hpeers]
  exact ⟨by rw [hlast, hseq, Nat.zero_add], hgate.trans (hframe .gate rfl).symm⟩

end

theorem State.resetWaits_congr {s t : State} (hrun : t.running = s.running) (hpend : t.pending = s.pending) (hpow : t.power = s.power)
    (hboot : t.bootDict = s.bootDict) : t.resetWaits = s.resetWaits := by
  unfold State.resetWaits State.bootReg State.bootRegAt
  rw [hrun, hpend, hpow, hboot]

theorem State.running_of_mode_eq {s t : State} (h : t.mode = s.mode) : t.running = s.running := by
  rw [State.running, State.running, h]

/-- What a unit that takes over writes until its new mode stands. -/
def takeoverParts : List Part := [.zheoc, .radio, .gnss] ++ baseHaltParts

/-- A unit has taken over, in HALT or in BASE. -/
structure State.takesOver (s t : State) (th : Nat) (halted : Bool) : Prop where
  frame : s.changesOnly takeoverParts t
  zheoc : t.zheoc = (s.takenOver th).zheoc
  radio : t.radio = (s.takenOver th).radio
  role : t.mode.role = s.mode.role
  clockFail : t.mode.clockFail = s.mode.clockFail
  current : t.mode.current = if halted then .halt else .base
  cause : halted = true → t.mode.haltCause = .failover
  tally : s.sameTally t

section
variable {s : State} (th : Nat)

theorem State.takenOver_mode (s : State) : (s.takenOver th).mode = s.mode := (s.takenOver_frame th .mode rfl).symm

theorem State.takenOver_role (s : State) : (s.takenOver th).mode.role = s.mode.role := by rw [State.takenOver_mode]

theorem State.takenOver_clockFail (s : State) : (s.takenOver th).mode.clockFail = s.mode.clockFail := by rw [State.takenOver_mode]

theorem State.takenOver_current (s : State) : (s.takenOver th).mode.current = s.mode.current := by rw [State.takenOver_mode]

theorem State.takenOver_tally (s : State) : s.sameTally (s.takenOver th) :=
  State.sameTally_of_eq (s.takenOver_frame th .dict rfl).symm (s.takenOver_frame th .milestone rfl).symm

theorem modeTaken_base : s.takesOver (s.modeTaken th false) th false where
  frame := ((s.takenOver_frame th).seq (State.setMode_frame _ .base)).within (by decide)
  zheoc := rfl
  radio := rfl
  role := s.takenOver_role th
  clockFail := s.takenOver_clockFail th
  current := rfl
  cause := nofun
  tally := s.takenOver_tally th

variable (hrole : s.mode.role = some .base) (hmode : s.mode.current = .standby) (hwait : s.resetWaits = false)
include hrole hmode hwait

theorem modeTaken_halt : s.takesOver (s.modeTaken th true) th true := by
  have htaken := s.takenOver_frame th
  have hwait' : (s.takenOver th).resetWaits = false := by
    rw [State.resetWaits_congr (State.running_of_mode_eq (s.takenOver_mode th)) (htaken .pending rfl).symm (htaken .power rfl).symm
      (htaken .bootDict rfl).symm, hwait]
  have hcur : (s.takenOver th).mode.current = .standby := by rw [State.takenOver_current, hmode]
  have hsnap : (s.takenOver th).mode.current ≠ .snapshot := by rw [hcur]; decide
  obtain ⟨hkeeps, hhalt, hcause⟩ := haltTrigger_base (c := .failover) hwait' (by rw [hcur]; rfl) (by rw [State.takenOver_role, hrole]) hsnap
    (by decide)
  exact {
    frame := (htaken.seq hkeeps.frame).within (by decide)
    zheoc := (hkeeps.frame .zheoc rfl).symm
    radio := (hkeeps.frame .radio rfl).symm
    role := hkeeps.role.trans (s.takenOver_role th)
    clockFail := hkeeps.clockFail.trans (s.takenOver_clockFail th)
    current := hhalt
    cause := fun _ => hcause
    tally := (s.takenOver_tally th).trans hkeeps.tally }

theorem modeTaken_takesOver (halted : Bool) : s.takesOver (s.modeTaken th halted) th halted := by
  cases halted
  · exact modeTaken_base th
  · exact modeTaken_halt th hrole hmode hwait

end

/-- The unit before a stop input that is held acts: its mode taken, the failover counted, its peers told. -/
def State.failedOver (s : State) (th : Nat) (halted : Bool) : State := (s.modeTaken th halted).failoverNoted halted

theorem State.failedOver_mode (s : State) (th : Nat) (halted : Bool) : (s.failedOver th halted).mode = (s.modeTaken th halted).mode :=
  (State.failoverNoted_frame _ halted .mode rfl).symm

section
variable {s : State} {th : Nat} {halted : Bool} (htakes : s.takesOver (s.modeTaken th halted) th halted)
include htakes

theorem failedOver_frame : s.changesOnly takeoverParts (s.failedOver th halted) :=
  (htakes.frame.seq (State.failoverNoted_frame _ halted)).within (by decide)

theorem failedOver_zheoc : (s.failedOver th halted).zheoc = (s.takenOver th).zheoc :=
  (State.failoverNoted_frame _ halted .zheoc rfl).symm.trans htakes.zheoc

theorem failedOver_fseq : (s.failedOver th halted).radio.fseq = (s.radio.fseq + 256) % 65536 := by
  rw [State.failedOver, ← State.failoverNoted_frame _ halted .radio rfl, htakes.radio]
  exact s.takeIdentity_fseq

theorem failedOver_reg : (s.failedOver th halted).reg Obj.failovers = (s.reg Obj.failovers + 1) % 2 ^ 32 := by
  rw [State.failedOver, State.failoverNoted_reg, htakes.tally.1]

theorem failedOver_count (h : s.bank.count 0x91 + 1 < 2 ^ 32) : (s.failedOver th halted).bank.count 0x91 = s.bank.count 0x91 + 1 := by
  rw [State.failedOver, State.failoverNoted_count _ halted (by rw [htakes.tally.2]; exact h), htakes.tally.2]

theorem failedOver_current : (s.failedOver th halted).mode.current = .base ∨ (s.failedOver th halted).mode.current = .halt := by
  rw [State.failedOver_mode, htakes.current]
  cases halted
  · exact .inl rfl
  · exact .inr rfl

theorem failedOver_crier : (s.failedOver th halted).crier = s.crier := (failedOver_frame htakes .crier rfl).symm

/-- The new mode runs, so a reset that did not wait before does not wait now. -/
theorem failedOver_resetWaits (hrun : s.running = true) : (s.failedOver th halted).resetWaits = s.resetWaits := by
  have hframe := failedOver_frame htakes
  have hruns : (s.failedOver th halted).running = true := by
    rcases failedOver_current htakes with h | h <;> rw [State.running, h]
  exact State.resetWaits_congr (hruns.trans hrun.symm) (hframe .pending rfl).symm (hframe .power rfl).symm (hframe .bootDict rfl).symm

end

/-- In BASE the link of the new epoch carries one heartbeat to each of the other bases. -/
theorem failedOver_base_link {s : State} {b : Beat} (hb : s.zheoc.partner = some b) (th : Nat) :
    (s.failedOver th false).gate.linkEpoch = (b.epoch + 1) % 2 ^ 32 ∧ (s.failedOver th false).fleet.linkSeq = s.heartbeatPeers.length := by
  obtain ⟨hseq, hgate⟩ := State.failoverNoted_link (s.modeTaken th false) false s.takeIdentity_linkSeq
  have hpeers : (s.modeTaken th false).heartbeatPeers = s.heartbeatPeers :=
    State.heartbeatPeers_congr (s.takenOver_role th) (s.takenOver_frame th .bootDict rfl).symm
  rw [State.failedOver, hgate, hseq, hpeers]
  exact ⟨s.takeIdentity_linkEpoch hb, rfl⟩

theorem failedOver_base_frame (s : State) (th : Nat) :
    s.changesOnly [.mode, .host, .zheoc, .gate, .fleet, .radio, .gnss, .dict, .milestone, .draws] (s.failedOver th false) :=
  (((s.takenOver_frame th).seq (State.setMode_frame _ .base)).seq (State.failoverNoted_frame _ false)).within (by decide)

/-- A held stop input leaves of a base that runs what a failover is judged by. -/
theorem heldStop_keeps {s : State} (hwait : s.resetWaits = false) (hrole : s.mode.role = some .base)
    (hmode : s.mode.current = .base ∨ s.mode.current = .halt) :
    s.changesOnly stopParts s.heldStop ∧ s.sameTally s.heldStop ∧ (s.heldStop.mode.current = .base ∨ s.heldStop.mode.current = .halt) ∧
      s.heldStop.mode.clockFail = s.mode.clockFail := by
  by_cases hlevel : s.crier.levelA = true ∨ s.crier.levelB = true
  · obtain ⟨hframe, htally, hcur, -, hclock⟩ := heldStop_halts hlevel hwait hrole hmode
    exact ⟨hframe, htally, .inr hcur, hclock⟩
  · obtain ⟨hA, hB⟩ := not_or.mp hlevel
    rw [heldStop_clear (Bool.eq_false_iff.mpr hA) (Bool.eq_false_iff.mpr hB)]
    exact ⟨changesOnly_refl _ s, ⟨rfl, rfl⟩, hmode, rfl⟩

/-- What every failover leaves, whether a held stop input follows or not. -/
theorem failedOver_heldStop {s : State} {th : Nat} {halted : Bool} (htakes : s.takesOver (s.modeTaken th halted) th halted)
    (hrole : s.mode.role = some .base) (hrun : s.running = true) (hwait : s.resetWaits = false) (hcount : s.bank.count 0x91 + 1 < 2 ^ 32)
    {t : State} (ht : t = (s.failedOver th halted).heldStop) :
    t.zheoc = (s.takenOver th).zheoc ∧ t.reg Obj.failovers = (s.reg Obj.failovers + 1) % 2 ^ 32 ∧
      t.bank.count 0x91 = s.bank.count 0x91 + 1 ∧ (t.mode.current = .base ∨ t.mode.current = .halt) ∧ t.mode.clockFail = s.mode.clockFail := by
  have hrole' : (s.failedOver th halted).mode.role = some .base := by rw [State.failedOver_mode, htakes.role, hrole]
  have hclock' : (s.failedOver th halted).mode.clockFail = s.mode.clockFail := by rw [State.failedOver_mode, htakes.clockFail]
  obtain ⟨hframe, ⟨hreg, hbank⟩, hcur, hclock⟩ :=
    heldStop_keeps ((failedOver_resetWaits htakes hrun).trans hwait) hrole' (failedOver_current htakes)
  subst ht
  exact ⟨(hframe .zheoc rfl).symm.trans (failedOver_zheoc htakes), hreg.trans (failedOver_reg htakes),
    hbank.trans (failedOver_count htakes hcount), hcur, hclock.trans hclock'⟩

/-! ### Loss of the partner's heartbeat (R591, R598) -/

theorem inPair_role {s : State} (h : s.inPair = true) : s.mode.role = some .base := by
  simp only [State.inPair, Bool.and_eq_true, decide_eq_true_eq] at h
  exact h.1.2

section
variable {s : State}

theorem State.lossNoted_mode (s : State) : s.lossNoted.mode = s.mode := (s.lossNoted_frame .mode rfl).symm

theorem State.lossNoted_zheoc (s : State) : s.lossNoted.zheoc = s.zheoc := (s.lossNoted_frame .zheoc rfl).symm

theorem State.lossNoted_crier (s : State) : s.lossNoted.crier = s.crier := (s.lossNoted_frame .crier rfl).symm

theorem heartbeatLoss_idle (h : s.inPair = false ∨ s.operating = false ∨ s.linkLost = false ∨ s.landLost = false) : s.heartbeatLoss = s :=
  if_pos (by rcases h with h | h | h | h <;> simp [h])

theorem State.lossNoted_resetWaits (s : State) : s.lossNoted.resetWaits = s.resetWaits := by
  have hframe := s.lossNoted_frame
  exact State.resetWaits_congr (State.running_of_mode_eq s.lossNoted_mode) (hframe .pending rfl).symm (hframe .power rfl).symm
    (hframe .bootDict rfl).symm

variable (hpair : s.inPair = true) (hop : s.operating = true) (hlink : s.linkLost = true) (hland : s.landLost = true)
include hpair hop hlink hland

theorem heartbeatLoss_lost : s.heartbeatLoss =
    if s.mode.current = .standby ∧ s.zheoc.pair = .inStep then (if s.resetWaits then s.lossNoted else s.lossNoted.failover s.lastHeard)
    else s.lossNoted.updZheoc (fun z => { z with pair := .noPartner, hello := none, copied := false, equalRun := 0 }) := by
  rw [State.heartbeatLoss, if_neg (by simp [hpair, hop, hlink, hland])]
  extract_lets heard noted
  have hheard : heard = s.lastHeard := rfl
  have hnoted : noted = s.lossNoted := rfl
  rw [hnoted, hheard, s.lossNoted_resetWaits, s.lossNoted_mode, s.lossNoted_zheoc]

theorem heartbeatLoss_alone (h : s.zheoc.pair ≠ .inStep ∨ s.mode.current ≠ .standby) :
    s.heartbeatLoss = s.lossNoted.updZheoc (fun z => { z with pair := .noPartner, hello := none, copied := false, equalRun := 0 }) := by
  rw [heartbeatLoss_lost hpair hop hlink hland, if_neg (by rintro ⟨hmode, hstep⟩; simp [hmode, hstep] at h)]

variable (hmode : s.mode.current = .standby) (hstep : s.zheoc.pair = .inStep)
include hmode hstep

theorem heartbeatLoss_outranked (hwait : s.resetWaits = true) : s.heartbeatLoss = s.lossNoted := by
  rw [heartbeatLoss_lost hpair hop hlink hland, if_pos ⟨hmode, hstep⟩, if_pos hwait]

variable (hwait : s.resetWaits = false)
include hwait

omit hop hlink hland hstep in
theorem lossNoted_takesOver (th : Nat) (halted : Bool) : s.lossNoted.takesOver (s.lossNoted.modeTaken th halted) th halted :=
  modeTaken_takesOver th (by rw [s.lossNoted_mode, inPair_role hpair]) (by rw [s.lossNoted_mode, hmode])
    (by rw [s.lossNoted_resetWaits, hwait]) halted

variable {b : Beat} (hb : s.zheoc.partner = some b)
include hb

theorem heartbeatLoss_failover :
    s.heartbeatLoss = (s.lossNoted.failedOver s.lastHeard (decide (b.mode = .halt))).heldStop := by
  have hbeat : s.lossNoted.zheoc.partner = some b := by rw [s.lossNoted_zheoc, hb]
  rw [heartbeatLoss_lost hpair hop hlink hland, if_pos ⟨hmode, hstep⟩, if_neg (by rw [hwait]; decide), failover_eq hbeat]
  rfl

/-- What every failover leaves of the loss of the partner. -/
theorem heartbeatLoss_common (hcount : s.bank.count 0x91 + 1 < 2 ^ 32) :
    s.heartbeatLoss.zheoc = (s.lossNoted.takenOver s.lastHeard).zheoc ∧
      s.heartbeatLoss.reg Obj.failovers = (s.reg Obj.failovers + 1) % 2 ^ 32 ∧
      s.heartbeatLoss.bank.count 0x91 = s.bank.count 0x91 + 1 ∧
      (s.heartbeatLoss.mode.current = .base ∨ s.heartbeatLoss.mode.current = .halt) ∧
      s.heartbeatLoss.mode.clockFail = s.mode.clockFail := by
  have htakes := lossNoted_takesOver hpair hmode hwait s.lastHeard (decide (b.mode = .halt))
  have hrun : s.lossNoted.running = true := by rw [State.running, s.lossNoted_mode, hmode]
  obtain ⟨hreg, hbank⟩ := s.lossNoted_tally
  rw [← hreg, ← hbank, ← s.lossNoted_mode]
  exact failedOver_heldStop htakes (by rw [s.lossNoted_mode, inPair_role hpair]) hrun (by rw [s.lossNoted_resetWaits, hwait])
    (by rw [hbank]; exact hcount) (heartbeatLoss_failover hpair hop hlink hland hmode hstep hwait hb)

/-- With no stop input held the unit goes on in the partner's mode. -/
theorem heartbeatLoss_clear (hA : s.crier.levelA = false) (hB : s.crier.levelB = false) :
    s.heartbeatLoss = s.lossNoted.failedOver s.lastHeard (decide (b.mode = .halt)) := by
  have hcrier := (failedOver_crier (lossNoted_takesOver hpair hmode hwait s.lastHeard (decide (b.mode = .halt)))).trans s.lossNoted_crier
  rw [heartbeatLoss_failover hpair hop hlink hland hmode hstep hwait hb, heldStop_clear (by rw [hcrier, hA]) (by rw [hcrier, hB])]

/-- A stop input that is held takes the new acting unit to HALT by its own cause. -/
theorem heartbeatLoss_held (hlevel : s.crier.levelA = true ∨ s.crier.levelB = true) :
    s.heartbeatLoss.mode.current = .halt ∧ s.heartbeatLoss.mode.haltCause = .stopInput := by
  have htakes := lossNoted_takesOver hpair hmode hwait s.lastHeard (decide (b.mode = .halt))
  have hcrier := (failedOver_crier htakes).trans s.lossNoted_crier
  have hrun : s.lossNoted.running = true := by rw [State.running, s.lossNoted_mode, hmode]
  obtain ⟨-, -, hhalt, hcause, -⟩ := heldStop_halts (by rw [hcrier]; exact hlevel)
    ((failedOver_resetWaits htakes hrun).trans (by rw [s.lossNoted_resetWaits, hwait]))
    (by rw [State.failedOver_mode, htakes.role, s.lossNoted_mode, inPair_role hpair]) (failedOver_current htakes)
  rw [heartbeatLoss_failover hpair hop hlink hland hmode hstep hwait hb]
  exact ⟨hhalt, hcause⟩

/-- The partner ran: the unit is in BASE, and its link begins a new epoch. -/
theorem heartbeatLoss_base (hA : s.crier.levelA = false) (hB : s.crier.levelB = false) (hbase : b.mode ≠ .halt) :
    s.heartbeatLoss.mode.current = .base ∧ s.heartbeatLoss.gate.linkEpoch = (b.epoch + 1) % 2 ^ 32 ∧
      s.heartbeatLoss.fleet.linkSeq = s.heartbeatPeers.length ∧
      s.changesOnly [.mode, .host, .zheoc, .gate, .fleet, .radio, .gnss, .dict, .milestone, .draws] s.heartbeatLoss := by
  obtain ⟨hepoch, hseq⟩ := failedOver_base_link (s := s.lossNoted) (by rw [s.lossNoted_zheoc, hb]) s.lastHeard
  have hpeers := State.heartbeatPeers_congr (congrArg ModeState.role s.lossNoted_mode) (s.lossNoted_frame .bootDict rfl).symm
  rw [heartbeatLoss_clear hpair hop hlink hland hmode hstep hwait hb hA hB, decide_eq_false hbase]
  exact ⟨by rw [State.failedOver_mode]; rfl, hepoch, by rw [hseq, hpeers],
    (s.lossNoted_frame.seq (failedOver_base_frame _ _)).within (by decide)⟩

/-- The partner halted: the unit is in HALT by failover. -/
theorem heartbeatLoss_halt (hA : s.crier.levelA = false) (hB : s.crier.levelB = false) (hhalt : b.mode = .halt) :
    s.heartbeatLoss.mode.current = .halt ∧ s.heartbeatLoss.mode.haltCause = .failover := by
  have htakes := lossNoted_takesOver hpair hmode hwait s.lastHeard true
  rw [heartbeatLoss_clear hpair hop hlink hland hmode hstep hwait hb hA hB, decide_eq_true hhalt, State.failedOver_mode]
  exact ⟨htakes.current, htakes.cause rfl⟩

end

/-- Bits 2 and 3 of PairStatus show the two paths of the heartbeat (R591, R603). -/
theorem pairStatus_bits : ∀ a b c d e f g h : Bool,
    let n := flag a 0 + flag b 1 + flag c 2 + flag d 3 + flag e 4 + flag f 5 + flag g 6 + flag h 7
    n.testBit 2 = c ∧ n.testBit 3 = d := by
  decide

/-! ### HALT_OUT at a takeover (R598) -/

theorem haltOutTakeover_due {s : State} {n : Nat} (hfrom : s.zheoc.haltOutFrom = some n) (hdue : n ≤ s.now) :
    s.haltOutTakeover = s.updZheoc (fun z => { z with haltOutFrom := none }) :=
  if_pos (by rw [hfrom]; exact decide_eq_true hdue)

theorem haltOutTakeover_idle {s : State} (h : s.due s.zheoc.haltOutFrom = false) : s.haltOutTakeover = s :=
  if_neg (by rw [h]; decide)

/-! ### Arbitration in BOOT (R593) -/

/-- What a unit chooses that has listened. -/
def State.bootChoice (s : State) (low higher : Bool) : Mode :=
  match s.zheoc.partner with
  | some b => if b.mode = .base ∨ b.mode = .halt then .standby else if s.higherThan b.device then .standby else .base
  | none => match s.zheoc.hello with
    | some h => if s.higherThan h.device then .standby else .base
    | none => if s.pulseFound || (low && higher) then .standby else .base

section
variable {s : State} (low higher : Bool)

theorem bootChoice_beat {b : Beat} (hb : s.zheoc.partner = some b) : s.bootChoice low higher =
    if b.mode = .base ∨ b.mode = .halt ∨ beNat b.device < beNat s.deviceId then .standby else .base := by
  simp only [State.bootChoice, hb, State.higherThan, decide_eq_true_eq, ← or_assoc]
  by_cases hacts : b.mode = .base ∨ b.mode = .halt
  · rw [if_pos hacts, if_pos (.inl hacts)]
  · simp only [hacts, if_false, false_or]

theorem bootChoice_hello {h : Hello} (hb : s.zheoc.partner = none) (hh : s.zheoc.hello = some h) : s.bootChoice low higher =
    if beNat h.device < beNat s.deviceId then .standby else .base := by
  simp only [State.bootChoice, hb, hh, State.higherThan, decide_eq_true_eq]

theorem bootChoice_nothing (hb : s.zheoc.partner = none) (hh : s.zheoc.hello = none) : s.bootChoice low higher =
    if s.pulseFound = true ∨ (low = true ∧ higher = true) then .standby else .base := by
  simp only [State.bootChoice, hb, hh, Bool.or_eq_true, Bool.and_eq_true]

/-- The end of listening: 20 ms, or 30 ms where nothing was found. -/
def State.listenEnd (s : State) : Nat := s.gate.releasedAt + if s.partnerFound then 40000000 else 60000000

theorem listenEnd_eq (s : State) : s.gate.releasedAt + ticksMs (if s.partnerFound then 20 else 30) = s.listenEnd := by
  unfold State.listenEnd
  split <;> rfl

theorem partnerArbitration_chooses (hpair : s.inPair = true) (hboot : s.mode.current = .boot) (hnone : s.zheoc.choice = none)
    (hend : s.listenEnd ≤ s.now) :
    s.partnerArbitration low higher = s.updZheoc (fun z => { z with choice := some (s.bootChoice low higher) }) := by
  refine if_neg ?_
  rw [listenEnd_eq]
  simp [hpair, hboot, hnone, hend]

theorem partnerArbitration_idle (h : s.inPair = false ∨ s.mode.current ≠ .boot ∨ s.zheoc.choice.isSome = true ∨ s.now < s.listenEnd) :
    s.partnerArbitration low higher = s := by
  refine if_pos ?_
  rw [listenEnd_eq]
  rcases h with h | h | h | h
  · exact .inr (.inl h)
  · exact .inl h
  · exact .inr (.inr (.inl h))
  · exact .inr (.inr (.inr h))

end

/-! ### Two acting units (R593) -/

/-- A heartbeat on the link shows the partner in BASE. -/
def State.seesBase (s : State) : Bool :=
  match s.zheoc.partner with
  | none => false
  | some b => decide (b.mode = .base) && !s.linkLost

/-- The unit has the higher DEV_ID of the two. -/
def State.yields (s : State) (higher : Bool) : Bool :=
  match s.zheoc.partner with
  | none => higher
  | some b => s.higherThan b.device

section
variable {s : State} {pulse higher : Bool}

theorem seesBase_iff : s.seesBase = true ↔ ∃ b, s.zheoc.partner = some b ∧ b.mode = .base ∧ s.linkLost = false := by
  unfold State.seesBase
  cases s.zheoc.partner <;> simp

theorem dualActiveDetect_idle
    (h : s.inPair = false ∨ s.zheoc.acting = false ∨ s.mode.current ≠ .base ∨ ¬ (pulse = true ∨ s.seesBase = true)) :
    s.dualActiveDetect pulse higher = s := by
  have hidle : (!(s.inPair && s.zheoc.acting && decide (s.mode.current = .base) && (pulse || s.seesBase))) = true := by
    rcases h with h | h | h | h
    · simp [h]
    · simp [h]
    · simp [h]
    · obtain ⟨hpulse, hbase⟩ := not_or.mp h
      simp [hpulse, hbase]
  exact if_pos hidle

theorem dualActiveDetect_sees (hpair : s.inPair = true) (hact : s.zheoc.acting = true) (hmode : s.mode.current = .base)
    (hsave : s.power.saving = none) (hsees : pulse = true ∨ s.seesBase = true) :
    s.dualActiveDetect pulse higher = if s.yields higher then (s.updZheoc (fun z => { z with dualActive := true })).resetBegun
      else s.updZheoc (fun z => { z with dualActive := true }) := by
  have hgo : ¬ (!(s.inPair && s.zheoc.acting && decide (s.mode.current = .base) && (pulse || s.seesBase))) = true := by
    rw [hpair, hact, decide_eq_true hmode, Bool.or_eq_true_iff.mpr hsees]
    decide
  have hsaves : (s.yields higher && s.power.saving.isNone) = s.yields higher := by rw [hsave, Option.isNone_none, Bool.and_true]
  rw [← hsaves]
  exact if_neg hgo

end

end Sys2Proof.Machine

open Sys2Proof.Machine

/-- Settles O54: each command's effect is the lemma on it above; a takeover keeps its counts through the entry to HALT that may follow,
and the lands are read off the settled state's mode and its hold on HALT_OUT. -/
theorem failover : Obligations.Failover := by
  unfold Obligations.Failover
  refine ⟨?token, ?fence, ?fenceIdle, ?lost, ?lostElse, ?lossIdle, ?paths, ?takeover, ?takeoverIdle, ?arbitration, ?dual, ?switch,
    ?switchIdle⟩
  case token =>
    intro s
    refine ⟨fun hpair hact hlate => ?_, fun h => ?_, fun hpair hact hstep hlate => ?_, fun h => ?_⟩
    · rw [exec_healthTokenExpiry, healthTokenExpiry_due hpair hact hlate]
    · rw [exec_healthTokenExpiry, healthTokenExpiry_idle h]
    · rw [exec_depose, depose_due hpair hact hstep hlate]
    · rw [exec_depose, depose_idle h]
  case fence =>
    intro s hdep hfen hlate hsave hmode hcount
    have hbegun := s.fencedOff.resetBegun_frame
    have hfenced : s.fencedOff.resetBegun.zheoc = { s.zheoc with fenced := true } := (hbegun .zheoc rfl).symm
    refine ⟨s.fence, exec_fence s, ?_⟩
    rw [fence_due hdep hfen hlate]
    refine ⟨(s.fencedOff_frame.seq hbegun).within (by decide), hfenced, (hbegun .radio rfl).symm, State.resetBegun_saving hsave hmode,
      State.resetBegun_count hcount, fun hdrives hclock => ?lands⟩
    have hmode' : s.fencedOff.resetBegun.mode = s.mode := (hbegun .mode rfl).symm
    have hheld : s.fencedOff.resetBegun.zheoc.fenced = true := by rw [hfenced]
    obtain ⟨hA, hB⟩ := State.settled_haltOut_held s (by rw [hmode', hclock]) (by rw [hmode']; exact hdrives) (.inr hheld)
    exact ⟨hA, hB, State.settled_lands_fenced s hheld⟩
  case fenceIdle =>
    intro s h
    rw [exec_fence, fence_idle h]
  case lost =>
    intro s b hpair hop hlink hland hmode hstep hb hfen hclock hcount hwait th
    obtain ⟨hzheoc, hreg, hentries, hcur, hclk⟩ := heartbeatLoss_common hpair hop hlink hland hmode hstep hwait hb hcount
    have hfrom : s.heartbeatLoss.zheoc.haltOutFrom = some (th + 11200000) := by rw [hzheoc]; rfl
    obtain ⟨houtA, houtB⟩ := State.settled_haltOut_held s (by rw [hclk, hclock]) hcur (.inl (by rw [hfrom]; rfl))
    refine ⟨s.heartbeatLoss, exec_heartbeatLoss s, hreg, by rw [hzheoc]; rfl, hfrom, hentries, houtA, houtB, fun hA hB => ⟨?fseq, ?base, ?halt⟩,
      heartbeatLoss_held hpair hop hlink hland hmode hstep hwait hb⟩
    case fseq =>
      rw [heartbeatLoss_clear hpair hop hlink hland hmode hstep hwait hb hA hB,
        failedOver_fseq (lossNoted_takesOver hpair hmode hwait _ _), ← s.lossNoted_frame .radio rfl]
    case base => exact heartbeatLoss_base hpair hop hlink hland hmode hstep hwait hb hA hB
    case halt => exact heartbeatLoss_halt hpair hop hlink hland hmode hstep hwait hb hA hB
  case lostElse =>
    intro s hpair hop hlink hland
    refine ⟨fun hmode hstep hwait => ⟨s.heartbeatLoss, exec_heartbeatLoss s, ?_⟩, fun h => ⟨s.heartbeatLoss, exec_heartbeatLoss s, ?_⟩⟩
    · rw [heartbeatLoss_outranked hpair hop hlink hland hmode hstep hwait]
      exact s.lossNoted_frame
    · rw [heartbeatLoss_alone hpair hop hlink hland h]
      refine ⟨(s.lossNoted_frame.seq (State.updZheoc_frame _ _)).within (by decide), rfl, ?_⟩
      rw [State.updZheoc_zheoc, s.lossNoted_zheoc]
  case lossIdle =>
    intro s h
    rw [exec_heartbeatLoss, heartbeatLoss_idle h]
  case paths =>
    intro s
    refine ⟨decide_eq_true_iff, decide_eq_true_iff, fun hpair hop => ?_⟩
    have hbits := pairStatus_bits s.linkUp (s.linkUp && !(s.zheoc.lane0 && s.zheoc.lane1)) s.linkLost s.landLost s.zheoc.imageMismatch
      s.zheoc.keyMismatch s.zheoc.dualActive s.zheoc.acting
    simp only [State.pairStatus, hpair, hop, Bool.true_and]
    exact hbits
  case takeover =>
    intro s n hfrom hclock
    refine ⟨fun hdue => ⟨s.haltOutTakeover, exec_haltOutTakeover s, ?_⟩, fun hearly => ?_⟩
    · rw [haltOutTakeover_due hfrom hdue]
      exact ⟨s.updZheoc_frame _, rfl, fun hfen hmode => State.settled_haltOut_base s hclock hmode rfl hfen,
        fun hfen hmode => State.settled_haltOut_halt s hclock hmode rfl hfen⟩
    · rw [exec_haltOutTakeover, haltOutTakeover_idle]
      rw [hfrom]
      exact decide_eq_false (Nat.not_le.mpr hearly)
  case takeoverIdle =>
    intro s hfrom
    rw [exec_haltOutTakeover, haltOutTakeover_idle]
    rw [hfrom]
    rfl
  case arbitration =>
    intro s low higher
    refine ⟨fun hpair hboot hnone hend => ⟨s.partnerArbitration low higher, exec_partnerArbitration low higher s, ?_⟩, fun h => ?_⟩
    · rw [partnerArbitration_chooses low higher hpair hboot hnone hend]
      refine ⟨s.updZheoc_frame _, fun b hb => ?_, fun h hb hh => ?_, fun hb hh => ?_⟩
      · exact congrArg some (bootChoice_beat low higher hb)
      · exact congrArg some (bootChoice_hello low higher hb hh)
      · exact congrArg some (bootChoice_nothing low higher hb hh)
    · rw [exec_partnerArbitration, partnerArbitration_idle low higher h]
  case dual =>
    intro s pulse higher sees
    have hsees : (pulse = true ∨ s.seesBase = true) ↔ sees := or_congr Iff.rfl seesBase_iff
    refine ⟨fun hpair hact hmode hsave h => ⟨s.dualActiveDetect pulse higher, exec_dualActiveDetect pulse higher s, ?_⟩, fun h => ?_⟩
    · have hnoted := s.updZheoc_frame (fun z => { z with dualActive := true })
      rw [dualActiveDetect_sees hpair hact hmode hsave (hsees.mpr h)]
      by_cases hyields : s.yields higher = true
      · have hbegun := State.resetBegun_frame (s.updZheoc (fun z => { z with dualActive := true }))
        have hrun : s.mode.current ≠ .holdup := by rw [hmode]; decide
        rw [if_pos hyields]
        exact ⟨(hnoted.seq hbegun).within (by decide), (hbegun .zheoc rfl).symm, (if_pos hyields).mpr (State.resetBegun_saving hsave hrun)⟩
      · rw [if_neg hyields]
        exact ⟨hnoted.within (by decide), rfl, (if_neg hyields).mpr ⟨rfl, rfl⟩⟩
    · rw [exec_dualActiveDetect, dualActiveDetect_idle (by rw [hsees]; exact h)]
  case switch =>
    intro s n hat hdue hclock
    refine ⟨fun hmode hact htrans => ⟨s.roleSwitch, exec_roleSwitch s, ?_⟩,
      fun b hmode hstep hb hfen hfrom => ⟨s.roleSwitch, exec_roleSwitch s, ?_⟩⟩
    · rw [roleSwitch_down hat hdue hmode hact htrans]
      exact ⟨s.steppedDown_frame, rfl, hmode, rfl, rfl, rfl,
        State.settled_haltOutA_standby s (t := s.steppedDown) hclock rfl rfl (Nat.lt_add_of_pos_right (by decide))⟩
    · have hfen' : s.steppedUp.zheoc.fenced = false := (State.takeIdentity_fenced _).trans hfen
      have hfrom' : s.steppedUp.zheoc.haltOutFrom = none := (State.takeIdentity_haltOutFrom _).trans hfrom
      have hclock' : s.steppedUp.mode.clockFail = none := by rw [s.steppedUp_mode, hclock]
      obtain ⟨hA, -⟩ := State.settled_haltOut_base s hclock' (by rw [s.steppedUp_mode]) hfrom' hfen'
      rw [roleSwitch_up hat hdue hmode hstep]
      exact ⟨s.steppedUp_frame, by rw [s.steppedUp_mode], by rw [s.steppedUp_mode, hmode], rfl, State.takeIdentity_fseq _,
        State.takeIdentity_linkEpoch _ hb, by rw [hA, ← s.steppedUp_frame .outputs rfl]⟩
  case switchIdle =>
    intro s h
    rw [exec_roleSwitch, roleSwitch_idle h]
end
